-- ==== Sys2Proof/Word.lean ====
section
/-! DEFINITION. The word types of the node and their plainest arithmetic. -/

namespace Sys2Proof

/-- A register word: 32 bits wide at an address that is a multiple of 4 (R6). -/
abbrev Word := BitVec 32

/-- A byte of the storeroom or of a frame (R6). -/
abbrev Byte := BitVec 8

/-- The value `n` as a register word, taken modulo 2^32. -/
abbrev word (n : Nat) : Word := BitVec.ofNat 32 n

/-- The value `n` as a byte, taken modulo 2^8. -/
abbrev byte (n : Nat) : Byte := BitVec.ofNat 8 n

end Sys2Proof
end

