-- ==== Sys2Proof/Machine/Num.lean ====
section
/-! DEFINITION. Numbers: exact rationals for quantities of the field and of the clock, and IEEE 754 binary32 (Table 00-2)
by exact rational arithmetic rounded to nearest, ties to even. -/

namespace Sys2Proof.Machine

/-- An exact rational quantity `num / den` (a denominator of 0 reads as 1). -/
structure Q where
  num : Int
  den : Nat
deriving DecidableEq, Repr, Inhabited

/-- The denominator in use. -/
def Q.d (q : Q) : Nat := if q.den = 0 then 1 else q.den

/-- `n / d` in lowest terms; a zero denominator gives 0. -/
def Q.make (n : Int) (d : Nat) : Q :=
  if d = 0 then ⟨0, 1⟩ else ⟨n / (Nat.gcd n.natAbs d : Nat), d / Nat.gcd n.natAbs d⟩

def Q.ofInt (i : Int) : Q := ⟨i, 1⟩
def Q.ofNat (n : Nat) : Q := ⟨n, 1⟩
def Q.zero : Q := ⟨0, 1⟩
def Q.one : Q := ⟨1, 1⟩
/-- The positive fraction `n / d`. -/
def Q.frac (n d : Nat) : Q := Q.make n d
def Q.neg (a : Q) : Q := ⟨-a.num, a.d⟩
def Q.abs (a : Q) : Q := ⟨a.num.natAbs, a.d⟩
def Q.add (a b : Q) : Q := Q.make (a.num * b.d + b.num * a.d) (a.d * b.d)
def Q.sub (a b : Q) : Q := Q.make (a.num * b.d - b.num * a.d) (a.d * b.d)
def Q.mul (a b : Q) : Q := Q.make (a.num * b.num) (a.d * b.d)
/-- Quotient; division by zero gives 0. -/
def Q.div (a b : Q) : Q :=
  if b.num < 0 then Q.make (-(a.num * b.d)) (a.d * b.num.natAbs) else Q.make (a.num * b.d) (a.d * b.num.natAbs)
def Q.lt (a b : Q) : Bool := decide (a.num * b.d < b.num * a.d)
def Q.le (a b : Q) : Bool := decide (a.num * b.d ≤ b.num * a.d)
def Q.eq (a b : Q) : Bool := decide (a.num * b.d = b.num * a.d)
def Q.min (a b : Q) : Q := if Q.le a b then a else b
def Q.max (a b : Q) : Q := if Q.le a b then b else a
/-- `q` held within `[lo, hi]`. -/
def Q.clip (lo hi q : Q) : Q := Q.max lo (Q.min hi q)
/-- The largest integer at most `q`. -/
def Q.floor (q : Q) : Int := Int.fdiv q.num q.d
/-- Nearest integer, halves away from zero. -/
def Q.round (q : Q) : Int :=
  if q.num < 0 then -(((2 * q.num.natAbs + q.d) / (2 * q.d) : Nat) : Int) else ((2 * q.num.natAbs + q.d) / (2 * q.d) : Nat)
/-- The floor as a natural number, 0 below 0. -/
def Q.toNat (q : Q) : Nat := q.floor.toNat
def Q.pow (a : Q) : Nat → Q
  | 0 => Q.one
  | n + 1 => Q.mul (Q.pow a n) a
/-- 2^k for an integer k. -/
def Q.pow2 (k : Int) : Q := if k < 0 then ⟨1, 2 ^ k.natAbs⟩ else ⟨(2 ^ k.natAbs : Nat), 1⟩

/-- Division of naturals rounded to nearest, ties to even. -/
def divRne (n d : Nat) : Nat :=
  if d = 0 then 0
  else
    let q := n / d
    let r := n % d
    if 2 * r < d then q else if d < 2 * r then q + 1 else if q % 2 = 0 then q else q + 1

/-- The integer square root, by its binary digits. -/
def isqrtGo : Nat → Nat → Nat → Nat
  | 0, _, acc => acc
  | k + 1, n, acc =>
    let c := acc + 2 ^ k
    if c * c ≤ n then isqrtGo k n c else isqrtGo k n acc

/-- The largest natural whose square is at most `n`. -/
def isqrt (n : Nat) : Nat := isqrtGo (Nat.log2 n / 2 + 1) n 0

/-- The exponent of the leading binary digit of the positive rational `n / d`. -/
def lead2 (n d : Nat) : Int :=
  let k : Int := (Nat.log2 n : Int) - (Nat.log2 d : Int)
  let below : Bool := if k < 0 then decide (n * 2 ^ k.natAbs < d) else decide (n < d * 2 ^ k.natAbs)
  if below then k - 1 else k

/-- The magnitude bits of the positive rational `n / d` in binary32, rounded to nearest, ties to even. -/
def b32Mag (n d : Nat) : Nat :=
  if n = 0 ∨ d = 0 then 0
  else
    let e : Int := max (lead2 n d) (-126)
    let sh : Int := 23 - e
    let m := if sh < 0 then divRne n (d * 2 ^ sh.natAbs) else divRne (n * 2 ^ sh.natAbs) d
    Nat.min ((e + 126).toNat * 2 ^ 23 + m) 0x7F800000

/-- A rational as binary32, rounded to nearest, ties to even; zero is +0. -/
def toB32 (q : Q) : Word :=
  word ((if q.num < 0 then 0x80000000 else 0) + b32Mag q.num.natAbs q.d)

def b32NaN : Word := 0x7FC00000#32
def b32Sign (w : Word) : Bool := w.getLsbD 31
def b32Exp (w : Word) : Nat := (w.toNat / 2 ^ 23) % 256
def b32Frac (w : Word) : Nat := w.toNat % 2 ^ 23
def b32IsNaN (w : Word) : Bool := decide (b32Exp w = 255) && decide (b32Frac w ≠ 0)
def b32IsInf (w : Word) : Bool := decide (b32Exp w = 255) && decide (b32Frac w = 0)
def b32Finite (w : Word) : Bool := decide (b32Exp w ≠ 255)

/-- The value of a finite binary32 word; 0 for an infinity or NaN. -/
def ofB32 (w : Word) : Q :=
  if b32Exp w = 255 then Q.zero
  else
    let m : Nat := if b32Exp w = 0 then b32Frac w else b32Frac w + 2 ^ 23
    let e : Int := (Nat.max (b32Exp w) 1 : Int) - 150
    let q := Q.mul (Q.ofNat m) (Q.pow2 e)
    if b32Sign w then Q.neg q else q

/-- The value of a binary32 word where it is finite. -/
def b32Val? (w : Word) : Option Q := if b32Finite w then some (ofB32 w) else none

def b32Inf (neg : Bool) : Word := if neg then 0xFF800000#32 else 0x7F800000#32
def b32Zero (neg : Bool) : Word := if neg then 0x80000000#32 else 0#32
def b32IsZero (w : Word) : Bool := decide (w.toNat % 2 ^ 31 = 0)
def b32Neg (w : Word) : Word := w ^^^ 0x80000000#32
def b32Abs (w : Word) : Word := w &&& 0x7FFFFFFF#32

/-- IEEE 754 binary32 addition. -/
def b32Add (a b : Word) : Word :=
  if b32IsNaN a || b32IsNaN b then b32NaN
  else if b32IsInf a then (if b32IsInf b && (b32Sign a != b32Sign b) then b32NaN else a)
  else if b32IsInf b then b
  else if b32IsZero a && b32IsZero b then b32Zero (b32Sign a && b32Sign b)
  else toB32 (Q.add (ofB32 a) (ofB32 b))

def b32Sub (a b : Word) : Word := if b32IsNaN b then b32NaN else b32Add a (b32Neg b)

/-- IEEE 754 binary32 multiplication. -/
def b32Mul (a b : Word) : Word :=
  let sg := b32Sign a != b32Sign b
  if b32IsNaN a || b32IsNaN b then b32NaN
  else if b32IsInf a || b32IsInf b then (if b32IsZero a || b32IsZero b then b32NaN else b32Inf sg)
  else
    let q := Q.mul (ofB32 a) (ofB32 b)
    word ((if sg then 0x80000000 else 0) + b32Mag q.num.natAbs q.d)

/-- IEEE 754 binary32 division. -/
def b32Div (a b : Word) : Word :=
  let sg := b32Sign a != b32Sign b
  if b32IsNaN a || b32IsNaN b then b32NaN
  else if b32IsInf a then (if b32IsInf b then b32NaN else b32Inf sg)
  else if b32IsInf b then b32Zero sg
  else if b32IsZero b then (if b32IsZero a then b32NaN else b32Inf sg)
  else
    let q := Q.div (ofB32 a) (ofB32 b)
    word ((if sg then 0x80000000 else 0) + b32Mag q.num.natAbs q.d)

/-- IEEE 754 binary32 square root, rounded to nearest, ties to even. -/
def b32Sqrt (a : Word) : Word :=
  if b32IsNaN a then b32NaN
  else if b32IsZero a then a
  else if b32Sign a then b32NaN
  else if b32IsInf a then a
  else
    let q := ofB32 a
    -- 2^64 · q as n / d with an odd guard digit from the remainder: the root keeps more than 24 digits
    let n := q.num.natAbs * 2 ^ 200
    let r := isqrt (n / q.d)
    let sticky : Nat := if r * r * q.d = n then 0 else 1
    word (b32Mag (2 * r + sticky) (2 ^ 101))

/-- IEEE 754 `a < b`; false with a NaN. -/
def b32Lt (a b : Word) : Bool :=
  if b32IsNaN a || b32IsNaN b then false
  else if b32IsInf a then b32Sign a && !(b32IsInf b && b32Sign b)
  else if b32IsInf b then !b32Sign b
  else Q.lt (ofB32 a) (ofB32 b)

/-- IEEE 754 `a = b`; false with a NaN. -/
def b32Eq (a b : Word) : Bool :=
  if b32IsNaN a || b32IsNaN b then false
  else if b32IsZero a && b32IsZero b then true
  else decide (a = b)

def b32Le (a b : Word) : Bool := b32Lt a b || b32Eq a b

/-- Two's complement value of the low `n` bits of `v`. -/
def sext (n v : Nat) : Int := if v % 2 ^ n < 2 ^ (n - 1) then ((v % 2 ^ n : Nat) : Int) else ((v % 2 ^ n : Nat) : Int) - (2 ^ n : Nat)

/-- Low `n` bits of an integer, two's complement. -/
def uext (n : Nat) (i : Int) : Nat := (i % ((2 ^ n : Nat) : Int)).toNat

/-- An integer held within `[lo, hi]`. -/
def iclip (lo hi i : Int) : Int := if i < lo then lo else if hi < i then hi else i

/-- A natural held within `[lo, hi]`. -/
def nclip (lo hi n : Nat) : Nat := if n < lo then lo else if hi < n then hi else n

/-- A complex number in whole steps. -/
abbrev Cplx := Int × Int

/-- The samples of a record that are not 0, by position. -/
abbrev Samples := List (Nat × Cplx)

/-- Saturating addition at `top`. -/
def satAdd (top a b : Nat) : Nat := if top < a + b then top else a + b

end Sys2Proof.Machine
end

