-- ==== Sys2Proof/Syntax.lean ====
section
/-! DEFINITION. The commands of the node, one constructor per row of the opcode table, with the operands the world
supplies at the event: the instant, the channel, what was measured or received. -/

namespace Sys2Proof

open Sys2Proof.Machine

/-- A port of the node: the host port, or the trapdoor (R499). -/
inductive Port where
  | host
  | trapdoor
deriving DecidableEq, Repr

/-- What a static converter finds in a slot (R113–R126), as it reads it before its own constants are applied: V_m at the range in use; V_r
across Rref, or the sensed bridge excitation, and the range the node chooses for it; the balls SINP and SINN against AGND; the excitation
current; VSX; the converter temperature; a thermocouple that nothing but the node's bias ties; what the limiter does with a current that
R118 leaves open; the modulator overloaded or its handshake late. -/
structure SlotInput where
  vm : Q
  vr : Q
  vrange : Fin 8
  sinp : Q
  sinn : Q
  iexc : Q
  vsx : Q
  temp : Q
  floating : Bool
  limited : Bool
  overload : Bool
deriving DecidableEq, Repr

/-- What the slots of a calibration read (Table 05-5), before any constant is applied: the input at the mid reference in one polarity and in
the other, VREFA divided to 80 % of full scale on each range, VREFB on range 0, each in V; Rchk against Rref2 and Rref2 against Rref20, as
ratios; the converter temperature. -/
structure CalInput where
  pos : Q
  neg : Q
  gains : List Q
  vrefb : Q
  rchk : Q
  rref : Q
  temp : Q
deriving DecidableEq, Repr

/-- What a read of the storeroom finds by its code (R228): the addresses of words with one bit in error, and of words with two. -/
structure EccFinds where
  corrected : List Nat
  lost : List Nat
deriving DecidableEq, Repr

/-- A CAN frame on the bus (R403): format, identifier, DLC and data. -/
structure CanFrame where
  ide : Bool
  rtr : Bool
  fd : Bool
  brs : Bool
  id : Nat
  dlc : Nat
  data : List Byte
deriving DecidableEq, Repr

/-- What port A's wake detector meets while asleep (Table 16-4): dominant, recessive and dominant phases and their whole time in ns, with the
part's own filter time and window; a classical frame at a rate code; a decoding error. -/
inductive WakeSign where
  | pattern (dom rec again whole filt window : Nat)
  | frame (rate : Nat) (f : CanFrame)
  | error
deriving DecidableEq, Repr

/-- What a monitor pass measures (Table 20-1): completion times as a fraction of their bounds by domain; the sense margin as a fraction of its
way from the limit to the factory value, the most words corrected in a shelf, and the sample rows below their limit (shelf, row); the DO
drop against its factory value; the loops' least headroom in V; the dominant voltage and its factory value in V; the drift of the path
match in dB. -/
structure MonitorInput where
  completion : List Q
  sense : Q
  corrected : Nat
  weak : List (Nat × Nat)
  drop : Q
  headroom : Q
  dominant : Q
  dominant0 : Q
  gm : Q
deriving DecidableEq, Repr

/-- The commands of the block: one constructor a row of the opcode table. Every command carries first the instant `t` of its
event, in steps of 2^-24 s of the timebase (R8, R24), and then what the world supplies at it. A command that is the effect
of a posted write takes its address and value from the front of the write queue (R75). -/
inductive Instr where
  /-- START_UP (R34). -/
  | startUp (t ready : Nat) (tmode pfwLow vf18 : Bool) (fails : List (Nat × Nat))
  /-- PFW_HOLD_RELEASE (R39). -/
  | pfwHoldRelease (t : Nat)
  /-- POWER_FAIL_WARNING (R40). -/
  | powerFailWarning (t lock : Nat)
  /-- PFW_WITHDRAWN (R40). -/
  | pfwWithdrawn (t : Nat) (fails : List (Nat × Nat))
  /-- UNWARNED_LOSS (R41). -/
  | unwarnedLoss (t : Nat)
  /-- AVDD_LOST (R57). -/
  | avddLost (t : Nat)
  /-- AVDD_RESTORED (R172). -/
  | avddRestored (t : Nat)
  /-- CELLAR_STOP (R62). -/
  | cellarStop (t : Nat)
  /-- RD1 (R69). -/
  | rd1 (t : Nat) (port : Port) (addr n sckHz fabricNs : Nat) (ecc : EccFinds)
  /-- RD4 (R69). -/
  | rd4 (t : Nat) (addr n sckHz fabricNs : Nat) (ecc : EccFinds)
  /-- WR1 (R75). -/
  | wr1 (t : Nat) (port : Port) (addr : Nat) (data : List Byte) (ecc : EccFinds)
  /-- WR4 (R75). -/
  | wr4 (t : Nat) (addr : Nat) (data : List Byte) (ecc : EccFinds)
  /-- STAT (R71). -/
  | stat (t : Nat) (port : Port)
  /-- HRST (R77). -/
  | hrst (t : Nat)
  /-- UNDEFINED_OPCODE (R70). -/
  | undefinedOpcode (t : Nat) (port : Port) (opcode : Byte)
  /-- FRAME_ABORT (R77). -/
  | frameAbort (t : Nat) (port : Port) (addr : Nat) (data : List Byte) (ecc : EccFinds)
  /-- HELD_READ_COMPLETE (R72). -/
  | heldReadComplete (t : Nat) (port : Port) (ecc : EccFinds)
  /-- REGISTER_WRITE (R84). -/
  | registerWrite (t : Nat)
  /-- COMMIT (R85). -/
  | commit (t : Nat)
  /-- DISCARD (R88). -/
  | discard (t : Nat)
  /-- LOCK (R90). -/
  | lock (t : Nat)
  /-- UNLOCK (R90). -/
  | unlock (t : Nat)
  /-- JOIN (R89). -/
  | join (t : Nat)
  /-- CLAMP_NEXT (R87). -/
  | clampNext (t : Nat)
  /-- CLAMP_FLUSH (R87). -/
  | clampFlush (t : Nat)
  /-- PG_IRQ_SET (R93). -/
  | pgIrqSet (t : Nat)
  /-- HPI_CLR_ERR (R94). -/
  | hpiClrErr (t : Nat)
  /-- GC_GO (R89). -/
  | gcGo (t : Nat)
  /-- GC_ABANDON (R89). -/
  | gcAbandon (t : Nat)
  /-- TLY_GO (R95). -/
  | tlyGo (t : Nat) (port : Port)
  /-- TALLY_LAUNCH (R95). -/
  | tallyLaunch (t : Nat) (port : Port)
  /-- TALLY_START (R97). -/
  | tallyStart (t tally : Nat)
  /-- NOP (R98). -/
  | nop (t tally : Nat)
  /-- STO_COPY (R217). -/
  | stoCopy (t tally upto : Nat) (ecc : EccFinds)
  /-- STO_FILL (R217). -/
  | stoFill (t tally upto : Nat)
  /-- STO_VERIFY (R217). -/
  | stoVerify (t tally upto : Nat) (ecc : EccFinds)
  /-- STO_REKEY (R223). -/
  | stoRekey (t tally upto : Nat) (ecc : EccFinds)
  /-- BASE_LEARN (R207). -/
  | baseLearn (t tally : Nat)
  /-- LIM_DERIVE (R209). -/
  | limDerive (t tally : Nat) (ecc : EccFinds)
  /-- IMG_LOAD_PROGRAM (R302). -/
  | imgLoadProgram (t tally : Nat) (ecc : EccFinds)
  /-- IMG_LOAD_CONFIG (R495). -/
  | imgLoadConfig (t tally : Nat) (ecc : EccFinds)
  /-- IMG_LOAD_ALARM_TABLE (R299). -/
  | imgLoadAlarmTable (t tally : Nat) (ecc : EccFinds)
  /-- OLC (R329). -/
  | olc (t tally : Nat)
  /-- EVR_ERASE (R344). -/
  | evrErase (t tally crates : Nat)
  /-- CAL (R148). -/
  | cal (t tally : Nat)
  /-- SELFTEST (R471). -/
  | selftest (t tally failed : Nat)
  /-- INSTALL (R492). -/
  | install (t tally : Nat) (ecc : EccFinds)
  /-- REVOKE (R492). -/
  | revoke (t tally : Nat)
  /-- AES (R492). -/
  | aes (t tally : Nat) (ecc : EccFinds)
  /-- ADVANCE (R491). -/
  | advance (t tally : Nat)
  /-- MARGIN_PLAN (R478). -/
  | marginPlan (t tally : Nat)
  /-- UNDEFINED_OPERATION (R98). -/
  | undefinedOperation (t tally : Nat)
  /-- TALLY_COMPLETION (R99). -/
  | tallyCompletion (t tally : Nat)
  /-- TALLY_TIMEOUT (R100). -/
  | tallyTimeout (t tally : Nat)
  /-- TLY_CANCEL (R101). -/
  | tlyCancel (t : Nat)
  /-- TLY_CQ_POP (R103). -/
  | tlyCqPop (t : Nat)
  /-- CONVERTER_START (R139). -/
  | converterStart (t : Nat) (k : Fin 8)
  /-- MEASUREMENT_SLOT (R107). -/
  | measurementSlot (t : Nat) (ch : Fin 32) (m : SlotInput)
  /-- LEAD_SLOT (R115). -/
  | leadSlot (t : Nat) (ch : Fin 32) (vl : Q) (m : SlotInput)
  /-- EXCITATION_TEST_SLOT (R125). -/
  | excitationTestSlot (t : Nat) (ch : Fin 32) (sexc dvm : Q) (m : SlotInput)
  /-- SUPERVISOR_CHECK_SLOT (R109). -/
  | supervisorCheckSlot (t : Nat) (k : Fin 8) (safref term temp : Q)
  /-- STALE_FAULT (R137). -/
  | staleFault (t : Nat) (ch : Fin 32)
  /-- SC_TEST (R109). -/
  | scTest (t : Nat)
  /-- SC_FLIP (R135). -/
  | scFlip (t : Nat)
  /-- CAL_DUE (R152). -/
  | calDue (t : Nat) (k : Fin 8) (temp : Q)
  /-- CALIBRATION_START (R155). -/
  | calibrationStart (t : Nat) (k : Fin 8)
  /-- CALIBRATION_COMPLETE (R149). -/
  | calibrationComplete (t : Nat) (k : Fin 8) (m : CalInput)
  /-- CALIBRATION_TIMEOUT (R150). -/
  | calibrationTimeout (t : Nat) (k : Fin 8)
  /-- CAL_OVERDUE (R154). -/
  | calOverdue (t : Nat) (k : Fin 8)
  /-- DYN_SAMPLE (R170). -/
  | dynSample (t : Nat) (ch : Fin 16) (v0 v30 : Int) (gerr oerr : Q) (over30 clip cm : Bool)
  /-- BIAS_MONITOR (R162). -/
  | biasMonitor (t : Nat) (ch : Fin 16) (volts vsx : Q) (compliance : Bool)
  /-- OVERALL_LEVEL (R176). -/
  | overallLevel (t : Nat) (ch : Fin 16)
  /-- OVERALL_STALE (R177). -/
  | overallStale (t : Nat) (ch : Fin 16)
  /-- CHANNEL_SETTLED (R179). -/
  | channelSettled (t : Nat) (ch : Fin 16)
  /-- TACHO_EDGE (R183). -/
  | tachoEdge (t : Nat) (ch : Fin 16)
  /-- TACHO_DEADLINE (R183). -/
  | tachoDeadline (t : Nat) (ch : Fin 16)
  /-- RECORD_END (R188). -/
  | recordEnd (t : Nat) (ch : Fin 16) (ecc : EccFinds)
  /-- ZOOM_RECORD_END (R198). -/
  | zoomRecordEnd (t : Nat) (ch : Fin 16)
  /-- PLANE_COMMIT (R201). -/
  | planeCommit (t : Nat) (plane : Fin 64) (errs : List (Nat × Q)) (ecc : EccFinds)
  /-- PLANE_STALE (R205). -/
  | planeStale (t : Nat) (plane : Fin 64)
  /-- PLANE_COMMIT_OVERDUE (R205). -/
  | planeCommitOverdue (t : Nat) (plane : Fin 64)
  /-- RESTART (R200). -/
  | restart (t : Nat)
  /-- SCRUB_NOW (R229). -/
  | scrubNow (t : Nat)
  /-- SCRUB_PASS_END (R229). -/
  | scrubPassEnd (t : Nat) (ecc : EccFinds)
  /-- ROW_SPARE (R230). -/
  | rowSpare (t : Nat) (shelf : Fin 16) (ecc : EccFinds)
  /-- WEAR_MOVE (R231). -/
  | wearMove (t wear : Nat)
  /-- STO_CLR_ERR (R228). -/
  | stoClrErr (t : Nat)
  /-- NOTICE_CLEAR (R227). -/
  | noticeClear (t : Nat)
  /-- SCALAR_PASS (R233). -/
  | scalarPass (t : Nat) (vmain avdd vsx vbackup temp power : Q) (reev : Nat) (ecc : EccFinds)
  /-- SWEEP_START (R238). -/
  | sweepStart (t : Nat)
  /-- PLANE_EVALUATION (R240). -/
  | planeEvaluation (t reev : Nat) (ecc : EccFinds)
  /-- SWEEP_END (R239). -/
  | sweepEnd (t conflict shelf : Nat)
  /-- POINT_WINDOW_WRITE (R258). -/
  | pointWindowWrite (t : Nat)
  /-- POINT_FORCE (R246). -/
  | pointForce (t : Nat)
  /-- POINT_FORCE_RELEASE (R246). -/
  | pointForceRelease (t : Nat)
  /-- LATCH_RELEASE (R243). -/
  | latchRelease (t : Nat)
  /-- POINT_SIMULATE (R247). -/
  | pointSimulate (t : Nat)
  /-- SIMULATION_END (R247). -/
  | simulationEnd (t : Nat)
  /-- SPECTRAL_SIMULATION (R248). -/
  | spectralSimulation (t : Nat)
  /-- CLASS_RELEASE (R243). -/
  | classRelease (t : Nat)
  /-- PTE_CLR (R262). -/
  | pteClr (t : Nat)
  /-- POINT_CHANGE (R264). -/
  | pointChange (t : Nat) (ecc : EccFinds)
  /-- ACKNOWLEDGE_ENTRY (R283). -/
  | acknowledgeEntry (t : Nat)
  /-- ACKNOWLEDGE_GROUP (R282). -/
  | acknowledgeGroup (t : Nat)
  /-- ACKNOWLEDGE_ALL (R282). -/
  | acknowledgeAll (t : Nat)
  /-- RESET_ENTRY (R271). -/
  | resetEntry (t : Nat)
  /-- SHELVE_ENTRY (R274). -/
  | shelveEntry (t : Nat)
  /-- UNSHELVE_ENTRY (R273). -/
  | unshelveEntry (t : Nat)
  /-- TAKE_OUT_OF_SERVICE (R273). -/
  | takeOutOfService (t : Nat)
  /-- RETURN_TO_SERVICE (R273). -/
  | returnToService (t : Nat)
  /-- ACCEPT_CALL (R289). -/
  | acceptCall (t : Nat)
  /-- ARM_GROUP (R281). -/
  | armGroup (t : Nat)
  /-- ALH_CMD_NONE (R282). -/
  | alhCmdNone (t : Nat)
  /-- MODE_CHANGE (R275). -/
  | modeChange (t : Nat)
  /-- SUP_MODE_RELEASE (R275). -/
  | supModeRelease (t : Nat) (entry : Fin 16384)
  /-- DUTY_CHANGE (R285). -/
  | dutyChange (t : Nat)
  /-- SHELVE_EXPIRY (R274). -/
  | shelveExpiry (t : Nat) (slot : Fin 1024)
  /-- SUPPRESSION_HOLD_END (R276). -/
  | suppressionHoldEnd (t : Nat) (entry : Fin 16384)
  /-- PENDING_DECIDED (R278). -/
  | pendingDecided (t : Nat) (entry : Fin 16384)
  /-- FIRST_OUT_FINAL (R280). -/
  | firstOutFinal (t : Nat) (group : Fin 1024)
  /-- RUNG_DEADLINE (R287). -/
  | rungDeadline (t : Nat) (ladder : Fin 8)
  /-- CALL_REPEAT (R291). -/
  | callRepeat (t : Nat) (ladder : Fin 8)
  /-- STATUS_FRAME (R291). -/
  | statusFrame (t : Nat)
  /-- ANSWER_ACCEPT (R289). -/
  | answerAccept (t : Nat)
  /-- ANSWER_ACK_ENTRY (R283). -/
  | answerAckEntry (t : Nat)
  /-- ANSWER_ACK_GROUP (R291). -/
  | answerAckGroup (t : Nat)
  /-- ANSWER_ACK_CALL (R291). -/
  | answerAckCall (t : Nat)
  /-- ANSWER_TAKE_DUTY (R291). -/
  | answerTakeDuty (t : Nat)
  /-- ANSWER_RESET_ENTRY (R283). -/
  | answerResetEntry (t : Nat)
  /-- ALH_CLR (R291). -/
  | alhClr (t : Nat)
  /-- CYCLIC_RELEASE (R307). -/
  | cyclicRelease (t : Nat) (task : Fin 8)
  /-- EVENT_RELEASE (R308). -/
  | eventRelease (t : Nat) (task : Fin 8)
  /-- FBE_EV_TRIG (R307). -/
  | fbeEvTrig (t : Nat)
  /-- CYCLE_START (R313). -/
  | cycleStart (t : Nat) (ecc : EccFinds)
  /-- CYCLE_COMMIT (R313). -/
  | cycleCommit (t : Nat)
  /-- FORCE_SET (R327). -/
  | forceSet (t : Nat)
  /-- FORCE_RELEASE (R327). -/
  | forceRelease (t : Nat)
  /-- FORCE_RELEASE_ALL (R327). -/
  | forceReleaseAll (t : Nat)
  /-- OLC_PREPARED (R329). -/
  | olcPrepared (t : Nat)
  /-- SEAM (R329). -/
  | seam (t : Nat)
  /-- FBE_CLR (R310). -/
  | fbeClr (t : Nat)
  /-- EVR_TRIG_GO (R332). -/
  | evrTrigGo (t : Nat)
  /-- CRATE_CAPTURE (R335). -/
  | crateCapture (t : Nat) (ecc : EccFinds)
  /-- CRATE_WRITE (R337). -/
  | crateWrite (t : Nat)
  /-- LOSS_MARKER (R341). -/
  | lossMarker (t : Nat)
  /-- EVR_CLR (R346). -/
  | evrClr (t : Nat)
  /-- TIMEBASE_RECORD (R348). -/
  | timebaseRecord (t : Nat) (xratio : Int)
  /-- REFERENCE_STOPPED (R349). -/
  | referenceStopped (t : Nat)
  /-- OSC_STOP (R357). -/
  | oscStop (t : Nat)
  /-- TBS_SET (R353). -/
  | tbsSet (t : Nat)
  /-- TBS_ADJUST (R353). -/
  | tbsAdjust (t : Nat)
  /-- TBS_SET_CAL (R353). -/
  | tbsSetCal (t : Nat)
  /-- TIME_WRITE_APPLY (R353). -/
  | timeWriteApply (t : Nat)
  /-- TBS_HALT (R356). -/
  | tbsHalt (t : Nat)
  /-- TRIM_WRITE (R358). -/
  | trimWrite (t : Nat)
  /-- ALARM_FIRE (R364). -/
  | alarmFire (t : Nat) (b : Bool)
  /-- PERIODIC_EVENT (R366). -/
  | periodicEvent (t : Nat)
  /-- WEEKDAY_ADVANCE (R362). -/
  | weekdayAdvance (t : Nat)
  /-- TCOMP_UPDATE (R359). -/
  | tcompUpdate (t : Nat) (temp : Q)
  /-- CALENDAR_TOP (R352). -/
  | calendarTop (t : Nat)
  /-- DOWN_FRAME_A (R369). -/
  | downFrameA (t : Nat) (ok : Bool)
  /-- UP_FRAME_A (R370). -/
  | upFrameA (t : Nat) (ok : Bool) (seq rb : Nat)
  /-- LINK_A_LOST (R370). -/
  | linkALost (t : Nat)
  /-- ISLAND_A_DISARM (R371). -/
  | islandADisarm (t : Nat)
  /-- DI_INPUT_CHANGE (R375). -/
  | diInputChange (t : Nat) (ch : Fin 16) (mV rise fall : Int)
  /-- DEBOUNCED_EDGE (R375). -/
  | debouncedEdge (t : Nat) (ch : Fin 16)
  /-- WIRE_BREAK (R376). -/
  | wireBreak (t : Nat) (ch : Fin 16)
  /-- VFIELD_WARN (R379). -/
  | vfieldWarn (t mV : Nat)
  /-- VFIELD_OFF (R379). -/
  | vfieldOff (t mV : Nat)
  /-- VF18 (R377). -/
  | vf18 (t mV : Nat)
  /-- OUTPUT_TRIP (R378). -/
  | outputTrip (t : Nat) (line : Fin 8)
  /-- REARM (R377). -/
  | rearm (t : Nat)
  /-- THR_TEST (R374). -/
  | thrTest (t : Nat)
  /-- DO_SET (R380). -/
  | doSet (t : Nat)
  /-- DIO_CLR (R370). -/
  | dioClr (t : Nat)
  /-- DOWN_FRAME_B (R383). -/
  | downFrameB (t : Nat) (ok : Bool)
  /-- UP_FRAME_B (R383). -/
  | upFrameB (t : Nat) (ok : Bool) (seq carrier : Nat) (temp : Q) (rb hr : List Q)
  /-- LINK_B_LOST (R383). -/
  | linkBLost (t : Nat)
  /-- ISLAND_B_FAIL (R386). -/
  | islandBFail (t : Nat)
  /-- LOOP_POWER_CHANGE (R384). -/
  | loopPowerChange (t mV : Nat) (carries : Bool)
  /-- REGULATION_STEP (R391). -/
  | regulationStep (t : Nat)
  /-- COMPLIANCE_SET (R395). -/
  | complianceSet (t : Nat) (ch : Fin 4)
  /-- COMPLIANCE_CLEAR (R395). -/
  | complianceClear (t : Nat) (ch : Fin 4)
  /-- CLR_COMP (R396). -/
  | clrComp (t : Nat)
  /-- LOOP_SET (R389). -/
  | loopSet (t : Nat)
  /-- TX_GO (R398). -/
  | txGo (t : Nat)
  /-- FSK_TX_START (R398). -/
  | fskTxStart (t : Nat) (ch : Fin 4)
  /-- TX_DONE (R398). -/
  | txDone (t : Nat) (ch : Fin 4)
  /-- TX_ABORT (R398). -/
  | txAbort (t : Nat)
  /-- RX_FRAME (R399). -/
  | rxFrame (t : Nat) (ch : Fin 4) (stamp : Nat) (chars : List (Byte × Bool))
  /-- RX_REL (R399). -/
  | rxRel (t : Nat)
  /-- LPO_CLR (R401). -/
  | lpoClr (t : Nat)
  /-- CAN_FRAME_RECEIVED (R410). -/
  | canFrameReceived (t : Nat) (port : Fin 2) (stamp : Nat) (frame : CanFrame)
  /-- CAN_TX_START (R414). -/
  | canTxStart (t : Nat) (port : Fin 2) (tdcv : Nat)
  /-- CAN_TX_SUCCESS (R414). -/
  | canTxSuccess (t : Nat) (port : Fin 2)
  /-- ARBITRATION_LOST (R414). -/
  | arbitrationLost (t : Nat) (port : Fin 2)
  /-- CAN_ERROR (R420). -/
  | canError (t : Nat) (port : Fin 2) (lec : Nat) (dphase : Bool) (field : Nat) (free : Bool) (extra : Nat)
  /-- DOMINANT_TIMEOUT (R423). -/
  | dominantTimeout (t : Nat) (port : Fin 2)
  /-- SEND (R414). -/
  | send (t : Nat)
  /-- CANCEL (R417). -/
  | cancel (t : Nat)
  /-- OBJ_RELEASE (R410). -/
  | objRelease (t : Nat)
  /-- RESUME (R418). -/
  | resume (t : Nat)
  /-- RECOVER (R420). -/
  | recover (t : Nat)
  /-- RECOVERY_COMPLETE (R420). -/
  | recoveryComplete (t : Nat) (port : Fin 2)
  /-- SLEEP (R421). -/
  | sleep (t : Nat)
  /-- CAN_WAKE (R421). -/
  | canWake (t : Nat) (sign : WakeSign)
  /-- CAN_CLR (R420). -/
  | canClr (t : Nat)
  /-- PMB_RELEASE (R412). -/
  | pmbRelease (t : Nat)
  /-- REPLY_TIMEOUT (R419). -/
  | replyTimeout (t : Nat) (port : Fin 2) (object : Fin 128)
  /-- TIMING_APPLY (R408). -/
  | timingApply (t : Nat) (port : Fin 2)
  /-- PUT (R432). -/
  | put (t : Nat)
  /-- UPDATE (R432). -/
  | update (t : Nat)
  /-- FULL (R432). -/
  | full (t : Nat)
  /-- COPY_FRONT (R432). -/
  | copyFront (t : Nat)
  /-- PASS_START (R431). -/
  | passStart (t : Nat)
  /-- LINE_WRITTEN (R425). -/
  | lineWritten (t : Nat)
  /-- BAND_PASS (R434). -/
  | bandPass (t : Nat)
  /-- BLINK (R435). -/
  | blink (t : Nat)
  /-- IDLE_CRC_CHECK (R433). -/
  | idleCrcCheck (t : Nat) (upsets shadowUpsets : List (Nat × Byte))
  /-- PANEL_REWRITE (R437). -/
  | panelRewrite (t : Nat) (upsets : List (Nat × Byte))
  /-- RAMP_ADVANCE (R441). -/
  | rampAdvance (t : Nat)
  /-- TARGET_WRITE (R444). -/
  | targetWrite (t : Nat)
  /-- DEMAND_REPLAN (R445). -/
  | demandReplan (t : Nat)
  /-- DRIVER_FAULT (R444). -/
  | driverFault (t : Nat)
  /-- DRIVER_STOP (R444). -/
  | driverStop (t : Nat)
  /-- DSTOP_RELEASE (R444). -/
  | dstopRelease (t : Nat)
  /-- STPI_EDGE (R449). -/
  | stpiEdge (t : Nat) (dirHigh : Bool)
  /-- POSITION_COMMIT (R452). -/
  | positionCommit (t : Nat)
  /-- ACK_POS (R451). -/
  | ackPos (t : Nat)
  /-- SETPOS (R453). -/
  | setpos (t : Nat)
  /-- RMP_CLR (R446). -/
  | rmpClr (t : Nat)
  /-- DIAGNOSTIC_FAIL (R462). -/
  | diagnosticFail (t code detail : Nat)
  /-- DIAGNOSTIC_CLEAR (R462). -/
  | diagnosticClear (t code detail : Nat)
  /-- SAFETY_DEMAND (R460). -/
  | safetyDemand (t low : Nat)
  /-- DEMAND_CLEAR (R460). -/
  | demandClear (t high : Nat)
  /-- SAF_RELEASE (R459). -/
  | safRelease (t : Nat)
  /-- ALERT_CLR (R469). -/
  | alertClr (t : Nat)
  /-- SAF_ENTER (R454). -/
  | safEnter (t : Nat)
  /-- AUTO_SELFTEST (R472). -/
  | autoSelftest (t failed : Nat)
  /-- ST_DUE (R472). -/
  | stDue (t : Nat)
  /-- MONITOR_PASS (R475). -/
  | monitorPass (t : Nat) (m : MonitorInput)
  /-- PLAN_DUE (R478). -/
  | planDue (t : Nat)
  /-- PLAN (R479). -/
  | plan (t : Nat)
  /-- OFFSET_STEP_SETTLED (R479). -/
  | offsetStepSettled (t : Nat) (completion : Q)
  /-- RESET_OFS (R484). -/
  | resetOfs (t : Nat)
  /-- REQ_RUN (R485). -/
  | reqRun (t : Nat)
  /-- REQ_LEAN (R485). -/
  | reqLean (t : Nat)
  /-- REQ_DORMANT (R486). -/
  | reqDormant (t : Nat)
  /-- DORMANT_ENTRY (R486). -/
  | dormantEntry (t : Nat)
  /-- WAKE_FROM_DORMANT (R487). -/
  | wakeFromDormant (t : Nat)
  /-- TAMPER_EVENT (R496). -/
  | tamperEvent (t : Nat) (input : Fin 2) (live : Nat)
  /-- CHALLENGE (R497). -/
  | challenge (t : Nat)
  /-- SESSION_OPEN (R497). -/
  | sessionOpen (t : Nat)
  /-- SESSION_DECISION (R497). -/
  | sessionDecision (t : Nat)
  /-- SESSION_CLOSE (R498). -/
  | sessionClose (t : Nat)
  /-- SESSION_EXPIRY (R498). -/
  | sessionExpiry (t : Nat)
  /-- LOCKOUT_END (R498). -/
  | lockoutEnd (t : Nat)
  /-- NONCE_EXPIRY (R497). -/
  | nonceExpiry (t : Nat)
  /-- TDEN_RISING (R487). -/
  | tdenRising (t : Nat)
  /-- TRAPDOOR_SESSION_END (R498). -/
  | trapdoorSessionEnd (t : Nat)
  /-- SEC_ALERT_CLR (R502). -/
  | secAlertClr (t : Nat)
  /-- FBE_HALT (R501). -/
  | fbeHalt (t : Nat)
  /-- DEBUG_STEP (R501). -/
  | debugStep (t : Nat)
  /-- LINK_GO (R520). -/
  | linkGo (t : Nat)
  /-- LINK_TEST_START (R520). -/
  | linkTestStart (t : Nat)
  /-- LINK_STOP (R521). -/
  | linkStop (t sent : Nat) (flips : List Nat)
  /-- LINK_TEST_END (R521). -/
  | linkTestEnd (t sent : Nat) (flips : List Nat)
  /-- INS1 (R516). -/
  | ins1 (t sent : Nat) (flips : List Nat)
  /-- LNK_CLR (R521). -/
  | lnkClr (t : Nat)
  /-- HBUF_WRITE (R517). -/
  | hbufWrite (t : Nat)
  /-- HBUF_READ (R517). -/
  | hbufRead (t : Nat) (port : Port) (addr n : Nat)
  /-- REFERENCE_RETURN (R349). -/
  | referenceReturn (t : Nat)
  /-- X32_RESTART (R357). -/
  | x32Restart (t : Nat)
  /-- DFLT_RELEASE (R444). -/
  | dfltRelease (t : Nat)
  /-- INTEGRATION_COMPLETE (R408). -/
  | integrationComplete (t : Nat) (port : Fin 2)
  /-- VFIELD_RISE (R372). -/
  | vfieldRise (t mV : Nat)
  /-- ISLAND_SELF_CHECK_FAIL (R377). -/
  | islandSelfCheckFail (t : Nat)
  /-- PCOM_EDGE (R428). -/
  | pcomEdge (t : Nat)
deriving DecidableEq, Repr

end Sys2Proof
end

