-- ==== Sys2Proof/Decode.lean ====
section
/-! DEFINITION. The commands that a word spells by the bits of the opcode table. -/

namespace Sys2Proof

/-- The command that the word `w` of `nbits` bits spells by the opcode table: none, since the table gives no row any bits (its rows
are frames, effects of posted writes and events, and carry their operands beside them). -/
def decodeTableWord (_nbits _w : Nat) : Option Instr := none

end Sys2Proof
end

