-- ==== Sys2Proof/Machine/Program.lean ====
section
/-! DEFINITION. What a program image says (R303): tasks, bindings, symbols, instances, block parameters. -/

namespace Sys2Proof.Machine

open Sys2Proof

/-- A task table entry (Table 11-2). -/
structure ProgTask where
  kind : Nat
  prio : Nat
  period : Nat
  phase : Nat
  code : Nat
  codeLen : Nat
  diMask : Nat
  diEdge : Nat
  canObj : Nat
  canEn : Bool
deriving DecidableEq, Repr

def ProgTask.none : ProgTask :=
  { kind := 0, prio := 0, period := 0, phase := 0, code := 0, codeLen := 0, diMask := 0, diEdge := 0, canObj := 0, canEn := false }

/-- A binding (Table 11-3): its kind, task, direction, symbol and element, the byte offset of its word in the task's input or
output image, what it binds (channel, line, point, or port × 128 + object), and its words. -/
structure ProgBinding where
  kind : Nat
  task : Nat
  out : Bool
  sym : Nat
  word : Nat
  target : Nat
  words : Nat
deriving DecidableEq, Repr

/-- A symbol: identity, data type (0 BOOL, 1 DINT, 2 REAL), offset in the instance data (none for a binding), elements, the
tasks that bind or write it, and the initial values of its elements (Table 11-9). -/
structure ProgSymbol where
  ident : Nat
  dtype : Nat
  off : Option Nat
  count : Nat
  tasks : List Nat
  init : List Word
deriving DecidableEq, Repr

/-- An instance of the directory template: identity, block type (0xFF a variable block), layout version, offset and size of
its record, initial state. -/
structure ProgInst where
  ident : Nat
  type : Nat
  version : Nat
  off : Nat
  size : Nat
  init : List Byte
deriving DecidableEq, Repr

/-- One parameter of a block call: a constant, an instance word, or a word of the task's image. -/
inductive BlockArg where
  | const (w : Word)
  | inst (off : Nat)
  | image (off : Nat)
deriving DecidableEq, Repr

/-- The parameter list of a block call: its inputs and where its outputs go. -/
structure BlockParams where
  ins : List BlockArg
  outs : List BlockArg
deriving DecidableEq, Repr

/-- What the tables of a program image say beyond the layouts that the spec prints: bindings, symbols, instances, the parameter
lists by their offset, and the code offsets of the LDX and STX that address the instance data. -/
structure ProgTables where
  bindings : List ProgBinding
  symbols : List ProgSymbol
  insts : List ProgInst
  params : List (Nat × BlockParams)
  instIdx : List Nat
deriving DecidableEq, Repr

/-- A checked program image: its identity, tasks and tables, the instance data it requires, and per task the cost, the response bound
in steps of 50 ns, and the sizes of input and output image; U in 0.1 % (R311). -/
structure Program where
  imageId : Nat
  tasks : List ProgTask
  tables : ProgTables
  instBytes : Nat
  costs : List Nat
  resp : List Nat
  util : Nat
deriving DecidableEq, Repr

end Sys2Proof.Machine
end

