-- ==== Sys2Proof/Machine/RegTable.lean ====
section
/-! DEFINITION. The register tables of the spec, one `Field` a row: offset, number of instances and their stride, lowest
bit, width, access code (Table 00-4), Reset value, Clamp entry (R15), and whether the field keeps its value through every
power state (R14, R91 and the page's own rule). Bits of no field are reserved (R13). The tables are those named at each group.
-/

namespace Sys2Proof.Machine

/-- Access codes (Table 00-4). -/
inductive Access where
  | ro | rw | rws | w1c | wo
deriving DecidableEq, Repr

/-- A Clamp entry (R15, R86). `rng`, `srng` (two's complement): nearest end of a range. `frng`: binary32 range, a
non-finite value keeps the previous one. `fpos`, `fnonneg`: finite and above (not below) 0, else the previous value.
`mask`: bits outside are stored as 0. `ones`: these bits are stored as 1. `dep`: judged by the page's own function. -/
inductive Clamp where
  | any
  | rng (lo hi : Nat)
  | srng (lo hi : Int)
  | frng (lo hi : Word)
  | fpos
  | fnonneg
  | mask (m : Nat)
  | ones (m : Nat)
  | dep
deriving DecidableEq, Repr

/-- One field of a register table. -/
structure Field where
  off : Nat
  cnt : Nat
  stride : Nat
  lsb : Nat
  width : Nat
  acc : Access
  reset : Nat
  clamp : Clamp
  kept : Bool
deriving DecidableEq, Repr

/-- The page kinds of Table 03-3. -/
inductive Kind where
  | sys | hpi | tly | tbs | saf | age | sec | dbg | lnk | sac | cv | sc | dyn | dynCh | spx | spxPl | sto | pte | pteCl | alh | alhLd | fbe | fbeTk | evr | dio | lpo | lpoCh | can | canObj | pnl | rmp
deriving DecidableEq, Repr


-- Table 01-7
def R.SYS_ID_part : Field := ⟨0x40, 1, 0, 0, 16, .ro, 0x7256, .any, false⟩
def R.SYS_ID_grade : Field := ⟨0x40, 1, 0, 16, 4, .ro, 0x0, .any, false⟩
def R.SYS_ID_rev : Field := ⟨0x40, 1, 0, 20, 8, .ro, 0xb2, .any, false⟩

-- Table 01-8
def R.SYS_STATE_pstate : Field := ⟨0x44, 1, 0, 0, 3, .ro, 0x0, .any, false⟩
def R.SYS_STATE_life : Field := ⟨0x44, 1, 0, 4, 2, .ro, 0x0, .any, true⟩
def R.SYS_STATE_ready : Field := ⟨0x44, 1, 0, 8, 1, .ro, 0x0, .any, false⟩
def R.SYS_STATE_pfw : Field := ⟨0x44, 1, 0, 9, 1, .ro, 0x0, .any, false⟩
def R.SYS_STATE_dom_on : Field := ⟨0x44, 1, 0, 16, 12, .ro, 0x3, .any, false⟩

-- Table 01-9
def R.SYS_START_cause : Field := ⟨0x48, 1, 0, 0, 3, .ro, 0x0, .any, false⟩
def R.SYS_START_clean : Field := ⟨0x48, 1, 0, 3, 1, .ro, 0x0, .any, false⟩
def R.SYS_START_panel_rewrite : Field := ⟨0x48, 1, 0, 4, 1, .ro, 0x0, .any, false⟩
def R.SYS_START_pfw_hold : Field := ⟨0x48, 1, 0, 5, 1, .ro, 0x0, .any, false⟩

-- Table 01-10
def R.SYS_T_READY_t_ready : Field := ⟨0x4c, 1, 0, 0, 24, .ro, 0x0, .any, false⟩

-- Table 03-11
def R.HPI_CFG_turn : Field := ⟨0x40, 1, 0, 0, 5, .rw, 0x4, .rng 2 31, false⟩
def R.HPI_CFG_view : Field := ⟨0x40, 1, 0, 5, 1, .rw, 0x0, .any, false⟩
def R.HPI_STAT_wq_level : Field := ⟨0x44, 1, 0, 0, 5, .ro, 0x0, .any, false⟩
def R.HPI_ERR_wr_drop : Field := ⟨0x48, 1, 0, 0, 8, .ro, 0x0, .any, false⟩
def R.HPI_ERR_bad_op : Field := ⟨0x48, 1, 0, 8, 8, .ro, 0x0, .any, false⟩
def R.HPI_ERR_bad_addr : Field := ⟨0x48, 1, 0, 16, 8, .ro, 0x0, .any, false⟩
def R.HPI_ERR_burst_over : Field := ⟨0x48, 1, 0, 24, 8, .ro, 0x0, .any, false⟩
def R.HPI_CTRL_clr_err : Field := ⟨0x4c, 1, 0, 0, 1, .wo, 0x0, .any, false⟩
def R.HPI_CTRL_gc_go : Field := ⟨0x4c, 1, 0, 1, 1, .wo, 0x0, .any, false⟩
def R.HPI_CTRL_gc_abandon : Field := ⟨0x4c, 1, 0, 2, 1, .wo, 0x0, .any, false⟩
def R.HPI_GC_joined : Field := ⟨0x50, 1, 0, 0, 7, .ro, 0x0, .any, false⟩
def R.HPI_GC_busy : Field := ⟨0x50, 1, 0, 7, 1, .ro, 0x0, .any, false⟩
def R.HPI_GC_seq : Field := ⟨0x50, 1, 0, 8, 24, .ro, 0x0, .any, true⟩
def R.HPI_IRQ_BLK_blk : Field := ⟨0x54, 1, 0, 0, 23, .ro, 0x0, .any, false⟩
def R.HPI_IRQ_NEXT_base : Field := ⟨0x58, 1, 0, 0, 24, .ro, 0x0, .any, false⟩
def R.HPI_IRQ_NEXT_none : Field := ⟨0x58, 1, 0, 31, 1, .ro, 0x1, .any, false⟩
def R.HPI_LAST_CMT_LO_t_lo : Field := ⟨0x5c, 1, 0, 0, 32, .ro, 0x0, .any, false⟩
def R.HPI_LAST_CMT_HI_t_hi : Field := ⟨0x60, 1, 0, 0, 32, .ro, 0x0, .any, false⟩

-- Table 03-14
def R.TLY_OP_op : Field := ⟨0x40, 1, 0, 0, 8, .rw, 0x0, .dep, false⟩
def R.TLY_TMO_tmo : Field := ⟨0x44, 1, 0, 0, 16, .rw, 0x0, .any, false⟩
def R.TLY_ARG_arg : Field := ⟨0x48, 8, 0x4, 0, 32, .rw, 0x0, .any, false⟩
def R.TLY_GO_tally : Field := ⟨0x68, 1, 0, 0, 16, .ro, 0x0, .any, false⟩
def R.TLY_LAST_last : Field := ⟨0x6c, 1, 0, 0, 16, .ro, 0x0, .any, true⟩
def R.TLY_COUNT_outstanding : Field := ⟨0x70, 1, 0, 0, 7, .ro, 0x0, .any, false⟩
def R.TLY_COUNT_queued : Field := ⟨0x70, 1, 0, 16, 9, .ro, 0x0, .any, false⟩
def R.TLY_CQ0_tally : Field := ⟨0x74, 1, 0, 0, 16, .ro, 0x0, .any, false⟩
def R.TLY_CQ0_status : Field := ⟨0x74, 1, 0, 16, 8, .ro, 0x0, .any, false⟩
def R.TLY_CQ0_reason : Field := ⟨0x74, 1, 0, 24, 8, .ro, 0x0, .any, false⟩
def R.TLY_CQ1_result0 : Field := ⟨0x78, 1, 0, 0, 32, .ro, 0x0, .any, false⟩
def R.TLY_CQ2_result1 : Field := ⟨0x7c, 1, 0, 0, 32, .ro, 0x0, .any, false⟩
def R.TLY_CQ_POP_pop : Field := ⟨0x80, 1, 0, 0, 1, .wo, 0x0, .any, false⟩
def R.TLY_CANCEL_tally : Field := ⟨0x84, 1, 0, 0, 16, .rw, 0x0, .any, false⟩
def R.TLY_CANCEL_RES_res : Field := ⟨0x88, 1, 0, 0, 2, .ro, 0x0, .any, false⟩
def R.TLY_QUERY_tally : Field := ⟨0x8c, 1, 0, 0, 16, .rw, 0x0, .any, false⟩
def R.TLY_QSTATE_state : Field := ⟨0x90, 1, 0, 0, 2, .ro, 0x0, .any, false⟩
def R.TLY_QSTATE_progress : Field := ⟨0x90, 1, 0, 8, 8, .ro, 0x0, .any, false⟩

-- Table 04-9
def R.SAC_CTRL_cv_en : Field := ⟨0x40, 1, 0, 0, 8, .rws, 0x0, .any, false⟩
def R.SAC_UT_N0_n0 : Field := ⟨0x44, 1, 0, 0, 7, .rws, 0x0, .dep, false⟩
def R.SAC_UT_N0_n1 : Field := ⟨0x44, 1, 0, 8, 7, .rws, 0x0, .dep, false⟩
def R.SAC_UT_N0_n2 : Field := ⟨0x44, 1, 0, 16, 7, .rws, 0x0, .dep, false⟩
def R.SAC_UT_N0_n3 : Field := ⟨0x44, 1, 0, 24, 7, .rws, 0x0, .dep, false⟩
def R.SAC_UT_N1_n4 : Field := ⟨0x48, 1, 0, 0, 7, .rws, 0x0, .dep, false⟩
def R.SAC_UT_N1_n5 : Field := ⟨0x48, 1, 0, 8, 7, .rws, 0x0, .dep, false⟩
def R.SAC_UT_N1_n6 : Field := ⟨0x48, 1, 0, 16, 7, .rws, 0x0, .dep, false⟩
def R.SAC_UT_N1_n7 : Field := ⟨0x48, 1, 0, 24, 7, .rws, 0x0, .dep, false⟩
def R.SAC_STAT_ref_ok : Field := ⟨0x4c, 1, 0, 0, 1, .ro, 0x0, .any, false⟩
def R.SAC_STAT_avdd_ok : Field := ⟨0x4c, 1, 0, 1, 1, .ro, 0x0, .any, false⟩
def R.SAC_STAT_vsx_ok : Field := ⟨0x4c, 1, 0, 2, 1, .ro, 0x0, .any, false⟩

-- Table 04-10
def R.CV_RATE_odr : Field := ⟨0x40, 1, 0, 0, 3, .rws, 0x3, .any, false⟩
def R.CV_RATE_order : Field := ⟨0x40, 1, 0, 4, 1, .rws, 0x1, .any, false⟩
def R.CV_SCAN_t_dis : Field := ⟨0x44, 1, 0, 0, 6, .rws, 0x4, .rng 1 63, false⟩
def R.CV_SCAN_t_exc : Field := ⟨0x44, 1, 0, 8, 6, .rws, 0xa, .dep, false⟩
def R.CV_STAT_ch : Field := ⟨0x48, 1, 0, 0, 2, .ro, 0x0, .any, false⟩
def R.CV_STAT_phase : Field := ⟨0x48, 1, 0, 4, 3, .ro, 0x0, .any, false⟩
def R.CV_STAT_run : Field := ⟨0x48, 1, 0, 8, 1, .ro, 0x0, .any, false⟩
def R.CV_CYCLE_t_max : Field := ⟨0x4c, 1, 0, 0, 16, .ro, 0x0, .any, false⟩
def R.CV_CYCLE_slots : Field := ⟨0x4c, 1, 0, 16, 4, .ro, 0x0, .any, false⟩
def R.CV_CNT_count : Field := ⟨0x50, 1, 0, 0, 32, .ro, 0x0, .any, false⟩
def R.CV_DISC_disc : Field := ⟨0x54, 1, 0, 0, 16, .ro, 0x0, .any, false⟩

-- Table 04-11
def R.SC_MODE_mode : Field := ⟨0x40, 1, 0, 0, 4, .rws, 0x0, .dep, false⟩
def R.SC_MODE_range : Field := ⟨0x40, 1, 0, 4, 3, .rws, 0x0, .dep, false⟩
def R.SC_MODE_autorange : Field := ⟨0x40, 1, 0, 7, 1, .rws, 0x0, .any, false⟩
def R.SC_MODE_bias : Field := ⟨0x40, 1, 0, 8, 1, .rws, 0x0, .dep, false⟩
def R.SC_MODE_ne43 : Field := ⟨0x40, 1, 0, 9, 1, .rws, 0x0, .dep, false⟩
def R.SC_CURVE_curve : Field := ⟨0x44, 1, 0, 0, 6, .rws, 0x0, .dep, false⟩
def R.SC_CURVE_cj_src : Field := ⟨0x44, 1, 0, 8, 2, .rws, 0x0, .dep, false⟩
def R.SC_CURVE_cj_ch : Field := ⟨0x44, 1, 0, 10, 5, .rws, 0x0, .any, false⟩
def R.SC_CJ_FIX_t_cj : Field := ⟨0x48, 1, 0, 0, 32, .rws, 0x41c80000, .frng 0xC2480000#32 0x43160000#32, false⟩
def R.SC_EXC_vexc : Field := ⟨0x4c, 1, 0, 0, 3, .rws, 0x1, .rng 0 5, false⟩
def R.SC_EXC_rref : Field := ⟨0x4c, 1, 0, 4, 1, .rws, 0x0, .any, false⟩
def R.SC_EXC_rev : Field := ⟨0x4c, 1, 0, 5, 1, .rws, 0x0, .dep, false⟩
def R.SC_FILT_avg : Field := ⟨0x50, 1, 0, 0, 3, .rws, 0x0, .rng 0 6, false⟩
def R.SC_LEAD_every : Field := ⟨0x54, 1, 0, 0, 8, .rws, 0x10, .rng 1 255, false⟩
def R.SC_LEAD_lead_max : Field := ⟨0x54, 1, 0, 8, 8, .rws, 0x32, .rng 1 255, false⟩
def R.SC_RLEAD_r2w : Field := ⟨0x58, 1, 0, 0, 32, .rws, 0x0, .frng 0#32 0x447A0000#32, false⟩
def R.SC_STALE_tol : Field := ⟨0x5c, 1, 0, 0, 16, .rws, 0x3e8, .rng 50 65535, false⟩
def R.SC_AR_down_n : Field := ⟨0x60, 1, 0, 0, 8, .rws, 0x8, .rng 1 255, false⟩
def R.SC_DIAG_test_s : Field := ⟨0x64, 1, 0, 0, 12, .rws, 0x0, .rng 0 3600, false⟩
def R.SC_SCALE_X0_x0 : Field := ⟨0x68, 1, 0, 0, 32, .rws, 0x0, .dep, false⟩
def R.SC_SCALE_X1_x1 : Field := ⟨0x6c, 1, 0, 0, 32, .rws, 0x3f800000, .dep, false⟩
def R.SC_SCALE_Y0_y0 : Field := ⟨0x70, 1, 0, 0, 32, .rws, 0x0, .dep, false⟩
def R.SC_SCALE_Y1_y1 : Field := ⟨0x74, 1, 0, 0, 32, .rws, 0x3f800000, .dep, false⟩
def R.SC_CTRL_test : Field := ⟨0x78, 1, 0, 0, 1, .wo, 0x0, .any, false⟩
def R.SC_CTRL_flip : Field := ⟨0x78, 1, 0, 1, 1, .wo, 0x0, .any, false⟩
def R.SC_STAT_quality : Field := ⟨0x7c, 1, 0, 0, 2, .ro, 0x3, .any, true⟩
def R.SC_STAT_range : Field := ⟨0x7c, 1, 0, 4, 3, .ro, 0x0, .any, false⟩
def R.SC_STAT_settling : Field := ⟨0x7c, 1, 0, 7, 1, .ro, 0x0, .any, false⟩
def R.SC_STAT_left : Field := ⟨0x7c, 1, 0, 8, 8, .ro, 0x0, .any, false⟩
def R.SC_FAULT_faults : Field := ⟨0x80, 1, 0, 0, 13, .w1c, 0x0, .any, false⟩
def R.SC_LIVE_live : Field := ⟨0x84, 1, 0, 0, 13, .ro, 0x0, .any, false⟩
def R.SC_LIVE_quality : Field := ⟨0x84, 1, 0, 16, 2, .ro, 0x3, .any, true⟩
def R.SC_RAW_raw : Field := ⟨0x88, 1, 0, 0, 32, .ro, 0x0, .any, false⟩
def R.SC_LEADM_lead : Field := ⟨0x8c, 1, 0, 0, 32, .ro, 0x0, .any, false⟩
def R.SC_VCM_vcm : Field := ⟨0x90, 1, 0, 0, 32, .ro, 0x0, .any, false⟩
def R.SC_T_LO_t : Field := ⟨0x94, 1, 0, 0, 32, .ro, 0x0, .any, false⟩
def R.SC_T_HI_t : Field := ⟨0x98, 1, 0, 0, 32, .ro, 0x0, .any, false⟩

-- Table 05-7
def R.SAC_CAL_CFG_interval : Field := ⟨0x50, 1, 0, 0, 10, .rws, 0x18, .rng 1 720, false⟩
def R.SAC_CAL_CFG_dt_trig : Field := ⟨0x50, 1, 0, 16, 8, .rws, 0x14, .rng 5 200, false⟩
def R.SAC_CAL_CFG_auto : Field := ⟨0x50, 1, 0, 24, 8, .rws, 0xff, .any, false⟩
def R.SAC_CAL_CTRL_hold : Field := ⟨0x54, 1, 0, 0, 1, .rw, 0x0, .any, false⟩
def R.SAC_REF_ref_dev : Field := ⟨0x58, 1, 0, 0, 16, .ro, 0x0, .any, false⟩
def R.SAC_TERM_t_term : Field := ⟨0x5c, 1, 0, 0, 32, .ro, 0x0, .any, false⟩

-- Table 05-8
def R.CV_CAL_STAT_state : Field := ⟨0x58, 1, 0, 0, 2, .ro, 0x0, .any, false⟩
def R.CV_CAL_STAT_overdue : Field := ⟨0x58, 1, 0, 2, 1, .ro, 0x0, .any, false⟩
def R.CV_CAL_STAT_last_fail : Field := ⟨0x58, 1, 0, 3, 1, .ro, 0x0, .any, false⟩
def R.CV_CAL_STAT_reason : Field := ⟨0x58, 1, 0, 4, 4, .ro, 0x0, .any, false⟩
def R.CV_CAL_STAT_n_ok : Field := ⟨0x58, 1, 0, 8, 8, .ro, 0x0, .any, false⟩
def R.CV_CAL_STAT_eff_h : Field := ⟨0x58, 1, 0, 16, 10, .ro, 0x18, .any, true⟩
def R.CV_CAL_STAT_jump : Field := ⟨0x58, 1, 0, 31, 1, .w1c, 0x0, .any, false⟩
def R.CV_CAL_T_LO_t : Field := ⟨0x5c, 1, 0, 0, 32, .ro, 0x0, .any, false⟩
def R.CV_CAL_T_HI_t : Field := ⟨0x60, 1, 0, 0, 32, .ro, 0x0, .any, false⟩
def R.CV_CAL_TEMP_temp : Field := ⟨0x64, 1, 0, 0, 32, .ro, 0x0, .any, false⟩
def R.CV_DRIFT_d : Field := ⟨0x68, 1, 0, 0, 16, .ro, 0x0, .any, false⟩
def R.CV_CTEMP_temp_now : Field := ⟨0x6c, 1, 0, 0, 32, .ro, 0x0, .any, false⟩

-- Table 06-8
def R.DYN_COM_STAT_avdd_ok : Field := ⟨0x40, 1, 0, 0, 1, .ro, 0x0, .any, false⟩
def R.DYN_COM_STAT_vsx_ok : Field := ⟨0x40, 1, 0, 1, 1, .ro, 0x0, .any, false⟩
def R.DYN_COM_STAT_run : Field := ⟨0x40, 1, 0, 2, 1, .ro, 0x0, .any, false⟩
def R.DYN_IEPE_ma : Field := ⟨0x44, 1, 0, 0, 8, .ro, 0x0, .any, false⟩

-- Table 06-9
def R.DYN_MODE_mode : Field := ⟨0x40, 1, 0, 0, 2, .rws, 0x0, .any, false⟩
def R.DYN_MODE_iepe_ma : Field := ⟨0x40, 1, 0, 2, 2, .rws, 0x1, .rng 0 2, false⟩
def R.DYN_MODE_div : Field := ⟨0x40, 1, 0, 4, 3, .rws, 0x0, .dep, false⟩
def R.DYN_SENS_sens : Field := ⟨0x44, 1, 0, 0, 32, .rws, 0x3dcccccd, .frng 0x358637BD#32 0x42C80000#32, false⟩
def R.DYN_UNIT_sens : Field := ⟨0x48, 1, 0, 0, 2, .rws, 0x0, .any, false⟩
def R.DYN_UNIT_eu : Field := ⟨0x48, 1, 0, 2, 2, .rws, 0x0, .dep, false⟩
def R.DYN_BIAS_bias_lo : Field := ⟨0x4c, 1, 0, 0, 8, .rws, 0x14, .dep, false⟩
def R.DYN_BIAS_bias_hi : Field := ⟨0x4c, 1, 0, 8, 8, .rws, 0xb4, .rng 30 250, false⟩
def R.DYN_BIAS_t_bias : Field := ⟨0x4c, 1, 0, 16, 16, .rws, 0x3e8, .rng 100 60000, false⟩
def R.DYN_OVL_kind : Field := ⟨0x50, 1, 0, 0, 2, .rws, 0x0, .rng 0 2, false⟩
def R.DYN_OVL_t_upd : Field := ⟨0x50, 1, 0, 4, 8, .rws, 0xa, .rng 1 255, false⟩
def R.DYN_OVL_t_win : Field := ⟨0x50, 1, 0, 16, 12, .rws, 0x64, .dep, false⟩
def R.DYN_OVL_F_f_lo : Field := ⟨0x54, 1, 0, 0, 16, .rws, 0x64, .dep, false⟩
def R.DYN_OVL_F_f_hi : Field := ⟨0x54, 1, 0, 16, 16, .rws, 0x1f4, .dep, false⟩
def R.DYN_OVL_STALE_tol : Field := ⟨0x58, 1, 0, 0, 16, .rws, 0xbb8, .rng 100 65535, false⟩
def R.DYN_TACH_level : Field := ⟨0x5c, 1, 0, 0, 16, .rws, 0x0, .srng (-10000) 10000, false⟩
def R.DYN_TACH_hyst : Field := ⟨0x5c, 1, 0, 16, 8, .rws, 0x14, .rng 1 255, false⟩
def R.DYN_TACH_pol : Field := ⟨0x5c, 1, 0, 24, 1, .rws, 0x0, .any, false⟩
def R.DYN_TACH_PPR_ppr : Field := ⟨0x60, 1, 0, 0, 11, .rws, 0x1, .rng 1 1024, false⟩
def R.DYN_TACH_PPR_tol : Field := ⟨0x60, 1, 0, 16, 8, .rws, 0xa, .rng 1 50, false⟩
def R.DYN_TACH_RPM_rpm_min : Field := ⟨0x64, 1, 0, 0, 16, .rws, 0x64, .rng 1 65535, false⟩
def R.DYN_TACH_RPM_rpm_max : Field := ⟨0x64, 1, 0, 16, 16, .rws, 0xbb8, .dep, false⟩
def R.DYN_STAT_quality : Field := ⟨0x68, 1, 0, 0, 2, .ro, 0x3, .any, false⟩
def R.DYN_STAT_hg : Field := ⟨0x68, 1, 0, 4, 1, .ro, 0x0, .any, false⟩
def R.DYN_STAT_settling : Field := ⟨0x68, 1, 0, 5, 1, .ro, 0x0, .any, false⟩
def R.DYN_STAT_run : Field := ⟨0x68, 1, 0, 6, 1, .ro, 0x0, .any, false⟩
def R.DYN_STAT_tstate : Field := ⟨0x68, 1, 0, 8, 3, .ro, 0x0, .any, false⟩
def R.DYN_FAULT_faults : Field := ⟨0x6c, 1, 0, 0, 8, .w1c, 0x0, .any, false⟩
def R.DYN_LIVE_live : Field := ⟨0x70, 1, 0, 0, 8, .ro, 0x0, .any, false⟩
def R.DYN_WIDX_widx : Field := ⟨0x80, 1, 0, 0, 32, .ro, 0x0, .any, true⟩
def R.DYN_RUN_IDX_run_idx : Field := ⟨0x84, 1, 0, 0, 32, .ro, 0x0, .any, false⟩
def R.DYN_RUN_T_LO_t : Field := ⟨0x88, 1, 0, 0, 32, .ro, 0x0, .any, false⟩
def R.DYN_RUN_T_HI_t : Field := ⟨0x8c, 1, 0, 0, 32, .ro, 0x0, .any, false⟩
def R.DYN_BIAS_V_bias : Field := ⟨0x90, 1, 0, 0, 32, .ro, 0x0, .any, false⟩
def R.DYN_OVL_V_ovl : Field := ⟨0x94, 1, 0, 0, 32, .ro, 0x0, .any, false⟩
def R.DYN_SPEED_rpm : Field := ⟨0x98, 1, 0, 0, 32, .ro, 0x0, .any, false⟩
def R.DYN_EIDX_eidx : Field := ⟨0x9c, 1, 0, 0, 32, .ro, 0x0, .any, false⟩
def R.DYN_CLIPS_clips : Field := ⟨0xa0, 1, 0, 0, 32, .ro, 0x0, .any, false⟩
def R.DYN_GM_gm : Field := ⟨0xa4, 1, 0, 0, 16, .ro, 0x0, .any, false⟩

-- Table 07-7
def R.SPX_CTRL_en : Field := ⟨0x40, 1, 0, 0, 1, .rws, 0x0, .any, false⟩
def R.SPX_HOT_en : Field := ⟨0x44, 1, 0, 0, 1, .rws, 0x0, .dep, false⟩
def R.SPX_HOT_t_on : Field := ⟨0x44, 1, 0, 8, 8, .rws, 0x73, .rng 85 125, false⟩
def R.SPX_HOT_t_off : Field := ⟨0x44, 1, 0, 16, 8, .rws, 0x6e, .dep, false⟩
def R.SPX_LEARN_n_min : Field := ⟨0x48, 1, 0, 0, 16, .rws, 0x40, .rng 4 65535, false⟩
def R.SPX_LEARN_n_max : Field := ⟨0x48, 1, 0, 16, 16, .rws, 0x400, .dep, false⟩
def R.SPX_STAT_hot_rate : Field := ⟨0x4c, 1, 0, 0, 1, .ro, 0x0, .any, false⟩
def R.SPX_STAT_run : Field := ⟨0x4c, 1, 0, 1, 1, .ro, 0x0, .any, false⟩
def R.SPX_STAT_demand : Field := ⟨0x4c, 1, 0, 8, 8, .ro, 0x0, .any, false⟩
def R.SPX_STAT_late : Field := ⟨0x4c, 1, 0, 16, 16, .ro, 0x0, .any, false⟩

-- Table 07-8
def R.SPX_PL_CFG_en : Field := ⟨0x40, 1, 0, 0, 1, .rws, 0x0, .any, false⟩
def R.SPX_PL_CFG_win : Field := ⟨0x40, 1, 0, 1, 2, .rws, 0x1, .any, false⟩
def R.SPX_PL_CFG_scale : Field := ⟨0x40, 1, 0, 3, 1, .rws, 0x0, .any, false⟩
def R.SPX_PL_CFG_avg : Field := ⟨0x40, 1, 0, 4, 2, .rws, 0x0, .any, false⟩
def R.SPX_PL_CFG_k : Field := ⟨0x40, 1, 0, 6, 4, .rws, 0x0, .rng 0 8, false⟩
def R.SPX_PL_STALE_tol : Field := ⟨0x44, 1, 0, 0, 16, .rws, 0x1e, .dep, false⟩

-- Table 07-8
def R.SPX_PL_P0_ENV_f_lo : Field := ⟨0x48, 1, 0, 0, 16, .rws, 0x9c4, .dep, false⟩
def R.SPX_PL_P0_ENV_f_hi : Field := ⟨0x48, 1, 0, 16, 16, .rws, 0x2710, .dep, false⟩

-- Table 07-8
def R.SPX_PL_P0_ORD_tch : Field := ⟨0x48, 1, 0, 0, 4, .rws, 0x0, .any, false⟩
def R.SPX_PL_P0_ORD_s : Field := ⟨0x48, 1, 0, 8, 4, .rws, 0x9, .dep, false⟩
def R.SPX_PL_P0_ORD_b : Field := ⟨0x48, 1, 0, 16, 4, .rws, 0x3, .dep, false⟩

-- Table 07-8
def R.SPX_PL_P0_ZOOM_z : Field := ⟨0x48, 1, 0, 0, 4, .rws, 0x6, .rng 1 12, false⟩
def R.SPX_PL_P1_ZOOM_fc : Field := ⟨0x4c, 1, 0, 0, 32, .rws, 0x1e8480, .dep, false⟩

-- Table 07-8
def R.SPX_PL_CTRL_restart : Field := ⟨0x50, 1, 0, 0, 1, .wo, 0x0, .any, false⟩
def R.SPX_PL_STAT_quality : Field := ⟨0x54, 1, 0, 0, 2, .ro, 0x3, .any, false⟩
def R.SPX_PL_STAT_half : Field := ⟨0x54, 1, 0, 2, 1, .ro, 0x0, .any, true⟩
def R.SPX_PL_STAT_cause : Field := ⟨0x54, 1, 0, 4, 3, .ro, 0x1, .any, false⟩
def R.SPX_PL_STAT_settle : Field := ⟨0x54, 1, 0, 8, 8, .ro, 0x0, .any, false⟩
def R.SPX_PL_STAT_hot : Field := ⟨0x54, 1, 0, 16, 1, .ro, 0x0, .any, false⟩
def R.SPX_PL_SEQ_seq : Field := ⟨0x58, 1, 0, 0, 32, .ro, 0x0, .any, true⟩
def R.SPX_PL_T_LO_t : Field := ⟨0x5c, 1, 0, 0, 32, .ro, 0x0, .any, true⟩
def R.SPX_PL_T_HI_t : Field := ⟨0x60, 1, 0, 0, 32, .ro, 0x0, .any, true⟩
def R.SPX_PL_FIRST_first : Field := ⟨0x64, 1, 0, 0, 19, .ro, 0x0, .any, false⟩
def R.SPX_PL_LAST_last : Field := ⟨0x68, 1, 0, 0, 19, .ro, 0x0, .any, false⟩
def R.SPX_PL_DF_df : Field := ⟨0x6c, 1, 0, 0, 32, .ro, 0x0, .any, false⟩
def R.SPX_PL_F0_f0 : Field := ⟨0x70, 1, 0, 0, 32, .ro, 0x0, .any, false⟩
def R.SPX_PL_DROP_drop : Field := ⟨0x74, 1, 0, 0, 16, .ro, 0x0, .any, false⟩
def R.SPX_PL_RPM_rpm : Field := ⟨0x78, 1, 0, 0, 32, .ro, 0x0, .any, false⟩

-- Table 08-9
def R.STO_APER_BASE_base : Field := ⟨0x40, 1, 0, 20, 12, .rw, 0x500, .rng 0 4088, false⟩
def R.STO_SCRUB_period : Field := ⟨0x44, 1, 0, 0, 8, .rws, 0x18, .rng 1 168, false⟩
def R.STO_SCRUB_en : Field := ⟨0x44, 1, 0, 8, 1, .rws, 0x1, .any, false⟩
def R.STO_STAT_notice : Field := ⟨0x48, 1, 0, 0, 1, .ro, 0x0, .any, false⟩
def R.STO_STAT_rekey : Field := ⟨0x48, 1, 0, 1, 1, .ro, 0x0, .any, false⟩
def R.STO_STAT_partial : Field := ⟨0x48, 1, 0, 2, 1, .ro, 0x0, .any, true⟩
def R.STO_STAT_scrub : Field := ⟨0x48, 1, 0, 3, 1, .ro, 0x0, .any, false⟩
def R.STO_STAT_spare_low : Field := ⟨0x48, 1, 0, 4, 1, .ro, 0x0, .any, false⟩
def R.STO_STAT_eff_scrub : Field := ⟨0x48, 1, 0, 8, 8, .ro, 0x18, .any, false⟩
def R.STO_KEY_gen : Field := ⟨0x4c, 1, 0, 0, 16, .ro, 0x0, .any, true⟩
def R.STO_CONFLICT_ratio : Field := ⟨0x50, 1, 0, 0, 14, .ro, 0x0, .any, false⟩
def R.STO_CONFLICT_shelf : Field := ⟨0x50, 1, 0, 16, 4, .ro, 0x0, .any, false⟩
def R.STO_SLACK_slack : Field := ⟨0x54, 1, 0, 0, 14, .ro, 0x0, .any, false⟩
def R.STO_SLACK_sweep_max : Field := ⟨0x54, 1, 0, 16, 16, .ro, 0x0, .any, false⟩
def R.STO_ERR_corr : Field := ⟨0x58, 1, 0, 0, 16, .ro, 0x0, .any, true⟩
def R.STO_ERR_ue : Field := ⟨0x58, 1, 0, 16, 16, .ro, 0x0, .any, true⟩
def R.STO_UE_ADDR_addr : Field := ⟨0x5c, 1, 0, 0, 32, .ro, 0xffffffff, .any, true⟩
def R.STO_SPARE_left : Field := ⟨0x60, 1, 0, 0, 13, .ro, 0x1000, .any, true⟩
def R.STO_SPARE_shelf : Field := ⟨0x60, 1, 0, 16, 4, .ro, 0x0, .any, true⟩
def R.STO_WEAR_wear : Field := ⟨0x64, 1, 0, 0, 8, .ro, 0x0, .any, true⟩
def R.STO_CTRL_clr_err : Field := ⟨0x68, 1, 0, 0, 1, .wo, 0x0, .any, false⟩
def R.STO_CTRL_scrub_now : Field := ⟨0x68, 1, 0, 1, 1, .wo, 0x0, .any, false⟩
def R.STO_VERIFY_CNT_corr : Field := ⟨0x6c, 1, 0, 0, 32, .ro, 0x0, .any, false⟩

-- Table 09-8
def R.PTE_CTRL_sp_en : Field := ⟨0x40, 1, 0, 0, 1, .rws, 0x0, .any, false⟩
def R.PTE_CTRL_sc_en : Field := ⟨0x40, 1, 0, 1, 1, .rws, 0x0, .any, false⟩
def R.PTE_EVAL_period : Field := ⟨0x44, 1, 0, 0, 10, .rws, 0x80, .rng 0 1000, false⟩
def R.PTE_EVAL_eff_period : Field := ⟨0x44, 1, 0, 16, 10, .ro, 0x80, .any, true⟩
def R.PTE_WIN_BASE_base : Field := ⟨0x48, 1, 0, 22, 10, .rw, 0x110, .dep, false⟩
def R.PTE_WIN_LAST_point : Field := ⟨0x4c, 1, 0, 0, 26, .ro, 0x0, .any, false⟩
def R.PTE_STAT_sweeping : Field := ⟨0x50, 1, 0, 0, 1, .ro, 0x0, .any, false⟩
def R.PTE_STAT_late : Field := ⟨0x50, 1, 0, 1, 1, .ro, 0x0, .any, false⟩
def R.PTE_STAT_stall : Field := ⟨0x50, 1, 0, 2, 1, .ro, 0x0, .any, false⟩
def R.PTE_STAT_lane_over : Field := ⟨0x50, 1, 0, 3, 1, .ro, 0x0, .any, false⟩
def R.PTE_STAT_cq_full : Field := ⟨0x50, 1, 0, 4, 1, .ro, 0x0, .any, false⟩
def R.PTE_STAT_paused : Field := ⟨0x50, 1, 0, 5, 1, .ro, 0x0, .any, false⟩
def R.PTE_STAT_lane_due : Field := ⟨0x50, 1, 0, 8, 11, .ro, 0x0, .any, false⟩
def R.PTE_SKIP_skip : Field := ⟨0x54, 1, 0, 0, 32, .ro, 0x0, .any, true⟩
def R.PTE_SKIP_PL_plane : Field := ⟨0x58, 1, 0, 0, 6, .ro, 0x0, .any, false⟩
def R.PTE_SQUASH_CNT_squash : Field := ⟨0x5c, 1, 0, 0, 32, .ro, 0x0, .any, true⟩
def R.PTE_SQUASH_WHY_seen : Field := ⟨0x60, 1, 0, 0, 7, .w1c, 0x0, .any, false⟩
def R.PTE_SQUASH_WHY_last : Field := ⟨0x60, 1, 0, 8, 3, .ro, 0x0, .any, false⟩
def R.PTE_LATE_sweeps : Field := ⟨0x64, 1, 0, 0, 16, .ro, 0x0, .any, true⟩
def R.PTE_LATE_passes : Field := ⟨0x64, 1, 0, 16, 16, .ro, 0x0, .any, true⟩
def R.PTE_NFORCE_forced : Field := ⟨0x68, 1, 0, 0, 11, .ro, 0x0, .any, false⟩
def R.PTE_NFORCE_sim : Field := ⟨0x68, 1, 0, 16, 11, .ro, 0x0, .any, false⟩
def R.PTE_POISON_poison : Field := ⟨0x6c, 1, 0, 0, 16, .ro, 0x0, .any, true⟩
def R.PTE_CLR_clr : Field := ⟨0x70, 1, 0, 0, 1, .wo, 0x0, .any, false⟩
def R.PTE_SIM_SEL_entry : Field := ⟨0x74, 1, 0, 0, 6, .rw, 0x0, .any, false⟩
def R.PTE_SIM_PT_point : Field := ⟨0x78, 1, 0, 0, 25, .rw, 0x0, .any, false⟩
def R.PTE_SIM_PT_active : Field := ⟨0x78, 1, 0, 31, 1, .rw, 0x0, .dep, false⟩
def R.PTE_SIM_VAL_code : Field := ⟨0x7c, 1, 0, 0, 16, .rw, 0x0, .any, false⟩
def R.PTE_FRONTIER_point : Field := ⟨0x80, 1, 0, 0, 26, .ro, 0x0, .any, true⟩
def R.PTE_FRONTIER_idle : Field := ⟨0x80, 1, 0, 31, 1, .ro, 0x1, .any, true⟩
def R.PTE_SWEEP_seq : Field := ⟨0x84, 1, 0, 0, 32, .ro, 0x0, .any, true⟩
def R.PTE_SWEEP_T_LO_t : Field := ⟨0x88, 1, 0, 0, 32, .ro, 0x0, .any, true⟩
def R.PTE_SWEEP_T_HI_t : Field := ⟨0x8c, 1, 0, 0, 32, .ro, 0x0, .any, true⟩
def R.PTE_SWEEP_LEN_last : Field := ⟨0x90, 1, 0, 0, 16, .ro, 0x0, .any, true⟩
def R.PTE_SWEEP_LEN_max : Field := ⟨0x90, 1, 0, 16, 16, .ro, 0x0, .any, true⟩
def R.PTE_LANE_SEQ_seq : Field := ⟨0x94, 1, 0, 0, 32, .ro, 0x0, .any, true⟩
def R.PTE_LANE_T_LO_t : Field := ⟨0x98, 1, 0, 0, 32, .ro, 0x0, .any, true⟩
def R.PTE_LANE_T_HI_t : Field := ⟨0x9c, 1, 0, 0, 32, .ro, 0x0, .any, true⟩
def R.PTE_LANE_FRONT_scalar : Field := ⟨0xa0, 1, 0, 0, 16, .ro, 0x0, .any, true⟩
def R.PTE_LANE_FRONT_idle : Field := ⟨0xa0, 1, 0, 31, 1, .ro, 0x1, .any, true⟩
def R.PTE_NWARN_warn : Field := ⟨0xa4, 1, 0, 0, 26, .ro, 0x0, .any, true⟩
def R.PTE_NALARM_alarm : Field := ⟨0xa8, 1, 0, 0, 26, .ro, 0x0, .any, true⟩
def R.PTE_NBAD_bad : Field := ⟨0xac, 1, 0, 0, 26, .ro, 0x0, .any, true⟩

-- Table 09-9
def R.PTE_CL_CFG_en : Field := ⟨0x40, 1, 0, 0, 1, .rws, 0x1, .any, false⟩
def R.PTE_CL_CFG_latch : Field := ⟨0x40, 1, 0, 1, 1, .rws, 0x0, .any, false⟩
def R.PTE_CL_CFG_bad_act : Field := ⟨0x40, 1, 0, 2, 1, .rws, 0x0, .any, false⟩
def R.PTE_CL_NWARN_warn : Field := ⟨0x44, 1, 0, 0, 26, .ro, 0x0, .any, true⟩
def R.PTE_CL_NALARM_alarm : Field := ⟨0x48, 1, 0, 0, 26, .ro, 0x0, .any, true⟩
def R.PTE_CL_NBAD_bad : Field := ⟨0x4c, 1, 0, 0, 26, .ro, 0x0, .any, true⟩
def R.PTE_CL_NLATCH_latched : Field := ⟨0x50, 1, 0, 0, 26, .ro, 0x0, .any, true⟩
def R.PTE_CL_CTRL_release : Field := ⟨0x54, 1, 0, 0, 1, .wo, 0x0, .any, false⟩

-- Table 10-14
def R.ALH_CTRL_en : Field := ⟨0x40, 1, 0, 0, 1, .rws, 0x0, .any, false⟩
def R.ALH_CTRL_call_en : Field := ⟨0x40, 1, 0, 1, 1, .rws, 0x0, .any, false⟩
def R.ALH_MODE_mode : Field := ⟨0x44, 1, 0, 0, 4, .rw, 0x0, .any, false⟩
def R.ALH_MODE_src : Field := ⟨0x44, 1, 0, 4, 3, .ro, 0x0, .any, false⟩
def R.ALH_MODE_rel : Field := ⟨0x44, 1, 0, 16, 10, .rws, 0x0, .rng 0 600, false⟩
def R.ALH_DUTY_target : Field := ⟨0x48, 1, 0, 0, 5, .rw, 0x0, .any, false⟩
def R.ALH_DUTY_src : Field := ⟨0x48, 1, 0, 5, 3, .ro, 0x0, .any, false⟩
def R.ALH_CAN_en : Field := ⟨0x4c, 1, 0, 0, 1, .rws, 0x0, .any, false⟩
def R.ALH_CAN_fd : Field := ⟨0x4c, 1, 0, 1, 1, .rws, 0x0, .any, false⟩
def R.ALH_CAN_id_base : Field := ⟨0x4c, 1, 0, 2, 11, .rws, 0x180, .rng 0 2045, false⟩
def R.ALH_CAN_repeat : Field := ⟨0x4c, 1, 0, 16, 6, .rws, 0x5, .rng 1 60, false⟩
def R.ALH_ACK_DI_en : Field := ⟨0x50, 1, 0, 0, 1, .rws, 0x0, .any, false⟩
def R.ALH_ACK_DI_ch : Field := ⟨0x50, 1, 0, 1, 4, .rws, 0x0, .any, false⟩
def R.ALH_CMD_ARG_arg : Field := ⟨0x54, 1, 0, 0, 32, .rw, 0x0, .any, false⟩
def R.ALH_CMD_op : Field := ⟨0x58, 1, 0, 0, 4, .wo, 0x0, .any, false⟩
def R.ALH_CMD_index : Field := ⟨0x58, 1, 0, 8, 16, .wo, 0x0, .any, false⟩
def R.ALH_CMD_RES_res : Field := ⟨0x5c, 1, 0, 0, 3, .ro, 0x0, .any, false⟩
def R.ALH_CMD_RES_cseq : Field := ⟨0x5c, 1, 0, 8, 8, .ro, 0x0, .any, false⟩
def R.ALH_NACT_act : Field := ⟨0x60, 1, 0, 0, 15, .ro, 0x0, .any, true⟩
def R.ALH_NACT_unack : Field := ⟨0x60, 1, 0, 16, 15, .ro, 0x0, .any, true⟩
def R.ALH_NSUP_sup : Field := ⟨0x64, 1, 0, 0, 15, .ro, 0x0, .any, true⟩
def R.ALH_NSUP_shelved : Field := ⟨0x64, 1, 0, 16, 11, .ro, 0x0, .any, true⟩
def R.ALH_NOOS_oos : Field := ⟨0x68, 1, 0, 0, 15, .ro, 0x0, .any, true⟩
def R.ALH_LOG_WIDX_widx : Field := ⟨0x6c, 1, 0, 0, 32, .ro, 0x0, .any, false⟩
def R.ALH_RATE_last : Field := ⟨0x70, 1, 0, 0, 16, .ro, 0x0, .any, false⟩
def R.ALH_RATE_peak : Field := ⟨0x70, 1, 0, 16, 16, .ro, 0x0, .any, false⟩
def R.ALH_IGN_ign : Field := ⟨0x74, 1, 0, 0, 16, .ro, 0x0, .any, false⟩
def R.ALH_IGN_drop : Field := ⟨0x74, 1, 0, 16, 16, .ro, 0x0, .any, false⟩
def R.ALH_TBL_id : Field := ⟨0x78, 1, 0, 0, 32, .ro, 0x0, .any, false⟩
def R.ALH_CLR_clr : Field := ⟨0x7c, 1, 0, 0, 1, .wo, 0x0, .any, false⟩
def R.ALH_CLS_pri_warn : Field := ⟨0x80, 16, 0x4, 0, 2, .rws, 0x1, .any, false⟩
def R.ALH_CLS_pri_alarm : Field := ⟨0x80, 16, 0x4, 2, 2, .rws, 0x2, .any, false⟩
def R.ALH_CLS_ladder : Field := ⟨0x80, 16, 0x4, 4, 3, .rws, 0x0, .any, false⟩
def R.ALH_CLS_call : Field := ⟨0x80, 16, 0x4, 7, 1, .rws, 0x0, .any, false⟩
def R.ALH_CLS_latch : Field := ⟨0x80, 16, 0x4, 8, 1, .rws, 0x0, .any, false⟩
def R.ALH_CLS_rtn_auto : Field := ⟨0x80, 16, 0x4, 9, 1, .rws, 0x0, .any, false⟩
def R.ALH_CLS_no_shelve : Field := ⟨0x80, 16, 0x4, 10, 1, .rws, 0x0, .any, false⟩
def R.ALH_CLS_shelve_max : Field := ⟨0x80, 16, 0x4, 12, 11, .rws, 0x1e0, .rng 1 1440, false⟩
def R.ALH_TGT_kind : Field := ⟨0xc0, 32, 0x4, 0, 2, .rws, 0x0, .rng 0 2, false⟩
def R.ALH_TGT_addr : Field := ⟨0xc0, 32, 0x4, 2, 7, .rws, 0x0, .dep, false⟩
def R.ALH_TGT_pulse : Field := ⟨0xc0, 32, 0x4, 9, 1, .rws, 0x0, .dep, false⟩
def R.ALH_TGT_OK_ok : Field := ⟨0x140, 1, 0, 0, 32, .ro, 0x0, .any, false⟩

-- Table 10-15
def R.ALH_LD_CFG_nrung : Field := ⟨0x40, 1, 0, 0, 4, .rws, 0x1, .rng 1 8, false⟩
def R.ALH_LD_CFG_after_last : Field := ⟨0x40, 1, 0, 4, 1, .rws, 0x0, .any, false⟩
def R.ALH_LD_CFG_cumul : Field := ⟨0x40, 1, 0, 5, 1, .rws, 0x1, .any, false⟩
def R.ALH_LD_CFG_duty : Field := ⟨0x40, 1, 0, 8, 8, .rws, 0x1, .any, false⟩
def R.ALH_LD_MASK_mask : Field := ⟨0x44, 8, 0x4, 0, 32, .rws, 0x0, .any, false⟩
def R.ALH_LD_TMO_tmo_even : Field := ⟨0x64, 4, 0x4, 0, 16, .rws, 0x78, .rng 10 3600, false⟩
def R.ALH_LD_TMO_tmo_odd : Field := ⟨0x64, 4, 0x4, 16, 16, .rws, 0x78, .rng 10 3600, false⟩
def R.ALH_LD_STAT_active : Field := ⟨0x80, 1, 0, 0, 1, .ro, 0x0, .any, false⟩
def R.ALH_LD_STAT_accepted : Field := ⟨0x80, 1, 0, 1, 1, .ro, 0x0, .any, false⟩
def R.ALH_LD_STAT_exhausted : Field := ⟨0x80, 1, 0, 2, 1, .ro, 0x0, .any, false⟩
def R.ALH_LD_STAT_rung : Field := ⟨0x80, 1, 0, 4, 3, .ro, 0x0, .any, false⟩
def R.ALH_LD_STAT_unack : Field := ⟨0x80, 1, 0, 8, 8, .ro, 0x0, .any, false⟩
def R.ALH_LD_STAT_pri : Field := ⟨0x80, 1, 0, 16, 2, .ro, 0x0, .any, false⟩
def R.ALH_LD_SEQ_seq : Field := ⟨0x84, 1, 0, 0, 16, .ro, 0x0, .any, false⟩
def R.ALH_LD_SEQ_rseq : Field := ⟨0x84, 1, 0, 16, 16, .ro, 0x0, .any, false⟩
def R.ALH_LD_DL_LO_dl : Field := ⟨0x88, 1, 0, 0, 32, .ro, 0x0, .any, false⟩
def R.ALH_LD_DL_HI_dl : Field := ⟨0x8c, 1, 0, 0, 32, .ro, 0x0, .any, false⟩
def R.ALH_LD_CALLS_calls : Field := ⟨0x90, 1, 0, 0, 16, .ro, 0x0, .any, false⟩
def R.ALH_LD_CALLS_esc : Field := ⟨0x90, 1, 0, 16, 16, .ro, 0x0, .any, false⟩

-- Table 11-11
def R.FBE_CTRL_en : Field := ⟨0x40, 1, 0, 0, 1, .rws, 0x0, .any, false⟩
def R.FBE_TK_EN_en : Field := ⟨0x44, 1, 0, 0, 16, .rws, 0xffff, .any, false⟩
def R.FBE_STAT_run : Field := ⟨0x48, 1, 0, 0, 2, .ro, 0x0, .any, false⟩
def R.FBE_STAT_bank : Field := ⟨0x48, 1, 0, 2, 1, .ro, 0x0, .any, false⟩
def R.FBE_STAT_ihalf : Field := ⟨0x48, 1, 0, 3, 1, .ro, 0x0, .any, false⟩
def R.FBE_STAT_forcing : Field := ⟨0x48, 1, 0, 4, 1, .ro, 0x0, .any, false⟩
def R.FBE_STAT_sb_valid : Field := ⟨0x48, 1, 0, 5, 1, .ro, 0x0, .any, false⟩
def R.FBE_STAT_olc : Field := ⟨0x48, 1, 0, 8, 3, .ro, 0x0, .any, false⟩
def R.FBE_IMG_ID_id : Field := ⟨0x4c, 1, 0, 0, 32, .ro, 0x0, .any, false⟩
def R.FBE_SB_ID_id : Field := ⟨0x50, 1, 0, 0, 32, .ro, 0x0, .any, false⟩
def R.FBE_UTIL_u : Field := ⟨0x54, 1, 0, 0, 10, .ro, 0x0, .any, false⟩
def R.FBE_NFORCE_n : Field := ⟨0x58, 1, 0, 0, 11, .ro, 0x0, .any, false⟩
def R.FBE_FRC_SEL_slot : Field := ⟨0x5c, 1, 0, 0, 10, .rw, 0x0, .any, false⟩
def R.FBE_FRC_SYM_sym : Field := ⟨0x60, 1, 0, 0, 32, .rw, 0x0, .any, false⟩
def R.FBE_FRC_IDX_idx : Field := ⟨0x64, 1, 0, 0, 16, .rw, 0x0, .any, false⟩
def R.FBE_FRC_VAL_val : Field := ⟨0x68, 1, 0, 0, 32, .rw, 0x0, .any, false⟩
def R.FBE_FRC_CTRL_set : Field := ⟨0x6c, 1, 0, 0, 1, .wo, 0x0, .any, false⟩
def R.FBE_FRC_CTRL_release : Field := ⟨0x6c, 1, 0, 1, 1, .wo, 0x0, .any, false⟩
def R.FBE_FRC_CTRL_release_all : Field := ⟨0x6c, 1, 0, 2, 1, .wo, 0x0, .any, false⟩
def R.FBE_FRC_STAT_state : Field := ⟨0x70, 1, 0, 0, 2, .ro, 0x0, .any, false⟩
def R.FBE_FRC_STAT_dtype : Field := ⟨0x70, 1, 0, 2, 2, .ro, 0x0, .any, false⟩
def R.FBE_FRC_STAT_res : Field := ⟨0x70, 1, 0, 4, 3, .ro, 0x0, .any, false⟩
def R.FBE_SEAM_LO_t : Field := ⟨0x74, 1, 0, 0, 32, .ro, 0x0, .any, false⟩
def R.FBE_SEAM_HI_t : Field := ⟨0x78, 1, 0, 0, 32, .ro, 0x0, .any, false⟩
def R.FBE_OLC_REP_carried : Field := ⟨0x7c, 1, 0, 0, 16, .ro, 0x0, .any, false⟩
def R.FBE_OLC_REP_new : Field := ⟨0x7c, 1, 0, 16, 16, .ro, 0x0, .any, false⟩
def R.FBE_OLC_DROP_forces : Field := ⟨0x80, 1, 0, 0, 11, .ro, 0x0, .any, false⟩
def R.FBE_OLC_DROP_orphans : Field := ⟨0x80, 1, 0, 16, 16, .ro, 0x0, .any, false⟩
def R.FBE_EV_TRIG_trig : Field := ⟨0x84, 1, 0, 0, 8, .wo, 0x0, .any, false⟩
def R.FBE_ERR_arith : Field := ⟨0x88, 1, 0, 0, 16, .ro, 0x0, .any, false⟩
def R.FBE_ERR_lost : Field := ⟨0x88, 1, 0, 16, 16, .ro, 0x0, .any, false⟩
def R.FBE_CLR_clr : Field := ⟨0x8c, 1, 0, 0, 1, .wo, 0x0, .any, false⟩

-- Table 11-12
def R.FBE_TK_CFG_period : Field := ⟨0x40, 1, 0, 0, 14, .ro, 0x0, .any, false⟩
def R.FBE_TK_CFG_prio : Field := ⟨0x40, 1, 0, 16, 4, .ro, 0x0, .any, false⟩
def R.FBE_TK_CFG_kind : Field := ⟨0x40, 1, 0, 20, 2, .ro, 0x0, .any, false⟩
def R.FBE_TK_PHASE_phase : Field := ⟨0x44, 1, 0, 0, 14, .ro, 0x0, .any, false⟩
def R.FBE_TK_COST_cost : Field := ⟨0x48, 1, 0, 0, 24, .ro, 0x0, .any, false⟩
def R.FBE_TK_RESP_w : Field := ⟨0x4c, 1, 0, 0, 24, .ro, 0x0, .any, false⟩
def R.FBE_TK_STAT_state : Field := ⟨0x50, 1, 0, 0, 2, .ro, 0x0, .any, false⟩
def R.FBE_TK_STAT_arith : Field := ⟨0x50, 1, 0, 2, 1, .ro, 0x0, .any, false⟩
def R.FBE_TK_STAT_queue : Field := ⟨0x50, 1, 0, 8, 5, .ro, 0x0, .any, false⟩
def R.FBE_TK_CYC_cyc : Field := ⟨0x54, 1, 0, 0, 32, .ro, 0x0, .any, true⟩
def R.FBE_TK_OVR_ovr : Field := ⟨0x58, 1, 0, 0, 16, .ro, 0x0, .any, false⟩
def R.FBE_TK_OVR_lost : Field := ⟨0x58, 1, 0, 16, 16, .ro, 0x0, .any, false⟩
def R.FBE_TK_EXEC_last : Field := ⟨0x5c, 1, 0, 0, 16, .ro, 0x0, .any, false⟩
def R.FBE_TK_EXEC_max : Field := ⟨0x5c, 1, 0, 16, 16, .ro, 0x0, .any, false⟩
def R.FBE_TK_T_LO_t : Field := ⟨0x60, 1, 0, 0, 32, .ro, 0x0, .any, true⟩
def R.FBE_TK_T_HI_t : Field := ⟨0x64, 1, 0, 0, 32, .ro, 0x0, .any, true⟩
def R.FBE_TK_CTRL_ovr_fault : Field := ⟨0x68, 1, 0, 0, 1, .rws, 0x0, .any, false⟩

-- Table 12-6
def R.EVR_CTRL_en : Field := ⟨0x40, 1, 0, 0, 1, .rws, 0x0, .any, false⟩
def R.EVR_SRC_en : Field := ⟨0x44, 1, 0, 0, 8, .rws, 0x3f, .mask 0x3F, false⟩
def R.EVR_SRC_sys_list : Field := ⟨0x44, 1, 0, 8, 4, .rws, 0x0, .any, false⟩
def R.EVR_SRC_sys_en : Field := ⟨0x44, 1, 0, 12, 1, .rws, 0x0, .any, false⟩
def R.EVR_LSEL_item : Field := ⟨0x48, 1, 0, 0, 6, .rw, 0x0, .any, false⟩
def R.EVR_LSEL_list : Field := ⟨0x48, 1, 0, 8, 4, .rw, 0x0, .any, false⟩
def R.EVR_LITEM_desc : Field := ⟨0x4c, 1, 0, 0, 32, .rws, 0x0, .dep, false⟩
def R.EVR_TRIG_list : Field := ⟨0x50, 1, 0, 0, 4, .wo, 0x0, .any, false⟩
def R.EVR_TRIG_go : Field := ⟨0x50, 1, 0, 8, 1, .wo, 0x0, .any, false⟩
def R.EVR_TRIG_arg : Field := ⟨0x50, 1, 0, 16, 16, .wo, 0x0, .any, false⟩
def R.EVR_STAT_run : Field := ⟨0x54, 1, 0, 0, 1, .ro, 0x0, .any, false⟩
def R.EVR_STAT_full : Field := ⟨0x54, 1, 0, 1, 1, .ro, 0x0, .any, true⟩
def R.EVR_STAT_erasing : Field := ⟨0x54, 1, 0, 2, 1, .ro, 0x0, .any, false⟩
def R.EVR_STAT_marker : Field := ⟨0x54, 1, 0, 3, 1, .ro, 0x0, .any, false⟩
def R.EVR_STAT_larder : Field := ⟨0x54, 1, 0, 4, 7, .ro, 0x0, .any, false⟩
def R.EVR_STAT_queue : Field := ⟨0x54, 1, 0, 12, 13, .ro, 0x0, .any, false⟩
def R.EVR_WIDX_widx : Field := ⟨0x58, 1, 0, 0, 23, .ro, 0x0, .any, true⟩
def R.EVR_SEQ_seq : Field := ⟨0x5c, 1, 0, 0, 32, .ro, 0x0, .any, true⟩
def R.EVR_OVR_ovr : Field := ⟨0x60, 1, 0, 0, 32, .ro, 0x0, .any, true⟩
def R.EVR_FULL_full : Field := ⟨0x64, 1, 0, 0, 32, .ro, 0x0, .any, true⟩
def R.EVR_LOSS_crates : Field := ⟨0x68, 1, 0, 0, 16, .ro, 0x0, .any, true⟩
def R.EVR_LOSS_events : Field := ⟨0x68, 1, 0, 16, 16, .ro, 0x0, .any, true⟩
def R.EVR_CLR_clr : Field := ⟨0x6c, 1, 0, 0, 1, .wo, 0x0, .any, false⟩
def R.EVR_TRIG_CNT_trig : Field := ⟨0x70, 1, 0, 0, 32, .ro, 0x0, .any, false⟩

-- Table 13-3
def R.TBS_CTRL_halt : Field := ⟨0x40, 1, 0, 0, 1, .rw, 0x0, .any, false⟩
def R.TBS_CTRL_set : Field := ⟨0x40, 1, 0, 1, 1, .wo, 0x0, .any, false⟩
def R.TBS_CTRL_adjust : Field := ⟨0x40, 1, 0, 2, 1, .wo, 0x0, .any, false⟩
def R.TBS_CTRL_set_cal : Field := ⟨0x40, 1, 0, 3, 1, .wo, 0x0, .any, false⟩
def R.TBS_STAT_osf : Field := ⟨0x44, 1, 0, 0, 1, .ro, 0x1, .any, true⟩
def R.TBS_STAT_clamped_set : Field := ⟨0x44, 1, 0, 1, 1, .ro, 0x0, .any, true⟩
def R.TBS_STAT_halted : Field := ⟨0x44, 1, 0, 2, 1, .ro, 0x0, .any, true⟩
def R.TBS_STAT_x32_ok : Field := ⟨0x44, 1, 0, 3, 1, .ro, 0x0, .any, false⟩
def R.TBS_TB_LO_tb : Field := ⟨0x48, 1, 0, 0, 32, .ro, 0x0, .any, false⟩
def R.TBS_TB_HI_tb : Field := ⟨0x4c, 1, 0, 0, 32, .ro, 0x0, .any, false⟩
def R.TBS_CAL_LO_cal : Field := ⟨0x50, 1, 0, 0, 32, .ro, 0x0, .any, false⟩
def R.TBS_CAL_HI_cal : Field := ⟨0x54, 1, 0, 0, 32, .ro, 0x0, .any, false⟩
def R.TBS_SET_LO_set : Field := ⟨0x58, 1, 0, 0, 32, .rw, 0x0, .any, false⟩
def R.TBS_SET_HI_set : Field := ⟨0x5c, 1, 0, 0, 32, .rw, 0x0, .any, false⟩
def R.TBS_SET_DATE_year : Field := ⟨0x60, 1, 0, 0, 16, .rw, 0x7d0, .rng 2000 9999, false⟩
def R.TBS_SET_DATE_month : Field := ⟨0x60, 1, 0, 16, 4, .rw, 0x1, .rng 1 12, false⟩
def R.TBS_SET_DATE_day : Field := ⟨0x60, 1, 0, 20, 5, .rw, 0x1, .dep, false⟩
def R.TBS_SET_TIME_hour : Field := ⟨0x64, 1, 0, 0, 5, .rw, 0x0, .rng 0 23, false⟩
def R.TBS_SET_TIME_minute : Field := ⟨0x64, 1, 0, 8, 6, .rw, 0x0, .rng 0 59, false⟩
def R.TBS_SET_TIME_second : Field := ⟨0x64, 1, 0, 16, 6, .rw, 0x0, .rng 0 59, false⟩
def R.TBS_DATE_year : Field := ⟨0x70, 1, 0, 0, 16, .ro, 0x0, .any, false⟩
def R.TBS_DATE_month : Field := ⟨0x70, 1, 0, 16, 4, .ro, 0x0, .any, false⟩
def R.TBS_DATE_day : Field := ⟨0x70, 1, 0, 20, 5, .ro, 0x0, .any, false⟩
def R.TBS_TIME_hour : Field := ⟨0x74, 1, 0, 0, 5, .ro, 0x0, .any, false⟩
def R.TBS_TIME_minute : Field := ⟨0x74, 1, 0, 8, 6, .ro, 0x0, .any, false⟩
def R.TBS_TIME_second : Field := ⟨0x74, 1, 0, 16, 6, .ro, 0x0, .any, false⟩
def R.TBS_WDAY_free : Field := ⟨0x78, 1, 0, 0, 3, .rw, 0x6, .rng 1 7, false⟩
def R.TBS_WDAY_calc : Field := ⟨0x78, 1, 0, 8, 3, .ro, 0x6, .any, false⟩
def R.TBS_LOCAL_ofs : Field := ⟨0x7c, 1, 0, 0, 11, .rw, 0x0, .srng (-840) 840, false⟩
def R.TBS_TRIM_trim : Field := ⟨0x80, 1, 0, 0, 22, .rw, 0x0, .any, false⟩
def R.TBS_TCOMP_k : Field := ⟨0x84, 1, 0, 0, 16, .rws, 0x154, .rng 0 1000, false⟩
def R.TBS_TCOMP_t0 : Field := ⟨0x84, 1, 0, 16, 8, .rws, 0x19, .srng (-40) 85, false⟩
def R.TBS_TCOMP_en : Field := ⟨0x84, 1, 0, 24, 1, .rws, 0x0, .any, false⟩
def R.TBS_CTEMP_temp : Field := ⟨0x88, 1, 0, 0, 32, .ro, 0x0, .any, false⟩
def R.TBS_ALMA_second : Field := ⟨0x8c, 1, 0, 0, 6, .rws, 0x0, .rng 0 59, false⟩
def R.TBS_ALMB_second : Field := ⟨0x94, 1, 0, 0, 6, .rws, 0x0, .rng 0 59, false⟩
def R.TBS_ALMA_minute : Field := ⟨0x8c, 1, 0, 6, 6, .rws, 0x0, .rng 0 59, false⟩
def R.TBS_ALMB_minute : Field := ⟨0x94, 1, 0, 6, 6, .rws, 0x0, .rng 0 59, false⟩
def R.TBS_ALMA_hour : Field := ⟨0x8c, 1, 0, 12, 5, .rws, 0x0, .rng 0 23, false⟩
def R.TBS_ALMB_hour : Field := ⟨0x94, 1, 0, 12, 5, .rws, 0x0, .rng 0 23, false⟩
def R.TBS_ALMA_day : Field := ⟨0x8c, 1, 0, 17, 5, .rws, 0x1, .rng 1 31, false⟩
def R.TBS_ALMB_day : Field := ⟨0x94, 1, 0, 17, 5, .rws, 0x1, .rng 1 31, false⟩
def R.TBS_ALMA_month : Field := ⟨0x8c, 1, 0, 22, 4, .rws, 0x1, .rng 1 12, false⟩
def R.TBS_ALMB_month : Field := ⟨0x94, 1, 0, 22, 4, .rws, 0x1, .rng 1 12, false⟩
def R.TBS_ALMA_wday : Field := ⟨0x8c, 1, 0, 26, 3, .rws, 0x1, .rng 1 7, false⟩
def R.TBS_ALMB_wday : Field := ⟨0x94, 1, 0, 26, 3, .rws, 0x1, .rng 1 7, false⟩
def R.TBS_ALMA_CTL_mask : Field := ⟨0x90, 1, 0, 0, 6, .rws, 0x3f, .any, false⟩
def R.TBS_ALMB_CTL_mask : Field := ⟨0x98, 1, 0, 0, 6, .rws, 0x3f, .any, false⟩
def R.TBS_ALMA_CTL_en : Field := ⟨0x90, 1, 0, 8, 1, .rws, 0x0, .any, false⟩
def R.TBS_ALMB_CTL_en : Field := ⟨0x98, 1, 0, 8, 1, .rws, 0x0, .any, false⟩
def R.TBS_ALMA_CTL_wake : Field := ⟨0x90, 1, 0, 9, 1, .rws, 0x0, .any, false⟩
def R.TBS_ALMB_CTL_wake : Field := ⟨0x98, 1, 0, 9, 1, .rws, 0x0, .any, false⟩
def R.TBS_PER_e : Field := ⟨0x9c, 1, 0, 0, 6, .rws, 0x0, .srng (-15) 16, false⟩
def R.TBS_PER_en : Field := ⟨0x9c, 1, 0, 6, 1, .rws, 0x0, .any, false⟩
def R.TBS_ALM_STAT_a_fired : Field := ⟨0xa0, 1, 0, 0, 1, .w1c, 0x0, .any, false⟩
def R.TBS_ALM_STAT_a_skipped : Field := ⟨0xa0, 1, 0, 1, 1, .w1c, 0x0, .any, false⟩
def R.TBS_ALM_STAT_a_late : Field := ⟨0xa0, 1, 0, 2, 1, .w1c, 0x0, .any, false⟩
def R.TBS_ALM_STAT_b_fired : Field := ⟨0xa0, 1, 0, 4, 1, .w1c, 0x0, .any, false⟩
def R.TBS_ALM_STAT_b_skipped : Field := ⟨0xa0, 1, 0, 5, 1, .w1c, 0x0, .any, false⟩
def R.TBS_ALM_STAT_b_late : Field := ⟨0xa0, 1, 0, 6, 1, .w1c, 0x0, .any, false⟩
def R.TBS_ALM_STAT_per_cnt : Field := ⟨0xa0, 1, 0, 16, 16, .ro, 0x0, .any, false⟩
def R.TBS_XRATIO_ratio : Field := ⟨0xa4, 1, 0, 0, 32, .ro, 0x0, .any, false⟩
def R.TBS_TXT_txt : Field := ⟨0x100, 8, 0x4, 0, 32, .ro, 0x0, .any, false⟩

-- Table 14-5
def R.DIO_CTRL_rearm : Field := ⟨0x40, 1, 0, 0, 1, .wo, 0x0, .dep, false⟩
def R.DIO_CTRL_thr_test : Field := ⟨0x40, 1, 0, 1, 1, .rw, 0x0, .any, false⟩
def R.DIO_DIN_deb : Field := ⟨0x44, 16, 0x4, 0, 16, .rws, 0x3e8, .rng 1 65535, false⟩
def R.DIO_DIN_inv : Field := ⟨0x44, 16, 0x4, 16, 1, .rws, 0x0, .any, false⟩
def R.DIO_DIN_wb_en : Field := ⟨0x44, 16, 0x4, 17, 1, .rws, 0x0, .any, false⟩
def R.DIO_DIN_track : Field := ⟨0x44, 16, 0x4, 18, 1, .rws, 0x0, .any, false⟩
def R.DIO_DIN_wake : Field := ⟨0x44, 16, 0x4, 19, 1, .rws, 0x0, .any, false⟩
def R.DIO_THR_on_pct : Field := ⟨0x84, 1, 0, 0, 8, .rws, 0x28, .rng 30 80, false⟩
def R.DIO_THR_off_pct : Field := ⟨0x84, 1, 0, 8, 8, .rws, 0x1e, .dep, false⟩
def R.DIO_DO_CFG_own : Field := ⟨0x88, 1, 0, 0, 8, .rws, 0x0, .any, false⟩
def R.DIO_DO_CFG_start : Field := ⟨0x88, 1, 0, 8, 8, .rws, 0x0, .any, false⟩
def R.DIO_DO_CFG_retain : Field := ⟨0x88, 1, 0, 16, 8, .rws, 0x0, .any, false⟩
def R.DIO_DO_SET_set : Field := ⟨0x8c, 1, 0, 0, 8, .rw, 0x0, .dep, false⟩
def R.DIO_STAT_link : Field := ⟨0x90, 1, 0, 0, 2, .ro, 0x0, .any, false⟩
def R.DIO_STAT_fault : Field := ⟨0x90, 1, 0, 2, 1, .ro, 0x0, .any, false⟩
def R.DIO_STAT_armed : Field := ⟨0x90, 1, 0, 3, 1, .ro, 0x0, .any, false⟩
def R.DIO_STAT_vf_warn : Field := ⟨0x90, 1, 0, 4, 1, .ro, 0x0, .any, false⟩
def R.DIO_STAT_vf_off : Field := ⟨0x90, 1, 0, 5, 1, .ro, 0x0, .any, false⟩
def R.DIO_STAT_rearm_ok : Field := ⟨0x90, 1, 0, 6, 1, .ro, 0x0, .any, false⟩
def R.DIO_STAT_thr_prog : Field := ⟨0x90, 1, 0, 7, 1, .ro, 0x0, .any, false⟩
def R.DIO_STAT_vfield : Field := ⟨0x90, 1, 0, 8, 8, .ro, 0x0, .any, false⟩
def R.DIO_DI_state : Field := ⟨0x94, 1, 0, 0, 16, .ro, 0x0, .any, false⟩
def R.DIO_DI_wb : Field := ⟨0x94, 1, 0, 16, 16, .ro, 0x0, .any, false⟩
def R.DIO_DI_WB_wb : Field := ⟨0x98, 1, 0, 0, 16, .w1c, 0x0, .any, false⟩
def R.DIO_DO_STAT_eff : Field := ⟨0x9c, 1, 0, 0, 8, .ro, 0x0, .any, false⟩
def R.DIO_DO_STAT_rb : Field := ⟨0x9c, 1, 0, 8, 8, .ro, 0x0, .any, false⟩
def R.DIO_DO_STAT_trip : Field := ⟨0x9c, 1, 0, 16, 8, .ro, 0x0, .any, false⟩
def R.DIO_DO_STAT_stuck : Field := ⟨0x9c, 1, 0, 24, 8, .ro, 0x0, .any, false⟩
def R.DIO_FRM_ERR_crc : Field := ⟨0xa0, 1, 0, 0, 16, .ro, 0x0, .any, false⟩
def R.DIO_FRM_ERR_lost : Field := ⟨0xa0, 1, 0, 16, 16, .ro, 0x0, .any, false⟩
def R.DIO_DI_LOST_lost : Field := ⟨0xa4, 1, 0, 0, 16, .ro, 0x0, .any, false⟩
def R.DIO_CLR_clr : Field := ⟨0xa8, 1, 0, 0, 1, .wo, 0x0, .any, false⟩
def R.DIO_ET_LO_t : Field := ⟨0xc0, 16, 0x8, 0, 32, .ro, 0x0, .any, false⟩
def R.DIO_ET_HI_t : Field := ⟨0xc4, 16, 0x8, 0, 32, .ro, 0x0, .any, false⟩

-- Table 15-5
def R.LPO_STAT_link : Field := ⟨0x40, 1, 0, 0, 2, .ro, 0x0, .any, false⟩
def R.LPO_STAT_lpow : Field := ⟨0x40, 1, 0, 2, 1, .ro, 0x0, .any, false⟩
def R.LPO_STAT_hot : Field := ⟨0x40, 1, 0, 3, 1, .ro, 0x0, .any, false⟩
def R.LPO_STAT_vloop : Field := ⟨0x40, 1, 0, 8, 8, .ro, 0x0, .any, false⟩
def R.LPO_THERM_t_fold : Field := ⟨0x44, 1, 0, 0, 8, .rws, 0x6e, .rng 90 125, false⟩
def R.LPO_THERM_t_hyst : Field := ⟨0x44, 1, 0, 8, 8, .rws, 0x5, .rng 2 20, false⟩
def R.LPO_THERM_slew : Field := ⟨0x44, 1, 0, 16, 16, .rws, 0x64, .rng 1 1000, false⟩
def R.LPO_TEMP_temp : Field := ⟨0x48, 1, 0, 0, 32, .ro, 0x0, .any, false⟩
def R.LPO_FRM_ERR_crc : Field := ⟨0x4c, 1, 0, 0, 16, .ro, 0x0, .any, false⟩
def R.LPO_FRM_ERR_lost : Field := ⟨0x4c, 1, 0, 16, 16, .ro, 0x0, .any, false⟩
def R.LPO_CLR_clr : Field := ⟨0x50, 1, 0, 0, 1, .wo, 0x0, .any, false⟩

-- Table 15-6
def R.LPO_CH_CFG_en : Field := ⟨0x40, 1, 0, 0, 1, .rws, 0x0, .any, false⟩
def R.LPO_CH_CFG_sink : Field := ⟨0x40, 1, 0, 1, 1, .rws, 0x0, .any, false⟩
def R.LPO_CH_CFG_ext : Field := ⟨0x40, 1, 0, 2, 1, .rws, 0x0, .any, false⟩
def R.LPO_CH_CFG_own : Field := ⟨0x40, 1, 0, 3, 2, .rws, 0x0, .rng 0 2, false⟩
def R.LPO_CH_CFG_char : Field := ⟨0x40, 1, 0, 5, 2, .rws, 0x0, .dep, false⟩
def R.LPO_CH_CFG_fail_lvl : Field := ⟨0x40, 1, 0, 7, 2, .rws, 0x1, .rng 0 2, false⟩
def R.LPO_CH_CFG_comp_fail : Field := ⟨0x40, 1, 0, 9, 1, .rws, 0x0, .any, false⟩
def R.LPO_CH_CFG_park : Field := ⟨0x40, 1, 0, 10, 1, .rws, 0x0, .dep, false⟩
def R.LPO_CH_CFG_retain : Field := ⟨0x40, 1, 0, 11, 1, .rws, 0x0, .any, false⟩
def R.LPO_CH_CFG_fsk : Field := ⟨0x40, 1, 0, 12, 1, .rws, 0x0, .any, false⟩
def R.LPO_CH_CFG_wake : Field := ⟨0x40, 1, 0, 13, 1, .rws, 0x0, .any, false⟩
def R.LPO_CH_START_start : Field := ⟨0x44, 1, 0, 0, 32, .rws, 0x40800000, .dep, false⟩
def R.LPO_CH_SLEW_rate : Field := ⟨0x48, 1, 0, 0, 16, .rws, 0x0, .any, false⟩
def R.LPO_CH_CUT_cut : Field := ⟨0x4c, 1, 0, 0, 16, .rws, 0x28f, .rng 0 6554, false⟩
def R.LPO_CH_SET_set : Field := ⟨0x50, 1, 0, 0, 32, .rw, 0x40800000, .dep, false⟩
def R.LPO_CH_CTRL_clr_comp : Field := ⟨0x54, 1, 0, 0, 1, .wo, 0x0, .any, false⟩
def R.LPO_CH_CTRL_tx_go : Field := ⟨0x54, 1, 0, 1, 1, .wo, 0x0, .any, false⟩
def R.LPO_CH_CTRL_tx_abort : Field := ⟨0x54, 1, 0, 2, 1, .wo, 0x0, .any, false⟩
def R.LPO_CH_CTRL_rx_rel : Field := ⟨0x54, 1, 0, 3, 1, .wo, 0x0, .any, false⟩
def R.LPO_CH_EFF_eff : Field := ⟨0x58, 1, 0, 0, 32, .ro, 0x0, .any, false⟩
def R.LPO_CH_RB_rb : Field := ⟨0x5c, 1, 0, 0, 32, .ro, 0x0, .any, false⟩
def R.LPO_CH_HR_hr : Field := ⟨0x60, 1, 0, 0, 32, .ro, 0x0, .any, false⟩
def R.LPO_CH_STAT_src : Field := ⟨0x64, 1, 0, 0, 3, .ro, 0x0, .any, false⟩
def R.LPO_CH_STAT_compliance : Field := ⟨0x64, 1, 0, 4, 1, .ro, 0x0, .any, false⟩
def R.LPO_CH_STAT_fold : Field := ⟨0x64, 1, 0, 5, 1, .ro, 0x0, .any, false⟩
def R.LPO_CH_STAT_sat : Field := ⟨0x64, 1, 0, 6, 1, .ro, 0x0, .any, false⟩
def R.LPO_CH_STAT_latched : Field := ⟨0x64, 1, 0, 7, 1, .ro, 0x0, .any, false⟩
def R.LPO_FSK_CFG_tx_pre : Field := ⟨0x68, 1, 0, 0, 5, .rws, 0x5, .rng 2 20, false⟩
def R.LPO_FSK_CFG_rx_pre : Field := ⟨0x68, 1, 0, 8, 5, .rws, 0x2, .rng 2 20, false⟩
def R.LPO_FSK_CFG_add_chk : Field := ⟨0x68, 1, 0, 16, 1, .rws, 0x1, .any, false⟩
def R.LPO_FSK_TXLEN_len : Field := ⟨0x6c, 1, 0, 0, 9, .rw, 0x1, .rng 1 272, false⟩
def R.LPO_FSK_STAT_rx_len : Field := ⟨0x70, 1, 0, 0, 9, .ro, 0x0, .any, false⟩
def R.LPO_FSK_STAT_rx_full : Field := ⟨0x70, 1, 0, 9, 1, .ro, 0x0, .any, false⟩
def R.LPO_FSK_STAT_tx_busy : Field := ⟨0x70, 1, 0, 10, 1, .ro, 0x0, .any, false⟩
def R.LPO_FSK_STAT_carrier : Field := ⟨0x70, 1, 0, 11, 1, .ro, 0x0, .any, false⟩
def R.LPO_FSK_STAT_err : Field := ⟨0x70, 1, 0, 12, 3, .ro, 0x0, .any, false⟩
def R.LPO_FSK_STAT_rx_lost : Field := ⟨0x70, 1, 0, 16, 8, .ro, 0x0, .any, false⟩
def R.LPO_FSK_RX_T_LO_t : Field := ⟨0x74, 1, 0, 0, 32, .ro, 0x0, .any, false⟩
def R.LPO_FSK_RX_T_HI_t : Field := ⟨0x78, 1, 0, 0, 32, .ro, 0x0, .any, false⟩
def R.LPO_CH_TBL_x : Field := ⟨0xc0, 16, 0x4, 0, 16, .rws, 0x0, .dep, false⟩
def R.LPO_CH_TBL_y : Field := ⟨0xc0, 16, 0x4, 16, 16, .rws, 0x0, .any, false⟩
def R.LPO_FSK_RXBUF_rx : Field := ⟨0x200, 68, 0x4, 0, 32, .ro, 0x0, .any, false⟩
def R.LPO_FSK_TXBUF_tx : Field := ⟨0x400, 68, 0x4, 0, 32, .rw, 0x0, .any, false⟩

-- Table 16-6
def R.CAN_CFG_mode : Field := ⟨0x40, 1, 0, 0, 2, .rws, 0x0, .any, false⟩
def R.CAN_CFG_fd_en : Field := ⟨0x40, 1, 0, 2, 1, .rws, 0x0, .any, false⟩
def R.CAN_CFG_pex : Field := ⟨0x40, 1, 0, 3, 1, .rws, 0x0, .any, false⟩
def R.CAN_NBT_presc : Field := ⟨0x44, 1, 0, 0, 6, .rws, 0x1, .dep, false⟩
def R.CAN_NBT_seg1 : Field := ⟨0x44, 1, 0, 6, 9, .rws, 0x7f, .rng 2 256, false⟩
def R.CAN_NBT_seg2 : Field := ⟨0x44, 1, 0, 15, 8, .rws, 0x20, .rng 2 128, false⟩
def R.CAN_NBT_sjw : Field := ⟨0x44, 1, 0, 23, 8, .rws, 0x20, .dep, false⟩
def R.CAN_DBT_presc : Field := ⟨0x48, 1, 0, 0, 6, .rws, 0x1, .dep, false⟩
def R.CAN_DBT_seg1 : Field := ⟨0x48, 1, 0, 8, 6, .rws, 0x1d, .rng 1 32, false⟩
def R.CAN_DBT_seg2 : Field := ⟨0x48, 1, 0, 16, 5, .rws, 0xa, .rng 1 16, false⟩
def R.CAN_DBT_sjw : Field := ⟨0x48, 1, 0, 24, 5, .rws, 0xa, .dep, false⟩
def R.CAN_TDC_tdco : Field := ⟨0x4c, 1, 0, 0, 7, .rws, 0x1e, .any, false⟩
def R.CAN_TDC_en : Field := ⟨0x4c, 1, 0, 7, 1, .rws, 0x0, .any, false⟩
def R.CAN_TDC_tdcv : Field := ⟨0x4c, 1, 0, 16, 8, .ro, 0x0, .any, false⟩
def R.CAN_CTRL_recover : Field := ⟨0x50, 1, 0, 0, 1, .wo, 0x0, .dep, false⟩
def R.CAN_CTRL_sleep : Field := ⟨0x50, 1, 0, 1, 1, .rw, 0x0, .dep, false⟩
def R.CAN_CTRL_clr : Field := ⟨0x50, 1, 0, 2, 1, .wo, 0x0, .any, false⟩
def R.CAN_STAT_state : Field := ⟨0x54, 1, 0, 0, 3, .ro, 0x0, .any, false⟩
def R.CAN_STAT_ewarn : Field := ⟨0x54, 1, 0, 3, 1, .ro, 0x0, .any, false⟩
def R.CAN_STAT_id_collision : Field := ⟨0x54, 1, 0, 4, 1, .w1c, 0x0, .any, false⟩
def R.CAN_STAT_tec : Field := ⟨0x54, 1, 0, 8, 8, .ro, 0x0, .any, true⟩
def R.CAN_STAT_rec : Field := ⟨0x54, 1, 0, 16, 8, .ro, 0x0, .any, true⟩
def R.CAN_ERR_lec : Field := ⟨0x58, 1, 0, 0, 3, .ro, 0x0, .any, false⟩
def R.CAN_ERR_dphase : Field := ⟨0x58, 1, 0, 3, 1, .ro, 0x0, .any, false⟩
def R.CAN_ERR_field : Field := ⟨0x58, 1, 0, 4, 2, .ro, 0x0, .any, false⟩
def R.CAN_COLL_count : Field := ⟨0x5c, 1, 0, 0, 16, .ro, 0x0, .any, true⟩
def R.CAN_COLL_obj : Field := ⟨0x5c, 1, 0, 16, 7, .ro, 0x0, .any, true⟩
def R.CAN_CNT_boff : Field := ⟨0x60, 1, 0, 0, 16, .ro, 0x0, .any, true⟩
def R.CAN_CNT_nomatch : Field := ⟨0x60, 1, 0, 16, 16, .ro, 0x0, .any, true⟩
def R.CAN_WK_wmode : Field := ⟨0x64, 1, 0, 0, 2, .rws, 0x0, .dep, false⟩
def R.CAN_WK_rate : Field := ⟨0x64, 1, 0, 2, 2, .rws, 0x2, .any, false⟩
def R.CAN_WK_ID_id : Field := ⟨0x68, 1, 0, 0, 29, .rws, 0x0, .any, false⟩
def R.CAN_WK_ID_ide : Field := ⟨0x68, 1, 0, 29, 1, .rws, 0x0, .any, false⟩
def R.CAN_WK_MASK_mask : Field := ⟨0x6c, 1, 0, 0, 29, .rws, 0x1fffffff, .any, false⟩
def R.CAN_WK_DATA0_dmask : Field := ⟨0x70, 1, 0, 0, 32, .rws, 0x0, .any, false⟩
def R.CAN_WK_DATA1_dmask : Field := ⟨0x74, 1, 0, 0, 32, .rws, 0x0, .any, false⟩
def R.CAN_WK_DLC_dlc : Field := ⟨0x78, 1, 0, 0, 4, .rws, 0x0, .rng 0 8, false⟩
def R.CAN_WK_STAT_cause : Field := ⟨0x7c, 1, 0, 0, 2, .ro, 0x0, .any, false⟩
def R.CAN_WK_STAT_errs : Field := ⟨0x7c, 1, 0, 8, 6, .ro, 0x0, .any, false⟩
def R.CAN_PMB_ID_id : Field := ⟨0x80, 4, 0x20, 0, 29, .rws, 0x0, .any, false⟩
def R.CAN_PMB_ID_ide : Field := ⟨0x80, 4, 0x20, 29, 1, .rws, 0x0, .any, false⟩
def R.CAN_PMB_MASK_mask : Field := ⟨0x84, 4, 0x20, 0, 29, .rws, 0x0, .any, false⟩
def R.CAN_PMB_STAT_cnt : Field := ⟨0x88, 4, 0x20, 0, 8, .ro, 0x0, .any, false⟩
def R.CAN_PMB_STAT_new : Field := ⟨0x88, 4, 0x20, 8, 1, .ro, 0x0, .any, false⟩
def R.CAN_PMB_STAT_fd : Field := ⟨0x88, 4, 0x20, 9, 1, .ro, 0x0, .any, false⟩
def R.CAN_PMB_STAT_dlc : Field := ⟨0x88, 4, 0x20, 10, 4, .ro, 0x0, .any, false⟩
def R.CAN_PMB_STAT_lost : Field := ⟨0x88, 4, 0x20, 16, 8, .ro, 0x0, .any, false⟩
def R.CAN_PMB_RID_id : Field := ⟨0x8c, 4, 0x20, 0, 29, .ro, 0x0, .any, false⟩
def R.CAN_PMB_RID_ide : Field := ⟨0x8c, 4, 0x20, 29, 1, .ro, 0x0, .any, false⟩
def R.CAN_PMB_RID_rtr : Field := ⟨0x8c, 4, 0x20, 30, 1, .ro, 0x0, .any, false⟩
def R.CAN_PMB_T_LO_t : Field := ⟨0x90, 4, 0x20, 0, 32, .ro, 0x0, .any, false⟩
def R.CAN_PMB_T_HI_t : Field := ⟨0x94, 4, 0x20, 0, 32, .ro, 0x0, .any, false⟩
def R.CAN_PMB_CTRL_release : Field := ⟨0x98, 4, 0x20, 0, 1, .wo, 0x0, .any, false⟩
def R.CAN_PMB_DATA_data : Field := ⟨0x200, 64, 0x4, 0, 32, .ro, 0x0, .any, false⟩

-- Table 16-7
def R.CAN_OBJ_EV_ev : Field := ⟨0x40, 1, 0, 0, 32, .w1c, 0x0, .any, false⟩
def R.CAN_OBJ_IEN_ien : Field := ⟨0x44, 1, 0, 0, 32, .rw, 0x0, .any, false⟩
def R.CAN_OBJ_CFG_en : Field := ⟨0x100, 32, 0x20, 0, 1, .rws, 0x0, .any, false⟩
def R.CAN_OBJ_CFG_dir : Field := ⟨0x100, 32, 0x20, 1, 1, .rws, 0x0, .any, false⟩
def R.CAN_OBJ_CFG_fd : Field := ⟨0x100, 32, 0x20, 2, 1, .rws, 0x0, .dep, false⟩
def R.CAN_OBJ_CFG_brs : Field := ⟨0x100, 32, 0x20, 3, 1, .rws, 0x0, .dep, false⟩
def R.CAN_OBJ_CFG_rtr : Field := ⟨0x100, 32, 0x20, 4, 1, .rws, 0x0, .dep, false⟩
def R.CAN_OBJ_CFG_hold : Field := ⟨0x100, 32, 0x20, 5, 1, .rws, 0x0, .dep, false⟩
def R.CAN_OBJ_CFG_own : Field := ⟨0x100, 32, 0x20, 6, 2, .rws, 0x0, .dep, false⟩
def R.CAN_OBJ_CFG_dlc : Field := ⟨0x100, 32, 0x20, 8, 4, .rws, 0x0, .dep, false⟩
def R.CAN_OBJ_CFG_retry : Field := ⟨0x100, 32, 0x20, 16, 3, .rws, 0x0, .any, false⟩
def R.CAN_OBJ_CFG_coll_susp : Field := ⟨0x100, 32, 0x20, 20, 4, .rws, 0x0, .dep, false⟩
def R.CAN_OBJ_ID_id : Field := ⟨0x104, 32, 0x20, 0, 29, .rws, 0x0, .dep, false⟩
def R.CAN_OBJ_ID_ide : Field := ⟨0x104, 32, 0x20, 29, 1, .rws, 0x0, .any, false⟩
def R.CAN_OBJ_MASK_mask : Field := ⟨0x108, 32, 0x20, 0, 29, .rws, 0x1fffffff, .any, false⟩
def R.CAN_OBJ_RPL_window : Field := ⟨0x600, 32, 0x4, 0, 16, .rws, 0x64, .rng 1 65535, false⟩
def R.CAN_OBJ_RPL_robj : Field := ⟨0x600, 32, 0x4, 16, 7, .rws, 0x0, .any, false⟩
def R.CAN_OBJ_RPL_en : Field := ⟨0x600, 32, 0x4, 23, 1, .rws, 0x0, .any, false⟩
def R.CAN_OBJ_CTRL_send : Field := ⟨0x10c, 32, 0x20, 0, 1, .wo, 0x0, .dep, false⟩
def R.CAN_OBJ_CTRL_cancel : Field := ⟨0x10c, 32, 0x20, 1, 1, .wo, 0x0, .any, false⟩
def R.CAN_OBJ_CTRL_release : Field := ⟨0x10c, 32, 0x20, 2, 1, .wo, 0x0, .any, false⟩
def R.CAN_OBJ_CTRL_resume : Field := ⟨0x10c, 32, 0x20, 3, 1, .wo, 0x0, .dep, false⟩
def R.CAN_OBJ_STAT_tstate : Field := ⟨0x110, 32, 0x20, 0, 3, .ro, 0x0, .any, false⟩
def R.CAN_OBJ_STAT_new : Field := ⟨0x110, 32, 0x20, 3, 1, .ro, 0x0, .any, false⟩
def R.CAN_OBJ_STAT_lost : Field := ⟨0x110, 32, 0x20, 4, 1, .ro, 0x0, .any, false⟩
def R.CAN_OBJ_STAT_cres : Field := ⟨0x110, 32, 0x20, 5, 2, .ro, 0x0, .any, false⟩
def R.CAN_OBJ_STAT_reply_ok : Field := ⟨0x110, 32, 0x20, 7, 1, .ro, 0x0, .any, false⟩
def R.CAN_OBJ_STAT_reply_tmo : Field := ⟨0x110, 32, 0x20, 8, 1, .ro, 0x0, .any, false⟩
def R.CAN_OBJ_STAT_rfd : Field := ⟨0x110, 32, 0x20, 9, 1, .ro, 0x0, .any, false⟩
def R.CAN_OBJ_STAT_rdlc : Field := ⟨0x110, 32, 0x20, 10, 4, .ro, 0x0, .any, false⟩
def R.CAN_OBJ_STAT_rcnt : Field := ⟨0x110, 32, 0x20, 16, 8, .ro, 0x0, .any, false⟩
def R.CAN_OBJ_STAT_coll : Field := ⟨0x110, 32, 0x20, 24, 8, .ro, 0x0, .any, false⟩
def R.CAN_OBJ_RID_id : Field := ⟨0x114, 32, 0x20, 0, 29, .ro, 0x0, .any, false⟩
def R.CAN_OBJ_RID_ide : Field := ⟨0x114, 32, 0x20, 29, 1, .ro, 0x0, .any, false⟩
def R.CAN_OBJ_RID_rtr : Field := ⟨0x114, 32, 0x20, 30, 1, .ro, 0x0, .any, false⟩
def R.CAN_OBJ_T_LO_t : Field := ⟨0x118, 32, 0x20, 0, 32, .ro, 0x0, .any, false⟩
def R.CAN_OBJ_T_HI_t : Field := ⟨0x11c, 32, 0x20, 0, 32, .ro, 0x0, .any, false⟩
def R.CAN_OBJ_DATA_data : Field := ⟨0x800, 512, 0x4, 0, 32, .rw, 0x0, .any, false⟩

-- Table 17-4
def R.PNL_CFG_en : Field := ⟨0x40, 1, 0, 0, 1, .rws, 0x0, .any, false⟩
def R.PNL_CFG_depth : Field := ⟨0x40, 1, 0, 1, 1, .rws, 0x1, .any, false⟩
def R.PNL_CFG_inv : Field := ⟨0x40, 1, 0, 2, 2, .rws, 0x0, .rng 0 2, false⟩
def R.PNL_CFG_div : Field := ⟨0x40, 1, 0, 4, 2, .rws, 0x0, .dep, false⟩
def R.PNL_CFG_disp : Field := ⟨0x40, 1, 0, 6, 1, .rws, 0x1, .any, false⟩
def R.PNL_CFG_t_pwr : Field := ⟨0x40, 1, 0, 8, 4, .rws, 0x1, .rng 0 10, false⟩
def R.PNL_GEOM_width : Field := ⟨0x44, 1, 0, 0, 9, .rws, 0x190, .dep, false⟩
def R.PNL_GEOM_height : Field := ⟨0x44, 1, 0, 16, 8, .rws, 0xf0, .rng 33 240, false⟩
def R.PNL_TB_t1 : Field := ⟨0x48, 1, 0, 0, 8, .rws, 0x0, .dep, false⟩
def R.PNL_TB_t2 : Field := ⟨0x48, 1, 0, 8, 8, .rws, 0x19, .dep, false⟩
def R.PNL_TB_t3 : Field := ⟨0x48, 1, 0, 16, 8, .rws, 0x32, .dep, false⟩
def R.PNL_TB_src : Field := ⟨0x48, 1, 0, 24, 8, .rws, 0x34, .any, false⟩
def R.PNL_BDRV_f_com : Field := ⟨0x4c, 4, 0x4, 0, 6, .rws, 0x1, .rng 1 60, false⟩
def R.PNL_BDRV_gap : Field := ⟨0x4c, 4, 0x4, 8, 8, .rws, 0x2, .rng 2 200, false⟩
def R.PNL_BAND_blink : Field := ⟨0x5c, 1, 0, 0, 1, .rws, 0x1, .any, false⟩
def R.PNL_BAND_col1 : Field := ⟨0x5c, 1, 0, 1, 3, .rws, 0x7, .any, false⟩
def R.PNL_BAND_col2 : Field := ⟨0x5c, 1, 0, 4, 3, .rws, 0x3, .any, false⟩
def R.PNL_BAND_col3 : Field := ⟨0x5c, 1, 0, 7, 3, .rws, 0x1, .any, false⟩
def R.PNL_LSEL_line : Field := ⟨0x60, 1, 0, 0, 8, .rw, 0x20, .dep, false⟩
def R.PNL_CTRL_put : Field := ⟨0x64, 1, 0, 0, 1, .wo, 0x0, .any, false⟩
def R.PNL_CTRL_update : Field := ⟨0x64, 1, 0, 1, 1, .wo, 0x0, .any, false⟩
def R.PNL_CTRL_full : Field := ⟨0x64, 1, 0, 2, 1, .wo, 0x0, .any, false⟩
def R.PNL_CTRL_copy_front : Field := ⟨0x64, 1, 0, 3, 1, .wo, 0x0, .any, false⟩
def R.PNL_STAT_busy : Field := ⟨0x68, 1, 0, 0, 1, .ro, 0x0, .any, false⟩
def R.PNL_STAT_pending : Field := ⟨0x68, 1, 0, 1, 1, .ro, 0x0, .any, false⟩
def R.PNL_STAT_rewrite : Field := ⟨0x68, 1, 0, 2, 1, .ro, 0x0, .any, false⟩
def R.PNL_STAT_crc_err : Field := ⟨0x68, 1, 0, 3, 1, .ro, 0x0, .any, false⟩
def R.PNL_STAT_src_bad : Field := ⟨0x68, 1, 0, 4, 1, .ro, 0x0, .any, false⟩
def R.PNL_STAT_tband : Field := ⟨0x68, 1, 0, 5, 2, .ro, 0x0, .any, false⟩
def R.PNL_STAT_powered : Field := ⟨0x68, 1, 0, 7, 1, .ro, 0x0, .any, false⟩
def R.PNL_STAT_line : Field := ⟨0x68, 1, 0, 8, 8, .ro, 0x0, .any, false⟩
def R.PNL_GEN_gen : Field := ⟨0x6c, 1, 0, 0, 32, .ro, 0x0, .any, true⟩
def R.PNL_LEDGER_last : Field := ⟨0x70, 1, 0, 0, 8, .ro, 0xff, .any, true⟩
def R.PNL_LEDGER_complete : Field := ⟨0x70, 1, 0, 8, 1, .ro, 0x0, .any, true⟩
def R.PNL_LEDGER_GEN_gen : Field := ⟨0x74, 1, 0, 0, 32, .ro, 0x0, .any, true⟩
def R.PNL_FCRC_crc : Field := ⟨0x78, 1, 0, 0, 32, .ro, 0x0, .any, true⟩
def R.PNL_CNT_interrupted : Field := ⟨0x7c, 1, 0, 0, 16, .ro, 0x0, .any, true⟩
def R.PNL_CNT_verify : Field := ⟨0x7c, 1, 0, 16, 16, .ro, 0x0, .any, true⟩
def R.PNL_LBUF_data : Field := ⟨0x200, 64, 0x4, 0, 32, .rw, 0x0, .dep, false⟩

-- Table 18-3
def R.RMP_CFG_en : Field := ⟨0x40, 1, 0, 0, 1, .rws, 0x0, .any, false⟩
def R.RMP_CFG_tmode : Field := ⟨0x40, 1, 0, 1, 1, .rws, 0x0, .any, false⟩
def R.RMP_CFG_own : Field := ⟨0x40, 1, 0, 2, 2, .rws, 0x0, .rng 0 2, false⟩
def R.RMP_CFG_keep : Field := ⟨0x40, 1, 0, 4, 1, .rws, 0x1, .any, false⟩
def R.RMP_CFG_stop_prof : Field := ⟨0x40, 1, 0, 5, 3, .rws, 0x0, .any, false⟩
def R.RMP_CFG_dor_en : Field := ⟨0x40, 1, 0, 8, 1, .rws, 0x1, .any, false⟩
def R.RMP_CFG_hph : Field := ⟨0x40, 1, 0, 12, 4, .rws, 0xa, .rng 8 12, false⟩
def R.RMP_LIM_V_vmax : Field := ⟨0x44, 1, 0, 0, 32, .rws, 0x447a0000, .dep, false⟩
def R.RMP_LIM_A_amax : Field := ⟨0x48, 1, 0, 0, 32, .rws, 0x461c4000, .fpos, false⟩
def R.RMP_LIM_D_dmax : Field := ⟨0x4c, 1, 0, 0, 32, .rws, 0x461c4000, .fpos, false⟩
def R.RMP_LIM_J_jmax : Field := ⟨0x50, 1, 0, 0, 32, .rws, 0x47c35000, .fpos, false⟩
def R.RMP_VLIM_LO_lo : Field := ⟨0x54, 1, 0, 0, 32, .rws, 0x80000000, .dep, false⟩
def R.RMP_VLIM_HI_hi : Field := ⟨0x58, 1, 0, 0, 32, .rws, 0x7fffffff, .dep, false⟩
def R.RMP_DABS_dabs : Field := ⟨0x5c, 1, 0, 0, 32, .rws, 0x469c4000, .dep, false⟩
def R.RMP_OUT_wmode : Field := ⟨0x60, 1, 0, 0, 1, .rws, 0x1, .any, false⟩
def R.RMP_OUT_wfix : Field := ⟨0x60, 1, 0, 1, 4, .rws, 0x0, .rng 0 8, false⟩
def R.RMP_OUT_step_en : Field := ⟨0x60, 1, 0, 5, 1, .rws, 0x1, .any, false⟩
def R.RMP_OUT_f_up : Field := ⟨0x60, 1, 0, 8, 16, .rws, 0xfa, .rng 10 1000, false⟩
def R.RMP_OUT_t_dir : Field := ⟨0x60, 1, 0, 24, 8, .rws, 0xa, .rng 1 255, false⟩
def R.RMP_IN_wi : Field := ⟨0x64, 1, 0, 0, 4, .rws, 0x8, .rng 0 8, false⟩
def R.RMP_IN_dir_inv : Field := ⟨0x64, 1, 0, 4, 1, .rws, 0x0, .any, false⟩
def R.RMP_LREF_ch : Field := ⟨0x68, 1, 0, 0, 2, .rws, 0x0, .any, false⟩
def R.RMP_LREF_bipolar : Field := ⟨0x68, 1, 0, 2, 1, .rws, 0x0, .any, false⟩
def R.RMP_LREF_en : Field := ⟨0x68, 1, 0, 3, 1, .rws, 0x0, .any, false⟩
def R.RMP_LREF_VFS_vfs : Field := ⟨0x6c, 1, 0, 0, 32, .rws, 0x447a0000, .fpos, false⟩
def R.RMP_TGT_tgt : Field := ⟨0x70, 1, 0, 0, 32, .rw, 0x0, .dep, false⟩
def R.RMP_CTRL_ack_pos : Field := ⟨0x74, 1, 0, 0, 1, .wo, 0x0, .any, false⟩
def R.RMP_CTRL_setpos : Field := ⟨0x74, 1, 0, 1, 1, .wo, 0x0, .dep, false⟩
def R.RMP_CTRL_clr : Field := ⟨0x74, 1, 0, 2, 1, .wo, 0x0, .any, false⟩
def R.RMP_SETPOS_pos : Field := ⟨0x78, 1, 0, 0, 32, .rw, 0x0, .any, false⟩
def R.RMP_STAT_src : Field := ⟨0x80, 1, 0, 0, 3, .ro, 0x0, .any, false⟩
def R.RMP_STAT_moving : Field := ⟨0x80, 1, 0, 3, 1, .ro, 0x0, .any, false⟩
def R.RMP_STAT_dir : Field := ⟨0x80, 1, 0, 4, 1, .ro, 0x0, .any, false⟩
def R.RMP_STAT_w : Field := ⟨0x80, 1, 0, 5, 4, .ro, 0x0, .any, false⟩
def R.RMP_STAT_phase : Field := ⟨0x80, 1, 0, 9, 2, .ro, 0x0, .any, false⟩
def R.RMP_STAT_dclamp : Field := ⟨0x80, 1, 0, 11, 1, .ro, 0x0, .any, false⟩
def R.RMP_STAT_vlim_hit : Field := ⟨0x80, 1, 0, 12, 1, .ro, 0x0, .any, false⟩
def R.RMP_STAT_pos_unc : Field := ⟨0x80, 1, 0, 13, 1, .ro, 0x0, .any, true⟩
def R.RMP_STAT_pos_lost : Field := ⟨0x80, 1, 0, 14, 1, .ro, 0x0, .any, true⟩
def R.RMP_STAT_dren : Field := ⟨0x80, 1, 0, 15, 1, .ro, 0x0, .any, false⟩
def R.RMP_STAT_dflt : Field := ⟨0x80, 1, 0, 16, 1, .ro, 0x0, .any, false⟩
def R.RMP_STAT_dstop : Field := ⟨0x80, 1, 0, 17, 1, .ro, 0x0, .any, false⟩
def R.RMP_STAT_ovr : Field := ⟨0x80, 1, 0, 18, 1, .ro, 0x0, .any, false⟩
def R.RMP_POS_pos : Field := ⟨0x84, 1, 0, 0, 32, .ro, 0x0, .any, true⟩
def R.RMP_VEL_vel : Field := ⟨0x88, 1, 0, 0, 32, .ro, 0x0, .any, false⟩
def R.RMP_ACC_acc : Field := ⟨0x8c, 1, 0, 0, 32, .ro, 0x0, .any, false⟩
def R.RMP_DEM_dem : Field := ⟨0x90, 1, 0, 0, 8, .ro, 0x0, .any, false⟩
def R.RMP_DEM_prof : Field := ⟨0x90, 1, 0, 8, 3, .ro, 0x0, .any, false⟩
def R.RMP_DEM_active : Field := ⟨0x90, 1, 0, 11, 1, .ro, 0x0, .any, false⟩
def R.RMP_PHASE_ph : Field := ⟨0x94, 1, 0, 0, 12, .ro, 0x0, .any, false⟩
def R.RMP_CNT_demands : Field := ⟨0x98, 1, 0, 0, 16, .ro, 0x0, .any, false⟩
def R.RMP_CNT_dclamps : Field := ⟨0x98, 1, 0, 16, 16, .ro, 0x0, .any, false⟩
def R.RMP_PR_V_v_dem : Field := ⟨0x100, 8, 0x10, 0, 32, .rws, 0x0, .fnonneg, false⟩
def R.RMP_PR_D_d_p : Field := ⟨0x104, 8, 0x10, 0, 32, .rws, 0x461c4000, .fpos, false⟩
def R.RMP_PR_J_j_p : Field := ⟨0x108, 8, 0x10, 0, 32, .rws, 0x47c35000, .fpos, false⟩

-- Table 19-7
def R.SAF_CFG_rmp_mode : Field := ⟨0x40, 1, 0, 0, 1, .rws, 0x0, .any, false⟩
def R.SAF_CFG_rmp_prof : Field := ⟨0x40, 1, 0, 1, 3, .rws, 0x0, .any, false⟩
def R.SAF_CFG_fold_fault : Field := ⟨0x40, 1, 0, 4, 1, .rws, 0x0, .any, false⟩
def R.SAF_CFG_auto_st : Field := ⟨0x40, 1, 0, 5, 1, .rws, 0x1, .any, false⟩
def R.SAF_CFG_dem_min : Field := ⟨0x40, 1, 0, 8, 8, .rws, 0xa, .rng 5 100, false⟩
def R.SAF_DIAG_EN_en : Field := ⟨0x44, 1, 0, 0, 15, .rws, 0x7fff, .ones 7, false⟩
def R.SAF_DO_SAFE_lvl : Field := ⟨0x48, 1, 0, 0, 8, .rws, 0x0, .any, false⟩
def R.SAF_LPO_SAFE_lvl : Field := ⟨0x4c, 1, 0, 0, 8, .rws, 0x55, .dep, false⟩
def R.SAF_LPO_MON_mask : Field := ⟨0x50, 1, 0, 0, 4, .rws, 0xf, .any, false⟩
def R.SAF_FBE_tasks : Field := ⟨0x54, 1, 0, 0, 8, .rws, 0x0, .any, false⟩
def R.SAF_TRIP_entry : Field := ⟨0x60, 16, 0x4, 0, 14, .rws, 0x0, .any, false⟩
def R.SAF_TRIP_level : Field := ⟨0x60, 16, 0x4, 14, 2, .rws, 0x0, .rng 0 2, false⟩
def R.SAF_STAT_safe : Field := ⟨0xa0, 1, 0, 0, 1, .ro, 0x1, .any, true⟩
def R.SAF_STAT_latched : Field := ⟨0xa0, 1, 0, 1, 1, .ro, 0x0, .any, true⟩
def R.SAF_STAT_demand : Field := ⟨0xa0, 1, 0, 2, 1, .ro, 0x0, .any, false⟩
def R.SAF_STAT_trip : Field := ⟨0xa0, 1, 0, 3, 1, .ro, 0x0, .any, false⟩
def R.SAF_STAT_claim : Field := ⟨0xa0, 1, 0, 4, 1, .ro, 0x0, .any, false⟩
def R.SAF_STAT_bypass : Field := ⟨0xa0, 1, 0, 5, 1, .ro, 0x0, .any, false⟩
def R.SAF_STAT_st_due : Field := ⟨0xa0, 1, 0, 6, 1, .ro, 0x0, .any, false⟩
def R.SAF_STAT_alert : Field := ⟨0xa0, 1, 0, 7, 1, .ro, 0x0, .any, false⟩
def R.SAF_LIVE_live : Field := ⟨0xa4, 1, 0, 0, 15, .ro, 0x0, .any, false⟩
def R.SAF_FAIL_fail : Field := ⟨0xa8, 1, 0, 0, 15, .w1c, 0x0, .any, true⟩
def R.SAF_CAUSE_code : Field := ⟨0xac, 1, 0, 0, 4, .ro, 0x0, .any, true⟩
def R.SAF_CAUSE_kind : Field := ⟨0xac, 1, 0, 4, 4, .ro, 0x0, .any, true⟩
def R.SAF_CAUSE_detail : Field := ⟨0xac, 1, 0, 8, 24, .ro, 0x0, .any, true⟩
def R.SAF_T_LO_t : Field := ⟨0xb0, 1, 0, 0, 32, .ro, 0x0, .any, true⟩
def R.SAF_T_HI_t : Field := ⟨0xb4, 1, 0, 0, 32, .ro, 0x0, .any, true⟩
def R.SAF_CTRL_release : Field := ⟨0xb8, 1, 0, 0, 1, .wo, 0x0, .dep, false⟩
def R.SAF_CTRL_alert_clr : Field := ⟨0xb8, 1, 0, 1, 1, .wo, 0x0, .any, false⟩
def R.SAF_CTRL_enter : Field := ⟨0xb8, 1, 0, 2, 1, .wo, 0x0, .any, false⟩
def R.SAF_CTRL_key : Field := ⟨0xb8, 1, 0, 8, 8, .wo, 0x0, .any, false⟩
def R.SAF_DT_t_sac : Field := ⟨0xbc, 1, 0, 0, 16, .ro, 0x0, .any, false⟩
def R.SAF_REEV_reev : Field := ⟨0xc0, 1, 0, 0, 32, .ro, 0x0, .any, false⟩
def R.SAF_CNT_safe : Field := ⟨0xc4, 1, 0, 0, 16, .ro, 0x0, .any, true⟩
def R.SAF_CNT_demands : Field := ⟨0xc4, 1, 0, 16, 16, .ro, 0x0, .any, true⟩
def R.SAF_ST_hours : Field := ⟨0xc8, 1, 0, 0, 16, .ro, 0x0, .any, true⟩
def R.SAF_CAUSE_PT_point : Field := ⟨0xcc, 1, 0, 0, 26, .ro, 0x0, .any, true⟩

-- Table 20-4
def R.AGE_CFG_auto : Field := ⟨0x40, 1, 0, 0, 1, .rws, 0x1, .any, false⟩
def R.AGE_CFG_apply : Field := ⟨0x40, 1, 0, 1, 1, .rws, 0x1, .any, false⟩
def R.AGE_CFG_interval : Field := ⟨0x40, 1, 0, 8, 8, .rws, 0x18, .rng 1 168, false⟩
def R.AGE_CFG_target : Field := ⟨0x40, 1, 0, 16, 8, .rws, 0x19, .rng 15 50, false⟩
def R.AGE_CFG_urgent : Field := ⟨0x40, 1, 0, 24, 8, .rws, 0xa, .dep, false⟩
def R.AGE_LIM_per_max : Field := ⟨0x44, 1, 0, 0, 10, .rws, 0x12c, .dep, false⟩
def R.AGE_LIM_ofs_max : Field := ⟨0x44, 1, 0, 16, 8, .rws, 0xc, .rng 0 12, false⟩
def R.AGE_LIM_cal_min : Field := ⟨0x44, 1, 0, 24, 8, .rws, 0x4, .rng 1 24, false⟩
def R.AGE_LIM2_scrub_min : Field := ⟨0x48, 1, 0, 0, 8, .rws, 0x4, .rng 1 168, false⟩
def R.AGE_LIM2_xtal_lim : Field := ⟨0x48, 1, 0, 8, 8, .rws, 0x14, .rng 1 255, false⟩
def R.AGE_STAT_running : Field := ⟨0x4c, 1, 0, 0, 1, .ro, 0x0, .any, false⟩
def R.AGE_STAT_notice : Field := ⟨0x4c, 1, 0, 1, 1, .ro, 0x0, .any, false⟩
def R.AGE_STAT_critical : Field := ⟨0x4c, 1, 0, 2, 1, .ro, 0x0, .any, false⟩
def R.AGE_STAT_power_cap : Field := ⟨0x4c, 1, 0, 3, 1, .ro, 0x0, .any, false⟩
def R.AGE_STAT_low_dom : Field := ⟨0x4c, 1, 0, 4, 4, .ro, 0x0, .any, false⟩
def R.AGE_STAT_low_class : Field := ⟨0x4c, 1, 0, 8, 2, .ro, 0x0, .any, false⟩
def R.AGE_STAT_plans : Field := ⟨0x4c, 1, 0, 16, 8, .ro, 0x0, .any, false⟩
def R.AGE_T_LO_t : Field := ⟨0x50, 1, 0, 0, 32, .ro, 0x0, .any, false⟩
def R.AGE_T_HI_t : Field := ⟨0x54, 1, 0, 0, 32, .ro, 0x0, .any, false⟩
def R.AGE_ACT_last : Field := ⟨0x58, 1, 0, 0, 16, .ro, 0x0, .any, false⟩
def R.AGE_ACT_total : Field := ⟨0x58, 1, 0, 16, 16, .ro, 0x0, .any, false⟩
def R.AGE_XTAL_drift : Field := ⟨0x5c, 1, 0, 0, 16, .ro, 0x0, .any, false⟩
def R.AGE_CAP_per : Field := ⟨0x60, 1, 0, 0, 10, .ro, 0x0, .any, true⟩
def R.AGE_CAP_cal : Field := ⟨0x60, 1, 0, 16, 8, .ro, 0x0, .any, true⟩
def R.AGE_CAP_scrub : Field := ⟨0x60, 1, 0, 24, 8, .ro, 0x0, .any, true⟩
def R.AGE_CTRL_reset_ofs : Field := ⟨0x64, 1, 0, 0, 1, .wo, 0x0, .dep, false⟩
def R.AGE_DOM_margin : Field := ⟨0x80, 12, 0x4, 0, 8, .ro, 0x64, .any, true⟩
def R.AGE_DOM_class : Field := ⟨0x80, 12, 0x4, 8, 2, .ro, 0x0, .any, true⟩
def R.AGE_DOM_stale : Field := ⟨0x80, 12, 0x4, 10, 1, .ro, 0x0, .any, true⟩
def R.AGE_DOM_mon : Field := ⟨0x80, 12, 0x4, 12, 4, .ro, 0x0, .any, true⟩
def R.AGE_DOM_life : Field := ⟨0x80, 12, 0x4, 16, 8, .ro, 0xff, .any, true⟩
def R.AGE_DOM_ofs : Field := ⟨0x80, 12, 0x4, 24, 8, .ro, 0x0, .any, true⟩

-- Table 21-7
def R.SYS_PWR_req : Field := ⟨0x50, 1, 0, 0, 2, .rw, 0x0, .rng 0 2, false⟩
def R.SYS_PWR_wake_to : Field := ⟨0x50, 1, 0, 2, 1, .rw, 0x0, .any, false⟩
def R.SYS_PWR_busy : Field := ⟨0x50, 1, 0, 3, 1, .ro, 0x0, .any, false⟩
def R.SYS_WAKE_EN_host : Field := ⟨0x54, 1, 0, 0, 1, .ro, 0x1, .any, false⟩
def R.SYS_WAKE_EN_en : Field := ⟨0x54, 1, 0, 1, 5, .rws, 0x0, .any, false⟩
def R.SYS_WAKE_EN_tamper : Field := ⟨0x54, 1, 0, 6, 1, .ro, 0x1, .any, false⟩
def R.SYS_WAKE_STAT_cause : Field := ⟨0x58, 1, 0, 0, 3, .ro, 0x0, .any, true⟩
def R.SYS_WAKE_STAT_wakes : Field := ⟨0x58, 1, 0, 16, 16, .ro, 0x0, .any, true⟩
def R.SYS_WAKE_T_LO_t : Field := ⟨0x5c, 1, 0, 0, 32, .ro, 0x0, .any, true⟩
def R.SYS_WAKE_T_HI_t : Field := ⟨0x60, 1, 0, 0, 32, .ro, 0x0, .any, true⟩

-- Table 21-8
def R.SEC_UID_LO_uid : Field := ⟨0x40, 1, 0, 0, 32, .ro, 0x0, .any, true⟩
def R.SEC_UID_HI_uid : Field := ⟨0x44, 1, 0, 0, 32, .ro, 0x0, .any, true⟩
def R.SEC_KEYS_valid : Field := ⟨0x48, 1, 0, 0, 4, .ro, 0x1, .any, true⟩
def R.SEC_KEYS_aes : Field := ⟨0x48, 1, 0, 4, 1, .ro, 0x0, .any, true⟩
def R.SEC_CFG_enc_req : Field := ⟨0x4c, 1, 0, 0, 1, .rws, 0x0, .any, true⟩
def R.SEC_CFG_td_en : Field := ⟨0x4c, 1, 0, 1, 1, .rws, 0x1, .any, true⟩
def R.SEC_CFG_sess_min : Field := ⟨0x4c, 1, 0, 8, 8, .rws, 0x1e, .rng 1 240, true⟩
def R.SEC_CFG_tamp0 : Field := ⟨0x4c, 1, 0, 16, 2, .rws, 0x0, .rng 0 2, true⟩
def R.SEC_CFG_tamp1 : Field := ⟨0x4c, 1, 0, 18, 2, .rws, 0x0, .rng 0 2, true⟩
def R.SEC_CFG_tamp_erase : Field := ⟨0x4c, 1, 0, 20, 1, .rws, 0x0, .any, true⟩
def R.SEC_STAT_h_lvl : Field := ⟨0x50, 1, 0, 0, 2, .ro, 0x0, .any, true⟩
def R.SEC_STAT_t_lvl : Field := ⟨0x50, 1, 0, 2, 2, .ro, 0x0, .any, true⟩
def R.SEC_STAT_alert : Field := ⟨0x50, 1, 0, 4, 1, .ro, 0x0, .any, true⟩
def R.SEC_STAT_lockout : Field := ⟨0x50, 1, 0, 5, 1, .ro, 0x0, .any, true⟩
def R.SEC_STAT_tamp_live : Field := ⟨0x50, 1, 0, 6, 2, .ro, 0x0, .any, true⟩
def R.SEC_STAT_fails : Field := ⟨0x50, 1, 0, 8, 8, .ro, 0x0, .any, true⟩
def R.SEC_TAMP_held : Field := ⟨0x54, 1, 0, 0, 2, .w1c, 0x0, .any, true⟩
def R.SEC_TAMP_in_backup : Field := ⟨0x54, 1, 0, 2, 1, .w1c, 0x0, .any, true⟩
def R.SEC_TAMP_T_LO_t : Field := ⟨0x58, 1, 0, 0, 32, .ro, 0x0, .any, true⟩
def R.SEC_TAMP_T_HI_t : Field := ⟨0x5c, 1, 0, 0, 32, .ro, 0x0, .any, true⟩
def R.SEC_CTRL_challenge : Field := ⟨0x60, 1, 0, 0, 1, .wo, 0x0, .any, true⟩
def R.SEC_CTRL_open : Field := ⟨0x60, 1, 0, 1, 1, .wo, 0x0, .dep, true⟩
def R.SEC_CTRL_level : Field := ⟨0x60, 1, 0, 2, 2, .wo, 0x0, .rng 1 2, true⟩
def R.SEC_CTRL_close : Field := ⟨0x60, 1, 0, 4, 1, .wo, 0x0, .any, true⟩
def R.SEC_CTRL_alert_clr : Field := ⟨0x60, 1, 0, 5, 1, .wo, 0x0, .dep, true⟩
def R.SEC_CTRL_key : Field := ⟨0x60, 1, 0, 8, 8, .wo, 0x0, .any, true⟩
def R.SEC_NONCE_nonce : Field := ⟨0x64, 4, 0x4, 0, 32, .ro, 0x0, .any, false⟩
def R.SEC_RESP_resp : Field := ⟨0x80, 16, 0x4, 0, 32, .wo, 0x0, .any, false⟩
def R.SEC_IMG_target : Field := ⟨0xc0, 1, 0, 0, 3, .ro, 0x0, .any, true⟩
def R.SEC_IMG_sig_ok : Field := ⟨0xc0, 1, 0, 3, 1, .ro, 0x0, .any, true⟩
def R.SEC_IMG_decrypted : Field := ⟨0xc0, 1, 0, 4, 1, .ro, 0x0, .any, true⟩
def R.SEC_IMG_slot : Field := ⟨0xc0, 1, 0, 5, 2, .ro, 0x0, .any, true⟩
def R.SEC_IMG_ID_id : Field := ⟨0xc4, 1, 0, 0, 32, .ro, 0x0, .any, true⟩

-- Table 21-9
def R.DBG_CTRL_fbe_halt : Field := ⟨0x40, 1, 0, 0, 1, .rw, 0x0, .dep, false⟩
def R.DBG_CTRL_step : Field := ⟨0x40, 1, 0, 1, 1, .wo, 0x0, .dep, false⟩
def R.DBG_CTRL_task : Field := ⟨0x40, 1, 0, 4, 4, .rw, 0x0, .any, false⟩
def R.DBG_STAT_tden : Field := ⟨0x44, 1, 0, 0, 1, .ro, 0x0, .any, false⟩
def R.DBG_STAT_session : Field := ⟨0x44, 1, 0, 1, 1, .ro, 0x0, .any, false⟩
def R.DBG_STAT_halted : Field := ⟨0x44, 1, 0, 2, 1, .ro, 0x0, .any, false⟩
def R.DBG_STAT_refused : Field := ⟨0x44, 1, 0, 8, 8, .ro, 0x0, .any, false⟩

-- Table 23-3
def R.LNK_CFG_link : Field := ⟨0x40, 1, 0, 0, 4, .rw, 0x0, .rng 0 10, false⟩
def R.LNK_CFG_inst : Field := ⟨0x40, 1, 0, 4, 4, .rw, 0x0, .dep, false⟩
def R.LNK_CFG_pat : Field := ⟨0x40, 1, 0, 8, 2, .rw, 0x0, .any, false⟩
def R.LNK_CFG_inv : Field := ⟨0x40, 1, 0, 10, 1, .rw, 0x0, .any, false⟩
def R.LNK_CFG_ext : Field := ⟨0x40, 1, 0, 11, 1, .rw, 0x0, .dep, false⟩
def R.LNK_DUR_dur : Field := ⟨0x44, 1, 0, 0, 16, .rw, 0x3e8, .any, false⟩
def R.LNK_INS_exp : Field := ⟨0x48, 1, 0, 0, 5, .rw, 0x0, .any, false⟩
def R.LNK_CTRL_go : Field := ⟨0x4c, 1, 0, 0, 1, .wo, 0x0, .dep, false⟩
def R.LNK_CTRL_stop : Field := ⟨0x4c, 1, 0, 1, 1, .wo, 0x0, .any, false⟩
def R.LNK_CTRL_ins1 : Field := ⟨0x4c, 1, 0, 2, 1, .wo, 0x0, .any, false⟩
def R.LNK_CTRL_clr : Field := ⟨0x4c, 1, 0, 3, 1, .wo, 0x0, .any, false⟩
def R.LNK_STAT_state : Field := ⟨0x50, 1, 0, 0, 2, .ro, 0x0, .any, false⟩
def R.LNK_STAT_lost_sync : Field := ⟨0x50, 1, 0, 2, 1, .ro, 0x0, .any, false⟩
def R.LNK_STAT_status : Field := ⟨0x50, 1, 0, 8, 3, .ro, 0x0, .any, false⟩
def R.LNK_STAT_reason : Field := ⟨0x50, 1, 0, 12, 4, .ro, 0x0, .any, false⟩
def R.LNK_STAT_link : Field := ⟨0x50, 1, 0, 16, 4, .ro, 0x0, .any, false⟩
def R.LNK_BITS_LO_bits : Field := ⟨0x54, 1, 0, 0, 32, .ro, 0x0, .any, false⟩
def R.LNK_BITS_HI_bits : Field := ⟨0x58, 1, 0, 0, 32, .ro, 0x0, .any, false⟩
def R.LNK_ERR_err : Field := ⟨0x5c, 1, 0, 0, 32, .ro, 0x0, .any, false⟩
def R.LNK_INSCNT_ins : Field := ⟨0x60, 1, 0, 0, 32, .ro, 0x0, .any, false⟩
def R.LNK_SYNC_sync : Field := ⟨0x64, 1, 0, 0, 16, .ro, 0x0, .any, false⟩
def R.LNK_T_LO_t : Field := ⟨0x68, 1, 0, 0, 32, .ro, 0x0, .any, false⟩
def R.LNK_T_HI_t : Field := ⟨0x6c, 1, 0, 0, 32, .ro, 0x0, .any, false⟩
def R.LNK_CAN_ID_id : Field := ⟨0x80, 1, 0, 0, 29, .rw, 0x7ff, .any, false⟩
def R.LNK_CAN_ID_ide : Field := ⟨0x80, 1, 0, 29, 1, .rw, 0x0, .any, false⟩
def R.LNK_HBUF_buf : Field := ⟨0x100, 64, 0x4, 0, 32, .rw, 0x0, .any, false⟩

/-- The fields of each page kind from 0x30 upward; a plane page's SPX_PL_P0 and SPX_PL_P1 are in `Kind.planeFields`. -/
def Kind.fields : Kind → List Field
  | .sys =>
    [R.SYS_ID_part, R.SYS_ID_grade, R.SYS_ID_rev, R.SYS_STATE_pstate, R.SYS_STATE_life, R.SYS_STATE_ready, R.SYS_STATE_pfw, R.SYS_STATE_dom_on] ++
    [R.SYS_START_cause, R.SYS_START_clean, R.SYS_START_panel_rewrite, R.SYS_START_pfw_hold, R.SYS_T_READY_t_ready, R.SYS_PWR_req, R.SYS_PWR_wake_to, R.SYS_PWR_busy] ++
    [R.SYS_WAKE_EN_host, R.SYS_WAKE_EN_en, R.SYS_WAKE_EN_tamper, R.SYS_WAKE_STAT_cause, R.SYS_WAKE_STAT_wakes, R.SYS_WAKE_T_LO_t, R.SYS_WAKE_T_HI_t]
  | .hpi =>
    [R.HPI_CFG_turn, R.HPI_CFG_view, R.HPI_STAT_wq_level, R.HPI_ERR_wr_drop, R.HPI_ERR_bad_op, R.HPI_ERR_bad_addr, R.HPI_ERR_burst_over, R.HPI_CTRL_clr_err] ++
    [R.HPI_CTRL_gc_go, R.HPI_CTRL_gc_abandon, R.HPI_GC_joined, R.HPI_GC_busy, R.HPI_GC_seq, R.HPI_IRQ_BLK_blk, R.HPI_IRQ_NEXT_base, R.HPI_IRQ_NEXT_none] ++
    [R.HPI_LAST_CMT_LO_t_lo, R.HPI_LAST_CMT_HI_t_hi]
  | .tly =>
    [R.TLY_OP_op, R.TLY_TMO_tmo, R.TLY_ARG_arg, R.TLY_GO_tally, R.TLY_LAST_last, R.TLY_COUNT_outstanding, R.TLY_COUNT_queued, R.TLY_CQ0_tally] ++
    [R.TLY_CQ0_status, R.TLY_CQ0_reason, R.TLY_CQ1_result0, R.TLY_CQ2_result1, R.TLY_CQ_POP_pop, R.TLY_CANCEL_tally, R.TLY_CANCEL_RES_res, R.TLY_QUERY_tally] ++
    [R.TLY_QSTATE_state, R.TLY_QSTATE_progress]
  | .tbs =>
    [R.TBS_CTRL_halt, R.TBS_CTRL_set, R.TBS_CTRL_adjust, R.TBS_CTRL_set_cal, R.TBS_STAT_osf, R.TBS_STAT_clamped_set, R.TBS_STAT_halted, R.TBS_STAT_x32_ok] ++
    [R.TBS_TB_LO_tb, R.TBS_TB_HI_tb, R.TBS_CAL_LO_cal, R.TBS_CAL_HI_cal, R.TBS_SET_LO_set, R.TBS_SET_HI_set, R.TBS_SET_DATE_year, R.TBS_SET_DATE_month] ++
    [R.TBS_SET_DATE_day, R.TBS_SET_TIME_hour, R.TBS_SET_TIME_minute, R.TBS_SET_TIME_second, R.TBS_DATE_year, R.TBS_DATE_month, R.TBS_DATE_day, R.TBS_TIME_hour] ++
    [R.TBS_TIME_minute, R.TBS_TIME_second, R.TBS_WDAY_free, R.TBS_WDAY_calc, R.TBS_LOCAL_ofs, R.TBS_TRIM_trim, R.TBS_TCOMP_k, R.TBS_TCOMP_t0] ++
    [R.TBS_TCOMP_en, R.TBS_CTEMP_temp, R.TBS_ALMA_second, R.TBS_ALMB_second, R.TBS_ALMA_minute, R.TBS_ALMB_minute, R.TBS_ALMA_hour, R.TBS_ALMB_hour] ++
    [R.TBS_ALMA_day, R.TBS_ALMB_day, R.TBS_ALMA_month, R.TBS_ALMB_month, R.TBS_ALMA_wday, R.TBS_ALMB_wday, R.TBS_ALMA_CTL_mask, R.TBS_ALMB_CTL_mask] ++
    [R.TBS_ALMA_CTL_en, R.TBS_ALMB_CTL_en, R.TBS_ALMA_CTL_wake, R.TBS_ALMB_CTL_wake, R.TBS_PER_e, R.TBS_PER_en, R.TBS_ALM_STAT_a_fired, R.TBS_ALM_STAT_a_skipped] ++
    [R.TBS_ALM_STAT_a_late, R.TBS_ALM_STAT_b_fired, R.TBS_ALM_STAT_b_skipped, R.TBS_ALM_STAT_b_late, R.TBS_ALM_STAT_per_cnt, R.TBS_XRATIO_ratio, R.TBS_TXT_txt]
  | .saf =>
    [R.SAF_CFG_rmp_mode, R.SAF_CFG_rmp_prof, R.SAF_CFG_fold_fault, R.SAF_CFG_auto_st, R.SAF_CFG_dem_min, R.SAF_DIAG_EN_en, R.SAF_DO_SAFE_lvl, R.SAF_LPO_SAFE_lvl] ++
    [R.SAF_LPO_MON_mask, R.SAF_FBE_tasks, R.SAF_TRIP_entry, R.SAF_TRIP_level, R.SAF_STAT_safe, R.SAF_STAT_latched, R.SAF_STAT_demand, R.SAF_STAT_trip] ++
    [R.SAF_STAT_claim, R.SAF_STAT_bypass, R.SAF_STAT_st_due, R.SAF_STAT_alert, R.SAF_LIVE_live, R.SAF_FAIL_fail, R.SAF_CAUSE_code, R.SAF_CAUSE_kind] ++
    [R.SAF_CAUSE_detail, R.SAF_T_LO_t, R.SAF_T_HI_t, R.SAF_CTRL_release, R.SAF_CTRL_alert_clr, R.SAF_CTRL_enter, R.SAF_CTRL_key, R.SAF_DT_t_sac] ++
    [R.SAF_REEV_reev, R.SAF_CNT_safe, R.SAF_CNT_demands, R.SAF_ST_hours, R.SAF_CAUSE_PT_point]
  | .age =>
    [R.AGE_CFG_auto, R.AGE_CFG_apply, R.AGE_CFG_interval, R.AGE_CFG_target, R.AGE_CFG_urgent, R.AGE_LIM_per_max, R.AGE_LIM_ofs_max, R.AGE_LIM_cal_min] ++
    [R.AGE_LIM2_scrub_min, R.AGE_LIM2_xtal_lim, R.AGE_STAT_running, R.AGE_STAT_notice, R.AGE_STAT_critical, R.AGE_STAT_power_cap, R.AGE_STAT_low_dom, R.AGE_STAT_low_class] ++
    [R.AGE_STAT_plans, R.AGE_T_LO_t, R.AGE_T_HI_t, R.AGE_ACT_last, R.AGE_ACT_total, R.AGE_XTAL_drift, R.AGE_CAP_per, R.AGE_CAP_cal] ++
    [R.AGE_CAP_scrub, R.AGE_CTRL_reset_ofs, R.AGE_DOM_margin, R.AGE_DOM_class, R.AGE_DOM_stale, R.AGE_DOM_mon, R.AGE_DOM_life, R.AGE_DOM_ofs]
  | .sec =>
    [R.SEC_UID_LO_uid, R.SEC_UID_HI_uid, R.SEC_KEYS_valid, R.SEC_KEYS_aes, R.SEC_CFG_enc_req, R.SEC_CFG_td_en, R.SEC_CFG_sess_min, R.SEC_CFG_tamp0] ++
    [R.SEC_CFG_tamp1, R.SEC_CFG_tamp_erase, R.SEC_STAT_h_lvl, R.SEC_STAT_t_lvl, R.SEC_STAT_alert, R.SEC_STAT_lockout, R.SEC_STAT_tamp_live, R.SEC_STAT_fails] ++
    [R.SEC_TAMP_held, R.SEC_TAMP_in_backup, R.SEC_TAMP_T_LO_t, R.SEC_TAMP_T_HI_t, R.SEC_CTRL_challenge, R.SEC_CTRL_open, R.SEC_CTRL_level, R.SEC_CTRL_close] ++
    [R.SEC_CTRL_alert_clr, R.SEC_CTRL_key, R.SEC_NONCE_nonce, R.SEC_RESP_resp, R.SEC_IMG_target, R.SEC_IMG_sig_ok, R.SEC_IMG_decrypted, R.SEC_IMG_slot] ++
    [R.SEC_IMG_ID_id]
  | .dbg =>
    [R.DBG_CTRL_fbe_halt, R.DBG_CTRL_step, R.DBG_CTRL_task, R.DBG_STAT_tden, R.DBG_STAT_session, R.DBG_STAT_halted, R.DBG_STAT_refused]
  | .lnk =>
    [R.LNK_CFG_link, R.LNK_CFG_inst, R.LNK_CFG_pat, R.LNK_CFG_inv, R.LNK_CFG_ext, R.LNK_DUR_dur, R.LNK_INS_exp, R.LNK_CTRL_go] ++
    [R.LNK_CTRL_stop, R.LNK_CTRL_ins1, R.LNK_CTRL_clr, R.LNK_STAT_state, R.LNK_STAT_lost_sync, R.LNK_STAT_status, R.LNK_STAT_reason, R.LNK_STAT_link] ++
    [R.LNK_BITS_LO_bits, R.LNK_BITS_HI_bits, R.LNK_ERR_err, R.LNK_INSCNT_ins, R.LNK_SYNC_sync, R.LNK_T_LO_t, R.LNK_T_HI_t, R.LNK_CAN_ID_id] ++
    [R.LNK_CAN_ID_ide, R.LNK_HBUF_buf]
  | .sac =>
    [R.SAC_CTRL_cv_en, R.SAC_UT_N0_n0, R.SAC_UT_N0_n1, R.SAC_UT_N0_n2, R.SAC_UT_N0_n3, R.SAC_UT_N1_n4, R.SAC_UT_N1_n5, R.SAC_UT_N1_n6] ++
    [R.SAC_UT_N1_n7, R.SAC_STAT_ref_ok, R.SAC_STAT_avdd_ok, R.SAC_STAT_vsx_ok, R.SAC_CAL_CFG_interval, R.SAC_CAL_CFG_dt_trig, R.SAC_CAL_CFG_auto, R.SAC_CAL_CTRL_hold] ++
    [R.SAC_REF_ref_dev, R.SAC_TERM_t_term]
  | .cv =>
    [R.CV_RATE_odr, R.CV_RATE_order, R.CV_SCAN_t_dis, R.CV_SCAN_t_exc, R.CV_STAT_ch, R.CV_STAT_phase, R.CV_STAT_run, R.CV_CYCLE_t_max] ++
    [R.CV_CYCLE_slots, R.CV_CNT_count, R.CV_DISC_disc, R.CV_CAL_STAT_state, R.CV_CAL_STAT_overdue, R.CV_CAL_STAT_last_fail, R.CV_CAL_STAT_reason, R.CV_CAL_STAT_n_ok] ++
    [R.CV_CAL_STAT_eff_h, R.CV_CAL_STAT_jump, R.CV_CAL_T_LO_t, R.CV_CAL_T_HI_t, R.CV_CAL_TEMP_temp, R.CV_DRIFT_d, R.CV_CTEMP_temp_now]
  | .sc =>
    [R.SC_MODE_mode, R.SC_MODE_range, R.SC_MODE_autorange, R.SC_MODE_bias, R.SC_MODE_ne43, R.SC_CURVE_curve, R.SC_CURVE_cj_src, R.SC_CURVE_cj_ch] ++
    [R.SC_CJ_FIX_t_cj, R.SC_EXC_vexc, R.SC_EXC_rref, R.SC_EXC_rev, R.SC_FILT_avg, R.SC_LEAD_every, R.SC_LEAD_lead_max, R.SC_RLEAD_r2w] ++
    [R.SC_STALE_tol, R.SC_AR_down_n, R.SC_DIAG_test_s, R.SC_SCALE_X0_x0, R.SC_SCALE_X1_x1, R.SC_SCALE_Y0_y0, R.SC_SCALE_Y1_y1, R.SC_CTRL_test] ++
    [R.SC_CTRL_flip, R.SC_STAT_quality, R.SC_STAT_range, R.SC_STAT_settling, R.SC_STAT_left, R.SC_FAULT_faults, R.SC_LIVE_live, R.SC_LIVE_quality] ++
    [R.SC_RAW_raw, R.SC_LEADM_lead, R.SC_VCM_vcm, R.SC_T_LO_t, R.SC_T_HI_t]
  | .dyn =>
    [R.DYN_COM_STAT_avdd_ok, R.DYN_COM_STAT_vsx_ok, R.DYN_COM_STAT_run, R.DYN_IEPE_ma]
  | .dynCh =>
    [R.DYN_MODE_mode, R.DYN_MODE_iepe_ma, R.DYN_MODE_div, R.DYN_SENS_sens, R.DYN_UNIT_sens, R.DYN_UNIT_eu, R.DYN_BIAS_bias_lo, R.DYN_BIAS_bias_hi] ++
    [R.DYN_BIAS_t_bias, R.DYN_OVL_kind, R.DYN_OVL_t_upd, R.DYN_OVL_t_win, R.DYN_OVL_F_f_lo, R.DYN_OVL_F_f_hi, R.DYN_OVL_STALE_tol, R.DYN_TACH_level] ++
    [R.DYN_TACH_hyst, R.DYN_TACH_pol, R.DYN_TACH_PPR_ppr, R.DYN_TACH_PPR_tol, R.DYN_TACH_RPM_rpm_min, R.DYN_TACH_RPM_rpm_max, R.DYN_STAT_quality, R.DYN_STAT_hg] ++
    [R.DYN_STAT_settling, R.DYN_STAT_run, R.DYN_STAT_tstate, R.DYN_FAULT_faults, R.DYN_LIVE_live, R.DYN_WIDX_widx, R.DYN_RUN_IDX_run_idx, R.DYN_RUN_T_LO_t] ++
    [R.DYN_RUN_T_HI_t, R.DYN_BIAS_V_bias, R.DYN_OVL_V_ovl, R.DYN_SPEED_rpm, R.DYN_EIDX_eidx, R.DYN_CLIPS_clips, R.DYN_GM_gm]
  | .spx =>
    [R.SPX_CTRL_en, R.SPX_HOT_en, R.SPX_HOT_t_on, R.SPX_HOT_t_off, R.SPX_LEARN_n_min, R.SPX_LEARN_n_max, R.SPX_STAT_hot_rate, R.SPX_STAT_run] ++
    [R.SPX_STAT_demand, R.SPX_STAT_late]
  | .spxPl =>
    [R.SPX_PL_CFG_en, R.SPX_PL_CFG_win, R.SPX_PL_CFG_scale, R.SPX_PL_CFG_avg, R.SPX_PL_CFG_k, R.SPX_PL_STALE_tol, R.SPX_PL_CTRL_restart, R.SPX_PL_STAT_quality] ++
    [R.SPX_PL_STAT_half, R.SPX_PL_STAT_cause, R.SPX_PL_STAT_settle, R.SPX_PL_STAT_hot, R.SPX_PL_SEQ_seq, R.SPX_PL_T_LO_t, R.SPX_PL_T_HI_t, R.SPX_PL_FIRST_first] ++
    [R.SPX_PL_LAST_last, R.SPX_PL_DF_df, R.SPX_PL_F0_f0, R.SPX_PL_DROP_drop, R.SPX_PL_RPM_rpm]
  | .sto =>
    [R.STO_APER_BASE_base, R.STO_SCRUB_period, R.STO_SCRUB_en, R.STO_STAT_notice, R.STO_STAT_rekey, R.STO_STAT_partial, R.STO_STAT_scrub, R.STO_STAT_spare_low] ++
    [R.STO_STAT_eff_scrub, R.STO_KEY_gen, R.STO_CONFLICT_ratio, R.STO_CONFLICT_shelf, R.STO_SLACK_slack, R.STO_SLACK_sweep_max, R.STO_ERR_corr, R.STO_ERR_ue] ++
    [R.STO_UE_ADDR_addr, R.STO_SPARE_left, R.STO_SPARE_shelf, R.STO_WEAR_wear, R.STO_CTRL_clr_err, R.STO_CTRL_scrub_now, R.STO_VERIFY_CNT_corr]
  | .pte =>
    [R.PTE_CTRL_sp_en, R.PTE_CTRL_sc_en, R.PTE_EVAL_period, R.PTE_EVAL_eff_period, R.PTE_WIN_BASE_base, R.PTE_WIN_LAST_point, R.PTE_STAT_sweeping, R.PTE_STAT_late] ++
    [R.PTE_STAT_stall, R.PTE_STAT_lane_over, R.PTE_STAT_cq_full, R.PTE_STAT_paused, R.PTE_STAT_lane_due, R.PTE_SKIP_skip, R.PTE_SKIP_PL_plane, R.PTE_SQUASH_CNT_squash] ++
    [R.PTE_SQUASH_WHY_seen, R.PTE_SQUASH_WHY_last, R.PTE_LATE_sweeps, R.PTE_LATE_passes, R.PTE_NFORCE_forced, R.PTE_NFORCE_sim, R.PTE_POISON_poison, R.PTE_CLR_clr] ++
    [R.PTE_SIM_SEL_entry, R.PTE_SIM_PT_point, R.PTE_SIM_PT_active, R.PTE_SIM_VAL_code, R.PTE_FRONTIER_point, R.PTE_FRONTIER_idle, R.PTE_SWEEP_seq, R.PTE_SWEEP_T_LO_t] ++
    [R.PTE_SWEEP_T_HI_t, R.PTE_SWEEP_LEN_last, R.PTE_SWEEP_LEN_max, R.PTE_LANE_SEQ_seq, R.PTE_LANE_T_LO_t, R.PTE_LANE_T_HI_t, R.PTE_LANE_FRONT_scalar, R.PTE_LANE_FRONT_idle] ++
    [R.PTE_NWARN_warn, R.PTE_NALARM_alarm, R.PTE_NBAD_bad]
  | .pteCl =>
    [R.PTE_CL_CFG_en, R.PTE_CL_CFG_latch, R.PTE_CL_CFG_bad_act, R.PTE_CL_NWARN_warn, R.PTE_CL_NALARM_alarm, R.PTE_CL_NBAD_bad, R.PTE_CL_NLATCH_latched, R.PTE_CL_CTRL_release]
  | .alh =>
    [R.ALH_CTRL_en, R.ALH_CTRL_call_en, R.ALH_MODE_mode, R.ALH_MODE_src, R.ALH_MODE_rel, R.ALH_DUTY_target, R.ALH_DUTY_src, R.ALH_CAN_en] ++
    [R.ALH_CAN_fd, R.ALH_CAN_id_base, R.ALH_CAN_repeat, R.ALH_ACK_DI_en, R.ALH_ACK_DI_ch, R.ALH_CMD_ARG_arg, R.ALH_CMD_op, R.ALH_CMD_index] ++
    [R.ALH_CMD_RES_res, R.ALH_CMD_RES_cseq, R.ALH_NACT_act, R.ALH_NACT_unack, R.ALH_NSUP_sup, R.ALH_NSUP_shelved, R.ALH_NOOS_oos, R.ALH_LOG_WIDX_widx] ++
    [R.ALH_RATE_last, R.ALH_RATE_peak, R.ALH_IGN_ign, R.ALH_IGN_drop, R.ALH_TBL_id, R.ALH_CLR_clr, R.ALH_CLS_pri_warn, R.ALH_CLS_pri_alarm] ++
    [R.ALH_CLS_ladder, R.ALH_CLS_call, R.ALH_CLS_latch, R.ALH_CLS_rtn_auto, R.ALH_CLS_no_shelve, R.ALH_CLS_shelve_max, R.ALH_TGT_kind, R.ALH_TGT_addr] ++
    [R.ALH_TGT_pulse, R.ALH_TGT_OK_ok]
  | .alhLd =>
    [R.ALH_LD_CFG_nrung, R.ALH_LD_CFG_after_last, R.ALH_LD_CFG_cumul, R.ALH_LD_CFG_duty, R.ALH_LD_MASK_mask, R.ALH_LD_TMO_tmo_even, R.ALH_LD_TMO_tmo_odd, R.ALH_LD_STAT_active] ++
    [R.ALH_LD_STAT_accepted, R.ALH_LD_STAT_exhausted, R.ALH_LD_STAT_rung, R.ALH_LD_STAT_unack, R.ALH_LD_STAT_pri, R.ALH_LD_SEQ_seq, R.ALH_LD_SEQ_rseq, R.ALH_LD_DL_LO_dl] ++
    [R.ALH_LD_DL_HI_dl, R.ALH_LD_CALLS_calls, R.ALH_LD_CALLS_esc]
  | .fbe =>
    [R.FBE_CTRL_en, R.FBE_TK_EN_en, R.FBE_STAT_run, R.FBE_STAT_bank, R.FBE_STAT_ihalf, R.FBE_STAT_forcing, R.FBE_STAT_sb_valid, R.FBE_STAT_olc] ++
    [R.FBE_IMG_ID_id, R.FBE_SB_ID_id, R.FBE_UTIL_u, R.FBE_NFORCE_n, R.FBE_FRC_SEL_slot, R.FBE_FRC_SYM_sym, R.FBE_FRC_IDX_idx, R.FBE_FRC_VAL_val] ++
    [R.FBE_FRC_CTRL_set, R.FBE_FRC_CTRL_release, R.FBE_FRC_CTRL_release_all, R.FBE_FRC_STAT_state, R.FBE_FRC_STAT_dtype, R.FBE_FRC_STAT_res, R.FBE_SEAM_LO_t, R.FBE_SEAM_HI_t] ++
    [R.FBE_OLC_REP_carried, R.FBE_OLC_REP_new, R.FBE_OLC_DROP_forces, R.FBE_OLC_DROP_orphans, R.FBE_EV_TRIG_trig, R.FBE_ERR_arith, R.FBE_ERR_lost, R.FBE_CLR_clr]
  | .fbeTk =>
    [R.FBE_TK_CFG_period, R.FBE_TK_CFG_prio, R.FBE_TK_CFG_kind, R.FBE_TK_PHASE_phase, R.FBE_TK_COST_cost, R.FBE_TK_RESP_w, R.FBE_TK_STAT_state, R.FBE_TK_STAT_arith] ++
    [R.FBE_TK_STAT_queue, R.FBE_TK_CYC_cyc, R.FBE_TK_OVR_ovr, R.FBE_TK_OVR_lost, R.FBE_TK_EXEC_last, R.FBE_TK_EXEC_max, R.FBE_TK_T_LO_t, R.FBE_TK_T_HI_t] ++
    [R.FBE_TK_CTRL_ovr_fault]
  | .evr =>
    [R.EVR_CTRL_en, R.EVR_SRC_en, R.EVR_SRC_sys_list, R.EVR_SRC_sys_en, R.EVR_LSEL_item, R.EVR_LSEL_list, R.EVR_LITEM_desc, R.EVR_TRIG_list] ++
    [R.EVR_TRIG_go, R.EVR_TRIG_arg, R.EVR_STAT_run, R.EVR_STAT_full, R.EVR_STAT_erasing, R.EVR_STAT_marker, R.EVR_STAT_larder, R.EVR_STAT_queue] ++
    [R.EVR_WIDX_widx, R.EVR_SEQ_seq, R.EVR_OVR_ovr, R.EVR_FULL_full, R.EVR_LOSS_crates, R.EVR_LOSS_events, R.EVR_CLR_clr, R.EVR_TRIG_CNT_trig]
  | .dio =>
    [R.DIO_CTRL_rearm, R.DIO_CTRL_thr_test, R.DIO_DIN_deb, R.DIO_DIN_inv, R.DIO_DIN_wb_en, R.DIO_DIN_track, R.DIO_DIN_wake, R.DIO_THR_on_pct] ++
    [R.DIO_THR_off_pct, R.DIO_DO_CFG_own, R.DIO_DO_CFG_start, R.DIO_DO_CFG_retain, R.DIO_DO_SET_set, R.DIO_STAT_link, R.DIO_STAT_fault, R.DIO_STAT_armed] ++
    [R.DIO_STAT_vf_warn, R.DIO_STAT_vf_off, R.DIO_STAT_rearm_ok, R.DIO_STAT_thr_prog, R.DIO_STAT_vfield, R.DIO_DI_state, R.DIO_DI_wb, R.DIO_DI_WB_wb] ++
    [R.DIO_DO_STAT_eff, R.DIO_DO_STAT_rb, R.DIO_DO_STAT_trip, R.DIO_DO_STAT_stuck, R.DIO_FRM_ERR_crc, R.DIO_FRM_ERR_lost, R.DIO_DI_LOST_lost, R.DIO_CLR_clr] ++
    [R.DIO_ET_LO_t, R.DIO_ET_HI_t]
  | .lpo =>
    [R.LPO_STAT_link, R.LPO_STAT_lpow, R.LPO_STAT_hot, R.LPO_STAT_vloop, R.LPO_THERM_t_fold, R.LPO_THERM_t_hyst, R.LPO_THERM_slew, R.LPO_TEMP_temp] ++
    [R.LPO_FRM_ERR_crc, R.LPO_FRM_ERR_lost, R.LPO_CLR_clr]
  | .lpoCh =>
    [R.LPO_CH_CFG_en, R.LPO_CH_CFG_sink, R.LPO_CH_CFG_ext, R.LPO_CH_CFG_own, R.LPO_CH_CFG_char, R.LPO_CH_CFG_fail_lvl, R.LPO_CH_CFG_comp_fail, R.LPO_CH_CFG_park] ++
    [R.LPO_CH_CFG_retain, R.LPO_CH_CFG_fsk, R.LPO_CH_CFG_wake, R.LPO_CH_START_start, R.LPO_CH_SLEW_rate, R.LPO_CH_CUT_cut, R.LPO_CH_SET_set, R.LPO_CH_CTRL_clr_comp] ++
    [R.LPO_CH_CTRL_tx_go, R.LPO_CH_CTRL_tx_abort, R.LPO_CH_CTRL_rx_rel, R.LPO_CH_EFF_eff, R.LPO_CH_RB_rb, R.LPO_CH_HR_hr, R.LPO_CH_STAT_src, R.LPO_CH_STAT_compliance] ++
    [R.LPO_CH_STAT_fold, R.LPO_CH_STAT_sat, R.LPO_CH_STAT_latched, R.LPO_FSK_CFG_tx_pre, R.LPO_FSK_CFG_rx_pre, R.LPO_FSK_CFG_add_chk, R.LPO_FSK_TXLEN_len, R.LPO_FSK_STAT_rx_len] ++
    [R.LPO_FSK_STAT_rx_full, R.LPO_FSK_STAT_tx_busy, R.LPO_FSK_STAT_carrier, R.LPO_FSK_STAT_err, R.LPO_FSK_STAT_rx_lost, R.LPO_FSK_RX_T_LO_t, R.LPO_FSK_RX_T_HI_t, R.LPO_CH_TBL_x] ++
    [R.LPO_CH_TBL_y, R.LPO_FSK_RXBUF_rx, R.LPO_FSK_TXBUF_tx]
  | .can =>
    [R.CAN_CFG_mode, R.CAN_CFG_fd_en, R.CAN_CFG_pex, R.CAN_NBT_presc, R.CAN_NBT_seg1, R.CAN_NBT_seg2, R.CAN_NBT_sjw, R.CAN_DBT_presc] ++
    [R.CAN_DBT_seg1, R.CAN_DBT_seg2, R.CAN_DBT_sjw, R.CAN_TDC_tdco, R.CAN_TDC_en, R.CAN_TDC_tdcv, R.CAN_CTRL_recover, R.CAN_CTRL_sleep] ++
    [R.CAN_CTRL_clr, R.CAN_STAT_state, R.CAN_STAT_ewarn, R.CAN_STAT_id_collision, R.CAN_STAT_tec, R.CAN_STAT_rec, R.CAN_ERR_lec, R.CAN_ERR_dphase] ++
    [R.CAN_ERR_field, R.CAN_COLL_count, R.CAN_COLL_obj, R.CAN_CNT_boff, R.CAN_CNT_nomatch, R.CAN_WK_wmode, R.CAN_WK_rate, R.CAN_WK_ID_id] ++
    [R.CAN_WK_ID_ide, R.CAN_WK_MASK_mask, R.CAN_WK_DATA0_dmask, R.CAN_WK_DATA1_dmask, R.CAN_WK_DLC_dlc, R.CAN_WK_STAT_cause, R.CAN_WK_STAT_errs, R.CAN_PMB_ID_id] ++
    [R.CAN_PMB_ID_ide, R.CAN_PMB_MASK_mask, R.CAN_PMB_STAT_cnt, R.CAN_PMB_STAT_new, R.CAN_PMB_STAT_fd, R.CAN_PMB_STAT_dlc, R.CAN_PMB_STAT_lost, R.CAN_PMB_RID_id] ++
    [R.CAN_PMB_RID_ide, R.CAN_PMB_RID_rtr, R.CAN_PMB_T_LO_t, R.CAN_PMB_T_HI_t, R.CAN_PMB_CTRL_release, R.CAN_PMB_DATA_data]
  | .canObj =>
    [R.CAN_OBJ_EV_ev, R.CAN_OBJ_IEN_ien, R.CAN_OBJ_CFG_en, R.CAN_OBJ_CFG_dir, R.CAN_OBJ_CFG_fd, R.CAN_OBJ_CFG_brs, R.CAN_OBJ_CFG_rtr, R.CAN_OBJ_CFG_hold] ++
    [R.CAN_OBJ_CFG_own, R.CAN_OBJ_CFG_dlc, R.CAN_OBJ_CFG_retry, R.CAN_OBJ_CFG_coll_susp, R.CAN_OBJ_ID_id, R.CAN_OBJ_ID_ide, R.CAN_OBJ_MASK_mask, R.CAN_OBJ_RPL_window] ++
    [R.CAN_OBJ_RPL_robj, R.CAN_OBJ_RPL_en, R.CAN_OBJ_CTRL_send, R.CAN_OBJ_CTRL_cancel, R.CAN_OBJ_CTRL_release, R.CAN_OBJ_CTRL_resume, R.CAN_OBJ_STAT_tstate, R.CAN_OBJ_STAT_new] ++
    [R.CAN_OBJ_STAT_lost, R.CAN_OBJ_STAT_cres, R.CAN_OBJ_STAT_reply_ok, R.CAN_OBJ_STAT_reply_tmo, R.CAN_OBJ_STAT_rfd, R.CAN_OBJ_STAT_rdlc, R.CAN_OBJ_STAT_rcnt, R.CAN_OBJ_STAT_coll] ++
    [R.CAN_OBJ_RID_id, R.CAN_OBJ_RID_ide, R.CAN_OBJ_RID_rtr, R.CAN_OBJ_T_LO_t, R.CAN_OBJ_T_HI_t, R.CAN_OBJ_DATA_data]
  | .pnl =>
    [R.PNL_CFG_en, R.PNL_CFG_depth, R.PNL_CFG_inv, R.PNL_CFG_div, R.PNL_CFG_disp, R.PNL_CFG_t_pwr, R.PNL_GEOM_width, R.PNL_GEOM_height] ++
    [R.PNL_TB_t1, R.PNL_TB_t2, R.PNL_TB_t3, R.PNL_TB_src, R.PNL_BDRV_f_com, R.PNL_BDRV_gap, R.PNL_BAND_blink, R.PNL_BAND_col1] ++
    [R.PNL_BAND_col2, R.PNL_BAND_col3, R.PNL_LSEL_line, R.PNL_CTRL_put, R.PNL_CTRL_update, R.PNL_CTRL_full, R.PNL_CTRL_copy_front, R.PNL_STAT_busy] ++
    [R.PNL_STAT_pending, R.PNL_STAT_rewrite, R.PNL_STAT_crc_err, R.PNL_STAT_src_bad, R.PNL_STAT_tband, R.PNL_STAT_powered, R.PNL_STAT_line, R.PNL_GEN_gen] ++
    [R.PNL_LEDGER_last, R.PNL_LEDGER_complete, R.PNL_LEDGER_GEN_gen, R.PNL_FCRC_crc, R.PNL_CNT_interrupted, R.PNL_CNT_verify, R.PNL_LBUF_data]
  | .rmp =>
    [R.RMP_CFG_en, R.RMP_CFG_tmode, R.RMP_CFG_own, R.RMP_CFG_keep, R.RMP_CFG_stop_prof, R.RMP_CFG_dor_en, R.RMP_CFG_hph, R.RMP_LIM_V_vmax] ++
    [R.RMP_LIM_A_amax, R.RMP_LIM_D_dmax, R.RMP_LIM_J_jmax, R.RMP_VLIM_LO_lo, R.RMP_VLIM_HI_hi, R.RMP_DABS_dabs, R.RMP_OUT_wmode, R.RMP_OUT_wfix] ++
    [R.RMP_OUT_step_en, R.RMP_OUT_f_up, R.RMP_OUT_t_dir, R.RMP_IN_wi, R.RMP_IN_dir_inv, R.RMP_LREF_ch, R.RMP_LREF_bipolar, R.RMP_LREF_en] ++
    [R.RMP_LREF_VFS_vfs, R.RMP_TGT_tgt, R.RMP_CTRL_ack_pos, R.RMP_CTRL_setpos, R.RMP_CTRL_clr, R.RMP_SETPOS_pos, R.RMP_STAT_src, R.RMP_STAT_moving] ++
    [R.RMP_STAT_dir, R.RMP_STAT_w, R.RMP_STAT_phase, R.RMP_STAT_dclamp, R.RMP_STAT_vlim_hit, R.RMP_STAT_pos_unc, R.RMP_STAT_pos_lost, R.RMP_STAT_dren] ++
    [R.RMP_STAT_dflt, R.RMP_STAT_dstop, R.RMP_STAT_ovr, R.RMP_POS_pos, R.RMP_VEL_vel, R.RMP_ACC_acc, R.RMP_DEM_dem, R.RMP_DEM_prof] ++
    [R.RMP_DEM_active, R.RMP_PHASE_ph, R.RMP_CNT_demands, R.RMP_CNT_dclamps, R.RMP_PR_V_v_dem, R.RMP_PR_D_d_p, R.RMP_PR_J_j_p]

/-- The fields of SPX_PL_P0 and SPX_PL_P1 by plane (Table 07-8): 0 DIRECT, 1 ENVELOPE, 2 ORDER, 3 ZOOM. -/
def Kind.planeFields : Nat → List Field
  | 1 => [R.SPX_PL_P0_ENV_f_lo, R.SPX_PL_P0_ENV_f_hi]
  | 2 => [R.SPX_PL_P0_ORD_tch, R.SPX_PL_P0_ORD_s, R.SPX_PL_P0_ORD_b]
  | 3 => [R.SPX_PL_P0_ZOOM_z, R.SPX_PL_P1_ZOOM_fc]
  | _ => []

end Sys2Proof.Machine
end

