-- ==== Sys2Proof/Machine/Sparse.lean ====
section
/-! DEFINITION. Sparse maps from addresses to values in ONE canonical form: keys strictly rising, and no entry equal to
what an unlisted key reads as. The registers, the storeroom and the panel frames are held so. -/

namespace Sys2Proof.Machine

/-- A sparse map: pairs of key and value, keys strictly rising. -/
abbrev SMap (α : Type) := List (Nat × α)

/-- The listed value at a key. -/
def SMap.get? {α : Type} : SMap α → Nat → Option α
  | [], _ => none
  | (k, v) :: m, a => if a = k then some v else SMap.get? m a

/-- The value at a key: the listed one, else what `dflt` says an unlisted key reads as. -/
def SMap.get {α : Type} (dflt : Nat → α) (m : SMap α) (a : Nat) : α := (SMap.get? m a).getD (dflt a)

/-- List the pair, replacing an entry of the same key. -/
def SMap.insert {α : Type} : SMap α → Nat → α → SMap α
  | [], a, v => [(a, v)]
  | (k, w) :: m, a, v =>
    if a < k then (a, v) :: (k, w) :: m
    else if a = k then (k, v) :: m
    else (k, w) :: SMap.insert m a v

/-- Remove the entry of a key. -/
def SMap.erase {α : Type} : SMap α → Nat → SMap α
  | [], _ => []
  | (k, w) :: m, a => if a = k then m else (k, w) :: SMap.erase m a

/-- Write a value, keeping the canonical form: the default value removes the entry. -/
def SMap.put {α : Type} [DecidableEq α] (dflt : Nat → α) (m : SMap α) (a : Nat) (v : α) : SMap α :=
  if v = dflt a then SMap.erase m a else SMap.insert m a v

/-- Remove every entry whose key lies in `[lo, hi)`. -/
def SMap.dropRange {α : Type} (m : SMap α) (lo hi : Nat) : SMap α :=
  m.filter (fun p => decide (p.1 < lo) || decide (hi ≤ p.1))

/-- The entries whose key lies in `[lo, hi)`. -/
def SMap.inRange {α : Type} (m : SMap α) (lo hi : Nat) : SMap α :=
  m.filter (fun p => decide (lo ≤ p.1) && decide (p.1 < hi))

/-- The keys rise strictly from a lower bound on. -/
def SMap.rising {α : Type} : Nat → SMap α → Bool
  | _, [] => true
  | b, (k, _) :: m => decide (b ≤ k) && SMap.rising (k + 1) m

/-- No entry equals what an unlisted key reads as. -/
def SMap.noDflt {α : Type} [DecidableEq α] (dflt : Nat → α) (m : SMap α) : Bool :=
  m.all (fun p => decide (p.2 ≠ dflt p.1))

/-- The canonical form of a sparse map. -/
def SMap.wf {α : Type} [DecidableEq α] (dflt : Nat → α) (m : SMap α) : Bool :=
  SMap.rising 0 m && SMap.noDflt dflt m

end Sys2Proof.Machine
end

