-- ==== Sys2Proof/Machine/State.lean ====
section
/-! DEFINITION. The state of the node as plain data: every register, ring, queue, buffer and mode the spec gives it, and
the queue of commands that wait. Registers lie in `regs` (the values in force, R84) and `staged` (the staged copies), by
their 24-bit address; an address that is not listed holds the Reset value of the register tables. The storeroom lies in
`mem`, by its 32-bit address. What a chapter's figures need beyond its registers is in the chapter's own structure.
INVENTORY.md lists every piece. -/

namespace Sys2Proof.Machine

open Sys2Proof

/-- Reasons for the machine to stop with a fault. No command of this block ends in a fault: an access to an address that
does not exist is answered with err = 1 or discarded (R80), so the type is empty. -/
inductive Fault : Type
deriving DecidableEq, Repr

/-- Reasons for a command to be refused. `notModelled`: raised only by an arm of Dispatch whose command has no meaning
yet (safe: the run stops); no meaning answers it. -/
inductive Refusal where
  | notModelled (mnemonic : String)
deriving DecidableEq, Repr

/-- A write frame posted in the write queue (R75): its port, the address of its first byte still waiting, for the point window and the
aperture the storeroom address that its base gives their bottom (R81), its bytes. -/
structure Frame where
  port : Port
  addr : Nat
  base : Nat
  data : List Byte
deriving DecidableEq, Repr

/-- The one-entry read buffer (R72): the address of a read answered with ready = 0, the base of its aperture as in a frame, how many
bytes it asked for, how many queued frames arrived before it, and its result once complete (how many bytes from the address on read
without an error, and the bytes). -/
structure ReadBuf where
  addr : Nat
  base : Nat
  len : Nat
  ahead : Nat
  result : Option (Nat × List Byte)
deriving DecidableEq, Repr

/-- What a frame last drove on the data lanes: the status byte (R71) and the bytes after it. -/
structure Answer where
  status : Byte
  data : List Byte
deriving DecidableEq, Repr

/-- The state of one port: the read buffer, the sticky status bits wlost and clamp (Table 03-2), the latest answer. -/
structure PortState where
  rbuf : Option ReadBuf
  wlost : Bool
  clamp : Bool
  answer : Option Answer
deriving DecidableEq, Repr

def PortState.reset : PortState := { rbuf := none, wlost := false, clamp := false, answer := none }

/-- One entry of a clamp ring (Tables 03-7 and 03-8): word offset / 4, lowest bit of the field, source, written, stored. -/
structure ClampEntry where
  word : Nat
  lsb : Nat
  src : Bool
  wr : Word
  st : Word
deriving DecidableEq, Repr

/-- The clamp ring of one page (R87): at most 8 entries, the oldest first, and the clamps lost. -/
structure ClampRing where
  page : Nat
  entries : List ClampEntry
  lost : Nat
deriving DecidableEq, Repr

/-- Where the node stands between supply and service: `off` and `backup` (Table 01-4), `tmode` (R48), `held` at step 6 of
start-up (R39), `active` with RDY_N asserted, `locked` after the power-fail sequence (R40 step 6). -/
inductive NodeMode where
  | off | backup | tmode | held | active | locked
deriving DecidableEq, Repr

/-- The power manager: where the node stands, whether the cellar has lost power since its last start (R62), whether the
latest stop completed R40, AVDD valid (R57), the instant from which deadlines stopped counting (R30), t0, the latest
request held during a transition (R488), a wake that is stamped and not yet carried out, with its bit (R487, R488), the state
that a host wake asks for, AVDD valid again since this instant after a fall (R57), and when the cellar locks the host interface out (R40
step 6). -/
structure Pwr where
  mode : NodeMode
  cellarLost : Bool
  clean : Bool
  avddOk : Bool
  stopAt : Nat
  t0 : Nat
  busy : Bool
  heldReq : Option Nat
  earlyWake : Option (Nat × Nat)
  wakeTo : Nat
  avddFrom : Option Nat
  lockAt : Nat
deriving DecidableEq, Repr

def Pwr.reset : Pwr :=
  { mode := .off, cellarLost := true, clean := false, avddOk := false, stopAt := 0, t0 := 0, busy := false,
    heldReq := none, earlyWake := none, wakeTo := 0, avddFrom := none, lockAt := 0 }

/-- An outstanding tally (R95–R102): number, operation, the port that launched it, arguments as clamped, deadline, whether it
runs, whether an argument was clamped, how much of the operation is done and of how much, a word the operation keeps, what a learning
operation keeps since its launch (BASE_LEARN: commits learned by plane, R207; LIM_DERIVE: baselines by point, R209), and its outcome once
the operation has ended: status, reason, result0, result1. -/
structure Tally where
  num : Nat
  op : Nat
  port : Port
  args : List Word
  deadline : Option Nat
  running : Bool
  clamped : Bool
  done : Nat
  total : Nat
  aux : Nat
  kept : SMap Nat
  outcome : Option (Nat × Nat × Nat × Nat)
deriving DecidableEq, Repr

/-- An entry of the completion queue (R99): tally, status, reason, results, and the fraction reached (TLY_QSTATE). -/
structure Completion where
  num : Nat
  status : Nat
  reason : Nat
  r0 : Nat
  r1 : Nat
  progress : Nat
deriving DecidableEq, Repr

/-- The tally engine: outstanding tallies in order of launch, and the completion queue, oldest first. -/
structure Tly where
  out : List Tally
  cq : List Completion
deriving DecidableEq, Repr

def Tly.reset : Tly := { out := [], cq := [] }

/-- A static channel beyond its registers: the results in the post-filter, newest last (R133); the first slot of a reversal pair and
whether it met the 40 % condition (R119, R131), the polarity of the next measurement slot by the schedule (R119); results below 40 % in succession; the last lead measurements (R115) and the results
since the latest (R117); an excitation test requested (1) or placed in the present cycle (2); a flip requested (R135); when the periodic
test is due; since when the stale tolerance counts (R137; none while it does not); its last valid value held by a calibration
(R155); its converter disabled (R106); what commits ask for at the end of a calibration (bit 0 an excitation change, bit 1 a range change; R156) and the mode when that began; sensed bridge
excitation in V, the bridge output of the own slot of a BRIDGE6 pair (R109, R120), and the limiter acted in that slot (R118). -/
structure ScCh where
  filt : List Q
  pair : Option Q
  pairLow : Bool
  turn : Bool
  down : Nat
  leads : List Q
  sinceLead : Nat
  test : Nat
  flip : Bool
  testDue : Option Nat
  staleFrom : Option Nat
  held : Bool
  off : Bool
  late : Nat
  mode : Nat
  exc : Q
  first : Option Q
  firstShort : Bool
deriving DecidableEq, Repr

def ScCh.reset : ScCh :=
  { filt := [], pair := none, pairLow := false, turn := false, down := 0, leads := [], sinceLead := 0, test := 0, flip := false, testDue := none,
    staleFrom := none, held := false, off := true, late := 0, mode := 0, exc := Q.zero, first := none, firstShort := false }

/-- The present slot of a converter: 4 measurement, 5 lead, 6 test, 7 supervisor check; its channel 0–3; the partner's slot that a BRIDGE6
channel takes (R109); the excitation reversed (R119, R135); its start. -/
structure CvSlot where
  kind : Nat
  ch : Nat
  second : Bool
  rev : Bool
  start : Nat
deriving DecidableEq, Repr

/-- What a calibration finds (R143, R149, R150): the offset in V; in ppm the gain of each range, VREFA/VREFB from its factory ratio, the
ratios of Rref2 and Rref20 from theirs; the converter temperature. -/
structure CalFigures where
  offset : Q
  gains : List Q
  vref : Q
  r2 : Q
  r20 : Q
  temp : Q
deriving DecidableEq, Repr

/-- A calibration at work (R147–R155): kind, trigger (Table 05-6), its start, rate f_cv and discharge in 5 µs (R156), for a repeat what the
failed one found, and the tally it belongs to. -/
structure CalRun where
  kind : Nat
  trigger : Nat
  start : Nat
  hz : Nat
  dis : Nat
  first : Option CalFigures
  tally : Option Nat
deriving DecidableEq, Repr

/-- A converter beyond its registers: the present slot, scan cycles completed (R109), its fault now, the calibration at work, the
element ratios at the latest successful check (R150) and what R157 compares with (Rref2, Rref20, range-0 gain, VREFA/VREFB, in ppm), steps
of RUN and LEAN since the latest successful calibration and the instant from which they count now, since when a calibration is due and its
trigger, calibrations with d < 0.25 ppm in succession, history entries written. The constants in force lie in the running record (R159). -/
structure CvSt where
  slot : Option CvSlot
  cycles : Nat
  fault : Bool
  cal : Option CalRun
  ratios : Q × Q
  base : Q × Q × Q × Q
  counted : Nat
  countFrom : Option Nat
  dueAt : Option Nat
  dueTrig : Nat
  quiet : Nat
  entries : Nat
deriving DecidableEq, Repr

def CvSt.reset : CvSt :=
  { slot := none, cycles := 0, fault := false, cal := none, ratios := (Q.zero, Q.zero),
    base := (Q.zero, Q.zero, Q.zero, Q.zero), counted := 0, countFrom := none, dueAt := none, dueTrig := 0,
    quiet := 0, entries := 0 }

/-- The static channels and converters; the latest reference check failed (R150); AVDD not yet valid for every channel since it came
back at this instant (Table 04-8 bit 10); the converter that took the latest terminal reading (R145). -/
structure Sac where
  ch : List ScCh
  cv : List CvSt
  refBad : Bool
  termBy : Option Nat
deriving DecidableEq, Repr

def Sac.reset : Sac :=
  { ch := List.replicate 32 ScCh.reset, cv := List.replicate 8 CvSt.reset, refBad := false, termBy := none }

/-- 10 ms of filtered samples (R176): the sum of their squares, the largest and the smallest. -/
structure OvlBlock where
  sum : Int
  top : Int
  bot : Int
deriving DecidableEq, Repr

/-- The overall level at work (R176): the latest inputs and outputs of the four filter sections, the integral, the samples of the present
10 ms and what they give, the blocks of the window, newest first, and the blocks since the latest value. -/
structure Ovl where
  delays : List (List Int)
  integral : Int
  n : Nat
  block : OvlBlock
  blocks : List OvlBlock
  since : Nat
deriving DecidableEq, Repr

def Ovl.reset : Ovl :=
  { delays := List.replicate 4 [0, 0, 0, 0], integral := 0, n := 0, block := { sum := 0, top := 0, bot := 0 }, blocks := [], since := 0 }

/-- The matching of the +30 dB path to the 0 dB path (R165): how many samples took part, their time in periods of the full sample rate, the
sums of the 0 dB and the +30 dB values, of their products and of the squares of the latter. -/
structure PathMatch where
  n : Nat
  span : Nat
  s0 : Int
  s30 : Int
  s030 : Int
  s3030 : Int
deriving DecidableEq, Repr

def PathMatch.reset : PathMatch := { n := 0, span := 0, s0 := 0, s30 := 0, s030 := 0, s3030 := 0 }

/-- A dynamic channel beyond its registers: samples come from the +30 dB path, and below 80 % of its scale in succession since the last
overload (R164); the match of the paths (R165); the next sample starts a run, and the samples of the present run (R172); when settling
ends (R162, R179), and that of R178; the latest clipped sample (R166); the overall level at work, its value from a full window since, its
quality still HELD from LEAN or the start, since when it is SETTLING (R177); the latest samples, newest first, a new edge counts, the edges
found and not yet recorded (R180); the latest tacho edge in 2^-28 s, the latest interval, intervals within tolerance in succession, the
next edge is the first after a disc, the speed point still HELD (R182–R184); the stretches of edges stamped in tstate 2, newest first, each
by its first count and length (R196); how often the tacho has left tstate 2, the latest power-up of the domain (R205); and the sample of
the run at which the next DIRECT record ends (R188, R189). -/
structure DynCh where
  on30 : Bool
  quiet : Nat
  paths : PathMatch
  disc : Bool
  count : Nat
  settleEnd : Option Nat
  ovlEnd : Option Nat
  clipAt : Option Nat
  ovl : Ovl
  ovlOk : Bool
  held : Bool
  settlingFrom : Option Nat
  latest : List Int
  armed : Bool
  found : List Nat
  edge : Option Nat
  interval : Option Nat
  good : Nat
  edgeDisc : Bool
  speedHeld : Bool
  locks : List (Nat × Nat)
  lefts : Nat
  poweredAt : Nat
  recNext : Nat
deriving DecidableEq, Repr

def DynCh.reset : DynCh :=
  { on30 := true, quiet := 0, paths := PathMatch.reset, disc := true, count := 0, settleEnd := none, ovlEnd := none, clipAt := none,
    ovl := Ovl.reset, ovlOk := false, held := false, settlingFrom := none, latest := [], armed := true, found := [], edge := none,
    interval := none, good := 0, edgeDisc := true, speedHeld := false, locks := [], lefts := 0, poweredAt := 0, recNext := 2 ^ 20 }

/-- What a plane is built from (Table 07-1, R190): the codes of a DIRECT record in steps of 2^-40; for ENVELOPE with the lines of the band;
for ORDER with the angle samples per revolution as a power of 2, the pulses per revolution, the stamps of the span's edges, the instant of
the first sample and the sample period in 2^-28 s; for ZOOM the decimation as a power of 2 and a record of the stream. -/
inductive SpxInput where
  | direct (l : Samples)
  | band (lo hi : Nat) (l : Samples)
  | turns (m ppr : Nat) (edges : List Nat) (start period : Q) (l : Samples)
  | stream (z : Nat) (l : Samples)
deriving DecidableEq, Repr

/-- A build of a plane (R188, R201) under the configuration of its record end (R204): the record's end stamp as it is stored, the record
end's instant, SPX_PL_CFG, live range, lines of the transform and samples in it, spacing and frequency of line 0 in Hz, built at reduced
rate, mean speed of an ORDER record, engineering units per V, the integration of R194, restarts of averaging so far and the run (R200), the
tacho channel and how often it had left tstate 2, and what it is built from. -/
structure SpxBuild where
  stamp : Nat
  begun : Nat
  cfg : Nat
  first : Nat
  last : Nat
  size : Nat
  df : Q
  f0 : Q
  hot : Bool
  rpm : Q
  gain : Q
  integ : Bool
  restarts : Nat
  run : Nat
  tch : Nat
  lefts : Nat
  input : SpxInput
deriving DecidableEq, Repr

/-- A plane beyond its registers: builds since averaging restarted, restarts asked for and restarts that a build has taken, the run of the
latest build (its first sample's stamp; R200), the build at work, a complete build that waits for the other half with the errors of its
lines in dB (R201 step 4, R202), the instant of the latest commit, its quality SETTLING, how often each channel's tacho had left tstate 2
at that commit (R205 row 4);
and of a ZOOM plane the sample of the run from which its filter settled, the samples of the run's stream so far, the latest 2^18 of them that are not 0,
the latest computed from an inv sample, and the stream sample at which the next record ends (R189, R190, R198). -/
structure SpxPl where
  builds : Nat
  restarts : Nat
  taken : Nat
  run : Nat
  work : Option SpxBuild
  wait : Option (SpxBuild × List (Nat × Q))
  commitAt : Option Nat
  settling : Bool
  lefts : List Nat
  from_ : Nat
  streamed : Nat
  stream : Samples
  bad : Option Nat
  recNext : Nat
deriving DecidableEq, Repr

def SpxPl.reset : SpxPl :=
  { builds := 0, restarts := 1, taken := 0, run := 0, work := none, wait := none, commitAt := none, settling := false, lefts := [],
    from_ := 0, streamed := 0, stream := [], bad := none, recNext := 2 ^ 18 }

/-- The storeroom beyond its registers and contents: the spare rows left of each shelf, the rows (shelf, row) that gave a corrected word
in the present scrub pass and those due to be replaced (R230), the sweeps of the last 60 minutes (end stamp, length in 10 ms; R227), since
when the slack stands at or above 30 %, the placement keys drawn by region, plane halves from 16 on (R222), and of a re-key that has not
ended the keys drawn and how many groups, in order of their addresses, have moved to them (R223). -/
structure Sto where
  spares : List Nat
  passRows : List (Nat × Nat)
  dueRows : List (Nat × Nat)
  sweeps : List (Nat × Nat)
  slackOk : Option Nat
  keys : SMap Word
  newKeys : SMap Word
  moved : Nat
deriving DecidableEq, Repr

def Sto.reset : Sto :=
  { spares := List.replicate 16 4096, passRows := [], dueRows := [], sweeps := [], slackOk := none, keys := [], newKeys := [], moved := 0 }

/-- A run of one limit of a scalar point (R237): the stamp at which it started, the intervals in which it has grown (stamp and steps, in
order), and the stamp from which it grows now (none while frozen). -/
structure Run where
  start : Nat
  past : List (Nat × Nat)
  since : Option Nat
deriving DecidableEq, Repr

/-- The shadow entry of a simulated scalar point (R247): the value, quality, source and stamp that its source wrote. -/
structure Shadow where
  value : Word
  quality : Nat
  source : Nat
  stamp : Nat
deriving DecidableEq, Repr

/-- A spectral simulation entry (R248). -/
structure SimEntry where
  point : Nat
  active : Bool
  code : Nat
deriving DecidableEq, Repr

/-- A committed change of a point on its way to ALH (R249): the point's address, its entry (0xFFFF none), levels, qualities
BAD and state bytes before and after, the flags forced, simulated and poison, its stamp and its run-start stamp. `moved`: the
change only takes the point's committed state out of one entry or into another (R266). -/
structure Change where
  point : Nat
  entry : Nat
  lvl0 : Nat
  lvl1 : Nat
  bad0 : Bool
  bad1 : Bool
  state0 : Nat
  state1 : Nat
  quality : Nat
  forced : Bool
  simulated : Bool
  poison : Bool
  stamp : Nat
  runStart : Nat
  moved : Bool
deriving DecidableEq, Repr

/-- The plane at the spectral frontier (R202, R240): its instance, the half latched, whether its points are compared, and the end
stamp of its latest record. -/
structure AtPlane where
  plane : Nat
  half : Nat
  compared : Bool
  stamp : Nat
deriving DecidableEq, Repr

/-- A pass of the scalar lane that waits for room in the change queue (R233, R249): its snapshot instant, and the points still to be
evaluated with the value, quality, source and stamp of the snapshot. -/
structure Lane where
  now : Nat
  todo : List (Nat × Shadow)
deriving DecidableEq, Repr

/-- The PTE working state (R233–R255): the quality each source wrote with a scalar value, the quality of a point's latest change where its record no longer holds that (R141, R245), the shadow entries,
the runs by scalar × 4 + limit, the limit bits whose clear is held back (R243), the scalars due (R234) and those carried over, the
spectral points whose count starts from zero at their next compared evaluation (R246), those released from a latch (R243), points whose
poison has been reported (R245), the 64 simulation entries, the plane sequence at each plane's previous evaluation (R240), the
sweep's frontier and the plane latched there, the instant from which the present sweep's length counts, how often a point has been squashed in the
present sweep or pass (R254), the pass that waits, and the change queue. -/
structure Pte where
  srcQual : SMap Nat
  reported : SMap Nat
  shadow : SMap Shadow
  runs : SMap Run
  heldBack : List Nat
  due : List Nat
  carried : List Nat
  fresh : List Nat
  released : List Nat
  poisonSeen : List Nat
  sims : List SimEntry
  seenSeq : SMap Nat
  nextPoint : Nat
  atPlane : Option AtPlane
  sweepStart : Nat
  squashed : SMap Nat
  lane : Option Lane
  changes : List Change
deriving DecidableEq, Repr

def Shadow.reset : Shadow := { value := 0#32, quality := 3, source := 0, stamp := 0 }
def Run.reset : Run := { start := 0, past := [], since := none }
def SimEntry.reset : SimEntry := { point := 0, active := false, code := 0 }

def Pte.reset : Pte :=
  { srcQual := [], reported := [], shadow := [], runs := [], heldBack := [], due := [], carried := [], fresh := [], released := [],
    poisonSeen := [], sims := List.replicate 64 SimEntry.reset, seenSeq := [], nextPoint := 0, atPlane := none, sweepStart := 0,
    squashed := [], lane := none, changes := [] }

/-- An entry configuration record (Table 10-2). -/
structure EntryCfg where
  en : Bool
  crate : Bool
  demand : Bool
  event : Bool
  badLevel : Nat
  cls : Nat
  task : Nat
  group : Nat
  modeMask : Nat
  list : Nat
  dLevel : Nat
  profile : Nat
  tag : List Byte
deriving DecidableEq, Repr

def EntryCfg.reset : EntryCfg :=
  { en := false, crate := false, demand := false, event := false, badLevel := 0, cls := 0, task := 0, group := 0xFFFF,
    modeMask := 0, list := 0, dLevel := 0, profile := 0, tag := List.replicate 16 0#8 }

/-- The state of an entry (Table 10-3), with what the rules need beside it: whether it has ever risen, the stamp of its
latest clear (R276), the instant at which it loses sup_mode (R275), the instant at which it is decided (R278), the
ladder whose call it has joined (R286), whether its activation has been announced and is not yet over, and by the count of rises and
announcements its latest rise and announcement (R277). -/
structure Entry where
  st : Nat
  shelved : Bool
  supMode : Bool
  supGraph : Bool
  oos : Bool
  pending : Bool
  level : Nat
  pri : Nat
  bad : Bool
  forced : Bool
  simulated : Bool
  poison : Bool
  actSeq : Nat
  nAct : Nat
  nAlm : Nat
  nBad : Nat
  onset : Nat
  changed : Nat
  cause : Nat
  slot : Nat
  ackSrc : Nat
  ackNode : Nat
  join : Nat
  rose : Bool
  lastClear : Option Nat
  modeDrop : Option Nat
  pendUntil : Option Nat
  call : Option Nat
  recount : Bool
  announced : Bool
  roseNo : Nat
  annNo : Nat
deriving DecidableEq, Repr

def Entry.reset : Entry :=
  { st := 0, shelved := false, supMode := false, supGraph := false, oos := false, pending := false, level := 0, pri := 0, bad := false,
    forced := false, simulated := false, poison := false, actSeq := 0, nAct := 0, nAlm := 0, nBad := 0, onset := 0,
    changed := 0, cause := 0xFFFF, slot := 0xFFFF, ackSrc := 0, ackNode := 0, join := 0, rose := false, lastClear := none,
    modeDrop := none, pendUntil := none, call := none, recount := false, announced := false, roseNo := 0, annNo := 0 }

/-- A suppression edge (Table 10-5). -/
structure Edge where
  cause : Nat
  conseq : Nat
  lead : Nat
  hold : Nat
deriving DecidableEq, Repr

/-- A group (Table 10-6), and the instant at which its open window ends (R280). -/
structure Group where
  autoRearm : Bool
  foWin : Nat
  foEntry : Nat
  armed : Bool
  opened : Bool
  final : Bool
  foOnset : Nat
  openedAt : Nat
  foEnd : Nat
deriving DecidableEq, Repr

def Group.reset : Group :=
  { autoRearm := false, foWin := 20, foEntry := 0xFFFF, armed := true, opened := false, final := false, foOnset := 0,
    openedAt := 0, foEnd := 0 }

/-- A shelving slot in use (Table 10-1): the entry, the source and node of the command, the expiry stamp. -/
structure Slot where
  entry : Nat
  source : Nat
  node : Nat
  expiry : Nat
deriving DecidableEq, Repr

/-- What the latest move of a call's rung changed: the rung, the deadline, exhausted and the count of escalations before it (R350). -/
structure RungMove where
  rung : Nat
  dl : Nat
  exhausted : Bool
  esc : Nat
deriving DecidableEq, Repr

/-- A call in progress beyond its ladder's registers: the highest priority it has held (R286), the targets it calls, when its frames
were last sent (R291), and its latest move. -/
structure Call where
  pri : Nat
  targets : Nat
  sent : Option Nat
  moved : Option RungMove
deriving DecidableEq, Repr

def Call.none_ : Call := { pri := 0, targets := 0, sent := none, moved := none }

/-- What a point contributes to the counts of an entry (R264): entry, level, quality BAD. -/
structure Contrib where
  entry : Nat
  lvl : Nat
  bad : Bool
deriving DecidableEq, Repr

/-- A word of a host that acts on ALH (R282): a command of ALH_CMD with operation, index, argument, source, stamp, and whether its port may
maintain; a write of ALH_MODE.mode over the mode that stood; a write of ALH_DUTY.target. -/
inductive AlhWord where
  | cmd (op idx arg src stamp : Nat) (may : Bool)
  | mode (m was src : Nat)
  | duty (n src : Nat)
deriving DecidableEq, Repr

/-- The alarm handling store and ALH's own state (R268): configuration, states, band map (by plane × 4,096 + band), edges by
index, groups, shelving slots, the calls of the ladders, what each point contributes (R264), the planes that a table load still recounts
(R299), the ANSWER frames received and their stamps (R291), the changes processed in the present second and its start
(ALH_RATE), the rises and announcements counted so far (R277), and the words of the host that wait while ALH is paused (R293). -/
structure Alh where
  cfg : SMap EntryCfg
  entries : SMap Entry
  bandMap : SMap Nat
  edges : List Edge
  groups : SMap Group
  slots : SMap Slot
  calls : SMap Call
  contrib : SMap Contrib
  recount : List Nat
  answers : List (Nat × List Byte)
  statusAt : Option Nat
  rateCount : Nat
  rateFrom : Nat
  rises : Nat
  held : List AlhWord
deriving DecidableEq, Repr

def Alh.reset : Alh :=
  { cfg := [], entries := [], bandMap := [], edges := [], groups := [], slots := [], calls := [], contrib := [], recount := [], answers := [], statusAt := none, rateCount := 0, rateFrom := 0, rises := 0, held := [] }

/-- A force slot (Table 11-5): state, symbol, element, value, the value in force, data type, and the tasks whose next cycle it
waits for. -/
structure Force where
  state : Nat
  sym : Nat
  idx : Nat
  val : Word
  act : Option Word
  dtype : Nat
  waits : List Nat
deriving DecidableEq, Repr

def Force.reset : Force := { state := 0, sym := 0, idx := 0, val := 0#32, act := none, dtype := 0, waits := [] }

/-- A command that a cycle issues at its commit (R324, R325): an ALH_CMD operation with its index, argument and the instance
that waits for the result (`taken`: the instance has received it); a mode; a duty target; a task to fire; a CAN object to send; a loop channel or the ramp target that no output of the task binds. -/
inductive FbeCmd where
  | alarm (op index arg inst : Nat)
  | mode (m : Nat)
  | duty (target : Nat)
  | fire (task : Nat)
  | canTx (port object : Nat) (data : List Byte)
  | loop (ch : Nat) (value : Word)
  | ramp (value : Word)
  | taken (inst : Nat)
deriving DecidableEq, Repr

/-- A cycle between its start and its commit (R313): cycle stamp, the private copies of the instance
data and of the output image, its commands, its arithmetic events, the receive counts of its snapshot (R314). -/
structure Cycle where
  stamp : Nat
  inst : SMap Byte
  out : SMap Word
  cmds : List FbeCmd
  arith : Nat
  seen : SMap Nat
deriving DecidableEq, Repr

/-- A task at run time: the trigger queue of an event task (R308), a release that waits (its cycle stamp), the cycle at work,
the stamp of its previous cycle, the latest release stamp reached, the committed output image by byte offset, the receive counts its previous
committed snapshot saw, and since when FBE_TK_CYC stands: its latest advance, or the first release since it began to run (R466). -/
structure Task where
  queue : List Nat
  released : Option Nat
  cycle : Option Cycle
  last : Option Nat
  rel : Option Nat
  out : SMap Word
  seen : SMap Nat
  watch : Option Nat
deriving DecidableEq, Repr

def Task.reset : Task := { queue := [], released := none, cycle := none, last := none, rel := none, out := [], seen := [], watch := none }

/-- The function-block engine beyond its registers: the images of the two code banks, the tasks, the force slots, the global
variables by symbol, results of alarm commands by instance offset (R324), how much later than from timebase zero the release
schedule stands (R330), the tally of an on-line change, and the tasks whose overrun is a fault (R310). -/
structure Fbe where
  banks : List (Option Program)
  tasks : List Task
  forces : SMap Force
  globals : SMap Word
  results : SMap Nat
  shift : Nat
  olcTally : Option Nat
  faults : Nat
deriving DecidableEq, Repr

def Fbe.reset : Fbe :=
  { banks := [none, none], tasks := List.replicate 16 Task.reset, forces := [], globals := [], results := [], shift := 0, olcTally := none, faults := 0 }

/-- An accepted trigger (R332): its stamp, source, argument, snapshot list (none: no items), and for source 1 the entry
state record after the change (R336). -/
structure Trigger where
  stamp : Nat
  source : Nat
  arg : Nat
  list : Option Nat
  context : List Byte
deriving DecidableEq, Repr

/-- A closed marker that waits to be written (R338): its sequence number, the calendar and the flags of its closing, the staged crates
before it. -/
structure Closing where
  seq : Nat
  cal : Nat
  flags : Nat
  ahead : Nat
deriving DecidableEq, Repr

/-- The marker in the marker slot (R338, R339): 1 overrun or 3 full, its count, the stamps of the first and the
last trigger folded in, one bit per source, the first ALH entry, the triggers of the count that found the queue full; closed, or open. -/
structure Marker where
  kind : Nat
  count : Nat
  tFirst : Nat
  tLast : Nat
  srcMask : Nat
  entry : Nat
  qfull : Nat
  closed : Option Closing
deriving DecidableEq, Repr

/-- A crate staged in a slot of the larder: its bytes 0–503 and its sequence number. -/
structure Crate where
  body : List Byte
  seq : Nat
deriving DecidableEq, Repr

/-- The recorder: the 16 snapshot lists (committed and staged, by list × 64 + item, R334), the trigger queue, the larder,
the marker slot, the sequence number last assigned, an erase that pauses writing (R344), the triggers the cellar counted
after the marker was written (R340), the loss to be marked (count, first and last stamp, R341), and the unwarned losses that no start-up
has counted yet. -/
structure Evr where
  lists : SMap Word
  stagedLists : SMap Word
  queue : List Trigger
  larder : List Crate
  marker : Option Marker
  lastSeq : Nat
  paused : Bool
  late : Nat
  loss : Option (Nat × Nat × Nat)
  losses : Nat
deriving DecidableEq, Repr

def Evr.reset : Evr :=
  { lists := [], stagedLists := [], queue := [], larder := [], marker := none, lastSeq := 0, paused := false, late := 0,
    loss := none, losses := 0 }

/-- A time write waiting for the next cellar pulse (R353): which of set, adjust and set_cal, the value, its instant, and
whether a date or time field carried a clamp since the previous time write (R354). -/
structure TimeWrite where
  kind : Nat
  value : Int
  stamp : Nat
  clamped : Bool
deriving DecidableEq, Repr

/-- The clocks: the calendar in steps of 2^-15 s (R351), the run count of untrimmed cellar pulses (R348), the 32-bit trim
accumulator and the temperature term (R358, R359), the 16.384 MHz reference running (R349), the time write that waits
(R353), a clamp of a date or time field since the previous time write (R354), the record of the timebase and run count in
the storeroom (R348; none before the first cellar start), an alarm that matched in BACKUP (R367), the local second in which
an alarm last fired (R364), the 32.768 kHz oscillator running (R357), a stop of the run count in BACKUP, the instant of the latest pulse
that the calendar counted (R351), the local day that the weekday counter has reached (R362), the calendar from which the periodic event's
next crossing counts (R366), and the instant of the latest temperature term (R359). -/
structure Tbs where
  cal : Nat
  runCount : Nat
  trimAcc : Nat
  tempTerm : Int
  refOk : Bool
  writes : List TimeWrite
  fieldClamp : Bool
  record : Option (Nat × Nat)
  lateA : Bool
  lateB : Bool
  firedA : Option Nat
  firedB : Option Nat
  x32Run : Bool
  runBroken : Bool
  calAt : Nat
  wdayAt : Nat
  perFrom : Nat
  tcompAt : Option Nat
deriving DecidableEq, Repr

def Tbs.reset : Tbs :=
  { cal := 0, runCount := 0, trimAcc := 0, tempTerm := 0, refOk := true, writes := [], fieldClamp := false,
    record := none, lateA := false, lateB := false, firedA := none, firedB := none, x32Run := true, runBroken := false,
    calAt := 0, wdayAt := 0, perFrom := 0, tcompAt := none }

/-- Attic A and its barrier (R369–R381). On COR's side: the arm bit of the down frames by a host re-arm (R377) and by a start-up (R35),
the start-up's first barrier frame yet to come (R35), a good up frame since the start-up (R374), good up frames in sequence, the
sequence number and instant of the last good up frame, the number of the latest up frame that arrived, the sequence of down frames, the
rotating configuration slot, vf18 of the latest good up frame, the owner's command of each line and the forces of FBE. On the island: the
instant of its last good down frame, the command it applies, armed, vf18 and since when its supply stands at or above 18 V, its supply
in mV, lines tripped, its self-check failed, the inputs above their thresholds, the judged and the debounced inputs, since when each input is
judged so, the edges to report (channel and stamp), wire-breaks, edges lost. Further: the commands that the lines hold in DORMANT (R381), the
effective command of the latest down frame, the 50 µs interval of the latest down and up frame and their bits, the number of the latest down
frame that the island found good (R370), the interval of the edges to report (R375), each ball's voltage in mV with its comparator's errors,
since when an input's current lies below 0.15 mA (R376) and an output is on (R378). -/
structure Dio where
  arm : Bool
  startArm : Bool
  first : Bool
  heard : Bool
  goodUp : Nat
  upSeq : Option Nat
  upRx : Option Nat
  lastUp : Nat
  downSeq : Nat
  cfgSlot : Nat
  vf18Seen : Bool
  own : Nat
  forces : List (Nat × Bool)
  lastDown : Nat
  cmd : Nat
  armed : Bool
  vf18 : Bool
  rise18 : Option Nat
  vfield : Nat
  trips : Nat
  selfFail : Bool
  raw : Nat
  judged : Nat
  debounced : Nat
  since : SMap Nat
  edges : List (Nat × Nat)
  wb : Nat
  lost : Nat
  hold : Nat
  sent : Nat
  downSlot : Option Nat
  downBits : List Bool
  downRx : Option Nat
  upSlot : Option Nat
  upBits : List Bool
  edgeSlot : Nat
  balls : SMap (Int × Int × Int)
  lowFrom : SMap Nat
  onFrom : SMap Nat
deriving DecidableEq, Repr

def Dio.reset : Dio :=
  { arm := false, startArm := false, first := false, heard := false, goodUp := 0, upSeq := none, upRx := none, lastUp := 0, downSeq := 0,
    cfgSlot := 0, vf18Seen := false, own := 0, forces := [], lastDown := 0, cmd := 0, armed := false, vf18 := false, rise18 := none,
    vfield := 0, trips := 0, selfFail := false, raw := 0, judged := 0, debounced := 0, since := [], edges := [], wb := 0, lost := 0,
    hold := 0, sent := 0, downSlot := none, downBits := [], downRx := none, upSlot := none, upBits := [], edgeSlot := 0, balls := [],
    lowFrom := [], onFrom := [] }

/-- A loop channel beyond its registers: FBE's value and force, the start current it keeps until its source first gives a
value (R385), the effective current after the slew (R391), the thermal ceiling (R394) and the regulated current in mA, the
target of the latest regulation step, since when the compliance condition holds or is absent (R395), since when diagnostic 11 finds it wrong
(R465), and the bytes of the
transmission on the loop with the instant at which it began (R398), the last effective current while COR had power (R401), and when a carrier
was last received (R398). -/
structure LoopCh where
  fbe : Option Word
  force : Option Word
  start : Option Q
  cur : Q
  ceil : Q
  out : Q
  target : Q
  holds : Option Nat
  absent : Option Nat
  wrong : Option Nat
  sending : List Byte
  txFrom : Nat
  kept : Q
  carrierAt : Option Nat
deriving DecidableEq, Repr

def LoopCh.reset : LoopCh :=
  { fbe := none, force := none, start := none, cur := Q.zero, ceil := Q.ofNat 24, out := Q.zero, target := Q.zero,
    holds := none, absent := none, wrong := none, sending := [], txFrom := 0, kept := Q.zero, carrierAt := none }

/-- Attic B and its barrier (R383–R386): good up frames in sequence, sequence number and instant of the latest, the number of the latest
up frame that arrived, the link lost since it was last valid, down frames sent, the instant of the island's last good down frame, no good down frame since the island was
powered (R385), loop-powered, VLOOP in mV, the instant of the latest regulation step, the number of the latest down frame that the island found good, the frame period of
the latest down frame, the latest good up frame reported VLOOP below 9.0 V and no sink channel carrying current (R383), the island's
temperature, and the channels. -/
structure Lpo where
  goodUp : Nat
  upSeq : Option Nat
  upRx : Option Nat
  lastUp : Nat
  lost : Bool
  downSeq : Nat
  lastDown : Nat
  fresh : Bool
  lpow : Bool
  vloop : Nat
  stepAt : Nat
  downRx : Option Nat
  downSlot : Option Nat
  upOff : Bool
  temp : Q
  ch : List LoopCh
deriving DecidableEq, Repr

def Lpo.reset : Lpo :=
  { goodUp := 0, upSeq := none, upRx := none, lastUp := 0, lost := false, downSeq := 0, lastDown := 0, fresh := true, lpow := false, vloop := 0,
    stepAt := 0, downRx := none, downSlot := none, upOff := false, temp := Q.zero, ch := List.replicate 4 LoopCh.reset }

/-- The transmit buffer of an object (R414): the frame, its start of frame once sent, the attempts that ended in an error
(R415), a cancel that came too late (R417), and the frames queued behind the one in transmission. -/
structure TxBuf where
  frame : CanFrame
  sof : Nat
  errors : Nat
  late : Bool
  next : List CanFrame
deriving DecidableEq, Repr

/-- A CAN port beyond its registers (R404–R422): the counters TEC and REC unlimited by their fields, the object in
transmission, the transmit buffers by object, the reply deadlines by object and whether each has been judged missed (R350, R419), the
configuration words in force (CFG, NBT, DBT, TDC; R408), the header words committed while their object's frame is in transmission (R417), and
whether the port acknowledged the latest frame and flagged the latest error (Table 16-1). -/
structure CanPort where
  txErr : Nat
  rxErr : Nat
  sending : Option Nat
  bufs : SMap TxBuf
  replies : SMap (Nat × Bool)
  cfg : List Word
  waiting : SMap (List Word)
  acked : Bool
  flagged : Bool
deriving DecidableEq, Repr

def CanFrame.reset : CanFrame := { ide := false, rtr := false, fd := false, brs := false, id := 0, dlc := 0, data := [] }
def TxBuf.reset : TxBuf := { frame := CanFrame.reset, sof := 0, errors := 0, late := false, next := [] }
def CanPort.reset : CanPort :=
  { txErr := 0, rxErr := 0, sending := none, bufs := [], replies := [], cfg := [0#32, 0#32, 0#32, 0#32],
    waiting := [], acked := false, flagged := false }

/-- Ports A and B. -/
structure Can where
  a : CanPort
  b : CanPort
deriving DecidableEq, Repr

def Can.reset : Can := { a := CanPort.reset, b := CanPort.reset }

/-- A pass of the panel driver (R431, R434): kind 0 a band pass, 1 a host pass, 2 a full host pass, 3 a full pass from the
shadow; its generation, its lines in order, and the position of the next one. -/
structure Pass where
  kind : Nat
  gen : Nat
  lines : List Nat
  next : Nat
deriving DecidableEq, Repr

/-- The panel driver beyond its registers (R424–R438): the front and back frames and the image on the glass by line × 256 +
byte, the shadow with its CRC, the ledger in the cellar (generation, last position, complete; none before the first pass), the pass at
work, a host pass that a band pass interrupted, a request that waits and whether it is full, whether a full pass from the shadow is
due, PVEN, PDISP and PCOM, the pass latched f_com, gap and inversion (R430), blink phase, a full pass verified since PVEN rose, crc_err
held until a full host pass (R433); a band pass that waits for the next line boundary, and whether it is the one at the entry to DORMANT
(R434, R438), what the band showed of the entries when it was last drawn; the instants at which the next line may begin, PVEN rose, PCOM's
wave at its present rate began, its half-periods since and that rate (R428), the bits of the latest transfer (R425), a clear transfer to come
(R427), the driver stopped for the power-fail sequence (R436), the rewrite of the start-up repeated (R437); when the blink last changed, and the
front frame was last checked. -/
structure Pnl where
  front : SMap Byte
  back : SMap Byte
  glass : SMap Byte
  shadow : SMap Byte
  shadowCrc : Nat
  ledger : Option (Nat × Nat × Bool)
  pass : Option Pass
  suspended : Option Pass
  want : Bool
  wantFull : Bool
  fromShadow : Bool
  pven : Bool
  pdisp : Bool
  pcom : Bool
  com : Nat × Nat × Nat
  inverted : Bool
  verified : Bool
  errHeld : Bool
  bandWant : Bool
  bandLast : Bool
  bandKey : List Nat
  lineFrom : Nat
  pvenAt : Nat
  comFrom : Nat
  comN : Nat
  comF : Nat
  sent : List Bool
  clearing : Bool
  stopped : Bool
  again : Bool
  blinkAt : Nat
  checkAt : Nat
deriving DecidableEq, Repr

def Pnl.reset : Pnl :=
  { front := [], back := [], glass := [], shadow := [], shadowCrc := 0, ledger := none, pass := none, suspended := none, want := false,
    wantFull := false, fromShadow := false, pven := false, pdisp := false, pcom := false, com := (1, 2, 0), inverted := false,
    verified := false, errHeld := false, bandWant := false, bandLast := false, bandKey := [], lineFrom := 0, pvenAt := 0, comFrom := 0, comN := 0, comF := 1, sent := [],
    clearing := false, stopped := false, again := false,
    blinkAt := 0, checkAt := 0 }

/-- A planned motion (R442): position, velocity and acceleration where it starts, in full steps and seconds; its parts, each a duration
and the jerk throughout it; the position at which it ends, at rest; how many advances of it have been made; the jmax it was planned with and
the jerk of its first part (a new jmax applies from the next change of acceleration). -/
structure RmpPlan where
  x : Q
  v : Q
  a : Q
  segs : List (Q × Q)
  fin : Q
  n : Nat
  jm : Q
  jerk : Q
deriving DecidableEq, Repr

/-- No motion, at a position. -/
def RmpPlan.rest (x : Q) : RmpPlan := { x := x, v := Q.zero, a := Q.zero, segs := [], fin := x, n := 0, jm := Q.zero, jerk := Q.zero }

/-- A step pulse placed (R441, R448): its leading edge in thousandths of a reference cycle and the microsteps it carries, signed. -/
structure RmpEdge where
  due : Nat
  delta : Int
deriving DecidableEq, Repr

/-- The ramp generator beyond its registers: acceleration, velocity and position at the latest advance, exact, in full steps and seconds; the
plan in force (R442); the step pulses placed and not yet counted in RMP_POS, the leading edge of the latest of them, and the latest counted (R441, R448); the
deceleration d* that a virtual limit forces on the motion (R446), the committed position (R452), the STPI input position (R449), the DFLT_N and
DSTOP_N levels (asserted), FBE's target and the force on it (Table 18-1), the position in microsteps at the latest start-up, which is the
target until the owner writes (R452), the entries that demand each profile (R445); the position at which the drive parks (R451), a stop
beyond a virtual limit (R447), the level of DIRO and the reference cycle of its latest change (R443), the slot of 2^-16 s of the latest
advance (R441) and the instant of the latest commit (R452). -/
structure Rmp where
  acc : Q
  vel : Q
  x : Q
  plan : RmpPlan
  edges : List RmpEdge
  lastEdge : Nat
  out : Option RmpEdge
  dStar : Option Q
  commit : Int
  input : Int
  dflt : Bool
  dstop : Bool
  fbeTarget : Option Word
  fbeForce : Option Word
  startTgt : Option Int
  demands : List (Nat × Nat)
  park : Option Int
  beyond : Bool
  diro : Bool
  dirAt : Nat
  advAt : Nat
  commitAt : Nat
deriving DecidableEq, Repr

def Rmp.reset : Rmp :=
  { acc := Q.zero, vel := Q.zero, x := Q.zero, plan := RmpPlan.rest Q.zero, edges := [], lastEdge := 0, out := none, dStar := none, commit := 0, input := 0, dflt := false, dstop := false, fbeTarget := none,
    fbeForce := none, startTgt := none, demands := [], park := none, beyond := false, diro := false, dirAt := 0, advAt := 0, commitAt := 0 }

/-- The safety supervisor beyond its registers: per converter the consecutive failing and passing check results of
diagnostic 4 and whether it fails now, and when each diagnostic was last found failing (R462); the steps of RUN, LEAN and DORMANT counted at the last full self-test that passed and at
the last automatic self-test (R472); when SDEM_N was last known to be low (R459); of the latest release of the safe state its stamp, and SAF_STAT.latched and the release event before it
(R513). -/
structure Saf where
  checkFails : List Nat
  checkPasses : List Nat
  conv4 : Nat
  failAt : List Nat
  stBase : Nat
  autoBase : Nat
  lowAt : Option Nat
  released : Option (Nat × Bool × Bool)
deriving DecidableEq, Repr

def Saf.reset : Saf :=
  { checkFails := List.replicate 8 0, checkPasses := List.replicate 8 0, conv4 := 0, failAt := List.replicate 15 0, stBase := 0, autoBase := 0,
    lowAt := none, released := none }

/-- A plan at work (R478, R479): what started it (0 its interval, 1 a low margin, 2 a tally), the tally, whether it applies its actions,
the domain whose offset step settles, its margin before the step and the instant of the step, the domains whose offset it has finished, the offsets and
classes at its start, and the domains changed. -/
structure AgePlan where
  src : Nat
  tally : Nat
  apply : Bool
  dom : Option Nat
  before : Q
  stepAt : Nat
  done : List Nat
  ofs : List Nat
  classes : List Nat
  changed : Nat
deriving DecidableEq, Repr

/-- The ageing planner beyond its registers: by domain the service margin, the completion margin (none before it was measured), the lowest of its other
monitors with its code, the gain of the latest offset step; the margins of monitors 1 and 2; sample rows below their sense limit (shelf, row) and rows marked weak;
the daily margins (by domain × 2^32 + day; R477); since when the completion margins of PTE and STO, monitor 1 and monitor 2 have stood
at target + 15 % (Table 20-2, 7); a plan due (0 its interval, 1 a low margin); the plan at work; steps of RUN and LEAN and of RUN, LEAN
and DORMANT with the instants from which they count now; the former at the latest plan by interval and at the latest monitor pass; TBS_XRATIO at the latest time write. -/
structure Age where
  service : List Q
  comp : List (Option Q)
  others : List (Option (Nat × Q))
  gains : List (Option Q)
  mon1 : Option Q
  mon2 : Option Q
  weak : List (Nat × Nat)
  marked : List (Nat × Nat)
  days : SMap Q
  okFrom : List (Option Nat)
  due : Option Nat
  plan : Option AgePlan
  runAcc : Nat
  runFrom : Option Nat
  runPlan : Nat
  runPass : Option Nat
  opAcc : Nat
  opFrom : Option Nat
  xratio : Int
deriving DecidableEq, Repr

def Age.reset : Age :=
  { service := List.replicate 12 (Q.ofNat 100), comp := List.replicate 12 none, others := List.replicate 12 none, gains := List.replicate 12 none, mon1 := none,
    mon2 := none, weak := [], marked := [], days := [], okFrom := [none, none, none], due := none, plan := none, runAcc := 0,
    runFrom := none, runPlan := 0, runPass := none, opAcc := 0, opFrom := none, xratio := 0 }

/-- The bank of a port on the SEC page (R497): its nonce and since when it is valid, its response, and when its session opened. -/
structure SecPort where
  nonce : List Word
  since : Option Nat
  resp : List Word
  opened : Nat
deriving DecidableEq, Repr

def SecPort.reset : SecPort :=
  { nonce := List.replicate 4 0#32, since := none, resp := List.replicate 16 0#32, opened := 0 }

/-- An open that waits for its decision (R497): port, level, the nonce then valid, the response. -/
structure OpenReq where
  port : Port
  level : Nat
  nonce : Option (List Word)
  resp : List Word
deriving DecidableEq, Repr

/-- Security beyond the SEC page (R492–R499): the keys of slots 1–3 (64 bytes X then Y) and the AES key, the banks of the ports, the
opens that wait, the end of the lockout, since when TDEN is low, tamper events in BACKUP not yet reported, and the stamp of the latest
tamper event (R513). -/
structure Sec where
  keys : SMap (List Byte)
  aes : Option (List Byte)
  host : SecPort
  trap : SecPort
  opens : List OpenReq
  lockUntil : Nat
  tdenLow : Option Nat
  tampLate : Bool
  tampAt : Option Nat
deriving DecidableEq, Repr

def Sec.reset : Sec :=
  { keys := [], aes := none, host := SecPort.reset, trap := SecPort.reset, opens := [], lockUntil := 0, tdenLow := none, tampLate := false,
    tampAt := none }

/-- The link test beyond the LNK page (R514–R521): the instance under test, the port that launched it; the generator's last bits, newest
in bit 0, and the bits sent; whether the next bit is inverted once; the checker's last bits, how many it holds (up to the pattern's
length), bits agreed in succession before lock, bits compared since lock and at which of them the latest mismatches stood; inserted errors
counted after lock; a test that a power loss ended, to be reported (its link). -/
structure Lnk where
  inst : Nat
  port : Port
  gen : Nat
  sent : Nat
  ins1 : Bool
  rx : Nat
  fill : Nat
  agreed : Nat
  since : Nat
  misses : List Nat
  insLocked : Nat
  cut : Option Nat
deriving DecidableEq, Repr

def Lnk.reset : Lnk :=
  { inst := 0, port := .host, gen := 0, sent := 0, ins1 := false, rx := 0, fill := 0, agreed := 0, since := 0, misses := [],
    insLocked := 0, cut := none }

/-- The state of the node. `pending` holds the commands that wait, first in, first out; `free` counts the free values
already drawn (the model's own field, not the spec's). -/
structure State where
  now : Nat
  pending : List Instr
  free : Nat
  regs : SMap Word
  staged : SMap Word
  group : List Nat
  rings : List ClampRing
  sealedPages : List Nat
  queue : List Frame
  host : PortState
  trap : PortState
  mem : SMap Byte
  poisoned : List Nat
  pwr : Pwr
  tly : Tly
  sac : Sac
  dyn : List DynCh
  spx : List SpxPl
  sto : Sto
  pte : Pte
  alh : Alh
  fbe : Fbe
  evr : Evr
  tbs : Tbs
  dio : Dio
  lpo : Lpo
  can : Can
  pnl : Pnl
  rmp : Rmp
  saf : Saf
  age : Age
  sec : Sec
  lnk : Lnk
deriving DecidableEq, Repr

/-- The node as it leaves the factory, before its first t0: lifecycle BLANK, every register at its Reset value (R14), no
supply applied, no command waiting. -/
def State.reset : State :=
  { now := 0,
    pending := [],
    free := 0,
    regs := [],
    staged := [],
    group := [],
    rings := [],
    sealedPages := [],
    queue := [],
    host := PortState.reset,
    trap := PortState.reset,
    mem := [],
    poisoned := [],
    pwr := Pwr.reset,
    tly := Tly.reset,
    sac := Sac.reset,
    dyn := List.replicate 16 DynCh.reset,
    spx := List.replicate 64 SpxPl.reset,
    sto := Sto.reset,
    pte := Pte.reset,
    alh := Alh.reset,
    fbe := Fbe.reset,
    evr := Evr.reset,
    tbs := Tbs.reset,
    dio := Dio.reset,
    lpo := Lpo.reset,
    can := Can.reset,
    pnl := Pnl.reset,
    rmp := Rmp.reset,
    saf := Saf.reset,
    age := Age.reset,
    sec := Sec.reset,
    lnk := Lnk.reset }

end Sys2Proof.Machine
end

