-- ==== Sys2Proof/Config.lean ====
section
/-! DEFINITION. What one part or one run fixes and the spec leaves open: opaque constants without a body, so that nothing
can be proved of their values. -/

namespace Sys2Proof.Machine

/-- The content of an alarm table image (R299): entry configurations, the band map by plane × 4,096 + band, edges in order of
their index, and auto_rearm and fo_win of the groups. -/
structure AlarmTable where
  cfg : List (Nat × EntryCfg)
  bandMap : List (Nat × Nat)
  edges : List Edge
  groups : List (Nat × Bool × Nat)
deriving DecidableEq, Repr

end Sys2Proof.Machine

namespace Sys2Proof.Config

open Sys2Proof Sys2Proof.Machine

/-- The grade of the part (Table 00-1): true for TK7256-XB. SYS_ID.grade is given per part. -/
opaque gradeXB : Bool

/-- SEC_UID: the unique identity of the part, given per part. -/
opaque uid : BitVec 64

/-- The Ulidom key in slot 0 of the key store, X then Y (R492): its value is not given. -/
opaque slot0 : List (BitVec 8)

/-- Free words: the n-th value the node draws from its random source, or that the spec leaves open. -/
opaque freeWord : Nat → BitVec 32

/-- The layout of an alarm table image's body, which the spec does not print: the table that the bytes hold, none where a field
lies outside what its record can hold. -/
opaque alarmTable : List Byte → Option AlarmTable

/-- The layouts of the symbol, instance, binding and parameter tables of a program image, which the spec does not print: the tables
that the bytes hold, none where they do not hold any. -/
opaque progTables : List Byte → Option ProgTables

/-- The signal blocks (Table 11-7, 0x20–0x2B), whose formulas the spec does not print: from the type, the state words, the inputs,
whether the state starts anew from them (R323: no words and no steps then) and the steps since the previous execution, the new state
words and the outputs. -/
opaque signalBlock : Nat → List Word → List Word → Bool → Nat → List Word × List Word

/-- The functions without state (Table 11-7, 0x40–0x7A), which the spec does not name: outputs from inputs. -/
opaque functionBlock : Nat → List Word → List Word

/-- The level code of a spectral point as a REAL (Table 11-3, kind 6): the spec states no conversion. -/
opaque spectralReal : Nat → Word

/-- The point access blocks PT_GET, PT_STATE and PT_LINE (Table 11-7), whose outputs the spec does not state: from the type, the
point, its value word (of a spectral point the REAL of its level code), quality and state byte in the snapshot. -/
opaque pointBlock : Nat → Nat → Word → Nat → Nat → List Word

/-- The built-in panel font (R435), whose shapes the spec does not print: the 8 pixels of row `r` of a code, pixel 0 in bit 0, a set
pixel dark. -/
opaque glyph : Nat → Nat → BitVec 8

/-- The error of the platinum conversion (R128): the spec bounds it below 0.1 mK and does not fix it. Curve and raw ratio in
units of 2^-24. -/
opaque platinumError : Nat → Nat → BitVec 32

/-- What the node takes for the voltage of a thermocouple of curve 8–15 at a temperature in °C outside the range of IEC 60584-1, in V. -/
opaque tcVolts : Nat → Q → Q

/-- The filters of the overall level (R176), whose alignment the spec does not give: high-pass or low-pass, its corner as the field
holds it, the channel's divisor, which of its two sections: b0, b1, b2, a1, a2 in steps of 2^-30. -/
opaque ovlSection : Bool → Nat → Nat → Nat → List Int

/-- The window of the low-pass filter of the ZOOM stream (R198), whose shape the spec does not give: at tap `k` of 256 stream samples and
a decimation of 2^z, in steps of 2^-31. -/
opaque zoomTap : Nat → Nat → Int

/-- How far the mixing frequency lies from fc (R198): within 50 µHz. -/
opaque zoomMix : Nat → Nat

/-- The interpolation error of an angle sample of ORDER (R196): at 2^m samples per revolution, angle sample `j` of a record from the
stamp given; the meaning keeps it below −100 dB of the record. -/
opaque orderError : Nat → Nat → Nat → Int

/-- The key of a storeroom region before the first STO_REKEY (R222): a random value per part. -/
opaque regionKey : Nat → BitVec 32

/-- The keyed 4-bit function that places a group on the shelves (R221), which the spec does not give: key, then group. -/
opaque shelfHash : BitVec 32 → Nat → BitVec 4

/-- The bytes of the converters' factory records (R159), written before BLANK: the values of this part. -/
opaque factoryByte : Nat → Byte

/-- SPX_STAT.demand, in 0.1 GFLOP/s, of the enabled planes with their channels' DYN_MODE.div (Table 07-7): the spec gives no formula. -/
opaque spxDemand : List (Nat × Nat) → BitVec 8

/-- The RUN power that the planner predicts from the supply offsets of the domains in 5 mV steps, in mW (R480): the spec gives no
formula. -/
opaque runPower : List Nat → BitVec 16

/-- How long the routing switches stay open between slots (Table 04-1, t_bbm between 0.5 and 2 µs). -/
opaque breakTime : BitVec 32

end Sys2Proof.Config
end

