-- ==== Sys2Proof/Machine/Curves.lean ====
section
/-! DEFINITION. The curves of Table 04-5 as functions of the raw quantity: platinum (R128) and thermocouples (R126, R127). The spec names
IEC 60584-1 and does not print its functions; the coefficients are the standard's, PRESUMED from outside the spec (log 36). -/

namespace Sys2Proof.Machine

open Sys2Proof

/-- The largest number from `lo` on, below `lo` + 2^k, that a falling condition admits; `lo` itself is admitted. -/
def bisect (ok : Int → Bool) : Nat → Int → Int
  | 0, lo => lo
  | k + 1, lo => if ok (lo + 2 ^ k) then bisect ok k (lo + 2 ^ k) else bisect ok k lo

/-! ### Platinum (R128) -/

/-- The platinum ratio of R128 at `n` × 2^-24 °C, times 10^16 × 2^96. -/
def ptRatio (n : Int) : Int :=
  10 ^ 16 * 2 ^ 96 + 39083000000000 * n * 2 ^ 72 - 5775000000 * n * n * 2 ^ 48 -
    (if n < 0 then 41830 * (n - 100 * 2 ^ 24) * n * n * n else 0)

/-- The temperature of a platinum ratio within the domain: the root of R128 with a free error. The spec bounds the whole error below
0.1 mK; rounding to binary32 takes up to 0.031 mK of it, so the free part stays below 0.06 mK, and no result leaves the domain. -/
def ptTemp (curve : Nat) (r : Q) : Q :=
  let n := bisect (fun n => Q.le (Q.make (ptRatio n) (10 ^ 16 * 2 ^ 96)) r) 35 (-200 * 2 ^ 24)
  let e := (Config.platinumError curve (Q.mul r (Q.ofNat (2 ^ 24))).toNat).toNat
  Q.clip (Q.ofInt (-200)) (Q.ofInt 850)
    (Q.add (Q.make n (2 ^ 24)) (Q.make (3 * (2 * (e : Int) + 1 - 2 ^ 32)) (2 ^ 32 * 50000)))

/-! ### Thermocouples (IEC 60584-1): E in mV of t in °C, by pieces -/

/-- A piece of a reference function: its range in 0.001 °C and its coefficients in ascending order, each as m × 10^-e. -/
structure TcPiece where
  lo : Int
  hi : Int
  coeffs : List (Int × Nat)
deriving DecidableEq, Repr

/-- Type B. -/
def tcB : List TcPiece :=
  [⟨0, 630615,
     [(0, 0), (-24650818346, 14), (59040421171, 16), (-13257931636, 19), (15668291901, 22), (-1694452924, 24),
      (62990347094, 29)]⟩,
  ⟨630615, 1820000,
     [(-38938168621, 10), (2857174747, 11), (-84885104785, 15), (15785280164, 17), (-16835344864, 20), (11109794013, 23),
      (-44515431033, 27), (98975640821, 31), (-93791330289, 35)]⟩]

/-- Type E. -/
def tcE : List TcPiece :=
  [⟨-270000, 0,
     [(0, 0), (58665508708, 12), (45410977124, 15), (-77998048686, 17), (-25800160843, 18), (-59452583057, 20),
      (-93214058667, 22), (-10287605534, 23), (-80370123621, 26), (-43979497391, 28), (-16414776355, 30), (-39673619516, 33),
      (-55827328721, 36), (-34657842013, 39)]⟩,
  ⟨0, 1000000,
     [(0, 0), (5866550871, 11), (45032275582, 15), (28908407212, 18), (-33056896652, 20), (6502440327, 22),
      (-19197495504, 26), (-12536600497, 28), (21489217569, 31), (-14388041782, 34), (35960899481, 38)]⟩]

/-- Type J. -/
def tcJ : List TcPiece :=
  [⟨-210000, 760000,
     [(0, 0), (50381187815, 12), (3047583693, 14), (-8568106572, 17), (13228195295, 20), (-17052958337, 23),
      (20948090697, 26), (-12538395336, 29), (15631725697, 33)]⟩,
  ⟨760000, 1200000,
     [(29645625681, 8), (-14976127786, 10), (31787103924, 13), (-31847686701, 16), (15720819004, 19), (-30691369056, 23)]⟩]

/-- Type K. -/
def tcK : List TcPiece :=
  [⟨-270000, 0,
     [(0, 0), (39450128025, 12), (23622373598, 15), (-32858906784, 17), (-49904828777, 19), (-67509059173, 21),
      (-57410327428, 23), (-31088872894, 25), (-10451609365, 27), (-19889266878, 30), (-16322697486, 33)]⟩,
  ⟨0, 1372000,
     [(-17600413686, 12), (38921204975, 12), (18558770032, 15), (-99457592874, 18), (31840945719, 20), (-56072844889, 23),
      (56075059059, 26), (-32020720003, 29), (97151147152, 33), (-12104721275, 36)]⟩]

/-- Type N. -/
def tcN : List TcPiece :=
  [⟨-270000, 0,
     [(0, 0), (26159105962, 12), (10957484228, 15), (-93841111554, 18), (-46412039759, 21), (-26303357716, 22),
      (-22653438003, 24), (-76089300791, 27), (-93419667835, 30)]⟩,
  ⟨0, 1300000,
     [(0, 0), (25929394601, 12), (1571014188, 14), (43825627237, 18), (-25261169794, 20), (64311819339, 23),
      (-10063471519, 25), (99745338992, 29), (-60863245607, 32), (20849229339, 35), (-30682196151, 39)]⟩]

/-- Type R. -/
def tcR : List TcPiece :=
  [⟨-50000, 1064180,
     [(0, 0), (528961729765, 14), (139166589782, 16), (-238855693017, 19), (356916001063, 22), (-462347666298, 25),
      (500777441034, 28), (-373105886191, 31), (157716482367, 34), (-281038625251, 38)]⟩,
  ⟨1064180, 1664500,
     [(295157925316, 11), (-252061251332, 14), (159564501865, 16), (-764085947576, 20), (205305291024, 23),
      (-293359668173, 27)]⟩,
  ⟨1664500, 1768100,
     [(152232118209, 9), (-268819888545, 12), (171280280471, 15), (-345895706453, 19), (-934633971046, 26)]⟩]

/-- Type S. -/
def tcS : List TcPiece :=
  [⟨-50000, 1064180,
     [(0, 0), (540313308631, 14), (12593428974, 15), (-232477968689, 19), (322028823036, 22), (-331465196389, 25),
      (255744251786, 28), (-125068871393, 31), (271443176145, 35)]⟩,
  ⟨1064180, 1664500,
     [(132900444085, 11), (334509311344, 14), (654805192818, 17), (-164856259209, 20), (129989605174, 25)]⟩,
  ⟨1664500, 1768100,
     [(146628232636, 9), (-258430516752, 12), (163693574641, 15), (-330439046987, 19), (-943223690612, 26)]⟩]

/-- Type T. -/
def tcT : List TcPiece :=
  [⟨-270000, 0,
     [(0, 0), (38748106364, 12), (44194434347, 15), (11844323105, 17), (20032973554, 18), (90138019559, 20),
      (22651156593, 21), (36071154205, 23), (38493939883, 25), (28213521925, 27), (14251594779, 29), (48768662286, 32),
      (1079553927, 33), (13945027062, 37), (79795153927, 41)]⟩,
  ⟨0, 400000,
     [(0, 0), (38748106364, 12), (3329222788, 14), (20618243404, 17), (-21882256846, 19), (10996880928, 21),
      (-30815758772, 24), (4547913529, 26), (-27512901673, 30)]⟩]

/-- The pieces of the type that a curve names (Table 04-5). -/
def tcPieces (c : Nat) : List TcPiece := [tcB, tcE, tcJ, tcK, tcN, tcR, tcS, tcT].getD (c - 8) []

/-- e^-q for q ≥ 0, to 2^-60: the series at q / 1024, then ten squarings, in steps of 2^-80. -/
def expNeg (q : Q) : Q :=
  let one : Int := 2 ^ 80
  let y : Int := (Q.mul q (Q.ofInt (2 ^ 70))).floor
  let series : Int × Int := (List.range 14).foldl (fun (a : Int × Int) (i : Nat) => (a.1 + a.2, Int.fdiv (-(a.2 * y)) (one * (i + 1)))) (0, one)
  Q.make ((List.range 10).foldl (fun a _ => Int.fdiv (a * a) one) series.1) (2 ^ 80)

/-- The exponential term of type K above 0 °C. -/
def tcKTerm (t : Q) : Q :=
  let x := Q.sub t (Q.frac 1269686 10000)
  Q.mul (Q.frac 1185976 10000000) (expNeg (Q.mul (Q.frac 1183432 10000000000) (Q.mul x x)))

/-- The reference function of a curve in V; a free value outside the range of the standard. -/
def tcVolts (c : Nat) (t : Q) : Q :=
  match (tcPieces c).find? (fun p => Q.le (Q.make p.lo 1000) t && Q.le t (Q.make p.hi 1000)) with
  | none => Config.tcVolts c t
  | some p =>
    let e := p.coeffs.foldr (fun a (acc : Q) => Q.add (Q.mul acc t) (Q.make a.1 (10 ^ a.2))) Q.zero
    let e := if c = 11 ∧ Q.lt Q.zero t then Q.add e (tcKTerm t) else e
    Q.mul e (Q.frac 1 1000)

/-- The domain of the thermocouple curves in °C (Table 04-5). -/
def tcDomain (c : Nat) : Int × Int :=
  [(250, 1820), (-200, 1000), (-210, 1200), (-200, 1372), (-200, 1300), (-50, 1768), (-50, 1768), (-200, 400)].getD (c - 8) (0, 0)

/-- The inverse function of a curve on its domain: the temperature, to 2^-24 °C, whose voltage does not exceed `v`. -/
def tcTemp (c : Nat) (v : Q) : Q :=
  let (lo, hi) := tcDomain c
  Q.make (bisect (fun n => decide (n ≤ hi * 2 ^ 24) && Q.le (tcVolts c (Q.make n (2 ^ 24))) v) 35 (lo * 2 ^ 24)) (2 ^ 24)

end Sys2Proof.Machine
end

