-- ==== Sys2Proof/Machine/Ops.lean ====
section
/-! DEFINITION. The named operations over the state: which page an address lies in, the fields of registers, the events of
a page, the clamp rings, the bytes of the storeroom, stamps and durations, free values. -/

namespace Sys2Proof.Machine

open Sys2Proof

/-! ### Durations (R8, R18): the timebase counts 2^24 steps a second. -/

def secs (n : Nat) : Nat := n * 16777216
def msecs (n : Nat) : Nat := n * 16777216 / 1000
def usecs (n : Nat) : Nat := n * 16777216 / 1000000
/-- Steps of the timebase as whole milliseconds. -/
def toMs (n : Nat) : Nat := n * 1000 / 16777216
def toUs (n : Nat) : Nat := n * 1000000 / 16777216

/-! ### Words -/

/-- Bit `i` of a number. -/
def bitAt (n i : Nat) : Bool := decide (n / 2 ^ i % 2 = 1)
/-- A number with bit `i` set or cleared. -/
def withBit (n i : Nat) (b : Bool) : Nat := if bitAt n i = b then n else if b then n + 2 ^ i else n - 2 ^ i
/-- 2^i where a flag is set. -/
def flagBit (b : Bool) (i : Nat) : Nat := if b then 2 ^ i else 0
/-- The number of `n` bits whose bit `i` is `f i`. -/
def bitsOf (n : Nat) (f : Nat → Bool) : Nat := (List.range n).foldl (fun acc i => if f i then acc + 2 ^ i else acc) 0

/-- Bits `lsb + width - 1` down to `lsb` of a word. -/
def Word.bits (w : Word) (lsb width : Nat) : Nat := w.toNat / 2 ^ lsb % 2 ^ width

/-- The word with `width` bits from `lsb` on replaced by `v`. -/
def Word.withBits (w : Word) (lsb width v : Nat) : Word :=
  word (w.toNat - Word.bits w lsb width * 2 ^ lsb + v % 2 ^ width * 2 ^ lsb)

/-- The four bytes of a word, little-endian (R6). -/
def Word.bytes (w : Word) : List Byte :=
  [byte w.toNat, byte (w.toNat / 256), byte (w.toNat / 65536), byte (w.toNat / 16777216)]

/-- The little-endian number of a byte list (R6). -/
def leNat : List Byte → Nat
  | [] => 0
  | b :: l => b.toNat + 256 * leNat l

/-- `n` little-endian bytes of a number (R6). -/
def leBytes : Nat → Nat → List Byte
  | 0, _ => []
  | n + 1, v => byte v :: leBytes n (v / 256)

/-! ### Pages (Table 03-3 and the bases of the chapters) -/

/-- The kind and instance of the page with page number `no` (its base divided by 0x1000). -/
def pageOf (no : Nat) : Option (Kind × Nat) :=
  if no ≤ 8 then
    some (([Kind.sys, .hpi, .tly, .tbs, .saf, .age, .sec, .dbg, .lnk].getD no .sys), 0)
  else if no = 0x10 then some (.sac, 0)
  else if 0x11 ≤ no ∧ no ≤ 0x18 then some (.cv, no - 0x11)
  else if 0x20 ≤ no ∧ no ≤ 0x3F then some (.sc, no - 0x20)
  else if no = 0x40 then some (.dyn, 0)
  else if 0x41 ≤ no ∧ no ≤ 0x50 then some (.dynCh, no - 0x41)
  else if no = 0x60 then some (.spx, 0)
  else if 0x61 ≤ no ∧ no ≤ 0xA0 then some (.spxPl, no - 0x61)
  else if no = 0xB0 then some (.sto, 0)
  else if no = 0xC0 then some (.pte, 0)
  else if no = 0xD0 then some (.alh, 0)
  else if 0xD1 ≤ no ∧ no ≤ 0xD8 then some (.alhLd, no - 0xD1)
  else if no = 0xE0 then some (.fbe, 0)
  else if no = 0xF0 then some (.evr, 0)
  else if no = 0x100 then some (.dio, 0)
  else if no = 0x110 then some (.lpo, 0)
  else if 0x111 ≤ no ∧ no ≤ 0x114 then some (.lpoCh, no - 0x111)
  else if no = 0x120 ∨ no = 0x128 then some (.can, 0)
  else if 0x121 ≤ no ∧ no ≤ 0x124 then some (.canObj, no - 0x121)
  else if 0x129 ≤ no ∧ no ≤ 0x12C then some (.canObj, no - 0x129)
  else if no = 0x130 then some (.pnl, 0)
  else if no = 0x140 then some (.rmp, 0)
  else if 0x150 ≤ no ∧ no ≤ 0x15F then some (.pteCl, no - 0x150)
  else if 0x160 ≤ no ∧ no ≤ 0x16F then some (.fbeTk, no - 0x160)
  else none

/-- The page base of an address. -/
def pageBase (a : Nat) : Nat := a / 0x1000 * 0x1000
def pageAt (a : Nat) : Option (Kind × Nat) := pageOf (a / 0x1000)

def P.SYS : Nat := 0x000000
def P.HPI : Nat := 0x001000
def P.TLY : Nat := 0x002000
def P.TBS : Nat := 0x003000
def P.SAF : Nat := 0x004000
def P.AGE : Nat := 0x005000
def P.SEC : Nat := 0x006000
def P.DBG : Nat := 0x007000
def P.LNK : Nat := 0x008000
def P.SAC : Nat := 0x010000
def P.CV (k : Nat) : Nat := 0x011000 + k * 0x1000
def P.SC (ch : Nat) : Nat := 0x020000 + ch * 0x1000
def P.DYNC : Nat := 0x040000
def P.DYN (ch : Nat) : Nat := 0x041000 + ch * 0x1000
def P.SPXC : Nat := 0x060000
def P.SPX (i : Nat) : Nat := 0x061000 + i * 0x1000
def P.STO : Nat := 0x0B0000
def P.PTE : Nat := 0x0C0000
def P.PTECL (c : Nat) : Nat := 0x150000 + c * 0x1000
def P.ALH : Nat := 0x0D0000
def P.ALHLD (n : Nat) : Nat := 0x0D1000 + n * 0x1000
def P.FBE : Nat := 0x0E0000
def P.FBETK (n : Nat) : Nat := 0x160000 + n * 0x1000
def P.EVR : Nat := 0x0F0000
def P.DIO : Nat := 0x100000
def P.LPO : Nat := 0x110000
def P.LPOCH (n : Nat) : Nat := 0x111000 + n * 0x1000
/-- The common page of port A (0) or B (1). -/
def P.CAN (p : Nat) : Nat := 0x120000 + p * 0x8000
/-- Object page j of port A (0) or B (1). -/
def P.CANOBJ (p j : Nat) : Nat := 0x121000 + p * 0x8000 + j * 0x1000
def P.PNL : Nat := 0x130000
def P.RMP : Nat := 0x140000

/-- The block number of a page kind (Table 03-3); the CAN blocks are 19 and 20 by their base. -/
def Kind.block : Kind → Nat → Nat
  | .sys, _ => 0 | .hpi, _ => 1 | .tly, _ => 2 | .tbs, _ => 3 | .saf, _ => 4 | .age, _ => 5 | .sec, _ => 6
  | .dbg, _ => 7 | .lnk, _ => 8 | .sac, _ => 9 | .cv, _ => 9 | .sc, _ => 9 | .dyn, _ => 10 | .dynCh, _ => 10
  | .spx, _ => 11 | .spxPl, _ => 11 | .sto, _ => 12 | .pte, _ => 13 | .pteCl, _ => 13 | .alh, _ => 14 | .alhLd, _ => 14
  | .fbe, _ => 15 | .fbeTk, _ => 15 | .evr, _ => 16 | .dio, _ => 17 | .lpo, _ => 18 | .lpoCh, _ => 18
  | .can, base => if base < 0x128000 then 19 else 20
  | .canObj, base => if base < 0x128000 then 19 else 20
  | .pnl, _ => 21 | .rmp, _ => 22

/-- The kind number of PG_ID (Table 03-3). -/
def Kind.number : Kind → Nat
  | .cv | .dynCh | .spxPl | .pteCl | .alhLd | .fbeTk | .lpoCh => 1
  | .sc => 2
  | .canObj => 3
  | _ => 0

/-! ### Fields -/

/-- The i-th instance of a field that stands more than once in its page. -/
def Field.nth (f : Field) (i : Nat) : Field := { f with off := f.off + i * f.stride }

/-- The field stands at this offset of its page. -/
def Field.coversWord (f : Field) (off : Nat) : Bool :=
  if f.stride = 0 then decide (f.off = off)
  else decide (f.off ≤ off) && decide ((off - f.off) % f.stride = 0) && decide ((off - f.off) / f.stride < f.cnt)

/-- The common fields of every page at 0x00–0x2F that are held as register bits (Tables 03-5, 03-9, 03-10). -/
def R.PG_STAT_locked : Field := ⟨0x08, 1, 0, 2, 1, .ro, 0, .any, true⟩
def R.PG_STAT_staged : Field := ⟨0x08, 1, 0, 4, 1, .ro, 0, .any, true⟩
def R.PG_IRQ_STAT_events : Field := ⟨0x20, 1, 0, 0, 32, .w1c, 0, .any, false⟩
def R.PG_IRQ_EN_en : Field := ⟨0x24, 1, 0, 0, 32, .rw, 0, .any, true⟩
def R.PG_SEQ_seq : Field := ⟨0x2C, 1, 0, 0, 32, .ro, 0, .any, true⟩

/-- The fields of a page; a plane page has those of its plane (Table 07-8) as well. An object's CAN_OBJ_MASK and CAN_OBJ_RPL are two
registers at one offset, of which `dir` says which stands (Table 16-7): the reply words are held at 0x600 + 4 × i, where the page has no
register of its own. -/
def Kind.allFields (k : Kind) (inst : Nat) : List Field :=
  match k with
  | .spxPl => Kind.fields .spxPl ++ Kind.planeFields (inst % 4)
  | _ => Kind.fields k

/-- The fields of the word at an offset. -/
def fieldsAt (k : Kind) (inst off : Nat) : List Field := (Kind.allFields k inst).filter (fun f => f.coversWord off)

/-- SPX_HOT.en resets to 1 on a TK7256-XB and to 0 on a TK7256-MB (Table 07-7). -/
def Field.resetValue (f : Field) : Nat := if f = R.SPX_HOT_en then (if Config.gradeXB then 1 else 0) else f.reset

/-- The Reset value of a word of a page, from the Reset entries of its fields. -/
def wordReset (k : Kind) (inst off : Nat) : Word :=
  word ((fieldsAt k inst off).foldl (fun acc f => acc + f.resetValue * 2 ^ f.lsb) 0)

/-- What a register that nothing has written holds. -/
def regDflt (a : Nat) : Word :=
  match pageAt a with
  | some (k, i) => if a % 0x1000 < 0x30 then 0#32 else wordReset k i (a % 0x1000)
  | none => 0#32

/-- The word in force at a register address. -/
def State.reg (s : State) (a : Nat) : Word := SMap.get regDflt s.regs a

/-- The state with a register word in force replaced. -/
def State.setReg (s : State) (a : Nat) (w : Word) : State := { s with regs := SMap.insert s.regs a w }

/-- The value of a field of the page at base `b`. -/
def State.fv (s : State) (b : Nat) (f : Field) : Nat := Word.bits (s.reg (b + f.off)) f.lsb f.width

/-- A one-bit field as a Bool. -/
def State.fb (s : State) (b : Nat) (f : Field) : Bool := decide (s.fv b f ≠ 0)

/-- A field as a word (a binary32, or a 32-bit count). -/
def State.fw (s : State) (b : Nat) (f : Field) : Word := word (s.fv b f)

/-- The state with a field replaced. -/
def State.setFv (s : State) (b : Nat) (f : Field) (v : Nat) : State :=
  s.setReg (b + f.off) (Word.withBits (s.reg (b + f.off)) f.lsb f.width v)

def State.setFb (s : State) (b : Nat) (f : Field) (v : Bool) : State := s.setFv b f (if v then 1 else 0)

/-- Add to a saturating count. -/
def State.satInc (s : State) (b : Nat) (f : Field) (n : Nat) : State :=
  s.setFv b f (satAdd (2 ^ f.width - 1) (s.fv b f) n)

/-- Add to a wrapping count. -/
def State.wrapInc (s : State) (b : Nat) (f : Field) (n : Nat) : State := s.setFv b f (s.fv b f + n)

/-- Write a stamp into a LO and HI register pair. -/
def State.setStamp (s : State) (b : Nat) (lo hi : Field) (t : Nat) : State :=
  (s.setFv b lo (t % 2 ^ 32)).setFv b hi (t / 2 ^ 32)

/-- Read a stamp from a LO and HI register pair. -/
def State.stamp (s : State) (b : Nat) (lo hi : Field) : Nat := s.fv b lo + 2 ^ 32 * s.fv b hi

/-- The words of a page as a commit would leave them, by their offset (R85): those not listed are the words in force. -/
abbrev Cand := SMap Word

def Cand.word (c : Cand) (s : State) (b off : Nat) : Word := (SMap.get? c off).getD (s.reg (b + off))
/-- A field of a page as a commit would leave it. -/
def Cand.fv (c : Cand) (s : State) (b : Nat) (f : Field) : Nat := Word.bits (c.word s b f.off) f.lsb f.width

/-! ### Events and clamps -/

/-- Set bit `n` of the page's PG_IRQ_STAT. -/
def State.irq (s : State) (b n : Nat) : State :=
  s.setReg (b + 0x20) (s.reg (b + 0x20) ||| word (2 ^ n))

def State.irqIf (s : State) (c : Bool) (b n : Nat) : State := if c then s.irq b n else s

/-- The clamp ring of a page. -/
def State.ring (s : State) (b : Nat) : ClampRing :=
  (s.rings.find? (fun r => decide (r.page = b))).getD { page := b, entries := [], lost := 0 }

/-- Replace the clamp ring of a page; an empty ring is not listed. -/
def State.setRing (s : State) (r : ClampRing) : State :=
  let rest := s.rings.filter (fun x => decide (x.page ≠ r.page))
  { s with rings := if r.entries = [] ∧ r.lost = 0 then rest else r :: rest }

/-- Record a clamp (R86, R87): an entry in the ring, or one more lost when it holds 8; PG_IRQ_STAT.clamp and the sticky
clamp bit of both ports are set. -/
def State.clampAt (s : State) (b off lsb : Nat) (src : Bool) (wr st : Nat) : State :=
  let r := s.ring b
  let r' : ClampRing :=
    if r.entries.length < 8 then
      { r with entries := r.entries ++ [{ word := off / 4 % 1024, lsb := lsb, src := src, wr := word wr, st := word st }] }
    else { r with lost := satAdd 2047 r.lost 1 }
  let s := (s.setRing r').irq b 31
  { s with host := { s.host with clamp := true }, trap := { s.trap with clamp := true } }

/-! ### The storeroom (R212, R534) -/

/-- What a byte of the storeroom that nothing has written reads as: the point records of R534, 0xFF in the band map of
the alarm handling store, the part's own values in the factory records (R159), 0 elsewhere. -/
def memDflt (a : Nat) : Byte :=
  if 0x08000000 ≤ a ∧ a < 0x28000000 then
    (if a % 16 < 4 then 0xFF#8 else if a % 16 = 4 then 1#8 else if a % 16 = 8 then 0xC0#8 else 0#8)
  else if 0x44000000 ≤ a ∧ a < 0x44200000 then
    (if a % 32 < 16 then (if a % 4 = 2 then 0xC0#8 else if a % 4 = 3 then 0x7F#8 else 0#8)
     else if a % 32 = 24 ∨ a % 32 = 25 then 0xFF#8
     else if a % 32 = 27 then 3#8 else 0#8)
  else if 0x00D80000 ≤ a ∧ a < 0x00E00000 then 0xFF#8
  else if 0x00310000 ≤ a ∧ a < 0x00310800 then Config.factoryByte a
  else 0#8

/-- The canonical form of the storeroom's list. -/
abbrev Memory.wf (m : SMap Byte) : Prop := SMap.wf memDflt m = true

/-- One byte of the storeroom. -/
def State.rd8 (s : State) (a : Nat) : Byte := SMap.get memDflt s.mem a

/-- `n` bytes of the storeroom from an address on. -/
def State.rdBytes (s : State) : Nat → Nat → List Byte
  | _, 0 => []
  | a, n + 1 => s.rd8 a :: s.rdBytes (a + 1) n

/-- `n` bytes of the storeroom as a little-endian number. -/
def State.rdLe (s : State) (a n : Nat) : Nat := leNat (s.rdBytes a n)

/-- Write one byte of the storeroom. -/
def State.wr8 (s : State) (a : Nat) (b : Byte) : State := { s with mem := SMap.put memDflt s.mem a b }

/-- Write bytes of the storeroom from an address on. -/
def State.wrBytes (s : State) : Nat → List Byte → State
  | _, [] => s
  | a, b :: l => (s.wr8 a b).wrBytes (a + 1) l

/-- Write `n` little-endian bytes of a number. -/
def State.wrLe (s : State) (a n v : Nat) : State := s.wrBytes a (leBytes n v)

/-- The 64-bit word of an address is poisoned (R228). -/
def State.isPoisoned (s : State) (a : Nat) : Bool := s.poisoned.contains (a / 8 * 8)

/-- Some word of the range `[a, a + n)` is poisoned. -/
def State.anyPoison (s : State) (a n : Nat) : Bool :=
  s.poisoned.any (fun p => decide (p < a + n) && decide (a < p + 8))

/-- A poisoned word that the range `[a, a + n)` covers only in part: a write of it is refused (R228). -/
def State.partPoison (s : State) (a n : Nat) : Bool :=
  s.poisoned.any (fun p => decide (p < a + n) && decide (a < p + 8) && !(decide (a ≤ p) && decide (p + 8 ≤ a + n)))

/-- Clear the poison of every word that the range `[a, a + n)` covers whole (R228). -/
def State.curePoison (s : State) (a n : Nat) : State :=
  { s with poisoned := s.poisoned.filter (fun p => !(decide (a ≤ p) && decide (p + 8 ≤ a + n))) }

/-- A node write (R213, R228): refused where it covers a poisoned word only in part. -/
def State.nodeWrite (s : State) (a : Nat) (l : List Byte) : State :=
  if s.partPoison a l.length then s else (s.curePoison a l.length).wrBytes a l

def State.nodeWriteLe (s : State) (a n v : Nat) : State := s.nodeWrite a (leBytes n v)

/-! ### Placement (R221–R223, R230) -/

/-- The key number of an address (R222): the eleven keyed regions of Table 08-1 in its order, and from 16 on the halves of the planes. -/
def keyNo (a : Nat) : Nat :=
  if 0x28000000 ≤ a ∧ a < 0x30000000 then
    (let o := a - 0x28000000
     16 + 2 * (o % 0x04000000 / 0x100000) + o / 0x04000000)
  else
    (([0x04000000, 0x05000000, 0x06000000, 0x08000000, 0x30000000, 0x40000000, 0x44000000, 0x48000000, 0x50000000, 0x80000000] : List Nat).filter
      (fun e => decide (e ≤ a))).length

/-- The key that the group of an address holds (R222, R223): that of a re-key under way where the group has moved, else the one drawn last,
else the part's first. -/
def State.keyOf (s : State) (a : Nat) : Word :=
  let old := (SMap.get? s.sto.keys (keyNo a)).getD (Config.regionKey (keyNo a))
  if a / 4096 < s.sto.moved then (SMap.get? s.sto.newKeys (keyNo a)).getD old else old

/-- The shelf of an address, and its row of 1 KiB there (R212, R221). -/
def State.rowOf (s : State) (a : Nat) : Nat × Nat :=
  ((a / 256 % 16) ^^^ (Config.shelfHash (s.keyOf a) (a / 4096)).toNat, a / 4096 * 256 / 1024)

/-- A row is due to be replaced (R230). -/
def State.rowDue (s : State) (r : Nat × Nat) : State :=
  if s.sto.dueRows.contains r then s else { s with sto := { s.sto with dueRows := s.sto.dueRows ++ [r] } }

/-- A word read with one bit in error (R228): counted; the second one of a row in a scrub pass makes it due (R230). -/
def State.corrected (s : State) (a : Nat) : State :=
  let s := s.satInc P.STO R.STO_ERR_corr 1
  let r := s.rowOf a
  if !s.fb P.STO R.STO_STAT_scrub then s
  else if s.sto.passRows.contains r then s.rowDue r else { s with sto := { s.sto with passRows := s.sto.passRows ++ [r] } }

/-- An uncorrectable word is found (R228): poisoned, counted, the first address kept, PG_IRQ_STAT.ue set. A word already
poisoned is not counted again. -/
def State.uncorrectable (s : State) (a : Nat) : State :=
  let w := a / 8 * 8
  if s.poisoned.contains w then s
  else
    let s := { s with poisoned := s.poisoned ++ [w] }
    let s := (s.satInc P.STO R.STO_ERR_ue 1).rowDue (s.rowOf w)
    let s := if s.fv P.STO R.STO_UE_ADDR_addr = 0xFFFFFFFF then s.setFv P.STO R.STO_UE_ADDR_addr w else s
    s.irq P.STO 0

/-- What a read found: corrected words counted, lost words poisoned. -/
def State.eccFinds (s : State) (e : EccFinds) : State :=
  e.lost.foldl (fun s a => if a < 0x100000000 then s.uncorrectable a else s) (e.corrected.foldl (fun (s : State) a => s.corrected a) s)

/-! ### Free values -/

/-- Draw a free word: an unconstrained value, fresh at each draw. -/
def State.draw (s : State) : Word × State := (Config.freeWord s.free, { s with free := s.free + 1 })

/-- Draw a key of a region for a re-key (R223). -/
def State.drawNewKey (s : State) (i : Nat) : State :=
  let (w, s) := s.draw
  { s with sto := { s.sto with newKeys := SMap.insert s.sto.newKeys i w } }

/-- Draw a placement key of a plane half (R222). -/
def State.drawKey (s : State) (i : Nat) : State :=
  let (w, s) := s.draw
  { s with sto := { s.sto with keys := SMap.insert s.sto.keys i w } }

/-! ### Time (R8, R347, R351, R358) -/

/-- The top of the calendar's range in steps of 2^-15 s: 9999-12-31T23:59:59 and its fraction (R352). -/
def calTop : Nat := 252455615999 * 32768

/-- Cellar pulses between two instants: one in every 512 steps (R348, R351). -/
def pulsesBetween (a b : Nat) : Nat := b / 512 - a / 512

/-- The cellar has power: every state but `off` (R351). -/
def State.cellarOn (s : State) : Bool := decide (s.pwr.mode ≠ .off)

/-- COR is powered. -/
def State.corOn (s : State) : Bool :=
  decide (s.pwr.mode = .active) || decide (s.pwr.mode = .held)

/-- From step 5 of the power-fail sequence to the lockout of step 6 (R40, R78): COR still has power. -/
def State.closing (s : State) : Bool := decide (s.pwr.mode = .locked) && decide (s.now < s.pwr.lockAt)

/-- SAF is powered and judges: with COR, to the end of the power-fail sequence (R34, R40). -/
def State.safOn (s : State) : Bool := s.corOn || s.closing

/-- Where `bad`, a diagnostic has been failing until now: it clears after a whole detection time of passing checks from here (R462). -/
def State.failsUntil (s : State) (code : Nat) (bad : Bool) : State :=
  { s with saf := { s.saf with failAt := if bad then s.saf.failAt.set code s.now else s.saf.failAt } }

/-- AVDD has not been valid again for `n` steps since its latest fall (R57). -/
def State.avddLately (s : State) (n : Nat) : Bool :=
  !s.pwr.avddOk || s.pwr.avddFrom.any (fun a => decide (s.now < a + n))

/-- The calendar counts: the cellar powered, not halted, and its oscillator running or COR standing in for it (R356,
R357). -/
def State.calCounts (s : State) : Bool :=
  s.cellarOn && !s.fb P.TBS R.TBS_CTRL_halt && !s.fb P.TBS R.TBS_STAT_halted &&
    (s.tbs.x32Run || s.corOn)

/-- Count `n` cellar pulses: the run count untrimmed, the calendar with the trim and the temperature term through the
32-bit accumulator; a calendar that runs on timebase steps alone is not trimmed (R351, R352, R357, R358, R359). -/
def State.countPulses (s : State) (n : Nat) : State :=
  let x := s.tbs.x32Run
  let adj : Int := sext 22 (s.fv P.TBS R.TBS_TRIM_trim) + (if s.fb P.TBS R.TBS_TCOMP_en then s.tbs.tempTerm else 0)
  let sum : Int := (s.tbs.trimAcc : Int) + (if x then n * adj else 0)
  let extra : Int := Int.fdiv sum 4294967296
  let acc : Nat := (sum - extra * 4294967296).toNat
  let cal' : Nat := ((s.tbs.cal : Int) + n + extra).toNat
  -- the latest pulse is skipped where the accumulator underflows at it
  let skipped := x && decide ((4294967296 : Int) ≤ (acc : Int) - adj)
  { s with tbs := { s.tbs with
      runCount := if x && s.cellarOn then s.tbs.runCount + n else s.tbs.runCount
      trimAcc := if s.calCounts then acc else s.tbs.trimAcc
      cal := if s.calCounts then Nat.min cal' calTop else s.tbs.cal
      calAt := if s.calCounts && decide (0 < n) then (if s.tbs.refOk then (s.now / 512 + n) * 512 else s.now + n * 512) - (if skipped then 512 else 0) else s.tbs.calAt } }

/-- The state at the instant `t` of an event: the timebase has reached `t` (it never steps back, R31; without reference it
takes 512 steps at each cellar pulse, R349), and the cellar has counted its pulses. -/
def State.at (s : State) (t : Nat) : State :=
  if !s.cellarOn then s
  else
    let t' := if s.tbs.refOk then Nat.max s.now t else s.now + (t - s.now) / 512 * 512
    { s.countPulses (pulsesBetween s.now t') with now := t' }

/-- The calendar as it reads (R351): the cellar's fraction, refined by the timebase steps since the latest pulse that it counted. -/
def State.calendar (s : State) : Nat :=
  s.tbs.cal * 512 + (if s.corOn && decide (s.tbs.cal < calTop) then Nat.min 511 (s.now - s.tbs.calAt) else 0)

/-- The low 32 bits of the calendar seconds, as point records keep them. -/
def State.calSeconds (s : State) : Nat := s.calendar / 16777216 % 2 ^ 32

/-- The calendar second at a stamp of the timebase. -/
def State.calSecOf (s : State) (stamp : Nat) : Int := Int.fdiv ((s.calendar : Int) - ((s.now : Int) - stamp)) 16777216

/-- The calendar seconds at a stamp of the timebase, low 32 bits (R242). -/
def State.calSecAt (s : State) (stamp : Nat) : Nat := (Int.emod (s.calSecOf stamp) 4294967296).toNat

/-! ### Power domains (Table 01-4, R533) -/

def State.pstate (s : State) : Nat := s.fv P.SYS R.SYS_STATE_pstate
def State.life (s : State) : Nat := s.fv P.SYS R.SYS_STATE_life
/-- RDY_N is asserted. -/
def State.ready (s : State) : Bool := decide (s.pwr.mode = .active)

/-- Steps of RUN, LEAN and DORMANT so far. -/
def State.opSteps (s : State) : Nat := s.age.opAcc + (match s.age.opFrom with | some t => s.now - t | none => 0)

/-- FBE releases no further cycle: an entry to DORMANT waits only for the running cycles (R486 step 2). -/
def State.releasesEnd (s : State) : Bool := s.pwr.busy && decide (s.fv P.FBE R.FBE_STAT_olc = 0)

/-- A wake from DORMANT has been stamped and PTE has power; the sweep and the lane resume with WAKE_FROM_DORMANT (R262, R487 steps 1 and
2). -/
def State.waking (s : State) : Bool := s.ready && decide (s.pstate = 2) && s.pwr.earlyWake.isSome

/-- Domain `d` is powered (Table 01-4): CFG domains by the conditions of Table 01-11, WK by port A's mode. A start-up that is held has
powered COR, SAF and STO (R34 steps 1 to 6). -/
def State.domainOn (s : State) (d : Nat) : Bool :=
  let run := s.ready && decide (s.pstate = 0)
  let awake := s.ready && decide (s.pstate ≤ 1)
  if d = 0 then s.cellarOn
  else if !s.corOn then false
  else match d with
    | 1 => true
    | 2 => true
    | 3 => awake && decide (s.fv P.SAC R.SAC_CTRL_cv_en ≠ 0)
    | 4 => run && (List.range 16).any (fun ch => decide (s.fv (P.DYN ch) R.DYN_MODE_mode ≠ 0))
    | 5 => run && s.fb P.SPXC R.SPX_CTRL_en
    | 6 => awake || s.waking
    | 7 => decide (s.pstate ≤ 1)
    | 8 => awake && ((s.fbe.banks.getD (s.fv P.FBE R.FBE_STAT_bank) none).isSome || decide (s.fv P.FBE R.FBE_STAT_olc ≠ 0))
    | 9 => (awake && decide (s.fv (P.CAN 1) R.CAN_CFG_mode ≠ 0)) || decide (s.fv (P.CAN 0) R.CAN_CFG_mode ≠ 0)
    | 10 => decide (s.fv P.DIO R.DIO_STAT_link = 1)
    | 11 => decide (s.fv P.LPO R.LPO_STAT_link = 1)
    | _ => false

/-- The domain whose power an unpowered page of R91 lacks (Table 01-1). For the pages of the attics it is COR, which holds them; what they
read while the island has no power is at `Field.ofIsland`. -/
def Kind.domain : Kind → Nat
  | .sac | .cv | .sc => 3
  | .dyn | .dynCh => 4
  | .spx | .spxPl => 5
  | .sto => 7
  | .pte | .pteCl | .alh | .alhLd => 6
  | .fbe | .fbeTk => 8
  | .can | .canObj => 9
  | _ => 1

/-- The page's domain is powered. -/
def State.pageOn (s : State) (k : Kind) : Bool := s.domainOn k.domain

/-- PG_STAT.ready: the domain of Table 01-1 is powered and its block answers; the islands by R533. -/
def State.pageReady (s : State) (k : Kind) : Bool :=
  match k with
  | .dio => s.domainOn 10
  | .lpo | .lpoCh => s.domainOn 11
  | _ => s.pageOn k

/-- The ro and w1c fields of the attic pages that read on while the island has no power (R91): those to which the chapters give a meaning
without a valid link (DIO_STAT.link and DIO_DI.state under R370 and R372, LPO_STAT.link under R383, the frame counts of R370), and what COR
forms itself: the effective commands and currents with their source, the FSK transmission. Every other reads its Reset value. -/
def corFields : List Field :=
  [R.DIO_STAT_link, R.DIO_DI_state, R.DIO_DO_STAT_eff, R.DIO_FRM_ERR_crc, R.DIO_FRM_ERR_lost, R.LPO_STAT_link, R.LPO_FRM_ERR_crc,
   R.LPO_FRM_ERR_lost, R.LPO_CH_EFF_eff, R.LPO_CH_STAT_src, R.LPO_CH_STAT_sat, R.LPO_FSK_STAT_tx_busy]

/-- The field of an attic page comes from the island. -/
def Field.ofIsland (f : Field) (k : Kind) : Bool := (decide (k = .dio) || decide (k = .lpo) || decide (k = .lpoCh)) && !corFields.contains f

/-! ### What lapses (R14, R91) -/

/-- The ro fields that show the committed state with which PTE, ALH and FBE resume (R33, R34 step 7, R293): the sweep at work, the log
index, the alarm table, the calls, the program in force with its tasks and forces. They read as on an unpowered page while PTE or FBE has
no power, and stand again when it resumes. -/
def resumedFields : List Field :=
  [R.PTE_STAT_sweeping, R.PTE_NFORCE_forced, R.PTE_NFORCE_sim, R.ALH_LOG_WIDX_widx, R.ALH_TBL_id, R.ALH_LD_STAT_active, R.ALH_LD_STAT_accepted, R.ALH_LD_STAT_exhausted,
   R.ALH_LD_STAT_rung, R.ALH_LD_STAT_unack, R.ALH_LD_STAT_pri, R.ALH_LD_SEQ_seq, R.ALH_LD_SEQ_rseq, R.ALH_LD_DL_LO_dl, R.ALH_LD_DL_HI_dl] ++
  [R.FBE_STAT_bank, R.FBE_STAT_ihalf, R.FBE_STAT_forcing, R.FBE_STAT_sb_valid, R.FBE_STAT_olc, R.FBE_IMG_ID_id, R.FBE_SB_ID_id, R.FBE_UTIL_u,
   R.FBE_NFORCE_n, R.FBE_TK_CFG_period, R.FBE_TK_CFG_prio, R.FBE_TK_CFG_kind, R.FBE_TK_PHASE_phase, R.FBE_TK_COST_cost, R.FBE_TK_RESP_w,
   R.FBE_TK_STAT_state, R.FBE_TK_STAT_queue]

/-- The field takes its Reset value at each start-up and when its domain is powered again. -/
def Field.lapses (f : Field) : Bool := (decide (f.acc = .ro) || decide (f.acc = .w1c)) && !f.kept && !resumedFields.contains f

/-- A word with the fields that lapse at their Reset values. -/
def lapsedWord (k : Kind) (inst off : Nat) (w : Word) : Word :=
  (fieldsAt k inst off).foldl (fun w f => if f.lapses then Word.withBits w f.lsb f.width f.resetValue else w) w

/-- The data bytes of an object lapse with the ro fields while it receives (Table 16-7). -/
def State.dataLapses (s : State) (k : Kind) (a : Nat) : Bool :=
  decide (k = .canObj) && decide (0x800 ≤ a % 0x1000) &&
    decide (s.fv (pageBase a) (R.CAN_OBJ_CFG_dir.nth ((a % 0x1000 - 0x800) / 0x40)) = 0)

/-- The pages chosen take the Reset values of their own ro and w1c fields. -/
def State.lapse (s : State) (p : Kind → Nat → Bool) : State :=
  s.regs.foldl (fun (s : State) (x : Nat × Word) =>
    match pageAt x.1 with
    | some (k, i) =>
      if !(p k i && decide (0x30 ≤ x.1 % 0x1000)) then s
      else s.setReg x.1 (if s.dataLapses k x.1 then 0#32 else lapsedWord k i (x.1 % 0x1000) x.2)
    | none => s) s

/-! ### Wakes (R487) -/

/-- Steps 1 and 2 of R487: the wake is stamped and its source recorded; PTE has power, so that what lapsed stands at its Reset value (R91,
R262). -/
def State.wakeStamp (s : State) (stamp bit : Nat) : State :=
  let s := s.lapse (fun k _ => decide (k.domain = 6))
  let s := (s.setStamp P.SYS R.SYS_WAKE_T_LO_t R.SYS_WAKE_T_HI_t stamp).setFv P.SYS R.SYS_WAKE_STAT_cause bit
  (s.satInc P.SYS R.SYS_WAKE_STAT_wakes 1).irq P.SYS 1

/-- A wake source of Table 21-2 occurs: in DORMANT it is stamped and the wake follows; during an entry to DORMANT it waits for its end
(R488); one that is not enabled is not recorded. -/
def State.wakeSource (s : State) (bit : Nat) : State :=
  let enabled := decide (bit = 0) || decide (bit = 6) || bitAt (s.fv P.SYS R.SYS_WAKE_EN_en) (bit - 1)
  if !enabled || s.pwr.earlyWake.isSome || !s.ready then s
  else if s.pstate = 2 then ({ s with pwr := { s.pwr with earlyWake := some (s.now, bit) } }).wakeStamp s.now bit
  else if s.pwr.busy then { s with pwr := { s.pwr with earlyWake := some (s.now, bit) } }
  else s

/-! ### Link tests (Table 23-1) -/

/-- A link test runs on link `n` (LNK_STAT.state 2 or 3). -/
def State.linkTest (s : State) (n : Nat) : Bool :=
  decide (2 ≤ s.fv P.LNK R.LNK_STAT_state) && decide (s.fv P.LNK R.LNK_STAT_link = n)

/-- A link test runs on instance `i` of link `n`. -/
def State.linkOn (s : State) (n i : Nat) : Bool := s.linkTest n && decide (s.lnk.inst = i)

/-! ### Sessions (R497, Table 21-5) -/

/-- The session level a port holds. -/
def State.levelHeld (s : State) (p : Port) : Nat :=
  match p with
  | .host => s.fv P.SEC R.SEC_STAT_h_lvl
  | .trapdoor => s.fv P.SEC R.SEC_STAT_t_lvl

/-- The time of a port's session has run out: SEC_CFG.sess_min minutes after it opened, the trapdoor's also with TDEN low for 1 s (R498). -/
def State.sessionOver (s : State) (p : Port) : Bool :=
  let most := secs (60 * s.fv P.SEC R.SEC_CFG_sess_min)
  match p with
  | .host => decide (s.sec.host.opened + most ≤ s.now)
  | .trapdoor => decide (s.sec.trap.opened + most ≤ s.now) || s.sec.tdenLow.any (fun x => decide (x + secs 1 ≤ s.now))

/-- The level of the session that a port holds; 0 none. -/
def State.level (s : State) (p : Port) : Nat := if s.sessionOver p then 0 else s.levelHeld p

/-- Every open is refused (R498). -/
def State.lockedOut (s : State) : Bool := s.fb P.SEC R.SEC_STAT_lockout && decide (s.now < s.sec.lockUntil)

/-- What rows "Y Y N N Y N" of Table 21-5 permit: force, simulation, erase, out of service, planner reset, halt. -/
def State.maintains (s : State) (p : Port) : Bool :=
  decide (s.life < 2) || (decide (s.life = 2) && decide (s.level p = 2))

/-! ### The scalar value table (Table 08-6) and records (Table 08-5) -/

def scalarRec (n : Nat) : Nat := 0x44000000 + n * 32
def scalarVal (n : Nat) : Nat := 0x44200000 + n * 16
def spectralRec (p : Nat) : Nat := 0x08000000 + p * 16

/-- Write a value entry: value, source and stamp. -/
def State.setValue (s : State) (n : Nat) (v : Word) (src stamp : Nat) : State :=
  s.nodeWrite (scalarVal n) (Word.bytes v ++ [byte src, 0#8, 0#8, 0#8] ++ leBytes 8 stamp)

def State.value (s : State) (n : Nat) : Word := word (s.rdLe (scalarVal n) 4)
def State.valueStamp (s : State) (n : Nat) : Nat := s.rdLe (scalarVal n + 8) 8

end Sys2Proof.Machine
end

