-- ==== Sys2Proof/Machine/EvrQueue.lean ====
section
/-! DEFINITION. The event recorder's trigger queue (R332, R333) and its markers (R338, R339): what other blocks call to
raise a trigger. -/

namespace Sys2Proof.Machine

open Sys2Proof

/-- The larder's crate slots in use; the marker slot is not one of them (R338). -/
def State.cratesStaged (s : State) : Nat := s.evr.larder.length

/-- Fold a trigger into the marker slot, opening an overrun marker if it is free; EVR_OVR counts it and the overrun event
is raised (R338). DESIGN CHOICE (log 118): a trigger that finds the queue full while a closed marker waits there enters that marker. -/
def State.foldTrigger (s : State) (g : Trigger) (queueFull : Bool) : State :=
  let q := if queueFull then 1 else 0
  let entry := if g.source = 1 then g.arg else 0xFFFF
  let m : Marker :=
    match s.evr.marker with
    | none =>
      { kind := 1, count := 1, tFirst := g.stamp, tLast := g.stamp, srcMask := 2 ^ g.source, entry := entry, qfull := q, closed := none }
    | some m =>
      { m with count := satAdd 0xFFFFFFFE m.count 1, tLast := g.stamp, srcMask := m.srcMask ||| 2 ^ g.source,
               entry := if m.entry = 0xFFFF then entry else m.entry, qfull := satAdd 0xFFFFFFFF m.qfull q }
  let s := { s with evr := { s.evr with marker := some m } }
  (s.satInc P.EVR R.EVR_OVR_ovr 1).irq P.EVR 1

/-- Fold a trigger refused under R339: the open marker becomes the full marker, or a full marker opens; EVR_FULL counts. -/
def State.refuseTrigger (s : State) (g : Trigger) (queueFull : Bool) : State :=
  let s := s.foldTrigger g queueFull
  let s := { s with evr := { s.evr with marker := s.evr.marker.map (fun (m : Marker) => { m with kind := 3 }) } }
  s.satInc P.EVR R.EVR_FULL_full 1

/-- The region takes no further crate than its last (R339): staged crates and a marker, a closed one and a loss marker that wait too, come
before it. -/
def State.regionClosed (s : State) : Bool :=
  !decide (s.fv P.EVR R.EVR_WIDX_widx + s.evr.larder.length + (if s.evr.marker.isSome then 1 else 0) +
    (if s.evr.loss.isSome then 1 else 0) < 4194303)

/-- A trigger that is not captured: after the full marker counted only (R339), refused where the region is closed, else folded (R338). -/
def State.foldOrRefuse (s : State) (g : Trigger) : State :=
  if s.fb P.EVR R.EVR_STAT_full then (s.satInc P.EVR R.EVR_OVR_ovr 1).satInc P.EVR R.EVR_FULL_full 1
  else if s.regionClosed then s.refuseTrigger g false
  else s.foldTrigger g false

/-- Raise a trigger (R332, R333): ignored unless EVR_CTRL.en and the source's bit are set, and in SCRAPPED (R491); after the
full marker it is only counted (R339); one that finds the queue of 4,096 full is folded (R338); after step 5 of R40 the cellar counts it
(R340). -/
def State.trigger (s : State) (g : Trigger) : State :=
  if !(s.fb P.EVR R.EVR_CTRL_en && decide (s.fv P.EVR R.EVR_SRC_en / 2 ^ g.source % 2 = 1)) || decide (s.life = 3) then s
  else
    let s := s.wrapInc P.EVR R.EVR_TRIG_CNT_trig 1
    if s.pwr.mode = .locked then { s with evr := { s.evr with late := s.evr.late + 1 } }
    else if s.fb P.EVR R.EVR_STAT_full then (s.satInc P.EVR R.EVR_OVR_ovr 1).satInc P.EVR R.EVR_FULL_full 1
    else if 4096 ≤ s.evr.queue.length then s.foldTrigger g true
    else { s with evr := { s.evr with queue := s.evr.queue ++ [g] } }

/-- The list of sources 2–5 (Table 12-1). -/
def State.sysList (s : State) : Option Nat :=
  if s.fb P.EVR R.EVR_SRC_sys_en then some (s.fv P.EVR R.EVR_SRC_sys_list) else none

/-- Raise a trigger of source 2, 3, 4 or 5 at the present instant. -/
def State.sysTrigger (s : State) (source arg : Nat) : State :=
  s.trigger { stamp := s.now, source := source, arg := arg, list := s.sysList, context := [] }

end Sys2Proof.Machine
end

