-- ==== Sys2Proof/Machine/Points.lean ====
section
/-! DEFINITION. Points, their records (Tables 08-3, 08-5), the entry and class each belongs to (R263, R235), and squashes of
evaluations in flight (R250, R251). -/

namespace Sys2Proof.Machine

open Sys2Proof

/-! ### Addresses (R9) -/

/-- The 26-bit address of a scalar point. -/
def scalarPoint (n : Nat) : Nat := 0x2000000 + n
/-- A point address names a scalar point. -/
def isScalar (p : Nat) : Bool := decide (0x2000000 ≤ p) && decide (p < 0x2010000)
/-- The address names a point at all. -/
def isPoint (p : Nat) : Bool := decide (p < 0x2010000)
/-- The number of a scalar point. -/
def scalarNo (p : Nat) : Nat := p % 0x10000
/-- The plane instance of a spectral point, and its line. -/
def planeNo (p : Nat) : Nat := p / 0x80000
def lineNo (p : Nat) : Nat := p % 0x80000
/-- The address of a point's record. -/
def recordAt (p : Nat) : Nat := if isScalar p then scalarRec (scalarNo p) else spectralRec p
/-- The address of a point's state byte: byte 26 of a scalar record, byte 8 of a spectral record. -/
def stateByteAt (p : Nat) : Nat := if isScalar p then scalarRec (scalarNo p) + 26 else spectralRec p + 8

/-- The address of a spectral point's level code in half `h` (R186). -/
def codeAt (h p : Nat) : Nat := 0x28000000 + h * 0x04000000 + p * 2
/-- The level code of a spectral point in the half in force. -/
def State.levelCode (s : State) (p : Nat) : Nat := s.rdLe (codeAt (s.fv (P.SPX (planeNo p)) R.SPX_PL_STAT_half) p) 2

/-! ### Record fields -/

/-- The state byte of a point's record. -/
def State.stateByte (s : State) (p : Nat) : Nat := (s.rd8 (stateByteAt p)).toNat

/-- The level that a state byte gives: for a spectral point 2 with alarm, 1 with warn (R241); for a scalar point 2 with hh or
ll, 1 with only h or l (R237). -/
def levelOf (scalar : Bool) (b : Nat) : Nat :=
  if scalar then (if b % 2 = 1 ∨ b / 8 % 2 = 1 then 2 else if b / 2 % 2 = 1 ∨ b / 4 % 2 = 1 then 1 else 0)
  else (if b / 2 % 2 = 1 then 2 else if b % 2 = 1 then 1 else 0)

def State.pointLevel (s : State) (p : Nat) : Nat := levelOf (isScalar p) (s.stateByte p)

/-- The forced bit of a state byte. -/
def forcedBit (scalar : Bool) (b : Nat) : Bool := decide (b / (if scalar then 128 else 32) % 2 = 1)
/-- The latched bit of a state byte. -/
def latchedBit (scalar : Bool) (b : Nat) : Bool := decide (b / (if scalar then 16 else 4) % 2 = 1)

def State.pointForced (s : State) (p : Nat) : Bool := forcedBit (isScalar p) (s.stateByte p)
def State.pointLatched (s : State) (p : Nat) : Bool := latchedBit (isScalar p) (s.stateByte p)

/-- The simulated bit of a scalar record, or an active simulation entry of a spectral point (R247, R248). -/
def State.pointSimulated (s : State) (p : Nat) : Bool :=
  if isScalar p then decide ((s.rd8 (scalarRec (scalarNo p) + 27)).toNat / 4 % 2 = 1)
  else s.pte.sims.any (fun e => e.active && decide (e.point = p))

/-- The quality in a point's record; BAD where the record cannot be read (R228, R245). -/
def State.pointQuality (s : State) (p : Nat) : Nat :=
  if s.anyPoison (recordAt p) (if isScalar p then 32 else 16) then 3
  else if isScalar p then (s.rd8 (scalarRec (scalarNo p) + 27)).toNat % 4 else s.stateByte p / 64

/-- The quality of the latest change of a point that went to ALH (R249): the record's, unless another is held for it. -/
def State.reportedQuality (s : State) (p : Nat) : Nat := (SMap.get? s.pte.reported p).getD (s.pointQuality p)
/-- Hold the quality of a point's latest change apart from its record. -/
def State.holdReported (s : State) (p q : Nat) : State := { s with pte := { s.pte with reported := SMap.insert s.pte.reported p q } }
/-- A change of a point has gone to ALH with the record's quality. -/
def State.dropReported (s : State) (p : Nat) : State := { s with pte := { s.pte with reported := SMap.erase s.pte.reported p } }

/-- The entry that the band map names for a plane instance and band (R263); none where its word cannot be read (R228; log 131). -/
def State.bandEntry (s : State) (plane band : Nat) : Nat :=
  if s.isPoisoned (0x00D80000 + (plane * 4096 + band) * 2) then 0xFFFF else SMap.get (fun _ => 0xFFFF) s.alh.bandMap (plane * 4096 + band)

/-- The entry a point belongs to (R263); 0xFFFF none. -/
def State.entryOf (s : State) (p : Nat) : Nat :=
  if isScalar p then s.rdLe (scalarRec (scalarNo p) + 24) 2
  else s.bandEntry (planeNo p) (s.rdLe (spectralRec p + 6) 2 % 4096)

/-- The configuration of an entry. -/
def State.entryCfg (s : State) (e : Nat) : EntryCfg := SMap.get (fun _ => EntryCfg.reset) s.alh.cfg e
/-- The state of an entry. -/
def State.entry (s : State) (e : Nat) : Entry := SMap.get (fun _ => Entry.reset) s.alh.entries e
/-- The state or the configuration of an entry cannot be read (R228): ALH works on neither until the words are written whole (log 131). -/
def State.entryLost (s : State) (e : Nat) : Bool := s.anyPoison (0x00C80000 + e * 64) 64 || s.anyPoison (0x00C00000 + e * 32) 32
/-- Replace the state of an entry. -/
def State.setEntry (s : State) (e : Nat) (x : Entry) : State :=
  if s.entryLost e then s else { s with alh := { s.alh with entries := SMap.put (fun _ => Entry.reset) s.alh.entries e x } }

/-- The class of a point (R235). -/
def State.classOf (s : State) (p : Nat) : Nat :=
  if isScalar p then
    (let e := s.entryOf p
     if e = 0xFFFF then 0 else (s.entryCfg e).cls)
  else s.rdLe (spectralRec p + 6) 2 / 4096

/-- A field of the class page of a point's class. -/
def State.classBit (s : State) (p : Nat) (f : Field) : Bool := s.fb (P.PTECL (s.classOf p)) f

/-- The value of a scalar point's entry, or a spectral point's level code as a REAL; a word that cannot be read gives a free value (R228). -/
def State.pointReal (s : State) (p : Nat) : Word :=
  let code := codeAt (s.fv (P.SPX (planeNo p)) R.SPX_PL_STAT_half) p
  if s.isPoisoned (if isScalar p then scalarVal (scalarNo p) else code) then Config.freeWord s.free
  else if isScalar p then s.value (scalarNo p)
  else Config.spectralReal (s.levelCode p)

/-! ### Records that differ from R534 -/

/-- The items of size `size` from `base` on that hold a listed byte, in ascending order. -/
def listedItems (base size : Nat) : SMap Byte → List Nat
  | [] => []
  | (k, _) :: m =>
    let i := (k - base) / size
    let rest := listedItems base size m
    if rest.head? = some i then rest else i :: rest

/-- The scalar points whose record has been written. -/
def State.listedScalars (s : State) : List Nat :=
  (listedItems 0x44000000 32 (SMap.inRange s.mem 0x44000000 0x44200000)).map scalarPoint

/-- The spectral points of a plane whose record has been written. -/
def State.listedSpectral (s : State) (plane : Nat) : List Nat :=
  listedItems 0x08000000 16 (SMap.inRange s.mem (spectralRec (plane * 0x80000)) (spectralRec ((plane + 1) * 0x80000)))

/-- Every spectral point whose record has been written. -/
def State.listedAllSpectral (s : State) : List Nat :=
  listedItems 0x08000000 16 (SMap.inRange s.mem 0x08000000 0x28000000)

/-- Every point of an entry whose record has been written: no other is latched, forced or simulated. -/
def State.pointsOfEntry (s : State) (e : Nat) : List Nat :=
  (s.listedScalars ++ s.listedAllSpectral).filter (fun p => decide (s.entryOf p = e))

/-! ### Run-ahead and squashes (R250–R254) -/

/-- PTE has paused at a commit on the way to DORMANT (R262, R486 steps 2 and 3): the running FBE cycles have ended; or it has power again at
a wake and has not resumed. -/
def State.ptePaused (s : State) : Bool :=
  s.waking || s.ready && s.pwr.busy && decide (s.fv P.FBE R.FBE_STAT_olc = 0) && !s.fbe.tasks.any (fun x => x.cycle.isSome)

/-- How often a point has been squashed in the present sweep or pass. -/
def State.squashesOf (s : State) (p : Nat) : Nat := SMap.get (fun _ => 0) s.pte.squashed p

/-- A point has been squashed twice in the present sweep or pass: it is evaluated at the frontier, with run-ahead suspended (R254). -/
def State.squashedTwice (s : State) (p : Nat) : Bool := decide (2 ≤ s.squashesOf p)

/-- PTE evaluates a spectral point: it is enabled, and so are its plane and its class (R238). -/
def State.sweepTakes (s : State) (p : Nat) : Bool :=
  s.fb (P.SPX (planeNo p)) R.SPX_PL_CFG_en && decide (s.rdLe (spectralRec p + 10) 2 % 2 = 1) && s.classBit p R.PTE_CL_CFG_en

/-- The spectral points that the sweep may have read and not committed: the next 4,096 from the frontier on (R250). -/
def State.sweepAhead (s : State) : List Nat :=
  if !s.domainOn 6 || !s.fb P.PTE R.PTE_STAT_sweeping || !s.fb P.PTE R.PTE_CTRL_sp_en || s.ptePaused then []
  else (s.listedAllSpectral.filter (fun p => decide (s.pte.nextPoint ≤ p) && s.sweepTakes p)).take 4096

/-- The scalar points that a waiting pass may have read and not committed: the next 64 (R250). -/
def State.laneAhead (s : State) : List Nat :=
  match s.pte.lane with
  | some x => if s.domainOn 6 && !s.ptePaused then (x.todo.take 64).map (fun y => scalarPoint y.1) else []
  | none => []

/-- One evaluation of a point is squashed under a code of Table 09-4 (R251). -/
def State.squashed (s : State) (code p : Nat) : State :=
  let s := (s.wrapInc P.PTE R.PTE_SQUASH_CNT_squash 1).setFv P.PTE R.PTE_SQUASH_WHY_last code
  let s := s.setReg (P.PTE + R.PTE_SQUASH_WHY_seen.off) (s.reg (P.PTE + R.PTE_SQUASH_WHY_seen.off) ||| word (2 ^ code))
  { s with pte := { s.pte with squashed := SMap.insert s.pte.squashed p (s.squashesOf p + 1) } }

/-- The points whose evaluations may be in flight; none while the evaluator's run-ahead is suspended at a point squashed twice (R254). -/
def State.inFlight (s : State) : List Nat :=
  let free (l : List Nat) : List Nat := if (l.head?).any s.squashedTwice then [] else l
  free s.sweepAhead ++ free s.laneAhead

/-- A trigger of Table 09-4 squashes the evaluations in flight of the points that `hits` holds of, none more than twice in a sweep or pass
(R254). How far the run-ahead has come is open: whether a point ahead of the frontier had been read is a free value. -/
def State.squash (s : State) (code : Nat) (hits : Nat → Bool) : State :=
  (s.inFlight.filter (fun p => hits p && !s.squashedTwice p)).foldl (fun (s : State) p =>
    let (w, s) := s.draw
    if w.toNat % 2 = 0 then s else s.squashed code p) s

/-- A trigger squashes the evaluation of one point. -/
def State.squashPoint (s : State) (code p : Nat) : State := s.squash code (fun x => decide (x = p))

/-- The point at which the frontier or the lane waits, once it has been squashed twice: PTE_STAT.stall is set, and writes that would touch
it wait until it commits (R254). -/
def State.stalledAt (s : State) (p : Nat) : Bool :=
  s.squashedTwice p && ((s.pte.atPlane.isSome && decide (s.sweepAhead.head? = some p)) || decide (s.laneAhead.head? = some p))

/-- The node waits at such a point. -/
def State.stalled (s : State) : Bool :=
  (s.pte.atPlane.isSome && s.sweepAhead.head?.any s.stalledAt) || s.laneAhead.head?.any s.stalledAt

/-- A write that leads from `s` to `t` touches a point at which the frontier or the lane waits: its record or its simulation entry
(R254). -/
def State.touchesStalled (s t : State) : Bool :=
  ((s.sweepAhead.head?.toList ++ s.laneAhead.head?.toList).filter s.stalledAt).any (fun p =>
    let n := if isScalar p then 32 else 16
    decide (t.rdBytes (recordAt p) n ≠ s.rdBytes (recordAt p) n) ||
      decide (t.pte.sims.filter (fun e => decide (e.point = p)) ≠ s.pte.sims.filter (fun e => decide (e.point = p))))

/-- A write that leads from `s` to `t` brings more changes than the change queue, which is not empty, has room for (R249). -/
def State.overfills (s t : State) : Bool :=
  !s.pte.changes.isEmpty && decide (s.pte.changes.length < t.pte.changes.length) && decide (16384 < t.pte.changes.length)

/-- A write of ALH or of a command waits while it would touch a point at which PTE waits, or while the change queue has no room for what it
brings (R249, R254). -/
def State.unlessWaits (s t : State) : State := if s.touchesStalled t || s.overfills t then s else t

/-- A scalar point is due in the next pass (R234). -/
def State.makeDue (s : State) (n : Nat) : State :=
  if n < 0x100 ∨ s.pte.due.contains n then s else { s with pte := { s.pte with due := s.pte.due ++ [n] } }

/-- A node write into a point's record: a scalar point is due (R228, R234). -/
def State.putRecord (s : State) (p off : Nat) (l : List Byte) : State :=
  let s := s.nodeWrite (recordAt p + off) l
  if isScalar p then s.makeDue (scalarNo p) else s

/-- A node write into a point's record other than PTE's own write-back: its evaluation is squashed (R251 row 2). -/
def State.writeRecord (s : State) (p off : Nat) (l : List Byte) : State := (s.putRecord p off l).squashPoint 2 p

/-- Clear the latched bit of a point (R243): a spectral point's extra comparison or a scalar point's evaluation follows. -/
def State.unlatch (s : State) (p : Nat) : State :=
  if !s.pointLatched p then s
  else
    let b := s.stateByte p
    let s := s.putRecord p (if isScalar p then 26 else 8) [byte (b - (if isScalar p then 16 else 4))]
    if isScalar p ∨ s.pte.released.contains p then s else { s with pte := { s.pte with released := s.pte.released ++ [p] } }

/-- A reset by ALH releases the latch of a point (R271): the write squashes under row 2 of Table 09-4. -/
def State.releasePoint (s : State) (p : Nat) : State := if !s.pointLatched p then s else (s.unlatch p).squashPoint 2 p

/-- The quality that a scalar point's source last wrote (R244). -/
def State.srcQuality (s : State) (n : Nat) : Nat := SMap.get (fun _ => 3) s.pte.srcQual n

def State.setRun (s : State) (k : Nat) (r : Option Run) : State :=
  { s with pte := { s.pte with runs := match r with
    | some r => SMap.insert s.pte.runs k r
    | none => SMap.erase s.pte.runs k } }

/-- The runs of a scalar point end (R237, R246, R247). -/
def State.dropRuns (s : State) (n : Nat) : State := (List.range 4).foldl (fun s i => s.setRun (n * 4 + i) none) s

/-- The runs of a scalar point change. -/
def State.mapRuns (s : State) (n : Nat) (f : Run → Run) : State :=
  (List.range 4).foldl (fun s i =>
    match SMap.get? s.pte.runs (n * 4 + i) with
    | some r => s.setRun (n * 4 + i) (some (f r))
    | none => s) s

/-- A run stops growing at a stamp (R237). -/
def Run.freeze (r : Run) (stamp : Nat) : Run :=
  match r.since with
  | some t => { r with past := r.past ++ [(t, stamp - t)], since := none }
  | none => r

/-- The instant at which a run has grown by `d` steps (R237): within the interval in which it did, else in the one that runs from `since`. -/
def Run.reach (r : Run) (since d : Nat) : Nat :=
  let rec go : List (Nat × Nat) → Nat → Nat
    | [], d => since + d
    | x :: l, d => if d ≤ x.2 then x.1 + d else go l (d - x.2)
  go r.past d

/-- The runs of a scalar point stop growing at a stamp (R237). -/
def State.freezeRuns (s : State) (n stamp : Nat) : State := s.mapRuns n (fun r => r.freeze stamp)

/-- The quality in force for a scalar point: its runs grow while it is GOOD, and from the stamp of the value with which it returns to
GOOD (R237). -/
def State.setQuality (s : State) (n quality stamp : Nat) : State :=
  let was := s.srcQuality n
  if was = quality then s
  else
    let s := { s with pte := { s.pte with srcQual := SMap.put (fun _ => 3) s.pte.srcQual n quality } }
    if was = 0 then s.freezeRuns n stamp
    else if quality = 0 then s.mapRuns n (fun r => { r with since := some (r.since.getD stamp) })
    else s

/-- The quality byte of a static channel's record follows its source at once (R141); the change goes to ALH at the next evaluation. -/
def State.recordQuality (s : State) (n quality : Nat) : State :=
  let p := scalarPoint n
  if 32 ≤ n ∨ s.pointQuality p = quality then s
  else (s.holdReported p (s.reportedQuality p)).nodeWrite (scalarRec n + 27) [byte ((s.rd8 (scalarRec n + 27)).toNat / 4 * 4 + quality)]

/-- The quality of a scalar point's source changes: where that is a static channel or an overall level, its evaluation is squashed (R251 row
4). -/
def State.channelSquash (s : State) (n : Nat) : State := if n < 0x30 then s.squashPoint 4 (scalarPoint n) else s

/-- A source writes a scalar point's value and quality at a stamp (Table 08-6): into the shadow entry while the point is
simulated (R247). A change of the quality of a static channel or an overall level squashes the point's evaluation (R251 row 4, R252). -/
def State.sourceWrite (s : State) (n : Nat) (v : Word) (quality src stamp : Nat) : State :=
  if s.pointSimulated (scalarPoint n) then
    let sh : Shadow := { value := v, quality := quality, source := src, stamp := stamp }
    { s with pte := { s.pte with shadow := SMap.put (fun _ => Shadow.reset) s.pte.shadow n sh } }
  else
    let s := if s.srcQuality n = quality then s else s.channelSquash n
    (((s.setQuality n quality stamp).recordQuality n quality).setValue n v src stamp).makeDue n

/-- A source changes only the quality of a scalar point: the value and its stamp stay (R140). -/
def State.sourceQuality (s : State) (n quality : Nat) : State :=
  if s.pointSimulated (scalarPoint n) then
    let sh := SMap.get (fun _ => Shadow.reset) s.pte.shadow n
    { s with pte := { s.pte with shadow := SMap.put (fun _ => Shadow.reset) s.pte.shadow n { sh with quality := quality } } }
  else if s.srcQuality n = quality then s
  else
    (((s.channelSquash n).setQuality n quality s.now).recordQuality n quality).makeDue n

end Sys2Proof.Machine
end

