-- ==== Sys2Proof/Machine/RmpPlan.lean ====
section
/-! DEFINITION. The arithmetic of a jerk-limited motion (R442, R443, R446): its parts of constant jerk, where they lead, the change from one
speed to another, the motion to a position, the distance of a stop and the least deceleration d*. The spec gives the limits of a motion and
not the plan among those that keep them; that choice is the model's (log entry 50). -/

namespace Sys2Proof.Machine

/-- Position, velocity and acceleration. -/
structure RmpPt where
  x : Q
  v : Q
  a : Q
deriving DecidableEq, Repr

/-- `q` rounded down to a multiple of 2^-k. -/
def Q.down (k : Nat) (q : Q) : Q := Q.make (Q.mul q (Q.ofNat (2 ^ k))).floor (2 ^ k)

/-- The square root of a non-negative rational, rounded down to 2^-24. -/
def qSqrt (q : Q) : Q := if q.num ≤ 0 then Q.zero else Q.down 24 (Q.make (isqrt (q.num.natAbs * q.d * 2 ^ 52)) (q.d * 2 ^ 26))

/-- The point after `t` seconds at jerk `j`. -/
def RmpPt.after (p : RmpPt) (t j : Q) : RmpPt :=
  let t2 := Q.mul t t
  { x := Q.add (Q.add p.x (Q.mul p.v t)) (Q.add (Q.div (Q.mul p.a t2) (Q.ofNat 2)) (Q.div (Q.mul j (Q.mul t2 t)) (Q.ofNat 6)))
    v := Q.add (Q.add p.v (Q.mul p.a t)) (Q.div (Q.mul j t2) (Q.ofNat 2))
    a := Q.add p.a (Q.mul j t) }

/-- The point after all parts. -/
def segsEnd : List (Q × Q) → RmpPt → RmpPt
  | [], p => p
  | (t, j) :: l, p => segsEnd l (p.after t j)

/-- The point and the jerk `t` seconds into the parts; none once they have ended. -/
def segsAt : List (Q × Q) → RmpPt → Q → Option (RmpPt × Q)
  | [], _, _ => none
  | (d, j) :: l, p, t => if Q.lt t d then some (p.after t j, j) else segsAt l (p.after d j) (Q.sub t d)

/-- The point of a plan `t` seconds after its start, and its jerk there; at its end the motion stands exactly at its final position. -/
def RmpPlan.at (p : RmpPlan) (t : Q) : RmpPt × Q := (segsAt p.segs ⟨p.x, p.v, p.a⟩ t).getD (⟨p.fin, Q.zero, Q.zero⟩, Q.zero)

/-- The plan has ended `t` seconds after its start. -/
def RmpPlan.over (p : RmpPlan) (t : Q) : Bool := (segsAt p.segs ⟨p.x, p.v, p.a⟩ t).isNone

/-! ### From one speed to another -/

/-- From velocity `v` and acceleration `a` to velocity `vt` at acceleration 0, at jerk `j`, the acceleration within `up` above 0 and `dn`
below: the acceleration goes to a peak, stays there and goes to 0. An acceleration beyond its limit comes back to it at `j` (R442). -/
def toSpeedAt (v a vt up dn j : Q) : List (Q × Q) :=
  let e := Q.sub (Q.sub vt v) (Q.div (Q.mul a (Q.abs a)) (Q.mul (Q.ofNat 2) j))
  -- the change of speed seen in its own direction
  let neg := decide (e.num < 0)
  let sg (q : Q) : Q := if neg then Q.neg q else q
  let a0 := sg a
  let top := if neg then dn else up
  let pos := Q.max Q.zero a0
  let peak := if Q.lt top a0 then top else Q.min top (Q.max pos (qSqrt (Q.add (Q.mul j (Q.abs e)) (Q.mul pos pos))))
  let gain := Q.add (Q.div (Q.mul (Q.add a0 peak) (Q.abs (Q.sub peak a0))) (Q.mul (Q.ofNat 2) j)) (Q.div (Q.mul peak peak) (Q.mul (Q.ofNat 2) j))
  let hold := Q.max Q.zero (Q.div (Q.sub (sg (Q.sub vt v)) gain) peak)
  [(Q.div (Q.abs (Q.sub peak a0)) j, sg (if Q.lt peak a0 then Q.neg j else j)), (hold, Q.zero), (Q.div peak j, sg (Q.neg j))].filter
    (fun x => decide (0 < x.1.num))

/-- The limits of a motion: acceleration, deceleration, and the jerk of each. -/
structure RmpLimits where
  amax : Q
  d : Q
  jmax : Q
  jd : Q
deriving DecidableEq, Repr

/-- From velocity `v` and acceleration `a` to velocity `vt`: a reversal goes through zero and acceleration 0 (R443); a change to a lower
speed uses the deceleration and its jerk, one to a higher speed amax and jmax (R445). -/
def RmpLimits.toSpeed (l : RmpLimits) (v a vt : Q) : List (Q × Q) :=
  let one (v a vt : Q) (neg : Bool) : List (Q × Q) :=
    let fwd (q : Q) : Q := if neg then Q.neg q else q
    let slows := Q.lt (fwd vt) (Q.add (fwd v) (Q.div (Q.mul (fwd a) (Q.abs a)) (Q.mul (Q.ofNat 2) l.jmax)))
    toSpeedAt v a vt (if neg then l.d else l.amax) (if neg then l.amax else l.d) (if slows then l.jd else l.jmax)
  if (v.num < 0 ∧ 0 < vt.num) ∨ (0 < v.num ∧ vt.num < 0) then one v a Q.zero (decide (v.num < 0)) ++ one Q.zero Q.zero vt (decide (vt.num < 0))
  else one v a vt (decide (v.num < 0 ∨ vt.num < 0))

/-! ### To a position -/

/-- Distances below 2^-20 full steps are none: the resolution of the plan. -/
def rmpTol : Q := Q.frac 1 1048576

/-- The largest peak speed found in `[lo, hi]` whose motion does not pass the target, by halving. -/
def peakSearch (past : Q → Bool) : Nat → Q → Q → Q
  | 0, lo, _ => lo
  | n + 1, lo, hi =>
    let mid := Q.div (Q.add lo hi) (Q.ofNat 2)
    if past mid then peakSearch past n lo mid else peakSearch past n mid hi

/-- A plan from a point to the position `xt`, at rest there, with speeds up to `cap`: to the highest speed from which the stop does not pass
the target, that speed for what remains, and the stop. `first` are the limits of the present motion, `last` those of the final stop. Where the
present motion cannot end before the target it stops and comes back. -/
def rmpPlanTo (first last : RmpLimits) (p : RmpPt) (xt cap : Q) : List (Q × Q) × Q :=
  let stop := first.toSpeed p.v p.a Q.zero
  let xs := (segsEnd stop p).x
  if Q.le (Q.abs (Q.sub xt xs)) rmpTol then (stop, xt)
  else if cap.num ≤ 0 then (stop, xs)
  else
    let up := Q.lt xs xt
    let sg (q : Q) : Q := if up then q else Q.neg q
    let rise (vp : Q) := first.toSpeed p.v p.a (sg vp)
    let fall (vp : Q) := last.toSpeed (sg vp) Q.zero Q.zero
    let rest (vp : Q) : Q := sg (Q.sub xt (segsEnd (fall vp) { segsEnd (rise vp) p with v := sg vp, a := Q.zero }).x)
    let vp := if (rest cap).num < 0 then peakSearch (fun v => decide ((rest v).num < 0)) 40 Q.zero cap else cap
    if vp.num ≤ 0 then (stop, xs)
    else (rise vp ++ [(Q.div (rest vp) vp, Q.zero)].filter (fun x => decide (0 < x.1.num)) ++ fall vp, xt)

/-! ### Stopping at a virtual limit -/

/-- Where a stop from a point ends. -/
def RmpLimits.stopEnd (l : RmpLimits) (p : RmpPt) : Q := (segsEnd (l.toSpeed p.v p.a Q.zero) p).x

/-- The least deceleration that stops within `s` from speed `v` at acceleration 0 (R446): d* = (s·j − √(s²j² − v³j)) / v; none where no
deceleration does. -/
def rmpLeastDecel (v s j : Q) : Option Q :=
  let sj := Q.mul s j
  let disc := Q.sub (Q.mul sj sj) (Q.mul (Q.mul v (Q.mul v v)) j)
  if s.num ≤ 0 ∨ disc.num < 0 then none
  else if v.num = 0 then some Q.zero
  else some (Q.div (Q.sub sj (qSqrt disc)) v)

/-- The deceleration d* with which the motion at `p` stops at `lim` ahead of it, where deceleration `l.d` does not: by R446's formula at
acceleration 0, else the least one found by halving between `l.d` and `dabs`; none where even `dabs` passes the limit (R447). -/
def rmpDStar (l : RmpLimits) (p : RmpPt) (lim dabs : Q) : Option Q :=
  let up := decide (0 < p.v.num)
  let dist := if up then Q.sub lim p.x else Q.sub p.x lim
  let past (d : Q) : Bool :=
    let xs := ({ l with d := d } : RmpLimits).stopEnd p
    Q.lt dist (Q.sub (if up then Q.sub xs p.x else Q.sub p.x xs) rmpTol)
  if p.a.num = 0 then
    (match rmpLeastDecel (Q.abs p.v) dist l.jd with
     | some d => if Q.lt dabs d then none else some d
     | none => none)
  else if past dabs then none
  else some (peakSearch past 40 dabs l.d)

end Sys2Proof.Machine
end

