-- ==== Sys2Proof/Machine/Rmp.lean ====
section
/-! DEFINITION. The protective ramp generator: the source of the target (Table 18-1), profiles and demands (R445), the plan
within jerk limits and virtual limits (R442, R443, R446, R447), pulses and their weight (R448), position retention (R451–R453).
The plan itself is in RmpPlan.lean. -/

namespace Sys2Proof.Machine

open Sys2Proof

/-- A position of so many microsteps, in full steps. -/
def rmpSteps (p : Int) : Q := Q.make p 256

/-- The pulse's leading edge has come: the reference cycle it is placed to (Table 01-2: 125 in 128 steps of the timebase). -/
def State.rmpEdgeDue (s : State) (e : RmpEdge) : Bool := decide ((e.due + 500) / 1000 * 128 ≤ s.now * 125)

/-- The sum of the microsteps of pulses. -/
def rmpSum (l : List RmpEdge) : Int := (l.map (fun e => e.delta)).sum

/-- RMP_POS, signed microsteps: it moves at each pulse's leading edge (R441). -/
def State.rmpPos (s : State) : Int :=
  sext 32 (uext 32 (sext 32 (s.fv P.RMP R.RMP_POS_pos) + rmpSum (s.rmp.edges.filter (fun e => s.rmpEdgeDue e))))

/-- The position once every pulse placed has left. -/
def State.rmpPosAll (s : State) : Int := sext 32 (s.fv P.RMP R.RMP_POS_pos) + rmpSum s.rmp.edges

/-- RMP_PHASE at a position (R451). -/
def State.rmpPhase (s : State) (p : Int) : Nat := (p % (2 ^ s.fv P.RMP R.RMP_CFG_hph : Nat)).toNat

/-- Store the position, and with it its phase. -/
def State.setRmpPos (s : State) (p : Int) : State :=
  (s.setFv P.RMP R.RMP_POS_pos (uext 32 p)).setFv P.RMP R.RMP_PHASE_ph (s.rmpPhase p)

/-- The pulses whose edges have come are counted in the position. -/
def State.rmpFold (s : State) : State :=
  let s' := s.setRmpPos s.rmpPos
  { s' with rmp := { s'.rmp with
    edges := s.rmp.edges.filter (fun e => !s.rmpEdgeDue e)
    out := ((s.rmp.edges.filter (fun e => s.rmpEdgeDue e)).getLast?).or s'.rmp.out } }

/-- The pulses stop (R441, Table 18-1 row 1, step 5 of R40): those not yet emitted are dropped. -/
def State.rmpHalt (s : State) : State :=
  let s := s.rmpFold
  { s with rmp := { s.rmp with edges := [] } }

def State.rmpV (s : State) : Q := s.rmp.vel
def State.rmpMoving (s : State) : Bool := decide (s.rmp.vel.num ≠ 0)

/-- The level of DIRO (R443, R448). -/
def State.diroHigh (s : State) : Bool :=
  s.fb P.RMP R.RMP_OUT_step_en && (if s.now * 125 < s.rmp.dirAt * 128 then !s.rmp.diro else s.rmp.diro)

/-- Stand still at a position. -/
def State.rmpStand (s : State) (x : Q) : State :=
  { s with rmp := { s.rmp with vel := Q.zero, acc := Q.zero, x := x, plan := RmpPlan.rest x } }

/-- A limit register as an exact quantity. -/
def State.rmpLim (s : State) (f : Field) : Q := ofB32 (s.fw P.RMP f)

/-! ### Sources and profiles -/

/-- The row of Table 18-1 in force. A link test of the step output shows row 3 (R508). -/
def State.rmpSrc (s : State) : Nat :=
  if s.fb P.SAF R.SAF_STAT_safe then 0
  else if s.rmp.dflt then 1
  else if s.rmp.dstop then 2
  else if !s.fb P.RMP R.RMP_CFG_en || s.linkTest 10 then 3
  else if s.rmp.fbeForce.isSome then 4
  else 5

/-- The bits of the demanded profiles (R445). -/
def State.rmpDemanded (s : State) : Nat :=
  ((List.range 8).filter (fun p => s.rmp.demands.any (fun d => decide (d.1 = p)))).foldl (fun acc p => acc + 2 ^ p) 0

/-- The profile in force: the demanded one with the lowest v_dem, the lower number at equal v_dem (R445). -/
def State.rmpProfile (s : State) : Option Nat :=
  (List.range 8).foldl (fun best p =>
    if !s.rmp.demands.any (fun d => decide (d.1 = p)) then best
    else
      match best with
      | none => some p
      | some b => if Q.lt (s.rmpLim (R.RMP_PR_V_v_dem.nth p)) (s.rmpLim (R.RMP_PR_V_v_dem.nth b)) then some p else best) none

/-- What the target in force comes from (R444, R452): FBE's force, the position at start-up until the owner writes, FBE, RMP_TGT. -/
inductive RmpTarget where
  | held (p : Int)
  | given (w : Word)
  | input
  | none
deriving DecidableEq, Repr

def State.rmpTarget (s : State) : RmpTarget :=
  let own := s.fv P.RMP R.RMP_CFG_own
  if s.rmpSrc = 4 then (match s.rmp.fbeForce with | some w => .given w | none => .none)
  else match s.rmp.startTgt with
    | some p => if own = 2 then .input else .held p
    | none =>
      if own = 2 then .input
      else if own = 1 then .given (s.fw P.RMP R.RMP_TGT_tgt)
      else match s.rmp.fbeTarget with | some w => .given w | none => .none

/-- The target in force is no finite number: a stop with stop_prof (R444). -/
def State.rmpNoTarget (s : State) : Bool :=
  match s.rmpTarget with
  | .given w => !b32Finite w
  | _ => false

/-- The profile whose deceleration and jerk the motion uses: the safe state's; stop_prof for rows 2 and 3, in DORMANT and for a target that
is not finite; the demanded one over rows 4 and 5. -/
def State.rmpStopProfile (s : State) : Option Nat :=
  let src := s.rmpSrc
  if src = 0 then some (s.fv P.SAF R.SAF_CFG_rmp_prof)
  else if src = 2 ∨ src = 3 ∨ s.pstate = 2 ∨ s.rmpNoTarget then some (s.fv P.RMP R.RMP_CFG_stop_prof)
  else s.rmpProfile

/-- The speed ceiling (R445): vmax, and over rows 4 and 5 that of the profile in force. -/
def State.rmpCap (s : State) : Q :=
  let vmax := s.rmpLim R.RMP_LIM_V_vmax
  match s.rmpProfile with
  | some p => if 4 ≤ s.rmpSrc then Q.min vmax (s.rmpLim (R.RMP_PR_V_v_dem.nth p)) else vmax
  | none => vmax

/-- The deceleration and jerk in force, before a virtual limit. -/
def State.rmpDecel (s : State) : Q × Q :=
  match s.rmpStopProfile with
  | some p => (s.rmpLim (R.RMP_PR_D_d_p.nth p), s.rmpLim (R.RMP_PR_J_j_p.nth p))
  | none => (s.rmpLim R.RMP_LIM_D_dmax, s.rmpLim R.RMP_LIM_J_jmax)

/-- The limits of a plan with jerk limit `jm`; `d` in place of the deceleration in force where given (d*). -/
def State.rmpLimits (s : State) (jm : Q) (d : Option Q) : RmpLimits :=
  { amax := s.rmpLim R.RMP_LIM_A_amax, d := d.getD s.rmpDecel.1, jmax := jm, jd := if s.rmpStopProfile.isSome then s.rmpDecel.2 else jm }

/-- The motion at the latest advance. -/
def State.rmpPoint (s : State) : RmpPt := ⟨s.rmp.x, s.rmp.vel, s.rmp.acc⟩

/-- The jerk of the plan in force at the latest advance. -/
def State.rmpJerk (s : State) : Q := (s.rmp.plan.at (Q.frac s.rmp.plan.n 65536)).2

/-- The jmax of a plan made now: a change of acceleration that goes on keeps its own (R442). -/
def State.rmpJm (s : State) : Q :=
  if s.rmpJerk.num ≠ 0 ∧ Q.eq (Q.abs s.rmpJerk) s.rmp.plan.jm then s.rmp.plan.jm else s.rmpLim R.RMP_LIM_J_jmax

/-- The page offset of the deceleration field in force (R446). -/
def State.rmpDecelOff (s : State) : Nat :=
  match s.rmpStopProfile with
  | some p => (R.RMP_PR_D_d_p.nth p).off
  | none => R.RMP_LIM_D_dmax.off

/-- The virtual limits in full steps (R446). -/
def State.rmpLo (s : State) : Q := Q.make (sext 32 (s.fv P.RMP R.RMP_VLIM_LO_lo)) 256
def State.rmpHi (s : State) : Q := Q.make (sext 32 (s.fv P.RMP R.RMP_VLIM_HI_hi)) 256

/-- What the motion aims at: a position in full steps, a signed speed, or a stop. A position beyond the limits is taken as
the nearer limit; a non-finite target is a stop (R444). In DORMANT the motion stops (R452); a stop beyond a virtual limit holds (R447); a
planned disable moves to where the drive parks (R451). -/
inductive Aim where
  | stop
  | position (x : Q) (atLimit : Bool)
  | speed (v : Q)
deriving DecidableEq, Repr

/-- The multiple of 2^hph microsteps nearest a position, the lower one at a tie (R451). -/
def rmpHome (hph : Nat) (p : Int) : Int :=
  let m : Int := (2 ^ hph : Nat)
  let lo := Int.fdiv p m * m
  if 2 * (p - lo) ≤ m then lo else lo + m

/-- Where a planned disable parks (R451): the home phase nearest the position that a motion towards it reaches within the virtual limits and,
from outside them, only inwards (R446, R447); the position itself where there is none. -/
def State.rmpParkAt (s : State) (p : Int) : Int :=
  let m : Int := (2 ^ s.fv P.RMP R.RMP_CFG_hph : Nat)
  let lo := Int.fdiv p m * m
  let up := lo + m
  let loOk := decide (sext 32 (s.fv P.RMP R.RMP_VLIM_LO_lo) ≤ lo)
  let upOk := decide (up ≤ sext 32 (s.fv P.RMP R.RMP_VLIM_HI_hi))
  if p = lo then p
  else if loOk && (!upOk || decide (2 * (p - lo) ≤ m)) then lo
  else if upOk then up
  else p

/-- The drive is being disabled as planned: row 3, or DORMANT with dor_en = 0 (R451). -/
def State.rmpDisabling (s : State) : Bool :=
  (decide (s.rmpSrc = 3) || (decide (s.pstate = 2) && decide (3 ≤ s.rmpSrc) && !s.fb P.RMP R.RMP_CFG_dor_en)) && s.fb P.RMP R.RMP_STAT_dren

def State.rmpAim (s : State) : Aim :=
  if s.rmpDisabling then
    (match s.rmp.park with
     | some p => .position (rmpSteps p) false
     | none => .stop)
  else if s.rmpSrc ≤ 3 ∨ s.pstate = 2 ∨ s.rmp.beyond then .stop
  else
    let toPos (x : Q) : Aim := .position (Q.clip s.rmpLo s.rmpHi x) (Q.lt x s.rmpLo || Q.lt s.rmpHi x)
    match s.rmpTarget with
    | .none => .stop
    | .input => toPos (rmpSteps s.rmp.input)
    | .held p => if s.fb P.RMP R.RMP_CFG_tmode then .speed Q.zero else toPos (rmpSteps p)
    | .given w =>
      if !b32Finite w then .stop
      else if s.fb P.RMP R.RMP_CFG_tmode then .speed (ofB32 w) else toPos (ofB32 w)

/-! ### Planning -/

/-- Write the status bits that follow from the motion (Table 18-3). -/
def State.rmpShow (s : State) : State :=
  let v := s.rmp.vel.num
  let a := s.rmp.acc.num
  let dec := decide (v < 0 ∧ 0 < a) || decide (0 < v ∧ a < 0)
  let phase := if v = 0 ∧ a = 0 then 0 else if a = 0 then 2 else if dec then 3 else 1
  let s := s.setFv P.RMP R.RMP_STAT_src s.rmpSrc
  let s := s.setFb P.RMP R.RMP_STAT_moving s.rmpMoving
  let s := s.setFv P.RMP R.RMP_STAT_phase phase
  let s := s.setFb P.RMP R.RMP_STAT_dir s.diroHigh
  let s := s.setFb P.RMP R.RMP_STAT_dflt s.rmp.dflt
  let s := s.setFb P.RMP R.RMP_STAT_dstop s.rmp.dstop
  let s := s.setFv P.RMP R.RMP_VEL_vel (toB32 s.rmp.vel).toNat
  s.setFv P.RMP R.RMP_ACC_acc (toB32 s.rmp.acc).toNat

/-- The drive stops at once: velocity and acceleration 0 without a ramp, DREN low, pos_unc set (Table 18-1 row 1). -/
def State.rmpDrop (s : State) : State :=
  let moved := s.rmpMoving
  let s := s.rmpHalt
  let s := s.rmpStand (rmpSteps s.rmpPos)
  let s := { s with rmp := { s.rmp with dStar := none, beyond := false, park := none } }
  let s := (s.setFv P.RMP R.RMP_STAT_dren 0).setFv P.RMP R.RMP_STAT_pos_unc 1
  (s.irqIf moved P.RMP 0).rmpShow

/-- The driver is enabled (DREN high), which takes RMP_CFG.en (R444): with keep = 0 the position becomes the home phase nearest its old
value (R451). -/
def State.rmpEnable (s : State) : State :=
  if s.fb P.RMP R.RMP_STAT_dren || !s.fb P.RMP R.RMP_CFG_en then s
  else
    let s := s.setFv P.RMP R.RMP_STAT_dren 1
    if s.fb P.RMP R.RMP_CFG_keep then s
    else
      let s := s.rmpHalt
      let p := rmpHome (s.fv P.RMP R.RMP_CFG_hph) s.rmpPos
      ((s.setRmpPos p).rmpStand (rmpSteps p)).rmpShow

/-- The virtual limit ahead of a motion of velocity `v`. -/
def State.rmpAhead (s : State) (v : Q) : Q := if v.num < 0 then s.rmpLo else s.rmpHi

/-- The deceleration in force stops the motion at or before the virtual limit ahead of it (R446). -/
def State.rmpStops (s : State) (jm : Q) : Bool :=
  let v := s.rmp.vel
  let xs := (s.rmpLimits jm none).stopEnd s.rmpPoint
  let past := if v.num < 0 then Q.sub s.rmpLo xs else Q.sub xs s.rmpHi
  decide (v.num = 0) || Q.le past rmpTol

/-- The virtual limit in the direction of motion bounds the plan (R446, R447): where the deceleration in force cannot stop in time, d* is
used, capped by dabs, with dclamp; its count, its event and a clamp entry where the motion was not yet under one: PG_CLAMP_ST holds d* as
the example prints it, rounded down to a whole number. Where even dabs cannot, ovr, and the stop holds. -/
def State.rmpLimitPlan (s : State) (jm : Q) : State :=
  if s.rmpStops jm then { s with rmp := { s.rmp with dStar := none, beyond := false } }
  else
    let d := s.rmpDecel.1
    let dabs := s.rmpLim R.RMP_DABS_dabs
    let need := rmpDStar (s.rmpLimits jm none) s.rmpPoint (s.rmpAhead s.rmp.vel) dabs
    let used := need.getD dabs
    let anew := s.rmp.dStar.isNone
    let s := { s with rmp := { s.rmp with dStar := some used, beyond := need.isNone } }
    let s := if anew then
        (((s.setFv P.RMP R.RMP_STAT_dclamp 1).satInc P.RMP R.RMP_CNT_dclamps 1).irq P.RMP 2).clampAt P.RMP
          s.rmpDecelOff 0 true (toB32 d).toNat (toB32 (if need.isSome then Q.ofInt used.floor else used)).toNat
      else s
    if need.isNone && !s.fb P.RMP R.RMP_STAT_ovr then (s.setFv P.RMP R.RMP_STAT_ovr 1).irq P.RMP 3 else s

/-- The parts of the plan for the aim in force, and where it ends. A stop under d* ends exactly at the limit; a speed is kept up to the virtual
limit in its direction. -/
def State.rmpParts (s : State) (jm : Q) : List (Q × Q) × Q :=
  let p := s.rmpPoint
  let first := s.rmpLimits jm s.rmp.dStar
  let last := s.rmpLimits jm none
  let cap := s.rmpCap
  let stop : List (Q × Q) × Q :=
    (first.toSpeed p.v p.a Q.zero, if s.rmp.dStar.isSome && !s.rmp.beyond then s.rmpAhead p.v else first.stopEnd p)
  match s.rmpAim with
  | .stop => stop
  | .position xt _ => rmpPlanTo first last p xt cap
  | .speed vt =>
    let want := Q.clip (Q.neg cap) cap vt
    let along := decide (0 ≤ p.v.num * want.num)
    if want.num = 0 ∨ (0 < want.num ∧ Q.le s.rmpHi p.x) ∨ (want.num < 0 ∧ Q.le p.x s.rmpLo) ∨ (s.rmp.dStar.isSome ∧ along) then stop
    else rmpPlanTo first last p (s.rmpAhead want) (Q.abs want)

/-- The motion is at a virtual limit. -/
def State.rmpAtLimit (s : State) : Bool := Q.eq s.rmp.x s.rmpLo || Q.eq s.rmp.x s.rmpHi

/-- The target is a speed (R444, R449). -/
def State.rmpSpeedMode (s : State) : Bool := s.fb P.RMP R.RMP_CFG_tmode && decide (s.fv P.RMP R.RMP_CFG_own ≠ 2)

/-- vlim_hit (R444): a position target beyond a limit; in speed mode a plan that ends at a limit under R446, and a motion that ended at one,
until another motion starts. -/
def State.rmpVlim (s : State) : Bool :=
  match s.rmpAim with
  | .position _ lim => lim
  | _ => s.rmpSpeedMode && (if s.rmp.plan.segs.isEmpty then s.fb P.RMP R.RMP_STAT_vlim_hit else s.rmp.dStar.isSome && !s.rmp.beyond)

/-- Plan the motion from where it is (R442). -/
def State.rmpPlanNow (s : State) (jm : Q) : State :=
  let s := s.rmpLimitPlan jm
  let q (x : Q) : Q := Q.down 64 x
  let s := { s with rmp := { s.rmp with x := q s.rmp.x, vel := q s.rmp.vel, acc := q s.rmp.acc } }
  let parts := s.rmpParts jm
  let plan : RmpPlan := { x := s.rmp.x, v := s.rmp.vel, a := s.rmp.acc, segs := parts.1, fin := if parts.1.isEmpty then s.rmp.x else parts.2
                          n := 0, jm := jm, jerk := (parts.1.head?.map (fun x => x.2)).getD Q.zero }
  let s : State := { s with rmp := { s.rmp with plan := plan } }
  s.setFb P.RMP R.RMP_STAT_vlim_hit s.rmpVlim

/-- The profile that RMP_DEM shows in force. -/
def State.rmpShown (s : State) : Option Nat := if s.fb P.RMP R.RMP_DEM_active then some (s.fv P.RMP R.RMP_DEM_prof) else none

/-- A link test takes the step output (Table 22-2, R519): STPO and DIRO carry the pattern at once, so that no pulse of a motion can leave; the
motion ends where the pulses have brought it, DREN is low and the source reads 3. -/
def State.rmpTaken (s : State) : State :=
  let moved := s.rmpMoving
  let s := s.rmpHalt
  let s := s.rmpStand (rmpSteps s.rmpPos)
  let s := { s with rmp := { s.rmp with dStar := none, beyond := false, park := none } }
  ((s.setFv P.RMP R.RMP_STAT_dren 0).irqIf moved P.RMP 0).rmpShow

/-- Replan (R442): the profile in force and its event, the source, the driver enable, the virtual limits. -/
def State.rmpReplan (s : State) : State :=
  let new := s.rmpProfile
  let s := s.setFv P.RMP R.RMP_DEM_dem s.rmpDemanded
  let s :=
    if s.rmpShown = new then s
    else
      let s := (s.setFb P.RMP R.RMP_DEM_active new.isSome).setFv P.RMP R.RMP_DEM_prof (new.getD 0)
      (s.satInc P.RMP R.RMP_CNT_demands 1).irq P.RMP 1
  let src := s.rmpSrc
  if s.linkTest 10 then s.rmpShow
  else if src = 1 ∨ (src = 0 ∧ s.fb P.SAF R.SAF_CFG_rmp_mode) then
    (if s.fb P.RMP R.RMP_STAT_dren || s.rmpMoving then s.rmpDrop else s.rmpShow)
  else
    let s := if src = 0 ∨ src = 3 ∨ (s.pstate = 2 ∧ !s.fb P.RMP R.RMP_CFG_dor_en) then s else s.rmpEnable
    let s : State := if s.rmpDisabling then s else { s with rmp := { s.rmp with park := none } }
    (s.rmpPlanNow s.rmpJm).rmpShow

/-! ### One advance of 2^-16 s -/

/-- The pulse weight at position `p` and speed `v` (R448): fixed, or raised and lowered by the pulse rate; a change only at a multiple of the
new weight. -/
def State.rmpWeight (s : State) (p : Int) (v : Q) : Nat → Nat → Nat
  | 0, w => w
  | n + 1, w =>
    let whole (k : Nat) : Bool := decide (p % (2 ^ k : Nat) = 0)
    if !s.fb P.RMP R.RMP_OUT_wmode then (let k := Nat.min 8 (s.fv P.RMP R.RMP_OUT_wfix); if whole k then k else w)
    else
      let rate := Q.div (Q.mul v (Q.ofNat 256)) (Q.ofNat (2 ^ w))
      let fup := Q.ofNat (s.fv P.RMP R.RMP_OUT_f_up * 1000)
      if Q.lt fup rate && decide (w < 8) && whole (w + 1) then s.rmpWeight p v n (w + 1)
      else if Q.lt rate (Q.div fup (Q.ofNat 4)) && decide (0 < w) && whole (w - 1) then s.rmpWeight p v n (w - 1)
      else w

/-- The first cycle in `[lo, hi]` from which on `ok` holds, where it holds at `hi`; by halving. -/
def firstCycle (ok : Nat → Bool) : Nat → Nat → Nat → Nat
  | 0, _, hi => hi
  | n + 1, lo, hi =>
    if hi ≤ lo then hi
    else (let mid := (lo + hi) / 2; if ok mid then firstCycle ok n lo mid else firstCycle ok n (mid + 1) hi)

/-- Place the pulses of the cycles `[c, hi]` of the present slot, in direction `up` (R441, R443, R448): each at the cycle at which the motion
reaches its microstep, 1 µs or more after the one before it and t_dir or more after a change of DIRO. -/
def State.rmpPlace (pt : Nat → RmpPt) (up : Bool) (hi : Nat) : Nat → Nat → State → State
  | 0, _, s => s
  | k + 1, c, s =>
    let p := s.rmpPosAll
    let w := s.rmpWeight p (Q.abs (pt c).v) 8 (s.fv P.RMP R.RMP_STAT_w)
    let s := s.setFv P.RMP R.RMP_STAT_w w
    let step : Int := (2 ^ w : Nat)
    let reached (n : Nat) : Bool := if up then Q.le (Q.make (2 * p + 2 * step - 1) 512) (pt n).x else Q.le (pt n).x (Q.make (2 * p - 2 * step + 1) 512)
    if !reached hi then s
    else
      let n := firstCycle reached 8 c hi
      let due := Nat.max ((s.rmp.advAt * 250 + n) * 1000)
        (Nat.max (s.rmp.lastEdge + 16384) (s.rmp.dirAt * 1000 + (s.fv P.RMP R.RMP_OUT_t_dir * 16384 + 9) / 10))
      State.rmpPlace pt up hi k n
        { s with rmp := { s.rmp with edges := s.rmp.edges ++ [⟨due, if up then step else -step⟩], lastEdge := due } }

/-- The pulses of one slot, and DIRO: it turns at the cycle at which the velocity is zero, after the pulses of the old direction (R443). -/
def State.rmpPulses (s : State) (pt : Nat → RmpPt) : State :=
  let v := (pt 250).v.num
  let up := if v = 0 then s.rmp.diro else decide (0 < v)
  if up = s.rmp.diro then s.rmpPlace pt up 250 20 0
  else
    let c := firstCycle (fun n => decide (if up then 0 < (pt n).v.num else (pt n).v.num < 0)) 8 0 250 - 1
    let s := s.rmpPlace pt s.rmp.diro c 20 0
    let s : State := { s with rmp := { s.rmp with diro := up, dirAt := Nat.max (s.rmp.advAt * 250 + c) (s.rmp.lastEdge / 1000 + 1) } }
    s.rmpPlace pt up 250 20 c

/-- What follows a stop: the stopped event, vlim_hit at a virtual limit in speed mode, DREN low under rows 0 and 3 (R444, R451, R467) and,
in DORMANT, with dor_en = 0, once the last pulse has left; with keep = 0 the drive first moves to where it parks. -/
def State.rmpAtRest (s : State) (moved : Bool) : State :=
  let s := s.irqIf moved P.RMP 0
  let s := if moved && s.rmpSpeedMode && s.rmpAtLimit then s.setFv P.RMP R.RMP_STAT_vlim_hit 1 else s
  let src := s.rmpSrc
  if !s.fb P.RMP R.RMP_STAT_dren || !s.rmp.edges.isEmpty then s
  else if src = 0 then (s.setFv P.RMP R.RMP_STAT_dren 0).setFv P.RMP R.RMP_STAT_pos_unc 1
  else if s.rmpDisabling then
    let home := s.rmp.park.getD (s.rmpParkAt s.rmpPosAll)
    if s.fb P.RMP R.RMP_CFG_keep || Q.eq s.rmp.x (rmpSteps home) || s.rmp.park.isSome then
      { s.setFv P.RMP R.RMP_STAT_dren 0 with rmp := { s.rmp with park := none } }
    else ({ s with rmp := { s.rmp with park := some home } } : State).rmpPlanNow (s.rmpLim R.RMP_LIM_J_jmax)
  else s

/-- One advance of the motion along its plan (R441–R443, R448): the pulses that have left are counted, those of the slot that begins are
placed. A new jmax comes into force where the change of acceleration that went on at its commit has ended (R442). -/
def State.rmpAdvance (s : State) : State :=
  let s := s.rmpFold
  if s.rmpSrc = 1 ∨ s.linkTest 10 then s.rmpShow
  else
    let moved := s.rmpMoving
    let plan := s.rmp.plan
    let n := plan.n + 1
    let s := s.rmpPulses (fun c => (plan.at (Q.frac (plan.n * 250 + c) 16384000)).1)
    let here := plan.at (Q.frac n 65536)
    if plan.over (Q.frac n 65536) then
      let s := s.rmpStand plan.fin
      (({ s with rmp := { s.rmp with dStar := none } } : State).rmpAtRest moved).rmpShow
    else
      let s : State := { s with rmp := { s.rmp with x := here.1.x, vel := here.1.v, acc := here.1.a, plan := { plan with n := n } } }
      let jmax := s.rmpLim R.RMP_LIM_J_jmax
      if !Q.eq plan.jm jmax && !Q.eq here.2 plan.jerk then (s.rmpPlanNow jmax).rmpShow else s.rmpShow

/-- RAMP_ADVANCE (R441): once in each 2^-16 s of the timebase. -/
def execRampAdvance (t : Nat) (s : State) : Host.Outcome State Fault Refusal :=
  let s := s.at t
  .next (if s.ready && decide (s.rmp.advAt < s.now / 256) then { s with rmp := { s.rmp with advAt := s.now / 256 } }.rmpAdvance else s)

/-- The entries that demand a profile (R445); a demand issued again by its entry changes nothing. The motion follows at DEMAND_REPLAN. -/
def State.rmpDemands (s : State) (l : List (Nat × Nat)) : State :=
  let s := { s with rmp := { s.rmp with demands := l } }
  s.setFv P.RMP R.RMP_DEM_dem s.rmpDemanded

/-- DEMAND_REPLAN (R445): the demands of the entries decide the profile in force; the motion is replanned where it has changed. -/
def execDemandReplan (t : Nat) (s : State) : Host.Outcome State Fault Refusal :=
  let s := s.at t
  .next (if s.ready && decide (s.rmpShown ≠ s.rmpProfile) then s.rmpReplan else s)

/-- DRIVER_FAULT (Table 18-1 row 1): DFLT_N low. -/
def execDriverFault (t : Nat) (s : State) : Host.Outcome State Fault Refusal :=
  let s := s.at t
  let s := { s with rmp := { s.rmp with dflt := true } }
  .next (if s.ready then (if s.rmpSrc = 1 then s.rmpDrop else s.rmpShow).irq P.RMP 4 else s)

/-- DFLT_RELEASE (Table 18-1): the generator replans under the next row. -/
def execDfltRelease (t : Nat) (s : State) : Host.Outcome State Fault Refusal :=
  let s := s.at t
  let s := { s with rmp := { s.rmp with dflt := false } }
  .next (if s.ready then s.rmpReplan else s)

/-- DRIVER_STOP (Table 18-1 row 2): DSTOP_N low. -/
def execDriverStop (t : Nat) (s : State) : Host.Outcome State Fault Refusal :=
  let s := s.at t
  let s := { s with rmp := { s.rmp with dstop := true } }
  .next (if s.ready then s.rmpReplan.irq P.RMP 5 else s)

/-- DSTOP_RELEASE (Table 18-1 row 2): replan towards the owner's target. -/
def execDstopRelease (t : Nat) (s : State) : Host.Outcome State Fault Refusal :=
  let s := s.at t
  let s := { s with rmp := { s.rmp with dstop := false } }
  .next (if s.ready then s.rmpReplan else s)

/-- STPI_EDGE (R449): with own = 2 the input position moves by 2^wi microsteps; dir_inv inverts DIRI. -/
def execStpiEdge (t : Nat) (dirHigh : Bool) (s : State) : Host.Outcome State Fault Refusal :=
  let s := s.at t
  .next (if s.ready && decide (s.fv P.RMP R.RMP_CFG_own = 2) then
    let up := dirHigh != s.fb P.RMP R.RMP_IN_dir_inv
    let w : Int := (2 ^ s.fv P.RMP R.RMP_IN_wi : Nat)
    { s with rmp := { s.rmp with input := s.rmp.input + (if up then w else -w) } }.rmpReplan
  else s)

/-- POSITION_COMMIT (R452): the position is committed every 10 ms while moving. -/
def execPositionCommit (t : Nat) (s : State) : Host.Outcome State Fault Refusal :=
  let s := s.at t
  .next (if s.ready && s.rmpMoving && decide (s.rmp.commitAt + msecs 10 ≤ s.now) then
    { s with rmp := { s.rmp with commit := s.rmpPos, commitAt := s.now } } else s)

/-- FBE gives the ramp target (R315, R444); as the owner it replaces the target of a start-up (R452). -/
def State.rmpFbe (s : State) (v : Word) : State :=
  let start := if s.fv P.RMP R.RMP_CFG_own = 0 then none else s.rmp.startTgt
  { s with rmp := { s.rmp with fbeTarget := some v, startTgt := start } }.rmpReplan

/-- RMP_CTRL actions: ack_pos, setpos while the velocity is 0 (R453), clr. -/
def State.rmpCtrl (s : State) (v : Word) : State :=
  let s := if v.getLsbD 2 then
      (((s.setFv P.RMP R.RMP_CNT_demands 0).setFv P.RMP R.RMP_CNT_dclamps 0).setFv P.RMP R.RMP_STAT_dclamp 0).setFv P.RMP R.RMP_STAT_ovr 0
    else s
  let s := if v.getLsbD 0 then (s.setFv P.RMP R.RMP_STAT_pos_unc 0).setFv P.RMP R.RMP_STAT_pos_lost 0 else s
  if v.getLsbD 1 && !s.rmpMoving then
    let p := sext 32 (s.fv P.RMP R.RMP_SETPOS_pos)
    let s := (s.rmpHalt.setRmpPos p).rmpStand (rmpSteps p)
    let s := { s with rmp := { s.rmp with input := p, commit := p, startTgt := s.rmp.startTgt.map (fun _ => p) } }
    s.setFv P.RMP R.RMP_STAT_pos_unc 0
  else s

/-- The speed reference of R450 in mA, where this loop channel is driven by the generator. -/
def State.rmpLoop (s : State) (ch : Nat) : Option Q :=
  if s.fb P.RMP R.RMP_LREF_en && decide (s.fv P.RMP R.RMP_LREF_ch = ch) then
    let r := Q.div s.rmpV (s.rmpLim R.RMP_LREF_VFS_vfs)
    some (if s.fb P.RMP R.RMP_LREF_bipolar then Q.add (Q.ofNat 12) (Q.mul (Q.ofNat 8) r)
      else Q.add (Q.ofNat 4) (Q.mul (Q.ofNat 16) (Q.abs r)))
  else none

/-- Step 6 of start-up (R34, R452): velocity zero, the position retained (the last commit after a loss in motion), the
target the present position or speed 0 until the owner writes, demand counts cleared (R445). -/
def State.rmpStart (s : State) : State :=
  let lostMoving := !s.pwr.clean && s.rmpMoving
  let p := if lostMoving then s.rmp.commit else s.rmpPos
  let s := if lostMoving then s.setFv P.RMP R.RMP_STAT_pos_lost 1 else s
  let s := (s.setRmpPos p).rmpStand (rmpSteps p)
  let s := { s with rmp := { s.rmp with
    edges := [], lastEdge := 0, out := none, dStar := none, beyond := false, park := none, diro := false, dirAt := 0, input := p, commit := p, demands := []
    fbeTarget := none, startTgt := some p } }
  s.rmpReplan

end Sys2Proof.Machine
end

