-- ==== Sys2Proof/Machine/Saf.lean ====
section
/-! DEFINITION. The safety supervisor's own operations: entry to the safe state (R468), demands (R460), trips (R461), claim
and bypass (R456, R461), the alert latch (R469), the hours of R472. -/

namespace Sys2Proof.Machine

open Sys2Proof

/-- The trip entries in use: entry and level of each SAF_TRIPn whose level is 1 or 2. -/
def State.trips (s : State) : List (Nat × Nat) :=
  ((List.range 16).map (fun n => (s.fv P.SAF (R.SAF_TRIP_entry.nth n), s.fv P.SAF (R.SAF_TRIP_level.nth n)))).filter
    (fun x => decide (x.2 ≠ 0))

/-- A trip entry stands at its trip level (R461). -/
def State.tripStands (s : State) : Bool := s.trips.any (fun x => decide (x.2 ≤ (s.entry x.1).level))

/-- A point of a trip entry is forced or simulated (R461). -/
def State.tripBypassed (s : State) : Bool :=
  s.trips.any (fun x => (s.pointsOfEntry x.1).any (fun p => s.pointForced p || s.pointSimulated p))

/-- The condition of R456. -/
def State.claimHolds (s : State) : Bool :=
  decide (s.fv P.SAF R.SAF_DIAG_EN_en = 0x7FFF) && !s.fb P.SAF R.SAF_STAT_st_due && !s.fb P.SAF R.SAF_STAT_bypass &&
    (s.trips.isEmpty || (s.fb P.ALH R.ALH_CTRL_en && s.fb P.PTE R.PTE_CTRL_sc_en))

/-- Show trip, bypass and claim as they follow from their inputs; a fall of claim is an event (R456, R461). -/
def State.safShow (s : State) : State :=
  let s := s.setFb P.SAF R.SAF_STAT_trip s.tripStands
  let s := s.setFb P.SAF R.SAF_STAT_bypass s.tripBypassed
  let was := s.fb P.SAF R.SAF_STAT_claim
  let s := s.setFb P.SAF R.SAF_STAT_claim s.claimHolds
  s.irqIf (was && !s.claimHolds) P.SAF 5

/-- The word of a cause: code, kind, detail (SAF_CAUSE). -/
def safWord (kind code detail : Nat) : Nat := code % 16 + kind * 16 + detail % 2 ^ 24 * 256

/-- A release stamped as an entry to the safe state does not take effect (R459, R513): it is stored as 0, and the state stands as before. -/
def State.releaseUndone (s : State) (was : Bool × Bool) : State :=
  let s : State := { s with saf := { s.saf with released := none } }
  let s := (s.setFv P.SAF R.SAF_STAT_safe 1).setFb P.SAF R.SAF_STAT_latched was.1
  let s := s.setReg (P.SAF + 0x20) (word (withBit (s.reg (P.SAF + 0x20)).toNat 4 was.2))
  (s.clampAt P.SAF 0xB8 0 true 1 0).rmpReplan

/-- A cause of the safe state (R454, R468, R469): the alert latch, but for the host's request in the safe state, which is no event of R469,
and a trigger of source 5; where `act` and the node is not yet in the safe state, the entry to it. -/
def State.safCause (s : State) (act : Bool) (kind code detail : Nat) : State :=
  let w := safWord kind code detail
  let s := match s.saf.released with
    | some (at_, was) => if act && decide (at_ = s.now) then s.releaseUndone was else s
    | none => s
  let s := if decide (kind = 4) && s.fb P.SAF R.SAF_STAT_safe then s else s.setFv P.SAF R.SAF_STAT_alert 1
  if act && !s.fb P.SAF R.SAF_STAT_safe then
    let s := s.setStamp P.SAF R.SAF_T_LO_t R.SAF_T_HI_t s.now
    let s := s.setReg (P.SAF + R.SAF_CAUSE_code.off) (word w)
    let s := s.satInc P.SAF R.SAF_CNT_safe 1
    let s := (s.setFv P.SAF R.SAF_STAT_safe 1).irq P.SAF 0
    (s.sysTrigger 5 (w % 65536)).rmpReplan
  else s.sysTrigger 5 (w % 65536)

/-- A change of entry `e` from level `old` to `new` (R461): a trip where the new level reaches a trip level that the old one
did not. -/
def State.tripCheck (s : State) (e old new : Nat) : State :=
  let s := s.setFb P.SAF R.SAF_STAT_trip s.tripStands
  if s.trips.any (fun x => decide (x.1 = e) && decide (old < x.2) && decide (x.2 ≤ new)) then
    (s.irq P.SAF 3).safCause true 3 0 e
  else s

/-- A diagnostic fails (R462): its bits, its event, and the safe state where it is enabled. -/
def State.diagFail (s : State) (code detail : Nat) : State :=
  let s : State := { s with saf := { s.saf with failAt := s.saf.failAt.set code s.now } }
  let set (f : Field) (s : State) : State :=
    s.setReg (P.SAF + f.off) (s.reg (P.SAF + f.off) ||| word (2 ^ code))
  let s := (set R.SAF_FAIL_fail (set R.SAF_LIVE_live s)).irq P.SAF 1
  s.safCause (decide (s.fv P.SAF R.SAF_DIAG_EN_en / 2 ^ code % 2 = 1)) 1 code detail

/-- A diagnostic clears from SAF_LIVE (R462). -/
def State.diagClear (s : State) (code : Nat) : State :=
  s.setReg (P.SAF + R.SAF_LIVE_live.off) (s.reg (P.SAF + R.SAF_LIVE_live.off) &&& ~~~ word (2 ^ code))

/-- The power states a diagnostic runs in (Table 19-2): bit 0 RUN, bit 1 LEAN, bit 2 DORMANT. -/
def diagStates (code : Nat) : Nat :=
  [7, 7, 7, 7, 3, 1, 3, 1, 3, 7, 7, 7, 3, 3, 7].getD code 0

/-- A diagnostic runs now. -/
def State.diagRuns (s : State) (code : Nat) : Bool :=
  s.safOn && decide (diagStates code / 2 ^ s.pstate % 2 = 1)

/-- SDEM_N has stood at a level for `us` µs: at least dem_min (R460). -/
def State.demLasts (s : State) (us : Nat) : Bool := decide (100 * s.fv P.SAF R.SAF_CFG_dem_min ≤ us)

/-- SDEM_N is judged: while SAF has power, from step 7 of R34 on (Table 22-1 note 10). -/
def State.demJudged (s : State) : Bool := s.safOn && decide (s.pwr.mode ≠ .held)

/-- SAFETY_DEMAND (R460): SDEM_N has been low for `low` µs; a shorter pulse than dem_min is none. -/
def execSafetyDemand (t low : Nat) (s : State) : Host.Outcome State Fault Refusal :=
  let s := s.at t
  let s : State := { s with saf := { s.saf with lowAt := some s.now } }
  if !s.demJudged || s.fb P.SAF R.SAF_STAT_demand || !s.demLasts low then .next s
  else
    let s := ((s.setFv P.SAF R.SAF_STAT_demand 1).satInc P.SAF R.SAF_CNT_demands 1).irq P.SAF 2
    .next (s.safCause true 2 0 0)

/-- DEMAND_CLEAR (R460): SDEM_N has been high for `high` µs. -/
def execDemandClear (t high : Nat) (s : State) : Host.Outcome State Fault Refusal :=
  let s := s.at t
  .next (if s.demJudged && s.demLasts high then ({ s with saf := { s.saf with lowAt := none } } : State).setFv P.SAF R.SAF_STAT_demand 0 else s)

/-- SDEM_N has been high for at least dem_min (R459), as far as its levels are known. -/
def State.demHigh (s : State) : Bool := s.saf.lowAt.all (fun x => decide (x + usecs (100 * s.fv P.SAF R.SAF_CFG_dem_min) ≤ s.now))

/-- The conditions of a release (R459). -/
def State.releaseHolds (s : State) : Bool :=
  decide (s.fv P.SAF R.SAF_LIVE_live = 0) && !s.fb P.SAF R.SAF_STAT_demand && s.demHigh && !s.tripStands && decide (s.life ≠ 3)

/-- A SAF_CTRL write (R454, R459, R469): without the key every bit is stored as 0; then enter, alert_clr, release. -/
def State.safCtrl (s : State) (v : Word) : State :=
  let key := decide (Word.bits v 8 8 = 0xA5)
  let bits := [0, 1, 2].filter (fun i => v.getLsbD i)
  if !key then bits.foldl (fun s i => s.clampAt P.SAF 0xB8 i true 1 0) s
  else
    let s := if v.getLsbD 2 then s.safCause true 4 0 0 else s
    let s := if v.getLsbD 1 then s.setFv P.SAF R.SAF_STAT_alert 0 else s
    if !v.getLsbD 0 then s
    else if v.getLsbD 2 || !s.releaseHolds then s.clampAt P.SAF 0xB8 0 true 1 0
    else
      let released := s.fb P.SAF R.SAF_STAT_safe
      let was := (s.fb P.SAF R.SAF_STAT_latched, (s.reg (P.SAF + 0x20)).getLsbD 4)
      let s : State := if released then { s with saf := { s.saf with released := some (s.now, was) } } else s
      let s := (s.setFv P.SAF R.SAF_STAT_safe 0).setFv P.SAF R.SAF_STAT_latched 0
      (s.irqIf released P.SAF 4).rmpReplan

/-! ### Hours since the last full self-test (R472) -/

/-- Steps of RUN, LEAN and DORMANT since the last full self-test. -/
def State.stSteps (s : State) : Nat := s.opSteps - s.saf.stBase

/-- SAF_ST.hours. -/
def State.stHours (s : State) : Nat := Nat.min 0xFFFF (s.stSteps / secs 3600)

/-- ST_DUE (R472): SAF_ST reaches 720. -/
def execStDue (t : Nat) (s : State) : Host.Outcome State Fault Refusal :=
  let s := s.at t
  if s.ready && decide (720 ≤ s.stHours) && !s.fb P.SAF R.SAF_STAT_st_due then
    .next ((s.setFv P.SAF R.SAF_STAT_st_due 1).irq P.SAF 6).safShow
  else .next s

/-- A full self-test passes (R472): the hours start again, diagnostic 14 clears. -/
def State.fullSelftestPassed (s : State) : State :=
  let s := { s with saf := { s.saf with stBase := s.opSteps } }
  ((s.setFv P.SAF R.SAF_STAT_st_due 0).diagClear 14).safShow

/-- A self-test ends with a mask of tests run and of tests failed (R471, R472). -/
def State.selftestEnds (s : State) (mask failed : Nat) : State :=
  let bad := failed &&& mask &&& 0x7F
  if bad ≠ 0 then s.diagFail 14 bad
  else if mask &&& 0x7F = 0x7F then s.fullSelftestPassed
  else s

/-- AUTO_SELFTEST (R472): with auto_st = 1, 24 h of RUN, LEAN and DORMANT after the last one; it takes no tally number, and waits for a
SELFTEST that runs in its class. -/
def execAutoSelftest (t failed : Nat) (s : State) : Host.Outcome State Fault Refusal :=
  let s := s.at t
  let free := s.tly.out.all (fun y => !(decide (y.op = 0x50) && y.running && y.outcome.isNone))
  if s.ready && free && s.fb P.SAF R.SAF_CFG_auto_st && decide (secs 86400 ≤ s.opSteps - s.saf.autoBase) then
    .next (({ s with saf := { s.saf with autoBase := s.opSteps } }).selftestEnds 0x7F failed)
  else .next s

/-- DO lines in the safe state (Table 19-3): the safe level of a line. -/
def State.safDo (s : State) (line : Nat) : Bool := decide (s.fv P.SAF R.SAF_DO_SAFE_lvl / 2 ^ line % 2 = 1)

/-- The safe level of a loop channel (Table 19-3): 1 for 3.6 mA, 2 for 21.0 mA. -/
def State.safLpo (s : State) (ch : Nat) : Nat := s.fv P.SAF R.SAF_LPO_SAFE_lvl / 4 ^ ch % 4

end Sys2Proof.Machine
end

