-- ==== Sys2Proof/Machine/TallyQueue.lean ====
section
/-! DEFINITION. Outstanding tallies (R95–R102): what the operations of other chapters use to find their tally and to end it. -/

namespace Sys2Proof.Machine

open Sys2Proof

def State.tally? (s : State) (n : Nat) : Option Tally := s.tly.out.find? (fun x => decide (x.num = n))
def State.setTally (s : State) (x : Tally) : State :=
  { s with tly := { s.tly with out := s.tly.out.map (fun y => if y.num = x.num then x else y) } }

/-- An argument of a tally. -/
def Tally.arg (x : Tally) (i : Nat) : Nat := (x.args.getD i 0#32).toNat

/-- The operation of a tally has ended: status, reason and results; its completion follows (R99). -/
def State.tallyEnds (s : State) (n status reason r0 r1 : Nat) : State :=
  match s.tally? n with
  | some x => if x.outcome.isNone then s.setTally { x with outcome := some (status, reason, r0, r1) } else s
  | none => s

/-- The operation is done: status 0, or 1 where an argument was clamped (Table 03-13). -/
def State.tallyDone (s : State) (n r0 r1 : Nat) : State :=
  s.tallyEnds n (if ((s.tally? n).map (fun x => x.clamped)).getD false then 1 else 0) 0 r0 r1

/-- The operation is refused, nothing done (Table 03-13). -/
def State.tallyRefused (s : State) (n reason r0 r1 : Nat) : State := s.tallyEnds n 2 reason r0 r1

/-- The deadline of a tally has passed (R100). -/
def State.tallyLate (s : State) (x : Tally) : Bool := x.deadline.any (fun d => decide (d < s.now))

/-- The tally `n` runs operation `op`, which has not ended; in DORMANT no operation goes on (R102). -/
def State.tallyAt (s : State) (n op : Nat) : Option Tally :=
  (s.tally? n).filter (fun x => x.running && x.outcome.isNone && decide (x.op = op) && s.ready && decide (s.pstate ≤ 1))

/-- The running tally `n` of operation `op` that goes on with its next step: its deadline has not passed (R100). -/
def State.runningTally (s : State) (n op : Nat) : Option Tally := (s.tallyAt n op).filter (fun x => !s.tallyLate x)

/-- What an operation stopped before its end has finished, its result0: the part of a prefix operation, the converters that a CAL tally
has calibrated, 0 of the other operations (R98). -/
def Tally.partDone (x : Tally) : Nat :=
  if x.op = 0x01 ∨ x.op = 0x02 ∨ x.op = 0x03 ∨ x.op = 0x10 ∨ x.op = 0x30 then x.done
  else if x.op = 0x40 then x.aux / 256
  else 0

/-- Its result1: of STO_VERIFY the first uncorrectable address so far, or 0xFFFF_FFFF (R217); 0 of the others. -/
def Tally.partSecond (x : Tally) : Nat :=
  if x.op = 0x03 then (if x.aux = 0 then 0xFFFFFFFF else x.aux - 1) else 0

/-- The next step of a running operation comes after its deadline: it stops there with status 4 (R100), `stop` leaving its target as its
kind says; otherwise nothing happens. -/
def State.lateStop (s : State) (n op : Nat) (stop : State → State) : State :=
  match s.tallyAt n op with
  | some x => if s.tallyLate x then (stop s).tallyEnds n 4 0 x.partDone x.partSecond else s
  | none => s

/-- How far a tally has come, in its own units, of how many. -/
def State.tallyProgress (s : State) (n done total aux : Nat) : State :=
  match s.tally? n with
  | some x => s.setTally { x with done := done, total := total, aux := aux }
  | none => s

end Sys2Proof.Machine
end

