-- ==== Sys2Proof/Machine/Sac.lean ====
section
/-! DEFINITION. The static channels (chapter 04): slots and scan cycles, what a slot measures, faults, ranges, the post-filter, curves,
quality, and what commits change. -/

namespace Sys2Proof.Machine

open Sys2Proof

def State.sc (s : State) (ch : Nat) : ScCh := s.sac.ch.getD ch ScCh.reset
def State.setSc (s : State) (ch : Nat) (c : ScCh) : State := { s with sac := { s.sac with ch := s.sac.ch.set ch c } }
def State.cv (s : State) (k : Nat) : CvSt := s.sac.cv.getD k CvSt.reset
def State.setCv (s : State) (k : Nat) (c : CvSt) : State := { s with sac := { s.sac with cv := s.sac.cv.set k c } }

/-! ### Configuration (Tables 04-2 to 04-4, 04-7) -/

/-- The connection mode in effect: a commit while the converter calibrates waits for its end (R156). -/
def State.scMode (s : State) (ch : Nat) : Nat :=
  if (s.cv (ch / 4)).cal.isSome then (s.sc ch).mode else s.fv (P.SC ch) R.SC_MODE_mode
/-- The channel carries the sense lines of a BRIDGE6 partner and has no slot of its own (R109, R112). -/
def State.scPartnered (s : State) (ch : Nat) : Bool := decide (ch % 2 = 1) && decide (s.scMode (ch - 1) = 9)
def State.scActive (s : State) (ch : Nat) : Bool := decide (s.scMode ch ≠ 0) && !s.scPartnered ch
/-- The channel takes lead slots (RES3, RES4). -/
def leadMode (m : Nat) : Bool := decide (m = 2) || decide (m = 3)
/-- f_cv of a rate code (Table 04-2). -/
def cvRate (odr : Nat) : Nat := [10, 20, 25, 50, 100, 200, 400, 800].getD odr 10
/-- f_cv in effect: a commit waits for the end of a calibration (R156). -/
def State.cvHz (s : State) (k : Nat) : Nat := ((s.cv k).cal.map (fun x => x.hz)).getD (cvRate (s.fv (P.CV k) R.CV_RATE_odr))
def cvChannels (k : Nat) : List Nat := (List.range 4).map (fun i => 4 * k + i)

/-- Slots in the longest cycle (R110): a BRIDGE6 channel takes its partner's measurement slot as well as its own (R109). -/
def State.cvSlots (s : State) (k : Nat) : Nat :=
  let count (f : Nat → Bool) : Nat := ((cvChannels k).filter f).length
  count s.scActive + count (fun ch => decide (s.scMode ch = 9)) + count (fun ch => leadMode (s.scMode ch)) +
    count (fun ch => decide (s.fv (P.SC ch) R.SC_DIAG_test_s ≠ 0)) + 1

/-- t_cycle_max in steps (R110). -/
def State.cvCycle (s : State) (k : Nat) : Nat := s.cvSlots k * 16777216 / s.cvHz k

/-- CV_CYCLE follows from the configuration (R110). A cycle that is no whole number of 0.1 ms is rounded, halves up: DESIGN CHOICE (log 63). -/
def State.cvShow (s : State) (k : Nat) : State :=
  (s.setFv (P.CV k) R.CV_CYCLE_t_max (Nat.min 65535 ((s.cvSlots k * 20000 / s.cvHz k + 1) / 2))).setFv (P.CV k) R.CV_CYCLE_slots (s.cvSlots k)

/-- Full scale of a range in V (Table 04-7). -/
def rangeFs (r : Nat) : Q := Q.frac 5 (2 ^ (r + 1))
/-- The ranges that a mode allows, from the largest full scale on (Table 04-3). -/
def modeRanges (m : Nat) : List Nat :=
  if m = 4 ∨ m = 8 ∨ m = 9 then [4, 5, 6, 7] else if m = 6 ∨ m = 7 then [1] else List.range 8
/-- A curve is allowed in a mode (Table 04-3). -/
def modeCurve (m c : Nat) : Bool :=
  decide (c = 0) ||
    (if m = 1 ∨ m = 2 ∨ m = 3 then decide (c ≤ 4) || (decide (16 ≤ c) && decide (c ≤ 24))
     else if m = 4 then decide (8 ≤ c) && decide (c ≤ 15)
     else decide (16 ≤ c) && decide (c ≤ 24))
/-- Excitation of a code in V (Table 04-4). -/
def excVolts (v : Nat) : Q := [Q.frac 1 10, Q.frac 1 4, Q.frac 1 2, Q.one, Q.ofNat 2, Q.frac 5 2].getD v Q.zero
/-- Rnom of the platinum curves in Ω; 0 for the others (Table 04-5). -/
def curveRnom (c : Nat) : Nat := [0, 100, 200, 500, 1000].getD c 0

def State.scRev (s : State) (ch : Nat) : Bool := s.fb (P.SC ch) R.SC_EXC_rev
/-- N × p (R133, R134). -/
def State.scNeed (s : State) (ch : Nat) : Nat := 2 ^ s.fv (P.SC ch) R.SC_FILT_avg * (if s.scRev ch then 2 else 1)
/-- The settling time and the stale tolerance in effect, in steps (R134). -/
def State.scSettleTime (s : State) (ch : Nat) : Nat := (s.scNeed ch + 1) * s.cvCycle (ch / 4)
def State.scTol (s : State) (ch : Nat) : Nat :=
  Nat.max (msecs (s.fv (P.SC ch) R.SC_STALE_tol)) ((s.scNeed ch + 2) * s.cvCycle (ch / 4))

/-! ### Quality (R126, R136, R141) -/

def State.scLive (s : State) (ch : Nat) : Nat := s.fv (P.SC ch) R.SC_LIVE_live

/-- The quality of a channel by its own state (R106, R136, R140, R155). -/
def State.scOwnQuality (s : State) (ch : Nat) : Nat :=
  if s.scMode ch = 0 ∨ s.scLive ch ≠ 0 ∨ (s.sc ch).off then 3
  else if (s.sc ch).held then 2
  else if s.fb (P.SC ch) R.SC_STAT_settling then 1
  else 0

/-- The quality of a channel: a TC channel takes the worse of its own and its cold junction's (R126), the partner of a BRIDGE6 channel
the bridge's (R120). The fuel bounds a chain of cold junctions. -/
def State.scQualityGo (s : State) : Nat → Nat → Nat
  | 0, _ => 0
  | fuel + 1, ch =>
    let ch := if s.scPartnered ch then ch - 1 else ch
    let own := s.scOwnQuality ch
    if s.scMode ch ≠ 4 ∨ own = 3 then own
    else
      let src := s.fv (P.SC ch) R.SC_CURVE_cj_src
      if src = 0 then Nat.max own (s.srcQuality 0x35)
      else if src = 1 then Nat.max own (s.scQualityGo fuel (s.fv (P.SC ch) R.SC_CURVE_cj_ch))
      else own

def State.scQuality (s : State) (ch : Nat) : Nat := s.scQualityGo 33 ch

/-- Show a channel's quality in its page and its point (R141); becoming GOOD is an event. -/
def State.scShowOne (s : State) (ch : Nat) : State :=
  let q := s.scQuality ch
  let old := s.fv (P.SC ch) R.SC_STAT_quality
  let s := (s.setFv (P.SC ch) R.SC_STAT_quality q).setFv (P.SC ch) R.SC_LIVE_quality q
  let s := s.irqIf (decide (q = 0) && decide (old ≠ 0)) (P.SC ch) 2
  s.sourceQuality ch q

/-- Show a channel, its partner, and the TC channels whose cold junction may have changed with it. -/
def State.scShow (s : State) (ch : Nat) : State :=
  let s := s.scShowOne ch
  let s := if s.scPartnered (ch + 1) then s.scShowOne (ch + 1) else s
  ((List.range 32).filter (fun x => decide (s.scMode x = 4) && decide (x ≠ ch) && decide (s.scQuality x ≠ s.fv (P.SC x) R.SC_STAT_quality))).foldl
    (fun (s : State) x => s.scShowOne x) s

/-- A new value of a channel, with its quality (R136 step 4); the partner's point carries the sensed excitation (R120). -/
def State.scPut (s : State) (ch : Nat) (v : Word) : State :=
  let s := s.sourceWrite ch v (s.scQuality ch) 1 s.now
  let s := if s.scPartnered (ch + 1) then s.sourceWrite (ch + 1) (toB32 (s.sc ch).exc) (s.scQuality ch) 1 s.now else s
  s.scShow ch

/-! ### Settling (R132, R136) -/

/-- The post-filter is emptied and refills (R136 steps 1 and 2). -/
def State.scSettle (s : State) (ch : Nat) : State :=
  if s.scMode ch = 0 then s
  else
    let s := s.setSc ch { s.sc ch with filt := [], pair := none, pairLow := false, down := 0, first := none }
    (s.setFv (P.SC ch) R.SC_STAT_settling 1).setFv (P.SC ch) R.SC_STAT_left (s.scNeed ch)

/-! ### Faults (R140, Table 04-8) -/

/-- The faults that discard a slot's result: all but curve, which is judged after the post-filter, and stale, which a new result
clears. -/
def scBlocking : Nat := 0x1DDF

/-- Judge the faults of `mask`: `bits` hold now (R140). A newly set bit of SC_FAULT is an event, one that the host cleared while its fault
holds is set again at the next slot that judges it (DESIGN CHOICE, log 68); when the last fault that discards results clears, the channel
settles. -/
def State.scFaults (s : State) (ch mask bits : Nat) : State :=
  let old := s.scLive ch
  let new := (old - (old &&& mask)) ||| (bits &&& mask)
  let held := s.fv (P.SC ch) R.SC_FAULT_faults
  let s := (s.setFv (P.SC ch) R.SC_LIVE_live new).setFv (P.SC ch) R.SC_FAULT_faults (held ||| new)
  let fresh := decide ((held ||| new) ≠ held)
  let s := (s.irqIf fresh (P.SC ch) 0).irqIf fresh P.SAC 0
  if old &&& scBlocking ≠ 0 ∧ new &&& scBlocking = 0 then s.scSettle ch else s

/-! ### Slots and cycles (R106, R107, R109) -/

/-- A lead slot of the channel is due (R115, R117). DESIGN CHOICE (log 127): while no lead has been measured yet, one is due in every cycle. -/
def State.leadDue (s : State) (ch : Nat) : Bool :=
  leadMode (s.scMode ch) &&
    (decide ((s.sc ch).leads = []) || bitAt (s.scLive ch) 4 || decide (s.fv (P.SC ch) R.SC_LEAD_every ≤ (s.sc ch).sinceLead))

/-- An excitation test slot of the channel is due in the present cycle (R109, R139). -/
def State.testDue (s : State) (ch : Nat) : Bool :=
  decide ((s.sc ch).test = 2) || (match (s.sc ch).testDue with | some t => decide (t ≤ s.now) | none => false)

/-- A slot starts. With reversal the polarity turns at every measurement slot (R119), the first one non-reversed (DESIGN CHOICE, log 127). A
flip asked for takes place in this measurement slot and is an excitation change (R135). -/
def State.startSlot (s : State) (k kind ch start : Nat) : State :=
  let flip := decide (kind = 4) && (s.sc ch).flip
  let s := if flip then ((s.setSc ch { s.sc ch with flip := false }).scSettle ch).scShow ch else s
  let c := s.sc ch
  let sched := decide (kind = 4) && s.scRev ch
  let rev := decide (kind = 4) && ((sched && c.turn) != flip)
  let s := if sched then s.setSc ch { c with turn := !c.turn } else s
  s.setCv k { s.cv k with slot := some { kind := kind, ch := ch % 4, second := false, rev := rev, start := start } }

/-- A new scan cycle (R109): the tests asked for are placed in it. With every channel OFF one check slot runs. -/
def State.newCycle (s : State) (k : Nat) : State :=
  let s := (cvChannels k).foldl (fun (s : State) ch => if (s.sc ch).test = 1 then s.setSc ch { s.sc ch with test := 2 } else s) s
  match (cvChannels k).find? s.scActive with
  | some ch => s.startSlot k (if s.leadDue ch then 5 else 4) ch s.now
  | none => s.startSlot k 7 0 s.now

/-- The slots of the channels from `c` on; after the last, every 8th cycle ends with a check slot. A converter that is enabled again, or that
resumes after a calibration, goes on with its count of cycles: DESIGN CHOICE (log 64). -/
def State.slotsFrom (s : State) (k c : Nat) : State :=
  match (cvChannels k).find? (fun ch => decide (c ≤ ch) && s.scActive ch) with
  | some ch => s.startSlot k (if s.leadDue ch then 5 else 4) ch s.now
  | none =>
    let n := (s.cv k).cycles + 1
    let s := s.setCv k { s.cv k with cycles := n }
    if n % 8 = 0 then s.startSlot k 7 0 s.now else s.newCycle k

/-- The slot that follows the present one. -/
def State.nextSlot (s : State) (k : Nat) : State :=
  match (s.cv k).slot with
  | none => s
  | some x =>
    let ch := 4 * k + x.ch
    if x.kind = 7 then
      (if (cvChannels k).any s.scActive then s.newCycle k else s.startSlot k 7 0 (s.now + 7 * 16777216 / s.cvHz k))
    else if x.kind = 5 ∧ s.scActive ch then s.startSlot k 4 ch s.now
    else if x.kind = 4 ∧ !x.second ∧ s.scMode ch = 9 then s.setCv k { s.cv k with slot := some { x with second := true, start := s.now } }
    else if x.kind = 4 ∧ s.scActive ch ∧ s.testDue ch then s.startSlot k 6 ch s.now
    else s.slotsFrom k (ch + 1)

/-- The present slot is abandoned (R106, R136): the next one starts at once. -/
def State.abandonSlot (s : State) (k : Nat) : State :=
  if (s.cv k).slot.isSome then (s.satInc (P.CV k) R.CV_DISC_disc 1).nextSlot k else s

/-- Abandon the slot in progress if it is the channel's. -/
def State.abandonOf (s : State) (ch : Nat) : State :=
  match (s.cv (ch / 4)).slot with
  | some x => if x.kind ≠ 7 ∧ x.ch = ch % 4 then s.abandonSlot (ch / 4) else s
  | none => s

/-- An excitation change (R136). -/
def State.excChange (s : State) (ch : Nat) : State := ((s.abandonOf ch).scSettle ch).scShow ch

/-- The range in use changes (R132): the post-filter refills. -/
def State.rangeChange (s : State) (ch r : Nat) : State :=
  (((s.setFv (P.SC ch) R.SC_STAT_range r).irq (P.SC ch) 1).scSettle ch).scShow ch

/-! ### Curves (R127–R129; the functions themselves in Curves.lean) -/

/-- The breakpoints of the active copy of user table `u` (R129). -/
def State.userTable (s : State) (u : Nat) : List (Word × Word) :=
  let n := [R.SAC_UT_N0_n0, R.SAC_UT_N0_n1, R.SAC_UT_N0_n2, R.SAC_UT_N0_n3, R.SAC_UT_N1_n4, R.SAC_UT_N1_n5, R.SAC_UT_N1_n6, R.SAC_UT_N1_n7].getD u R.SAC_UT_N0_n0
  (List.range (s.fv P.SAC n)).map (fun i =>
    (word (s.rdLe (0x00301000 + u * 0x200 + 8 * i) 4), word (s.rdLe (0x00301004 + u * 0x200 + 8 * i) 4)))

/-- Linear interpolation between breakpoints. -/
def interpolate (x : Q) : List (Word × Word) → Q
  | (x0, y0) :: (x1, y1) :: l =>
    if Q.le x (ofB32 x1) ∨ l = [] then
      Q.add (ofB32 y0) (Q.div (Q.mul (Q.sub x (ofB32 x0)) (Q.sub (ofB32 y1) (ofB32 y0))) (Q.sub (ofB32 x1) (ofB32 x0)))
    else interpolate x ((x1, y1) :: l)
  | _ => Q.zero

/-- The temperature of a TC channel's cold junction (R126). -/
def State.coldJunction (s : State) (ch : Nat) : Q :=
  let src := s.fv (P.SC ch) R.SC_CURVE_cj_src
  ofB32 (if src = 0 then s.value 0x35 else if src = 1 then s.value (s.fv (P.SC ch) R.SC_CURVE_cj_ch) else s.fw (P.SC ch) R.SC_CJ_FIX_t_cj)

/-- The engineering value of a post-filtered raw quantity and whether it lies outside the curve's domain (R127): then the value at the
nearest end, or none for a user table without breakpoints. -/
def State.curveValue (s : State) (ch : Nat) (raw : Q) : Option Word × Bool :=
  let c := s.fv (P.SC ch) R.SC_CURVE_curve
  if c = 0 then (some (toB32 raw), false)
  else if c ≤ 4 then
    let r := Q.div raw (Q.ofNat (curveRnom c))
    if Q.lt r (Q.make (ptRatio (-200 * 2 ^ 24)) (10 ^ 16 * 2 ^ 96)) then (some (toB32 (Q.ofInt (-200))), true)
    else if Q.lt (Q.make (ptRatio (850 * 2 ^ 24)) (10 ^ 16 * 2 ^ 96)) r then (some (toB32 (Q.ofInt 850)), true)
    else (some (toB32 (ptTemp c r)), false)
  else if c ≤ 15 then
    let v := Q.add raw (tcVolts c (s.coldJunction ch))
    let (lo, hi) := tcDomain c
    if Q.lt v (tcVolts c (Q.ofInt lo)) then (some (toB32 (Q.ofInt lo)), true)
    else if Q.lt (tcVolts c (Q.ofInt hi)) v then (some (toB32 (Q.ofInt hi)), true)
    else (some (toB32 (tcTemp c v)), false)
  else if c ≤ 23 then
    match s.userTable (c - 16) with
    | [] => (none, true)
    | (x0, y0) :: l =>
      let last := l.getLastD (x0, y0)
      if Q.lt raw (ofB32 x0) then (some y0, true)
      else if Q.lt (ofB32 last.1) raw then (some last.2, true)
      else (some (toB32 (interpolate raw ((x0, y0) :: l))), false)
  else
    let f (g : Field) := ofB32 (s.fw (P.SC ch) g)
    let x0 := f R.SC_SCALE_X0_x0
    let y0 := f R.SC_SCALE_Y0_y0
    (some (toB32 (Q.add y0 (Q.div (Q.mul (Q.sub raw x0) (Q.sub (f R.SC_SCALE_Y1_y1) y0)) (Q.sub (f R.SC_SCALE_X1_x1) x0)))), false)

/-! ### What a slot measures (R113–R126) -/

/-- The running record of a converter (R159): its constants in force lie at its start, the offset in V and the gains of the ranges in ppm
from nominal, each a binary32 (a layout the spec does not print: DESIGN CHOICE, log 71). -/
def runningRecord (k : Nat) : Nat := 0x00311000 + k * 0x400
def State.cvOffset (s : State) (k : Nat) : Q := ofB32 (word (s.rdLe (runningRecord k) 4))
def State.cvGain (s : State) (k r : Nat) : Q := ofB32 (word (s.rdLe (runningRecord k + 4 + 4 * r) 4))

/-- A reading of a converter on a range with its constants applied (R147, R149), in V. -/
def State.cvVolts (s : State) (k r : Nat) (v : Q) : Q :=
  Q.div (Q.sub v (s.cvOffset k)) (Q.add Q.one (Q.mul (s.cvGain k r) (Q.frac 1 1000000)))

/-- A calibration element of a converter at a temperature (R143): its value in the factory record, 16 bytes an element (0 Rref2, 1 Rref20,
2 Rchk, 3–6 the shunts of its channels, 7 VREFA, 8 VREFB): value, coefficient in ppm/K and the temperature that they hold for, each a
binary32 (log 71). -/
def State.element (s : State) (k e : Nat) (temp : Q) : Q :=
  let f (i : Nat) : Q := ofB32 (word (s.rdLe (0x00310000 + k * 0x100 + 16 * e + 4 * i) 4))
  Q.mul (f 0) (Q.add Q.one (Q.mul (Q.mul (f 1) (Q.sub temp (f 2))) (Q.frac 1 1000000)))

/-- Rref of a channel, calibrated and corrected (R113, R143). -/
def State.scRref (s : State) (ch : Nat) (temp : Q) : Q := s.element (ch / 4) (s.fv (P.SC ch) R.SC_EXC_rref) temp
/-- The shunt of a channel (R121, R143). -/
def State.scShunt (s : State) (ch : Nat) (temp : Q) : Q := s.element (ch / 4) (3 + ch % 4) temp

/-- The limiter of SEXC acts: on every current above 32 mA, on none of 25 mA or less, between them as the part does (R118). The 30 mA
limiter of a CUR_LOOP supply has no stated tolerance and acts as the part does (R121). -/
def limiterActs (mode : Nat) (m : SlotInput) : Bool :=
  if mode = 6 then m.limited else Q.lt (Q.frac 32 1000) (Q.abs m.iexc) || (Q.lt (Q.frac 25 1000) (Q.abs m.iexc) && m.limited)

/-- What a slot measures, as the node takes it: its constants applied, the sign of a reversed excitation taken off, SINN of a floating
thermocouple held at 1.25 V by the bias (R125), the limiter judged. -/
def State.slotSeen (s : State) (ch : Nat) (rev : Bool) (m : SlotInput) : SlotInput :=
  let k := ch / 4
  let sign (q : Q) : Q := if rev then Q.neg q else q
  let vm := sign (s.cvVolts k (s.fv (P.SC ch) R.SC_STAT_range) m.vm)
  let bias := decide (s.scMode ch = 4) && s.fb (P.SC ch) R.SC_MODE_bias && m.floating
  { m with
    vm := vm
    vr := sign (s.cvVolts k m.vrange.val m.vr)
    sinp := if bias then Q.add (Q.frac 5 4) vm else m.sinp
    sinn := if bias then Q.frac 5 4 else m.sinn
    limited := limiterActs (s.scMode ch) m }

/-- The mean of the lead measurements in use (R115); before the first one it is 0 (DESIGN CHOICE, log 66). -/
def meanQ (l : List Q) : Q := if l = [] then Q.zero else Q.div (l.foldl Q.add Q.zero) (Q.ofNat l.length)

/-- The raw quantity of a slot (R113, R114, R120, R121). -/
def State.scRaw (s : State) (ch : Nat) (m : SlotInput) : Q :=
  let mode := s.scMode ch
  if mode ≤ 3 then
    let rm := Q.div (Q.mul (s.scRref ch m.temp) m.vm) m.vr
    if mode = 1 then Q.sub rm (ofB32 (s.fw (P.SC ch) R.SC_RLEAD_r2w)) else if mode = 2 then Q.sub rm (meanQ (s.sc ch).leads) else rm
  else if mode ≤ 5 then m.vm
  else if mode ≤ 7 then Q.div (Q.mul m.vm (Q.ofNat 1000)) (s.scShunt ch m.temp)
  else Q.div (Q.mul m.vm (Q.ofNat 1000)) m.vr

/-- V_r at the limit of the open fault (Table 04-8): 2 % of its value at the set excitation through Rnom (0 Ω for the other curves),
the routing switches' 10.0 Ω and Rref. -/
def State.openLimit (s : State) (ch : Nat) : Q :=
  let rref : Nat := if s.fb (P.SC ch) R.SC_EXC_rref then 20000 else 2000
  Q.mul (excVolts (s.fv (P.SC ch) R.SC_EXC_vexc)) (Q.frac (2 * rref) (100 * (curveRnom (s.fv (P.SC ch) R.SC_CURVE_curve) + 10 + rref)))

/-- SINP or SINN outside the common-mode window (Table 04-8 bit 2). -/
def cmFault (mode : Nat) (m : SlotInput) : Bool :=
  let out (v : Q) : Bool := Q.lt v (Q.frac 1 20) || Q.lt (Q.frac 12 5) v
  decide (mode ≠ 6) && decide (mode ≠ 7) && (out m.sinp || out m.sinn)

/-- The cold junction of a TC channel is BAD (R126). -/
def State.cjFault (s : State) (ch : Nat) : Bool :=
  let src := s.fv (P.SC ch) R.SC_CURVE_cj_src
  decide (s.scMode ch = 4) &&
    ((decide (src = 0) && decide (s.srcQuality 0x35 = 3)) ||
      (decide (src = 1) && decide (s.scQuality (s.fv (P.SC ch) R.SC_CURVE_cj_ch) = 3)))

/-- The faults that every slot of a channel judges, whatever it measures (Table 04-8): cm, supply, cj. -/
def State.commonFaults (s : State) (ch : Nat) (m : SlotInput) : Nat :=
  let mode := s.scMode ch
  flagBit (cmFault mode m) 2 + flagBit (decide (mode = 6) && (Q.lt m.vsx (Q.ofNat 21) || m.limited)) 7 + flagBit (s.cjFault ch) 11
def commonMask : Nat := 0x884

/-- The sensed bridge excitation or its current is too low (Table 04-8 bits 0 and 1). -/
def bridgeOpen (mode : Nat) (m : SlotInput) : Bool := decide (8 ≤ mode) && Q.lt (Q.abs m.iexc) (Q.frac 1 20000)
def State.bridgeShort (s : State) (ch : Nat) (m : SlotInput) : Bool :=
  decide (8 ≤ s.scMode ch) && Q.lt m.vr (Q.mul (excVolts (s.fv (P.SC ch) R.SC_EXC_vexc)) (Q.frac 1 2))

/-- The faults of a measurement slot's own quantities, but for over (Table 04-8): open, short, ne43. With V_r = 0 there is no Rx to judge. -/
def State.slotFaults (s : State) (ch : Nat) (m : SlotInput) : Nat :=
  let mode := s.scMode ch
  let rnom := curveRnom (s.fv (P.SC ch) R.SC_CURVE_curve)
  let raw := s.scRaw ch m
  let isOpen := bridgeOpen mode m || (decide (mode ≤ 3) && Q.lt m.vr (s.openLimit ch))
  let low := decide (mode ≤ 3) && decide (m.vr.num ≠ 0) && Q.lt raw (if rnom = 0 then Q.one else Q.frac rnom 20)
  let isShort := (decide (mode ≤ 3) || decide (8 ≤ mode)) && m.limited || low || (decide (mode = 8) && s.bridgeShort ch m)
  let ne43 : Bool :=
    (decide (mode = 6) || decide (mode = 7)) && s.fb (P.SC ch) R.SC_MODE_ne43 && (Q.lt raw (Q.frac 18 5) || Q.lt (Q.ofNat 21) raw)
  flagBit isOpen 0 + flagBit isShort 1 + flagBit ne43 6

/-- The faults that the slots judge beside the common ones: open in TC mode only in the test slot; short of BRIDGE6 with the partner's slot,
which ends the result, and in the own slot where the limiter acts in it (R118). -/
def slotMask (mode : Nat) (limited : Bool) : Nat := if mode = 4 then 0x42 else if mode = 9 ∧ !limited then 0x41 else 0x43

/-- The range that a result moves the channel to (R131), the count of results below 40 %, and whether it is beyond FS. Results with
autorange = 0 and results that a fault then discards count and move the range too: DESIGN CHOICE (log 67). -/
def State.autorange (s : State) (ch : Nat) (vm : Q) : Nat × ScCh × Bool :=
  let c := s.sc ch
  let r := s.fv (P.SC ch) R.SC_STAT_range
  let ok := modeRanges (s.scMode ch)
  let a := Q.abs vm
  let beyond := Q.lt (rangeFs r) a
  let low := Q.lt a (Q.mul (rangeFs r) (Q.frac 2 5))
  let c := if s.scRev ch && c.pair.isNone then { c with pairLow := low }
    else { c with down := if low && (!s.scRev ch || c.pairLow) then c.down + 1 else 0 }
  if !s.fb (P.SC ch) R.SC_MODE_autorange then (r, c, beyond)
  else
    let top := ok.headD r
    let new :=
      if beyond then top
      else if Q.le (Q.mul (rangeFs r) (Q.frac 19 20)) a then ((ok.filter (fun x => Q.le a (Q.mul (rangeFs x) (Q.frac 1 2)))).getLastD top)
      else if s.fv (P.SC ch) R.SC_AR_down_n ≤ c.down ∧ r + 1 ∈ ok then r + 1
      else r
    (new, c, beyond && decide (r = top))

/-- A result enters the post-filter (R133); when it is full the value is computed and written (R136 step 4, R140). -/
def State.scEnter (s : State) (ch : Nat) (raw : Q) : State :=
  let c := s.sc ch
  let s := s.setSc ch { c with filt := (c.filt ++ [raw]).drop (c.filt.length - 63) }
  if s.fb (P.SC ch) R.SC_STAT_settling && decide (s.fv (P.SC ch) R.SC_STAT_left ≠ 0) then s.scShow ch
  else
    let s := s.setFv (P.SC ch) R.SC_STAT_settling 0
    let f := (s.sc ch).filt
    let mean := meanQ (f.drop (f.length - 2 ^ s.fv (P.SC ch) R.SC_FILT_avg))
    let s := s.setFv (P.SC ch) R.SC_RAW_raw (toB32 mean).toNat
    let (v, out) := s.curveValue ch mean
    let s := if out then s.scFaults ch 0x20 0x20 else s.scFaults ch 0x220 0
    let s := if out then s
      else (s.setStamp (P.SC ch) R.SC_T_LO_t R.SC_T_HI_t s.now).setSc ch { s.sc ch with staleFrom := some s.now }
    match v with
    | some w => s.scPut ch w
    | none => s.scShow ch

/-- The converter temperature is read: it differs from CV_CAL_TEMP by more than dt_trig (R152). -/
def State.tempTriggers (s : State) (k : Nat) (temp : Q) : Bool :=
  Q.lt (Q.frac (s.fv P.SAC R.SAC_CAL_CFG_dt_trig) 10) (Q.abs (Q.sub temp (ofB32 (s.fw (P.CV k) R.CV_CAL_TEMP_temp))))

/-- A calibration that is due waits, or is held (R153, R154). -/
def State.dueShow (s : State) (k : Nat) : State :=
  if (s.cv k).dueAt.isSome && (s.cv k).cal.isNone then
    s.setFv (P.CV k) R.CV_CAL_STAT_state (if s.fb P.SAC R.SAC_CAL_CTRL_hold then 3 else 1)
  else s

/-- A calibration falls due (R152, R154); one that is due stays due when its bit of auto is cleared: DESIGN CHOICE (log 128). -/
def State.calFallsDue (s : State) (k trigger : Nat) : State :=
  if (s.cv k).dueAt.isSome || (s.cv k).cal.isSome || !bitAt (s.fv P.SAC R.SAC_CAL_CFG_auto) k then s
  else
    (s.setCv k { s.cv k with dueAt := some s.now, dueTrig := trigger }).dueShow k

/-- The converter's temperature in a slot (R143, R152). -/
def State.cvTemp (s : State) (k : Nat) (temp : Q) : State :=
  let s := s.setFv (P.CV k) R.CV_CTEMP_temp_now (toB32 temp).toNat
  if s.tempTriggers k temp then s.calFallsDue k 1 else s

/-- A slot completes: counted, VSX and the converter's fault shown (Tables 04-9, 04-10). -/
def State.slotDone (s : State) (k : Nat) : State := s.wrapInc (P.CV k) R.CV_CNT_count 1

def State.cvFault (s : State) (k : Nat) (bad : Bool) : State :=
  let was := (s.cv k).fault
  (s.setCv k { s.cv k with fault := bad }).irqIf (bad && !was) (P.CV k) 0

/-- Bit 10, avdd, clears after AVDD has been valid for the channel's settling time (Table 04-8). -/
def State.scAvdd (s : State) (ch : Nat) : State :=
  if bitAt (s.scLive ch) 10 && !s.avddLately (s.scSettleTime ch) then s.scFaults ch 0x400 0 else s

/-- The converter runs the given slot: its domain is powered, its bit set, no calibration or link test at work. -/
def State.inSlot (s : State) (k kind ch : Nat) : Option CvSlot :=
  (s.cv k).slot.filter (fun x => s.domainOn 3 && (s.cv k).cal.isNone && !s.linkOn 7 k &&
    decide (x.kind = kind) && (decide (kind = 7) || decide (x.ch = ch % 4)) && decide (x.start + 16777216 / s.cvHz k ≤ s.now))

/-- VSX as the converters see it (Table 04-9). -/
def State.sacVsx (s : State) (vsx : Q) : State := s.setFb P.SAC R.SAC_STAT_vsx_ok (Q.le (Q.ofNat 21) vsx)

/-- What every slot of a channel shows and judges, whatever it measures: VSX, the converter's fault and temperature, the common mode, AVDD,
the common faults (R140). In CUR_LOOP and CUR_EXT, where SINN is open, SC_VCM keeps its value: DESIGN CHOICE (log 127). -/
def State.slotShared (s : State) (ch : Nat) (m : SlotInput) : State :=
  let k := ch / 4
  let mode := s.scMode ch
  let s := (((s.slotDone k).sacVsx m.vsx).cvFault k m.overload).cvTemp k m.temp
  let s := if mode = 6 ∨ mode = 7 then s
    else s.setFv (P.SC ch) R.SC_VCM_vcm (toB32 (Q.mul (Q.add m.sinp m.sinn) (Q.frac 1 2))).toNat
  let s := s.scAvdd ch
  let s := if s.scPartnered (ch + 1) then s.scAvdd (ch + 1) else s
  s.scFaults ch commonMask (s.commonFaults ch m)

/-- A result that a fault discards (R117, R140): it counts as a result, and ends its reversal pair. -/
def State.scDiscard (s : State) (ch : Nat) : State :=
  (s.setSc ch { s.sc ch with pair := none, first := none, sinceLead := (s.sc ch).sinceLead + 1 }).scShow ch

/-- A result without a fault: the first slot of a reversal pair waits for the second (R119), else it enters the post-filter (R133). -/
def State.scResult (s : State) (ch : Nat) (raw : Q) : State :=
  let s := s.setFv (P.SC ch) R.SC_STAT_left (s.fv (P.SC ch) R.SC_STAT_left - 1)
  let c := { s.sc ch with first := none }
  if !s.scRev ch then (s.setSc ch { c with sinceLead := c.sinceLead + 1 }).scEnter ch raw
  else
    match c.pair with
    | none => (s.setSc ch { c with pair := some raw }).scShow ch
    | some r0 =>
      (s.setSc ch { c with pair := none, sinceLead := c.sinceLead + 1 }).scEnter ch (Q.mul (Q.add r0 raw) (Q.frac 1 2))

/-- The result of a measurement slot (R131, R132, R140): its faults are judged; a range change or a fault discards it; else it enters, or
in BRIDGE6 waits for the partner's slot. -/
def State.scMeasure (s : State) (ch : Nat) (m : SlotInput) : State :=
  let mode := s.scMode ch
  let s := if mode = 8 then s.setSc ch { s.sc ch with exc := m.vr } else s.setSc ch { s.sc ch with firstShort := m.limited }
  let (r, c, beyond) := s.autorange ch m.vm
  let s := (s.setSc ch c).scFaults ch (slotMask mode m.limited ||| 8) (s.slotFaults ch m ||| flagBit beyond 3)
  if r ≠ s.fv (P.SC ch) R.SC_STAT_range then
    (s.setSc ch { s.sc ch with sinceLead := (s.sc ch).sinceLead + 1 }).rangeChange ch r
  else if s.scLive ch &&& scBlocking ≠ 0 then s.scDiscard ch
  else if mode = 9 then (s.setSc ch { s.sc ch with first := some m.vm }).scShow ch
  else s.scResult ch (s.scRaw ch m)

/-- The partner's slot of a BRIDGE6 channel (R109, R120): the voltage on the sense lines, against which the bridge output of the channel's
own slot is taken (which slot reads which is DEDUCED from R120, log 65). -/
def State.scSense (s : State) (ch : Nat) (m : SlotInput) : State :=
  let s := s.setSc ch { s.sc ch with exc := m.vr }
  let s := s.scFaults ch 3 (flagBit (bridgeOpen 9 m) 0 + flagBit (m.limited || (s.sc ch).firstShort || s.bridgeShort ch m) 1)
  match (s.sc ch).first with
  | none => s.scShow ch
  | some vm =>
    if s.scLive ch &&& scBlocking ≠ 0 then s.scDiscard ch else s.scResult ch (s.scRaw ch { m with vm := vm })

/-- MEASUREMENT_SLOT (R107): the converter's slot ends with a result. -/
def execMeasurementSlot (t : Nat) (ch : Fin 32) (m : SlotInput) (s : State) : Host.Outcome State Fault Refusal :=
  let s := s.at t
  let k := ch.val / 4
  match s.inSlot k 4 ch.val with
  | none => .next s
  | some x =>
    let m := s.slotSeen ch.val x.rev m
    let s := s.slotShared ch.val m
    .next ((if x.second then s.scSense ch.val m else s.scMeasure ch.val m).nextSlot k)

/-- The lead slot's result (R115–R117): V_r below the open limit yields no lead measurement, and a fault discards it (R140), but for lead
itself, which only a lead measurement clears. -/
def State.scLead (s : State) (ch : Nat) (vl : Q) (m : SlotInput) : State :=
  let s := s.setSc ch { s.sc ch with sinceLead := 0 }
  let isOpen := Q.lt m.vr (s.openLimit ch)
  let s := s.scFaults ch 1 (flagBit isOpen 0)
  let s := if m.limited then s.scFaults ch 2 2 else s
  if isOpen || m.limited || decide (s.scLive ch &&& scBlocking &&& 0x1FEF ≠ 0) then s.scShow ch
  else
    let rl := Q.div (Q.mul (s.scRref ch m.temp) vl) m.vr
    let c := s.sc ch
    let s := s.setSc ch { c with leads := (c.leads ++ [rl]).drop (c.leads.length - 3) }
    let s := s.setFv (P.SC ch) R.SC_LEADM_lead (toB32 (meanQ (s.sc ch).leads)).toNat
    (s.scFaults ch 16 (if Q.lt (Q.ofNat (s.fv (P.SC ch) R.SC_LEAD_lead_max)) rl then 16 else 0)).scShow ch

/-- LEAD_SLOT (R115): `vl` is the voltage from the SEXC ball to SINP, read at the range in use. -/
def execLeadSlot (t : Nat) (ch : Fin 32) (vl : Q) (m : SlotInput) (s : State) : Host.Outcome State Fault Refusal :=
  let s := s.at t
  let k := ch.val / 4
  match s.inSlot k 5 ch.val with
  | none => .next s
  | some _ =>
    let vl := s.cvVolts k (s.fv (P.SC ch.val) R.SC_STAT_range) vl
    let m := s.slotSeen ch.val false m
    .next (((s.slotShared ch.val m).scLead ch.val vl m).nextSlot k)

/-- The excitation test (R125, Table 04-8 bits 0 and 8): V_m is taken with the excitation off, `sexc` is the voltage from SEXC to
SRETk, `dvm` the change of V_m under 1 µA. It is an excitation change (R135). -/
def State.scTested (s : State) (ch : Nat) (sexc dvm : Q) (m : SlotInput) : State :=
  let ts := s.fv (P.SC ch) R.SC_DIAG_test_s
  let s := s.setSc ch { s.sc ch with test := 0, testDue := if ts = 0 then none else some (s.now + secs ts) }
  let mode := s.scMode ch
  let set := excVolts (s.fv (P.SC ch) R.SC_EXC_vexc)
  let fs := rangeFs (s.fv (P.SC ch) R.SC_STAT_range)
  let s := if (mode ≤ 3 ∨ 8 ≤ mode) ∧ m.limited then s.scFaults ch 2 2 else s
  let s :=
    if mode = 4 then
      s.scFaults ch 1 (if Q.lt (Q.frac 1 100) (Q.abs dvm) then 1 else 0)
    else
      let off := Q.lt (Q.mul fs (Q.frac 1 200)) (Q.abs m.vm)
      let exc := Q.lt (Q.mul set (Q.frac 1 50)) (Q.abs (Q.sub sexc set))
      s.scFaults ch 0x100 (if off || exc then 0x100 else 0)
  (s.scSettle ch).scShow ch

/-- EXCITATION_TEST_SLOT (R125). -/
def execExcitationTestSlot (t : Nat) (ch : Fin 32) (sexc dvm : Q) (m : SlotInput) (s : State) : Host.Outcome State Fault Refusal :=
  let s := s.at t
  let k := ch.val / 4
  match s.inSlot k 6 ch.val with
  | none => .next s
  | some _ =>
    let m := s.slotSeen ch.val false m
    .next (((s.slotShared ch.val m).scTested ch.val sexc dvm m).nextSlot k)

/-- Point 0x0035 and SAC_TERM (R145): a reading by converter 0 or 4 is GOOD; while neither runs, or diagnostic 4 fails on the one that
took the latest reading, the last value stands with BAD. -/
def State.termShow (s : State) : State :=
  let runs (k : Nat) : Bool := s.domainOn 3 && bitAt (s.fv P.SAC R.SAC_CTRL_cv_en) k
  let bad := (!runs 0 && !runs 4) || (match s.sac.termBy with | some k => bitAt s.saf.conv4 k | none => true)
  if bad && decide (s.srcQuality 0x35 ≠ 3) then
    let s := s.sourceQuality 0x35 3
    if !s.domainOn 3 then s
    else ((List.range 32).filter (fun x => decide (s.scMode x = 4))).foldl (fun (s : State) x => s.scShow x) s
  else s

/-- A reading of the terminal sensor; one by a converter on which diagnostic 4 fails leaves the last value, BAD. -/
def State.termRead (s : State) (k : Nat) (term : Q) : State :=
  let s := { s with sac := { s.sac with termBy := some k } }
  let s := if bitAt s.saf.conv4 k then s.termShow
    else (s.setFv P.SAC R.SAC_TERM_t_term (toB32 term).toNat).sourceWrite 0x35 (toB32 term) 0 3 s.now
  ((List.range 32).filter (fun x => decide (s.scMode x = 4))).foldl (fun (s : State) x => s.scShow x) s

/-- SUPERVISOR_CHECK_SLOT (R109, R145, R462): the check of diagnostic 4, and on converters 0 and 4 the terminal sensor. -/
def execSupervisorCheckSlot (t : Nat) (k : Fin 8) (safref term temp : Q) (s : State) : Host.Outcome State Fault Refusal :=
  let s := s.at t
  if (s.inSlot k.val 7 0).isNone then .next s
  else
    let s := (s.slotDone k.val).cvTemp k.val temp
    let fails := Q.lt (Q.frac 200 1000000) (Q.abs (Q.sub safref Q.one))
    let n := s.saf.checkFails.getD k.val 0
    let p := s.saf.checkPasses.getD k.val 0
    let s := { s with saf := { s.saf with
      checkFails := s.saf.checkFails.set k.val (if fails then n + 1 else 0)
      checkPasses := s.saf.checkPasses.set k.val (if fails then 0 else p + 1) } }
    let s := if k.val = 0 ∨ k.val = 4 then s.termRead k.val term else s
    .next (s.nextSlot k.val)

/-- STALE_FAULT (R137): the stale tolerance has passed since the last valid result while the channel settles. -/
def execStaleFault (t : Nat) (ch : Fin 32) (s : State) : Host.Outcome State Fault Refusal :=
  let s := s.at t
  let c := s.sc ch.val
  let due := match c.staleFrom with | some t0 => decide (t0 + s.scTol ch.val ≤ s.now) | none => false
  if s.domainOn 3 && s.scActive ch.val && decide (s.scOwnQuality ch.val = 1) && due then
    .next ((s.scFaults ch.val 0x200 0x200).scShow ch.val)
  else .next s

/-- A SC_CTRL write (R109, R135, R156): a test slot in the next cycle, one reversed measurement slot. -/
def State.scCtrl (s : State) (ch : Nat) (v : Word) : State :=
  let c := s.sc ch
  s.setSc ch { c with test := if v.getLsbD 0 && decide (c.test = 0) then 1 else c.test, flip := c.flip || v.getLsbD 1 }

/-! ### Starting and stopping (R106, R139) -/

/-- A channel starts from step 2 of R136 with its committed range; OFF holds 0.0 with BAD. -/
def State.scBegin (s : State) (ch : Nat) : State :=
  let ts := s.fv (P.SC ch) R.SC_DIAG_test_s
  let s := s.setSc ch { ScCh.reset with
    testDue := if ts = 0 then none else some (s.now + secs ts), staleFrom := if s.scMode ch = 0 then none else some s.now,
    off := false, exc := (s.sc ch).exc }
  let s := (s.setFv (P.SC ch) R.SC_STAT_range (s.fv (P.SC ch) R.SC_MODE_range)).setFv (P.SC ch) R.SC_LEADM_lead 0
  s.scSettle ch

/-- The channel shows its state when its domain is powered: an OFF channel writes 0.0 (Table 04-8). -/
def State.scBeginShow (s : State) (ch : Nat) : State :=
  if s.scMode ch = 0 ∧ !s.scPartnered ch then (s.sourceWrite ch 0#32 3 1 s.now).scShow ch else s.scShow ch

/-- A converter's bit is 1 while SAC is powered: its channels settle, its stale timers start (R106, R139). -/
def State.cvEnable (s : State) (k : Nat) : State :=
  let s := (cvChannels k).foldl (fun (s : State) ch => s.scBegin ch) s
  let s := (cvChannels k).foldl (fun (s : State) ch => if bitAt s.saf.conv4 k && (decide (s.scMode ch ≠ 0) || s.scPartnered ch) then s.scFaults ch 0x1000 0x1000 else s) s
  let s := (cvChannels k).foldl (fun (s : State) ch => if s.avddLately (s.scSettleTime ch) && decide (s.scMode ch ≠ 0) then s.scFaults ch 0x400 0x400 else s) s
  (cvChannels k).foldl (fun (s : State) ch => s.scBeginShow ch) (s.cvShow k)

/-- A converter's bit is 0: nothing scans, its channels hold their last value with BAD, no fault (R106). -/
def State.cvDisable (s : State) (k : Nat) : State :=
  let s := s.setCv k { s.cv k with slot := none, fault := false }
  (cvChannels k).foldl (fun (s : State) ch =>
    ((s.setSc ch { s.sc ch with off := true, held := false, staleFrom := none }).setFv (P.SC ch) R.SC_LIVE_live 0).scBeginShow ch) s

/-- CONVERTER_START (R106, R139): the first slot of an enabled converter begins. -/
def execConverterStart (t : Nat) (k : Fin 8) (s : State) : Host.Outcome State Fault Refusal :=
  let s := s.at t
  if s.domainOn 3 && bitAt (s.fv P.SAC R.SAC_CTRL_cv_en) k.val && (s.cv k.val).slot.isNone && (s.cv k.val).cal.isNone &&
      !s.linkOn 7 k.val then
    .next (s.newCycle k.val)
  else .next s

/-- The SAC domain is powered (R91, R139): what lapsed takes its Reset value; the enabled converters' channels start, the others are
disabled. SAC_STAT.ref_ok says what the latest reference check found, 1 before the first one: DESIGN CHOICE (log 128). -/
def State.sacPowered (s : State) : State :=
  let s := s.lapse (fun k _ => decide (k = .sac) || decide (k = .cv) || decide (k = .sc))
  let s := (s.setFb P.SAC R.SAC_STAT_ref_ok (!s.sac.refBad)).setFb P.SAC R.SAC_STAT_avdd_ok s.pwr.avddOk
  let s := (List.range 8).foldl (fun (s : State) k =>
    let s := ((s.setCv k { s.cv k with slot := none, fault := false }).cvShow k).dueShow k
    if bitAt (s.fv P.SAC R.SAC_CTRL_cv_en) k then s.cvEnable k else s.cvDisable k) s
  ({ s with sac := { s.sac with termBy := none } }).termShow

/-! ### AVDD (R57) -/

/-- AVDD falls: every channel that is not OFF raises the avdd fault. -/
def State.sacAvddLost (s : State) : State :=
  if !s.domainOn 3 then s
  else
    let s := (s.setFb P.SAC R.SAC_STAT_avdd_ok false).irq P.SAC 1
    ((List.range 32).filter (fun ch => decide (s.scMode ch ≠ 0) && !(s.sc ch).off)).foldl
      (fun (s : State) ch => (s.scFaults ch 0x400 0x400).scShow ch) s

/-- AVDD is valid again: the channels go on to clear the fault after their settling times. -/
def State.sacAvddBack (s : State) : State :=
  if s.domainOn 3 then s.setFb P.SAC R.SAC_STAT_avdd_ok true else s

/-! ### Commits (R85, R106, R129, R132, R135, R158) -/

/-- What a commit of a channel page stores (Table 04-11). OFF keeps any range and curve, for which Table 04-3 shows a dash: DESIGN CHOICE
(log 70). -/
def scFixes (s : State) (ch b : Nat) (c : Cand) : List (Field × Nat) :=
  let m := Nat.min 9 (c.fv s b R.SC_MODE_mode)
  let m := if m = 9 ∧ ch % 2 = 1 then 8 else m
  let r := c.fv s b R.SC_MODE_range
  let ok := modeRanges m
  let cur := c.fv s b R.SC_CURVE_curve
  let src := Nat.min 2 (c.fv s b R.SC_CURVE_cj_src)
  let fin (f : Field) : Field × Nat := (f, if b32Finite (word (c.fv s b f)) then c.fv s b f else s.fv b f)
  let x0 := (fin R.SC_SCALE_X0_x0).2
  let x1 := (fin R.SC_SCALE_X1_x1).2
  [(R.SC_MODE_mode, m),
   (R.SC_MODE_range, if m = 0 then r else nclip (ok.headD 0) (ok.getLastD 7) r),
   (R.SC_MODE_bias, if m = 4 then c.fv s b R.SC_MODE_bias else 0),
   (R.SC_MODE_ne43, if m = 6 ∨ m = 7 then c.fv s b R.SC_MODE_ne43 else 0),
   (R.SC_CURVE_curve, if m = 0 ∨ modeCurve m cur then cur else 0),
   (R.SC_CURVE_cj_src, if c.fv s b R.SC_CURVE_cj_ch = ch then 0 else src),
   (R.SC_EXC_rev, if m = 4 ∨ m = 6 ∨ m = 7 then 0 else c.fv s b R.SC_EXC_rev),
   fin R.SC_SCALE_X0_x0, fin R.SC_SCALE_Y0_y0, fin R.SC_SCALE_Y1_y1,
   (R.SC_SCALE_X1_x1, if b32Eq (word x0) (word x1) then s.fv b R.SC_SCALE_X1_x1 else x1)]

/-- t_exc lowered until t_dis + t_exc ≤ t_slot / 2 (Table 04-10). -/
def cvFixes (s : State) (b : Nat) (c : Cand) : List (Field × Nat) :=
  let half := 500000 / cvRate (c.fv s b R.CV_RATE_odr)
  let dis := 5 * nclip 1 63 (c.fv s b R.CV_SCAN_t_dis)
  [(R.CV_SCAN_t_exc, Nat.min (c.fv s b R.CV_SCAN_t_exc) ((half - dis) / 10))]

/-- The breakpoints of the staging copy of user table `u` whose x values rise, of `n` (R129). -/
def State.risingBreaks (s : State) (u n : Nat) : Nat :=
  let x (i : Nat) : Word := word (s.rdLe (0x00300000 + u * 0x200 + 8 * i) 4)
  ((List.range n).takeWhile (fun i => decide (i = 0) || b32Lt (x (i - 1)) (x i))).length

/-- The entry counts of the user tables as a commit stores them (Table 04-9, R129). -/
def sacFixes (s : State) (b : Nat) (c : Cand) : List (Field × Nat) :=
  ([R.SAC_UT_N0_n0, R.SAC_UT_N0_n1, R.SAC_UT_N0_n2, R.SAC_UT_N0_n3, R.SAC_UT_N1_n4, R.SAC_UT_N1_n5, R.SAC_UT_N1_n6, R.SAC_UT_N1_n7].zipIdx).map
    (fun x =>
      let n := s.risingBreaks x.2 (Nat.min 64 (c.fv s b x.1))
      (x.1, if n < 2 then 0 else n))

/-- The mode of a channel changes (R135, R140): faults of the old mode no longer hold, those of the node do. The lead entries are of the
old wiring and are emptied (DESIGN CHOICE, log 66). A channel that leaves OFF has no valid result from which its stale tolerance could
count; it counts from now (log 69). -/
def State.scNewMode (s : State) (ch : Nat) : State :=
  let b := P.SC ch
  let off := decide (s.scMode ch = 0)
  let s := s.setFv b R.SC_LIVE_live (if off then 0 else s.scLive ch &&& 0x1400)
  let c := s.sc ch
  let s := s.setSc ch { c with leads := [], sinceLead := 0, staleFrom := if off then none else some (c.staleFrom.getD s.now) }
  let s := s.setFv b R.SC_LEADM_lead 0
  if off then (s.setFv b R.SC_STAT_settling 0).setFv b R.SC_STAT_left 0
  else
    let s := if bitAt s.saf.conv4 (ch / 4) then s.scFaults ch 0x1000 0x1000 else s
    if s.avddLately (s.scSettleTime ch) then s.scFaults ch 0x400 0x400 else s

/-- The committed range becomes the range in use. -/
def State.scRanged (s : State) (ch : Nat) : State :=
  let b := P.SC ch
  let r := s.fv b R.SC_MODE_range
  if r = s.fv b R.SC_STAT_range then s else (s.setFv b R.SC_STAT_range r).irq b 1

/-- A commit that changes SC_FILT.avg (R133): the results held stay; what is short of N × p is still needed. -/
def State.scAveraged (s : State) (ch : Nat) : State :=
  let b := P.SC ch
  let c := s.sc ch
  let held := c.filt.length * (if s.scRev ch then 2 else 1) + (if c.pair.isSome then 1 else 0)
  let short := s.scNeed ch - held
  let st := s.fb b R.SC_STAT_settling || decide (short ≠ 0)
  (s.setFb b R.SC_STAT_settling st).setFv b R.SC_STAT_left (if st then short else 0)

/-- After a commit of a channel page. On a calibrating converter an excitation or range change waits (R156). -/
def State.scCommitted (s old : State) (ch : Nat) : State :=
  let b := P.SC ch
  let changed (f : Field) : Bool := decide (s.fv b f ≠ old.fv b f)
  let k := ch / 4
  let s := s.cvShow k
  let newMode := changed R.SC_MODE_mode
  let ranged := (newMode || changed R.SC_MODE_range || changed R.SC_MODE_autorange) && decide (s.fv b R.SC_MODE_range ≠ s.fv b R.SC_STAT_range)
  let exc := newMode || changed R.SC_EXC_vexc || changed R.SC_EXC_rref || changed R.SC_EXC_rev
  if !s.domainOn 3 || !bitAt (s.fv P.SAC R.SAC_CTRL_cv_en) k then s.scBeginShow ch
  else
    let s := if changed R.SC_DIAG_test_s then
        (let ts := s.fv b R.SC_DIAG_test_s
         s.setSc ch { s.sc ch with testDue := if ts = 0 then none else some (s.now + secs ts) })
      else s
    if (s.cv k).cal.isSome then
      s.setSc ch { s.sc ch with late := (s.sc ch).late ||| flagBit (exc || ranged) 0 ||| flagBit ranged 1 }
    else
      let s := if newMode then (if s.scMode ch = 0 then s.abandonOf ch else s).scNewMode ch else s
      let s := if ranged then s.scRanged ch else s
      -- what the partner of a bridge measures changes with the bridge
      let s := if newMode && decide (ch % 2 = 0) && (decide (old.scMode ch = 9) || decide (s.scMode ch = 9))
        then ((s.abandonOf (ch + 1)).scSettle (ch + 1)).scBeginShow (ch + 1) else s
      if s.scMode ch = 0 then s.scBeginShow ch
      else
        let s := if exc || ranged then s.excChange ch else if changed R.SC_FILT_avg then s.scAveraged ch else s
        -- a converter whose channels were all OFF begins a cycle
        let s := if newMode && (match (s.cv k).slot with | some x => decide (x.kind = 7) && decide (s.now < x.start) | none => false)
          then s.newCycle k else s
        s.scShow ch

/-- After a commit of a converter page: an excitation change of every channel of the converter (R135); the slot in progress is abandoned
if it is a channel's (R136). On a calibrating converter it waits (R156). -/
def State.cvCommitted (s old : State) (k : Nat) : State :=
  let changed (f : Field) : Bool := decide (s.fv (P.CV k) f ≠ old.fv (P.CV k) f)
  let s := s.cvShow k
  if (changed R.CV_RATE_odr || changed R.CV_RATE_order || changed R.CV_SCAN_t_dis || changed R.CV_SCAN_t_exc) && s.domainOn 3 &&
      (s.cv k).cal.isNone then
    let s := if (s.cv k).slot.any (fun x => decide (x.kind ≠ 7)) then s.abandonSlot k else s
    (cvChannels k).foldl (fun (s : State) ch => (s.scSettle ch).scShow ch) s
  else s

/-- USER_TABLE_COPY (R129): each checked staging table becomes its active copy. -/
def State.copyUserTables (s : State) : State :=
  ([R.SAC_UT_N0_n0, R.SAC_UT_N0_n1, R.SAC_UT_N0_n2, R.SAC_UT_N0_n3, R.SAC_UT_N1_n4, R.SAC_UT_N1_n5, R.SAC_UT_N1_n6, R.SAC_UT_N1_n7].zipIdx).foldl
    (fun (s : State) (x : Field × Nat) =>
      let n := s.fv P.SAC x.1
      let a := 0x00301000 + x.2 * 0x200
      let s := s.curePoison a 0x200
      ({ s with mem := SMap.dropRange s.mem a (a + 0x200) }).wrBytes a (s.rdBytes (0x00300000 + x.2 * 0x200) (8 * n))) s

/-! ### The static balls (R107, R118, R121, R122, R125) -/

/-- What the node drives on a SEXC ball: nothing, VSX through the 30 mA limiter, or an excitation against AGND. -/
inductive SexcDrive where
  | nothing
  | supply
  | volts (v : Q)
deriving DecidableEq, Repr

/-- The stage of a slot (R107): 0 not begun, 1 break, 2 discharge, 3 excitation settling, 4 conversion, 5 its length has passed. -/
def State.slotStage (s : State) (k : Nat) (x : CvSlot) : Nat :=
  let since := s.now - x.start
  let bbm := 9 + Config.breakTime.toNat % 25
  let dis := bbm + usecs (5 * s.fv (P.CV k) R.CV_SCAN_t_dis)
  let exc := dis + usecs (10 * s.fv (P.CV k) R.CV_SCAN_t_exc)
  if s.now < x.start then 0 else if since < bbm then 1 else if since < dis then 2 else if since < exc then 3
  else if since * s.cvHz k < 16777216 then 4 else 5

/-- SEXC of a channel: the supply of a CUR_LOOP transmitter while SAC is powered, between slots and on a disabled converter too (R106, R121,
R122); an excitation only in steps 3 and 4 of the channel's own slots (R107), none while the converter calibrates (R147). -/
def State.sexcDrive (s : State) (ch : Nat) : SexcDrive :=
  let mode := s.scMode ch
  if !s.domainOn 3 then .nothing
  else if mode = 6 then .supply
  else
    match (s.cv (ch / 4)).slot with
    | some x =>
      if x.ch = ch % 4 ∧ x.kind ≠ 7 ∧ (s.slotStage (ch / 4) x = 3 ∨ s.slotStage (ch / 4) x = 4) ∧ (mode ≤ 3 ∨ 8 ≤ mode) ∧ mode ≠ 0 then
        (let v := excVolts (s.fv (P.SC ch) R.SC_EXC_vexc)
         .volts (if x.rev then Q.neg v else v))
      else .nothing
    | none => .nothing

/-- The shunt ties SINP of a channel to AGND: in CUR_EXT in every power state (R122), in CUR_LOOP while SAC is powered (R121; unpowered the
spec says only that the supply is off: DESIGN CHOICE, log 72). -/
def State.shuntOn (s : State) (ch : Nat) : Bool :=
  decide (s.scMode ch = 7) || (decide (s.scMode ch = 6) && s.domainOn 3)

/-- SINN of a channel is held at 1.25 V through 1 MΩ (R125). -/
def State.biasOn (s : State) (ch : Nat) : Bool := s.domainOn 3 && decide (s.scMode ch = 4) && s.fb (P.SC ch) R.SC_MODE_bias

end Sys2Proof.Machine
end

