-- ==== Sys2Proof/Machine/Cal.lean ====
section
/-! DEFINITION. Self-calibration of the static converters (chapter 05): when it falls due, what it does to the channels, its constants,
failures, drift and interval, its records. -/

namespace Sys2Proof.Machine

open Sys2Proof

/-- The time of RUN and LEAN counted for a converter since its latest successful calibration (R152). -/
def State.calCounted (s : State) (k : Nat) : Nat :=
  (s.cv k).counted + (match (s.cv k).countFrom with | some t => s.now - t | none => 0)

/-- The node enters or leaves RUN and LEAN: the intervals count or stop (R152). -/
def State.calCounting (s : State) (on : Bool) : State :=
  (List.range 8).foldl (fun (s : State) k =>
    s.setCv k { s.cv k with counted := s.calCounted k, countFrom := if on then some s.now else none }) s

/-- CAL_DUE (R152): the effective interval has passed, or the temperature has moved by more than dt_trig. -/
def execCalDue (t : Nat) (k : Fin 8) (temp : Q) (s : State) : Host.Outcome State Fault Refusal :=
  let s := s.at t
  if !s.domainOn 3 || !bitAt (s.fv P.SAC R.SAC_CTRL_cv_en) k.val then .next s
  else
    let s := s.setFv (P.CV k.val) R.CV_CTEMP_temp_now (toB32 temp).toNat
    if secs 3600 * s.fv (P.CV k.val) R.CV_CAL_STAT_eff_h ≤ s.calCounted k.val then .next (s.calFallsDue k.val 0)
    else if s.tempTriggers k.val temp then .next (s.calFallsDue k.val 1)
    else .next s

/-- Automatic calibrations that are due follow SAC_CAL_CTRL.hold (R154). -/
def State.calHold (s : State) : State := (List.range 8).foldl (fun (s : State) k => s.dueShow k) s

/-- CAL_OVERDUE (R154): due for longer than the effective interval. -/
def execCalOverdue (t : Nat) (k : Fin 8) (s : State) : Host.Outcome State Fault Refusal :=
  let s := s.at t
  match (s.cv k.val).dueAt with
  | some t0 =>
    if s.domainOn 3 && decide (t0 + secs 3600 * s.fv (P.CV k.val) R.CV_CAL_STAT_eff_h < s.now) then
      .next (s.setFv (P.CV k.val) R.CV_CAL_STAT_overdue 1)
    else .next s
  | none => .next s

/-! ### The CAL tally (R148) -/

/-- The running CAL tally, its deadline not passed. Its `aux` holds the converters still to calibrate, and from bit 8 on those calibrated
without failure. -/
def State.calTally (s : State) : Option Tally :=
  s.tly.out.find? (fun x => x.running && x.outcome.isNone && decide (x.op = 0x40) && decide (x.total ≠ 0) && !s.tallyLate x)

/-- The tally's part of a calibration of converter `k` that has ended: after the last converter the operation is done. -/
def State.calTallyStep (s : State) (n k : Nat) (ok : Bool) : State :=
  match s.runningTally n 0x40 with
  | none => s.lateStop n 0x40 id
  | some x =>
    let aux := withBit x.aux k false
    let aux := if ok then withBit aux (8 + k) true else aux
    let s := s.tallyProgress n (x.done + 1) x.total aux
    if aux % 256 = 0 then s.tallyDone n (aux / 256) 0 else s

/-! ### Running a calibration (R147, R153, R155) -/

/-- What a slot of a calibration measures (Table 05-5): the offset with the input in one polarity or the other, the gain of a range from
VREFA at 80 % of its full scale, VREFB against VREFA, Rchk against Rref2, Rref2 against Rref20. -/
inductive CalSlot where
  | offset (reversed : Bool)
  | gain (range : Fin 8)
  | reference
  | rref2
  | rref20
deriving DecidableEq, Repr

/-- The slots of a calibration in order (Table 05-5, R148). -/
def calSlots (kind : Nat) : List CalSlot :=
  (if kind = 2 then [] else [.offset false, .offset true, .gain 0, .gain 1, .gain 2, .gain 3, .gain 4, .gain 5, .gain 6, .gain 7]) ++
    (if kind = 1 then [] else [.reference, .rref2, .rref20])

/-- The slots of a calibration completed by an instant, at the rate f_cv (R147). -/
def CalRun.elapsed (run : CalRun) (now : Nat) : Nat := Nat.min (calSlots run.kind).length ((now - run.start) * run.hz / 16777216)

/-- The converter stops scanning: its channels hold their values, their stale timers stop (R155 step 1). A commit of a mode waits from now
on (R156). -/
def State.scanStops (s : State) (k : Nat) : State :=
  let s := s.setCv k { s.cv k with slot := none }
  let s := (cvChannels k).foldl (fun (s : State) ch => s.setSc ch { s.sc ch with mode := s.scMode ch }) s
  ((cvChannels k).filter s.scActive).foldl (fun (s : State) ch =>
    (s.setSc ch { s.sc ch with held := true, staleFrom := none }).scShow ch) s

/-- The slots that the calibration has completed are counted (Table 04-10). -/
def State.calCount (s : State) (k : Nat) : State :=
  match (s.cv k).cal with
  | some run => s.wrapInc (P.CV k) R.CV_CNT_count (run.elapsed s.now)
  | none => s

/-- The converter calibrates. -/
def State.calRun (s : State) (k kind trigger : Nat) (first : Option CalFigures) (tally : Option Nat) : State :=
  let dis := ((s.cv k).cal.map (fun x => x.dis)).getD (s.fv (P.CV k) R.CV_SCAN_t_dis)
  let run : CalRun := { kind := kind, trigger := trigger, start := s.now, hz := s.cvHz k, dis := dis, first := first, tally := tally }
  let s := (s.calCount k).scanStops k
  (s.setCv k { s.cv k with cal := some run }).setFv (P.CV k) R.CV_CAL_STAT_state 2

/-- The converter stands at a slot boundary: its slot begins at this instant or later, or it has none (R155). -/
def State.slotBoundary (s : State) (k : Nat) : Bool := (s.cv k).slot.all (fun x => decide (s.now ≤ x.start))

/-- CALIBRATION_START (R153, R155): at a slot boundary, no other converter calibrating: the lowest due converter, else the next of
the CAL tally. A converter that is due and is disabled or under a link test waits on and keeps none of the others waiting: DESIGN CHOICE
(log 73). A converter of the tally that is disabled before its turn holds the tally: DESIGN CHOICE (log 128). -/
def execCalibrationStart (t : Nat) (k : Fin 8) (s : State) : Host.Outcome State Fault Refusal :=
  let s := s.at t
  let runs (j : Nat) : Bool := bitAt (s.fv P.SAC R.SAC_CTRL_cv_en) j && !s.linkOn 7 j
  let due (j : Nat) : Bool := decide (s.fv (P.CV j) R.CV_CAL_STAT_state = 1) && runs j
  if !s.domainOn 3 || !runs k.val || !s.slotBoundary k.val || (List.range 8).any (fun j => (s.cv j).cal.isSome) then .next s
  else
    match (List.range 8).find? due with
    | some j => .next (if j = k.val then s.calRun k.val 0 (s.cv k.val).dueTrig none none else s)
    | none =>
      match s.calTally with
      | some x =>
        if (List.range 8).find? (bitAt (x.aux % 256)) = some k.val then .next (s.calRun k.val (Nat.min 2 (x.arg 1)) 2 none (some x.num))
        else .next s
      | none => .next s

/-- The converter scans again (R155 step 3): post-filters emptied, stale timers from zero; commits that waited take effect (R156). -/
def State.scanResumes (s : State) (k : Nat) : State :=
  let s := (cvChannels k).foldl (fun (s : State) ch =>
    if (s.sc ch).late = 0 then s
    else
      let s := if s.scMode ch = (s.sc ch).mode then s else s.scNewMode ch
      if bitAt (s.sc ch).late 1 then s.scRanged ch else s) s
  let s := (cvChannels k).foldl (fun (s : State) ch =>
    let s := s.setSc ch { s.sc ch with held := false, late := 0, staleFrom := if s.scMode ch = 0 then none else some s.now }
    if s.scMode ch = 0 then s.scBeginShow ch else (s.scSettle ch).scShow ch) (s.cvShow k)
  if s.domainOn 3 && bitAt (s.fv P.SAC R.SAC_CTRL_cv_en) k then s.newCycle k else s

/-- The calibration is over and the converter scans again. -/
def State.calLeaves (s : State) (k : Nat) : State :=
  let s := s.calCount k
  ((s.setCv k { s.cv k with cal := none }).setFv (P.CV k) R.CV_CAL_STAT_state 0).scanResumes k

/-! ### Records (R159, Table 05-6) -/

/-- A figure in ppm as a signed 16-bit number of 0.01 ppm. -/
def ppm16 (q : Q) : Nat := uext 16 (iclip (-32768) 32767 (Q.round (Q.mul q (Q.ofNat 100))))

/-- A history entry is added: the ring of 16 in the running record's last 512 bytes, the newest last. An entry whose calibration gives no d
repeats CV_DRIFT, and the sequence number starts at 0: DESIGN CHOICE (log 128). -/
def State.calHistory (s : State) (k kind reason trigger : Nat) (dr2 dr20 dg vref : Q) : State :=
  let ring := runningRecord k + 0x200
  let c := s.cv k
  let entry : List Byte :=
    leBytes 8 s.now ++ leBytes 4 (s.fv (P.CV k) R.CV_CTEMP_temp_now) ++
      leBytes 2 (kind + (if reason = 0 then 0 else 4) + reason * 16 + trigger * 256) ++ leBytes 2 (s.fv (P.CV k) R.CV_DRIFT_d) ++
      leBytes 2 (ppm16 dr2) ++ leBytes 2 (ppm16 dr20) ++ leBytes 2 (ppm16 dg) ++ leBytes 2 (ppm16 vref) ++
      s.rdBytes (runningRecord k) 4 ++ leBytes 2 (s.fv (P.CV k) R.CV_CAL_STAT_eff_h) ++
      leBytes 2 (c.entries % 65536)
  let s := s.setCv k { c with entries := (c.entries + 1) % 65536 }
  s.nodeWrite ring ((s.rdBytes (ring + 32) 480) ++ entry)

/-! ### The end of a calibration (R149, R150, R157, R158) -/

/-- The highest eff_h: SAC_CAL_CFG.interval, and no more than the planner's cap (R158, R481). -/
def State.calLongest (s : State) : Nat :=
  let cap := s.fv P.AGE R.AGE_CAP_cal
  let h := s.fv P.SAC R.SAC_CAL_CFG_interval
  if cap = 0 then h else Nat.min cap h

/-- eff_h after a kind 0 calibration with drift `d` (R158); half of an odd eff_h is rounded down: DESIGN CHOICE (log 128). -/
def State.calInterval (s : State) (k : Nat) (d : Q) : State :=
  let h := s.fv (P.CV k) R.CV_CAL_STAT_eff_h
  let top := s.calLongest
  if Q.lt Q.one d then (s.setCv k { s.cv k with quiet := 0 }).setFv (P.CV k) R.CV_CAL_STAT_eff_h (Nat.max 1 (h / 2))
  else if Q.lt d (Q.frac 1 4) then
    (if (s.cv k).quiet + 1 < 4 then s.setCv k { s.cv k with quiet := (s.cv k).quiet + 1 }
     else (s.setCv k { s.cv k with quiet := 0 }).setFv (P.CV k) R.CV_CAL_STAT_eff_h (Nat.min top (2 * h)))
  else s.setCv k { s.cv k with quiet := 0 }

/-- The reference check of a calibration (R150): SAC_REF and SAC_STAT.ref_ok. -/
def State.refChecked (s : State) (vref : Q) : State :=
  let bad := Q.lt (Q.ofNat 20) (Q.abs vref)
  let was := s.fb P.SAC R.SAC_STAT_ref_ok
  let s := { s with sac := { s.sac with refBad := bad } }
  ((s.setFv P.SAC R.SAC_REF_ref_dev (ppm16 vref)).setFb P.SAC R.SAC_STAT_ref_ok (!bad)).irqIf (bad && was) P.SAC 2

/-- A calibration ends after its reference check and before its figures come: slot 11 has set SAC_REF to what it measured (R147), which no
command tells (a free value). -/
def State.refUnseen (s : State) (run : CalRun) : State :=
  if ((calSlots run.kind).take (run.elapsed s.now)).contains .reference then
    (let (w, s) := s.draw
     s.refChecked (Q.make (sext 16 (w.toNat % 65536)) 100))
  else s

/-- A calibration fails (R150): the previous constants stay. -/
def State.calFails (s : State) (k : Nat) (run : CalRun) (reason : Nat) (dr2 dr20 dg vref : Q) : State :=
  let s := (s.setFv (P.CV k) R.CV_CAL_STAT_last_fail 1).setFv (P.CV k) R.CV_CAL_STAT_reason reason
  (s.irq (P.CV k) 2).calHistory k run.kind reason run.trigger dr2 dr20 dg vref

/-- A calibration succeeds: constants, drift, interval, stamps, history (R149, R157, R158). -/
def State.calSucceeds (s : State) (k : Nat) (run : CalRun) (m : CalFigures) (dr2 dr20 dg vref : Q) (jump : Bool) : State :=
  let c := s.cv k
  let g0 := m.gains.headD Q.zero
  let d := Q.max (Q.max (Q.abs dr2) (Q.abs dr20)) (Q.max (Q.abs dg) (Q.abs (Q.sub m.vref c.base.2.2.2)))
  let s := if run.kind = 2 then s
    else s.nodeWrite (runningRecord k) ((m.offset :: (List.range 8).map (fun r => m.gains.getD r Q.zero)).flatMap (fun q => Word.bytes (toB32 q)))
  let s := s.setCv k { c with
    ratios := if run.kind = 1 then c.ratios else (m.r2, m.r20)
    base := if run.kind = 0 then (m.r2, m.r20, g0, m.vref) else c.base
    counted := 0, countFrom := c.countFrom.map (fun _ => s.now), dueAt := none }
  let s := if run.kind = 0 then (s.setFv (P.CV k) R.CV_DRIFT_d (ppm16 d)).calInterval k d else s
  let s := ((s.setFv (P.CV k) R.CV_CAL_STAT_last_fail 0).setFv (P.CV k) R.CV_CAL_STAT_reason 0).setFv (P.CV k) R.CV_CAL_STAT_overdue 0
  let s := if jump then s.setFv (P.CV k) R.CV_CAL_STAT_jump 1 else s
  let s := s.wrapInc (P.CV k) R.CV_CAL_STAT_n_ok 1
  let s := (s.setStamp (P.CV k) R.CV_CAL_T_LO_t R.CV_CAL_T_HI_t s.now).setFv (P.CV k) R.CV_CAL_TEMP_temp (toB32 m.temp).toNat
  ((s.irq (P.CV k) 1).irq P.SAC 3).calHistory k run.kind 0 run.trigger dr2 dr20 dg vref

/-- The ended calibration leaves the converter and its tally goes on. -/
def State.calEnded (s : State) (k : Nat) (run : CalRun) (ok : Bool) : State :=
  let s := s.setCv k { s.cv k with dueAt := none }
  let s := s.calLeaves k
  match run.tally with
  | some n => s.calTallyStep n k ok
  | none => s

/-- The difference of `a` from `b` in ppm of `b`. -/
def ppmOver (a b : Q) : Q := Q.mul (Q.sub (Q.div a b) Q.one) (Q.ofNat 1000000)

/-- What the readings of a calibration say (R143, R147, R149): each element at the converter's temperature; the offset from both polarities;
the gains against VREFA (nominal 1.250 V) at 80 % of full scale; VREFA/VREFB and the ratios against those of the factory record. A
calibration without slots 1 to 10 takes the constants in force. -/
def State.calFigures (s : State) (k kind : Nat) (m : CalInput) : CalFigures :=
  let e (i : Nat) : Q := s.element k i m.temp
  let offset := if kind = 2 then s.cvOffset k else Q.mul (Q.add m.pos m.neg) (Q.frac 1 2)
  let tap (r : Nat) : Q := Q.mul (Q.mul (e 7) (Q.frac 4 5)) (Q.mul (rangeFs r) (Q.frac 4 5))
  let gains := (List.range 8).map (fun r =>
    if kind = 2 then s.cvGain k r else ppmOver (Q.sub (m.gains.getD r Q.zero) offset) (tap r))
  let vb := Q.div (Q.sub m.vrefb offset) (Q.add Q.one (Q.mul (gains.headD Q.zero) (Q.frac 1 1000000)))
  { offset := offset, gains := gains, vref := ppmOver (e 8) vb, r2 := ppmOver (Q.div (e 2) (e 0)) m.rchk,
    r20 := ppmOver (Q.div (e 0) (e 1)) m.rref, temp := m.temp }

/-- CALIBRATION_COMPLETE (R149, R150): the last slot ends. After a ratio jump the node repeats the full calibration once; the repeat
succeeds just where it agrees with the first within 1 ppm. -/
def execCalibrationComplete (t : Nat) (k : Fin 8) (m : CalInput) (s : State) : Host.Outcome State Fault Refusal :=
  let s := s.at t
  let c := s.cv k.val
  match c.cal with
  | none => .next s
  | some run =>
    if !s.domainOn 3 || decide (run.elapsed s.now < (calSlots run.kind).length) then .next s
    else if run.start + 26 * 16777216 / run.hz < s.now then
      .next (((s.refUnseen run).calFails k.val run 3 Q.zero Q.zero Q.zero Q.zero).calEnded k.val run false)
    else
      let m := s.calFigures k.val run.kind m
      let s := s.setFv (P.CV k.val) R.CV_CTEMP_temp_now (toB32 m.temp).toNat
      let checks := decide (run.kind ≠ 1)
      let gains := decide (run.kind ≠ 2)
      let vref := if checks then m.vref else Q.zero
      let dr2 := if checks then Q.sub m.r2 c.base.1 else Q.zero
      let dr20 := if checks then Q.sub m.r20 c.base.2.1 else Q.zero
      let dg := if gains then Q.sub (m.gains.headD Q.zero) c.base.2.2.1 else Q.zero
      let s := if checks then s.refChecked m.vref else s
      let far (a b : Q) (n : Nat) : Bool := Q.lt (Q.ofNat n) (Q.abs (Q.sub a b))
      let fails (reason : Nat) : State := s.calFails k.val run reason dr2 dr20 dg vref
      if checks && Q.lt (Q.ofNat 20) (Q.abs m.vref) then .next ((fails 1).calEnded k.val run false)
      else
        match run.first with
        | some f =>
          if far m.r2 f.r2 1 || far m.r20 f.r20 1 then .next ((fails 2).calEnded k.val run false)
          else .next ((s.calSucceeds k.val run m dr2 dr20 dg vref true).calEnded k.val run true)
        | none =>
          if checks && (far m.r2 c.ratios.1 10 || far m.r20 c.ratios.2 10) then .next ((fails 2).calRun k.val 0 3 (some m) run.tally)
          else .next ((s.calSucceeds k.val run m dr2 dr20 dg vref false).calEnded k.val run true)

/-- CALIBRATION_TIMEOUT (R150): not finished within 2 × 13 / f_cv. -/
def execCalibrationTimeout (t : Nat) (k : Fin 8) (s : State) : Host.Outcome State Fault Refusal :=
  let s := s.at t
  match (s.cv k.val).cal with
  | none => .next s
  | some run =>
    if s.domainOn 3 && decide (run.start + 26 * 16777216 / run.hz ≤ s.now) then
      .next (((s.refUnseen run).calFails k.val run 3 Q.zero Q.zero Q.zero Q.zero).calEnded k.val run false)
    else .next s

/-- A calibration is cut short (R149): its constants are discarded, the history entry records reason 4. It is not a failure of R150:
last_fail stands and no event is raised; a tally counts its converter as ended: DESIGN CHOICE (log 128). -/
def State.calAbandon (s : State) (k : Nat) : State :=
  match (s.cv k).cal with
  | none => s
  | some run =>
    let s := (s.refUnseen run).setFv (P.CV k) R.CV_CAL_STAT_reason 4
    (s.calHistory k run.kind 4 run.trigger Q.zero Q.zero Q.zero Q.zero).calEnded k run false

/-! ### The CAL tally's start and stop (R148) -/

/-- The cancelled or overdue CAL tally starts no further converter (R148) and cuts the calibration at work (R149): a converter is a whole
operation (Table 03-12), and its closing mark follows only its last slot. That a cancel does not wait for the converter at work is DEDUCED
from R149 (log 74). -/
def State.calTallyStops (s : State) (n : Nat) : State :=
  match s.tally? n with
  | some x =>
    if x.op ≠ 0x40 then s
    else
      let s := s.setTally { x with aux := x.aux / 256 * 256 }
      (List.range 8).foldl (fun (s : State) k =>
        match (s.cv k).cal with
        | some run =>
          if run.tally = some n then (s.setCv k { s.cv k with cal := some { run with tally := none } }).calAbandon k else s
        | none => s) s
  | none => s

/-- CAL (R148): the tally's converters are set; a converter that does not run cannot be calibrated. -/
def execCal (t tally : Nat) (s : State) : Host.Outcome State Fault Refusal :=
  let s := s.at t
  match s.runningTally tally 0x40 with
  | none => .next (s.lateStop tally 0x40 (fun s => s.calTallyStops tally))
  | some x =>
    if x.total ≠ 0 then .next s
    else
      let mask := if s.domainOn 3 then x.arg 0 % 256 &&& s.fv P.SAC R.SAC_CTRL_cv_en else 0
      let n := ((List.range 8).filter (bitAt mask)).length
      if n = 0 then .next (s.tallyDone tally 0 0) else .next (s.tallyProgress tally 0 n mask)

/-- SAC loses power: calibrations are cut short, nothing scans. -/
def State.sacStop (s : State) : State :=
  (List.range 8).foldl (fun (s : State) k =>
    let s := s.calAbandon k
    s.setCv k { s.cv k with slot := none, fault := false }) s

/-- After a commit of the SAC common page (R106, R129, R158). A commit in which SAC_CAL_CFG was staged sets eff_h, its interval changed or
not (DEDUCED, log 75). A converter whose bit it clears in a calibration is cut short with reason 4: DESIGN CHOICE (log 76). -/
def State.sacCommitted (s old : State) : State :=
  let s := s.copyUserTables
  let s := if (SMap.get? old.staged (P.SAC + R.SAC_CAL_CFG_interval.off)).isNone then s
    else (List.range 8).foldl (fun (s : State) k => s.setFv (P.CV k) R.CV_CAL_STAT_eff_h s.calLongest) s
  let on := s.domainOn 3
  let was := old.domainOn 3
  if on && !was then s.sacPowered
  else
    let bit (x : State) (k : Nat) : Bool := bitAt (x.fv P.SAC R.SAC_CTRL_cv_en) k
    ((List.range 8).foldl (fun (s : State) k =>
      if bit s k = bit old k then s
      else if bit s k then (if on then s.cvEnable k else s)
      else (s.calAbandon k).cvDisable k) s).termShow

end Sys2Proof.Machine
end

