-- ==== Sys2Proof/Machine/Dio.lean ====
section
/-! DEFINITION. Attic A: barrier frames (R369–R372), inputs (R373–R376), outputs and arming (R377–R381). The island's own
judgements lie beside COR's registers; a frame carries them across. -/

namespace Sys2Proof.Machine

open Sys2Proof

/-! ### Output commands (R380) -/

/-- The DO line of an ALH target n in use as a DO line (R292). -/
def State.doTarget (s : State) (n : Nat) : Option Nat :=
  if s.fv P.ALH (R.ALH_TGT_kind.nth n) = 2 then some (s.fv P.ALH (R.ALH_TGT_addr.nth n)) else none

/-- ALH's drive of a line named in a committed ALH_TGTn (R292); none where no target names it. -/
def State.callDrive (s : State) (line : Nat) : Option Bool :=
  let ts := (List.range 32).filter (fun n => decide (s.doTarget n = some line))
  if ts.isEmpty then none
  else
    let called := ts.filter (fun n => s.alh.calls.any (fun c => bitAt c.2.targets n))
    some (called.any (fun n => !s.fb P.ALH (R.ALH_TGT_pulse.nth n) || decide (s.now % secs 1 < secs 1 / 2)))

/-- The command of the rows below row 1. In DORMANT the lines hold their values (R26, R29, R381), but for the safe state, which SAF goes on
forcing. -/
def State.doCommand (s : State) (line : Nat) : Bool :=
  if s.fb P.SAF R.SAF_STAT_safe then s.safDo line
  else if s.pstate = 2 then bitAt s.dio.hold line
  else
    match s.dio.forces.find? (fun f => decide (f.1 = line)) with
    | some f => f.2
    | none => (s.callDrive line).getD (bitAt s.dio.own line)

/-- The effective command of a line (Table 14-3). -/
def State.doEff (s : State) (line : Nat) : Bool :=
  if !s.fb P.DIO R.DIO_STAT_armed || bitAt (s.fv P.DIO R.DIO_DO_STAT_trip) line then false
  else s.doCommand line

/-- DIO_DO_STAT.eff. -/
def State.doEffBits (s : State) : Nat := bitsOf 8 s.doEff

/-- FBE writes a line (R315, R380): no effect on a line of owner host. -/
def State.fbeDo (s : State) (line : Nat) (b : Bool) : State :=
  if bitAt (s.fv P.DIO R.DIO_DO_CFG_own) line then s else { s with dio := { s.dio with own := withBit s.dio.own line b } }

/-- A DIO_DO_SET write: bits of lines that FBE owns keep their previous value, reported as a clamp (R380). -/
def State.doSet (s : State) (v : Nat) : State :=
  let own := s.fv P.DIO R.DIO_DO_CFG_own
  let prev := s.fv P.DIO R.DIO_DO_SET_set
  let w := v % 256
  let st := bitsOf 8 (fun i => if bitAt own i then bitAt w i else bitAt prev i)
  let s := if st = w then s else s.clampAt P.DIO R.DIO_DO_SET_set.off 0 true w st
  let s := s.setFv P.DIO R.DIO_DO_SET_set st
  { s with dio := { s.dio with own := bitsOf 8 (fun i => if bitAt own i then bitAt st i else bitAt s.dio.own i) } }

/-! ### The island -/

/-- An output ball is high (R377). -/
def State.doBall (s : State) (line : Nat) : Bool := s.dio.armed && bitAt s.dio.cmd line && !bitAt s.dio.trips line

/-- The programmable thresholds are in force on an input (R374). The island's own arming decides. -/
def State.tracks (s : State) (ch : Nat) : Bool :=
  s.fb P.DIO R.DIO_CTRL_thr_test || (s.fb P.DIO (R.DIO_DIN_track.nth ch) && s.dio.heard && !s.dio.armed)

/-- The rising and the falling threshold of an input in mV, and their tolerance (Table 14-2). -/
def State.thresholds (s : State) (ch : Nat) : Nat × Nat × Nat :=
  if s.tracks ch then
    (Nat.max 3000 (s.fv P.DIO R.DIO_THR_on_pct * s.dio.vfield / 100), Nat.max 2000 (s.fv P.DIO R.DIO_THR_off_pct * s.dio.vfield / 100), 300)
  else (8500, 6500, 500)

/-- The judged state of an input (R373), as DIO_DIn.inv inverts it; where it changes, debouncing counts from now. -/
def State.judgeInput (s : State) (ch : Nat) : State :=
  let j := bitAt s.dio.raw ch != s.fb P.DIO (R.DIO_DIN_inv.nth ch)
  if bitAt s.dio.judged ch = j then s
  else { s with dio := { s.dio with judged := withBit s.dio.judged ch j, since := SMap.put (fun _ => 0) s.dio.since ch s.now } }

/-- The inputs are compared again with the thresholds in force (R373, R374): each ball stands at the voltage last given, with its comparator's
errors, within the tolerance of Table 14-2. Between its thresholds an input keeps its state. -/
def State.compareInputs (s : State) : State :=
  (List.range 16).foldl (fun (s : State) ch =>
    let (on, off, tol) := s.thresholds ch
    let (mV, rise, fall) := SMap.get (fun _ => ((0 : Int), (0 : Int), (0 : Int))) s.dio.balls ch
    let within (e : Int) : Int := max (-(tol : Int)) (min (tol : Int) e)
    let high := if on + within rise ≤ mV then true else if mV ≤ off + within fall then false else bitAt s.dio.raw ch
    ({ s with dio := { s.dio with raw := withBit s.dio.raw ch high } } : State).judgeInput ch) s

/-- An input's current, 3.3 kΩ from its ball to FGND (R373), lies below 0.15 mA. -/
def State.lowCurrent (s : State) (ch : Nat) : Bool :=
  decide ((SMap.get (fun _ => ((0 : Int), (0 : Int), (0 : Int))) s.dio.balls ch).1 * 10 < 4950)

/-- Since when each input's current lies below 0.15 mA with VFIELD at or above 16 V (R376); an input of which this holds no more, or that is
not judged for wire-breaks, is not broken. -/
def State.currentsTimed (s : State) : State :=
  let low (ch : Nat) : Bool := s.lowCurrent ch && decide (16000 ≤ s.dio.vfield)
  { s with dio := { s.dio with
    lowFrom := ((List.range 16).filter low).map (fun ch => (ch, (SMap.get? s.dio.lowFrom ch).getD s.now))
    wb := bitsOf 16 (fun ch => bitAt s.dio.wb ch && low ch && s.fb P.DIO (R.DIO_DIN_wb_en.nth ch)) } }

/-- What follows where VFIELD, the arming, the configuration or a ball has changed. -/
def State.inputsFollow (s : State) : State := s.compareInputs.currentsTimed

/-- Since when each output has been on (R378). -/
def State.outputsTimed (s : State) : State :=
  { s with dio := { s.dio with
    onFrom := ((List.range 8).filter s.doBall).map (fun i => (i, (SMap.get? s.dio.onFrom i).getD s.now)) } }

/-- The common FAULT bit (R378). -/
def State.islandFault (s : State) : Bool :=
  !s.dio.armed || decide (s.dio.vfield < 16000) || decide (s.dio.trips ≠ 0) || s.dio.selfFail

/-- The island disarms: every output off (R377). -/
def State.islandDisarm (s : State) : State := (({ s with dio := { s.dio with armed := false } } : State).outputsTimed).inputsFollow

/-- The island arms, where it may: trips end (R377, R378). The start-up's permission is used up: to arm again takes a re-arm (R371, R377). -/
def State.islandArm (s : State) : State :=
  if s.dio.armed || s.dio.selfFail || decide (s.dio.vfield < 18000) then s
  else (({ s with dio := { s.dio with armed := true, startArm := false, trips := 0 } } : State).outputsTimed).inputsFollow

/-- VFIELD stands at `mV` (R377, R379): below 18 V the 50 ms of vf18 start again, below 16 V the island disarms and no
input is judged for wire-breaks (R376); a rise turns nothing on. An
island that had stopped below 12 V (R372) runs its self-check anew. -/
def State.setField (s : State) (mV : Nat) : State :=
  let again := decide (s.dio.vfield < 12000) && decide (12000 ≤ mV)
  let s : State := { s with dio := { s.dio with
    vfield := mV, vf18 := s.dio.vf18 && decide (18000 ≤ mV)
    rise18 := if mV < 18000 then none else some (s.dio.rise18.getD s.now)
    wb := if mV < 16000 then 0 else s.dio.wb
    selfFail := s.dio.selfFail && !again } }
  if mV < 16000 then s.islandDisarm else s.inputsFollow

/-- The conditions of a re-arm (R377), as the latest good up frame gives them. -/
def State.rearmMay (s : State) : Bool := decide (s.fv P.DIO R.DIO_STAT_link = 1) && s.dio.vf18Seen

/-- DIO_STAT.rearm_ok: the conditions hold and the island waits to be armed. -/
def State.showRearm (s : State) : State :=
  let ok := s.rearmMay && !s.fb P.DIO R.DIO_STAT_armed
  let was := s.fb P.DIO R.DIO_STAT_rearm_ok
  (s.setFb P.DIO R.DIO_STAT_rearm_ok ok).irqIf (ok && !was) P.DIO 5

/-- DIO_STAT.thr_prog: the phases of R374. Start-up begins at the first good up frame. -/
def State.showThr (s : State) : State :=
  s.setFb P.DIO R.DIO_STAT_thr_prog (s.fb P.DIO R.DIO_CTRL_thr_test || (s.dio.heard && !s.fb P.DIO R.DIO_STAT_armed))

/-- A DIO_CTRL write: thr_test as written (R374), rearm (R377). -/
def State.dioCtrl (s : State) (v : Word) : State :=
  let s := s.showThr.inputsFollow
  if !v.getLsbD 0 then s
  else if s.rearmMay then { s with dio := { s.dio with arm := true } }
  else s.clampAt P.DIO 0x40 0 true 1 0

/-! ### Down frames (R369–R371) -/

/-- The CRC-8 of a barrier frame (R369): polynomial x^8 + x^5 + x^3 + x^2 + x + 1, initial value 0xFF, over its other bits. -/
def crc8 (bits : List Bool) : Nat :=
  bits.foldl (fun c b => let x := c * 2; let f := (decide (256 ≤ x)) != b; if f then (x % 256) ^^^ 0x2F else x % 256) 0xFF

/-- The low `n` bits of a number, the most significant first. -/
def bitsMsb (n v : Nat) : List Bool := (List.range n).map (fun i => bitAt v (n - 1 - i))

/-- A frame with its CRC. -/
def withCrc (bits : List Bool) : List Bool := bits ++ bitsMsb 8 (crc8 bits)

/-- The 50 µs interval of an instant: one frame goes each way in each (R369). -/
def frameSlot (t : Nat) : Nat := t * 20000 / 16777216

/-- The value of a slot of the committed input configuration: a halfword of DIO_DI0 to DIO_DI15, then of DIO_THR. -/
def State.cfgValue (s : State) (slot : Nat) : Nat :=
  let a := if slot < 32 then 0x44 + slot / 2 * 4 else 0x84
  (s.reg (P.DIO + a)).toNat / 2 ^ (slot % 2 * 16) % 65536

/-- A down frame (Table 14-1): the effective command, the arm bit, the configuration slot, the sequence number. -/
def State.downFrame (s : State) (seq slot : Nat) : List Bool :=
  withCrc (bitsMsb 4 seq ++ bitsMsb 8 s.doEffBits ++ [s.dio.arm || s.dio.startArm] ++ bitsMsb 8 slot ++ bitsMsb 16 (s.cfgValue slot))

/-- The island takes a good down frame: it applies the command, and arms where the arm bit is set and VFIELD has stayed at or above 18 V for
50 ms; at the first frame of a start-up, where it exceeds 18 V (R35, R377). A host's re-arm is one good frame's permission; a start-up's
waits. -/
def State.islandTakes (s : State) : State :=
  let atFirst := s.dio.first && decide (18000 < s.dio.vfield)
  let rearm := s.dio.arm
  let s := ({ s with dio := { s.dio with arm := false, first := false, lastDown := s.now, cmd := s.doEffBits } } : State).outputsTimed
  if (rearm && s.dio.vf18) || (s.dio.startArm && (s.dio.vf18 || atFirst)) then s.islandArm else s

/-- DOWN_FRAME_A (R369–R371, R377, R380): one in each 50 µs. The island discards a frame whose CRC fails or whose number is not one more than
that of the previous good one. During a link test of the barrier the frame carries the pattern. -/
def execDownFrameA (t : Nat) (ok : Bool) (s : State) : Host.Outcome State Fault Refusal :=
  let s := s.at t
  if !s.corOn || decide (s.dio.downSlot = some (frameSlot s.now)) then .next s
  else
    let seq := (s.dio.downSeq + 1) % 16
    let slot := (s.dio.cfgSlot + 1) % 34
    let good := ok && s.dio.downRx.all (fun q => decide (seq = (q + 1) % 16))
    let s : State := { s with dio := { s.dio with
      downSeq := seq, cfgSlot := slot, downSlot := some (frameSlot s.now), downBits := s.downFrame seq slot
      sent := s.doEffBits, downRx := if good then some seq else s.dio.downRx } }
    .next (if !good || s.linkTest 1 then s else s.islandTakes)

/-- ISLAND_A_DISARM (R371): no good down frame for 1.0 ms, whatever the power of COR and the cellar; the next frame may carry any number. -/
def execIslandADisarm (t : Nat) (s : State) : Host.Outcome State Fault Refusal :=
  let s := s.at t
  .next (if s.dio.lastDown + msecs 1 ≤ Nat.max t s.now then ({ s with dio := { s.dio with downRx := none } } : State).islandDisarm else s)

/-- VFIELD_WARN (R379): VFIELD below 18 V; the 50 ms of vf18 start again. -/
def execVfieldWarn (t mV : Nat) (s : State) : Host.Outcome State Fault Refusal := .next ((s.at t).setField mV)

/-- VFIELD_OFF (R377, R379): VFIELD below 16 V turns every output off and disarms. -/
def execVfieldOff (t mV : Nat) (s : State) : Host.Outcome State Fault Refusal := .next ((s.at t).setField mV)

/-- VFIELD_RISE (R372, R379): VFIELD rises; nothing is turned on. -/
def execVfieldRise (t mV : Nat) (s : State) : Host.Outcome State Fault Refusal := .next ((s.at t).setField mV)

/-- VF18 (R35, R379): VFIELD has stayed at or above 18 V for 50 ms; a start-up's outputs that waited for it switch. -/
def execVf18 (t mV : Nat) (s : State) : Host.Outcome State Fault Refusal :=
  let s := (s.at t).setField mV
  match s.dio.rise18 with
  | some r =>
    if s.now < r + msecs 50 then .next s
    else
      let s := { s with dio := { s.dio with vf18 := true } }
      .next (if s.corOn && s.dio.startArm && !s.dio.first && decide (s.now < s.dio.lastDown + msecs 1) then s.islandArm else s)
  | none => .next s

/-- OUTPUT_TRIP (R378): the line, on for 2 ms at least, has limited its current for 2 ms; off until the next arming. -/
def execOutputTrip (t : Nat) (line : Fin 8) (s : State) : Host.Outcome State Fault Refusal :=
  let s := s.at t
  let long := (SMap.get? s.dio.onFrom line).any (fun a => decide (a + msecs 2 ≤ s.now))
  .next (if s.doBall line && long then ({ s with dio := { s.dio with trips := withBit s.dio.trips line true } } : State).outputsTimed else s)

/-- ISLAND_SELF_CHECK_FAIL (R377, R378). -/
def execIslandSelfCheckFail (t : Nat) (s : State) : Host.Outcome State Fault Refusal :=
  let s := s.at t
  .next ({ s with dio := { s.dio with selfFail := true } }).islandDisarm

/-- DI_INPUT_CHANGE (R373, R374): the ball stands at `mV`; `rise` and `fall` are the comparator's errors. -/
def execDiInputChange (t : Nat) (ch : Fin 16) (mV rise fall : Int) (s : State) : Host.Outcome State Fault Refusal :=
  let s := s.at t
  .next ({ s with dio := { s.dio with balls := SMap.insert s.dio.balls ch (mV, rise, fall) } } : State).inputsFollow

/-- A commit of the DIO page: the island judges its inputs with the configuration committed (R373, R376); a line that the host now owns takes
its bit of DIO_DO_SET (R380). -/
def State.dioCommitted (s old : State) : State :=
  let own := s.fv P.DIO R.DIO_DO_CFG_own
  let was := old.fv P.DIO R.DIO_DO_CFG_own
  let set := s.fv P.DIO R.DIO_DO_SET_set
  let s : State := { s with dio := { s.dio with
    own := bitsOf 8 (fun i => if bitAt own i && !bitAt was i then bitAt set i else bitAt s.dio.own i) } }
  s.inputsFollow

/-- The debounce time of an input in steps (R375): µs in reference cycles rounded up, 128/125 step a cycle. -/
def State.debounce (s : State) (ch : Nat) : Nat :=
  let cycles := (s.fv P.DIO (R.DIO_DIN_deb.nth ch) * 16384 + 999) / 1000
  cycles * 128 / 125

/-- DEBOUNCED_EDGE (R375): the judged state has differed for the debounce time; its stamp is the start of that time. Of the edges of a channel
in one frame interval the last is reported. -/
def execDebouncedEdge (t : Nat) (ch : Fin 16) (s : State) : Host.Outcome State Fault Refusal :=
  let s := s.at t
  let from_ := SMap.get (fun _ => 0) s.dio.since ch
  if bitAt s.dio.judged ch = bitAt s.dio.debounced ch ∨ s.now < from_ + s.debounce ch then .next s
  else
    let here := decide (s.dio.edgeSlot = frameSlot s.now)
    let edges := if here then s.dio.edges else []
    let was := edges.any (fun e => decide (e.1 = ch.val))
    let rest := edges.filter (fun e => decide (e.1 ≠ ch.val))
    .next { s with dio := { s.dio with
      debounced := withBit s.dio.debounced ch (bitAt s.dio.judged ch), edges := rest ++ [(ch.val, from_)]
      edgeSlot := frameSlot s.now
      lost := (if here then s.dio.lost else 0) + (if was then 1 else 0) } }

/-- WIRE_BREAK (R376): an input with wb_en whose current has lain below 0.15 mA for 10 ms, VFIELD at or above 16 V, is wire-broken. -/
def execWireBreak (t : Nat) (ch : Fin 16) (s : State) : Host.Outcome State Fault Refusal :=
  let s := s.at t
  let b := s.fb P.DIO (R.DIO_DIN_wb_en.nth ch) && (SMap.get? s.dio.lowFrom ch).any (fun a => decide (a + msecs 10 ≤ s.now))
  .next (if b then { s with dio := { s.dio with wb := withBit s.dio.wb ch true } } else s)

/-! ### Up frames on COR's side -/

/-- The up frame that the island sends (Table 14-1): `edges` debounced in the interval that it reports. -/
def State.upFrameBits (s : State) (seq rb : Nat) (edges : List (Nat × Nat)) : List Bool :=
  let d := s.dio
  let start := s.now - 838
  let ofs (ch : Nat) : Nat := ((edges.find? (fun e => decide (e.1 = ch))).map (fun e => (e.2 - start) * 125 / 128)).getD 0
  withCrc (bitsMsb 4 seq ++ bitsMsb 16 (bitsOf 16 (fun i => bitAt d.debounced i && !bitAt d.wb i)) ++ bitsMsb 16 d.wb ++
    bitsMsb 16 (bitsOf 16 (fun i => edges.any (fun e => decide (e.1 = i)))) ++ ((List.range 16).flatMap (fun i => bitsMsb 10 (ofs i))) ++
    bitsMsb 8 rb ++ [s.islandFault, d.armed] ++ bitsMsb 8 (Nat.min 255 (d.vfield / 200)) ++ [d.vf18])

/-- The island sends an up frame: it carries the edges of the interval that has ended, and no later one carries them (R375). The answer's second
part: those edges, and how many of the interval were lost. -/
def State.upFrameSent (s : State) (seq rb : Nat) : State × List (Nat × Nat) × Nat :=
  let mine := decide (frameSlot s.now ≤ s.dio.edgeSlot + 1)
  let edges := if mine then s.dio.edges else []
  ({ s with dio := { s.dio with edges := [], lost := 0, upSlot := some (frameSlot s.now), upBits := s.upFrameBits seq rb edges } }, edges,
    if mine then s.dio.lost else 0)

/-- A good up frame (R369, R370, R376–R379) enters the registers; the edges it carries are the answer's second part:
channel, new state, stamp. -/
def State.upFrameA (s : State) (seq rb : Nat) (edges : List (Nat × Nat)) (lost : Nat) : State × List (Nat × Bool × Nat) :=
  let d := s.dio
  let was := s.reg (P.DIO + R.DIO_STAT_link.off)
  let s := { s with dio := { s.dio with upSeq := some seq, lastUp := s.now, goodUp := Nat.min 20 (d.goodUp + 1), vf18Seen := d.vf18,
                                         heard := true } }
  let s := if d.heard then s else s.inputsFollow
  -- link
  let s := if 20 ≤ d.goodUp + 1 ∧ Word.bits was 0 2 ≠ 1 then (s.setFv P.DIO R.DIO_STAT_link 1).irq P.DIO 6 else s
  -- supply
  let steps := Nat.min 255 (d.vfield / 200)
  let s := s.setFv P.DIO R.DIO_STAT_vfield steps
  let s := s.setFb P.DIO R.DIO_STAT_vf_off (decide (d.vfield < 16000))
  let s :=
    if d.vfield < 18000 then (s.setFv P.DIO R.DIO_STAT_vf_warn 1).irqIf (!s.fb P.DIO R.DIO_STAT_vf_warn) P.DIO 3
    else if d.vf18 then s.setFv P.DIO R.DIO_STAT_vf_warn 0
    else s
  -- arming and FAULT
  let wasArmed := s.fb P.DIO R.DIO_STAT_armed
  let wasFault := s.fb P.DIO R.DIO_STAT_fault
  let s := (s.setFb P.DIO R.DIO_STAT_armed d.armed).setFb P.DIO R.DIO_STAT_fault s.islandFault
  let s := s.irqIf (!wasFault && s.islandFault) P.DIO 2
  let s := if wasArmed && !d.armed then s.irq P.DIO 4 else s
  let s := if !wasArmed && d.armed then s.setFv P.DIO R.DIO_DO_STAT_trip 0 else s
  -- readback
  let s := s.setFv P.DIO R.DIO_DO_STAT_rb rb
  let tripped := bitsOf 8 (fun i => bitAt (s.fv P.DIO R.DIO_DO_STAT_trip) i ||
    (bitAt d.cmd i && !bitAt rb i && d.armed && decide (16000 ≤ d.vfield)))
  let s := s.setFv P.DIO R.DIO_DO_STAT_trip tripped
  let s := s.setFv P.DIO R.DIO_DO_STAT_stuck (bitsOf 8 (fun i => !(d.armed && bitAt d.cmd i) && bitAt rb i))
  -- inputs
  let newWb := bitsOf 16 (fun i => bitAt d.wb i && !bitAt (s.fv P.DIO R.DIO_DI_wb) i)
  let s := (s.setFv P.DIO R.DIO_DI_wb d.wb).setFv P.DIO R.DIO_DI_WB_wb (s.fv P.DIO R.DIO_DI_WB_wb ||| newWb)
  let s := s.irqIf (decide (newWb ≠ 0)) P.DIO 1
  let s := s.setFv P.DIO R.DIO_DI_state (bitsOf 16 (fun i => bitAt d.debounced i && !bitAt d.wb i))
  let s := edges.foldl (fun s e => s.setStamp P.DIO (R.DIO_ET_LO_t.nth e.1) (R.DIO_ET_HI_t.nth e.1) e.2) s
  let s := s.irqIf (!edges.isEmpty) P.DIO 0
  let s := s.satInc P.DIO R.DIO_DI_LOST_lost lost
  (s.showRearm.showThr, edges.map (fun e => (e.1, bitAt d.debounced e.1, e.2)))

/-- An up frame is good (R370): its CRC is right and its number is one more than that of the previous good frame. -/
def frameGood (prev : Option Nat) (ok : Bool) (seq : Nat) : Bool :=
  ok && decide (seq < 16) && prev.all (fun q => decide (seq = (q + 1) % 16))

/-- The frames that are missing before an arriving one, by the number of the latest that arrived; a frame whose CRC fails counts as the
one that was due. -/
def framesMissing (rx : Option Nat) (ok : Bool) (seq : Nat) : Nat :=
  match rx with
  | some q => if ok then (seq + 16 - (q + 1)) % 16 else 0
  | none => 0

/-- The number of the latest frame that arrived, after one arrives. -/
def frameArrived (rx : Option Nat) (ok : Bool) (seq : Nat) : Option Nat :=
  if ok then some (seq % 16) else rx.map (fun q => (q + 1) % 16)

/-- No good up frame for 1.0 ms (R370): diagnostic 9 fails. -/
def State.upLateA (s : State) : Bool := decide (s.dio.lastUp + msecs 1 ≤ s.now)

/-- An up frame arrives: the missing ones are counted (DIO_FRM_ERR.lost). -/
def State.upFrameSeen (s : State) (ok : Bool) (seq : Nat) : State :=
  let n := framesMissing s.dio.upRx ok seq
  { s.satInc P.DIO R.DIO_FRM_ERR_lost n with dio := { s.dio with upRx := frameArrived s.dio.upRx ok seq } }

/-- A frame that is discarded and counted (R370); the good ones are no longer consecutive. -/
def State.upFrameBad (s : State) : State :=
  { s.satInc P.DIO R.DIO_FRM_ERR_crc 1 with dio := { s.dio with goodUp := 0 } }

/-- LINK_A_LOST (R370, R372): no good up frame for 1.0 ms. -/
def execLinkALost (t : Nat) (s : State) : Host.Outcome State Fault Refusal :=
  let s := s.at t
  if !s.corOn ∨ s.fv P.DIO R.DIO_STAT_link ≠ 1 ∨ s.now < s.dio.lastUp + msecs 1 then .next s
  else
    let s := { s with dio := { s.dio with arm := false, goodUp := 0, upSeq := none, upRx := none } }
    let s := s.setFv P.DIO R.DIO_STAT_link (if s.fv P.DIO R.DIO_STAT_vfield < 65 then 2 else 0)
    let s := (s.irq P.DIO 6).showRearm.showThr
    .next ((s.sourceQuality 0x38 3).sourceQuality 0x39 3)

/-- The commands with which the lines start (R34, R381), and the arming at start-up (R35). -/
def State.dioStart (s : State) (lastEff : Nat) : State :=
  let own := bitsOf 8 (fun i =>
    if bitAt (s.fv P.DIO R.DIO_DO_CFG_retain) i then bitAt lastEff i else bitAt (s.fv P.DIO R.DIO_DO_CFG_start) i)
  let s := { s with dio := { s.dio with
    own := own, arm := false, startArm := true, first := true, heard := false, goodUp := 0, upSeq := none, upRx := none, vf18Seen := false, downRx := none, downSlot := none, upSlot := none, armed := false } }
  (s.outputsTimed.inputsFollow.showRearm.showThr.sourceQuality 0x38 3).sourceQuality 0x39 3

end Sys2Proof.Machine
end

