-- ==== Sys2Proof/Machine/Lpo.lean ====
section
/-! DEFINITION. Attic B: the barrier (R383–R386), the effective current (R387–R391), readback and compliance (R392–R396),
FSK frames (R397–R399). Currents are exact quantities in mA. -/

namespace Sys2Proof.Machine

open Sys2Proof

def State.loop (s : State) (ch : Nat) : LoopCh := s.lpo.ch.getD ch LoopCh.reset
def State.setLoop (s : State) (ch : Nat) (c : LoopCh) : State := { s with lpo := { s.lpo with ch := s.lpo.ch.set ch c } }

/-- 3.6 mA and 21.0 mA (R388). -/
def ma36 : Q := Q.frac 18 5
def ma21 : Q := Q.ofNat 21

/-- The range in force (R388). -/
def loopRange (ext : Bool) : Q × Q := if ext then (Q.zero, Q.ofNat 24) else (Q.frac 19 5, Q.frac 41 2)

/-- A value in mA is saturated to the range in force; the second part tells that it was outside. -/
def loopSat (ext : Bool) (q : Q) : Q × Bool :=
  let (lo, hi) := loopRange ext
  (Q.clip lo hi q, Q.lt q lo || Q.lt hi q)

/-! ### The effective current -/

/-- The breakpoints of the table in force: up to the last rising one (R390). -/
def State.loopTable (s : State) (ch : Nat) : List (Nat × Nat) :=
  let b := P.LPOCH ch
  let all := (List.range 16).map (fun i => (s.fv b (R.LPO_CH_TBL_x.nth i), s.fv b (R.LPO_CH_TBL_y.nth i)))
  let rec rise : Option Nat → List (Nat × Nat) → List (Nat × Nat)
    | _, [] => []
    | none, p :: l => p :: rise (some p.1) l
    | some x, p :: l => if x < p.1 then p :: rise (some p.1) l else []
  rise none all

/-- Linear between breakpoints, held beyond the end points; x in 1/65,535 of the span. -/
def tableAt (x : Q) : List (Nat × Nat) → Q
  | [] => Q.zero
  | [p] => Q.ofNat p.2
  | p :: q :: l =>
    if Q.le x (Q.ofNat p.1) then Q.ofNat p.2
    else if Q.le x (Q.ofNat q.1) then
      Q.add (Q.ofNat p.2) (Q.div (Q.mul (Q.sub x (Q.ofNat p.1)) (Q.ofInt ((q.2 : Int) - p.2))) (Q.ofInt ((q.1 : Int) - p.1)))
    else tableAt x (q :: l)

/-- The characteristic of a channel (R390); characteristics 1 and 2 give 4 to 20 mA only. -/
def State.loopShape (s : State) (ch : Nat) (i : Q) : Q :=
  let b := P.LPOCH ch
  let u := Q.div (Q.sub i (Q.ofNat 4)) (Q.ofNat 16)
  match s.fv b R.LPO_CH_CFG_char with
  | 1 =>
    if u.num < 0 ∨ Q.lt u (Q.frac (s.fv b R.LPO_CH_CUT_cut) 65536) then Q.ofNat 4
    else Q.min (Q.ofNat 20) (Q.add (Q.ofNat 4) (Q.mul (Q.ofNat 16) (ofB32 (b32Sqrt (toB32 u)))))
  | 2 =>
    let y := tableAt (Q.mul u (Q.ofNat 65535)) (s.loopTable ch)
    Q.add (Q.ofNat 4) (Q.mul (Q.ofNat 16) (Q.div y (Q.ofNat 65535)))
  | _ => i

/-- What fail_lvl gives (Table 15-1 row 0). -/
def State.loopFail (s : State) (ch : Nat) : Q :=
  match s.fv (P.LPOCH ch) R.LPO_CH_CFG_fail_lvl with
  | 1 => ma36
  | 2 => ma21
  | _ => (s.loop ch).cur

/-- The owner's value (Table 15-1 row 5): FBE's, LPO_CH_SET, or the speed reference of R450. -/
def State.loopOwner (s : State) (ch : Nat) : Option (Option Q) :=
  match s.fv (P.LPOCH ch) R.LPO_CH_CFG_own with
  | 0 => (s.loop ch).fbe.map b32Val?
  | 1 => some (b32Val? (s.fw (P.LPOCH ch) R.LPO_CH_SET_set))
  | _ => (s.rmpLoop ch).map some

/-- The row of Table 15-1, its current, whether it moves with the slew (rows 3–5), whether the value was saturated. -/
def State.loopSource (s : State) (ch : Nat) : Nat × Q × Bool × Bool :=
  let b := P.LPOCH ch
  let c := s.loop ch
  let ext := s.fb b R.LPO_CH_CFG_ext
  let given (row : Nat) (v : Option Q) : Nat × Q × Bool × Bool :=
    match v with
    | none => (row, s.loopFail ch, false, false)
    | some q =>
      let (x, sat) := loopSat ext q
      (row, s.loopShape ch x, true, sat && !(decide (row = 5) && decide (s.fv b R.LPO_CH_CFG_own = 1)))
  if s.lpo.lost then (0, s.loopFail ch, false, false)
  else if s.fb P.SAF R.SAF_STAT_safe then (1, if s.safLpo ch = 2 then ma21 else ma36, false, false)
  else if s.fb b R.LPO_CH_STAT_latched && s.fb b R.LPO_CH_CFG_comp_fail then (2, s.loopFail ch, false, false)
  else if s.fb b R.LPO_CH_CFG_park then (3, Q.ofNat 4, true, false)
  else match c.force with
    | some w => given 4 (b32Val? w)
    | none =>
      match c.start with
      | some q => (5, q, true, false)
      | none =>
        match s.loopOwner ch with
        | some v => given 5 v
        | none => (5, c.cur, true, false)

/-- Move towards a goal by at most `d`. -/
def towards (from_ goal d : Q) : Q :=
  if Q.lt from_ goal then Q.min goal (Q.add from_ d) else Q.max goal (Q.sub from_ d)

/-- The effective current of a channel after `dt` steps (R389–R391). A channel that is not in use is at 0 mA, or at 3.6 mA in
sink mode. In DORMANT what the rows 3 to 5 give is held (R26, R29, R386). -/
def State.loopStep (s : State) (ch dt : Nat) : State :=
  let b := P.LPOCH ch
  let (src, goal, slews, sat) := s.loopSource ch
  let rate := s.fv b R.LPO_CH_SLEW_rate
  let c := s.loop ch
  let cur :=
    if !s.fb b R.LPO_CH_CFG_en then (if s.fb b R.LPO_CH_CFG_sink then ma36 else Q.zero)
    else if s.ready && decide (s.pstate = 2) && decide (3 ≤ src) then c.cur
    else if slews && decide (rate ≠ 0) then towards c.cur goal (Q.div (Q.mul (Q.ofNat rate) (Q.ofNat dt)) (Q.ofNat 16777216))
    else goal
  let s := s.setLoop ch { c with cur := cur, kept := if s.corOn then cur else c.kept }
  let s := (s.setFv b R.LPO_CH_STAT_src src).setFb b R.LPO_CH_STAT_sat sat
  s.setFv b R.LPO_CH_EFF_eff (toB32 cur).toNat

/-- The thermal ceiling after `dt` steps (R394): the island judges its own temperature. -/
def State.loopCeil (s : State) (ch dt : Nat) : State :=
  let c := s.loop ch
  let temp := s.lpo.temp
  let fold := Q.ofNat (s.fv P.LPO R.LPO_THERM_t_fold)
  let low := Q.sub fold (Q.ofNat (s.fv P.LPO R.LPO_THERM_t_hyst))
  -- slew in µA/ms is mA/s
  let d := Q.div (Q.mul (Q.ofNat (s.fv P.LPO R.LPO_THERM_slew)) (Q.ofNat dt)) (Q.ofNat 16777216)
  let ceil := if Q.lt fold temp then Q.max ma36 (Q.sub c.ceil d) else if Q.lt temp low then Q.min (Q.ofNat 24) (Q.add c.ceil d) else c.ceil
  let fold1 := Q.lt ceil c.cur
  let was := s.fb (P.LPOCH ch) R.LPO_CH_STAT_fold
  let s := s.setLoop ch { c with ceil := ceil }
  ((s.setFb (P.LPOCH ch) R.LPO_CH_STAT_fold fold1).irqIf (fold1 && !was) (P.LPOCH ch) 1)

/-- The island is unpowered (R385): VLOOP below 9.0 V and not loop-powered. -/
def State.atticBOff (s : State) : Bool := decide (s.lpo.vloop < 9000) && !s.lpo.lpow

/-- The conditions of diagnostic 11 have held for 20 ms on a channel (R465). -/
def State.loopFails (s : State) (ch : Nat) : Bool := (s.loop ch).wrong.any (fun w => decide (w + msecs 20 ≤ s.now))

/-- The regulated current after the ceiling and the floor (R384, R385, R391), the target, its compliance (R395) and what
diagnostic 11 judges (R465). From its power-up to
the first good down frame the island drives 0 mA, or 3.6 mA in sink mode. -/
def State.loopRegulate (s : State) (ch : Nat) : State :=
  let b := P.LPOCH ch
  let c := s.loop ch
  let sink := s.fb b R.LPO_CH_CFG_sink
  let limited := Q.min c.cur c.ceil
  let target := if s.lpo.lpow && sink then Q.max ma36 limited else limited
  let out :=
    if s.atticBOff then (if sink then Q.min ma36 target else Q.zero)
    else if s.lpo.fresh then (if sink then ma36 else Q.zero)
    else if s.lpo.lpow && !sink then Q.zero
    else target
  let off := Q.abs (Q.sub (ofB32 (s.fw b R.LPO_CH_RB_rb)) target)
  let cond := Q.lt (Q.frac 16 1000) off && Q.lt (ofB32 (s.fw b R.LPO_CH_HR_hr)) Q.one
  let moved := !Q.eq target c.target
  let holds := if cond then (if moved then some s.now else some (c.holds.getD s.now)) else none
  let absent := if cond then none else (if moved then some s.now else some (c.absent.getD s.now))
  let bad := (Q.lt (Q.frac 32 1000) off && Q.le Q.one (ofB32 (s.fw b R.LPO_CH_HR_hr))) || (s.fb b R.LPO_CH_STAT_fold && s.fb P.SAF R.SAF_CFG_fold_fault)
  let wrong := if bad then (if moved then some s.now else some (c.wrong.getD s.now)) else none
  let s := s.failsUntil 11 (bitAt (s.fv P.SAF R.SAF_LPO_MON_mask) ch && s.loopFails ch && decide (wrong ≠ c.wrong))
  s.setLoop ch { c with out := out, target := target, holds := holds, absent := absent, wrong := wrong }

/-- REGULATION_STEP (R391, R394, R395): every 50 µs, or every 200 µs while loop-powered. -/
def execRegulationStep (t : Nat) (s : State) : Host.Outcome State Fault Refusal :=
  let s := s.at t
  let dt := s.now - s.lpo.stepAt
  let s := { s with lpo := { s.lpo with stepAt := s.now } }
  let s := (List.range 4).foldl (fun s ch => ((s.loopStep ch dt).loopCeil ch dt).loopRegulate ch) s
  let hot := (List.range 4).any (fun ch => Q.lt (s.loop ch).ceil (Q.ofNat 24))
  let was := s.fb P.LPO R.LPO_STAT_hot
  .next ((s.setFb P.LPO R.LPO_STAT_hot hot).irqIf (hot != was) P.LPO 2)

/-- COMPLIANCE_SET (R395, R396): the condition has held for 20 ms. -/
def execComplianceSet (t : Nat) (ch : Fin 4) (s : State) : Host.Outcome State Fault Refusal :=
  let s := s.at t
  let b := P.LPOCH ch
  match (s.loop ch).holds with
  | some h =>
    if h + msecs 20 ≤ s.now ∧ !s.fb b R.LPO_CH_STAT_compliance then
      let s := (s.setFv b R.LPO_CH_STAT_compliance 1).irq b 0
      .next (if s.fb b R.LPO_CH_CFG_comp_fail then s.setFv b R.LPO_CH_STAT_latched 1 else s)
    else .next s
  | none => .next s

/-- COMPLIANCE_CLEAR (R395): the condition has been absent for 20 ms. -/
def execComplianceClear (t : Nat) (ch : Fin 4) (s : State) : Host.Outcome State Fault Refusal :=
  let s := s.at t
  let b := P.LPOCH ch
  match (s.loop ch).absent with
  | some h => .next (if h + msecs 20 ≤ s.now then s.setFv b R.LPO_CH_STAT_compliance 0 else s)
  | none => .next s

/-- LPO_CH_CTRL.clr_comp (R396): the latch ends and compliance is judged afresh from zero. -/
def State.clrComp (s : State) (ch : Nat) : State :=
  let b := P.LPOCH ch
  let s := (s.setFv b R.LPO_CH_STAT_latched 0).setFv b R.LPO_CH_STAT_compliance 0
  let c := s.loop ch
  s.setLoop ch { c with holds := c.holds.map (fun _ => s.now), absent := c.absent.map (fun _ => s.now) }

/-- A write of LPO_CH_SET (R389): the range in force; a non-finite value, and a channel not owned by the host, keep the
previous value. -/
def State.loopSet (s : State) (ch : Nat) (v : Word) : State :=
  let b := P.LPOCH ch
  let prev := s.fw b R.LPO_CH_SET_set
  let own := decide (s.fv b R.LPO_CH_CFG_own = 1)
  let st : Word :=
    if !own || !b32Finite v then prev
    else
      let (q, out) := loopSat (s.fb b R.LPO_CH_CFG_ext) (ofB32 v)
      if out then toB32 q else v
  let s := if st = v then s else s.clampAt b R.LPO_CH_SET_set.off 0 true v.toNat st.toNat
  let s := s.setReg (b + R.LPO_CH_SET_set.off) st
  if own then s.setLoop ch { s.loop ch with start := none } else s

/-- FBE gives a loop channel its value (R315, R389). -/
def State.fbeLoop (s : State) (ch : Nat) (v : Word) : State :=
  if s.fv (P.LPOCH ch) R.LPO_CH_CFG_own = 0 then s.setLoop ch { s.loop ch with fbe := some v, start := none } else s

/-! ### Barrier frames -/

/-- The frame period of an instant (R383): 50 µs, 200 µs while the island is loop-powered. -/
def State.frameSlotB (s : State) : Nat := frameSlot s.now / (if s.lpo.lpow then 4 else 1)

/-- What a channel starts with (R34 step 6, R385): its last effective current, or its start current. -/
def State.loopStartAt (s : State) (ch : Nat) : Q :=
  if s.fb (P.LPOCH ch) R.LPO_CH_CFG_retain then (s.loop ch).kept else ofB32 (s.fw (P.LPOCH ch) R.LPO_CH_START_start)

/-- The island takes a good down frame: at the first since its power-up it drives each channel under R34 step 6 (R385), and no fail current
stands from before; the ramp generator gives its reference from the first frame on. -/
def State.islandBTakes (s : State) : State :=
  let fresh := s.lpo.fresh
  let give (s : State) (ch : Nat) : State :=
    let c := s.loop ch
    let s := if fresh then s.setLoop ch { c with cur := s.loopStartAt ch, start := some (s.loopStartAt ch) } else s
    if decide (s.fv (P.LPOCH ch) R.LPO_CH_CFG_own = 2) && (s.rmpLoop ch).isSome then s.setLoop ch { s.loop ch with start := none } else s
  (List.range 4).foldl give { s with lpo := { s.lpo with lastDown := s.now, fresh := false, lost := s.lpo.lost && !fresh } }

/-- DOWN_FRAME_B (R383, R385, R386, R389): one in each frame period. The powered island takes the effective currents of a frame that arrives good
in its sequence; a link test's pattern carries none. -/
def execDownFrameB (t : Nat) (ok : Bool) (s : State) : Host.Outcome State Fault Refusal :=
  let s := s.at t
  if !s.corOn || decide (s.lpo.downSlot = some s.frameSlotB) then .next s
  else
    let seq := (s.lpo.downSeq + 1) % 16
    let good := ok && !s.atticBOff && s.lpo.downRx.all (fun q => decide (seq = (q + 1) % 16))
    let s : State := { s with lpo := { s.lpo with
      downSeq := seq, downSlot := some s.frameSlotB, downRx := if good then some seq else s.lpo.downRx } }
    .next (if !good || s.linkTest 2 then s else s.islandBTakes)

/-- ISLAND_B_FAIL (R386): no good down frame for 1.0 ms, whatever the power of COR and the cellar; every channel goes to fail_lvl. -/
def execIslandBFail (t : Nat) (s : State) : Host.Outcome State Fault Refusal :=
  let s := s.at t
  if Nat.max t s.now < s.lpo.lastDown + msecs 1 then .next s
  else
    let s := { s with lpo := { s.lpo with lost := true, downRx := none } }
    .next ((List.range 4).foldl (fun s ch => s.loopStep ch 0) s)

/-- An enabled sink channel carries at least 3.6 mA (R384). -/
def State.sinkCarries (s : State) : Bool :=
  (List.range 4).any (fun ch =>
    s.fb (P.LPOCH ch) R.LPO_CH_CFG_en && s.fb (P.LPOCH ch) R.LPO_CH_CFG_sink && Q.le ma36 (s.loop ch).out)

/-- The island's supply (R384, R385): VLOOP at `mV`; `term`: a sink channel that carries 3.6 mA has its minimum terminal voltage. -/
def State.islandSupply (s : State) (mV : Nat) (term : Bool) : State :=
  let lpow := decide (mV < 9000) && term && s.sinkCarries
  let off := decide (mV < 9000) && !lpow
  { s with lpo := { s.lpo with vloop := mV, lpow := lpow, fresh := s.lpo.fresh || off, downRx := if off then none else s.lpo.downRx } }

/-- LOOP_POWER_CHANGE (R384): VLOOP crosses 9.0 V, or a sink channel begins or ceases to carry the island. -/
def execLoopPowerChange (t mV : Nat) (carries : Bool) (s : State) : Host.Outcome State Fault Refusal :=
  let s := (s.at t).islandSupply mV carries
  .next ((List.range 4).foldl (fun s ch => s.loopRegulate ch) s)

/-- The carriers that the island detects (R397, R398), none of them its own transmission: LPO_FSK_STAT.carrier, and a wake source in DORMANT
(R399). -/
def State.carriers (s : State) (bits : Nat) : State :=
  (List.range 4).foldl (fun (s : State) ch =>
    let b := P.LPOCH ch
    let on := bitAt bits ch && s.fb b R.LPO_CH_CFG_fsk && (s.loop ch).sending.isEmpty
    let s := s.setFb b R.LPO_FSK_STAT_carrier on
    let s := if on then s.setLoop ch { s.loop ch with carrierAt := some s.now } else s
    if on && s.fb b R.LPO_CH_CFG_wake && decide (s.fv P.LPO R.LPO_STAT_link = 1) then s.wakeSource 3 else s) s

/-- No good up frame for 1.0 ms, or 1.25 ms while loop-powered (R383): diagnostic 10 fails. -/
def State.upLateB (s : State) : Bool := decide (s.lpo.lastUp + (if s.lpo.lpow then usecs 1250 else msecs 1) ≤ s.now)

/-- UP_FRAME_B (R383, R392): readback and headroom of each channel, the island's temperature and supply, the carriers detected; a bad frame is
counted. The fail current ends once the link is valid and down frames arrive again (R386). -/
def execUpFrameB (t : Nat) (ok : Bool) (seq carrier : Nat) (temp : Q) (rb hr : List Q) (s : State) : Host.Outcome State Fault Refusal :=
  let s := s.at t
  let s := { s with lpo := { s.lpo with temp := temp } }
  if !s.corOn || s.linkTest 2 then .next s
  else
    let good := frameGood s.lpo.upSeq ok seq
    let s := s.satInc P.LPO R.LPO_FRM_ERR_lost (framesMissing s.lpo.upRx ok seq)
    let s := { s with lpo := { s.lpo with upRx := frameArrived s.lpo.upRx ok seq } }
    if !good then .next { s.satInc P.LPO R.LPO_FRM_ERR_crc 1 with lpo := { s.lpo with goodUp := 0 } }
    else
    let n := s.lpo.goodUp + 1
    let s := s.failsUntil 10 s.upLateB
    let rise := decide (20 ≤ n) && decide (s.fv P.LPO R.LPO_STAT_link ≠ 1)
    let valid := decide (20 ≤ n) || decide (s.fv P.LPO R.LPO_STAT_link = 1)
    let s := { s with lpo := { s.lpo with
      goodUp := Nat.min 20 n, upSeq := some seq, lastUp := s.now
      upOff := decide (s.lpo.vloop < 9000) && !s.sinkCarries
      lost := s.lpo.lost && !(valid && decide (s.now < s.lpo.lastDown + msecs 1)) } }
    let s := if rise then (s.setFv P.LPO R.LPO_STAT_link 1).irq P.LPO 0 else s
    let was := s.fb P.LPO R.LPO_STAT_lpow
    let s := (s.setFb P.LPO R.LPO_STAT_lpow s.lpo.lpow).irqIf (was != s.lpo.lpow) P.LPO 1
    let s := s.setFv P.LPO R.LPO_STAT_vloop (Nat.min 255 (s.lpo.vloop / 200))
    let s := s.setFv P.LPO R.LPO_TEMP_temp (toB32 temp).toNat
    let one (s : State) (ch : Nat) : State :=
      let s := s.setFv (P.LPOCH ch) R.LPO_CH_RB_rb (toB32 (rb.getD ch Q.zero)).toNat
      s.setFv (P.LPOCH ch) R.LPO_CH_HR_hr (toB32 (hr.getD ch Q.zero)).toNat
    .next (((List.range 4).foldl one s).carriers carrier)

/-! ### FSK (R397–R399) -/

/-- The transmission of a channel ends with tx_err (R398). -/
def State.txFail (s : State) (ch : Nat) : State :=
  let b := P.LPOCH ch
  if !s.fb b R.LPO_FSK_STAT_tx_busy then s
  else
    let s := (s.setFv b R.LPO_FSK_STAT_tx_busy 0).irq b 5
    s.setLoop ch { s.loop ch with sending := [] }

/-- LINK_B_LOST (R383): no good up frame for 1.0 ms. Points 0x0050–0x0057 are BAD, transmissions end (R392, R398). -/
def execLinkBLost (t : Nat) (s : State) : Host.Outcome State Fault Refusal :=
  let s := s.at t
  if !s.corOn ∨ s.fv P.LPO R.LPO_STAT_link ≠ 1 ∨ s.now < s.lpo.lastUp + msecs 1 then .next s
  else
    let s := { s with lpo := { s.lpo with goodUp := 0, upSeq := none, upRx := none, lost := true } }
    let s := (s.setFv P.LPO R.LPO_STAT_link (if s.lpo.upOff then 2 else 0)).irq P.LPO 0
    let s := (List.range 4).foldl (fun s ch => (s.txFail ch).loopStep ch 0) s
    .next ((List.range 8).foldl (fun s i => s.sourceQuality (0x50 + i) 3) s)

/-- Bytes of a page's words from an offset on. -/
def State.pageBytes (s : State) (b off n : Nat) : List Byte :=
  ((List.range ((n + 3) / 4)).flatMap (fun i => Word.bytes (s.reg (b + off + 4 * i)))).take n

/-- Store bytes into a page's words from an offset on, zero-filled to the word. -/
def State.setPageBytes (s : State) (b off : Nat) (l : List Byte) : State :=
  (List.range ((l.length + 3) / 4)).foldl (fun s i => s.setReg (b + off + 4 * i) (word (leNat ((l.drop (4 * i)).take 4)))) s

/-- The longitudinal parity: the XOR of every byte from the delimiter on. -/
def xorBytes (l : List Byte) : Byte := l.foldl (fun a b => a ^^^ b) 0#8

/-- LPO_CH_CTRL.tx_go (R398). -/
def State.txGo (s : State) (ch : Nat) : State :=
  let b := P.LPOCH ch
  if s.fb b R.LPO_FSK_STAT_tx_busy then s.clampAt b 0x54 1 true 1 0
  else if s.fb b R.LPO_CH_CFG_fsk && decide (s.fv P.LPO R.LPO_STAT_link = 1) then s.setFv b R.LPO_FSK_STAT_tx_busy 1
  else s

/-- Carrier has been absent for 2 bit times (R398). -/
def State.carrierGone (s : State) (ch : Nat) : Bool :=
  !s.fb (P.LPOCH ch) R.LPO_FSK_STAT_carrier && (s.loop ch).carrierAt.all (fun a => decide (2 * secs 1 ≤ (s.now - a) * 1200))

/-- FSK_TX_START (R398): carrier absent for 2 bit times; the preamble, the buffer and the check byte go out. -/
def execFskTxStart (t : Nat) (ch : Fin 4) (s : State) : Host.Outcome State Fault Refusal :=
  let s := s.at t
  let b := P.LPOCH ch
  if s.fb b R.LPO_FSK_STAT_tx_busy && (s.loop ch).sending.isEmpty && s.carrierGone ch then
    let frame := s.pageBytes b 0x400 (s.fv b R.LPO_FSK_TXLEN_len)
    let chk := if s.fb b R.LPO_FSK_CFG_add_chk then [xorBytes frame] else []
    .next (s.setLoop ch { s.loop ch with txFrom := s.now, sending := List.replicate (s.fv b R.LPO_FSK_CFG_tx_pre) 0xFF#8 ++ frame ++ chk })
  else .next s

/-- TX_DONE (R397, R398): every byte has gone out, 11 bits each at 1,200 bit/s. -/
def execTxDone (t : Nat) (ch : Fin 4) (s : State) : Host.Outcome State Fault Refusal :=
  let s := s.at t
  let b := P.LPOCH ch
  let bits := 11 * (s.loop ch).sending.length
  if s.fb b R.LPO_FSK_STAT_tx_busy && decide (0 < bits) && decide (bits * secs 1 ≤ (s.now - (s.loop ch).txFrom) * 1200) then
    let s := (s.setFv b R.LPO_FSK_STAT_tx_busy 0).irq b 3
    .next (s.setLoop ch { s.loop ch with sending := [] })
  else .next s

/-- The characters from the delimiter on (R399): after at least `pre` characters of 0xFF, the first other one whose bits
[2:0] are 1, 2 or 6; otherwise counting resumes. -/
def fskFrom (pre : Nat) : Nat → List (Byte × Bool) → List (Byte × Bool)
  | _, [] => []
  | k, c :: l =>
    if c.1 = 0xFF#8 then fskFrom pre (k + 1) l
    else if pre ≤ k ∧ (c.1.toNat % 8 = 1 ∨ c.1.toNat % 8 = 2 ∨ c.1.toNat % 8 = 6) then c :: l
    else fskFrom pre 0 l

/-- The frame length (R399 step 3), once the byte-count character is there. -/
def fskLength (l : List (Byte × Bool)) : Option Nat :=
  match l with
  | [] => none
  | d :: _ =>
    let head := 1 + (if d.1.toNat / 128 = 1 then 5 else 1) + d.1.toNat / 32 % 4 + 2
    (l[head - 1]?).map (fun c => head + c.1.toNat + 1)

/-- RX_FRAME (R399): the characters received up to the end of the carrier, each with its parity right or not, and the stamp
of the delimiter's start bit. The node does not receive its own transmission (R398). -/
def execRxFrame (t : Nat) (ch : Fin 4) (stamp : Nat) (chars : List (Byte × Bool)) (s : State) : Host.Outcome State Fault Refusal :=
  let s := s.at t
  let b := P.LPOCH ch
  if !(s.loop ch).sending.isEmpty then .next s
  else
  let s := (s.setFv b R.LPO_FSK_STAT_carrier 0).setLoop ch { s.loop ch with carrierAt := some s.now }
  -- a received carrier is a wake source (Table 21-2)
  let s := if s.fb b R.LPO_CH_CFG_wake && s.fb b R.LPO_CH_CFG_fsk && decide (s.fv P.LPO R.LPO_STAT_link = 1) then s.wakeSource 3 else s
  let l := fskFrom (s.fv b R.LPO_FSK_CFG_rx_pre) 0 chars
  if l.isEmpty ∨ !s.fb b R.LPO_CH_CFG_fsk ∨ s.fv P.LPO R.LPO_STAT_link ≠ 1 then .next s
  else if s.fb b R.LPO_FSK_STAT_rx_full then .next (s.satInc b R.LPO_FSK_STAT_rx_lost 1)
  else
    let want := fskLength l
    let beyond := want.any (fun n => decide (272 < n))
    let short := want.all (fun n => decide (l.length < n))
    let frame := l.take (Nat.min 272 (want.getD 272))
    let bytes := frame.map (fun c => c.1)
    let err := if beyond then 3 else if frame.any (fun c => !c.2) then 1 else if short then 4 else if xorBytes bytes ≠ 0#8 then 2 else 0
    let s := s.setStamp b R.LPO_FSK_RX_T_LO_t R.LPO_FSK_RX_T_HI_t (Nat.min stamp s.now)
    let s := s.setPageBytes b 0x200 bytes
    let s := ((s.setFv b R.LPO_FSK_STAT_rx_len bytes.length).setFv b R.LPO_FSK_STAT_rx_full 1).setFv b R.LPO_FSK_STAT_err err
    .next ((s.irqIf (!short || beyond) b 2).irqIf (decide (err ≠ 0)) b 4)

/-- An LPO_CH_CTRL write: clr_comp, tx_abort, tx_go, rx_rel. -/
def State.loopCtrl (s : State) (ch : Nat) (v : Word) : State :=
  let s := if v.getLsbD 0 then s.clrComp ch else s
  let s := if v.getLsbD 2 then s.txFail ch else s
  let s := if v.getLsbD 1 then s.txGo ch else s
  if v.getLsbD 3 then (s.setFv (P.LPOCH ch) R.LPO_FSK_STAT_rx_full 0) else s

/-- A commit of a channel's page: a change of sink ends its transmission (R398), and what no longer carries the island powers it no more
(R384); a compliance that is set is latched where comp_fail is now 1 (R396). -/
def State.loopCommitted (s old : State) (ch : Nat) : State :=
  let b := P.LPOCH ch
  let s := if s.fb b R.LPO_CH_CFG_sink = old.fb b R.LPO_CH_CFG_sink then s else s.txFail ch
  let s := if s.fb b R.LPO_CH_CFG_comp_fail && s.fb b R.LPO_CH_STAT_compliance then s.setFv b R.LPO_CH_STAT_latched 1 else s
  s.islandSupply s.lpo.vloop s.lpo.lpow

/-- LPO_CLR.clr. -/
def State.lpoClr (s : State) : State :=
  let s := (s.setFv P.LPO R.LPO_FRM_ERR_crc 0).setFv P.LPO R.LPO_FRM_ERR_lost 0
  (List.range 4).foldl (fun s ch => s.setFv (P.LPOCH ch) R.LPO_FSK_STAT_rx_lost 0) s

/-- What each channel starts with (R34 step 6, R385, R401); a fail current stands until the link is valid again (R386). -/
def State.lpoStart (s : State) : State :=
  let one (s : State) (ch : Nat) : State :=
    let b := P.LPOCH ch
    let c := s.loop ch
    let q := s.loopStartAt ch
    let s := s.setLoop ch { c with cur := if s.lpo.lost then c.cur else q, carrierAt := none, start := some q, fbe := none, holds := none, absent := none, wrong := none, sending := [] }
    (s.setPageBytes b 0x400 (List.replicate 272 0#8)).setPageBytes b 0x200 (List.replicate 272 0#8)
  (List.range 4).foldl one { s with lpo := { s.lpo with goodUp := 0, upSeq := none, upRx := none, downSlot := none, stepAt := s.now } }

/-- The values that depend on others committed with them (Table 15-6): park with own 2, the start current in the range in
force, the table cut at its last rising breakpoint, char 0 for a table of fewer than 2 entries. -/
def loopFixes (s : State) (b : Nat) (c : Cand) : List (Field × Nat) :=
  let park := if c.fv s b R.LPO_CH_CFG_own = 2 then 0 else c.fv s b R.LPO_CH_CFG_park
  let w := word (c.fv s b R.LPO_CH_START_start)
  let start :=
    if !b32Finite w then s.fv b R.LPO_CH_START_start
    else
      let (q, out) := loopSat (decide (c.fv s b R.LPO_CH_CFG_ext = 1)) (ofB32 w)
      if out then (toB32 q).toNat else w.toNat
  let xs := (List.range 16).map (fun i => c.fv s b (R.LPO_CH_TBL_x.nth i))
  let used := (List.range 16).takeWhile (fun i => i = 0 || decide (xs.getD (i - 1) 0 < xs.getD i 0))
  let ch := Nat.min 2 (c.fv s b R.LPO_CH_CFG_char)
  let char := if used.length < 2 ∧ ch = 2 then 0 else ch
  [(R.LPO_CH_CFG_char, char), (R.LPO_CH_CFG_park, park), (R.LPO_CH_START_start, start)] ++
    ((List.range 16).drop used.length).flatMap (fun i => [(R.LPO_CH_TBL_x.nth i, 0), (R.LPO_CH_TBL_y.nth i, 0)])

end Sys2Proof.Machine
end

