-- ==== Sys2Proof/Machine/Can.lean ====
section
/-! DEFINITION. The CAN ports: modes and bit timing (R404–R408), receive objects and priority match buffers (R410–R413),
transmission, cancels and collisions (R414–R419), error confinement (R420), sleep and wake (R421). Where R420 follows
ISO 11898-1:2015, the counting steps are that standard's. -/

namespace Sys2Proof.Machine

open Sys2Proof

def State.port (s : State) (p : Nat) : CanPort := if p = 0 then s.can.a else s.can.b
def State.setPort (s : State) (p : Nat) (x : CanPort) : State :=
  if p = 0 then { s with can := { s.can with a := x } } else { s with can := { s.can with b := x } }

/-- The page and the index of an object (R409). -/
def objPage (p o : Nat) : Nat := P.CANOBJ p (o / 32)
def State.objFv (s : State) (p o : Nat) (f : Field) : Nat := s.fv (objPage p o) (f.nth (o % 32))
def State.objFb (s : State) (p o : Nat) (f : Field) : Bool := decide (s.objFv p o f ≠ 0)
def State.setObj (s : State) (p o : Nat) (f : Field) (v : Nat) : State := s.setFv (objPage p o) (f.nth (o % 32)) v

/-- An object raises an event of its page, where CAN_OBJ_IEN enables it. -/
def State.objEvent (s : State) (p o n : Nat) : State :=
  let b := objPage p o
  if bitAt (s.fv b R.CAN_OBJ_IEN_ien) (o % 32) then
    (s.setReg (b + R.CAN_OBJ_EV_ev.off) (s.reg (b + R.CAN_OBJ_EV_ev.off) ||| word (2 ^ (o % 32)))).irq b n
  else s

/-- The mode, fd_en and pex in force (R408). -/
def State.canMode (s : State) (p : Nat) : Nat := Word.bits ((s.port p).cfg.getD 0 0#32) 0 2
def State.canFdEn (s : State) (p : Nat) : Bool := ((s.port p).cfg.getD 0 0#32).getLsbD 2
def State.canPex (s : State) (p : Nat) : Bool := ((s.port p).cfg.getD 0 0#32).getLsbD 3
def State.canState (s : State) (p : Nat) : Nat := s.fv (P.CAN p) R.CAN_STAT_state
def State.setCanState (s : State) (p n : Nat) : State := s.setFv (P.CAN p) R.CAN_STAT_state n
/-- The port takes part in bus traffic: error active or passive, and not under a link test (R519). -/
def State.canOn (s : State) (p : Nat) : Bool :=
  decide (s.canMode p ≠ 0) && (decide (s.canState p = 2) || decide (s.canState p = 3)) && !s.linkTest (4 + p) && s.domainOn 9

/-- The columns "Sends ACK" and "Sends error and overload flags" of Table 16-1. -/
def State.canAcks (s : State) (p : Nat) : Bool := decide (s.canMode p = 1) || decide (s.canMode p = 3)
def State.canFlags (s : State) (p : Nat) : Bool := decide (s.canMode p = 1)

/-- Bytes that a DLC stands for (ISO 11898-1). -/
def dlcLen (fd : Bool) (dlc : Nat) : Nat :=
  if dlc ≤ 8 then dlc else if !fd then 8 else [12, 16, 20, 24, 32, 48, 64].getD (dlc - 9) 64

/-- The bits of the arbitration field as a number: the lower one wins. -/
def arbKey (f : CanFrame) : Nat :=
  let r := if f.rtr then 1 else 0
  if f.ide then f.id / 2 ^ 18 * 2 ^ 21 + 2 ^ 20 + 2 ^ 19 + f.id % 2 ^ 18 * 2 + r
  else f.id % 2 ^ 11 * 2 ^ 21 + r * 2 ^ 20

/-- A filter matches a frame (R410). -/
def idMatches (ide : Bool) (id mask : Nat) (f : CanFrame) : Bool :=
  decide (f.ide = ide) && decide ((f.id ^^^ id) &&& mask = 0)

/-! ### Error confinement (R420) -/

/-- Show the counters, ewarn and the state that follows from them; passive, ewarn and bus-off are events. -/
def State.canShow (s : State) (p : Nat) : State :=
  let b := P.CAN p
  let x := s.port p
  let s := (s.setFv b R.CAN_STAT_tec (Nat.min 255 x.txErr)).setFv b R.CAN_STAT_rec (Nat.min 255 x.rxErr)
  let warn := decide (96 ≤ x.txErr) || decide (96 ≤ x.rxErr)
  let s := (s.irqIf (warn && !s.fb b R.CAN_STAT_ewarn) b 2).setFb b R.CAN_STAT_ewarn warn
  if s.canState p ≠ 2 ∧ s.canState p ≠ 3 then s
  else if 255 < x.txErr then
    ((s.setCanState p 4).satInc b R.CAN_CNT_boff 1).irq b 0
  else
    let passive := decide (128 ≤ x.txErr) || decide (128 ≤ x.rxErr)
    (s.irqIf (passive && decide (s.canState p = 2)) b 1).setCanState p (if passive then 3 else 2)

/-- A successful transmission or reception in NORMAL mode counts down (ISO 11898-1); a REC above 127 falls to a value between
119 and 127. -/
def State.canGood (s : State) (p : Nat) (tx : Bool) : State :=
  if s.canMode p ≠ 1 then s
  else
    let x := s.port p
    if tx then (s.setPort p { x with txErr := x.txErr - 1 }).canShow p
    else if x.rxErr ≤ 127 then (s.setPort p { x with rxErr := x.rxErr - 1 }).canShow p
    else
      let (w, s) := s.draw
      (s.setPort p { x with rxErr := 119 + w.toNat % 9 }).canShow p

/-! ### Transmit objects -/

def State.txBuf (s : State) (p o : Nat) : TxBuf := SMap.get (fun _ => TxBuf.reset) (s.port p).bufs o
def State.setTxBuf (s : State) (p o : Nat) (x : TxBuf) : State :=
  let pt := s.port p
  s.setPort p { pt with bufs := SMap.put (fun _ => TxBuf.reset) pt.bufs o x }

/-- The frame that an object's registers hold (R414). -/
def State.objFrame (s : State) (p o : Nat) : CanFrame :=
  let fd := s.objFb p o R.CAN_OBJ_CFG_fd
  let dlc := s.objFv p o R.CAN_OBJ_CFG_dlc
  { ide := s.objFb p o R.CAN_OBJ_ID_ide, rtr := s.objFb p o R.CAN_OBJ_CFG_rtr, fd := fd, brs := s.objFb p o R.CAN_OBJ_CFG_brs,
    id := s.objFv p o R.CAN_OBJ_ID_id, dlc := dlc, data := s.pageBytes (objPage p o) (0x800 + o % 32 * 0x40) (dlcLen fd dlc) }

def State.tstate (s : State) (p o : Nat) : Nat := s.objFv p o R.CAN_OBJ_STAT_tstate

/-- Port A leaves sleep (R421): it integrates before it takes part. -/
def State.canWakeUp (s : State) : State :=
  let s := s.setFv (P.CAN 0) R.CAN_CTRL_sleep 0
  if s.canState 0 = 6 then s.setCanState 0 (if s.canMode 0 = 0 then 0 else 1) else s

/-- A send in RUN or LEAN clears sleep (R421). -/
def State.sendWakes (s : State) (p : Nat) : State :=
  if p = 0 && s.fb (P.CAN 0) R.CAN_CTRL_sleep && decide (s.pstate ≤ 1) then s.canWakeUp else s

/-- Queue a frame for an object (R414, R421). -/
def State.queueFrame (s : State) (p o : Nat) (f : CanFrame) : State :=
  let b := s.txBuf p o
  let s :=
    if s.tstate p o = 2 then s.setTxBuf p o { b with next := [f] }
    else (s.setTxBuf p o { TxBuf.reset with frame := f }).setObj p o R.CAN_OBJ_STAT_tstate 1
  s.sendWakes p

/-- An object is cancelled before its next attempt (R417). -/
def State.cancelled (s : State) (p o : Nat) : State :=
  ((s.setTxBuf p o TxBuf.reset).setObj p o R.CAN_OBJ_STAT_tstate 5).setObj p o R.CAN_OBJ_STAT_cres 1

/-- CAN_OBJ_CTRL.cancel (R417). -/
def State.cancelObj (s : State) (p o : Nat) : State :=
  match s.tstate p o with
  | 1 => s.cancelled p o
  | 2 => (s.setTxBuf p o { s.txBuf p o with late := true }).setObj p o R.CAN_OBJ_STAT_cres 2
  | _ => s.setObj p o R.CAN_OBJ_STAT_cres 3

/-- May this party send an object (R404, R416)? `party` 0 is the host, 1 FBE, 2 ALH. -/
def State.maySend (s : State) (p o party : Nat) : Bool :=
  decide (s.canMode p = 1) && s.objFb p o R.CAN_OBJ_CFG_en && s.objFb p o R.CAN_OBJ_CFG_dir &&
    decide (s.objFv p o R.CAN_OBJ_CFG_own = party)

/-- CAN_OBJ_CTRL.release (R410, Table 16-3). -/
def State.releaseObj (s : State) (p o : Nat) : State :=
  if s.objFb p o R.CAN_OBJ_CFG_dir then
    (if 3 ≤ s.tstate p o then s.setObj p o R.CAN_OBJ_STAT_tstate 0 else s)
  else (s.setObj p o R.CAN_OBJ_STAT_new 0).setObj p o R.CAN_OBJ_STAT_lost 0

/-- A CAN_OBJ_CTRL write of object `o`: send, cancel, release, resume. -/
def State.objCtrl (s : State) (p o : Nat) (v : Word) : State :=
  let b := objPage p o
  let off := R.CAN_OBJ_CTRL_send.off + o % 32 * 0x20
  let s :=
    if !v.getLsbD 0 then s
    else if s.maySend p o 0 then s.queueFrame p o (s.objFrame p o)
    else s.clampAt b off 0 true 1 0
  let s := if v.getLsbD 1 then s.cancelObj p o else s
  let s := if v.getLsbD 2 then s.releaseObj p o else s
  if !v.getLsbD 3 then s
  else if s.tstate p o = 4 then s.setObj p o R.CAN_OBJ_STAT_tstate 1
  else s.clampAt b off 3 true 1 0

/-- The object whose frame the port offers: the lowest arbitration field, then the lower number (R414). -/
def State.canNext (s : State) (p : Nat) : Option Nat :=
  (List.range 128).foldl (fun best o =>
    if s.tstate p o ≠ 1 then best
    else match best with
      | none => some o
      | some q => if arbKey (s.txBuf p o).frame < arbKey (s.txBuf p q).frame then some o else best) none

/-- The port is bus-off, or recovering from it (R420). -/
def State.busOff (s : State) (p : Nat) : Bool := decide (s.canState p = 4) || decide (s.canState p = 5)

/-- A port sleeps once no frame is in transmission (R421): its pending objects are abandoned. A bus-off stands (R420). -/
def State.canSleep (s : State) : State :=
  let s := (List.range 128).foldl (fun s o => if s.tstate 0 o = 1 then s.cancelled 0 o else s) s
  if (s.port 0).sending.isSome || decide (s.canState 0 = 0) then s
  else
    let s := s.setFv (P.CAN 0) R.CAN_WK_STAT_errs 0
    if s.busOff 0 then s else s.setCanState 0 6

/-- Port A is to sleep: sleep = 1 in RUN or LEAN, or DORMANT (R421). -/
def State.canWantsSleep (s : State) (p : Nat) : Bool :=
  decide (p = 0) && (s.fb (P.CAN 0) R.CAN_CTRL_sleep || decide (s.pstate = 2))

/-- A changed header takes effect (R417): a pending frame is cancelled under a change of identifier, format or direction, a stored frame is
discarded under a change of identifier, mask or direction. A reply is no longer awaited where R419 no longer holds. -/
def State.objChanged (s old : State) (p o : Nat) : State :=
  let same (f : Field) : Bool := decide (old.objFv p o f = s.objFv p o f)
  let idDir := same R.CAN_OBJ_ID_id && same R.CAN_OBJ_ID_ide && same R.CAN_OBJ_CFG_dir
  let fmt := same R.CAN_OBJ_CFG_fd && same R.CAN_OBJ_CFG_brs && same R.CAN_OBJ_CFG_rtr
  let cfgSame := decide (old.reg (objPage p o + 0x100 + o % 32 * 0x20) = s.reg (objPage p o + 0x100 + o % 32 * 0x20))
  let s :=
    if !(idDir && fmt) && decide (s.tstate p o = 1) then s.cancelObj p o
    else if !(idDir && cfgSame) && decide (3 ≤ s.tstate p o) then s.setObj p o R.CAN_OBJ_STAT_tstate 0
    else s
  let s : State :=
    if s.objFb p o R.CAN_OBJ_RPL_en && s.objFb p o R.CAN_OBJ_CFG_dir then s
    else
      let x := s.port p
      s.setPort p { x with replies := SMap.erase x.replies o }
  if idDir && same R.CAN_OBJ_MASK_mask then s else (s.setObj p o R.CAN_OBJ_STAT_new 0).setObj p o R.CAN_OBJ_STAT_lost 0

/-- The header words of an object: CAN_OBJ_CFG, CAN_OBJ_ID, CAN_OBJ_MASK. -/
def State.objHeader (s : State) (p o : Nat) : List Word := (List.range 3).map (fun k => s.reg (objPage p o + 0x100 + o % 32 * 0x20 + 4 * k))
def State.setHeader (s : State) (p o : Nat) (l : List Word) : State :=
  l.zipIdx.foldl (fun (s : State) x => s.setReg (objPage p o + 0x100 + o % 32 * 0x20 + 4 * x.2) x.1) s

/-- What a commit does to one object whose header changed (R417): a change of identifier, format or direction asks for a cancel and waits
while the object's frame is in transmission. -/
def State.objCommitted (s : State) (p o : Nat) (old : State) : State :=
  let differs := [R.CAN_OBJ_ID_id, R.CAN_OBJ_ID_ide, R.CAN_OBJ_CFG_dir, R.CAN_OBJ_CFG_fd, R.CAN_OBJ_CFG_brs, R.CAN_OBJ_CFG_rtr].any
    (fun f => decide (old.objFv p o f ≠ s.objFv p o f))
  if differs && decide (s.tstate p o = 2) then
    let x := s.port p
    let s := s.setPort p { x with waiting := SMap.insert x.waiting o (s.objHeader p o) }
    (s.setHeader p o (old.objHeader p o)).cancelObj p o
  else s.objChanged old p o

/-- The frame of an object has ended: a header that waited takes effect (R417), else a frame queued behind it is pending. -/
def State.objFreed (s : State) (p o : Nat) : State :=
  match SMap.get? (s.port p).waiting o with
  | some l =>
    let x := s.port p
    let w := (s.setPort p { x with waiting := SMap.erase x.waiting o }).setTxBuf p o TxBuf.reset
    (w.setHeader p o l).objChanged w p o
  | none =>
    match (s.txBuf p o).next with
    | f :: l => (s.setTxBuf p o { TxBuf.reset with frame := f, next := l }).setObj p o R.CAN_OBJ_STAT_tstate 1
    | [] => s

/-- What follows the end of a frame in transmission; a sleep that waited begins. -/
def State.canTxEnded (s : State) (p o : Nat) : State :=
  let s := s.setPort p { s.port p with sending := none }
  let s := if s.tstate p o = 1 then s else s.objFreed p o
  if s.canWantsSleep p then s.canSleep else s

/-- A frame sent while fd_en is 0 is classical (R407). -/
def classicalFrame (f : CanFrame) : CanFrame := { f with fd := false, brs := false, dlc := Nat.min 8 f.dlc, data := f.data.take 8 }

/-- CAN_TX_START (R406, R407, R414): the start of frame of the object offered first goes out; tdcv as measured where R406 measures. -/
def execCanTxStart (t : Nat) (port : Fin 2) (tdcv : Nat) (s : State) : Host.Outcome State Fault Refusal :=
  let s := s.at t
  let p := port.val
  if !s.canOn p ∨ s.canMode p ≠ 1 ∨ (s.port p).sending.isSome ∨ s.canWantsSleep p then .next s
  else match s.canNext p with
    | none => .next s
    | some o =>
      let x := s.txBuf p o
      let b : TxBuf := { x with frame := if s.canFdEn p then x.frame else classicalFrame x.frame }
      let s := s.setPort p { s.port p with sending := some o }
      let s := (s.setTxBuf p o { b with sof := s.now }).setObj p o R.CAN_OBJ_STAT_tstate 2
      .next (if ((s.port p).cfg.getD 3 0#32).getLsbD 7 && b.frame.fd && b.frame.brs then s.setFv (P.CAN p) R.CAN_TDC_tdcv tdcv else s)

/-- CAN_TX_SUCCESS (R414, R418, R419, R420); in the power-fail sequence too (R422). -/
def execCanTxSuccess (t : Nat) (port : Fin 2) (s : State) : Host.Outcome State Fault Refusal :=
  let s := s.at t
  let p := port.val
  match (if s.safOn then (s.port p).sending else none) with
  | none => .next s
  | some o =>
    let sof := (s.txBuf p o).sof
    let s := s.setStamp (objPage p o) (R.CAN_OBJ_T_LO_t.nth (o % 32)) (R.CAN_OBJ_T_HI_t.nth (o % 32)) sof
    let s := (s.setObj p o R.CAN_OBJ_STAT_tstate 3).setObj p o R.CAN_OBJ_STAT_coll 0
    let s := (s.objEvent p o 1).canGood p true
    let s :=
      if s.objFb p o R.CAN_OBJ_RPL_en then
        let s := (s.setObj p o R.CAN_OBJ_STAT_reply_ok 0).setObj p o R.CAN_OBJ_STAT_reply_tmo 0
        let x := s.port p
        s.setPort p { x with replies := SMap.insert x.replies o (sof + msecs (s.objFv p o R.CAN_OBJ_RPL_window), false) }
      else s
    .next (s.canTxEnded p o)

/-- ARBITRATION_LOST (R414, R417): offered again at the next bus idle, unless a cancel came too late for this attempt. -/
def execArbitrationLost (t : Nat) (port : Fin 2) (s : State) : Host.Outcome State Fault Refusal :=
  let s := s.at t
  let p := port.val
  match (if s.safOn then (s.port p).sending else none) with
  | none => .next s
  | some o =>
    let nx := (s.txBuf p o).next
    let s := if (s.txBuf p o).late then (s.cancelled p o).setTxBuf p o { TxBuf.reset with next := nx }
      else s.setObj p o R.CAN_OBJ_STAT_tstate 1
    .next (s.canTxEnded p o)

/-- The object's share of an error while it transmits (R415, R418). -/
def State.objError (s : State) (p o : Nat) (collision : Bool) : State :=
  let b := P.CAN p
  let s := if collision then s.setObj p o R.CAN_OBJ_STAT_coll (satAdd 255 (s.objFv p o R.CAN_OBJ_STAT_coll) 1)
    else s.setObj p o R.CAN_OBJ_STAT_coll 0
  let coll := s.objFv p o R.CAN_OBJ_STAT_coll
  let s :=
    if collision ∧ coll = 2 then
      (((s.setFv b R.CAN_STAT_id_collision 1).satInc b R.CAN_COLL_count 1).setFv b R.CAN_COLL_obj o).irq b 3
    else s
  let x := s.txBuf p o
  let s := s.setTxBuf p o { x with errors := x.errors + 1 }
  let susp := s.objFv p o R.CAN_OBJ_CFG_coll_susp
  let retry := s.objFv p o R.CAN_OBJ_CFG_retry
  let s :=
    if collision ∧ susp ≠ 0 ∧ susp ≤ coll then (s.setObj p o R.CAN_OBJ_STAT_tstate 4).objEvent p o 2
    else if retry ≠ 0 ∧ retry ≤ x.errors + 1 then (s.setObj p o R.CAN_OBJ_STAT_tstate 6).objEvent p o 2
    else s.setObj p o R.CAN_OBJ_STAT_tstate 1
  s.canTxEnded p o

/-- The port detects an error (R404, R420). `free`: an error that ISO 11898-1 does not count; `extra`: further counts of 8 that
it adds for dominant bits after an error flag. In LISTEN and RESTRICTED nothing is counted and the port waits for 11
recessive bits. -/
def State.canErr (s : State) (p lec : Nat) (dphase : Bool) (field : Nat) (free : Bool) (extra : Nat) : State :=
  let b := P.CAN p
  let s := ((s.setFv b R.CAN_ERR_lec lec).setFb b R.CAN_ERR_dphase dphase).setFv b R.CAN_ERR_field field
  let s := (s.setPort p { s.port p with acked := false, flagged := s.canFlags p }).irq b 5
  let tx := (s.port p).sending
  let s :=
    if s.canMode p ≠ 1 then s.setCanState p 1
    else
      let x := s.port p
      (s.setPort p (if tx.isSome then { x with txErr := x.txErr + (if free then 0 else 8) + 8 * extra }
        else { x with rxErr := x.rxErr + (if free then 0 else 1) + 8 * extra })).canShow p
  match tx with
  | none => s
  | some o => s.objError p o (decide (lec = 1 ∨ lec = 4 ∨ lec = 5) && decide (field = 1 ∨ field = 2))

/-- The port meets errors: it takes part in the traffic, or its frame in transmission has not yet ended after PFW_N (R422). -/
def State.canErrs (s : State) (p : Nat) : Bool := s.canOn p || (s.closing && (s.port p).sending.isSome)

def execCanError (t : Nat) (port : Fin 2) (lec : Nat) (dphase : Bool) (field : Nat) (free : Bool) (extra : Nat) (s : State) :
    Host.Outcome State Fault Refusal :=
  let s := s.at t
  .next (if s.canErrs port && decide (1 ≤ lec ∧ lec ≤ 6) && decide (field ≤ 3) then s.canErr port lec dphase field free extra else s)

/-- DOMINANT_TIMEOUT (R423): the dominant drive is released and the bit is treated as a bit error. -/
def execDominantTimeout (t : Nat) (port : Fin 2) (s : State) : Host.Outcome State Fault Refusal :=
  let s := s.at t
  .next (if s.canErrs port then s.canErr port 5 false 3 false 0 else s)

/-- RECOVERY_COMPLETE (R420): 128 occurrences of 11 recessive bits. -/
def execRecoveryComplete (t : Nat) (port : Fin 2) (s : State) : Host.Outcome State Fault Refusal :=
  let s := s.at t
  let p := port.val
  .next (if s.canState p = 5 && decide (s.canMode p ≠ 0) && s.domainOn 9 && !s.canWantsSleep p then ((s.setCanState p 2).setPort p { s.port p with txErr := 0, rxErr := 0 }).canShow p else s)

/-! ### Reception -/

/-- The receive object that stores a frame (R410; one whose frame is still in transmission is none yet, R417), and the objects that hold theirs and mark the frame lost. -/
def State.rxObject (s : State) (p : Nat) (f : CanFrame) : Option Nat × List Nat :=
  (List.range 128).foldl (fun (r : Option Nat × List Nat) o =>
    if r.1.isSome || !s.objFb p o R.CAN_OBJ_CFG_en || s.objFb p o R.CAN_OBJ_CFG_dir || decide (s.tstate p o = 2) ||
        !idMatches (s.objFb p o R.CAN_OBJ_ID_ide) (s.objFv p o R.CAN_OBJ_ID_id) (s.objFv p o R.CAN_OBJ_MASK_mask) f then r
    else if s.objFb p o R.CAN_OBJ_CFG_hold && s.objFb p o R.CAN_OBJ_STAT_new then (none, r.2 ++ [o])
    else (some o, r.2)) (none, [])

/-- Store a received frame in an object, in one step (R410, R411). -/
def State.storeFrame (s : State) (p o stamp : Nat) (f : CanFrame) : State :=
  let b := objPage p o
  let i := o % 32
  let s := if s.objFb p o R.CAN_OBJ_STAT_new then s.setObj p o R.CAN_OBJ_STAT_lost 1 else s
  let data := (f.data.take 64) ++ List.replicate (64 - f.data.length) 0#8
  let s := s.setPageBytes b (0x800 + i * 0x40) data
  let s := s.setReg (b + R.CAN_OBJ_RID_id.off + i * 0x20)
    (word (f.id % 2 ^ 29 + (if f.ide then 2 ^ 29 else 0) + (if f.rtr then 2 ^ 30 else 0)))
  let s := (s.setObj p o R.CAN_OBJ_STAT_rdlc f.dlc).setObj p o R.CAN_OBJ_STAT_rfd (if f.fd then 1 else 0)
  let s := s.setStamp b (R.CAN_OBJ_T_LO_t.nth i) (R.CAN_OBJ_T_HI_t.nth i) stamp
  let s := (s.setObj p o R.CAN_OBJ_STAT_rcnt (s.objFv p o R.CAN_OBJ_STAT_rcnt + 1)).setObj p o R.CAN_OBJ_STAT_new 1
  s.objEvent p o 0

/-- Priority match buffer `n` takes a copy of a frame that matches it (R412). -/
def State.pmbTake (s : State) (p n stamp : Nat) (f : CanFrame) : State :=
  let b := P.CAN p
  if !idMatches (s.fb b (R.CAN_PMB_ID_ide.nth n)) (s.fv b (R.CAN_PMB_ID_id.nth n)) (s.fv b (R.CAN_PMB_MASK_mask.nth n)) f then s
  else
    let s := if s.fb b (R.CAN_PMB_STAT_new.nth n) then s.satInc b (R.CAN_PMB_STAT_lost.nth n) 1 else s
    let s := s.setPageBytes b (0x200 + n * 0x40) ((f.data.take 64) ++ List.replicate (64 - f.data.length) 0#8)
    let s := s.setReg (b + R.CAN_PMB_RID_id.off + n * 0x20)
      (word (f.id % 2 ^ 29 + (if f.ide then 2 ^ 29 else 0) + (if f.rtr then 2 ^ 30 else 0)))
    let s := (s.setFv b (R.CAN_PMB_STAT_dlc.nth n) f.dlc).setFb b (R.CAN_PMB_STAT_fd.nth n) f.fd
    let s := s.setStamp b (R.CAN_PMB_T_LO_t.nth n) (R.CAN_PMB_T_HI_t.nth n) stamp
    let s := (s.wrapInc b (R.CAN_PMB_STAT_cnt.nth n) 1).setFv b (R.CAN_PMB_STAT_new.nth n) 1
    s.irq b (8 + n)

/-- Replies to transmit objects that name the object a frame was stored in (R419): the stamp decides, so that one stamped in time takes back
a reply_tmo that was set before the frame had ended (R350). -/
def State.replyOk (s : State) (p robj stamp : Nat) : State :=
  (s.port p).replies.foldl (fun s r =>
    if s.objFv p r.1 R.CAN_OBJ_RPL_robj = robj ∧ stamp ≤ r.2.1 ∧ s.objFb p r.1 R.CAN_OBJ_RPL_en then
      let x := s.port p
      ((s.setPort p { x with replies := SMap.erase x.replies r.1 }).setObj p r.1 R.CAN_OBJ_STAT_reply_tmo 0).setObj p r.1 R.CAN_OBJ_STAT_reply_ok 1 |>.objEvent p r.1 4
    else s) s

/-- A valid frame is received (R407, R410–R412); the answer's second part names the object that stored it. A port receives no frame while it
transmits its own. -/
def State.canReceive (s : State) (p stamp : Nat) (f : CanFrame) : State × Option Nat :=
  if !s.canOn p || s.canWantsSleep p || (s.port p).sending.isSome then (s, none)
  else if f.fd && !s.canFdEn p then
    (if s.canPex p then (s.setPort p { s.port p with acked := false, flagged := false }).setCanState p 1 else s.canErr p 2 false 0 false 0, none)
  else
    let s := (s.setPort p { s.port p with acked := s.canAcks p, flagged := false }).canGood p false
    let s := (List.range 4).foldl (fun s n => s.pmbTake p n stamp f) s
    let (o, holding) := s.rxObject p f
    let s := holding.foldl (fun s h => s.setObj p h R.CAN_OBJ_STAT_lost 1) s
    match o with
    | some o => ((s.storeFrame p o stamp f).replyOk p o stamp, some o)
    | none => (if holding.isEmpty then s.satInc (P.CAN p) R.CAN_CNT_nomatch 1 else s, none)

/-- REPLY_TIMEOUT (R419): the timebase has passed the deadline. -/
def execReplyTimeout (t : Nat) (port : Fin 2) (object : Fin 128) (s : State) : Host.Outcome State Fault Refusal :=
  let s := s.at t
  let p := port.val
  let o := object.val
  match SMap.get? (s.port p).replies o with
  | some (dl, told) =>
    if dl < s.now ∧ !told then
      let x := s.port p
      .next (((s.setPort p { x with replies := SMap.insert x.replies o (dl, true) }).setObj p o R.CAN_OBJ_STAT_reply_tmo 1).objEvent p o 3)
    else .next s
  | none => .next s

/-- CAN_PMB_CTRL.release (R412). -/
def State.pmbRelease (s : State) (p n : Nat) : State :=
  (s.setFv (P.CAN p) (R.CAN_PMB_STAT_new.nth n) 0).setFv (P.CAN p) (R.CAN_PMB_STAT_lost.nth n) 0

/-! ### Timing, sleep, control -/

/-- TIMING_APPLY (R404, R408): the committed configuration takes effect at the bus idle; the port then waits for 11 recessive
bits. TEC, REC and the bus-off state are unchanged. -/
def State.timingApply (s : State) (p : Nat) : State :=
  let b := P.CAN p
  let s := s.setPort p { s.port p with cfg := [s.reg (b + 0x40), s.reg (b + 0x44), s.reg (b + 0x48), s.reg (b + 0x4C)] }
  if s.canState p = 4 ∨ s.canState p = 5 then s
  else if s.canMode p = 0 || !s.domainOn 9 then s.setCanState p 0
  else if s.canWantsSleep p then s.setCanState p 6
  else s.setCanState p 1

/-- A committed configuration waits for the bus idle (R408). -/
def State.timingWaits (s : State) (p : Nat) : Bool :=
  let b := P.CAN p
  let c := (s.port p).cfg
  decide (c.getD 0 0#32 ≠ s.reg (b + 0x40)) || decide (c.getD 1 0#32 ≠ s.reg (b + 0x44)) || decide (c.getD 2 0#32 ≠ s.reg (b + 0x48)) ||
    decide (Word.bits (c.getD 3 0#32) 0 8 ≠ Word.bits (s.reg (b + 0x4C)) 0 8)

def execTimingApply (t : Nat) (port : Fin 2) (s : State) : Host.Outcome State Fault Refusal :=
  let s := s.at t
  .next (if s.ready && (s.port port).sending.isNone && s.timingWaits port then s.timingApply port else s)

/-- INTEGRATION_COMPLETE (R404, R408, R422): 11 recessive bits have passed. -/
def execIntegrationComplete (t : Nat) (port : Fin 2) (s : State) : Host.Outcome State Fault Refusal :=
  let s := s.at t
  let x := s.port port
  let passive := decide (128 ≤ x.txErr) || decide (128 ≤ x.rxErr)
  .next (if s.canState port = 1 && decide (s.canMode port ≠ 0) then (s.setCanState port (if passive then 3 else 2)).canShow port else s)

/-- Port A is woken (R421): the cause and its event; in RUN and LEAN it leaves sleep, in DORMANT it is a wake source. -/
def State.canWoken (s : State) (cause : Nat) : State :=
  let s := (s.setFv (P.CAN 0) R.CAN_WK_STAT_cause cause).irq (P.CAN 0) 4
  let s := s.wakeSource 2
  if s.pstate ≤ 1 then s.canWakeUp else s

/-- A classical frame matches the selective wake-up of port A (Table 16-4). -/
def State.wakeMatches (s : State) (rate : Nat) (f : CanFrame) : Bool :=
  let b := P.CAN 0
  let dlc := s.fv b R.CAN_WK_DLC_dlc
  let masks := s.pageBytes b R.CAN_WK_DATA0_dmask.off 8
  !f.fd && decide (rate = s.fv b R.CAN_WK_rate) && decide (f.dlc = dlc) &&
    idMatches (s.fb b R.CAN_WK_ID_ide) (s.fv b R.CAN_WK_ID_id) (s.fv b R.CAN_WK_MASK_mask) f &&
    (decide (dlc = 0) || (!f.rtr && (List.range dlc).any (fun i => decide (f.data.getD i 0#8 &&& masks.getD i 0#8 ≠ 0#8))))

/-- The wake detector is armed: port A sleeps (R421), its transceiver so in bus-off too. -/
def State.wakeArmed (s : State) : Bool :=
  decide (s.canState 0 = 6) || (s.busOff 0 && s.canWantsSleep 0 && (s.port 0).sending.isNone)

/-- CAN_WAKE (R421, Table 16-4): what the wake detector meets. A pattern wakes with each phase at least the filter time and the whole within the
window, both as the part has them (Table 16-5); more than 31 decoding errors wake. -/
def execCanWake (t : Nat) (sign : WakeSign) (s : State) : Host.Outcome State Fault Refusal :=
  let s := s.at t
  let wmode := s.fv (P.CAN 0) R.CAN_WK_wmode
  if !s.wakeArmed then .next s
  else match sign with
    | .pattern dom rec again whole filt window =>
      let f := nclip 500 1800 filt
      .next (if wmode = 1 ∧ f ≤ dom ∧ f ≤ rec ∧ f ≤ again ∧ whole ≤ nclip 500000 5000000 window then s.canWoken 1 else s)
    | .frame rate f => .next (if wmode = 2 ∧ s.wakeMatches rate f then s.canWoken 2 else s)
    | .error =>
      if wmode ≠ 2 then .next s
      else
        let n := Nat.min 32 (s.fv (P.CAN 0) R.CAN_WK_STAT_errs + 1)
        let s := s.setFv (P.CAN 0) R.CAN_WK_STAT_errs n
        .next (if 31 < n then s.canWoken 3 else s)

/-- A CAN_CTRL write (R420, R421): recover, sleep, clr. `s` holds the sleep bit as written. -/
def State.canCtrl (s : State) (p : Nat) (v : Word) (before : Bool) : State :=
  let b := P.CAN p
  let s :=
    if !v.getLsbD 0 then s
    else if s.canState p = 4 then s.setCanState p 5
    else s.clampAt b 0x50 0 true 1 0
  let s :=
    if p = 1 then (if v.getLsbD 1 then (s.setFv b R.CAN_CTRL_sleep 0).clampAt b 0x50 1 true 1 0 else s)
    else if v.getLsbD 1 then (if before then s else s.canSleep)
    else if before && decide (s.pstate ≤ 1) then s.canWakeUp
    else s
  if v.getLsbD 2 then ((s.setFv b R.CAN_CNT_boff 0).setFv b R.CAN_CNT_nomatch 0).setFv b R.CAN_COLL_count 0 else s

/-- Port bit timing as a commit leaves it (R405, Table 16-2): presc is raised until a bit has its least number of 80 MHz
periods; sjw is at most seg2. -/
def canFixes (s : State) (b : Nat) (c : Cand) : List (Field × Nat) :=
  let one (presc seg1 seg2 sjw : Field) (lo1 hi1 lo2 hi2 least : Nat) : List (Field × Nat) :=
    let s1 := nclip lo1 hi1 (c.fv s b seg1)
    let s2 := nclip lo2 hi2 (c.fv s b seg2)
    let q := 1 + s1 + s2
    let pr := Nat.max (nclip 1 32 (c.fv s b presc)) ((least + q - 1) / q)
    [(presc, pr), (sjw, nclip 1 s2 (c.fv s b sjw))]
  let wm := if b = P.CAN 1 then 0 else Nat.min 2 (c.fv s b R.CAN_WK_wmode)
  one R.CAN_NBT_presc R.CAN_NBT_seg1 R.CAN_NBT_seg2 R.CAN_NBT_sjw 2 256 2 128 80 ++
    one R.CAN_DBT_presc R.CAN_DBT_seg1 R.CAN_DBT_seg2 R.CAN_DBT_sjw 1 32 1 16 16 ++ [(R.CAN_WK_wmode, wm)]

/-- ALH owns object `o` of port `p` (R416). -/
def State.alhOwns (s : State) (p o : Nat) : Bool := decide (p = 0) && decide (124 ≤ o) && s.fb P.ALH R.ALH_CAN_en

/-- Object headers as a commit leaves them (Table 16-7). The fields of an object that ALH owns keep their values (R416). -/
def objFixes (s : State) (b : Nat) (c : Cand) : List (Field × Nat) :=
  let p := if b < 0x128000 then 0 else 1
  let fdEn := s.fb (P.CAN p) R.CAN_CFG_fd_en
  (List.range 32).flatMap (fun i =>
    let v (f : Field) : Nat := c.fv s b (f.nth i)
    let keep (f : Field) : Field × Nat := (f.nth i, s.fv b (f.nth i))
    if s.alhOwns p ((b - P.CANOBJ p 0) / 0x1000 * 32 + i) then
      [R.CAN_OBJ_CFG_en, R.CAN_OBJ_CFG_dir, R.CAN_OBJ_CFG_fd, R.CAN_OBJ_CFG_brs, R.CAN_OBJ_CFG_rtr, R.CAN_OBJ_CFG_hold, R.CAN_OBJ_CFG_own,
        R.CAN_OBJ_CFG_dlc, R.CAN_OBJ_CFG_retry, R.CAN_OBJ_CFG_coll_susp, R.CAN_OBJ_ID_id, R.CAN_OBJ_ID_ide, R.CAN_OBJ_MASK_mask,
        R.CAN_OBJ_RPL_window, R.CAN_OBJ_RPL_robj, R.CAN_OBJ_RPL_en].map keep
    else
      let fd := if fdEn then v R.CAN_OBJ_CFG_fd else 0
      let cs := v R.CAN_OBJ_CFG_coll_susp
      [(R.CAN_OBJ_CFG_fd.nth i, fd), (R.CAN_OBJ_CFG_brs.nth i, if fd = 0 then 0 else v R.CAN_OBJ_CFG_brs),
        (R.CAN_OBJ_CFG_rtr.nth i, if fd = 1 then 0 else v R.CAN_OBJ_CFG_rtr),
        (R.CAN_OBJ_CFG_hold.nth i, if v R.CAN_OBJ_CFG_dir = 1 then 0 else v R.CAN_OBJ_CFG_hold),
        (R.CAN_OBJ_CFG_own.nth i, Nat.min 1 (v R.CAN_OBJ_CFG_own)),
        (R.CAN_OBJ_CFG_dlc.nth i, if fd = 0 then Nat.min 8 (v R.CAN_OBJ_CFG_dlc) else v R.CAN_OBJ_CFG_dlc),
        (R.CAN_OBJ_CFG_coll_susp.nth i, if cs = 1 then 2 else cs),
        (R.CAN_OBJ_ID_id.nth i, if v R.CAN_OBJ_ID_ide = 0 then v R.CAN_OBJ_ID_id % 2048 else v R.CAN_OBJ_ID_id)])

/-- The configuration of the objects that ALH owns (R416). -/
def State.alhHeaders (s : State) : State :=
  if s.fb P.ALH R.ALH_CAN_en then
    let idb := s.fv P.ALH R.ALH_CAN_id_base
    let fd := s.fv P.ALH R.ALH_CAN_fd
    let cfg (s : State) (o en dir id : Nat) : State :=
      let s := s.setReg (objPage 0 o + 0x100 + o % 32 * 0x20) (word (en + dir * 2 + fd * 4 * dir + 2 * 64 + 8 * 256 * dir))
      let s := s.setReg (objPage 0 o + 0x104 + o % 32 * 0x20) (word id)
      if dir = 0 then s.setReg (objPage 0 o + 0x108 + o % 32 * 0x20) 0x7FF#32 else s
    cfg (cfg (cfg (cfg s 124 1 1 idb) 125 1 1 (idb + 2)) 126 1 0 (idb + 1)) 127 0 0 0
  else
    (List.range 4).foldl (fun s i =>
      if s.objFv 0 (124 + i) R.CAN_OBJ_CFG_own = 2 then (s.setObj 0 (124 + i) R.CAN_OBJ_CFG_own 0).setObj 0 (124 + i) R.CAN_OBJ_CFG_en 0 else s) s

/-- ALH sets the configuration of the objects it owns (R416), as a commit does (R417). -/
def State.alhObjects (s : State) : State :=
  [124, 125, 126, 127].foldl (fun (w : State) o => if w.objHeader 0 o = s.objHeader 0 o then w else w.objCommitted 0 o s) s.alhHeaders

/-- A port at start-up (R420–R422): buffers, objects and priority match buffers start empty; TEC, REC, what they warn of and a bus-off stand,
and port A sleeps where it is to. -/
def State.canStart (s : State) (p : Nat) (off : Bool) : State :=
  let b := P.CAN p
  let x := s.port p
  let s := s.setPort p { CanPort.reset with txErr := x.txErr, rxErr := x.rxErr }
  let s := (List.range 128).foldl (fun s o => if s.tstate p o = 0 then s else s.setObj p o R.CAN_OBJ_STAT_tstate 0) s
  let s := s.setPort p { s.port p with cfg := [s.reg (b + 0x40), s.reg (b + 0x44), s.reg (b + 0x48), s.reg (b + 0x4C)] }
  let s := s.setFb b R.CAN_STAT_ewarn (decide (96 ≤ x.txErr) || decide (96 ≤ x.rxErr))
  let sleeps := decide (p = 0) && s.fb (P.CAN 0) R.CAN_CTRL_sleep
  if off then s.setCanState p 4 else s.setCanState p (if s.canMode p = 0 then 0 else if sleeps then 6 else 1)

end Sys2Proof.Machine
end

