-- ==== Sys2Proof/Machine/FbeQueue.lean ====
section
/-! DEFINITION. The triggers of event tasks (R307, R308): what other blocks call to release one. -/

namespace Sys2Proof.Machine

open Sys2Proof

def State.task (s : State) (n : Nat) : Task := s.fbe.tasks.getD n Task.reset
def State.setTask (s : State) (n : Nat) (x : Task) : State := { s with fbe := { s.fbe with tasks := s.fbe.tasks.set n x } }

/-- The program in force. -/
def State.program (s : State) : Option Program := (s.fbe.banks.getD (s.fv P.FBE R.FBE_STAT_bank) none)
/-- The task table entry of a task of the program in force. -/
def State.taskEntry (s : State) (n : Nat) : ProgTask :=
  match s.program with
  | some p => p.tasks.getD n ProgTask.none
  | none => ProgTask.none

/-- The engine releases tasks: a program runs and the task is enabled. -/
def State.taskOn (s : State) (n : Nat) : Bool :=
  s.fb P.FBE R.FBE_CTRL_en && decide (s.fv P.FBE R.FBE_TK_EN_en / 2 ^ n % 2 = 1) && decide ((s.taskEntry n).kind ≠ 0) &&
    decide (s.life ≠ 3)

/-- A cyclic task has not committed for 2 × its period (R466). -/
def State.taskStands (s : State) (n : Nat) : Bool :=
  s.taskOn n && decide ((s.taskEntry n).kind = 1) && (s.task n).watch.any (fun w => decide (w + msecs (2 * (s.taskEntry n).period) ≤ s.now))

/-- Diagnostic 12 fails on a task of SAF_FBE up to now, where its cycle counter advances or its next release comes (R462, R466). -/
def State.taskSeen (s : State) (n : Nat) : State := s.failsUntil 12 (bitAt (s.fv P.SAF R.SAF_FBE_tasks) n && s.taskStands n)

/-- Trigger event task `n` with a stamp (R307, R308): queued, or lost where 16 triggers wait. -/
def State.fbeTrigger (s : State) (n stamp : Nat) : State :=
  if !s.taskOn n ∨ (s.taskEntry n).kind ≠ 2 then s
  else
    let x := s.task n
    if 16 ≤ x.queue.length then
      ((s.satInc (P.FBETK n) R.FBE_TK_OVR_lost 1).irq (P.FBETK n) 2).satInc P.FBE R.FBE_ERR_lost 1 |> fun s => s.irq P.FBE 4
    else
      (s.setTask n { x with queue := x.queue ++ [stamp] }).setFv (P.FBETK n) R.FBE_TK_STAT_queue (x.queue.length + 1)

end Sys2Proof.Machine
end

