-- ==== Sys2Proof/Machine/AlhView.lean ====
section
/-! DEFINITION. What the alarm handling shows: overlays, priority (R270), the annunciation order (R272), the counts, the
records of the alarm handling store as bytes (R268). -/

namespace Sys2Proof.Machine

open Sys2Proof

/-- The entry carries an overlay of Table 10-8. -/
def Entry.overlaid (x : Entry) : Bool := x.shelved || x.supMode || x.supGraph || x.oos || x.pending

/-- The priority at a level (R270). -/
def State.priorityAt (s : State) (cls level : Nat) : Nat :=
  if level = 2 then s.fv P.ALH (R.ALH_CLS_pri_alarm.nth cls) else s.fv P.ALH (R.ALH_CLS_pri_warn.nth cls)

/-- The entry behaves as under an overlay: one of Table 10-8, or priority 0 at its level (R270). -/
def Entry.covered (x : Entry) : Bool := x.overlaid || (decide (x.level ≠ 0) && decide (x.pri = 0))

/-- Byte 0 of an entry state record (Table 10-3). -/
def Entry.stateByte (x : Entry) : Nat :=
  x.st + (if x.shelved then 8 else 0) + (if x.supMode then 16 else 0) + (if x.supGraph then 32 else 0) + (if x.oos then 64 else 0) +
    (if x.pending then 128 else 0)

/-- Byte 1 of an entry state record. -/
def Entry.flagByte (x : Entry) : Nat :=
  x.level + (if x.bad then 4 else 0) + (if x.forced then 8 else 0) + (if x.simulated then 16 else 0) + (if x.poison then 32 else 0) +
    x.pri * 64

/-- The entry state record (Table 10-3). -/
def Entry.bytes (x : Entry) : List Byte :=
  [byte x.stateByte, byte x.flagByte] ++ leBytes 2 x.actSeq ++ leBytes 4 x.nAct ++ leBytes 4 x.nAlm ++ leBytes 4 x.nBad ++
    leBytes 8 x.onset ++ leBytes 8 x.changed ++ leBytes 2 x.cause ++ leBytes 2 x.slot ++ [byte x.ackSrc, byte x.ackNode] ++
    leBytes 2 x.join ++ List.replicate 24 0#8

/-- The entry configuration record (Table 10-2). -/
def EntryCfg.bytes (c : EntryCfg) : List Byte :=
  let b (x : Bool) (v : Nat) : Nat := if x then v else 0
  [byte (b c.en 1 + b c.crate 2 + b c.demand 4 + b c.event 8 + c.badLevel * 16), byte (c.cls + c.task * 16)] ++
    leBytes 2 c.group ++ leBytes 2 c.modeMask ++ [byte (c.list + c.dLevel * 16), byte c.profile] ++ List.replicate 8 0#8 ++ c.tag

/-- The second that counts changes has passed: ALH_RATE.last and peak (Table 10-14) as they stand at this instant. -/
def State.rateNow (s : State) : Nat × Nat :=
  let sec := s.now / 16777216
  let last := s.fv P.ALH R.ALH_RATE_last
  let peak := s.fv P.ALH R.ALH_RATE_peak
  if sec = s.alh.rateFrom then (last, peak)
  else
    let k := Nat.min 0xFFFF (s.alh.rateCount / 1000)
    (if sec = s.alh.rateFrom + 1 then k else 0, Nat.max peak k)

/-- ALH_RATE as it reads. -/
def State.rateWord (s : State) : Word := word (s.rateNow.1 + s.rateNow.2 * 65536)

/-- Entries in some state that the list holds: every other one is NORM, without a level. -/
def State.alhAll (s : State) (f : Entry → Bool) : List Nat := (s.alh.entries.filter (fun e => f e.2)).map (fun e => e.1)

/-- ALH_NACT.act, ALH_NACT.unack, ALH_NSUP.sup, ALH_NOOS.oos, ALH_NSUP.shelved. -/
def State.alhAct (s : State) : Nat := (s.alhAll (fun x => decide (x.level ≠ 0))).length
def State.alhUnack (s : State) : Nat := (s.alhAll (fun x => decide (x.st = 1))).length
def State.alhSup (s : State) : Nat := (s.alhAll (fun x => x.supMode || x.supGraph)).length
def State.alhOos (s : State) : Nat := (s.alhAll (fun x => x.oos)).length
/-- Entries with Le > 0 and no overlay (Tables 10-12, 17-2). -/
def State.alhPlain (s : State) : Nat := (s.alhAll (fun x => decide (x.level ≠ 0) && !x.overlaid)).length

/-- The rank of a state in the annunciation order (R272). -/
def stRank (st : Nat) : Nat := if st = 1 then 0 else if st = 3 then 1 else if st = 2 then 2 else 3

/-- `a` stands before `b` (R272). -/
def annBefore (a b : Nat × Entry) : Bool :=
  let ra := stRank a.2.st
  let rb := stRank b.2.st
  if ra ≠ rb then decide (ra < rb)
  else if a.2.pri ≠ b.2.pri then decide (b.2.pri < a.2.pri)
  else if a.2.onset ≠ b.2.onset then decide (b.2.onset < a.2.onset)
  else decide (a.1 < b.1)

def annInsert (a : Nat × Entry) : List (Nat × Entry) → List (Nat × Entry)
  | [] => [a]
  | b :: l => if annBefore a b then a :: b :: l else b :: annInsert a l

/-- The annunciated entries in order (R272): neither overlay nor priority 0. -/
def State.annunciated (s : State) : List (Nat × Entry) :=
  (s.alh.entries.filter (fun e => decide (e.2.st ≠ 0) && !e.2.overlaid && decide (e.2.pri ≠ 0))).foldr annInsert []

/-- A group's record. -/
def State.group_ (s : State) (g : Nat) : Group := SMap.get (fun _ => Group.reset) s.alh.groups g
/-- Replace a group's record; one that cannot be read is not written in part (R228; log 131). -/
def State.setGroup (s : State) (g : Nat) (x : Group) : State :=
  if s.anyPoison (0x00E40000 + g * 32) 32 then s
  else { s with alh := { s.alh with groups := SMap.put (fun _ => Group.reset) s.alh.groups g x } }

/-- Entries of a group with Le > 0, and in UNACK (Table 10-6). -/
def State.groupAct (s : State) (g : Nat) : Nat :=
  (s.alh.entries.filter (fun e => decide (e.2.level ≠ 0) && decide ((s.entryCfg e.1).group = g))).length
def State.groupUnack (s : State) (g : Nat) : Nat :=
  (s.alh.entries.filter (fun e => decide (e.2.st = 1) && decide ((s.entryCfg e.1).group = g))).length

/-- The group record (Table 10-6). -/
def State.groupBytes (s : State) (g : Nat) : List Byte :=
  let x := s.group_ g
  let b (x : Bool) (v : Nat) : Nat := if x then v else 0
  [byte (b x.autoRearm 1), byte x.foWin, 0#8, 0#8] ++ leBytes 2 x.foEntry ++ [byte (b x.armed 1 + b x.opened 2 + b x.final 4), 0#8] ++
    leBytes 8 x.foOnset ++ leBytes 8 x.openedAt ++ leBytes 2 (s.groupAct g) ++ leBytes 2 (s.groupUnack g) ++ leBytes 4 0

/-- A byte of the alarm handling store (Table 10-1); the entry log lies in the storeroom's list. -/
def State.alhByte (s : State) (a : Nat) : Byte :=
  if a < 0x00C80000 then
    let i := (a - 0x00C00000) / 32
    (s.entryCfg i).bytes.getD (a % 32) 0#8
  else if a < 0x00D80000 then
    let i := (a - 0x00C80000) / 64
    (s.entry i).bytes.getD (a % 64) 0#8
  else if a < 0x00E00000 then
    let i := (a - 0x00D80000) / 2
    (leBytes 2 (SMap.get (fun _ => 0xFFFF) s.alh.bandMap i)).getD (a % 2) 0#8
  else if a < 0x00E20000 then
    let e := s.alh.edges.getD ((a - 0x00E00000) / 8) { cause := 0, conseq := 0xFFFF, lead := 0, hold := 0 }
    (leBytes 2 e.cause ++ leBytes 2 e.conseq ++ leBytes 2 e.lead ++ leBytes 2 e.hold).getD (a % 8) 0#8
  else if a < 0x00E40000 then 0#8
  else if a < 0x00E48000 then (s.groupBytes ((a - 0x00E40000) / 32)).getD (a % 32) 0#8
  else if a < 0x00E50000 then 0#8
  else if a < 0x00E54000 then
    match SMap.get? s.alh.slots ((a - 0x00E50000) / 16) with
    | some x => (leBytes 2 x.entry ++ [byte x.source, byte x.node] ++ leBytes 4 0 ++ leBytes 8 x.expiry).getD (a % 16) 0#8
    | none => (leBytes 2 0xFFFF).getD (a % 16) 0#8
  else if a < 0x00F00000 then 0#8
  else s.rd8 a

end Sys2Proof.Machine
end

