-- ==== Sys2Proof/Machine/AlhCall.lean ====
section
/-! DEFINITION. Calling the watch: targets and their reach (R285), joining, starting and restarting a call (R286), rungs (R287,
R288), accepts (R289), the end of a call (R290), CALL and STATUS frames (R291, Table 10-12). -/

namespace Sys2Proof.Machine

open Sys2Proof

/-! ### Targets -/

/-- CAN A carries ALH's frames to its targets (R285, Table 22-3, R519). -/
def State.canTargetsOk (s : State) : Bool :=
  s.fb P.ALH R.ALH_CAN_en && decide (s.canMode 0 = 1) && s.domainOn 9 && decide (s.canState 0 ≠ 4) &&
    decide (s.canState 0 ≠ 5) && decide (s.pstate ≤ 1) && !s.linkTest 4

/-- A target is reachable (R285). -/
def State.targetOk (s : State) (n : Nat) : Bool :=
  match s.fv P.ALH (R.ALH_TGT_kind.nth n) with
  | 1 => s.canTargetsOk
  | 2 => s.fb P.DIO R.DIO_STAT_armed
  | _ => false

/-- ALH_TGT_OK. -/
def State.targetsOk (s : State) : Nat := bitsOf 32 s.targetOk

/-- The targets a rung names: its mask, and the duty target where its duty bit is set (R285). -/
def State.rungMask (s : State) (l r : Nat) : Nat :=
  let b := P.ALHLD l
  let m := s.fv b (R.ALH_LD_MASK_mask.nth r)
  if bitAt (s.fv b R.ALH_LD_CFG_duty) r then m ||| 2 ^ s.fv P.ALH R.ALH_DUTY_target else m

/-- The targets that a call at rung `r` calls; with cumul those of every earlier rung as well (R287). -/
def State.rungTargets (s : State) (l r : Nat) : Nat :=
  let m := if s.fb (P.ALHLD l) R.ALH_LD_CFG_cumul then (List.range (r + 1)).foldl (fun m i => m ||| s.rungMask l i) 0 else s.rungMask l r
  bitsOf 32 (fun n => bitAt m n && decide (s.fv P.ALH (R.ALH_TGT_kind.nth n) ≠ 0))

/-- The timeout of rung `r` in steps. -/
def State.rungTimeout (s : State) (l r : Nat) : Nat :=
  let b := P.ALHLD l
  secs (if r % 2 = 0 then s.fv b (R.ALH_LD_TMO_tmo_even.nth (r / 2)) else s.fv b (R.ALH_LD_TMO_tmo_odd.nth (r / 2)))

def State.rungs (s : State) (l : Nat) : Nat := s.fv (P.ALHLD l) R.ALH_LD_CFG_nrung

/-! ### Frames (Table 10-12) -/

/-- The ladder has a call in progress. -/
def State.callActive (s : State) (l : Nat) : Bool := s.fb (P.ALHLD l) R.ALH_LD_STAT_active

/-- Entries of a call: those that have joined and stand in UNACK or RTNUN (R290). -/
def State.callEntries (s : State) (l : Nat) : List (Nat × Entry) :=
  s.alh.entries.filter (fun e => decide (e.2.call = some l))

def State.callUnack (s : State) (l : Nat) : Nat := ((s.callEntries l).filter (fun e => decide (e.2.st = 1))).length

/-- The CALL frame of a ladder to a target node. -/
def State.callFrame (s : State) (l node : Nat) (ended : Bool) : CanFrame :=
  let b := P.ALHLD l
  let es := s.callEntries l
  let test := es.any (fun e => e.2.forced || e.2.simulated)
  let first := match (s.annunciated.filter (fun e => decide (e.2.call = some l))).head? with
    | some e => e.1
    | none => 0xFFFF
  let seq := s.fv b R.ALH_LD_SEQ_seq
  { ide := false, rtr := false, fd := s.fb P.ALH R.ALH_CAN_fd, brs := false, id := s.fv P.ALH R.ALH_CAN_id_base, dlc := 8,
    data := [byte node, byte (l + (if ended then 8 else 0) + s.fv b R.ALH_LD_STAT_rung * 16 + (if test then 128 else 0))] ++
      leBytes 2 seq ++
      [byte (s.fv b R.ALH_LD_STAT_pri + s.fv b R.ALH_LD_STAT_accepted * 4 + s.fv b R.ALH_LD_STAT_exhausted * 8)] ++
      leBytes 2 first ++ [byte (Nat.min 255 (s.callUnack l))] }

/-- ALH sends a frame by one of its objects (R291, R510, R511): dropped and counted while port A is in LISTEN or RESTRICTED;
behind a frame that still waits, it queues. -/
def State.alhSend (s : State) (o : Nat) (f : CanFrame) : State :=
  let mode := s.canMode 0
  if mode = 2 ∨ mode = 3 then s.satInc P.ALH R.ALH_IGN_drop 1
  else if !s.canTargetsOk then s
  else if s.tstate 0 o = 1 ∨ s.tstate 0 o = 2 then
    let b := s.txBuf 0 o
    (s.setTxBuf 0 o { b with next := b.next ++ [f] }).sendWakes 0
  else s.queueFrame 0 o f

/-- One CALL frame to each CAN target called (R291). -/
def State.callFrames (s : State) (l : Nat) (ended : Bool) : State :=
  if !s.fb P.ALH R.ALH_CAN_en then s
  else
    let c := SMap.get (fun _ => Call.none_) s.alh.calls l
    (List.range 32).foldl (fun s n =>
      if bitAt c.targets n && decide (s.fv P.ALH (R.ALH_TGT_kind.nth n) = 1) then
        s.alhSend 124 (s.callFrame l (s.fv P.ALH (R.ALH_TGT_addr.nth n)) ended)
      else s) s

/-- The STATUS frame (Table 10-12). -/
def State.statusFrame (s : State) : CanFrame :=
  let d := s.fv P.ALH R.ALH_DUTY_target
  let node := if s.fv P.ALH (R.ALH_TGT_kind.nth d) = 1 then s.fv P.ALH (R.ALH_TGT_addr.nth d) else 0
  { ide := false, rtr := false, fd := s.fb P.ALH R.ALH_CAN_fd, brs := false, id := s.fv P.ALH R.ALH_CAN_id_base + 2, dlc := 8,
    data := leBytes 2 s.alhPlain ++ leBytes 2 s.alhUnack ++ [byte node, byte (bitsOf 8 s.callActive), 0#8, 0#8] }

/-! ### The course of a call -/

def State.setCall (s : State) (l : Nat) (c : Call) : State := { s with alh := { s.alh with calls := SMap.insert s.alh.calls l c } }

/-- Show a call's counts, renew the targets it calls, send its frames (R285, R291). -/
def State.callChanged (s : State) (l : Nat) : State :=
  let b := P.ALHLD l
  let c := SMap.get (fun _ => Call.none_) s.alh.calls l
  let s := s.setCall l { c with targets := s.rungTargets l (s.fv b R.ALH_LD_STAT_rung), sent := some s.now }
  let s := (s.setFv b R.ALH_LD_STAT_unack (Nat.min 255 (s.callUnack l))).setFv b R.ALH_LD_STAT_pri c.pri
  s.callFrames l false

/-- Go to rung `r` with the deadline counted from `base`, passing over rungs without a reachable target (R288); the last rung
without one leaves the call exhausted. `k` bounds the rungs looked at. -/
def State.toRung (s : State) (l base : Nat) : Nat → Nat → State
  | 0, _ => s
  | k + 1, r =>
    let b := P.ALHLD l
    if s.rungTargets l r &&& s.targetsOk ≠ 0 then
      (s.setFv b R.ALH_LD_STAT_rung r).setStamp b R.ALH_LD_DL_LO_dl R.ALH_LD_DL_HI_dl (base + s.rungTimeout l r)
    else
      let s := s.irq P.ALH 4
      if r + 1 < s.rungs l then (s.satInc b R.ALH_LD_CALLS_esc 1).toRung l base k (r + 1)
      else
        let s := (s.setFv b R.ALH_LD_STAT_rung r).setStamp b R.ALH_LD_DL_LO_dl R.ALH_LD_DL_HI_dl (base + s.rungTimeout l r)
        ((s.setFv b R.ALH_LD_STAT_exhausted 1).irq b 2).irq P.ALH 3

/-- A call ends (R290): a frame with end = 1 to each CAN target called, its DO targets released. -/
def State.callEnd (s : State) (l : Nat) : State :=
  let b := P.ALHLD l
  let s := s.callFrames l true
  let s := { s with alh := { s.alh with calls := SMap.erase s.alh.calls l } }
  let s := (s.setReg (b + R.ALH_LD_STAT_active.off) 0#32).setStamp b R.ALH_LD_DL_LO_dl R.ALH_LD_DL_HI_dl 0
  s.irq b 3

/-- An entry leaves its call (R290); the call ends with its last entry. -/
def State.callLeave (s : State) (e : Nat) : State :=
  match (s.entry e).call with
  | none => s
  | some l =>
    let s := s.setEntry e { s.entry e with call := none }
    if (s.callEntries l).isEmpty then s.callEnd l else s.callChanged l

/-- An entry that goes to UNACK joins calls at all: call_en, its class, and no RETIRED node (R286, R491). -/
def State.callsOn (s : State) (cls : Nat) : Bool :=
  s.fb P.ALH R.ALH_CTRL_call_en && s.fb P.ALH (R.ALH_CLS_call.nth cls) && decide (s.life ≠ 3)

/-- An entry joins the call of its class's ladder (R286); it leaves a call of another ladder. -/
def State.callJoin (s : State) (e : Nat) : State :=
  let cls := (s.entryCfg e).cls
  if !s.callsOn cls then s
  else
    let l := s.fv P.ALH (R.ALH_CLS_ladder.nth cls)
    let s := if (s.entry e).call.any (fun k => decide (k ≠ l)) then s.callLeave e else s
    let x := s.entry e
    let b := P.ALHLD l
    let s := s.wrapInc b R.ALH_LD_SEQ_seq 1
    let seq := s.fv b R.ALH_LD_SEQ_seq
    let s := s.setEntry e { x with join := seq, call := some l }
    let held := (SMap.get? s.alh.calls l).map (fun c => c.pri)
    let s :=
      match (if s.callActive l then held else none) with
      | none =>
        let s := s.setCall l { pri := x.pri, targets := 0, sent := none, moved := none }
        let s := (s.setReg (b + R.ALH_LD_STAT_active.off) 1#32).setFv b R.ALH_LD_SEQ_rseq seq
        let s := ((s.satInc b R.ALH_LD_CALLS_calls 1).irq b 0).irq P.ALH 1
        s.toRung l s.now 8 0
      | some p =>
        if p < x.pri then
          let s := s.setCall l { pri := x.pri, targets := 0, sent := none, moved := none }
          let s := ((s.setFv b R.ALH_LD_STAT_accepted 0).setFv b R.ALH_LD_STAT_exhausted 0).setFv b R.ALH_LD_SEQ_rseq seq
          s.toRung l s.now 8 0
        else s
    s.callChanged l

/-- The call of an entry changes where what its frame carries does (R291); its highest priority follows that of its entries. -/
def State.callFollow (s old : State) (e : Nat) : State :=
  match (s.entry e).call with
  | some l =>
    let c := SMap.get (fun _ => Call.none_) s.alh.calls l
    if c.pri < (s.entry e).pri then (s.setCall l { c with pri := (s.entry e).pri }).callChanged l
    else if s.callFrame l 0 false = old.callFrame l 0 false then s else s.callChanged l
  | none => s

/-- Every call ends where calls no longer run: call_en is 0 (Table 10-14). -/
def State.callsStop (s : State) : State :=
  (List.range 8).foldl (fun (s : State) l =>
    if !s.callActive l then s
    else ((s.callEntries l).foldl (fun (s : State) x => s.setEntry x.1 { x.2 with call := none }) s).callEnd l) s

/-- The deadline of a call has come (R287). -/
def State.rungMove (s : State) (l : Nat) : State :=
  let b := P.ALHLD l
  let dl := s.stamp b R.ALH_LD_DL_LO_dl R.ALH_LD_DL_HI_dl
  let r := s.fv b R.ALH_LD_STAT_rung
  let was : RungMove := { rung := r, dl := dl, exhausted := s.fb b R.ALH_LD_STAT_exhausted, esc := s.fv b R.ALH_LD_CALLS_esc }
  let s := s.setCall l { SMap.get (fun _ => Call.none_) s.alh.calls l with moved := some was }
  let s := ((s.irq b 1).irq P.ALH 2)
  let s :=
    if r + 1 < s.rungs l then (s.satInc b R.ALH_LD_CALLS_esc 1).toRung l dl 8 (r + 1)
    else if s.fb b R.ALH_LD_CFG_after_last then (s.satInc b R.ALH_LD_CALLS_esc 1).toRung l dl 8 0
    else
      let s := s.setStamp b R.ALH_LD_DL_LO_dl R.ALH_LD_DL_HI_dl (dl + s.rungTimeout l r)
      ((s.setFv b R.ALH_LD_STAT_exhausted 1).irq b 2).irq P.ALH 3
  s.callChanged l

/-- The deadline of a call has passed without an accept: what is stamped at the deadline is in time (R350). -/
def State.rungDue (s : State) (l : Nat) : Bool :=
  s.callActive l && !s.fb (P.ALHLD l) R.ALH_LD_STAT_accepted &&
    decide (s.stamp (P.ALHLD l) R.ALH_LD_DL_LO_dl R.ALH_LD_DL_HI_dl < s.now)

/-- ALH works: in RUN and LEAN with its domain powered, unless it has paused on the way to DORMANT (R293, R486 step 3). -/
def State.alhRuns (s : State) : Bool := s.ready && s.domainOn 6 && decide (s.pstate ≤ 1) && !s.ptePaused

/-- The rungs whose deadlines lie before an instant have moved (R287, R289); `k` bounds them. -/
def State.rungsBefore (s : State) (l stamp : Nat) : Nat → State
  | 0 => s
  | k + 1 =>
    if s.rungDue l && decide (s.stamp (P.ALHLD l) R.ALH_LD_DL_LO_dl R.ALH_LD_DL_HI_dl < stamp) then (s.rungMove l).rungsBefore l stamp k
    else s

/-- An accept stamped at or before the deadline that a rung has moved at, and delivered after the move: the stamps decide (R350), and the rung,
exhausted and the count stand as before the move; the events and frames of the move have happened. -/
def State.rungUnmove (s : State) (l stamp : Nat) : State :=
  let b := P.ALHLD l
  match (SMap.get (fun _ => Call.none_) s.alh.calls l).moved with
  | some m =>
    if m.dl < stamp then s
    else ((s.setFv b R.ALH_LD_STAT_rung m.rung).setFb b R.ALH_LD_STAT_exhausted m.exhausted).setFv b R.ALH_LD_CALLS_esc m.esc
  | none => s

/-- Accept a call (R289): escalation stops. An accept stamped after the deadline does not undo the move to the next rung. -/
def State.callAccept (s : State) (l stamp : Nat) : State × Nat :=
  let b := P.ALHLD l
  if !s.callActive l || s.fb b R.ALH_LD_STAT_accepted then (s, 1)
  else
    let s := (s.rungUnmove l stamp).rungsBefore l stamp ((stamp - s.stamp b R.ALH_LD_DL_LO_dl R.ALH_LD_DL_HI_dl) / secs 10 + 1)
    let s := ((s.setFv b R.ALH_LD_STAT_accepted 1).setStamp b R.ALH_LD_DL_LO_dl R.ALH_LD_DL_HI_dl 0).irq b 4
    (s.callChanged l, 0)

/-- ALH_CAN.repeat seconds have passed since an instant (R291); none: nothing has been sent since the start-up (R293). -/
def State.repeatDue (s : State) (last : Option Nat) : Bool :=
  last.all (fun x => decide (x + secs (s.fv P.ALH R.ALH_CAN_repeat) ≤ s.now))

/-- CALL_REPEAT (R291): ALH_CAN.repeat seconds after they were sent, the frames of an active call again. -/
def execCallRepeat (t : Nat) (ladder : Fin 8) (s : State) : Host.Outcome State Fault Refusal :=
  let s := s.at t
  .next (if s.alhRuns && s.callActive ladder && s.repeatDue (SMap.get (fun _ => Call.none_) s.alh.calls ladder).sent then s.callChanged ladder else s)

/-- STATUS_FRAME (R291): every ALH_CAN.repeat seconds. -/
def execStatusFrame (t : Nat) (s : State) : Host.Outcome State Fault Refusal :=
  let s := s.at t
  .next (if s.alhRuns && s.fb P.ALH R.ALH_CAN_en && s.repeatDue s.alh.statusAt then
      ({ s with alh := { s.alh with statusAt := some s.now } } : State).alhSend 125 s.statusFrame
    else s)

end Sys2Proof.Machine
end

