-- ==== Sys2Proof/Machine/Alh.lean ====
section
/-! DEFINITION. The alarm handling's entries (R263–R281, R294–R298): what a point change, an overlay or a decision does to an
entry, and what follows from it: call, crate, demand, event task, group, log. -/

namespace Sys2Proof.Machine

open Sys2Proof

/-! ### Log, crates, mirroring -/

/-- Count the changes of a second anew where one has passed, with ALH_RATE as it then stands (Table 10-14). -/
def State.rateRoll (s : State) : State :=
  if s.now / 16777216 = s.alh.rateFrom then s
  else { s.setReg (P.ALH + R.ALH_RATE_last.off) s.rateWord with alh := { s.alh with rateCount := 0, rateFrom := s.now / 16777216 } }

/-- ALH_CLR (Table 10-14): ALH_RATE.peak and ALH_IGN are zeroed. -/
def State.alhClear (s : State) : State := (s.rateRoll.setFv P.ALH R.ALH_RATE_peak 0).setReg (P.ALH + R.ALH_IGN_ign.off) 0#32

/-- Write one log record (R294, Table 10-9). -/
def State.alhLog (s : State) (e before reason src node : Nat) : State :=
  let x := s.entry e
  let i := s.fv P.ALH R.ALH_LOG_WIDX_widx
  let s := s.nodeWrite (0x00F00000 + i % 32768 * 32)
    (leBytes 2 e ++ [byte before, byte x.stateByte, byte x.flagByte, byte reason, byte src, byte node] ++ leBytes 8 x.changed ++
      leBytes 8 x.onset ++ leBytes 2 x.actSeq ++ leBytes 2 x.cause ++ leBytes 4 i)
  s.wrapInc P.ALH R.ALH_LOG_WIDX_widx 1

/-- Show an entry's shelved bit, and the OR of sup_mode and sup_graph, in a point's record (R273). -/
def State.mirrorPoint (s : State) (e p : Nat) : State :=
  let x := s.entry e
  let lo := if isScalar p then 5 else 3
  let b := s.stateByte p
  let b' := withBit (withBit b lo (decide (e ≠ 0xFFFF) && x.shelved)) (lo + 1) (decide (e ≠ 0xFFFF) && (x.supMode || x.supGraph))
  if b = b' then s else s.writeRecord p (if isScalar p then 26 else 8) [byte b']

/-- The points that contribute to an entry (R264). -/
def State.contributors (s : State) (e : Nat) : List Nat :=
  (s.alh.contrib.filter (fun c => decide (c.2.entry = e))).map (fun c => c.1)

/-! ### The commit of an entry change -/

/-- Commit a changed entry: the log record where its bytes 0 and 1 changed, its crate (R295), its call (R286, R290), the bits
in its point records (R273), the trips it raises (R461). `announced`: it goes to UNACK or is announced anew; its activation then counts
as announced until the entry is NORM again (R277). -/
def State.alhApply (s : State) (e : Nat) (y : Entry) (announced : Bool) (stamp reason src node : Nat) : State :=
  let x := s.entry e
  let differs := decide (x.stateByte ≠ y.stateByte) || decide (x.flagByte ≠ y.flagByte)
  let new := decide (y.st = 1) && decide (x.st ≠ 1)
  let y := { y with announced := decide (y.st = 1) || (y.announced && decide (y.st ≠ 0)), annNo := if new then s.alh.rises + 1 else y.annNo }
  let old := s
  let s := if new then { s with alh := { s.alh with rises := s.alh.rises + 1 } } else s
  let s := s.setEntry e (if differs then { y with changed := stamp } else y)
  let s := if decide (x.st = 1 ∨ x.st = 3) && !decide (y.st = 1 ∨ y.st = 3) then s.callLeave e else s
  let s := s.irqIf announced P.ALH 0
  let s := if announced && s.callsOn (s.entryCfg e).cls then s.callJoin e else s.callFollow old e
  if !differs then s
  else
    let s := s.alhLog e x.stateByte reason src node
    let c := s.entryCfg e
    let moved := decide (x.st ≠ y.st) || decide (x.level ≠ y.level)
    let edge := x.shelved != y.shelved || x.supMode != y.supMode || x.supGraph != y.supGraph
    let s :=
      if c.crate && ((moved && !y.overlaid) || (edge && !y.oos)) then
        s.trigger { stamp := stamp, source := 1, arg := e, list := some c.list, context := (s.entry e).bytes }
      else s
    let s :=
      if x.shelved != y.shelved || (x.supMode || x.supGraph) != (y.supMode || y.supGraph) then
        (s.contributors e).foldl (fun s p => s.mirrorPoint e p) s
      else s
    if x.level ≠ y.level then s.tripCheck e x.level y.level else s

/-- The state to which an entry in UNACK clears (Table 10-4). -/
def State.clearUnack (s : State) (e : Nat) : Nat := if s.fb P.ALH (R.ALH_CLS_rtn_auto.nth (s.entryCfg e).cls) then 0 else 3

/-- Change overlays or the priority of an entry (R270, R273): a cover that starts takes it from UNACK, RTNUN or LATCHED to ACKED or NORM;
at the end of the last one an ACKED entry is announced. The end of `pending` decides a held rise (R278): the entry goes to UNACK, and from
there by a clear that was held as well. -/
def State.alhOverlay (s : State) (e : Nat) (y : Entry) (stamp reason src node : Nat) : State :=
  let x := s.entry e
  if x.pending && !y.pending then
    if y.overlaid || decide (y.pri = 0) then s.alhApply e { y with st := if y.level = 0 then 0 else 2 } false stamp reason src node
    else
      let s := s.alhApply e { y with st := 1 } true stamp reason src node
      if y.level ≠ 0 then s else s.alhApply e { s.entry e with st := s.clearUnack e } false stamp reason src node
  else
    let st : Nat :=
      if y.covered then (if y.st = 1 ∨ y.st = 3 ∨ y.st = 4 then (if y.level ≠ 0 then 2 else 0) else y.st)
      else if x.covered && decide (y.st = 2) then 1
      else y.st
    s.alhApply e { y with st := st } (decide (x.st ≠ 1) && decide (st = 1)) stamp reason src node

/-- The entry's priority follows its class (R270). -/
def State.alhRegrade (s : State) (e : Nat) : State :=
  let x := s.entry e
  let pri := s.priorityAt (s.entryCfg e).cls x.level
  if x.level = 0 ∨ x.pri = pri then s else s.alhOverlay e { x with pri := pri } s.now 0 0 0

/-! ### Suppression (R276–R278) -/

/-- An edge applies now (R276). -/
def State.edgeApplies (s : State) (g : Edge) : Bool :=
  let c := s.entry g.cause
  let q := s.entry g.conseq
  c.rose && decide (c.onset * 100 ≤ q.onset * 100 + g.lead * 16777216) &&
    ((decide (c.level ≠ 0) && !c.oos) ||
      (match c.lastClear with
       | some r => decide (s.now * 10 ≤ r * 10 + g.hold * 16777216)
       | none => false))

/-- The edges into an entry; one whose word cannot be read is none (R228; log 131). -/
def State.edgesInto (s : State) (q : Nat) : List Edge :=
  (s.alh.edges.zipIdx.filter (fun g => decide (g.1.conseq = q) && decide (q ≠ 0xFFFF) && !s.isPoisoned (0x00E00000 + g.2 * 8))).map (fun g => g.1)

/-- The cause of the applying edge with the lowest index. -/
def State.causeOf (s : State) (q : Nat) : Option Nat :=
  ((s.edgesInto q).find? (fun g => s.edgeApplies g)).map (fun g => g.cause)

/-- An edge applies to an entry that has been announced, and its cause had risen by then (R277). -/
def State.stoodFirst (s : State) (x : Entry) (q : Nat) : Bool :=
  (s.edgesInto q).any (fun g => s.edgeApplies g && decide ((s.entry g.cause).roseNo < x.annNo))

/-- Judge an entry's suppression (R276): sup_graph ends where no edge applies; an entry that has been announced does not gain it by a cause
that rose later (R277), a pending one is decided at its end (R278), and one that is not in use carries none (R299). -/
def State.alhJudge (s : State) (q reason : Nat) : State :=
  let x := s.entry q
  match (if (s.entryCfg q).en then s.causeOf q else none) with
  | some c =>
    if x.supGraph || (x.rose && !x.pending && (!x.announced || s.stoodFirst x q)) then s.alhOverlay q { x with supGraph := true, cause := c } s.now reason 0 0 else s
  | none => if x.supGraph then s.alhOverlay q { x with supGraph := false, cause := 0xFFFF } s.now reason 0 0 else s

/-- Judge the consequences of an entry again. -/
def State.judgeFrom (s : State) (c : Nat) : State :=
  (s.alh.edges.filter (fun g => decide (g.cause = c) && decide (g.conseq ≠ 0xFFFF))).foldl (fun (s : State) g => s.alhJudge g.conseq 6) s

/-- The largest lead of the edges into an entry, 10 ms. -/
def State.leadOf (s : State) (q : Nat) : Nat := (s.edgesInto q).foldl (fun m g => Nat.max m g.lead) 0

/-! ### Groups (R280, R281) -/

/-- A first-out window whose end has come is final and its group closed. -/
def State.foFinal (s : State) (g : Nat) : State :=
  let x := s.group_ g
  if x.opened && decide (x.foEnd ≤ s.now) then s.setGroup g { x with opened := false, final := true, armed := false } else s

/-- An entry of a group rises (R280). -/
def State.groupRise (s : State) (g e onset : Nat) : State :=
  let s := s.foFinal g
  let x := s.group_ g
  if !x.armed then s
  else
    let x := if x.opened then x
      else { x with opened := true, openedAt := s.now, foEnd := s.now + secs x.foWin, foEntry := 0xFFFF, foOnset := 0 }
    let first := decide (x.foEntry = 0xFFFF) || decide (onset < x.foOnset) || (decide (onset = x.foOnset) && decide (e < x.foEntry))
    s.setGroup g (if first then { x with foEntry := e, foOnset := onset } else x)

/-- Arm a closed group (R281). -/
def State.groupArm (s : State) (g : Nat) : State := s.setGroup g { s.group_ g with armed := true, final := false }

/-- An entry of a group has cleared: a closed group with auto_rearm is armed again when its n_act returns to 0 (R281). -/
def State.groupClear (s : State) (g : Nat) : State :=
  let s := s.foFinal g
  if (s.group_ g).autoRearm && !(s.group_ g).armed && decide (s.groupAct g = 0) then s.groupArm g else s

/-! ### Levels (R264, R265) -/

/-- The condition level that an entry's counts give. -/
def State.levelFrom (s : State) (e : Nat) : Nat :=
  let x := s.entry e
  let c := s.entryCfg e
  if !c.en then 0
  else
    let l := if x.nAlm ≠ 0 then 2 else if x.nAct ≠ 0 then 1 else 0
    let l := if x.nBad ≠ 0 then Nat.max l c.badLevel else l
    if x.recount then Nat.max l x.level else l

/-- Demand and event task of an entry whose level goes from `old` to `new` at an update (R296, R297). -/
def State.alhEffects (s : State) (e old new stamp : Nat) : State :=
  let c := s.entryCfg e
  let had := s.rmp.demands.any (fun d => decide (d.2 = e))
  let s :=
    if c.demand && !(s.entry e).oos && decide (c.dLevel ≠ 0) && decide (c.dLevel ≤ new) then
      s.rmpDemands (s.rmp.demands.filter (fun (d : Nat × Nat) => decide (d.2 ≠ e)) ++ [(c.profile, e)])
    else if had then s.rmpDemands (s.rmp.demands.filter (fun (d : Nat × Nat) => decide (d.2 ≠ e)))
    else s
  if c.event && !(s.entry e).oos && (decide (old = 0 ∧ new ≠ 0) || decide (old = 1 ∧ new = 2)) then s.fbeTrigger (8 + c.task) stamp
  else s

/-- The flags that a change brings to an entry whose level it alters (R265): forced, simulated, poison. -/
structure ChangeFlags where
  forced : Bool
  simulated : Bool
  poison : Bool
deriving DecidableEq, Repr

/-- Bring an entry's level up to its counts (R264, R265, R269, R270): rise, up or clear with all that follows. `onset` is the
onset stamp of a rise, `stamp` that of the change. -/
def State.alhUpdate (s : State) (e stamp onset reason : Nat) (fl : Option ChangeFlags) : State :=
  let x0 := s.entry e
  let x : Entry := { x0 with bad := decide (x0.nBad ≠ 0) }
  let c := s.entryCfg e
  let new := s.levelFrom e
  let old := x.level
  if new = old then
    (s.alhOverlay e { x with pri := if old = 0 then x.pri else s.priorityAt c.cls old } stamp reason 0 0).alhEffects e old new stamp
  else
    let x : Entry := match fl with
      | some f => { x with forced := f.forced, simulated := f.simulated, poison := f.poison }
      | none => x
    let was0 := decide (old ≠ 0) && decide (x.pri = 0)
    let x := { x with level := new, pri := if new = 0 then x.pri else s.priorityAt c.cls new }
    let is0 := decide (new ≠ 0) && decide (x.pri = 0)
    let grouped := decide (c.group ≠ 0xFFFF)
    let s :=
      if old = 0 then
        -- a rise: activation, first-out, lead and suppression, then the state
        let x : Entry := { x with actSeq := (x.actSeq + 1) % 65536, onset := onset, rose := true, announced := false, roseNo := s.alh.rises + 1 }
        let s := { s with alh := { s.alh with rises := s.alh.rises + 1 } }
        let s := if grouped && !x.oos then s.groupRise c.group e onset else s
        let until_ := onset + s.leadOf e * 16777216 / 100
        let held := decide (s.leadOf e ≠ 0) && decide (s.now ≤ until_)
        let cause := if held then none
          else ((s.edgesInto e).find? (fun g => { s with alh := { s.alh with entries := SMap.insert s.alh.entries e x } }.edgeApplies g)).map
            (fun g => g.cause)
        let x : Entry := if held then { x with pending := true, pendUntil := some until_ }
          else match cause with
            | some k => { x with pending := false, pendUntil := none, supGraph := true, cause := k }
            | none => { x with pending := false, pendUntil := none, supGraph := false, cause := 0xFFFF }
        let fresh := x.pending && !x0.overlaid
        let st : Nat := if fresh then (if x.st = 1 ∨ x.st = 3 ∨ x.st = 4 then 2 else x.st)
          else if x.pending then x.st
          else if x.overlaid || is0 then 2 else 1
        s.alhApply e { x with st := st } (decide (st = 1)) stamp reason 0 0
      else if new = 0 then
        let cls := c.cls
        let st : Nat := if x.pending then x.st
          else if x.overlaid || was0 then 0
          else if x.st = 1 then s.clearUnack e
          else if x.st = 2 then (if s.fb P.ALH (R.ALH_CLS_latch.nth cls) then 4 else 0)
          else x.st
        let auto := decide (x0.st = 1) && decide (st = 0) && !x.overlaid && !was0
        let x : Entry := if auto then { x with ackSrc := 0, ackNode := 0 } else x
        let s := s.alhApply e { x with st := st, lastClear := some stamp } false stamp reason 0 0
        if grouped then s.groupClear c.group else s
      else
        let up := decide (old < new)
        let st : Nat := if x.overlaid then x.st
          else if is0 then (if x.st = 1 ∨ x.st = 3 ∨ x.st = 4 then 2 else x.st)
          else if was0 then 1
          else if up && decide (x.st = 1 ∨ x.st = 2) then 1
          else x.st
        let announced := decide (st = 1) && (up || decide (x0.st ≠ 1)) && !x.overlaid && !is0
        s.alhApply e { x with st := st } announced stamp reason 0 0
    let s := s.alhEffects e old new stamp
    if old = 0 ∨ new = 0 then s.judgeFrom e else s

/-! ### Point changes (R249, R263, R264, R266) -/

/-- Add to or take from an entry's counts what a point contributes. -/
def State.countPoint (s : State) (c : Contrib) (add : Bool) : State :=
  if c.entry = 0xFFFF then s
  else
    let x := s.entry c.entry
    let f (n : Nat) (b : Bool) : Nat := if b then (if add then n + 1 else n - 1) else n
    s.setEntry c.entry { x with
      nAct := f x.nAct (decide (c.lvl ≠ 0)), nAlm := f x.nAlm (decide (c.lvl = 2)), nBad := f x.nBad c.bad }

/-- Put a point's contribution in place of its earlier one. -/
def State.setContrib (s : State) (p : Nat) (c : Contrib) : State :=
  let old := SMap.get? s.alh.contrib p
  let s := match old with
    | some o => s.countPoint o false
    | none => s
  let s := s.countPoint c true
  { s with alh := { s.alh with contrib := SMap.insert s.alh.contrib p c } }

/-- Apply one change of the queue (R264, R265, R266). -/
def State.alhChange (s : State) (ch : Change) : State :=
  let s := s.rateRoll
  let s := { s with alh := { s.alh with rateCount := s.alh.rateCount + 1 } }
  let before := ((SMap.get? s.alh.contrib ch.point).map (fun c => c.entry)).getD 0xFFFF
  let s := s.setContrib ch.point { entry := ch.entry, lvl := ch.lvl1, bad := ch.bad1 || ch.poison }
  let s := if before ≠ ch.entry then s.mirrorPoint ch.entry ch.point else s
  let fl : ChangeFlags := { forced := ch.forced, simulated := ch.simulated, poison := ch.poison }
  let one (e : Nat) (s : State) : State :=
    if e = 0xFFFF then s
    else
      let onset := if isScalar ch.point && decide ((s.entry e).nAct ≠ 0) then ch.runStart else ch.stamp
      s.alhUpdate e ch.stamp onset 0 (some fl)
  let s := if before ≠ ch.entry then one before s else s
  one ch.entry s

/-- The change of the queue with the lowest stamp, and the rest (R282). -/
def earliestChange : List Change → Option (Change × List Change)
  | [] => none
  | c :: l =>
    match earliestChange l with
    | none => some (c, [])
    | some (d, r) => if d.stamp < c.stamp then some (d, c :: r) else some (c, l)

/-- Take the earliest change of the queue. -/
def State.takeChange (s : State) : State :=
  match earliestChange s.pte.changes with
  | none => s
  | some (c, r) =>
    let s := { s with pte := { s.pte with changes := r } }
    (s.setFb P.PTE R.PTE_STAT_cq_full false).alhChange c

/-! ### Timed events -/

/-- SUP_MODE_RELEASE (R275). -/
def execSupModeRelease (t : Nat) (entry : Fin 16384) (s : State) : Host.Outcome State Fault Refusal :=
  let s := s.at t
  let x := s.entry entry
  match x.modeDrop with
  | some d => .next (if s.alhRuns && decide (d ≤ s.now) then s.unlessWaits (s.alhOverlay entry { x with supMode := false, modeDrop := none } s.now 5 0 0) else s)
  | none => .next s

/-- Free a shelving slot and end the overlay (R274). -/
def State.unshelve (s : State) (e src node : Nat) : State :=
  let x := s.entry e
  let s := { s with alh := { s.alh with slots := SMap.erase s.alh.slots x.slot } }
  s.alhOverlay e { x with shelved := false, slot := 0xFFFF } s.now 4 src node

/-- SHELVE_EXPIRY (R274). -/
def execShelveExpiry (t : Nat) (slot : Fin 1024) (s : State) : Host.Outcome State Fault Refusal :=
  let s := s.at t
  match SMap.get? s.alh.slots slot with
  | some x =>
    .next (if s.alhRuns && decide (x.expiry ≤ s.now) && !s.anyPoison (0x00E50000 + slot.val * 16) 16 then
        s.unlessWaits ((s.unshelve x.entry 0 0).irq P.ALH 5)
      else s)
  | none => .next s

/-- SUPPRESSION_HOLD_END (R276): the suppression of the entry is judged again. -/
def execSuppressionHoldEnd (t : Nat) (entry : Fin 16384) (s : State) : Host.Outcome State Fault Refusal :=
  let s := s.at t
  .next (if s.alhRuns then s.unlessWaits ((s.alhJudge entry 6).judgeFrom entry) else s)

/-- PENDING_DECIDED (R278): the lead has passed; R276 is judged, and the entry is suppressed or announced. -/
def execPendingDecided (t : Nat) (entry : Fin 16384) (s : State) : Host.Outcome State Fault Refusal :=
  let s := s.at t
  let x := s.entry entry
  if !s.alhRuns then .next s
  else match x.pendUntil with
    | none => .next s
    | some d =>
      if s.now ≤ d then .next s
      else
        let y : Entry := match s.causeOf entry with
          | some c => { x with pending := false, pendUntil := none, supGraph := true, cause := c }
          | none => { x with pending := false, pendUntil := none, supGraph := false, cause := 0xFFFF }
        .next (s.unlessWaits (s.alhOverlay entry y s.now 9 0 0))

/-- FIRST_OUT_FINAL (R280). -/
def execFirstOutFinal (t : Nat) (group : Fin 1024) (s : State) : Host.Outcome State Fault Refusal :=
  let s := s.at t
  .next (if s.alhRuns then s.foFinal group else s)

end Sys2Proof.Machine
end

