-- ==== Sys2Proof/Machine/AlhCmd.lean ====
section
/-! DEFINITION. Commands of the alarm handling (R271–R275, R281–R284, Table 10-11), the answers of the call network (R291), the
load of an alarm table (R299), and the pause of DORMANT (R293). -/

namespace Sys2Proof.Machine

open Sys2Proof

/-! ### Acknowledge, reset -/

/-- Acknowledge the entries of a list (R269): result 0 where one of them was in UNACK or RTNUN. -/
def State.alhAck (s : State) (es : List Nat) (src node stamp : Nat) : State × Nat :=
  es.foldl (fun r e =>
    let s := r.1
    let x := s.entry e
    if x.st = 1 ∨ x.st = 3 then
      let st : Nat := if x.st = 1 then 2 else if s.fb P.ALH (R.ALH_CLS_latch.nth (s.entryCfg e).cls) then 4 else 0
      (s.alhApply e { x with st := st, ackSrc := src, ackNode := node } false stamp 1 src node, 0)
    else r) (s, 1)

/-- Reset an entry (R269, R271): LATCHED goes to NORM, and every latched point of the entry is released. -/
def State.alhReset (s : State) (e src node stamp : Nat) : State × Nat :=
  let x := s.entry e
  let latched := (s.pointsOfEntry e).filter s.pointLatched
  if x.st ≠ 4 ∧ latched = [] then (s, 1)
  else
    let st : Nat := if x.st = 4 then 0 else x.st
    let s := s.alhApply e { x with st := st, ackSrc := src, ackNode := node } false stamp 2 src node
    (latched.foldl (fun s p => s.releasePoint p) s, 0)

/-- The activation a command names (R283): 0xFFFF matches any; an ANSWER carries the low byte. -/
def actMatches (x : Entry) (arg src : Nat) : Bool :=
  if src = 2 then decide (arg % 256 = x.actSeq % 256) else decide (arg % 65536 = 0xFFFF) || decide (arg % 65536 = x.actSeq)

/-! ### Shelving and service (R273, R274) -/

/-- Shelve an entry for a number of seconds (R274); it takes the lowest free slot. -/
def State.alhShelve (s : State) (e arg src node stamp : Nat) : State × Nat :=
  let c := s.entryCfg e
  if !c.en || s.fb P.ALH (R.ALH_CLS_no_shelve.nth c.cls) then (s, 2)
  else
    let x := s.entry e
    let n := nclip 1 (s.fv P.ALH (R.ALH_CLS_shelve_max.nth c.cls) * 60) arg
    let slot := if x.shelved then some x.slot else (List.range 1024).find? (fun i => (SMap.get? s.alh.slots i).isNone)
    match slot with
    | none => (s, 2)
    | some i =>
      let rec_ : Slot := { entry := e, source := src, node := node, expiry := stamp + secs n }
      let s := { s with alh := { s.alh with slots := SMap.insert s.alh.slots i rec_ } }.curePoison (0x00E50000 + i * 16) 16
      (s.alhOverlay e { x with shelved := true, slot := i } stamp 3 src node, 0)

/-- Unshelve an entry. -/
def State.alhUnshelve (s : State) (e src node : Nat) : State × Nat :=
  if (s.entry e).shelved then (s.unshelve e src node, 0) else (s, 1)

/-- Take an entry out of service, or return it (R273): its demand and its consequences follow (R276, R296). -/
def State.alhService (s : State) (e : Nat) (out : Bool) (src node stamp : Nat) : State × Nat :=
  let x := s.entry e
  if x.oos = out then (s, 1)
  else
    let s := s.alhOverlay e { x with oos := out } stamp 7 src node
    let l := (s.entry e).level
    ((s.alhEffects e l l stamp).judgeFrom e, 0)

/-! ### The commands of Table 10-11 -/

/-- A command with its index in range (R282, R283, Table 10-11). `may`: its lifecycle or debug state permits ops 7 and 8. -/
def State.alhDo (s : State) (op idx arg src node stamp : Nat) (may : Bool) : State × Nat :=
  match op with
  | 1 => if actMatches (s.entry idx) arg src then s.alhAck [idx] src node stamp else (s, 3)
  | 2 => s.alhAck ((s.alhAll (fun _ => true)).filter (fun e => decide ((s.entryCfg e).group = idx))) src node stamp
  | 3 => s.alhAck (s.alhAll (fun _ => true)) src node stamp
  | 4 => if actMatches (s.entry idx) arg src then s.alhReset idx src node stamp else (s, 3)
  | 5 => s.alhShelve idx arg src node stamp
  | 6 => s.alhUnshelve idx src node
  | 7 => if may then s.alhService idx true src node stamp else (s, 2)
  | 8 => if may then s.alhService idx false src node stamp else (s, 2)
  | 9 => s.callAccept idx stamp
  | _ => if (s.group_ idx).armed then (s, 1) else (s.groupArm idx, 0)

/-- The number of indices of an operation; 0 where there is no such operation. -/
def alhIndices (op : Nat) : Nat := [0, 16384, 1024, 65536, 16384, 16384, 16384, 16384, 16384, 8, 1024].getD op 0

/-- A command whose index may lie out of range. -/
def State.alhOp (s : State) (op idx arg src node stamp : Nat) (may : Bool) : State × Nat :=
  if alhIndices op ≤ idx then (s, 4) else s.alhDo op idx arg src node stamp may

/-- The duty target (R285): the calls follow at their next CALL frame. -/
def State.setDuty (s : State) (n src : Nat) : State := (s.setFv P.ALH R.ALH_DUTY_target n).setFv P.ALH R.ALH_DUTY_src src

/-! ### Answers (R291, Table 10-12) -/

/-- An ANSWER that is rejected is counted (R291). -/
def State.staleAnswer (s : State) : State := (s.satInc P.ALH R.ALH_IGN_ign 1).irq P.ALH 7

/-- `a` is not older than `b` among wrapping 16-bit sequence numbers. -/
def notOlder (a b : Nat) : Bool := decide ((a + 65536 - b % 65536) % 65536 < 32768)

/-- The kind of an ANSWER frame. -/
def answerKind (d : List Byte) : Nat := (d.getD 1 0#8).toNat

/-- The CAN target with a node number. -/
def State.targetOfNode (s : State) (node : Nat) : Option Nat :=
  (List.range 32).find? (fun n => decide (s.fv P.ALH (R.ALH_TGT_kind.nth n) = 1) && decide (s.fv P.ALH (R.ALH_TGT_addr.nth n) = node))

/-- An ANSWER frame received in object 126 (R291) waits for its effect; one from no CAN target, or of no kind of Table 10-12,
is counted. -/
def State.answerReceived (s : State) (stamp : Nat) (d : List Byte) : State :=
  let node := (d.getD 0 0#8).toNat
  if (s.targetOfNode node).isSome && decide (1 ≤ answerKind d ∧ answerKind d ≤ 6) then
    { s with alh := { s.alh with answers := s.alh.answers ++ [(stamp, d)] } }
  else s.staleAnswer

/-- What an ANSWER of kind `k` from `node` does, with its 16-bit word `w` and its byte 4 `b` (Table 10-12, R283, R289), and whether it is
accepted. -/
def State.answerDo (s : State) (stamp node k w b : Nat) : State × Bool :=
  match k with
  | 1 =>
    if b < 8 && s.callActive b && notOlder w (s.fv (P.ALHLD b) R.ALH_LD_SEQ_rseq) then ((s.callAccept b stamp).1, true) else (s, false)
  | 2 => let r := s.alhOp 1 w b 2 node stamp false; (r.1, decide (r.2 ≠ 3) && decide (r.2 ≠ 4))
  | 3 => let r := s.alhOp 2 w 0 2 node stamp false; (r.1, decide (r.2 ≠ 4))
  | 4 =>
    if b < 8 then
      ((s.alhAck (((s.callEntries b).filter (fun e => notOlder w e.2.join)).map (fun e => e.1)) 2 node stamp).1, true)
    else (s, false)
  | 5 => (match s.targetOfNode node with
    | some n => (s.setDuty n 2, true)
    | none => (s, false))
  | _ => let r := s.alhOp 4 w b 2 node stamp false; (r.1, decide (r.2 ≠ 3) && decide (r.2 ≠ 4))

/-- Take the oldest waiting answer; one that is rejected is counted (R291). -/
def State.takeAnswer (s : State) : State :=
  match s.alh.answers with
  | [] => s
  | (stamp, d) :: rest =>
    let s := { s with alh := { s.alh with answers := rest } }
    let r := s.answerDo stamp (d.getD 0 0#8).toNat (answerKind d) ((d.getD 2 0#8).toNat + (d.getD 3 0#8).toNat * 256) (d.getD 4 0#8).toNat
    if r.2 then r.1 else r.1.staleAnswer

/-! ### Stamp order (R282) -/

/-- ALH takes changes: it runs, with ALH_CTRL.en = 1. -/
def State.alhTakes (s : State) : Bool := s.alhRuns && s.fb P.ALH R.ALH_CTRL_en

/-- Take up to `n` of the answers stamped at or before `stamp` and the changes stamped before it, in stamp order, an answer before a
change of its own stamp (R282). -/
def State.alhDrain (s : State) (stamp : Nat) : Nat → State
  | 0 => s
  | n + 1 =>
    let change := if s.alhTakes then (earliestChange s.pte.changes).map (fun c => c.1.stamp) else none
    match s.alh.answers.head? with
    | some a =>
      if a.1 ≤ stamp && change.all (fun c => decide (a.1 ≤ c)) then s.takeAnswer.alhDrain stamp n
      else if change.any (fun c => decide (c < stamp)) then s.takeChange.alhDrain stamp n
      else s
    | none => if change.any (fun c => decide (c < stamp)) then s.takeChange.alhDrain stamp n else s

/-- Everything that acts before a command of this stamp (R282). -/
def State.alhUpTo (s : State) (stamp : Nat) : State :=
  if s.alhRuns then s.alhDrain stamp (s.pte.changes.length + s.alh.answers.length) else s

/-- A command at its stamp (R282): answers and changes stamped before it act first. -/
def State.alhCmd (s : State) (op idx arg src node stamp : Nat) (may : Bool) : State × Nat := (s.alhUpTo stamp).alhOp op idx arg src node stamp may

/-- POINT_CHANGE (R264, R282): the change with the earliest stamp, after the answers that it follows; `ecc` is what reading the entry finds
(R228). -/
def execPointChange (t : Nat) (ecc : EccFinds) (s : State) : Host.Outcome State Fault Refusal :=
  let s := s.at t
  match earliestChange s.pte.changes with
  | some (c, _) => .next (if s.alhTakes then s.unlessWaits ((s.eccFinds ecc).alhUpTo c.stamp).takeChange else s)
  | none => .next s

/-- RUNG_DEADLINE (R287, R288): an accept stamped at or before the deadline acts first. -/
def execRungDeadline (t : Nat) (ladder : Fin 8) (s : State) : Host.Outcome State Fault Refusal :=
  let s := s.at t
  if !(s.alhRuns && s.rungDue ladder) then .next s
  else
    let u := s.alhUpTo (s.stamp (P.ALHLD ladder) R.ALH_LD_DL_LO_dl R.ALH_LD_DL_HI_dl)
    .next (if u.rungDue ladder then u.rungMove ladder else u)

/-- The oldest waiting answer, where it is of kind `k`, after what it follows (R282). -/
def State.answer (s : State) (k : Nat) : State :=
  match s.alh.answers with
  | [] => s
  | (stamp, d) :: _ => if answerKind d ≠ k ∨ !s.alhRuns then s else s.unlessWaits (s.alhUpTo stamp)

/-- ANSWER_ACCEPT (R289): kind 1, whose seq is not older than rseq. -/
def execAnswerAccept (t : Nat) (s : State) : Host.Outcome State Fault Refusal := .next ((s.at t).answer 1)

/-- ANSWER_ACK_ENTRY (R283): kind 2. -/
def execAnswerAckEntry (t : Nat) (s : State) : Host.Outcome State Fault Refusal := .next ((s.at t).answer 2)

/-- ANSWER_ACK_GROUP (R291): kind 3. -/
def execAnswerAckGroup (t : Nat) (s : State) : Host.Outcome State Fault Refusal := .next ((s.at t).answer 3)

/-- ANSWER_ACK_CALL (R291): kind 4, every entry of the call whose join value is no later than seq. -/
def execAnswerAckCall (t : Nat) (s : State) : Host.Outcome State Fault Refusal := .next ((s.at t).answer 4)

/-- ANSWER_TAKE_DUTY (R291): kind 5, the answering node's target becomes the duty target. -/
def execAnswerTakeDuty (t : Nat) (s : State) : Host.Outcome State Fault Refusal := .next ((s.at t).answer 5)

/-- ANSWER_RESET_ENTRY (R283): kind 6. -/
def execAnswerResetEntry (t : Nat) (s : State) : Host.Outcome State Fault Refusal := .next ((s.at t).answer 6)

/-! ### The host's commands and the acknowledge input -/

/-- A host's command (R282): its result and the count of commands. -/
def State.hostCmd (s : State) (op idx arg src stamp : Nat) (may : Bool) : State :=
  let r := s.alhCmd op idx arg src 0 stamp may
  (r.1.setFv P.ALH R.ALH_CMD_RES_res r.2).wrapInc P.ALH R.ALH_CMD_RES_cseq 1

/-- A rising edge on the acknowledge input (R284): every entry in UNACK or RTNUN, and every active call. -/
def State.ackInput (s : State) (ch stamp : Nat) : State :=
  if !s.fb P.ALH R.ALH_ACK_DI_en || decide (s.fv P.ALH R.ALH_ACK_DI_ch ≠ ch) || !s.alhRuns then s
  else
    let s := (s.alhCmd 3 0 0 3 0 stamp false).1
    (List.range 8).foldl (fun s l => (s.callAccept l stamp).1) s

/-! ### Mode and duty -/

/-- A change of the operating mode (R275), after what is stamped before it (R282). -/
def State.alhMode (s : State) (m src : Nat) : State :=
  let s := s.alhUpTo s.now
  let was := s.fv P.ALH R.ALH_MODE_mode
  let s := (s.setFv P.ALH R.ALH_MODE_mode m).setFv P.ALH R.ALH_MODE_src src
  if was = m then s
  else
    let s := s.irq P.ALH 6
    let gain := (s.alh.cfg.filter (fun c => c.2.en && bitAt c.2.modeMask m)).map (fun c => c.1)
    let s := gain.foldl (fun s e =>
      let x := s.entry e
      if x.supMode then s.setEntry e { x with modeDrop := none }
      else s.alhOverlay e { x with supMode := true, modeDrop := none } s.now 5 0 0) s
    let lose := (s.alhAll (fun x => x.supMode)).filter (fun e => !bitAt (s.entryCfg e).modeMask m)
    let rel := s.fv P.ALH R.ALH_MODE_rel
    lose.foldl (fun s e =>
      let x := s.entry e
      if rel = 0 then s.alhOverlay e { x with supMode := false, modeDrop := none } s.now 5 0 0
      else s.setEntry e { x with modeDrop := some (x.modeDrop.getD (s.now + rel * 16777216 / 10)) }) s

/-- A change of the duty target by a command (R285), after what is stamped before it (R282). -/
def State.alhDuty (s : State) (n src : Nat) : State := (s.alhUpTo s.now).setDuty n src

/-- A word of a host acts on ALH; the mode it replaces stands until then. -/
def State.alhTakeWord (s : State) : AlhWord → State
  | .cmd op idx arg src stamp may => s.hostCmd op idx arg src stamp may
  | .mode m was src => (s.setFv P.ALH R.ALH_MODE_mode was).alhMode m src
  | .duty n src => s.alhDuty n src

/-- A word of a host for ALH: at once, or when ALH runs again (R293; log 132). -/
def State.alhWord (s : State) (w : AlhWord) : State :=
  if s.alhRuns then s.alhTakeWord w else { s with alh := { s.alh with held := s.alh.held ++ [w] } }

/-- The words that waited while ALH was paused act, in their order (R293). -/
def State.alhWords (s : State) : State :=
  if !s.alhRuns then s
  else s.alh.held.foldl (fun (s : State) w => s.alhTakeWord w) { s with alh := { s.alh with held := [] } }

/-- A write of ALH_CMD (R282), with ALH_CMD_ARG. -/
def State.alhCmdWrite (s : State) (p : Port) (v : Word) : State :=
  let src := match p with
    | .host => 1
    | .trapdoor => 5
  s.alhWord (.cmd (Word.bits v 0 4) (Word.bits v 8 16) (s.fv P.ALH R.ALH_CMD_ARG_arg) src s.now (s.maintains p))

/-! ### Alarm tables (R279, R299) -/

/-- An entry configuration record within the ranges of Table 10-2; d_level counts only with demand. -/
def EntryCfg.inRange (c : EntryCfg) : Bool :=
  decide (c.badLevel ≤ 2) && decide (c.cls ≤ 15) && decide (c.task ≤ 7) && (decide (c.group ≤ 1023) || decide (c.group = 0xFFFF)) &&
    decide (c.modeMask < 65536) && decide (c.list ≤ 15) && (!c.demand || (decide (1 ≤ c.dLevel) && decide (c.dLevel ≤ 2))) &&
    (!c.demand || decide (c.profile ≤ 7)) && decide (c.profile < 256) && decide (c.tag.length = 16)

def Edge.inRange (g : Edge) : Bool :=
  decide (g.cause ≤ 16383) && (decide (g.conseq ≤ 16383) || decide (g.conseq = 0xFFFF)) && decide (g.lead ≤ 500) && decide (g.hold ≤ 6000)

/-- Take away, `n` times, the edges whose cause is the consequence of no edge left. -/
def peelEdges : Nat → List Edge → List Edge
  | 0, l => l
  | n + 1, l => peelEdges n (l.filter (fun g => l.any (fun h => decide (h.conseq = g.cause))))

/-- The edges form no cycle, and none names an entry as its own cause (R279). -/
def acyclic (l : List Edge) : Bool :=
  let l := l.filter (fun g => decide (g.conseq ≠ 0xFFFF))
  (peelEdges l.length l).isEmpty

/-- A table may be loaded (R299). -/
def AlarmTable.valid (a : AlarmTable) : Bool :=
  a.cfg.all (fun c => decide (c.1 < 16384) && c.2.inRange) &&
    a.bandMap.all (fun b => decide (b.1 < 262144) && (decide (b.2 ≤ 16383) || decide (b.2 = 0xFFFF))) &&
    decide (a.edges.length ≤ 16384) && a.edges.all Edge.inRange && acyclic a.edges &&
    a.groups.all (fun g => decide (g.1 < 1024) && decide (1 ≤ g.2.2) && decide (g.2.2 ≤ 60))

/-- The planes whose part of the band map differs between two maps. -/
def changedPlanes (a b : SMap Nat) : List Nat :=
  (List.range 64).filter (fun pl =>
    decide (SMap.inRange a (pl * 4096) (pl * 4096 + 4096) ≠ SMap.inRange b (pl * 4096) (pl * 4096 + 4096)))

/-- An entry that the table no longer uses goes to NORM and loses its overlays (R299). -/
def State.alhUnused (s : State) (e : Nat) : State :=
  let x := s.entry e
  let s := if x.shelved then { s with alh := { s.alh with slots := SMap.erase s.alh.slots x.slot } } else s
  s.alhApply e { x with st := 0, shelved := false, supMode := false, supGraph := false, oos := false, pending := false, cause := 0xFFFF,
                        slot := 0xFFFF, modeDrop := none, pendUntil := none } false s.now 8 0 0

/-- Suppression by the operating mode is judged again (R275, R299): an entry whose mask names the mode carries sup_mode, any other loses
it, at once or at the end of its release delay. -/
def State.modeJudge (s : State) (e : Nat) : State :=
  let x := s.entry e
  let c := s.entryCfg e
  if c.en && bitAt c.modeMask (s.fv P.ALH R.ALH_MODE_mode) then
    (if x.supMode then s.setEntry e { x with modeDrop := none }
     else s.alhOverlay e { x with supMode := true, modeDrop := none } s.now 8 0 0)
  else if x.supMode && x.modeDrop.isNone then s.alhOverlay e { x with supMode := false } s.now 8 0 0
  else s

/-- Changes of spectral points that still wait belong to the entries of a new band map (R263, R299). -/
def State.changesRemapped (s : State) : State :=
  { s with pte := { s.pte with changes := s.pte.changes.map (fun c =>
      if isScalar c.point then c else { c with entry := s.entryOf c.point }) } }

/-- The tables of the alarm handling store are written whole, which cures their words (R228). -/
def State.tablesCured (s : State) : State :=
  ((s.curePoison 0x00C00000 0x80000).curePoison 0x00D80000 0x80000).curePoison 0x00E00000 0x20000

/-- Load a table at one instant between two changes (R299); the planes whose band map changed are to be recounted, and the groups whose n_act
it brings to 0 are judged (R281). -/
def State.alhLoad (s : State) (a : AlarmTable) (id : Nat) : State :=
  let cfg := a.cfg.foldl (fun m c => SMap.put (fun _ => EntryCfg.reset) m c.1 c.2) []
  let map := a.bandMap.foldl (fun m b => SMap.put (fun _ => 0xFFFF) m b.1 b.2) []
  let planes := changedPlanes s.alh.bandMap map
  let acted := ((s.alh.cfg.map (fun c => c.2.group)).eraseDups).filter (fun g => decide (s.groupAct g ≠ 0))
  let touched (m : SMap Nat) : List Nat := (m.filter (fun b => planes.contains (b.1 / 4096))).map (fun b => b.2)
  let hit := touched s.alh.bandMap ++ touched map
  let s := { s with alh := { s.alh with cfg := cfg, bandMap := map, edges := a.edges, recount := planes } }.tablesCured.changesRemapped
  let s := a.groups.foldl (fun s g => s.setGroup g.1 { s.group_ g.1 with autoRearm := g.2.1, foWin := g.2.2 }) s
  let s := hit.foldl (fun s e => if e = 0xFFFF then s else s.setEntry e { s.entry e with recount := true }) s
  let s := s.setFv P.ALH R.ALH_TBL_id id
  let s := (s.alhAll (fun _ => true)).foldl (fun s e =>
    let s := if (s.entryCfg e).en then s else (s.curePoison (0x00C80000 + e * 64) 64).alhUnused e
    s.alhUpdate e s.now s.now 8 none) s
  let s := ((cfg.map (fun c => c.1)) ++ s.alhAll (fun _ => true)).foldl (fun (s : State) e => s.modeJudge e) s
  let s := (s.alhAll (fun _ => true)).foldl (fun (s : State) e => s.alhJudge e 8) s
  (acted.foldl (fun (s : State) g => s.groupClear g) s).safShow

/-- The recount of a table load is done (R299): the points of the changed planes contribute from their committed records. -/
def State.alhRecount (s : State) : State :=
  let pts := (s.alh.recount.flatMap s.listedSpectral).filter (fun p =>
    (SMap.get? s.alh.contrib p).isSome || decide ((s.rd8 (spectralRec p + 10)).toNat % 2 = 1))
  let s := { s with alh := { s.alh with recount := [] } }
  let s := pts.foldl (fun (s : State) p =>
    let before := ((SMap.get? s.alh.contrib p).map (fun c => c.entry)).getD 0xFFFF
    let s := s.setContrib p { entry := s.entryOf p, lvl := s.pointLevel p, bad := decide (s.pointQuality p = 3) }
    if before ≠ s.entryOf p then s.mirrorPoint (s.entryOf p) p else s) s
  (s.alhAll (fun x => x.recount)).foldl (fun s e =>
    (s.setEntry e { s.entry e with recount := false }).alhUpdate e s.now s.now 8 none) s

/-! ### Power (R30, R293) -/

/-- Move the deadlines and the shelving expiries of ALH later by the length of an interval (R30, R293). -/
def State.alhShift (s : State) (n : Nat) : State :=
  let later (o : Option Nat) : Option Nat := o.map (fun d => d + n)
  let s := (List.range 8).foldl (fun s l =>
    let b := P.ALHLD l
    let dl := s.stamp b R.ALH_LD_DL_LO_dl R.ALH_LD_DL_HI_dl
    if s.callActive l && decide (dl ≠ 0) then s.setStamp b R.ALH_LD_DL_LO_dl R.ALH_LD_DL_HI_dl (dl + n) else s) s
  { s with alh := { s.alh with
      entries := s.alh.entries.map (fun e => (e.1, { e.2 with
        lastClear := later e.2.lastClear, modeDrop := later e.2.modeDrop, pendUntil := later e.2.pendUntil })),
      groups := s.alh.groups.map (fun g => (g.1, if g.2.opened then { g.2 with foEnd := g.2.foEnd + n } else g.2)),
      slots := s.alh.slots.map (fun x => (x.1, { x.2 with expiry := x.2.expiry + n })),
      calls := s.alh.calls.map (fun c => (c.1, { c.2 with sent := later c.2.sent })), statusAt := later s.alh.statusAt } }

/-- ALH at a start-up (R293, R301): the frames of active calls are due, no answer waits, the count of changes begins anew. -/
def State.alhStart (s : State) : State :=
  { s with alh := { s.alh with
      calls := s.alh.calls.map (fun c => (c.1, { c.2 with sent := none })), statusAt := none, answers := [], rateCount := 0,
      rateFrom := s.now / 16777216 } }

/-- Every entry's priority follows its class (R270). -/
def State.alhRegraded (s : State) : State :=
  if s.alhRuns then (s.alhAll (fun x => decide (x.level ≠ 0))).foldl (fun (s : State) e => s.alhRegrade e) s else s

/-- What a commit of the ALH page brings: the objects ALH owns (R416), calls that no longer run, priorities (R270); while ALH is paused, when
it runs again (R91, R293). -/
def State.alhCommitted (s : State) : State :=
  if !s.alhRuns then s
  else
    let s := s.alhObjects
    (if s.fb P.ALH R.ALH_CTRL_call_en then s else s.callsStop).alhRegraded

/-- ALH runs again (R293): what was committed and written while it was paused takes effect. -/
def State.alhResumes (s : State) : State := s.alhCommitted.alhWords

end Sys2Proof.Machine
end

