-- ==== Sys2Proof/Machine/Tbs.lean ====
section
/-! DEFINITION. Timebase and calendar: date arithmetic (R355, R361, R362), time writes (R353, R354, R365), halting (R356),
alarms (R364, R367), the periodic event (R366), trim and temperature term (R358, R359), oscillator faults (R349, R357). -/

namespace Sys2Proof.Machine

open Sys2Proof

/-! ### Dates -/

/-- A leap year of the Gregorian rules (R355). -/
def leapYear (y : Nat) : Bool := (decide (y % 4 = 0) && !decide (y % 100 = 0)) || decide (y % 400 = 0)

/-- The last day of a month (R354, R355). -/
def lastDay (y m : Nat) : Nat :=
  if m = 2 then (if leapYear y then 29 else 28)
  else if m = 4 ∨ m = 6 ∨ m = 9 ∨ m = 11 then 30 else 31

/-- Local days are counted from 1600-01-01, one Gregorian cycle of 400 years before E2000, so that an offset to the west of UTC reaches
before E2000 (R361). -/
def daysBefore2000 : Nat := 146097

/-- Days from 1600-01-01 to the first day of a year from 1600 on. -/
def daysToYear (y : Nat) : Nat :=
  let n := y - 1600
  365 * n + ((n + 3) / 4) - ((n + 99) / 100) + ((n + 399) / 400)

/-- Days of the year before month `m`. -/
def daysToMonth (y m : Nat) : Nat := ((List.range (m - 1)).map (fun i => lastDay y (i + 1))).sum

/-- Days from 1600-01-01 to a date. -/
def daysOfDate (y m d : Nat) : Nat := daysToYear y + daysToMonth y m + (d - 1)

/-- The year of a day count from 1600-01-01. -/
def yearOfDays (n : Nat) : Nat :=
  let y := 1600 + n / 366
  -- at most a few years short: step up while the next year has begun
  let g := n * 400 / 146097 + 1600
  let c := Nat.max y (g - 1)
  if daysToYear (c + 2) ≤ n then c + 2 else if daysToYear (c + 1) ≤ n then c + 1 else if daysToYear c ≤ n then c else c - 1

def monthOfDaysGo (y : Nat) : Nat → Nat → Nat → Nat × Nat
  | 0, m, d => (m, d)
  | k + 1, m, d => if lastDay y m ≤ d then monthOfDaysGo y k (m + 1) (d - lastDay y m) else (m, d)

/-- Year, month and day of a day count from 1600-01-01. -/
def dateOfDays (n : Nat) : Nat × Nat × Nat :=
  let y := yearOfDays n
  let (m, d) := monthOfDaysGo y 11 1 (n - daysToYear y)
  (y, m, d + 1)

/-- TBS_LOCAL.ofs in seconds (R361). -/
def State.localOfs (s : State) : Int := sext 11 (s.fv P.TBS R.TBS_LOCAL_ofs) * 60

/-- The local second (R361) of a calendar second, counted from 1600-01-01. -/
def State.localSecond (s : State) (cal : Int) : Nat := (cal + s.localOfs + (daysBefore2000 * 86400 : Nat)).toNat

/-- The weekday computed from a local day count: 1600-01-01 and E2000 are Saturdays (R362). -/
def weekdayOf (days : Nat) : Nat := (days + 5) % 7 + 1

/-! ### Alarms (R364) -/

/-- The settings of alarm A or B: the word of the fields, the control word. -/
def State.alarmWords (s : State) (b : Bool) : Word × Word :=
  if b then (s.reg (P.TBS + 0x94), s.reg (P.TBS + 0x98)) else (s.reg (P.TBS + 0x8C), s.reg (P.TBS + 0x90))

def alarmMasked (ctl : Word) (i : Nat) : Bool := ctl.getLsbD i

/-- The date fields of the alarm match a local day. -/
def alarmDay (fields ctl : Word) (days wday : Nat) : Bool :=
  let (_, m, d) := dateOfDays days
  (alarmMasked ctl 3 || decide (Word.bits fields 17 5 = d)) &&
    (alarmMasked ctl 4 || decide (Word.bits fields 22 4 = m)) &&
    (alarmMasked ctl 5 || decide (Word.bits fields 26 3 = wday))

/-- The hour and minute fields of the alarm match a minute of the day. -/
def alarmMinute (fields ctl : Word) (mn : Nat) : Bool :=
  (alarmMasked ctl 1 || decide (Word.bits fields 6 6 = mn % 60)) && (alarmMasked ctl 2 || decide (Word.bits fields 12 5 = mn / 60))

/-- The alarm matches a local second (R364). -/
def alarmMatches (fields ctl : Word) (sec wday : Nat) : Bool :=
  alarmDay fields ctl (sec / 86400) wday && alarmMinute fields ctl (sec % 86400 / 60) &&
    (alarmMasked ctl 0 || decide (Word.bits fields 0 6 = sec % 60))

/-- Some second of the day in `[lo, hi]` matches the hour, minute and second fields. -/
def alarmInDay (fields ctl : Word) (lo hi : Nat) : Bool :=
  (List.range 1440).any (fun mn =>
    alarmMinute fields ctl mn &&
      (if alarmMasked ctl 0 then decide (mn * 60 ≤ hi) && decide (lo ≤ mn * 60 + 59)
       else decide (mn * 60 + Word.bits fields 0 6 ≤ hi) && decide (lo ≤ mn * 60 + Word.bits fields 0 6)))

/-- Some local second in `(a, b]` matches. Every date of a year recurs within eight years and a day, so no more than 2,930
days of the interval need be looked at. -/
def alarmInSpan (fields ctl : Word) (wday a b : Nat) : Bool :=
  if b ≤ a then false
  else
    let lo := a + 1
    (List.range (Nat.min (b / 86400 - lo / 86400) 2930 + 1)).any (fun i =>
      let d := lo / 86400 + i
      alarmDay fields ctl d wday &&
        alarmInDay fields ctl (if i = 0 then lo % 86400 else 0) (if d = b / 86400 then b % 86400 else 86399))

/-- An alarm fires: its fired bit, its event and, with wake = 1, a wake source (R364), with the skipped or late bit as its cause says. -/
def State.fireAlarm (s : State) (b skipped late : Bool) : State :=
  let s := (if b then s.setFv P.TBS R.TBS_ALM_STAT_b_fired 1 else s.setFv P.TBS R.TBS_ALM_STAT_a_fired 1).irq P.TBS (if b then 1 else 0)
  let s := if skipped then (if b then s.setFv P.TBS R.TBS_ALM_STAT_b_skipped 1 else s.setFv P.TBS R.TBS_ALM_STAT_a_skipped 1) else s
  let s := if late then (if b then s.setFv P.TBS R.TBS_ALM_STAT_b_late 1 else s.setFv P.TBS R.TBS_ALM_STAT_a_late 1) else s
  if (s.alarmWords b).2.getLsbD 9 then s.wakeSource 4 else s

def State.alarmEnabled (s : State) (b : Bool) : Bool := (s.alarmWords b).2.getLsbD 8

/-- The calendar halted by TBS_CTRL.halt, or at the top of its range (R352, R356). -/
def State.setHalted (s : State) : State :=
  s.setFb P.TBS R.TBS_STAT_halted (s.fb P.TBS R.TBS_CTRL_halt || decide (calTop ≤ s.tbs.cal))

/-- The present local second was not reached by counting under the settings that stand: no alarm fires in it (R364). -/
def State.secReached (s : State) : State :=
  let sec := s.localSecond (s.tbs.cal / 32768)
  { s with tbs := { s.tbs with firedA := some sec, firedB := some sec } }

/-- ALARM_FIRE (R364, R367): the local second, reached by counting, matches an enabled alarm that has not fired in it. With COR powered the
alarm fires; in BACKUP the match is kept for the next start. -/
def State.alarmFire (s : State) (b : Bool) : State :=
  let sec := s.localSecond (s.tbs.cal / 32768)
  let (f, c) := s.alarmWords b
  let last := if b then s.tbs.firedB else s.tbs.firedA
  if s.calCounts && s.alarmEnabled b && alarmMatches f c sec (s.fv P.TBS R.TBS_WDAY_free) && decide (last ≠ some sec) then
    let s := if b then { s with tbs := { s.tbs with firedB := some sec } } else { s with tbs := { s.tbs with firedA := some sec } }
    if s.corOn then s.fireAlarm b false false
    else if b then { s with tbs := { s.tbs with lateB := true } } else { s with tbs := { s.tbs with lateA := true } }
  else s

def execAlarmFire (t : Nat) (b : Bool) (s : State) : Host.Outcome State Fault Refusal := .next ((s.at t).alarmFire b)

/-! ### Time writes (R353, R354, R365) -/

/-- The value of a calendar-form set: the local fields with TBS_LOCAL.ofs, in steps of 2^-24 s (Table 13-1). -/
def State.setCalValue (s : State) : Int :=
  let days := daysOfDate (s.fv P.TBS R.TBS_SET_DATE_year) (s.fv P.TBS R.TBS_SET_DATE_month) (s.fv P.TBS R.TBS_SET_DATE_day)
  let tod := s.fv P.TBS R.TBS_SET_TIME_hour * 3600 + s.fv P.TBS R.TBS_SET_TIME_minute * 60 + s.fv P.TBS R.TBS_SET_TIME_second
  (((days * 86400 + tod : Nat) : Int) - (daysBefore2000 * 86400 : Nat) - s.localOfs) * 16777216

/-- The local day of the present calendar. -/
def State.localDay (s : State) : Nat := s.localSecond (s.tbs.cal / 32768) / 86400

/-- Neither a time write nor a change of TBS_LOCAL advances the weekday counter (R362). -/
def State.dayReached (s : State) : State := { s with tbs := { s.tbs with wdayAt := s.localDay } }

/-- The pulses from a stamp until now: with the reference stopped a pulse comes every 512 steps of the timebase (R349). -/
def State.pulsesFrom (s : State) (stamp : Nat) : Nat := if s.tbs.refOk then pulsesBetween stamp s.now else (s.now - stamp) / 512

/-- A time write applies (R353, R354, R365): the value with the time from the write to the first pulse after it, rounded to 2^-15 s, and the
pulses since that one; the nearest end of the range beyond it, reported as a clamp; osf and the halt at the top clear, clamped_set follows,
alarms passed over fire. -/
def State.applyTimeWrite (s : State) (w : TimeWrite) : State :=
  let since : Int := ((512 - w.stamp % 512 + 256) / 512 + s.pulsesFrom w.stamp - 1 : Nat)
  let base : Int := if w.kind = 2 then s.tbs.cal + Int.fdiv w.value 512 else Int.fdiv w.value 512 + since
  let cal' : Int := iclip 0 calTop base
  let old := s.tbs.cal
  let s := if base = cal' then s else s.clampAt P.TBS 0x40 w.kind true 1 1
  let sec := s.localSecond (cal'.toNat / 32768)
  let kept (f : Option Nat) : Option Nat := if s.localSecond (old / 32768) = sec then f else some sec
  let s : State := { s with
    tbs := { s.tbs with
      cal := cal'.toNat, calAt := s.now / 512 * 512, perFrom := cal'.toNat, firedA := kept s.tbs.firedA,
      firedB := kept s.tbs.firedB }
    age := { s.age with xratio := sext 32 (s.fv P.TBS R.TBS_XRATIO_ratio) } }
  let s := (s.dayReached.setFv P.TBS R.TBS_STAT_osf 0).setHalted
  let s := (s.setFb P.TBS R.TBS_STAT_clamped_set (decide (w.kind = 3) && w.clamped)).irq P.TBS 4
  if s.fb P.TBS R.TBS_CTRL_halt then s
  else
    [false, true].foldl (fun s b =>
      let (f, c) := s.alarmWords b
      if s.alarmEnabled b &&
          alarmInSpan f c (s.fv P.TBS R.TBS_WDAY_free) (s.localSecond (old / 32768)) (s.localSecond (s.tbs.cal / 32768))
      then s.fireAlarm b true false else s) s

/-- A TBS_CTRL write (R353, R356): the halt bit as written; one of set, adjust and set_cal requests a time write; more than one applies none, and each is reported as a clamp to 0. -/
def State.tbsCtrl (s : State) (v : Word) : State :=
  let s := s.setHalted
  let bits := [1, 2, 3].filter (fun i => v.getLsbD i)
  match bits with
  | [k] =>
    let raw : Nat := s.fv P.TBS R.TBS_SET_LO_set + 2 ^ 32 * s.fv P.TBS R.TBS_SET_HI_set
    let value : Int := if k = 1 then (raw : Int) else if k = 2 then sext 64 raw else s.setCalValue
    { s with tbs := { s.tbs with
        writes := s.tbs.writes ++ [{ kind := k, value := value, stamp := s.now, clamped := s.tbs.fieldClamp }], fieldClamp := false } }
  | [] => s
  | _ => bits.foldl (fun s i => s.clampAt P.TBS 0x40 i true 1 0) s

/-- The time writes whose first pulse has come apply, in the order of their writes (R353). -/
def State.applyTimeWrites (s : State) : State :=
  let come (w : TimeWrite) : Bool := decide (1 ≤ s.pulsesFrom w.stamp)
  let go := s.tbs.writes.filter come
  let s : State := { s with tbs := { s.tbs with writes := s.tbs.writes.filter (fun w => !come w) } }
  go.foldl State.applyTimeWrite s

/-- TIME_WRITE_APPLY (R353): at the first cellar pulse after the write. -/
def execTimeWriteApply (t : Nat) (s : State) : Host.Outcome State Fault Refusal :=
  let s := s.at t
  .next (if s.corOn then s.applyTimeWrites else s)

/-! ### Counting -/

/-- The periodic event's period in steps of 2^-15 s (R366). -/
def State.perSteps (s : State) : Nat := 2 ^ (sext 6 (s.fv P.TBS R.TBS_PER_e) + 15).toNat

/-- The calendar that next crosses a multiple of the period. -/
def State.perNext (s : State) : Nat := (s.tbs.perFrom / s.perSteps + 1) * s.perSteps

/-- PERIODIC_EVENT (R366): while enabled and COR powered, the counting calendar has crossed a multiple of 2^e s. -/
def execPeriodicEvent (t : Nat) (s : State) : Host.Outcome State Fault Refusal :=
  let s := s.at t
  if s.fb P.TBS R.TBS_PER_en && s.calCounts && s.corOn && decide (s.perNext ≤ s.tbs.cal) then
    .next ((({ s with tbs := { s.tbs with perFrom := s.perNext } } : State).wrapInc P.TBS R.TBS_ALM_STAT_per_cnt 1).irq P.TBS 2)
  else .next s

/-- WEEKDAY_ADVANCE (R362): the counting calendar has passed local midnight; 7 is followed by 1. -/
def execWeekdayAdvance (t : Nat) (s : State) : Host.Outcome State Fault Refusal :=
  let s := s.at t
  if s.calCounts && decide (s.tbs.wdayAt < s.localDay) then
    .next (({ s with tbs := { s.tbs with wdayAt := s.tbs.wdayAt + 1 } } : State).setFv P.TBS R.TBS_WDAY_free (s.fv P.TBS R.TBS_WDAY_free % 7 + 1))
  else .next s

/-- A commit of the TBS page: a changed alarm matches from the next second on (R364), the periodic event counts its crossings from here on
(R366). -/
def State.tbsCommitted (s old : State) : State :=
  let s : State := if s.alarmWords false = old.alarmWords false ∧ s.alarmWords true = old.alarmWords true then s else s.secReached
  if s.reg (P.TBS + R.TBS_PER_en.off) = old.reg (P.TBS + R.TBS_PER_en.off) then s else { s with tbs := { s.tbs with perFrom := s.tbs.cal } }

/-- TCOMP_UPDATE (R359): every 64 s the temperature term k × (T − t0)² in counts of 2^-32, 0 while TBS_TCOMP.en is 0; TBS_CTEMP. -/
def execTcompUpdate (t : Nat) (temp : Q) (s : State) : Host.Outcome State Fault Refusal :=
  let s := s.at t
  if !s.cellarOn || s.tbs.tcompAt.any (fun x => decide (s.now < x + secs 64)) then .next s
  else
    let dT := Q.sub temp (Q.ofInt (sext 8 (s.fv P.TBS R.TBS_TCOMP_t0)))
    let term := Q.round (Q.div (Q.mul (Q.mul (Q.ofNat (s.fv P.TBS R.TBS_TCOMP_k)) (Q.mul dT dT)) (Q.ofNat 4294967296))
      (Q.ofNat 10000000000))
    let s := { s with tbs := { s.tbs with tempTerm := if s.fb P.TBS R.TBS_TCOMP_en then term else 0, tcompAt := some s.now } }
    .next (if s.corOn then s.setFv P.TBS R.TBS_CTEMP_temp (toB32 temp).toNat else s)

/-- CALENDAR_TOP (R352): the calendar stands at the top of its range, halted. -/
def execCalendarTop (t : Nat) (s : State) : Host.Outcome State Fault Refusal :=
  let s := s.at t
  .next (if s.cellarOn && decide (calTop ≤ s.tbs.cal) then s.setFv P.TBS R.TBS_STAT_halted 1 else s)

/-- The record of the timebase and the run count in the storeroom (R348). -/
def State.recordTimebase (s : State) : State := { s with tbs := { s.tbs with record := some (s.now, s.tbs.runCount) } }

/-- A second has passed since the latest record (R348). -/
def State.recordDue (s : State) : Bool := s.tbs.record.all (fun r => decide (r.1 + secs 1 ≤ s.now))

/-- TIMEBASE_RECORD (R348): once per second while awake; TBS_XRATIO as measured over the latest 1,024 s. -/
def execTimebaseRecord (t : Nat) (xratio : Int) (s : State) : Host.Outcome State Fault Refusal :=
  let s := s.at t
  .next (if s.corOn && s.recordDue then s.recordTimebase.setFv P.TBS R.TBS_XRATIO_ratio (uext 32 xratio) else s)

/-- REFERENCE_STOPPED (R349): the timebase advances on cellar pulses. -/
def execReferenceStopped (t : Nat) (s : State) : Host.Outcome State Fault Refusal :=
  let s := s.at t
  .next (if s.corOn then { s with tbs := { s.tbs with refOk := false } } else s)

/-- REFERENCE_RETURN (R349): the timebase counts reference cycles again. -/
def execReferenceReturn (t : Nat) (s : State) : Host.Outcome State Fault Refusal :=
  let s := s.at t
  .next (if s.corOn then { s.failsUntil 3 (!s.tbs.refOk) with tbs := { s.tbs with refOk := true } } else s)

/-- OSC_STOP (R357): osf; with COR powered the calendar goes on untrimmed, x32_ok is 0 and the osf event is raised; in
BACKUP the calendar and the run count stop. -/
def execOscStop (t : Nat) (s : State) : Host.Outcome State Fault Refusal :=
  let s := s.at t
  if !s.cellarOn then .next s
  else
    let s := { s with tbs := { s.tbs with x32Run := false, runBroken := s.tbs.runBroken || !s.corOn } }
    let s := s.setFv P.TBS R.TBS_STAT_osf 1
    .next (if s.corOn then (s.setFv P.TBS R.TBS_STAT_x32_ok 0).irq P.TBS 3 else s)

/-- X32_RESTART (R357): the calendar is counted from cellar pulses again. -/
def execX32Restart (t : Nat) (s : State) : Host.Outcome State Fault Refusal :=
  let s := s.at t
  if !s.cellarOn then .next s
  else
    let s := { s with tbs := { s.tbs with x32Run := true, runBroken := s.tbs.runBroken || !s.corOn } }
    .next (if s.corOn then s.setFv P.TBS R.TBS_STAT_x32_ok 1 else s)

/-- The clocks after a loss of the cellar: the calendar from zero, its oscillator running; second 0 is not reached by counting (R31, R348,
R364, R367). -/
def State.coldClocks (s : State) : State :=
  let s := { s with tbs := { s.tbs with
    cal := 0, runCount := 0, trimAcc := 0, tempTerm := 0, firedA := none, firedB := none, lateA := false, lateB := false,
    x32Run := true, tcompAt := none } }
  let s := (s.setFv P.TBS R.TBS_WDAY_free 6).setFv P.TBS R.TBS_STAT_clamped_set 0
  (s.setFb P.TBS R.TBS_STAT_halted (s.fb P.TBS R.TBS_CTRL_halt)).secReached

/-- The timebase takes the value `n`; what the cellar stamped lies as long ago as before. -/
def State.renumber (s : State) (n : Nat) : State :=
  { s with now := n, tbs := { s.tbs with calAt := n - (s.now - s.tbs.calAt), tcompAt := s.tbs.tcompAt.map (fun x => n - (s.now - x)) } }

/-- The start of the timebase and the calendar at steps 1 and 3 of R34 (R31, R348, R367): the timebase resumes from its record, never below
what it showed before; the first cellar start leaves a record (R347). -/
def State.startClocks (s : State) : State :=
  let lost := s.pwr.cellarLost
  let broken := lost || s.tbs.runBroken || !s.tbs.x32Run
  let resumed : Nat :=
    match s.tbs.record with
    | none => 0
    | some (tr, run) => if broken then tr + secs 2 else tr + 512 * (s.tbs.runCount - run) + 1
  let noCount := broken || s.tbs.record.isNone
  let s := s.renumber (Nat.max (if s.pwr.mode = .locked then s.now else if s.tbs.record.isNone then 0 else s.pwr.stopAt) resumed)
  let s := if s.tbs.record.isNone then s.recordTimebase else s
  let s := if noCount then s.setFv P.TBS R.TBS_STAT_osf 1 else s
  let s := if lost then s.coldClocks.dayReached else s
  { s with tbs := { s.tbs with runBroken := false, refOk := true, writes := [], perFrom := s.tbs.cal } }

/-- What the TBS page shows when COR has started: the oscillator (R357), and the alarms that matched in BACKUP, late (R367). -/
def State.clocksShow (s : State) : State :=
  let s := s.setFb P.TBS R.TBS_STAT_x32_ok s.tbs.x32Run
  let s := if s.tbs.lateA then s.fireAlarm false false true else s
  let s := if s.tbs.lateB then s.fireAlarm true false true else s
  { s with tbs := { s.tbs with lateA := false, lateB := false } }

/-- An ASCII digit. -/
def asciiDigit (n : Nat) : Byte := byte (48 + n % 10)
def ascii2 (n : Nat) : List Byte := [asciiDigit (n / 10), asciiDigit n]

/-- TBS_TXT (R363): local time in ISO 8601 extended form, the fraction truncated to microseconds. -/
def State.tbsText (s : State) : List Byte :=
  let cal := s.calendar
  let sec := s.localSecond (cal / 16777216)
  let (y, m, d) := dateOfDays (sec / 86400)
  let us := cal % 16777216 * 1000000 / 16777216
  let ofs := sext 11 (s.fv P.TBS R.TBS_LOCAL_ofs)
  let om := ofs.natAbs
  ascii2 (y / 100) ++ ascii2 y ++ [0x2D#8] ++ ascii2 m ++ [0x2D#8] ++ ascii2 d ++ [0x54#8] ++
    ascii2 (sec % 86400 / 3600) ++ [0x3A#8] ++ ascii2 (sec % 3600 / 60) ++ [0x3A#8] ++ ascii2 (sec % 60) ++ [0x2E#8] ++
    [asciiDigit (us / 100000), asciiDigit (us / 10000), asciiDigit (us / 1000), asciiDigit (us / 100), asciiDigit (us / 10), asciiDigit us] ++
    [if ofs < 0 then 0x2D#8 else 0x2B#8] ++ ascii2 (om / 60) ++ [0x3A#8] ++ ascii2 (om % 60)

/-- TBS_DATE, TBS_TIME and the computed weekday of the present local time. -/
def State.tbsDate (s : State) : Word :=
  let (y, m, d) := dateOfDays (s.localSecond (s.calendar / 16777216) / 86400)
  word (y + m * 65536 + d * 1048576)
def State.tbsTime (s : State) : Word :=
  let sec := s.localSecond (s.calendar / 16777216) % 86400
  word (sec / 3600 + sec % 3600 / 60 * 256 + sec % 60 * 65536)
def State.tbsWday (s : State) : Nat := weekdayOf (s.localSecond (s.calendar / 16777216) / 86400)

end Sys2Proof.Machine
end

