-- ==== Sys2Proof/Machine/Pnl.lean ====
section
/-! DEFINITION. The panel driver (R424–R440): frames, the always-on band, passes and the ledger, polarity inversion, temperature
bands. -/

namespace Sys2Proof.Machine

open Sys2Proof

/-! ### Frames (R425, R431) -/

/-- A byte of a frame that nothing has written: light. -/
def lightByte (_ : Nat) : Byte := 0xFF#8

def State.pnlDepth (s : State) : Nat := if s.fb P.PNL R.PNL_CFG_depth then 3 else 1
def State.pnlWidth (s : State) : Nat := s.fv P.PNL R.PNL_GEOM_width
def State.pnlHeight (s : State) : Nat := s.fv P.PNL R.PNL_GEOM_height
/-- Bytes of a line. -/
def State.pnlLineLen (s : State) : Nat := s.pnlWidth * s.pnlDepth / 8

/-- A line of a frame, and a frame with a line replaced. -/
def lineOf (f : SMap Byte) (len line : Nat) : List Byte := (List.range len).map (fun i => SMap.get lightByte f (line * 256 + i))
def setLine (f : SMap Byte) (line : Nat) (l : List Byte) : SMap Byte :=
  (l.foldl (fun (r : SMap Byte × Nat) b => (SMap.put lightByte r.1 (line * 256 + r.2) b, r.2 + 1)) (f, 0)).1

/-- One byte more of the CRC-32 of IEEE 802.3, on the inverted remainder. -/
def crcByte (c : Nat) (b : Byte) : Nat :=
  (List.range 8).foldl (fun c _ => if c % 2 = 1 then Nat.xor (c / 2) 0xEDB88320 else c / 2) (Nat.xor c b.toNat)

/-- The CRC-32 of a byte list. -/
def crc32 (l : List Byte) : Nat := Nat.xor (l.foldl crcByte 0xFFFFFFFF) 0xFFFFFFFF

/-- The CRC of a frame: every line in order (R431). -/
def State.frameCrc (s : State) (f : SMap Byte) : Nat :=
  crc32 ((List.range s.pnlHeight).flatMap (fun y => lineOf f s.pnlLineLen y))

/-! ### The always-on band (R435) -/

def digit (n : Nat) : Byte := byte (48 + n % 10)
/-- A count as five digits, saturating. -/
def digits5 (n : Nat) : List Byte :=
  let n := Nat.min n 99999
  [digit (n / 10000), digit (n / 1000), digit (n / 100), digit (n / 10), digit n]
def spaces (n : Nat) : List Byte := List.replicate n 0x20#8
def digits2 (n : Nat) : List Byte := [digit (n / 10), digit n]

/-- Characters 0–29 of a row: the entry at its position of R272. -/
def State.bandEntryText (s : State) (e : Nat × Entry) : List Byte :=
  let st : Byte := [0x20#8, 0x55#8, 0x41#8, 0x52#8, 0x4C#8].getD e.2.st 0x20#8
  let sec := s.localSecond (s.calSecOf e.2.onset) % 86400
  let time := if s.fb P.TBS R.TBS_STAT_osf then [0x2D#8, 0x2D#8, 0x3A#8, 0x2D#8, 0x2D#8, 0x3A#8, 0x2D#8, 0x2D#8]
    else digits2 (sec / 3600) ++ [0x3A#8] ++ digits2 (sec / 60 % 60) ++ [0x3A#8] ++ digits2 (sec % 60)
  [st, 0x20#8, digit e.2.pri, 0x20#8] ++ (s.entryCfg e.1).tag ++ [0x20#8] ++ time ++ [0x20#8]

/-- The characters of row 0 or 1 (Table 17-2). -/
def State.bandText (s : State) (r : Nat) : List Byte :=
  let first := match s.annunciated[r]? with
    | some e => s.bandEntryText e
    | none => spaces 30
  let sec := s.localSecond (s.calendar / 16777216) % 86400
  let rest := if r = 0 then
      [0x55#8, 0x20#8] ++ digits5 s.alhUnack ++ [0x20#8, 0x41#8, 0x20#8] ++ digits5 s.alhPlain ++ spaces 5
    else
      [0x53#8, 0x20#8] ++ digits5 s.alhSup ++ spaces 8 ++ digits2 (sec / 3600) ++ [0x3A#8] ++ digits2 (sec / 60 % 60)
  first ++ rest

/-- The pixels of one character row as frame bits: dark text on a background; `inv` complements every pixel. -/
def glyphBits (d code row back : Nat) (inv : Bool) : List Nat :=
  let g := Config.glyph (if 0x20 ≤ code ∧ code ≤ 0x7E then code else 0x3F) row
  (List.range 8).flatMap (fun x =>
    (List.range d).map (fun k =>
      let bit := if g.getLsbD x then 0 else if d = 1 then 1 else back / 2 ^ k % 2
      if inv then 1 - bit else bit))

/-- Bits, the first in the lowest place, as bytes. -/
def bitsToBytes : Nat → List Nat → List Byte
  | 0, _ => []
  | n + 1, l => byte ((List.range 8).foldl (fun a i => a + l.getD i 0 * 2 ^ i) 0) :: bitsToBytes n (l.drop 8)

/-- One line of the band. -/
def State.bandLine (s : State) (y : Nat) : List Byte :=
  let r := y / 16
  let d := s.pnlDepth
  let e := s.annunciated[r]?
  let back := match e with
    | some x => if x.2.pri = 1 then s.fv P.PNL R.PNL_BAND_col1 else if x.2.pri = 2 then s.fv P.PNL R.PNL_BAND_col2 else s.fv P.PNL R.PNL_BAND_col3
    | none => 7
  let inv := s.pnl.inverted && (match e with | some x => decide (x.2.st = 1) | none => false)
  let text := s.bandText r
  bitsToBytes s.pnlLineLen ((List.range (s.pnlWidth / 8)).flatMap (fun c =>
    glyphBits d ((text.getD c 0x20#8).toNat) (y % 16) (if c < 30 then back else 7) (inv && decide (c < 30))))

/-- A frame with the band drawn into lines 0–31. -/
def State.drawBand (s : State) (f : SMap Byte) : SMap Byte := (List.range 32).foldl (fun f y => setLine f y (s.bandLine y)) f

/-- The band of a pass: in DORMANT it keeps its content, but for the pass at the entry to it (R434, R438). -/
def State.renderBand (s : State) (f : SMap Byte) : SMap Byte := if s.pstate = 2 && !s.pnl.bandLast then f else s.drawBand f

/-! ### Passes and the ledger (R431, R432) -/

/-- The driver works: PVEN high and COR in service, not stopped for the power-fail sequence, no link test on the panel lanes (R436, R519). -/
def State.pnlOn (s : State) : Bool := s.pnl.pven && s.corOn && !s.pnl.stopped && !s.linkTest 3

/-- f_com, gap and inv of the temperature band in force. -/
def State.pnlCom (s : State) : Nat × Nat × Nat :=
  let b := s.fv P.PNL R.PNL_STAT_tband
  (s.fv P.PNL (R.PNL_BDRV_f_com.nth b), s.fv P.PNL (R.PNL_BDRV_gap.nth b), s.fv P.PNL R.PNL_CFG_inv)

/-- What the band shows of the entries (R434): the state, level and priority of each, and the counts. -/
def State.bandKey (s : State) : List Nat :=
  s.alh.entries.flatMap (fun e => [e.1, e.2.st, e.2.level, e.2.pri, if e.2.overlaid then 1 else 0]) ++ [s.alhUnack, s.alhPlain, s.alhSup]

/-- `n` steps of 2^-24 s hold `lines` line transfers (R426). -/
def State.linesTake (s : State) (lines n : Nat) : Bool :=
  decide (lines * ((s.pnlWidth * s.pnlDepth / 2 + 24) * 2 ^ s.fv P.PNL R.PNL_CFG_div * 1024) ≤ n * 1000)

/-- The gap of the temperature band latched, in steps (R426, R430). -/
def State.lineGap (s : State) : Nat := usecs s.pnl.com.2.1

/-- PVEN has been high for t_pwr (Table 17-4). -/
def State.pnlPowered (s : State) : Bool := decide (s.pnl.pvenAt + msecs (s.fv P.PNL R.PNL_CFG_t_pwr) ≤ s.now)

/-- Steps 1 and 2 of a pass: front frame and CRC into the shadow, the generation, the ledger; f_com, gap and inv are latched
(R430). A pass from the shadow (kinds 3 and 4) leaves the shadow and its CRC (R433, R437). -/
def State.beginPass (s : State) (kind : Nat) (front : SMap Byte) (lines : List Nat) : State :=
  let s := s.wrapInc P.PNL R.PNL_GEN_gen 1
  let gen := s.fv P.PNL R.PNL_GEN_gen
  let crc := s.frameCrc front
  let s := (s.setFv P.PNL R.PNL_FCRC_crc crc).setFb P.PNL R.PNL_STAT_busy true
  { s with pnl := { s.pnl with
      front := front, shadow := if 3 ≤ kind then s.pnl.shadow else front, shadowCrc := if 3 ≤ kind then s.pnl.shadowCrc else crc
      ledger := some (gen, 0xFF, false), com := s.pnlCom,
      lineFrom := Nat.max s.now s.pnl.lineFrom
      pass := some { kind := kind, gen := gen, lines := lines, next := 0 } } }

/-- A band pass begins (R434), between two lines of a host pass. -/
def State.beginBand (s : State) : State :=
  let f := s.renderBand s.pnl.front
  let key := if s.pstate ≤ 1 then s.bandKey else s.pnl.bandKey
  let s := { s with pnl := { s.pnl with suspended := s.pnl.pass, bandWant := false, bandLast := false, bandKey := key } }
  s.beginPass 0 f (List.range 32)

/-- A pass can begin: the driver works and is idle, t_pwr after PVEN rose, after the rewrite of a start-up and a clear transfer (R427, R437). -/
def State.pnlIdle (s : State) : Bool :=
  s.pnlOn && s.pnlPowered && !s.fb P.PNL R.PNL_STAT_rewrite && !s.pnl.clearing && s.pnl.pass.isNone

/-- A band pass is asked for (R434): it begins at the next line boundary, after a band pass at work, and once the driver can. -/
def State.bandPass (s : State) : State :=
  if !s.pnl.pven then s
  else if s.pnlIdle then s.beginBand
  else { s with pnl := { s.pnl with bandWant := true } }

/-- A host pass, or a full pass from the shadow. -/
def State.hostPass (s : State) : State :=
  let h := s.pnlHeight
  if s.pnl.fromShadow then
    { s with pnl := { s.pnl with fromShadow := false } }.beginPass 3 s.pnl.shadow (List.range h)
  else
    let s0 := s
    let len := s.pnlLineLen
    let body := (List.range (h - 32)).map (fun i => i + 32)
    let f := body.foldl (fun f y => setLine f y (lineOf s0.pnl.back len y)) s.pnl.front
    let lines := List.range 32 ++ body.filter (fun y => s0.pnl.wantFull || decide (lineOf f len y ≠ lineOf s0.pnl.front len y))
    let full := s.pnl.wantFull
    let key := if s.pstate ≤ 1 then s.bandKey else s.pnl.bandKey
    let s := { s with pnl := { s.pnl with want := false, wantFull := false, bandKey := key } }.setFv P.PNL R.PNL_STAT_pending 0
    s.beginPass (if full then 2 else 1) (s.renderBand f) lines

/-- PASS_START (R431, R434): a requested pass starts while none is at work, a band pass first. -/
def execPassStart (t : Nat) (s : State) : Host.Outcome State Fault Refusal :=
  let s := s.at t
  .next (if !s.pnlIdle then s else if s.pnl.bandWant then s.beginBand else if s.pnl.want || s.pnl.fromShadow then s.hostPass else s)

/-- A CRC mismatch (R433): counted, and a full pass from the shadow; where the shadow fails as well, a clear transfer, a light body under the band,
and crc_err held until a full host pass. -/
def State.crcMismatch (s : State) : State :=
  let s := ((s.setFb P.PNL R.PNL_STAT_crc_err true).satInc P.PNL R.PNL_CNT_verify 1).irq P.PNL 2
  if s.frameCrc s.pnl.shadow = s.pnl.shadowCrc then
    { s with pnl := { s.pnl with front := s.pnl.shadow, fromShadow := true } }
  else
    let f := s.drawBand []
    { s with pnl := { s.pnl with clearing := s.pnl.pven, front := f, shadow := f, shadowCrc := s.frameCrc f, fromShadow := true, errHeld := true } }

/-- The rewrite pass of a start-up (R437): every line of the shadow, before any other panel activity. -/
def State.rewritePass (s : State) : State := s.beginPass 4 s.pnl.shadow (List.range s.pnlHeight)

/-- The rewrite pass has ended: verified where the CRC of the lines sent equals the shadow's; one that is not is repeated once, and then R433
applies (R437). -/
def State.rewriteEnd (s : State) : State :=
  if s.frameCrc s.pnl.glass = s.pnl.shadowCrc then
    let s := (s.setFb P.PNL R.PNL_STAT_rewrite false).setFb P.SYS R.SYS_START_panel_rewrite true
    { s with pnl := { s.pnl with verified := true, again := false, pdisp := s.fb P.PNL R.PNL_CFG_disp } }
  else if s.pnl.again then ({ s with pnl := { s.pnl with again := false } } : State).setFb P.PNL R.PNL_STAT_rewrite false |>.crcMismatch
  else if s.pnl.stopped then s
  else ({ s with pnl := { s.pnl with again := true } } : State).rewritePass

/-- The check at the end of a full pass (R433, R437): a verified pass drives PDISP and shows the rewrite. -/
def State.fullPassEnd (s : State) (kind : Nat) : State :=
  if kind = 4 then s.rewriteEnd
  else if s.frameCrc s.pnl.front ≠ s.pnl.shadowCrc then s.crcMismatch
  else
    let s := if s.pnl.verified then s else s.setFb P.SYS R.SYS_START_panel_rewrite true
    let s := { s with pnl := { s.pnl with verified := true, pdisp := s.fb P.PNL R.PNL_CFG_disp } }
    let s := if kind = 2 ∨ !s.pnl.errHeld then s.setFb P.PNL R.PNL_STAT_crc_err false else s
    if kind = 2 then { s with pnl := { s.pnl with errHeld := false } } else s

/-! ### Transfers (R425, R427) -/

/-- A transfer of t_line ends now: PCOM's level at its start. -/
def State.polOf (s : State) (steps : Nat) : Bool :=
  s.pnl.pcom != decide (s.now < s.pnl.comFrom + s.pnl.comN * secs 1 / (2 * Nat.max 1 s.pnl.comF) + steps)

/-- The header of a transfer: command, inversion mode, pol, 0, line number. -/
def State.lineHeader (s : State) (cmd steps y : Nat) : List Bool :=
  bitsMsb 3 cmd ++ bitsMsb 2 s.pnl.com.2.2 ++ [s.polOf steps] ++ [false, false] ++ bitsMsb 8 y

/-- The bit stream of a line transfer: header, line data, a trailer of 16 zeros; bit k goes on PSI(k mod 2). -/
def State.lineTransfer (s : State) (y : Nat) (data : List Byte) : List Bool :=
  let steps := (s.pnlWidth * s.pnlDepth / 2 + 24) * 2 ^ s.fv P.PNL R.PNL_CFG_div * 128 / 125
  s.lineHeader 4 steps y ++ data.flatMap (fun b => (List.range 8).map b.getLsbD) ++ List.replicate 16 false

/-- The bit stream of a clear transfer, without line data (R427). -/
def State.clearTransfer (s : State) : List Bool :=
  s.lineHeader 2 (24 * 2 ^ s.fv P.PNL R.PNL_CFG_div * 128 / 125) 0 ++ List.replicate 16 false

/-- The bits that a lane carries. -/
def laneBits (lane : Nat) (l : List Bool) : List Bool := (l.zipIdx.filter (fun x => decide (x.2 % 2 = lane))).map (fun x => x.1)

/-- A clear transfer has ended: the glass is light. -/
def State.cleared (s : State) : State :=
  { s with pnl := { s.pnl with glass := [], clearing := false, sent := s.clearTransfer, lineFrom := s.now + s.lineGap } }

/-- The next line of the pass at work is complete (R425, R431): its position in the ledger; with the last line the pass ends. -/
def State.passLine (s : State) : State :=
  match s.pnl.pass with
  | none => s
  | some p =>
    match p.lines[p.next]? with
    | none => s
    | some y =>
      let line := lineOf s.pnl.front s.pnlLineLen y
      let done := decide (p.lines.length ≤ p.next + 1)
      let s := { s with pnl := { s.pnl with
        glass := setLine s.pnl.glass y line, sent := s.lineTransfer y line, ledger := some (p.gen, p.next, done), pass := some { p with next := p.next + 1 }
        lineFrom := s.now + s.lineGap } }
      let s := s.setFv P.PNL R.PNL_STAT_line y
      if !done then (if s.pnl.bandWant && decide (p.kind ≠ 0) && decide (p.kind ≠ 4) then s.beginBand else s)
      else
        let s := s.irq P.PNL (if p.kind = 0 then 1 else 0)
        let s := { s with pnl := { s.pnl with pass := s.pnl.suspended, suspended := none, checkAt := s.now } }
        let s := s.setFb P.PNL R.PNL_STAT_busy s.pnl.pass.isSome
        let s := if 2 ≤ p.kind then s.fullPassEnd p.kind else s
        if s.pnl.bandWant && s.pnlIdle then s.beginBand else s

/-- A transfer is complete: a clear transfer before any line. -/
def State.lineWritten (s : State) : State := if s.pnl.clearing then s.cleared else s.passLine

/-- A line's transfer has lasted t_line since the driver might begin it (R426); a clear transfer has no line data. -/
def State.lineDue (s : State) : Bool :=
  decide (s.pnl.lineFrom ≤ s.now) &&
    (if s.pnl.clearing then s.pnlPowered && decide (24 * 2 ^ s.fv P.PNL R.PNL_CFG_div * 1024 ≤ (s.now - s.pnl.lineFrom) * 1000)
     else s.linesTake 1 (s.now - s.pnl.lineFrom))

/-- LINE_WRITTEN (R425, R426). -/
def execLineWritten (t : Nat) (s : State) : Host.Outcome State Fault Refusal :=
  let s := s.at t
  .next (if s.pnlOn && s.lineDue then s.lineWritten else s)

/-- BAND_PASS (R434): a change of what the band shows asks for one; in DORMANT none runs. -/
def execBandPass (t : Nat) (s : State) : Host.Outcome State Fault Refusal :=
  let s := s.at t
  .next (if decide (s.pstate ≤ 1) && decide (s.bandKey ≠ s.pnl.bandKey) then s.bandPass else s)

/-- BLINK (R435): every 0.5 s the rows of UNACK entries are inverted or restored. -/
def execBlink (t : Nat) (s : State) : Host.Outcome State Fault Refusal :=
  let s := s.at t
  if s.pnlOn && decide (s.pstate ≤ 1) && s.fb P.PNL R.PNL_BAND_blink && decide (s.pnl.blinkAt + msecs 500 ≤ s.now) then
    .next { s with pnl := { s.pnl with inverted := !s.pnl.inverted, blinkAt := s.now } }.bandPass
  else .next s

/-- The band pass at the entry to DORMANT, which removes the blink inversion (R438). -/
def State.bandRest (s : State) : State :=
  if s.pnl.pven then { s with pnl := { s.pnl with inverted := false, bandLast := true } }.bandPass
  else { s with pnl := { s.pnl with inverted := false } }

/-- Bytes of a frame that an upset of its memory has changed. -/
def upset (f : SMap Byte) (l : List (Nat × Byte)) : SMap Byte := l.foldl (fun f x => SMap.put lightByte f x.1 x.2) f

/-- IDLE_CRC_CHECK (R433): every 10 s of an idle driver, the front frame and the shadow with what has happened to them since. -/
def execIdleCrcCheck (t : Nat) (upsets shadowUpsets : List (Nat × Byte)) (s : State) : Host.Outcome State Fault Refusal :=
  let s := s.at t
  if !(s.pnlOn && s.pnl.pass.isNone && s.pnl.verified && decide (s.pnl.checkAt + secs 10 ≤ s.now)) then .next s
  else
    let s := { s with pnl := { s.pnl with
      front := upset s.pnl.front upsets, shadow := upset s.pnl.shadow shadowUpsets, checkAt := s.now } }
    .next (if s.frameCrc s.pnl.front ≠ s.pnl.shadowCrc then s.crcMismatch else s)

/-- PANEL_REWRITE (R437): t_pwr after PVEN rose, the full pass from the shadow starts; `upsets` is what has happened to its copy in the front
frame. -/
def execPanelRewrite (t : Nat) (upsets : List (Nat × Byte)) (s : State) : Host.Outcome State Fault Refusal :=
  let s := s.at t
  if !(s.pnlOn && s.pnlPowered && s.fb P.PNL R.PNL_STAT_rewrite && s.pnl.pass.isNone && !s.pnl.clearing) then .next s
  else
    let s := s.rewritePass
    .next { s with pnl := { s.pnl with front := upset s.pnl.front upsets } }

/-! ### The host's commands (R432) -/

/-- Copy PNL_LBUF into a line of the back frame. -/
def State.pnlPut (s : State) : State :=
  let y := s.fv P.PNL R.PNL_LSEL_line
  if s.pnlHeight ≤ y then s
  else { s with pnl := { s.pnl with back := setLine s.pnl.back y (s.pageBytes P.PNL 0x200 s.pnlLineLen) } }

/-- Request a pass; one at work holds it pending. -/
def State.pnlUpdate (s : State) : State :=
  let s := if s.fb P.PNL R.PNL_STAT_busy || s.fb P.PNL R.PNL_STAT_rewrite then s.setFb P.PNL R.PNL_STAT_pending true else s
  { s with pnl := { s.pnl with want := true } }

/-- Make the requested pass full. -/
def State.pnlFull (s : State) : State := { s with pnl := { s.pnl with wantFull := s.pnl.want } }

/-- Copy the body lines of the front frame into the back frame. -/
def State.pnlCopyFront (s : State) : State :=
  let len := s.pnlLineLen
  let f := s.pnl.front
  { s with pnl := { s.pnl with
      back := ((List.range (s.pnlHeight - 32)).map (fun i => i + 32)).foldl (fun b y => setLine b y (lineOf f len y)) s.pnl.back } }

/-- A PNL_CTRL write (R432). -/
def State.pnlCtrl (s : State) (v : Word) : State :=
  let s := if v.getLsbD 0 then s.pnlPut else s
  let s := if v.getLsbD 1 then s.pnlUpdate else s
  let s := if v.getLsbD 2 then s.pnlFull else s
  if v.getLsbD 3 then s.pnlCopyFront else s

/-! ### Polarity and temperature (R428–R430) -/

/-- The end of the half-period of PCOM in progress: edge k of a rate f lies k / (2 f) s after that rate began, to one step (R428). -/
def State.comDue (s : State) : Nat := s.pnl.comFrom + (s.pnl.comN + 1) * secs 1 / (2 * Nat.max 1 s.pnl.comF)

/-- PCOM_EDGE (R428, R430): PCOM toggles at the end of a half-period; while no pass is at work, a band change takes effect here. -/
def execPcomEdge (t : Nat) (s : State) : Host.Outcome State Fault Refusal :=
  let s := s.at t
  if !(s.pnl.pven && s.corOn && decide (s.comDue ≤ s.now)) then .next s
  else
    let com := if s.pnl.pass.isNone then s.pnlCom else s.pnl.com
    let on := decide (com.1 = s.pnl.comF)
    .next { s with pnl := { s.pnl with
      pcom := !s.pnl.pcom, com := com, comFrom := if on then s.pnl.comFrom else s.comDue, comN := if on then s.pnl.comN + 1 else 0, comF := com.1 } }

/-- The temperature band follows its source point (R429). -/
def State.tempBand (s : State) : State :=
  let n := s.fv P.PNL R.PNL_TB_src
  if s.pointQuality (scalarPoint n) ≠ 0 then s.setFb P.PNL R.PNL_STAT_src_bad true
  else
    let s := s.setFb P.PNL R.PNL_STAT_src_bad false
    let v := ofB32 (s.value n)
    let th (i : Nat) : Int := sext 8 (s.fv P.PNL ([R.PNL_TB_t1, R.PNL_TB_t2, R.PNL_TB_t3].getD i R.PNL_TB_t3))
    let old := s.fv P.PNL R.PNL_STAT_tband
    let up := (List.range 3).foldl (fun b i => if Q.le (Q.ofInt (th i)) v then Nat.max b (i + 1) else b) 0
    let down := (List.range 3).foldl (fun b i => if Q.le (Q.ofInt (th i - 2)) v then Nat.max b (i + 1) else b) 0
    let new := if old < up then up else if down < old then down else old
    (s.setFv P.PNL R.PNL_STAT_tband new).irqIf (decide (new ≠ old)) P.PNL 3

/-! ### Commit, start and stop (R426, R427, R436–R438) -/

/-- What a commit of PNL_CFG or PNL_GEOM stores (R426, Table 17-4). -/
def pnlFixes (s : State) (b : Nat) (c : Cand) : List (Field × Nat) :=
  let w := c.fv s b R.PNL_GEOM_width
  let w' := nclip 8 400 w / 8 * 8
  let d := if c.fv s b R.PNL_CFG_depth ≠ 0 then 3 else 1
  let div := Nat.min 2 (c.fv s b R.PNL_CFG_div)
  let fits (k : Nat) : Bool := decide ((w' * d / 2 + 24) * 2 ^ k * 1000000 ≤ 40 * 16384000)
  let div' := if fits div then div else if 1 ≤ div && fits (div - 1) then div - 1 else 0
  let t1 := iclip (-40) 92 (sext 8 (c.fv s b R.PNL_TB_t1))
  let t2 := iclip (t1 + 4) 96 (sext 8 (c.fv s b R.PNL_TB_t2))
  let t3 := iclip (t2 + 4) 100 (sext 8 (c.fv s b R.PNL_TB_t3))
  [(R.PNL_GEOM_width, w'), (R.PNL_CFG_div, div'), (R.PNL_TB_t1, uext 8 t1), (R.PNL_TB_t2, uext 8 t2), (R.PNL_TB_t3, uext 8 t3)]

/-- Both frames cleared, a clear transfer where the panel has its supply, and a full pass to come (R427, R438). -/
def State.pnlClear (s : State) : State :=
  let s := { s with pnl := { s.pnl with
    front := [], back := [], clearing := s.pnl.pven && !s.pnl.stopped, shadow := [], shadowCrc := s.frameCrc [], pass := none, suspended := none
    want := true, wantFull := true } }
  s.setFb P.PNL R.PNL_STAT_busy false

/-- PVEN rises: f_com, gap and inversion of the band in force, and PCOM's first half-period (R428). -/
def State.pvenRises (s : State) : State :=
  { s with pnl := { s.pnl with pven := true, pvenAt := s.now, lineFrom := s.now, com := s.pnlCom, comFrom := s.now, comN := 0, comF := s.pnlCom.1 } }

/-- PVEN as PNL_CFG.en commands it: at its rise a full pass from the shadow is due, at its fall the driver stops. After PFW_N it is held
(R436). -/
def State.pnlPower (s : State) : State :=
  let en := s.fb P.PNL R.PNL_CFG_en && s.corOn
  if en = s.pnl.pven ∨ s.pnl.stopped then s
  else
    let s := { s with pnl := { s.pnl with
      clearing := false, pven := false, pdisp := false, verified := false, pass := none, suspended := none, bandWant := false, bandLast := false, fromShadow := en } }
    let s := if en then s.pvenRises else s
    (s.setFb P.PNL R.PNL_STAT_powered en).setFb P.PNL R.PNL_STAT_busy false

/-- The blink ends where a commit of PNL_BAND ends it: the rows are shown uninverted (R435). -/
def State.blinkCommitted (s : State) : State :=
  if s.pnl.inverted && !s.fb P.PNL R.PNL_BAND_blink then { s with pnl := { s.pnl with inverted := false } }.bandPass else s

/-- After a commit of the PNL page: one of PNL_GEOM, or of another depth, clears (R427, R438). -/
def State.pnlCommitted (s old : State) : State :=
  let geom := (SMap.get? old.staged (P.PNL + R.PNL_GEOM_width.off)).isSome
  let s := if !geom && decide (s.fv P.PNL R.PNL_CFG_depth = old.fv P.PNL R.PNL_CFG_depth) then s else s.pnlClear
  let s := s.pnlPower.blinkCommitted
  if s.pnl.verified && !s.pnl.stopped then { s with pnl := { s.pnl with pdisp := s.fb P.PNL R.PNL_CFG_disp } } else s

/-- The driver stops for the power-fail sequence (R436): a line in progress completes. -/
def State.pnlStop (s : State) : State :=
  let s : State := { s with pnl := { s.pnl with bandWant := false, bandLast := false, stopped := true } }
  let s := if s.pnl.pven && !s.linkTest 3 && decide (s.pnl.lineFrom ≤ s.now) then s.lineWritten else s
  { s with pnl := { s.pnl with pass := none, suspended := none, clearing := false } }

/-- COR loses power: the frames in its memory and the levels it drives are gone. -/
def State.pnlOff (s : State) : State :=
  { s with pnl := { s.pnl with
      front := [], back := [], pass := none, suspended := none, want := false, wantFull := false, fromShadow := false, pven := false,
      pdisp := false, pcom := false, inverted := false, verified := false, bandWant := false, bandLast := false, clearing := false, again := false } }

/-- Start-up (R437): the ledger is shown, PVEN raised, the rewrite to come; with en = 0 nothing is rewritten. -/
def State.pnlStart (s : State) : State :=
  let s : State := { s with pnl := { s.pnl with stopped := false, verified := false, again := false, clearing := false } }
  let s := match s.pnl.ledger with
    | none => s
    | some (gen, last, complete) =>
      let s := ((s.setFv P.PNL R.PNL_LEDGER_last last).setFb P.PNL R.PNL_LEDGER_complete complete).setFv P.PNL R.PNL_LEDGER_GEN_gen gen
      if complete then s else s.satInc P.PNL R.PNL_CNT_interrupted 1
  if !s.fb P.PNL R.PNL_CFG_en then s.setFb P.SYS R.SYS_START_panel_rewrite true
  else
    let s := { s with pnl := { s.pnl with front := s.pnl.shadow } }.pvenRises
    (s.setFb P.PNL R.PNL_STAT_powered true).setFb P.PNL R.PNL_STAT_rewrite true

end Sys2Proof.Machine
end

