-- ==== Sys2Proof/Machine/Dsp.lean ====
section
/-! DEFINITION. The arithmetic of the spectral planes and of the tacho: sines and cosines, decibels, windows (Table 07-2), the transform of
a record given by the samples it lists, level codes (R187), and the crossing of a cubic (R180). Samples are whole numbers; sines and
cosines are in steps of 2^-80. -/

namespace Sys2Proof.Machine

open Sys2Proof

/-! ### Numbers -/

/-- π in steps of 2^-128. -/
def piSteps : Nat := 0x3243F6A8885A308D313198A2E03707344

def piQ : Q := Q.frac piSteps (2 ^ 128)

/-- The cosine of `n / d` turns, in steps of 2^-80: the series at the angle within one turn. -/
def cosTurn (n : Int) (d : Nat) : Int :=
  let one : Int := 2 ^ 80
  let x : Int := (n % (d : Int)) * (2 * piSteps) / (2 ^ 48 * (d : Int))
  ((List.range 34).foldl (fun (a : Int × Int) (i : Nat) =>
    (a.1 + a.2, Int.fdiv (-(Int.fdiv (a.2 * x) one * x)) (one * ((2 * i + 1) * (2 * i + 2))))) (0, one)).1

/-- The sine of `n / d` turns, in steps of 2^-80. -/
def sinTurn (n : Int) (d : Nat) : Int := cosTurn (4 * n - d) (4 * d)

/-- The natural logarithm of 10. -/
def ln10 : Q := Q.frac 230258509299404568401799145468 (10 ^ 29)

/-- 10^q. -/
def pow10 (q : Q) : Q :=
  if q.num < 0 then expNeg (Q.mul (Q.neg q) ln10) else Q.div Q.one (expNeg (Q.mul q ln10))

/-- The factor of an amplitude for a change in dB, and that of its square. -/
def dbGain (db : Q) : Q := pow10 (Q.mul db (Q.frac 1 20))
def dbPower (db : Q) : Q := pow10 (Q.mul db (Q.frac 1 10))

/-- The square root of a quantity, to 2^-40 of itself or better. -/
def rootQ (q : Q) : Q := Q.make (isqrt (q.num.natAbs * q.d * 2 ^ 80)) (q.d * 2 ^ 40)

/-! ### Level codes (R187) -/

/-- The amplitude whose square is `n / d` rounds to at least level code `c`: A^4000 ≥ 10^(2c − 100001). -/
def codeReached (n d c : Nat) : Bool :=
  if 100001 ≤ 2 * c then decide (d ^ 2000 * 10 ^ (2 * c - 100001) ≤ n ^ 2000)
  else decide (d ^ 2000 ≤ n ^ 2000 * 10 ^ (100001 - 2 * c))

def codeSearch (n d : Nat) : Nat → Nat → Nat
  | 0, acc => acc
  | k + 1, acc => if codeReached n d (acc + 2 ^ k) then codeSearch n d k (acc + 2 ^ k) else codeSearch n d k acc

/-- The level code round(2,000 × log10 A) + 50,000 of an amplitude by its square, within 0–65,535; 0 for A = 0. -/
def powerCode (p : Q) : Nat := if p.num ≤ 0 then 0 else codeSearch p.num.natAbs p.d 16 0

/-! ### Transforms (R192, R195, R198) -/

def Cplx.add (a b : Cplx) : Cplx := (a.1 + b.1, a.2 + b.2)
def Cplx.scale (k : Int) (a : Cplx) : Cplx := (k * a.1, k * a.2)
/-- `a` turned by `n / d` turns. -/
def Cplx.turn (a : Cplx) (n : Int) (d : Nat) : Cplx :=
  let c := cosTurn n d
  let w := sinTurn n d
  (Int.fdiv (a.1 * c - a.2 * w) (2 ^ 80), Int.fdiv (a.1 * w + a.2 * c) (2 ^ 80))
def Cplx.power (a : Cplx) : Nat := (a.1 * a.1 + a.2 * a.2).natAbs

/-- Line `n` of the transform of a record into `size` lines. -/
def transform (size : Nat) (l : Samples) (n : Int) : Cplx :=
  l.foldl (fun acc x => Cplx.add acc (Cplx.turn x.2 (-(n * x.1)) size)) (0, 0)

/-- The coefficients of the windows in steps of 10^-9 (Table 07-2). -/
def winCoeffs (win : Nat) : List Int :=
  [[1000000000], [500000000, 500000000], [215578950, 416631580, 277263158, 83578947, 6947368],
   [358750000, 488290000, 141280000, 11680000]].getD win []

/-- A window as a cosine sum in the frequency domain (R195): line `n` of the windowed record by the lines `x` of the unwindowed one,
`apart` lines to the resolution bin; in half steps of 10^-9. -/
def windowed (win apart : Nat) (x : Int → Cplx) (n : Int) : Cplx :=
  (((winCoeffs win).zipIdx).foldl (fun (acc : Cplx) a =>
    let k : Int := (a.2 * apart : Nat)
    let both := if a.2 = 0 then Cplx.scale 2 (x n) else Cplx.add (x (n - k)) (x (n + k))
    Cplx.add acc (Cplx.scale (if a.2 % 2 = 0 then a.1 else -a.1) both)) (0, 0))

/-- The square of the peak amplitude of a sinusoid centred on a line (R192): `size` samples under window `win`, the line as `windowed`
gives it. Line 0 of a real record carries its mean once (log 80). -/
def linePower (win size : Nat) (mean : Bool) (x : Cplx) : Q :=
  let a0 : Nat := ((winCoeffs win).headD 0).natAbs
  Q.frac x.power ((if mean then 4 else 1) * (size * a0) ^ 2)

/-- The ideal low-pass at 0.40 of the rate of a spacing, `u` spacings from its centre: 0.8 × sinc(0.8 u), in steps of 2^-80. -/
def lowPass (u : Q) : Int :=
  if u.num = 0 then Int.fdiv (4 * 2 ^ 80) 5
  else Int.fdiv (sinTurn (2 * u.num) (5 * u.d) * u.d * 2 ^ 128) (u.num * piSteps)

/-! ### The envelope (R195) -/

/-- The taper at line `n` of the band `[lo, hi]`, in steps of 2^-80: a raised cosine over 64 lines at each edge (log 81). -/
def taper (lo hi n : Nat) : Int :=
  let edge (k : Nat) : Int := if 64 ≤ k then 2 ^ 80 else Int.fdiv (2 ^ 80 - cosTurn k 128) 2
  if n < lo ∨ hi < n then 0 else Int.fdiv (edge (n - lo) * edge (hi - n)) (2 ^ 80)

/-- The envelope of a real record of `size` samples over the lines `[lo, hi]`: the magnitude of the band's analytic signal, its mean
removed. -/
def envelope (size lo hi : Nat) (l : Samples) : Samples :=
  if l = [] then []
  else
    let band := (List.range (hi + 1 - lo)).map (fun i =>
      let x := Cplx.scale (2 * taper lo hi (lo + i)) (transform size l ((lo + i : Nat) : Int))
      (lo + i, (Int.fdiv x.1 (2 ^ 80), Int.fdiv x.2 (2 ^ 80))))
    let mags := (List.range size).map (fun k =>
      let z := band.foldl (fun (acc : Cplx) x => Cplx.add acc (Cplx.turn x.2 ((x.1 * k : Nat) : Int) size)) (0, 0)
      (isqrt z.power / size : Nat))
    let mean : Int := ((mags.sum / size : Nat) : Int)
    (mags.zipIdx).map (fun x => (x.2, ((x.1 : Int) - mean, 0)))

/-! ### Angle samples (R196) -/

/-- The slope of the angle at edge `i` of the stamps, by the intervals beside it: the weighted harmonic mean keeps the cubic monotone
(log 82). In edges per stamp step. -/
def angleSlope (e : Nat → Q) (last i : Nat) : Q :=
  let h0 := Q.sub (e i) (e (i - 1))
  let h1 := Q.sub (e (i + 1)) (e i)
  if i = 0 then Q.div Q.one h1
  else if last ≤ i then Q.div Q.one h0
  else
    let w1 := Q.add (Q.mul (Q.ofNat 2) h1) h0
    let w2 := Q.add h1 (Q.mul (Q.ofNat 2) h0)
    Q.div (Q.add w1 w2) (Q.add (Q.mul w1 h0) (Q.mul w2 h1))

/-- The angle at a time, in edges from the first of the stamps: a monotone cubic through them; beyond the span it goes on with the
slope at its end. -/
def angleAt (stamps : List Nat) (t : Q) : Q :=
  let e (i : Nat) : Q := Q.ofNat (stamps.getD i 0)
  let last := stamps.length - 1
  let i := (stamps.filter (fun x => Q.le (Q.ofNat x) t)).length
  if i = 0 then Q.mul (Q.sub t (e 0)) (angleSlope e last 0)
  else if last < i then Q.add (Q.ofNat last) (Q.mul (Q.sub t (e last)) (angleSlope e last last))
  else
    let k := i - 1
    let h := Q.sub (e i) (e k)
    let u := Q.div (Q.sub t (e k)) h
    let u2 := Q.mul u u
    let u3 := Q.mul u2 u
    let rise := Q.sub (Q.mul (Q.ofNat 3) u2) (Q.mul (Q.ofNat 2) u3)
    let m0 := Q.mul (Q.mul h (angleSlope e last k)) (Q.add (Q.sub u3 (Q.mul (Q.ofNat 2) u2)) u)
    let m1 := Q.mul (Q.mul h (angleSlope e last i)) (Q.sub u3 u2)
    Q.add (Q.ofNat k) (Q.add rise (Q.add m0 m1))

/-! ### Edges (R180) -/

/-- The cubic through four samples at -1, 0, 1 and 2. -/
def cubicAt (a b c d : Int) (u : Q) : Q :=
  let q := Q.ofInt
  let um := Q.sub u Q.one
  let up := Q.add u Q.one
  let u2 := Q.sub u (q 2)
  let term (v : Int) (x y z : Q) (k : Int) : Q := Q.mul (Q.mul (q v) (Q.mul x (Q.mul y z))) (if k < 0 then Q.neg (Q.frac 1 k.natAbs) else Q.frac 1 k.natAbs)
  Q.add (Q.add (term a u um u2 (-6)) (term b up um u2 2)) (Q.add (term c up u u2 (-2)) (term d up u um 6))

/-- Where the signal crosses `level` between the samples `b` at `start` and `c` one `period` later, in whole steps: the last one at which
the cubic has not passed it. -/
def crossing (rising : Bool) (a b c d : Int) (level start period : Q) : Nat :=
  let before (n : Int) : Bool :=
    let u := Q.div (Q.sub (Q.ofInt n) start) period
    let v := cubicAt a b c d u
    Q.le u Q.one && (if rising then Q.le v level else Q.le level v)
  (bisect before 11 start.floor).toNat

end Sys2Proof.Machine
end

