-- ==== Sys2Proof/Machine/SpxPlane.lean ====
section
/-! DEFINITION. The planes of the spectral engine (chapter 07) as their configuration gives them: live lines and line scale (R186),
commit interval and stale tolerance (R191), the quality of a plane's points (R205); the sample rings as records take them (R170, R188), and
the ZOOM stream (R198). -/

namespace Sys2Proof.Machine

open Sys2Proof

def State.dch (s : State) (ch : Nat) : DynCh := s.dyn.getD ch DynCh.reset
def State.plane (s : State) (i : Nat) : SpxPl := s.spx.getD i SpxPl.reset
def State.setPlane (s : State) (i : Nat) (x : SpxPl) : State := { s with spx := s.spx.set i x }

def State.setDch (s : State) (ch : Nat) (c : DynCh) : State := { s with dyn := s.dyn.set ch c }
def State.dynMode (s : State) (ch : Nat) : Nat := s.fv (P.DYN ch) R.DYN_MODE_mode

/-- The channel and the kind (Table 07-1: 0 DIRECT, 1 ENVELOPE, 2 ORDER, 3 ZOOM) of a plane instance. -/
def planeCh (i : Nat) : Nat := i / 4
def planeKind (i : Nat) : Nat := i % 4

/-! ### Lines (R186) -/

/-- log2 of the divisor of 204.8 kS/s of a plane's channel. -/
def State.planeDiv (s : State) (i : Nat) : Nat := s.fv (P.DYN (planeCh i)) R.DYN_MODE_div
/-- The sample rate as a quantity in Hz. -/
def fsOf (div : Nat) : Q := Q.frac 204800 (2 ^ div)

/-- The live lines (Table 07-1). -/
def State.planeLive (s : State) (i : Nat) : Nat × Nat :=
  let b := P.SPX i
  let fs := fsOf (s.planeDiv i)
  match planeKind i with
  | 0 => (0, 419430)
  | 1 =>
    let hi := Q.min (Q.ofNat (2 * s.fv b R.SPX_PL_P0_ENV_f_hi)) (Q.mul fs (Q.frac 2 5))
    let n := (Q.div (Q.mul (Q.sub hi (Q.ofNat (2 * s.fv b R.SPX_PL_P0_ENV_f_lo))) (Q.ofNat (2 ^ 20))) fs).toNat
    (1, Nat.min n 419430)
  | 2 => (0, 2 * 2 ^ (s.fv b R.SPX_PL_P0_ORD_b + s.fv b R.SPX_PL_P0_ORD_s) / 5)
  | _ => (52429, 471859)

/-- The line spacing and the frequency or order of line 0. -/
def State.planeScale (s : State) (i : Nat) : Q × Q :=
  let b := P.SPX i
  let fs := fsOf (s.planeDiv i)
  match planeKind i with
  | 2 => (Q.frac 1 (2 ^ s.fv b R.SPX_PL_P0_ORD_b), Q.zero)
  | 3 =>
    let fz := Q.mul fs (Q.frac 1 (2 ^ s.fv b R.SPX_PL_P0_ZOOM_z))
    (Q.mul fz (Q.frac 1 (2 ^ 19)), Q.sub (Q.frac (s.fv b R.SPX_PL_P1_ZOOM_fc) 1000) (Q.mul fz (Q.frac 1 2)))
  | _ => (Q.mul fs (Q.frac 1 (2 ^ 20)), Q.zero)

/-! ### Intervals (R191) -/

/-- The record spacing in steps of 2^-24 s, at 50 % or 75 % overlap. -/
def State.spacing (s : State) (i : Nat) (half : Bool) : Nat :=
  let n := if planeKind i = 3 then 2 ^ (16 + s.fv (P.SPX i) R.SPX_PL_P0_ZOOM_z) else 2 ^ 18
  n * (if half then 2 else 1) * 2 ^ s.planeDiv i * 2048 / 25

def State.interval (s : State) (i : Nat) (half : Bool) : Nat :=
  let b := P.SPX i
  s.spacing i half * (if s.fv b R.SPX_PL_CFG_avg = 1 then 2 ^ s.fv b R.SPX_PL_CFG_k else 1)

/-- The commit interval t_ci of the overlap in force. -/
def State.planeTci (s : State) (i : Nat) : Nat := s.interval i (s.fb P.SPXC R.SPX_STAT_hot_rate)

/-- The floor of SPX_PL_STALE.tol in s. -/
def State.staleFloor (s : State) (i : Nat) : Nat := (4 * s.interval i (s.fb P.SPXC R.SPX_HOT_en) + 16777215) / 16777216

/-- The tolerance in force, in steps. -/
def State.planeTol (s : State) (i : Nat) : Nat := secs (Nat.max (s.fv (P.SPX i) R.SPX_PL_STALE_tol) (s.staleFloor i))

/-! ### ORDER (R197) -/

/-- The conditions of R197 hold for an ORDER plane as configured with its tacho. -/
def State.orderFits (s : State) (i : Nat) : Bool :=
  let b := P.SPX i
  let tb := P.DYN (s.fv b R.SPX_PL_P0_ORD_tch)
  let div := s.planeDiv i
  let k := s.fv b R.SPX_PL_P0_ORD_b
  let m := s.fv b R.SPX_PL_P0_ORD_s
  decide (2 ^ m * s.fv tb R.DYN_TACH_RPM_rpm_max * 2 ^ div ≤ 60 * 204800) &&
    decide (2 ^ k * 600 * 204800 ≤ (2 ^ 20 - 8192) * 2 ^ div * s.fv tb R.DYN_TACH_RPM_rpm_min) && decide (k + m ≤ 20)

/-! ### Quality (R205, Table 07-4) -/

/-- The quality of a plane's points and its cause. -/
def State.planeQuality (s : State) (i : Nat) : Nat × Nat :=
  let b := P.SPX i
  let ch := planeCh i
  let x := s.plane i
  let order := decide (planeKind i = 2)
  let tch := s.fv b R.SPX_PL_P0_ORD_tch
  let powered := (s.dch ch).poweredAt
  let from_ := Nat.max powered (x.commitAt.getD 0)
  let since := match x.commitAt with | some a => decide (powered ≤ a) | none => false
  if !s.fb P.SPXC R.SPX_CTRL_en || !s.fb b R.SPX_PL_CFG_en || decide (s.fv (P.DYN ch) R.DYN_MODE_mode = 0) || (order && !s.orderFits i) then (3, 1)
  else if s.domainOn 4 && decide (s.fv (P.DYN ch) R.DYN_LIVE_live % 64 ≠ 0) then (3, 2)
  else if s.pstate = 1 then (2, 3)
  else if order && x.commitAt.isSome && decide (x.lefts.getD tch 0 < (s.dch tch).lefts) then (2, 4)
  else if from_ + s.planeTol i ≤ s.now then (3, 6)
  else if !since then (2, 5)
  else if from_ + 2 * s.planeTci i ≤ s.now then (2, 7)
  else if x.settling then (1, 0)
  else (0, 0)

/-- Show a plane's quality and cause (R205). A change of either is an event of the page's kind and squashes evaluations of the plane's
points (R251 row 4); points that become BAD raise plane_bad. -/
def State.planeShow (s : State) (i : Nat) : State :=
  let b := P.SPX i
  let (q, c) := s.planeQuality i
  let q0 := s.fv b R.SPX_PL_STAT_quality
  if q = q0 ∧ c = s.fv b R.SPX_PL_STAT_cause then s
  else
    let s := (s.setFv b R.SPX_PL_STAT_quality q).setFv b R.SPX_PL_STAT_cause c
    let s := (s.irqIf (decide (q ≠ q0)) b 1).irqIf (decide (q = 3) && decide (q0 ≠ 3)) P.SPXC 0
    s.squash 4 (fun p => !isScalar p && decide (planeNo p = i))

/-- The planes whose quality rests on a dynamic channel: its own, and the ORDER planes on its tacho. -/
def State.planesFollow (s : State) (ch : Nat) : State :=
  ((List.range 64).filter (fun i => decide (planeCh i = ch) || (decide (planeKind i = 2) && decide (s.fv (P.SPX i) R.SPX_PL_P0_ORD_tch = ch)))).foldl
    (fun (s : State) i => s.planeShow i) s

/-- Every plane is judged again. -/
def State.allPlanesShow (s : State) : State := (List.range 64).foldl (fun (s : State) i => s.planeShow i) s

/-! ### Rings and streams (R170–R173, R190, R198) -/

/-- The plane is built: engine and plane enabled, the domain powered, the channel not OFF. -/
def State.planeBuilt (s : State) (i : Nat) : Bool :=
  s.domainOn 5 && s.fb (P.SPX i) R.SPX_PL_CFG_en && decide (s.dynMode (planeCh i) ≠ 0)

/-- The sample ring of a channel. -/
def ringAt (ch : Nat) : Nat := 0x40000000 + ch * 0x400000

/-- The words of a channel's latest `n` samples that are not 0, at most a ring, by their position among these. -/
def State.latestWords (s : State) (ch n : Nat) : List (Nat × Nat) :=
  let w := s.fv (P.DYN ch) R.DYN_WIDX_widx
  (listedItems (ringAt ch) 4 (SMap.inRange s.mem (ringAt ch) (ringAt ch + 0x400000))).filterMap (fun r =>
    let age := (w + 2 ^ 20 - 1 - r) % 2 ^ 20
    if age < n then some (n - 1 - age, s.rdLe (ringAt ch + 4 * r) 4) else none)

/-- A sample word carries inv (Table 06-3). -/
def wordInv (w : Nat) : Bool := decide (2 ^ 31 ≤ w)

/-- The codes of sample words, in steps of 2^-40. -/
def codesOf (l : List (Nat × Nat)) : Samples := l.map (fun x => (x.1, (sext 28 x.2 * 2 ^ 40, 0)))

/-- The sample period in steps of 2^-28 s (R172). -/
def State.samplePeriod (s : State) (ch : Nat) : Q := Q.frac (32768 * 2 ^ s.fv (P.DYN ch) R.DYN_MODE_div) 25

/-- The stamp of the run's sample `k` (R172). -/
def State.sampleStamp (s : State) (ch k : Nat) : Nat :=
  s.stamp (P.DYN ch) R.DYN_RUN_T_LO_t R.DYN_RUN_T_HI_t + (Q.round (Q.frac (k * 2 ^ s.fv (P.DYN ch) R.DYN_MODE_div * 2048) 25)).toNat

/-- The filter of a ZOOM plane's stream, decimated by `d`, settles anew from sample `k` of the run; records stay aligned to the start of the
run's stream, and the next one ends where 2^18 samples of the stream have settled (R198; log 84). -/
def SpxPl.streamFrom (x : SpxPl) (d k : Nat) : SpxPl :=
  let m := (k + d - 1) / d
  { x with from_ := k, streamed := m, stream := [], bad := none, recNext := (m + 2 ^ 18 + 2 ^ 16 - 1) / 2 ^ 16 * 2 ^ 16 }

/-- Tap `k` of the low-pass at 0.40 × fs_z over 256 samples of a stream decimated by 2^z (R198; log 84), in steps of 2^-31. -/
def zoomTap (z k : Nat) : Int := Int.fdiv (lowPass (Q.make (2 * (k : Int) + 1 - 256 * 2 ^ z) (2 * 2 ^ z)) * Config.zoomTap z k) (2 ^ 80)

/-- The stream sample that the latest samples give: mixed with fc and low-pass filtered over 256 stream samples. The phase counts from the
run's first sample, `back` samples ago. -/
def State.streamSample (s : State) (i back : Nat) (l : List (Nat × Nat)) : Cplx :=
  let b := P.SPX i
  let z := s.fv b R.SPX_PL_P0_ZOOM_z
  let fc := s.fv b R.SPX_PL_P1_ZOOM_fc
  -- in µHz, within 50 µHz of fc
  let f : Nat := fc * 1000 + Config.zoomMix fc % 101 - 50
  let n := 256 * 2 ^ z
  let sum := l.foldl (fun (acc : Cplx) x =>
    let k := n - 1 - x.1
    let v : Int := sext 28 x.2 * 2 ^ 40 * zoomTap z k
    Cplx.add acc (Cplx.turn (v, 0) (-((f * (back - k) * 2 ^ s.planeDiv i : Nat) : Int)) 204800000000)) (0, 0)
  (Int.fdiv sum.1 (2 ^ 31), Int.fdiv sum.2 (2 ^ 31))

/-- The channel's latest sample has been written: every 2^z samples, once the filter has settled, the ZOOM stream grows by one. -/
def State.zoomSample (s : State) (ch : Nat) : State :=
  let i := 4 * ch + 3
  let x := s.plane i
  let d := 2 ^ s.fv (P.SPX i) R.SPX_PL_P0_ZOOM_z
  let off := (s.dch ch).count - 1
  if !s.planeBuilt i || decide (off % d ≠ 0) || decide (off < x.from_ + 256 * d) then s
  else
    let m := off / d - 256
    let l := s.latestWords ch (256 * d)
    let v := s.streamSample i off l
    let kept := x.stream.filter (fun y => decide (m < y.1 + 2 ^ 18))
    s.setPlane i { x with
      streamed := m + 1, stream := if v = (0, 0) then kept else kept ++ [(m, v)], bad := if l.any (fun y => wordInv y.2) then some m else x.bad }

end Sys2Proof.Machine
end

