-- ==== Sys2Proof/Machine/PteEval.lean ====
section
/-! DEFINITION. One evaluation of a point (R236, R237, R241–R249), as an evaluator makes it that takes one point at a time (R253). -/

namespace Sys2Proof.Machine

open Sys2Proof

/-! ### Changes (R249) -/

/-- A change of a point: entry, state bytes and qualities before and after, the flags, the stamp and the run's start. -/
def mkChange (p entry st0 st1 q0 q1 : Nat) (forced simulated poison : Bool) (stamp start : Nat) : Change :=
  { point := p, entry := entry, lvl0 := levelOf (isScalar p) st0, lvl1 := levelOf (isScalar p) st1, bad0 := decide (q0 = 3),
    bad1 := decide (q1 = 3), state0 := st0, state1 := st1, quality := q1, forced := forced, simulated := simulated, poison := poison,
    stamp := stamp, runStart := start, moved := false }

def State.queueChange (s : State) (c : Change) : State := { s with pte := { s.pte with changes := s.pte.changes ++ [c] } }

/-- The change queue holds 16,384 changes (R249). -/
def State.changesFull (s : State) : Bool := decide (16384 ≤ s.pte.changes.length)

/-- A poisoned point is found (R245): whether its poison is to be reported, once until it is evaluated sound again. -/
def State.poisonNew (s : State) (p : Nat) : Bool := !s.pte.poisonSeen.contains p

/-- The poison of a point is counted once. -/
def State.poisonFound (s : State) (p : Nat) : State :=
  if !s.poisonNew p then s
  else
    let s := { s with pte := { s.pte with poisonSeen := s.pte.poisonSeen ++ [p] } }
    (s.satInc P.PTE R.PTE_POISON_poison 1).irq P.PTE 5

/-- A point whose record is poisoned is BAD, and its record is not written back (R245): one change with the poison flag, and the quality
that ALH knows is held apart from the record until the point is evaluated sound. -/
def State.reportPoison (s : State) (p : Nat) (forced simulated : Bool) (stamp : Nat) : State :=
  if !s.poisonNew p then s
  else
    let st := s.stateByte p
    let c := mkChange p (s.entryOf p) st st (s.reportedQuality p) 3 forced simulated true stamp stamp
    ((s.poisonFound p).holdReported p 3).queueChange c

def State.poisonGone (s : State) (p : Nat) : State :=
  { s with pte := { s.pte with poisonSeen := s.pte.poisonSeen.filter (fun x => decide (x ≠ p)) } }

/-! ### Scalar limits (Table 09-1, R237) -/

/-- The set condition of limit `i` (0 hh, 1 h, 2 l, 3 ll). -/
def limitSet (i : Nat) (v lim : Word) : Bool := if i < 2 then b32Lt lim v else b32Lt v lim

/-- The clear condition of limit `i`; the deadband is taken off exactly. -/
def limitClear (i : Nat) (v lim db : Word) : Bool :=
  if b32IsInf lim then (if i < 2 then b32Le v lim else b32Le lim v)
  else if i < 2 then Q.le (ofB32 v) (Q.sub (ofB32 lim) (ofB32 db)) else Q.le (Q.add (ofB32 lim) (ofB32 db)) (ofB32 v)

/-- What a pass does with one limit: its run, the instant at which its bit changes and the run's start, and whether a fall is not held
back. -/
structure LimitOut where
  run : Option Run
  flip : Option (Nat × Nat)
  free : Bool
deriving DecidableEq, Repr

/-- A limit of scalar point `n` at a pass of quality GOOD: value `v` of stamp `ts`, snapshot instant `now` (R236, R237, R243). -/
def State.limitStep (s : State) (n i : Nat) (bit released : Bool) (v : Word) (ts now : Nat) : LimitOut :=
  let ra := scalarRec n
  let lim := word (s.rdLe (ra + 4 * i) 4)
  if b32IsNaN lim then { run := none, flip := if bit then some (ts, ts) else none, free := true }
  else
    let met := if bit then limitClear i v lim (word (s.rdLe (ra + 16) 4)) else limitSet i v lim
    if released && bit && s.pte.heldBack.contains (n * 4 + i) then
      { run := none, flip := if met then some (ts, ts) else none, free := true }
    else if !met then { run := none, flip := none, free := false }
    else
      let r := (SMap.get? s.pte.runs (n * 4 + i)).getD { start := ts, past := [], since := some ts }
      let since := r.since.getD ts
      let reach := r.reach since (msecs (10 * s.rdLe (ra + (if bit then 22 else 20)) 2))
      if reach ≤ now then { run := none, flip := some (reach, r.start), free := false }
      else { run := some { r with since := some since }, flip := none, free := false }

/-- A change of limit bits by instant: limit, instant, run start, not held back. -/
abbrev Flip := Nat × Nat × Nat × Bool

def insertFlip (f : Flip) : List Flip → List Flip
  | [] => [f]
  | g :: l => if f.2.1 < g.2.1 then f :: g :: l else g :: insertFlip f l

/-- Apply the flips in order of their instants: the state byte, the steps (state, stamp, run start), the limits held back. -/
def applyFlips (latch : Bool) (b : Nat) (l : List Flip) : Nat × List (Nat × Nat × Nat) × List Nat :=
  l.foldl (fun r f =>
    let st := r.1
    if st / 2 ^ f.1 % 2 = 1 ∧ latch ∧ !f.2.2.2 then
      (if latchedBit true st then (st, r.2.1, r.2.2 ++ [f.1])
       else (st + 16, r.2.1 ++ [(st + 16, f.2.1, f.2.2.1)], r.2.2 ++ [f.1]))
    else
      let st' := if st / 2 ^ f.1 % 2 = 1 then st - 2 ^ f.1 else st + 2 ^ f.1
      (st', r.2.1 ++ [(st', f.2.1, f.2.2.1)], r.2.2)) (b, [], [])

/-- The held-back limits of a scalar point. -/
def State.setHeld (s : State) (n : Nat) (l : List Nat) : State :=
  { s with pte := { s.pte with heldBack := s.pte.heldBack.filter (fun k => decide (k / 4 ≠ n)) ++ l.map (fun i => n * 4 + i) } }
def State.heldOf (s : State) (n : Nat) : List Nat := (List.range 4).filter (fun i => s.pte.heldBack.contains (n * 4 + i))

/-- Write back a scalar record and queue the changes (R244, R249): the new state byte and quality, the steps, and the stamp of a
change that no step made. `poison`: the value entry's poison is to be reported with it (R245). -/
def State.scalarCommit (s : State) (n b1 q : Nat) (steps : List (Nat × Nat × Nat)) (ts : Nat) (poison : Bool) : State :=
  let p := scalarPoint n
  let ra := scalarRec n
  let b0 := s.stateByte p
  let q0 := s.reportedQuality p
  let entry := s.entryOf p
  let forced := s.pointForced p
  let sim := s.pointSimulated p
  let s := s.dropReported p
  let lastStamp := match steps.getLast? with
    | some x => x.2.1
    | none => ts
  let last := if b0 % 16 ≠ b1 % 16 then leBytes 4 (s.calSecAt lastStamp) else s.rdBytes (ra + 28) 4
  let s := s.nodeWrite (ra + 26) ([byte b1, byte ((s.rd8 (ra + 27)).toNat / 4 * 4 + q)] ++ last)
  let r := steps.foldl (fun (r : State × Nat × Nat) x =>
    if x.1 = r.2.1 then r else (r.1.queueChange (mkChange p entry r.2.1 x.1 r.2.2 q forced sim false x.2.1 x.2.2), x.1, q)) (s, b0, q0)
  if r.2.1 = b1 ∧ r.2.2 = q ∧ !poison then r.1
  else r.1.queueChange (mkChange p entry r.2.1 b1 r.2.2 q forced sim poison ts ts)

/-- The value table's entry of a scalar point with its quality, as a pass takes it (R233). -/
def State.snapScalar (s : State) (n : Nat) : Shadow :=
  { value := s.value n, quality := s.srcQuality n, source := (s.rd8 (scalarVal n + 4)).toNat, stamp := s.valueStamp n }

/-- Evaluate scalar point `n` at a pass with snapshot instant `now` and snapshot `x` (Table 09-3): value and stamp come from the snapshot,
everything else as it stands (R253). A value entry whose stamp cannot be read gives its change the snapshot instant. A point written since
the snapshot stays due (R233). -/
def State.scalarEval (s : State) (n now : Nat) (x : Shadow) : State :=
  let p := scalarPoint n
  let ra := scalarRec n
  let b := s.stateByte p
  let forced := s.pointForced p
  let written := decide (s.snapScalar n ≠ x)
  let s := { s with pte := { s.pte with due := s.pte.due.filter (fun k => decide (k ≠ n) || written) } }
  let s := s.irqIf (s.squashedTwice p) P.PTE 6
  if s.anyPoison ra 32 then (s.dropRuns n).reportPoison p forced (s.pointSimulated p) x.stamp
  else
    let bad := s.anyPoison (scalarVal n) 16
    let ts := if s.isPoisoned (scalarVal n + 8) then now else x.stamp
    let tell := bad && s.poisonNew p
    let s := if bad then s.poisonFound p else s.poisonGone p
    let v := x.value
    let q := if bad || !b32Finite v then 3 else s.srcQuality n
    if forced then (s.freezeRuns n now).scalarCommit n b q [] ts tell
    else if q = 3 then
      let s := s.dropRuns n
      if s.classBit p R.PTE_CL_CFG_bad_act then (s.setHeld n []).scalarCommit n (b / 32 * 32) q [] ts tell
      else s.scalarCommit n b q [] ts tell
    else if q ≠ 0 then s.scalarCommit n b q [] ts false
    else
      let released := !s.pointLatched p
      let outs := (List.range 4).map (fun i => (i, s.limitStep n i (decide (b / 2 ^ i % 2 = 1)) released v ts now))
      let flips := outs.foldl (fun l x => match x.2.flip with
        | some f => insertFlip (x.1, f.1, f.2, x.2.free) l
        | none => l) []
      let r := applyFlips (s.classBit p R.PTE_CL_CFG_latch) b flips
      let held := if released then r.2.2 else s.heldOf n ++ r.2.2.filter (fun i => !(s.heldOf n).contains i)
      let s := outs.foldl (fun s x => s.setRun (n * 4 + x.1) x.2.run) s
      (s.setHeld n held).scalarCommit n r.1 q r.2.1 ts false

/-! ### Spectral points (R241, R242) -/

/-- The level of a spectral state byte. -/
def specLevel (b : Nat) : Nat := levelOf false b
/-- The state byte with a level. -/
def withLevel (b l : Nat) : Nat := b / 4 * 4 + (if l = 2 then 3 else l)

/-- The target level of Table 09-2. -/
def specTarget (v l warn alarm hyst : Nat) (invert : Bool) : Nat :=
  let h := 5 * hyst
  if invert then
    (if v < alarm ∨ (l = 2 ∧ v < Nat.min 65535 (alarm + h)) then 2
     else if v < warn ∨ (1 ≤ l ∧ v < Nat.min 65535 (warn + h)) then 1 else 0)
  else
    (if alarm < v ∨ (l = 2 ∧ alarm - h < v) then 2 else if warn < v ∨ (1 ≤ l ∧ warn - h < v) then 1 else 0)

/-- The active simulation entry of a spectral point (R248). -/
def State.simOf (s : State) (p : Nat) : Option SimEntry := s.pte.sims.find? (fun e => e.active && decide (e.point = p))

/-- Evaluate spectral point `p` with its plane at the frontier (R240–R245, Table 09-3). -/
def State.specEval (s : State) (x : AtPlane) (p : Nat) : State :=
  let ra := spectralRec p
  let flags := s.rdLe (ra + 10) 2
  if flags % 2 = 0 ∨ !s.classBit p R.PTE_CL_CFG_en then s
  else
    let b := s.stateByte p
    let q0 := s.reportedQuality p
    let entry := s.entryOf p
    let forced := s.pointForced p
    let sim := s.simOf p
    let s := s.irqIf (s.squashedTwice p) P.PTE 6
    if s.anyPoison ra 16 then
      -- its return to GOOD starts from zero (R244)
      let s := if s.pte.fresh.contains p then s else { s with pte := { s.pte with fresh := s.pte.fresh ++ [p] } }
      s.reportPoison p forced sim.isSome s.now
    else
      let bad := sim.isNone && s.anyPoison (codeAt x.half p) 2
      let tell := bad && s.poisonNew p
      let s := (if bad then s.poisonFound p else s.poisonGone p).dropReported p
      let (first, end_) := s.planeLive x.plane
      let live := decide (first ≤ lineNo p) && decide (lineNo p ≤ end_)
      let q := if bad then 3 else if sim.isSome then 0 else if !live then 3 else (s.planeQuality x.plane).1
      let v := match sim with
        | some e => e.code
        | none => s.rdLe (codeAt x.half p) 2
      let cnt := if s.pte.fresh.contains p then 0 else (s.rd8 (ra + 9)).toNat
      let l := specLevel b
      let rel := s.pte.released.contains p
      let latch := s.classBit p R.PTE_CL_CFG_latch && !rel
      let target := specTarget v l (s.rdLe ra 2) (s.rdLe (ra + 2) 2) (s.rd8 (ra + 5)).toNat (decide (flags / 8 % 2 = 1))
      let compares := decide (q = 0) && !forced && (x.compared || rel)
      let stamp := if compares && x.compared then x.stamp else s.now
      let cnt' := if forced then cnt else if q = 3 then 0 else if !(compares && x.compared) then cnt
        else if target = 0 then 0 else Nat.min 255 (cnt + 1)
      -- level and latched bit
      let b' : Nat :=
        if forced then b % 64
        else if q = 3 then (if s.classBit p R.PTE_CL_CFG_bad_act then b % 64 / 8 * 8 else b % 64)
        else if !compares then b % 64
        else if l < target then (if x.compared ∧ (s.rd8 (ra + 4)).toNat ≤ cnt' then withLevel (b % 64) target else b % 64)
        else if target < l then (if latch then (if latchedBit false b then b % 64 else b % 64 + 4) else withLevel (b % 64) target)
        else b % 64
      let b1 := b' + q * 64
      let s := if compares || decide (q = 3) then
          { s with pte := { s.pte with
            fresh := s.pte.fresh.filter (fun y => decide (y ≠ p))
            released := if compares then s.pte.released.filter (fun y => decide (y ≠ p)) else s.pte.released } }
        else s
      let last := if specLevel b1 ≠ l then leBytes 4 (s.calSecAt stamp) else s.rdBytes (ra + 12) 4
      let s := s.nodeWrite (ra + 8) ([byte b1, byte cnt', byte flags, byte (flags / 256)] ++ last)
      if b1 % 64 = b % 64 ∧ q = q0 ∧ !tell then s else s.queueChange (mkChange p entry b b1 q0 q forced sim.isSome tell stamp stamp)

/-! ### Counts (R262): how many records stand at a level, BAD, latched; of a class, or of all -/

def State.listedPoints (s : State) : List Nat := s.listedScalars ++ s.listedAllSpectral
def State.countPoints (s : State) (cls : Option Nat) (f : Nat → Bool) : Nat :=
  (s.listedPoints.filter (fun p => f p && (match cls with | some c => decide (s.classOf p = c) | none => true))).length
def State.nLevel (s : State) (cls : Option Nat) (l : Nat) : Nat := s.countPoints cls (fun p => decide (s.pointLevel p = l))
/-- The points whose record has never been written: they are BAD and of class 0 (R534). -/
def State.unwritten (s : State) (cls : Option Nat) : Nat :=
  match cls with
  | some (_ + 1) => 0
  | _ => 2 ^ 25 + 2 ^ 16 - s.listedPoints.length
def State.nBad (s : State) (cls : Option Nat) : Nat := s.countPoints cls (fun p => decide (s.pointQuality p = 3)) + s.unwritten cls
def State.nLatched (s : State) (cls : Option Nat) : Nat := s.countPoints cls s.pointLatched
def State.nForced (s : State) : Nat := s.countPoints none s.pointForced
def State.nSimScalar (s : State) : Nat := s.countPoints none (fun p => isScalar p && s.pointSimulated p)

/-- The class events (R262): alarm and bad where a class count has risen from 0. -/
def State.classEvents (s old : State) : State :=
  (List.range 16).foldl (fun s c =>
    let s := s.irqIf (decide (old.nLevel (some c) 2 = 0) && decide (s.nLevel (some c) 2 ≠ 0)) (P.PTECL c) 0
    s.irqIf (decide (old.nBad (some c) = 0) && decide (s.nBad (some c) ≠ 0)) (P.PTECL c) 1) s

/-- Every scalar point of a class is due: its page was committed or released (R234). -/
def State.classDue (s : State) (c : Nat) : State :=
  let ns := ((List.range 0xFF00).map (fun n => n + 0x100)).filter (fun n => decide (s.classOf (scalarPoint n) = c) && !s.pte.due.contains n)
  { s with pte := { s.pte with due := s.pte.due ++ ns } }

/-- PTE_CL_CTRL.release (R243): release every latched point of a class; the changes carry the instant of the release. -/
def State.classRelease (s : State) (c : Nat) : State :=
  let ps := s.listedPoints.filter (fun p => s.pointLatched p && decide (s.classOf p = c))
  let s := ps.foldl (fun s p =>
    let b := s.stateByte p
    let q := s.reportedQuality p
    let s := s.unlatch p
    s.queueChange (mkChange p (s.entryOf p) b (s.stateByte p) q q (s.pointForced p) (s.pointSimulated p) false s.now s.now)) s
  (s.squash 1 (fun p => decide (s.classOf p = c))).classDue c

/-! ### The point window (R257–R259) -/

/-- What a window write finds at an address of the storeroom: kind 0 a spectral record, 1 a scalar record, 2 a value entry; point;
start of the item; size. -/
def windowItem (a : Nat) : Nat × Nat × Nat × Nat :=
  if a < 0x44000000 then (0, (a - 0x08000000) / 16, a / 16 * 16, 16)
  else if a < 0x44200000 then (1, scalarPoint ((a - 0x44000000) / 32), a / 32 * 32, 32)
  else (2, scalarPoint ((a - 0x44200000) / 16), a / 16 * 16, 16)

/-- A byte of a list as a number. -/
def at8 (l : List Byte) (i : Nat) : Nat := (l.getD i 0#8).toNat

/-- The state byte that a window write stores (R246, R258): `fb` and `lb` are the positions of forced and latched, `m` the state bits,
`may` a force is permitted, `more` there is room for one. -/
def windowState (old w fb lb m : Nat) (may more : Bool) : Nat :=
  let was := old / 2 ^ fb % 2 = 1
  let want := w / 2 ^ fb % 2 = 1
  let f : Bool := decide want && (decide was || (may && more))
  let bits := if f && may then w % m else old % m
  let latched := if w / 2 ^ lb % 2 = 1 then old / 2 ^ lb % 2 else 0
  let rest := old - old % m - old / 2 ^ lb % 2 * 2 ^ lb - old / 2 ^ fb % 2 * 2 ^ fb
  rest + bits + latched * 2 ^ lb + (if f then 2 ^ fb else 0)

/-- What a window write stores in an item (Table 09-5): `old` its bytes, `w` with the written ones in place, `m` which were written. -/
def State.windowStored (s : State) (kind p : Nat) (old w : List Byte) (m : Nat → Bool) (may : Bool) : List Byte :=
  let room := decide (s.nForced < 1024)
  if kind = 0 then
    let b := windowState (at8 old 8) (at8 w 8) 5 2 4 may room
    let b := if b % 4 = 2 then b + 1 else b
    (w.take 4) ++ [if m 4 && decide (at8 w 4 = 0) then 1#8 else byte (at8 w 4)] ++ (w.drop 5).take 3 ++
      [byte (if m 8 then b else at8 old 8), byte (at8 old 9), if m 10 then byte (at8 w 10 % 16) else byte (at8 old 10),
       if m 11 then 0#8 else byte (at8 old 11)] ++ old.drop 12
  else if kind = 1 then
    let db := word (leNat ((w.drop 16).take 4))
    let db' : List Byte :=
      if !(m 16 || m 17 || m 18 || m 19) then (old.drop 16).take 4
      else if !b32Finite db then (old.drop 16).take 4
      else if b32Sign db && !b32IsZero db then leBytes 4 0
      else (w.drop 16).take 4
    let e := leNat ((w.drop 24).take 2)
    let e' := if (m 24 || m 25) && decide (16383 < e) then 0xFFFF else e
    let wasSim := at8 old 27 / 4 % 2 = 1
    let sim : Bool := decide (at8 w 27 / 4 % 2 = 1) && (decide wasSim || (may && decide (s.nSimScalar < 1024)))
    let q := if 0x100 ≤ scalarNo p ∨ sim then at8 w 27 % 4 else at8 old 27 % 4
    (w.take 16) ++ db' ++ (w.drop 20).take 4 ++ leBytes 2 e' ++
      [byte (if m 26 then windowState (at8 old 26) (at8 w 26) 7 4 16 may room else at8 old 26),
       byte (if m 27 then q + (if sim then 4 else 0) else at8 old 27)] ++ old.drop 28
  else if (m 0 || m 1 || m 2 || m 3) && (decide (0x100 ≤ scalarNo p) || s.pointSimulated p) then
    w.take 4 ++ [5#8, 0#8, 0#8, 0#8] ++ leBytes 8 s.now
  else old

/-- Report each bit stored differently from the value written, unless it was written with its present value, in `old` (R259). -/
def State.windowClamps (s : State) (p : Nat) (old w new : List Byte) (m : Nat → Bool) : State :=
  let mask (j : Nat) : Nat := (List.range 4).foldl (fun a i => if m (4 * j + i) then a + 255 * 256 ^ i else a) 0
  (List.range (new.length / 4)).foldl (fun s j =>
    let wv := leNat ((w.drop (4 * j)).take 4)
    let sv := leNat ((new.drop (4 * j)).take 4)
    let diff := (wv ^^^ sv) &&& (wv ^^^ leNat ((old.drop (4 * j)).take 4)) &&& mask j
    if diff = 0 then s
    else
      (List.range 32).foldl (fun s i => if diff / 2 ^ i % 2 = 1 then s.clampAt P.PTE 0xFFC i true wv sv else s)
        (s.setFv P.PTE R.PTE_WIN_LAST_point p)) s

/-- Simulation of a scalar point starts or ends (R247). -/
def State.simSwitch (s : State) (n : Nat) (on : Bool) (quality : Nat) : State :=
  if on then
    let s := { s with pte := { s.pte with shadow := SMap.insert s.pte.shadow n (s.snapScalar n) } }
    s.setQuality n quality s.now
  else
    let sh := (SMap.get? s.pte.shadow n).getD (s.snapScalar n)
    let s := { s with pte := { s.pte with shadow := SMap.erase s.pte.shadow n } }
    ((s.setQuality n sh.quality s.now).setValue n sh.value sh.source sh.stamp).dropRuns n

/-- What follows from a window write of a record: squash, latch, force, simulation, entry, change (R243, R246, R247, R249, R251,
R266). `old` is the state before it; `quality`: the write stores a scalar point's quality. -/
def State.windowFollows (s old : State) (p : Nat) (quality : Bool) : State :=
  let b0 := old.stateByte p
  let b1 := s.stateByte p
  let wrote := quality && isScalar p
  let q0 := old.reportedQuality p
  let q1 := if wrote then s.pointQuality p else q0
  let sim0 := old.pointSimulated p
  let sim1 := s.pointSimulated p
  let f0 := old.pointForced p
  let f1 := s.pointForced p
  let e0 := old.entryOf p
  let e1 := s.entryOf p
  let s := s.squashPoint (if f0 ≠ f1 ∨ sim0 ≠ sim1 then 0 else 2) p
  let n := scalarNo p
  let s :=
    if isScalar p then
      let s := if f0 && !f1 then s.dropRuns n else s
      let s := if wrote then s.dropReported p else s
      let s := if sim0 ≠ sim1 then s.simSwitch n sim1 (s.pointQuality p) else if wrote then s.setQuality n q1 s.now else s
      s.makeDue n
    else
      let add (l : List Nat) (c : Bool) : List Nat := if c && !l.contains p then l ++ [p] else l
      { s with pte := { s.pte with
        fresh := add s.pte.fresh (f0 && !f1)
        released := add s.pte.released (old.pointLatched p && !s.pointLatched p) } }
  let c := mkChange p e1 b0 b1 q0 q1 f1 sim1 false s.now s.now
  if b0 ≠ b1 ∨ q0 ≠ q1 ∨ f0 ≠ f1 ∨ sim0 ≠ sim1 then s.queueChange c
  else if e0 ≠ e1 then s.queueChange { c with moved := true }
  else s

/-- A window write of bytes within one item. -/
def State.windowOne (s : State) (kind p base start : Nat) (l : List Byte) (size : Nat) (may : Bool) : State :=
  let old := s.rdBytes base size
  let w := old.take start ++ l ++ old.drop (start + l.length)
  let m (i : Nat) : Bool := decide (start ≤ i) && decide (i < start + l.length)
  let new := s.windowStored kind p old w m may
  let whole := decide (kind = 2) && decide (new ≠ old)
  -- a field that is stored otherwise than written is stored whole (R258)
  let s1 := if whole then s.nodeWrite base new else (s.curePoison (base + start) l.length).wrBytes base new
  let s1 := s1.windowClamps p old w new m
  let quality := decide (kind = 1) && m 27 && (decide (0x100 ≤ scalarNo p) || s1.pointSimulated p)
  if kind = 2 then (if whole then s1.makeDue (scalarNo p) else s1) else s1.windowFollows s p quality

/-- A window write, item by item; `k` bounds the items. -/
def State.windowBytes (s : State) (may : Bool) : Nat → Nat → List Byte → State
  | _, _, [] => s
  | 0, _, _ :: _ => s
  | k + 1, a, b :: l =>
    let (kind, p, base, size) := windowItem a
    let n := base + size - a
    (s.windowOne kind p base (a - base) ((b :: l).take n) size may).windowBytes may k (a + n) ((b :: l).drop n)

/-- A port may write the point window (R215, R499, Table 21-5). -/
def State.windowOpen (s : State) (p : Port) : Bool :=
  decide (s.life ≠ 3) && (decide (p = .host) || (s.fb P.SEC R.SEC_CFG_td_en && (decide (s.life < 2) || decide (s.level p = 2))))

/-- The bytes at a storeroom address behind the window may be written: records or value entries, no poisoned word in part (R228, R257). -/
def State.windowMay (s : State) (a n : Nat) : Bool := !(decide (0x44000000 ≤ a) && decide (0x44300000 < a + n)) && !s.partPoison a n

/-- The runs of storeroom addresses under a burst of the window or the aperture: past its top it goes on at its bottom (R81). `base` is
the storeroom address of the bottom, `size` the size, `off` where the burst starts. -/
def burstRuns (base size : Nat) : Nat → Nat → List Byte → List (Nat × List Byte)
  | 0, off, l => [(base + off, l)]
  | k + 1, off, l => if off + l.length ≤ size then [(base + off, l)] else (base + off, l.take (size - off)) :: burstRuns base size k 0 (l.drop (size - off))

/-- A write frame of the point window takes effect (R258); none where it is refused. -/
def State.windowWrite (s : State) (p : Port) (base a : Nat) (l : List Byte) : Option State :=
  let runs := burstRuns base 0x400000 (l.length / 0x400000 + 1) (a - 0x400000) l
  if !(s.windowOpen p && runs.all (fun r => s.windowMay r.1 r.2.length)) then none
  else
    let s1 := runs.foldl (fun (s : State) r => s.windowBytes (s.maintains p) (r.2.length + 1) r.1 r.2) s
    some ((s1.classEvents s).safShow)

/-! ### Spectral simulation entries (R248) -/

/-- A write of PTE_SIM_PT: the selected entry takes the point and active, which is refused for a point active in another entry and
outside the states of Table 21-5. The stored active bit is the answer's second part. -/
def State.simWrite (s : State) (p : Port) (point : Nat) (active : Bool) : State × Bool :=
  let i := s.fv P.PTE R.PTE_SIM_SEL_entry
  let e := s.pte.sims.getD i SimEntry.reset
  let dup := (s.pte.sims.zipIdx).any (fun x => decide (x.2 ≠ i) && x.1.active && decide (x.1.point = point))
  let on := active && !dup && (e.active || s.maintains p)
  let s1 := { s with pte := { s.pte with sims := s.pte.sims.set i { e with point := point, active := on } } }
  let tell (s' : State) (q : Nat) : State :=
    let s' := s'.squashPoint 0 q
    if s.pointSimulated q = s'.pointSimulated q then s'
    else
      let b := s'.stateByte q
      s'.queueChange (mkChange q (s'.entryOf q) b b (s'.reportedQuality q) (s'.reportedQuality q) (s'.pointForced q) (s'.pointSimulated q) false s'.now s'.now)
  let s2 := if e.active then tell s1 e.point else s1
  let s2 := if on && !(e.active && decide (e.point = point)) then tell s2 point else s2
  (s2.safShow, on)

/-- A write of PTE_SIM_VAL: the selected entry's code. -/
def State.simValue (s : State) (code : Nat) : State :=
  let i := s.fv P.PTE R.PTE_SIM_SEL_entry
  let e := s.pte.sims.getD i SimEntry.reset
  let s := { s with pte := { s.pte with sims := s.pte.sims.set i { e with code := code } } }
  if e.active then s.squashPoint 0 e.point else s

/-- A write of PTE_CLR (Table 09-8). -/
def State.pteClr (s : State) : State :=
  let s := (s.setFv P.PTE R.PTE_SKIP_skip 0).setFv P.PTE R.PTE_SQUASH_CNT_squash 0
  let s := (s.setFv P.PTE R.PTE_SQUASH_WHY_seen 0).setReg (P.PTE + R.PTE_LATE_sweeps.off) 0#32
  (s.setFv P.PTE R.PTE_POISON_poison 0).setFv P.PTE R.PTE_SWEEP_LEN_max 0

end Sys2Proof.Machine
end

