-- ==== Sys2Proof/Machine/Dyn.lean ====
section
/-! DEFINITION. The dynamic channels and the tacho (chapter 06): samples and runs, faults and settling, the overall level, edges, what
commits change. -/

namespace Sys2Proof.Machine

open Sys2Proof

/-- IEPE and DC channels have an overall level (R177). -/
def State.dynLevels (s : State) (ch : Nat) : Bool := decide (s.dynMode ch = 1) || decide (s.dynMode ch = 2)
def State.dynLive (s : State) (ch : Nat) : Nat := s.fv (P.DYN ch) R.DYN_LIVE_live

/-- A channel's fresh state keeps what outlives its runs: the latest clipped sample (R166) and since when the level is HELD (R37) or
SETTLING (R177) too. -/
def DynCh.again (c : DynCh) : DynCh :=
  { DynCh.reset with lefts := c.lefts + 1, poweredAt := c.poweredAt, clipAt := c.clipAt, held := c.held, settlingFrom := c.settlingFrom }

/-- The window of the overall level begins anew (R177, R178): at a restart the filters too. -/
def DynCh.newWindow (c : DynCh) : DynCh :=
  { c with ovlOk := false, ovl := { c.ovl with n := 0, block := Ovl.reset.block, blocks := [] } }

/-! ### Quality (R177, R183, R184) -/

/-- The quality of the overall level. -/
def State.dynQuality (s : State) (ch : Nat) : Nat :=
  if !s.dynLevels ch ∨ s.dynLive ch ≠ 0 then 3
  else if (s.dch ch).held then 2
  else if (s.dch ch).ovlOk then 0 else 1

/-- Show the overall level's quality; becoming GOOD is an event, and SETTLING counts towards stale from here. -/
def State.dynShow (s : State) (ch : Nat) : State :=
  let q := s.dynQuality ch
  let old := s.fv (P.DYN ch) R.DYN_STAT_quality
  let s := (s.setFv (P.DYN ch) R.DYN_STAT_quality q).irqIf (decide (q = 0) && decide (old ≠ 0)) (P.DYN ch) 3
  let c := s.dch ch
  let from_ := if q = 1 then some (if old = 1 then c.settlingFrom.getD s.now else s.now) else none
  ((s.setDch ch { c with settlingFrom := from_ }).sourceQuality (0x20 + ch) q).planesFollow ch

/-- The quality of the speed point by the tacho's state (Table 06-7). -/
def State.speedQuality (s : State) (ch : Nat) : Nat :=
  if s.dynMode ch ≠ 3 then 3
  else if (s.dch ch).speedHeld then 2
  else [3, 1, 0, 3, 0].getD (s.fv (P.DYN ch) R.DYN_STAT_tstate) 3

def State.speedShow (s : State) (ch : Nat) : State := (s.sourceQuality (0x40 + ch) (s.speedQuality ch)).planesFollow ch

/-! ### Faults and settling (R179) -/

/-- The faults that mark samples inv (R173): all but tacho and stale. -/
def dynMarking : Nat := 0x3F

/-- A channel's settling time: t_bias in IEPE mode, 100 ms in DC and TACHO modes (R179). -/
def State.dynSettleTime (s : State) (ch : Nat) : Nat :=
  msecs (if s.dynMode ch = 1 then s.fv (P.DYN ch) R.DYN_BIAS_t_bias else 100)

/-- The channel settles from now. -/
def State.dynSettle (s : State) (ch : Nat) : State :=
  let s := s.setDch ch { (s.dch ch).newWindow with settleEnd := some (s.now + s.dynSettleTime ch) }
  s.setFv (P.DYN ch) R.DYN_STAT_settling 1

/-- Judge the faults of `mask`: `bits` hold now. -/
def State.dynFaults (s : State) (ch mask bits : Nat) : State :=
  let old := s.dynLive ch
  let new := (old - (old &&& mask)) ||| (bits &&& mask)
  let held := s.fv (P.DYN ch) R.DYN_FAULT_faults
  let s := (s.setFv (P.DYN ch) R.DYN_LIVE_live new).setFv (P.DYN ch) R.DYN_FAULT_faults (held ||| new)
  let fresh := decide ((held ||| new) ≠ held)
  let s := (s.irqIf fresh (P.DYN ch) 0).irqIf fresh P.DYNC 0
  let s := if new &&& dynMarking ≠ 0 then s.setDch ch (s.dch ch).newWindow else s
  if old &&& dynMarking ≠ 0 ∧ new &&& dynMarking = 0 then s.dynSettle ch else s

/-- The avdd fault stands until AVDD has been valid for the channel's settling time (R57); then the live faults may be clear and the channel
settles (R179). -/
def State.dynAvdd (s : State) (ch : Nat) : State :=
  if bitAt (s.dynLive ch) 5 && !s.avddLately (s.dynSettleTime ch) then s.dynFaults ch 0x20 0 else s

/-- A sample of the last second carried clip (R166). -/
def State.dynClipped (s : State) (ch : Nat) : Bool := (s.dch ch).clipAt.any (fun a => decide (s.now < a + secs 1))

/-- CHANNEL_SETTLED (R162, R179; R57 for AVDD): the settling time has passed. -/
def execChannelSettled (t : Nat) (ch : Fin 16) (s : State) : Host.Outcome State Fault Refusal :=
  let s := s.at t
  let b := P.DYN ch.val
  let s := if s.domainOn 4 && decide (s.dynMode ch.val ≠ 0) then (s.dynAvdd ch.val).dynShow ch.val else s
  match (s.dch ch.val).settleEnd with
  | some e =>
    if s.domainOn 4 && decide (e ≤ s.now) then
      if s.dynLive ch.val &&& dynMarking ≠ 0 then .next (s.dynShow ch.val)
      else .next (((s.setDch ch.val { (s.dch ch.val).newWindow with settleEnd := none }).setFv b R.DYN_STAT_settling 0).dynShow ch.val)
    else .next s
  | none => .next s

/-- BIAS_MONITOR (R162, Table 06-5): the DC voltage at DINP, VSX, and the current source at its compliance. -/
def execBiasMonitor (t : Nat) (ch : Fin 16) (volts vsx : Q) (compliance : Bool) (s : State) : Host.Outcome State Fault Refusal :=
  let s := s.at t
  let b := P.DYN ch.val
  let ok := Q.le (Q.ofNat 21) vsx
  if !s.domainOn 4 || decide (s.dynMode ch.val ≠ 1) then .next s
  else
    let s := (s.setFb P.DYNC R.DYN_COM_STAT_vsx_ok ok).setFv b R.DYN_BIAS_V_bias (toB32 volts).toNat
    let above := Q.lt (Q.frac (s.fv b R.DYN_BIAS_bias_hi) 10) volts
    let below := Q.lt volts (Q.frac (s.fv b R.DYN_BIAS_bias_lo) 10)
    .next ((s.dynFaults ch.val 0x13 ((if above then 1 else 0) + (if below then 2 else 0) + (if !ok || compliance then 16 else 0))).dynShow ch.val)

/-! ### Samples (R164–R166, R170–R173) -/

/-- The tacho leaves its state: what depends on its lock counts it (R205 row 4). -/
def DynCh.leaves (c : DynCh) (locked : Bool) : DynCh := if locked then { c with lefts := c.lefts + 1 } else c

/-- A new run begins with the next sample (R172): the tacho searches, the window of the overall level and the records restart. -/
def State.dynDisc (s : State) (ch : Nat) : State :=
  let locked := decide (s.fv (P.DYN ch) R.DYN_STAT_tstate = 2)
  let s := s.setDch ch { ((s.dch ch).newWindow).leaves locked with
    disc := true, ovl := Ovl.reset, latest := [], armed := true, found := [], edge := none, interval := none, good := 0, edgeDisc := true,
    recNext := 2 ^ 20 }
  if s.dynMode ch = 3 then
    let s := s.setFv (P.DYN ch) R.DYN_STAT_tstate 1
    (s.dynFaults ch 0x40 0).speedShow ch
  else s

/-- A +30 dB value below 80 % of its full scale of 316.2 mV (R164). -/
def below30 (v30 : Int) : Bool := decide ((v30.natAbs : Int) * 1000000 < 25296 * 2 ^ 27)

/-- A 0 dB value between 1 % and 90 % of the +30 dB full scale (R165). -/
def matchable (v0 : Int) : Bool := decide (3162 * 2 ^ 27 ≤ v0.natAbs * 10000000) && decide (v0.natAbs * 1000000 ≤ 28458 * 2 ^ 27)

/-- A sample of a channel whose rate is divided by 2^`div` takes part in the matching of the paths (R165). -/
def PathMatch.add (x : PathMatch) (div : Nat) (v0 v30 : Int) : PathMatch :=
  if !matchable v0 then x
  else { n := x.n + 1, span := x.span + 2 ^ div, s0 := x.s0 + v0, s30 := x.s30 + v30, s030 := x.s030 + v0 * v30, s3030 := x.s3030 + v30 * v30 }

/-- The gain and the offset that fit the +30 dB values to the 0 dB values best (R165); values that are all equal fix no offset, and the
gain is then the ratio of the means (DESIGN CHOICE, log 129). -/
def PathMatch.fit (x : PathMatch) : Q × Q :=
  let n : Int := (x.n : Nat)
  let spread := n * x.s3030 - x.s30 * x.s30
  let g := if spread = 0 then Q.make x.s0 x.s30.natAbs else Q.div (Q.ofInt (n * x.s030 - x.s0 * x.s30)) (Q.ofInt spread)
  let g := if spread = 0 ∧ x.s30 < 0 then Q.sub Q.zero g else g
  (g, Q.div (Q.sub (Q.ofInt x.s0) (Q.mul g (Q.ofInt x.s30))) (Q.ofInt n))

/-- The matched gain and offset of a sample (R165): after 2 s of matched samples within ±0.002 dB of the fit;
before that the gain is free within what DYN_GM holds. The spec bounds no error of the offset. -/
def PathMatch.correction (x : PathMatch) (gerr oerr : Q) : Q × Q :=
  let (g, o) := x.fit
  if 2 * 204800 ≤ x.span then (Q.mul g (dbGain (Q.clip (Q.make (-2) 1000) (Q.frac 2 1000) gerr)), Q.add o oerr)
  else (dbGain (Q.clip (Q.make (-32767) 10000) (Q.frac 32767 10000) gerr), oerr)

/-- A gain as DYN_GM shows it, in 0.0001 dB. -/
def gainCode (g : Q) : Int := bisect (fun k => decide (k ≤ 32767) && Q.le (dbGain (Q.make (2 * k - 1) 20000)) g) 16 (-32768)

/-- The code, the sample word and the path that follows (R164, Table 06-3); `v30` is the corrected +30 dB value, `low` the modulator's value
below 80 %. -/
def DynCh.merge (c : DynCh) (v0 v30 : Int) (low over30 clip inv : Bool) : Int × Nat × DynCh :=
  let take30 := !over30 && (c.on30 || decide (256 ≤ c.quiet))
  let quiet := if take30 || !low then 0 else c.quiet + 1
  let code := iclip (-(2 ^ 27)) (2 ^ 27 - 1) (if take30 then v30 else v0)
  let w := uext 28 code + (if take30 then 2 ^ 28 else 0) + (if clip then 2 ^ 29 else 0) + (if c.disc then 2 ^ 30 else 0) + (if inv then 2 ^ 31 else 0)
  (code, w, { c with on30 := take30, quiet := quiet, disc := false, count := if c.disc then 1 else c.count + 1 })

/-- One second-order section of a filter: its coefficients, its latest inputs and outputs, the next input. -/
def biquad (k d : List Int) (x : Int) : Int × List Int :=
  let g (l : List Int) (i : Nat) : Int := l.getD i 0
  let y := Int.fdiv (g k 0 * x + g k 1 * g d 0 + g k 2 * g d 1 - g k 3 * g d 2 - g k 4 * g d 3) (2 ^ 30)
  (y, [x, g d 0, y, g d 2])

/-- DYN_UNIT converts acceleration to mm/s: one integration (R175). -/
def State.dynInteg (s : State) (ch : Nat) : Bool :=
  decide (s.fv (P.DYN ch) R.DYN_UNIT_sens ≤ 1) && decide (s.fv (P.DYN ch) R.DYN_UNIT_eu = 2)

/-- Engineering units per V of a channel, per second where the pair integrates (R175). -/
def State.dynGain (s : State) (ch : Nat) : Q :=
  let b := P.DYN ch
  let g := Q.frac 980665 100000
  let u := match s.fv b R.DYN_UNIT_sens, s.fv b R.DYN_UNIT_eu with
    | 0, 1 => g
    | 0, 2 => Q.mul g (Q.ofNat 1000)
    | 1, 0 => Q.div Q.one g
    | 1, 2 => Q.ofNat 1000
    | _, _ => Q.one
  Q.div u (ofB32 (s.fw b R.DYN_SENS_sens))

/-- A sample through the integration and the four filter sections of the overall level (R176), in steps of 2^-20 of a code; with f_lo = 0
there is no high-pass. -/
def State.ovlFilter (s : State) (ch : Nat) (o : Ovl) (code : Int) : Int × Ovl :=
  let b := P.DYN ch
  let lo := s.fv b R.DYN_OVL_F_f_lo
  let hi := s.fv b R.DYN_OVL_F_f_hi
  let div := s.fv b R.DYN_MODE_div
  let x := code * 2 ^ 20
  let o := { o with integral := if s.dynInteg ch then o.integral + x else x }
  let steps : List (List Int) := if lo = 0 then [] else [Config.ovlSection true lo div 0, Config.ovlSection true lo div 1]
  let steps := steps ++ [Config.ovlSection false hi div 0, Config.ovlSection false hi div 1]
  let r := (steps.zip (o.delays.drop (4 - steps.length))).foldl (fun (acc : Int × List (List Int)) kd =>
    let y := biquad kd.1 kd.2 acc.1
    (y.1, acc.2 ++ [y.2])) (o.integral, [])
  (r.1, { o with delays := o.delays.take (4 - steps.length) ++ r.2 })

/-- The blocks of 10 ms grow by a filtered sample, `per` samples to a block. -/
def Ovl.grow (o : Ovl) (per : Nat) (y : Int) : Ovl :=
  let k : OvlBlock :=
    if o.n = 0 then { sum := y * y, top := y, bot := y } else { sum := o.block.sum + y * y, top := max o.block.top y, bot := min o.block.bot y }
  if o.n + 1 < per then { o with n := o.n + 1, block := k } else { o with n := 0, blocks := (k :: o.blocks).take 4095, since := o.since + 1 }

/-- A sample of an IEPE or DC channel in the window of its overall level (R176, R177): a disc or inv sample empties it. -/
def State.levelSample (s : State) (ch : Nat) (code : Int) (disc inv : Bool) : State :=
  if !s.dynLevels ch then s
  else
    let c := s.dch ch
    let (y, o) := s.ovlFilter ch c.ovl code
    let c := { c with ovl := o }
    if disc || inv then s.setDch ch c.newWindow
    else s.setDch ch { c with ovl := o.grow (2048 / 2 ^ s.fv (P.DYN ch) R.DYN_MODE_div) y }

/-- A sample of a TACHO channel (R180): the crossing between the second and the third of the latest four samples is an edge, and the
signal that has passed back beyond the level by hyst makes the next one count. A crossing that has no four samples of the run around it
does not count (log 85). -/
def State.edgeSample (s : State) (ch : Nat) (code : Int) : State :=
  if s.dynMode ch ≠ 3 then s
  else
    let b := P.DYN ch
    let c := s.dch ch
    let level := sext 16 (s.fv b R.DYN_TACH_level) * 2 ^ 27
    let hyst : Int := ((s.fv b R.DYN_TACH_hyst * 10 : Nat) : Int) * 2 ^ 27
    let rising := decide (s.fv b R.DYN_TACH_pol = 0)
    -- in steps of 10^-4 of a code
    let at_ (v : Int) : Int := v * 10000
    match c.latest with
    | x2 :: x1 :: x0 :: _ =>
      let passed := if rising then decide (at_ x1 < level) && decide (level ≤ at_ x2) else decide (level < at_ x1) && decide (at_ x2 ≤ level)
      let period := s.samplePeriod ch
      let start := Q.add (Q.ofNat (s.stamp b R.DYN_RUN_T_LO_t R.DYN_RUN_T_HI_t * 16)) (Q.mul (Q.ofNat (c.count - 3)) period)
      let found := if passed && c.armed then [crossing rising x0 x1 x2 code (Q.make level 10000) start period] else []
      let back := if rising then decide (at_ x2 ≤ level - hyst) else decide (level + hyst ≤ at_ x2)
      s.setDch ch { c with latest := [code, x2, x1], found := c.found ++ found, armed := back || (c.armed && !passed) }
    | l => s.setDch ch { c with latest := code :: l }

/-- The sample word `w` enters the channel's ring (R170, R171); after a discontinuity it starts a run, from which the ZOOM stream starts anew too (R172,
R198); `x` is the channel after the sample. -/
def State.storeSample (s : State) (ch : Nat) (disc : Bool) (x : DynCh) (w : Nat) : State :=
  let b := P.DYN ch
  let i := s.fv b R.DYN_WIDX_widx
  let s := if disc then (s.setFv b R.DYN_RUN_IDX_run_idx i).setStamp b R.DYN_RUN_T_LO_t R.DYN_RUN_T_HI_t s.now else s
  let s := s.setDch ch x
  let s := if disc then s.setPlane (4 * ch + 3) ((s.plane (4 * ch + 3)).streamFrom 1 0) else s
  let s := s.nodeWriteLe (ringAt ch + i % 2 ^ 20 * 4) 4 w
  (s.wrapInc b R.DYN_WIDX_widx 1).setFb b R.DYN_STAT_hg (decide (w / 2 ^ 28 % 2 = 1))

/-- What a sample says of the channel's faults (R166, R167): `clip` within the last second, and the common mode `cm`. -/
def State.judgeSample (s : State) (ch : Nat) (clip cm : Bool) : State :=
  let b := P.DYN ch
  let mode := s.dynMode ch
  let s := if clip then (s.setDch ch { s.dch ch with clipAt := some s.now }).satInc b R.DYN_CLIPS_clips 1 else s
  let s := s.dynAvdd ch
  s.dynFaults ch (if mode = 1 then 8 else if mode = 2 then 12 else 4) ((if cm then 4 else 0) + (if s.dynClipped ch then 8 else 0))

/-- The two modulators' values are matched and merged (R164, R165), and the sample goes to the ring, the overall level, the tacho and the
ZOOM stream. The samples of a channel under link test 8 carry inv. -/
def State.mergeSample (s : State) (ch : Nat) (v0 v30 : Int) (gerr oerr : Q) (over30 clip : Bool) : State :=
  let b := P.DYN ch
  let c := s.dch ch
  let inv := decide (s.dynLive ch &&& dynMarking ≠ 0) || s.fb b R.DYN_STAT_settling || c.ovlEnd.any (fun e => decide (s.now < e)) ||
    s.linkOn 8 ch
  let paths := c.paths.add (s.fv b R.DYN_MODE_div) v0 v30
  let k := paths.correction gerr oerr
  let r := c.merge v0 (Q.round (Q.add (Q.mul (Q.ofInt v30) k.1) k.2)) (below30 v30) over30 clip inv
  let s := (s.storeSample ch c.disc { r.2.2 with paths := paths } r.2.1).setFv b R.DYN_GM_gm (uext 16 (gainCode k.1))
  (((s.levelSample ch r.1 c.disc inv).edgeSample ch r.1).zoomSample ch).dynShow ch

/-- DYN_SAMPLE (R164, R165, R170): `v0` and `v30` are the values of the two modulators in the steps of Table 06-3, the latter before it is
matched; `gerr` and `oerr` what R165 leaves open of the match, in dB and in steps; `cm`: DINP or DINN outside its window. -/
def execDynSample (t : Nat) (ch : Fin 16) (v0 v30 : Int) (gerr oerr : Q) (over30 clip cm : Bool) (s : State) : Host.Outcome State Fault Refusal :=
  let s := s.at t
  .next (if !s.domainOn 4 || decide (s.dynMode ch.val = 0) then s
    else (s.judgeSample ch.val clip cm).mergeSample ch.val v0 v30 gerr oerr over30 clip)

/-! ### Overall level (R176–R178) -/

/-- The value of a window of blocks in steps of a code (Table 06-9): rms, largest magnitude or peak-to-peak. -/
def ovlValue (kind per : Nat) (l : List OvlBlock) : Q :=
  let top := (l.map (fun k => k.top)).foldl max 0
  let bot := (l.map (fun k => k.bot)).foldl min 0
  match kind with
  | 0 => Q.mul (rootQ (Q.make (l.map (fun k => k.sum)).sum (per * l.length))) (Q.frac 1 (2 ^ 20))
  | 1 => Q.make (max top (-bot)) (2 ^ 20)
  | _ =>
    -- extremes of the samples alone, also where all lie on one side of 0
    let hi := (l.map (fun k => k.top)).foldl max ((l.map (fun k => k.top)).headD 0)
    let lo := (l.map (fun k => k.bot)).foldl min ((l.map (fun k => k.bot)).headD 0)
    Q.make (hi - lo) (2 ^ 20)

/-- The overall level over the latest t_win of samples, in the engineering unit (R175, R176). -/
def State.overall (s : State) (ch : Nat) : Q :=
  let b := P.DYN ch
  let div := s.fv b R.DYN_MODE_div
  let v := ovlValue (s.fv b R.DYN_OVL_kind) (2048 / 2 ^ div) ((s.dch ch).ovl.blocks.take (s.fv b R.DYN_OVL_t_win))
  let v := Q.mul (Q.mul v (Q.frac 10 (2 ^ 27))) (s.dynGain ch)
  if s.dynInteg ch then Q.mul v (Q.frac (2 ^ div) 204800) else v

/-- OVERALL_LEVEL (R176): every t_upd, one value over the latest window. A window that is not yet full of samples without disc and inv
leaves the value (R177). -/
def execOverallLevel (t : Nat) (ch : Fin 16) (s : State) : Host.Outcome State Fault Refusal :=
  let s := s.at t
  let b := P.DYN ch.val
  let c := s.dch ch.val
  if !s.domainOn 4 || !s.dynLevels ch.val || decide (c.ovl.since < s.fv b R.DYN_OVL_t_upd) then .next s
  else
    let s := s.setDch ch.val { c with ovl := { c.ovl with since := 0 } }
    let ok := decide (s.fv b R.DYN_OVL_t_win ≤ c.ovl.blocks.length) && !s.fb b R.DYN_STAT_settling && decide (s.dynLive ch.val &&& 0x7F = 0)
    if !ok then .next ((s.setDch ch.val { s.dch ch.val with ovlOk := false }).dynShow ch.val)
    else
      let v := toB32 (s.overall ch.val)
      let s := s.setDch ch.val { s.dch ch.val with ovlOk := true, held := false }
      let s := (s.dynFaults ch.val 0x80 0).setFv b R.DYN_OVL_V_ovl v.toNat
      .next ((s.sourceWrite (0x20 + ch.val) v (s.dynQuality ch.val) 2 s.now).dynShow ch.val)

/-- OVERALL_STALE (R177): SETTLING for DYN_OVL_STALE.tol. -/
def execOverallStale (t : Nat) (ch : Fin 16) (s : State) : Host.Outcome State Fault Refusal :=
  let s := s.at t
  match (s.dch ch.val).settlingFrom with
  | some a =>
    if s.domainOn 4 && decide (s.dynQuality ch.val = 1) && decide (a + msecs (s.fv (P.DYN ch.val) R.DYN_OVL_STALE_tol) ≤ s.now) then
      .next ((s.dynFaults ch.val 0x80 0x80).dynShow ch.val)
    else .next s
  | none => .next s

/-! ### Tacho (R180–R184) -/

/-- The tacho enters a state (Table 06-7). -/
def State.tachoEnter (s : State) (ch st : Nat) : State :=
  let b := P.DYN ch
  let was := s.fv b R.DYN_STAT_tstate
  let s := s.setFv b R.DYN_STAT_tstate st
  let s := if st = 2 ∨ st = 3 then s.setDch ch { s.dch ch with speedHeld := false } else s
  let s := s.setDch ch ((s.dch ch).leaves (decide (was = 2) && decide (st ≠ 2)))
  let s := (s.irqIf (decide (st = 2) && decide (was ≠ 2)) b 1).irqIf (decide (st = 3) && decide (was ≠ 3)) b 2
  (s.dynFaults ch 0x40 (if st = 3 then 0x40 else 0)).speedShow ch

/-- Two intervals agree within ± tol % of the earlier (R183). -/
def withinTol (tol prev i : Nat) : Bool := decide (((i : Int) - prev).natAbs * 100 ≤ tol * prev)

/-- The state after an interval (Table 06-7): `ok` within tolerance of the one before, `good` intervals so in succession. State 3 ends
with its first new edge, state 4 only with an interval that is in range and within tolerance. -/
def tachoNext (st good : Nat) (ok inRange : Bool) : Nat :=
  if st = 2 then (if !ok then 3 else if inRange then 2 else 4)
  else if st = 4 then (if ok && inRange then 2 else 4)
  else if st = 3 then 1
  else if 4 ≤ good && inRange then 2 else 1

/-- An edge that closes an interval: the speed is renewed, the state follows (R183, R184). A point still HELD keeps its last value until
state 2 or 3 (R37). -/
def State.tachoInterval (s : State) (ch e i : Nat) : State :=
  let b := P.DYN ch
  let c := s.dch ch
  let ok := match c.interval with | some p => withinTol (s.fv b R.DYN_TACH_PPR_tol) p i | none => false
  let good := if ok then c.good + 1 else 1
  let rpm := Q.make (60 * 2 ^ 28) (i * s.fv b R.DYN_TACH_PPR_ppr)
  let inRange := Q.le (Q.frac (s.fv b R.DYN_TACH_RPM_rpm_min) 10) rpm && Q.le rpm (Q.ofNat (s.fv b R.DYN_TACH_RPM_rpm_max))
  let st := tachoNext (s.fv b R.DYN_STAT_tstate) good ok inRange
  let s := s.setDch ch { c with edge := some e, interval := some i, good := good }
  let s := (s.tachoEnter ch st).setFv b R.DYN_SPEED_rpm (toB32 rpm).toNat
  if (s.dch ch).speedHeld then s else s.sourceWrite (0x40 + ch) (toB32 rpm) (s.speedQuality ch) 3 (e / 16)

/-- The deadline of a locked tacho lies before `e` (R183). -/
def State.deadlinePassed (s : State) (ch e : Nat) : Bool :=
  decide (s.fv (P.DYN ch) R.DYN_STAT_tstate = 2) &&
    (match (s.dch ch).edge, (s.dch ch).interval with
     | some p, some i => decide (p + 2 * i < e)
     | _, _ => false)

/-- The deadline has passed without an edge: the tacho is lost. -/
def State.tachoLost (s : State) (ch : Nat) : State := (s.setDch ch { s.dch ch with good := 0 }).tachoEnter ch 3

/-- An edge of count `n` stamped in tstate 2, before it and after it, lengthens the latest stretch of such edges (R196; log 86). -/
def DynCh.lockedEdge (c : DynCh) (n : Nat) (locked : Bool) : DynCh :=
  if !locked then c
  else match c.locks with
    | (f, k) :: l => if (f + k) % 2 ^ 32 = n then { c with locks := (f, k + 1) :: l } else { c with locks := (n, 1) :: (f, k) :: l }
    | [] => { c with locks := [(n, 1)] }

/-- TACHO_EDGE (R180, R182, R183): the node records the earliest edge found in the samples, and the tacho follows. -/
def execTachoEdge (t : Nat) (ch : Fin 16) (s : State) : Host.Outcome State Fault Refusal :=
  let s := s.at t
  let b := P.DYN ch.val
  let c := s.dch ch.val
  match c.found with
  | [] => .next s
  | e :: rest =>
    if !s.domainOn 4 || decide (s.dynMode ch.val ≠ 3) then .next s
    else
      let n := s.fv b R.DYN_EIDX_eidx
      let flags := e % 16 + s.fv b R.DYN_TACH_pol * 16 + (if c.edgeDisc then 32 else 0)
      let s := s.nodeWrite (0x00400000 + ch.val * 0x80000 + n % 32768 * 16) (leBytes 8 (e / 16) ++ [byte flags, 0#8, 0#8, 0#8] ++ leBytes 4 n)
      let s := (s.wrapInc b R.DYN_EIDX_eidx 1).setDch ch.val { c with found := rest, edgeDisc := false }
      let s := if s.deadlinePassed ch.val e then s.tachoLost ch.val else s
      let was := s.fv b R.DYN_STAT_tstate
      let s := match c.edge with
        | some p => s.tachoInterval ch.val e (e - p)
        | none => s.setDch ch.val { s.dch ch.val with edge := some e }
      .next (s.setDch ch.val ((s.dch ch.val).lockedEdge n (decide (was = 2) && decide (s.fv b R.DYN_STAT_tstate = 2))))

/-- TACHO_DEADLINE (R183): locked, and no edge by twice the latest interval. An edge stamped by then and still to be recorded arrives in
time. -/
def execTachoDeadline (t : Nat) (ch : Fin 16) (s : State) : Host.Outcome State Fault Refusal :=
  let s := s.at t
  let e := Nat.min (s.now * 16) ((s.dch ch.val).found.headD (s.now * 16))
  .next (if s.domainOn 4 && decide (s.dynMode ch.val = 3) && s.deadlinePassed ch.val e then s.tachoLost ch.val else s)

/-! ### Power and commits (R28, R37, R57, R162, R172, R178) -/

/-- An OFF or TACHO channel's overall level, and the speed of a channel not in TACHO mode, hold 0.0 with BAD (R177, Table 06-7). -/
def State.dynIdlePoints (s : State) (ch : Nat) : State :=
  let s := if s.dynLevels ch then s.dynShow ch else (s.sourceWrite (0x20 + ch) 0#32 3 2 s.now).dynShow ch
  if s.dynMode ch = 3 then s.speedShow ch else s.sourceWrite (0x40 + ch) 0#32 3 3 s.now

/-- A channel begins to be judged: what the node already knows of it is live at once, avdd (R57) and clip (R166). -/
def State.dynEnters (s : State) (ch : Nat) : State :=
  let avdd := decide (s.dynMode ch ≠ 0) && s.avddLately (s.dynSettleTime ch)
  let clip := s.dynLevels ch && s.dynClipped ch
  if avdd || clip then s.dynFaults ch 0x28 ((if avdd then 0x20 else 0) + (if clip then 8 else 0)) else s

/-- The DYN domain is powered: runs begin (R172). The levels stay HELD until their first value where `held` (R37: after a start-up or a
wake), the speeds until the first lock or loss where `speed` (R184). -/
def State.dynPowered (s : State) (held speed : Bool) : State :=
  let s := s.lapse (fun k _ => decide (k = .dyn) || decide (k = .dynCh))
  let s := s.setFb P.DYNC R.DYN_COM_STAT_avdd_ok s.pwr.avddOk
  (List.range 16).foldl (fun (s : State) ch =>
    let m := s.dynMode ch
    let s := s.setDch ch { (s.dch ch).again with
      held := held && s.dynLevels ch, speedHeld := speed && decide (m = 3), poweredAt := s.now, settlingFrom := none }
    let s := if m = 3 then s.setFv (P.DYN ch) R.DYN_STAT_tstate 1 else s
    let s := if m = 1 then s.dynSettle ch else s
    let s := s.dynEnters ch
    s.dynIdlePoints ch) s

/-- The DYN domain loses power: every level and speed point keeps its last value with HELD (R28, R184). -/
def State.dynStopped (s : State) : State :=
  (List.range 16).foldl (fun (s : State) ch =>
    let c := s.dch ch
    let s := s.setDch ch { c with held := true, speedHeld := true, settleEnd := none, settlingFrom := none }
    (s.sourceQuality (0x20 + ch) 2).sourceQuality (0x40 + ch) 2) s

/-- In RUN no channel is in use: every point as its channel's mode says. -/
def State.dynOff (s : State) : State := (List.range 16).foldl (fun (s : State) ch => s.dynIdlePoints ch) s.dynStopped

/-- AVDD falls (R57): the avdd fault on every channel that is not OFF. -/
def State.dynAvddLost (s : State) : State :=
  if !s.domainOn 4 then s
  else
    let s := (s.setFb P.DYNC R.DYN_COM_STAT_avdd_ok false).irq P.DYNC 1
    ((List.range 16).filter (fun ch => decide (s.dynMode ch ≠ 0))).foldl (fun (s : State) ch => (s.dynFaults ch 0x20 0x20).dynShow ch) s

/-- AVDD is valid again (R57, R172): new runs; the fault stands for the channel's settling time, and the channel settles after it (R179). -/
def State.dynAvddBack (s : State) : State :=
  if !s.domainOn 4 then s
  else
    ((List.range 16).filter (fun ch => decide (s.dynMode ch ≠ 0))).foldl
      (fun (s : State) ch => (s.dynDisc ch).dynShow ch) (s.setFb P.DYNC R.DYN_COM_STAT_avdd_ok true)

/-- What a commit of a channel page stores (Table 06-9). -/
def dynFixes (s : State) (b : Nat) (c : Cand) : List (Field × Nat) :=
  let mode := c.fv s b R.DYN_MODE_mode
  let div := if mode = 3 then 0 else c.fv s b R.DYN_MODE_div
  let sens := c.fv s b R.DYN_UNIT_sens
  let eu := c.fv s b R.DYN_UNIT_eu
  let eu' := if sens ≤ 1 then (if eu ≤ 2 then eu else sens) else sens
  let integ := decide (sens ≤ 1) && decide (eu' = 2)
  let hi := nclip 30 250 (c.fv s b R.DYN_BIAS_bias_hi)
  let fhi := nclip 1 (40960 / 2 ^ div) (c.fv s b R.DYN_OVL_F_f_hi)
  let flo := c.fv s b R.DYN_OVL_F_f_lo
  let flo' := if integ then nclip 10 (fhi * 20) flo else if flo ≤ 2 then 0 else nclip 5 (fhi * 20) flo
  let upd := nclip 1 255 (c.fv s b R.DYN_OVL_t_upd)
  let rmin := nclip 1 65535 (c.fv s b R.DYN_TACH_RPM_rpm_min)
  [(R.DYN_MODE_div, div), (R.DYN_UNIT_eu, eu'), (R.DYN_BIAS_bias_lo, nclip 5 (hi - 10) (c.fv s b R.DYN_BIAS_bias_lo)),
   (R.DYN_OVL_t_win, nclip upd 4095 (c.fv s b R.DYN_OVL_t_win)), (R.DYN_OVL_F_f_lo, flo'), (R.DYN_OVL_F_f_hi, fhi),
   (R.DYN_TACH_RPM_rpm_max, Nat.max (rmin / 10 + 1) (c.fv s b R.DYN_TACH_RPM_rpm_max))]

/-- After a commit of a channel page while the domain stays powered. A changed DYN_OVL or DYN_OVL_F restarts the window (R178); until it
is full samples carry inv (R173). A change of iepe_ma alone settles the channel as switching the current on does (R162): DESIGN CHOICE (log
129). -/
def State.dynChCommitted (s old : State) (ch : Nat) : State :=
  let b := P.DYN ch
  let changed (f : Field) : Bool := decide (s.fv b f ≠ old.fv b f)
  let newMode := changed R.DYN_MODE_mode
  let marked := decide (s.dynLive ch &&& dynMarking ≠ 0) || s.fb b R.DYN_STAT_settling
  let levels := s.dynLevels ch && old.dynLevels ch
  let s := if newMode then
      (let s := s.setFv b R.DYN_LIVE_live (if s.dynMode ch = 0 then 0 else s.dynLive ch &&& 0x20)
       let s := s.setFv b R.DYN_STAT_tstate (if s.dynMode ch = 3 then 1 else 0)
       let s := s.setFv b R.DYN_STAT_settling 0
       let c := s.dch ch
       let s := s.setDch ch { c.again with held := c.held && levels, settlingFrom := if levels then c.settlingFrom else none }
       s.dynEnters ch)
    else s
  let current := decide (s.dynMode ch = 1) && (newMode || changed R.DYN_MODE_iepe_ma)
  let s := if newMode || changed R.DYN_MODE_iepe_ma || changed R.DYN_MODE_div || changed R.DYN_SENS_sens then s.dynDisc ch else s
  -- R179: faults that end with the old mode settle
  let s := if current || (newMode && marked && decide (s.dynMode ch ≠ 0)) then s.dynSettle ch else s
  let ovl := changed R.DYN_OVL_kind || changed R.DYN_OVL_t_upd || changed R.DYN_OVL_t_win || changed R.DYN_OVL_F_f_lo || changed R.DYN_OVL_F_f_hi
  -- samples filtered without the integration are no part of a window with it, nor the reverse (DESIGN CHOICE, log 129)
  let s := if s.dynInteg ch ≠ old.dynInteg ch then s.setDch ch { (s.dch ch).newWindow with ovl := Ovl.reset } else s
  let s := if ovl then
      s.setDch ch { (s.dch ch).newWindow with ovl := Ovl.reset, ovlEnd := some (s.now + msecs (10 * s.fv b R.DYN_OVL_t_win)) }
    else s
  s.dynIdlePoints ch

/-- After a commit of a channel page (R91, R533). -/
def State.dynCommitted (s old : State) (ch : Nat) : State :=
  if s.domainOn 4 then (if old.domainOn 4 then s.dynChCommitted old ch else s.dynPowered false false)
  else if old.domainOn 4 then s.dynOff
  else s

end Sys2Proof.Machine
end

