-- ==== Sys2Proof/Machine/Spx.lean ====
section
/-! DEFINITION. The spectral engine (chapter 07): record ends, averaging, commits of planes, baselines and limits, what commits of its
pages change. -/

namespace Sys2Proof.Machine

open Sys2Proof

/-! ### Configuration shown (R186) -/

/-- FIRST, LAST, DF and F0 of a plane page. -/
def State.planeCfgShow (s : State) (i : Nat) : State :=
  let b := P.SPX i
  let (first, last) := s.planeLive i
  let (df, f0) := s.planeScale i
  (((s.setFv b R.SPX_PL_FIRST_first first).setFv b R.SPX_PL_LAST_last last).setFv b R.SPX_PL_DF_df (toB32 df).toNat).setFv b
    R.SPX_PL_F0_f0 (toB32 f0).toNat

/-- A build is dropped (R188, R198, R202). -/
def State.planeDrop (s : State) (i : Nat) : State := (s.satInc (P.SPX i) R.SPX_PL_DROP_drop 1).irq (P.SPX i) 2

/-! ### Hot rate (R189) -/

/-- hot_rate follows scalar 0x0034; the commit intervals of the planes follow it (R191). -/
def State.hotRate (s : State) : State :=
  let was := s.fb P.SPXC R.SPX_STAT_hot_rate
  let temp := ofB32 (s.value 0x34)
  let now :=
    if !s.fb P.SPXC R.SPX_HOT_en || !s.domainOn 5 then false
    else if Q.lt (Q.ofNat (s.fv P.SPXC R.SPX_HOT_t_on)) temp then true
    else if Q.lt temp (Q.ofNat (s.fv P.SPXC R.SPX_HOT_t_off)) then false
    else was
  if now = was then s else ((s.setFb P.SPXC R.SPX_STAT_hot_rate now).irq P.SPXC 1).allPlanesShow

/-! ### Records (R188, R196–R198, R210) -/

/-- The tacho channel of an ORDER plane. -/
def State.orderTacho (s : State) (i : Nat) : Nat := s.fv (P.SPX i) R.SPX_PL_P0_ORD_tch

/-- The stamp of an edge in its channel's ring (Table 06-6), in 2^-28 s. -/
def State.edgeStamp (s : State) (ch n : Nat) : Nat :=
  let a := 0x00400000 + ch * 0x80000 + n % 32768 * 16
  s.rdLe a 8 * 16 + s.rdLe (a + 8) 1 % 16

/-- The instant of the first sample of the DIRECT record that ends with the run's latest sample, in 2^-28 s. -/
def State.recordStart (s : State) (ch : Nat) : Q :=
  Q.add (Q.ofNat (s.stamp (P.DYN ch) R.DYN_RUN_T_LO_t R.DYN_RUN_T_HI_t * 16)) (Q.mul (Q.ofNat ((s.dch ch).count - 2 ^ 20)) (s.samplePeriod ch))

/-- The stamps of the span of an ORDER record (R196): the latest 2^b whole revolutions with 4,096 samples of the record before the first and
after the last edge, all edges stamped in tstate 2. The edges are those that the channel's ring still holds (log 130). -/
def State.orderSpan (s : State) (i : Nat) : Option (List Nat) :=
  let tch := s.orderTacho i
  let ppr := s.fv (P.DYN tch) R.DYN_TACH_PPR_ppr
  let k := ppr * 2 ^ s.fv (P.SPX i) R.SPX_PL_P0_ORD_b
  let first := s.recordStart (planeCh i)
  let at_ (n : Nat) : Q := Q.add first (Q.mul (Q.ofNat n) (s.samplePeriod (planeCh i)))
  let eidx := s.fv (P.DYN tch) R.DYN_EIDX_eidx
  -- the counts of the last edges, latest first
  let ends := (s.dch tch).locks.flatMap (fun x => ((List.range (x.2 - k)).map (fun j => (x.1 + k + j) % 2 ^ 32)).reverse)
  let ok (n : Nat) : Bool :=
    let n0 := (n + 2 ^ 32 - k) % 2 ^ 32
    decide (n % ppr = 0) && decide (n0 % ppr = 0) && decide ((eidx + 2 ^ 32 - n0) % 2 ^ 32 ≤ 32768) &&
      !s.anyPoison (0x00400000 + tch * 0x80000) 0x80000 &&
      Q.lt (at_ 4095) (Q.ofNat (s.edgeStamp tch n0)) && Q.lt (Q.ofNat (s.edgeStamp tch n)) (at_ (2 ^ 20 - 4096))
  match ends.find? ok with
  | none => none
  | some n => some ((List.range (k + 1)).map (fun j => s.edgeStamp tch ((n + 2 ^ 32 - k + j) % 2 ^ 32)))

/-- The mean speed of a span of 2^b revolutions, in rpm. -/
def spanSpeed (b : Nat) (edges : List Nat) : Q := Q.make (60 * 2 ^ b * 2 ^ 28) (edges.getLastD 0 - edges.headD 0)

/-- A build of plane `i` begins with the record `input` under the configuration of this instant (R204); `stamp` is what its commit stores,
`rpm` the mean speed of an ORDER record. -/
def State.beginBuild (s : State) (i stamp : Nat) (rpm : Q) (input : SpxInput) : State :=
  let b := P.SPX i
  let ch := planeCh i
  let x := s.plane i
  let (first, last) := s.planeLive i
  let (df, f0) := s.planeScale i
  let size := match planeKind i with
    | 2 => 2 ^ (s.fv b R.SPX_PL_P0_ORD_b + s.fv b R.SPX_PL_P0_ORD_s)
    | 3 => 2 ^ 18
    | _ => 2 ^ 20
  let w : SpxBuild :=
    { stamp := stamp, begun := s.now, cfg := s.fv b { R.SPX_PL_CFG_en with width := 10 }, first := first, last := last, size := size,
      df := if planeKind i = 2 then Q.mul df (Q.mul rpm (Q.frac 1 60)) else df, f0 := f0, hot := s.fb P.SPXC R.SPX_STAT_hot_rate, rpm := rpm,
      gain := s.dynGain ch, integ := s.dynInteg ch, restarts := x.restarts,
      run := s.stamp (P.DYN ch) R.DYN_RUN_T_LO_t R.DYN_RUN_T_HI_t, tch := s.orderTacho i, lefts := (s.dch (s.orderTacho i)).lefts, input := input }
  s.setPlane i { x with work := some w }

/-- The tacho of an ORDER plane provides the shaft angle: it is locked (R25, R184). -/
def State.tachoLocked (s : State) (ch : Nat) : Bool := decide (s.fv (P.DYN ch) R.DYN_STAT_tstate = 2)

/-- Begin the build of a DIRECT, ENVELOPE or ORDER plane from the record of `words` that ends now. -/
def State.recordBuild (s : State) (i : Nat) (words : List (Nat × Nat)) : State :=
  let b := P.SPX i
  let ch := planeCh i
  let l := codesOf words
  let stamp := s.sampleStamp ch ((s.dch ch).count - 1)
  match planeKind i with
  | 0 => s.beginBuild i stamp Q.zero (.direct l)
  | 1 =>
    let hz := fsOf (s.planeDiv i)
    let line (f : Nat) : Q := Q.div (Q.mul (Q.ofNat (2 * f)) (Q.ofNat (2 ^ 20))) hz
    let lo := -(Q.neg (line (s.fv b R.SPX_PL_P0_ENV_f_lo))).floor
    s.beginBuild i stamp Q.zero (.band lo.toNat (Nat.min 419430 (line (s.fv b R.SPX_PL_P0_ENV_f_hi)).toNat) l)
  | _ =>
    if !s.orderFits i || !s.tachoLocked (s.orderTacho i) then s
    else match s.orderSpan i with
      | none => s
      | some e =>
        let ppr := s.fv (P.DYN (s.orderTacho i)) R.DYN_TACH_PPR_ppr
        s.beginBuild i (e.getLastD 0 / 16) (spanSpeed (s.fv b R.SPX_PL_P0_ORD_b) e)
          (.turns (s.fv b R.SPX_PL_P0_ORD_s) ppr e (s.recordStart ch) (s.samplePeriod ch) l)

/-- A DIRECT record of the channel ends with its latest sample (R188, R189). -/
def State.recordEnds (s : State) (ch : Nat) : Bool :=
  let c := s.dch ch
  s.domainOn 4 && decide (s.dynMode ch ≠ 0) && !c.disc && decide (c.recNext ≤ c.count) && decide (c.count % 2 ^ 18 = 0)

/-- RECORD_END (R188): a DIRECT record of the channel ends. A record with a sample marked inv, or one that cannot be read (R228), is dropped; a record end whose predecessor's
builds are at work is skipped (R210). `ecc` is what reading the ring finds. The spacing in force applies from here to the next record end (R189). -/
def execRecordEnd (t : Nat) (ch : Fin 16) (ecc : EccFinds) (s : State) : Host.Outcome State Fault Refusal :=
  let s := s.at t
  if !s.recordEnds ch.val then .next s
  else
    let c := s.dch ch.val
    let s := s.eccFinds ecc
    let s := s.setDch ch.val { c with recNext := c.count + (if s.fb P.SPXC R.SPX_STAT_hot_rate then 2 ^ 19 else 2 ^ 18) }
    let words := s.latestWords ch.val (2 ^ 20)
    let planes := (([0, 1, 2] : List Nat).map (fun p => 4 * ch.val + p)).filter s.planeBuilt
    let lost := s.anyPoison (ringAt ch.val) 0x400000
    if planes.any (fun i => (s.plane i).work.isSome) || s.linkOn 9 ch.val || words.any (fun x => wordInv x.2) || lost then
      .next (planes.foldl (fun (s : State) i => s.planeDrop i) s)
    else .next (planes.foldl (fun (s : State) i => s.recordBuild i words) s)

/-- A record of a ZOOM plane's stream ends with the channel's latest sample (R189, R198). -/
def State.zoomEnds (s : State) (i : Nat) : Bool :=
  let x := s.plane i
  s.planeBuilt i && !(s.dch (planeCh i)).disc && decide (x.recNext ≤ x.streamed) && decide (x.streamed % 2 ^ 16 = 0)

/-- ZOOM_RECORD_END (R198): a record of the channel's ZOOM stream ends. -/
def execZoomRecordEnd (t : Nat) (ch : Fin 16) (s : State) : Host.Outcome State Fault Refusal :=
  let s := s.at t
  let i := 4 * ch.val + 3
  if !s.zoomEnds i then .next s
  else
    let x := s.plane i
    let s := s.setPlane i { x with recNext := x.streamed + (if s.fb P.SPXC R.SPX_STAT_hot_rate then 2 ^ 17 else 2 ^ 16) }
    let from_ := x.streamed - 2 ^ 18
    if x.work.isSome || s.linkOn 9 ch.val || x.bad.any (fun m => decide (from_ ≤ m)) then .next (s.planeDrop i)
    else
      let l := (x.stream.filter (fun y => decide (from_ ≤ y.1))).map (fun y => (y.1 - from_, y.2))
      .next (s.beginBuild i (s.sampleStamp ch.val ((s.dch ch.val).count - 1)) Q.zero (.stream (s.fv (P.SPX i) R.SPX_PL_P0_ZOOM_z) l))

/-! ### Lines (R192–R198) -/

/-- The angle samples of an ORDER record (R196): each sample at its angle, low-passed at 0.40 × 2^m orders and resampled, with an
interpolation error below −100 dB of the record's largest sample (log 82). -/
def angleSamples (m ppr size : Nat) (edges : List Nat) (start period : Q) (l : Samples) : Samples :=
  let angle (k : Nat) : Q := Q.mul (angleAt edges (Q.add start (Q.mul (Q.ofNat k) period))) (Q.frac (2 ^ m) ppr)
  let placed := l.map (fun x => (angle x.1, Q.sub (angle (x.1 + 1)) (angle x.1), x.2.1))
  let top : Int := ((l.foldl (fun a x => Nat.max a x.2.1.natAbs) 0 - 1) / 100000 : Nat)
  if l = [] then []
  else (List.range size).map (fun j =>
    (j, (placed.foldl (fun acc x => acc + Int.fdiv (x.2.2 * lowPass (Q.sub x.1 (Q.ofNat j)) * x.2.1.num) (2 ^ 80 * x.2.1.d)) 0 +
      iclip (-top) top (Config.orderError m (edges.headD 0) j), 0)))

/-- The square of the gain of the ZOOM stream's filter at `n` lines from fc, as R198 transforms it into 2^19 lines. -/
def zoomGain (z : Nat) (n : Int) : Q :=
  Q.frac (transform (2 ^ (19 + z)) ((List.range (256 * 2 ^ z)).map (fun k => (k, (zoomTap z k, 0)))) n).power (2 ^ 62)

/-- The samples that are windowed and transformed: whether there are any, and the windowed lines (R195). Line 2^18 of ZOOM lies at fc
(Table 07-1). -/
def SpxBuild.transformed (b : SpxBuild) : Bool × (Int → Cplx) :=
  let win := b.cfg / 2 % 4
  match b.input with
  | .direct l => (!l.isEmpty, windowed win 1 (transform b.size l))
  | .band lo hi l =>
    let e := envelope b.size lo hi l
    (!e.isEmpty, windowed win 1 (transform b.size e))
  | .turns m ppr edges start period l =>
    let a := angleSamples m ppr b.size edges start period l
    (!a.isEmpty, windowed win 1 (transform b.size a))
  | .stream _ l => (!l.isEmpty, fun n => windowed win 2 (transform (2 * b.size) l) (n - 2 ^ 18))

/-- The square of the value of line `n` in the engineering unit (R192, R194): rms or peak, integrated by 2π times the line's frequency,
nothing below 2 Hz then; of ZOOM by the gain of its filter there, so that a sinusoid centred on the line reads true. `err` is its error in
dB, at most 0.01 (R193; log 5). -/
def SpxBuild.power (b : SpxBuild) (line : Int → Cplx) (n : Nat) (err : Q) : Q :=
  let win := b.cfg / 2 % 4
  let mean := match b.input with | .stream _ _ => false | _ => decide (n = 0)
  let volts := Q.mul b.gain (Q.frac 10 (2 ^ 67))
  let p := Q.mul (linePower win b.size mean (line n)) (Q.mul volts volts)
  let p := match b.input with | .stream z _ => Q.div p (zoomGain z (n - 2 ^ 18)) | _ => p
  let p := if decide (b.cfg / 8 % 2 = 0) && !mean then Q.mul p (Q.frac 1 2) else p
  let f := Q.add b.f0 (Q.mul b.df (Q.ofNat n))
  let w := Q.mul (Q.mul (Q.ofNat 2) piQ) f
  let p := if !b.integ then p else if Q.lt f (Q.ofNat 2) then Q.zero else Q.div p (Q.mul w w)
  Q.mul p (dbPower (Q.clip (Q.make (-1) 100) (Q.frac 1 100) err))

/-! ### Averaging (R199) -/

/-- The value of a line by Table 07-3: `avg`, depth `k`, build `j` after the restart, the code it averages with, the new code. -/
def averaged (avg k j c x : Nat) : Nat :=
  let step (n : Nat) : Nat := ((c : Int) + Q.round (Q.make ((x : Int) - c) n)).toNat
  match avg with
  | 1 => let m := (j - 1) % 2 ^ k + 1
         if m = 1 then x else step m
  | 2 => if j ≤ 1 then x else step (Nat.min j (2 ^ k))
  | 3 => if j ≤ 1 then x else Nat.max c x
  | _ => x

/-- The lines of a half of a plane that hold a code, and their codes. -/
def State.halfLines (s : State) (i h : Nat) : List Nat :=
  let base := codeAt h (i * 0x80000)
  listedItems base 2 (SMap.inRange s.mem base (base + 0x100000))

/-- Write a half of a plane whole: the codes given, 0 elsewhere (R201 step 4). -/
def State.writeHalf (s : State) (i h : Nat) (codes : List (Nat × Nat)) : State :=
  let base := codeAt h (i * 0x80000)
  let s := s.curePoison base 0x100000
  let s := { s with mem := SMap.dropRange s.mem base (base + 0x100000) }
  codes.foldl (fun (s : State) x => s.wrLe (base + 2 * x.1) 2 x.2) s

/-- The codes that a build writes: within its live lines, averaged with half `from_` (R187, R199). -/
def State.buildCodes (s : State) (i from_ j : Nat) (b : SpxBuild) (errs : List (Nat × Q)) : List (Nat × Nat) :=
  let avg := b.cfg / 16 % 4
  let k := b.cfg / 64 % 16
  let base := codeAt from_ (i * 0x80000)
  let (any, line) := b.transformed
  let live := (List.range (b.last + 1 - b.first)).map (fun n => b.first + n)
  let old := if avg = 0 then [] else (s.halfLines i from_).filter (fun n => decide (b.first ≤ n) && decide (n ≤ b.last))
  let new (n : Nat) : Nat :=
    if any then powerCode (b.power line n (((errs.find? (fun x => decide (x.1 = n))).map (fun x => x.2)).getD Q.zero)) else 0
  -- a committed code that cannot be read (R228) takes no part
  (if any then live else old).map (fun n => (n, averaged avg k (if s.isPoisoned (base + 2 * n) then 1 else j) (s.rdLe (base + 2 * n) 2) (new n)))

/-! ### Baselines (R206–R208) -/

/-- The baseline record of a spectral point: mean, spread, count, max. -/
def State.baseline (s : State) (p : Nat) : Nat × Nat × Nat × Nat :=
  let a := 0x30000000 + p * 8
  (s.rdLe a 2, s.rdLe (a + 2) 2, s.rdLe (a + 4) 2, s.rdLe (a + 6) 2)

/-- The nearest integer to the square root of a quantity. -/
def rootRound (q : Q) : Nat := (isqrt ((4 * q.num.natAbs) / q.d) + 1) / 2

/-- A baseline after it has learned code `x`, with weights limited to 1/n_max. -/
def learned (nMax x : Nat) : Nat × Nat × Nat × Nat → Nat × Nat × Nat × Nat
  | (mean, spread, count, top) =>
    let n := Nat.max 1 (Nat.min (count + 1) nMax)
    let d : Int := (x : Int) - mean
    let mean' := ((mean : Int) + Q.round (Q.make d n)).toNat
    let var := Q.mul (Q.frac (n - 1) n) (Q.add (Q.ofNat (spread * spread)) (Q.make (d * d) n))
    (mean', Nat.min 65535 (rootRound var), Nat.min 65535 (count + 1), if count = 0 then x else Nat.max top x)

/-- The baseline of a point cannot be read (R228). -/
def State.baseLost (s : State) (p : Nat) : Bool := s.isPoisoned (0x30000000 + p * 8)

/-- Write a learned baseline; one that cannot be read does not learn. -/
def State.learnPoint (s : State) (p x : Nat) : State :=
  if s.baseLost p then s else
  let (mean, spread, count, top) := learned (s.fv P.SPXC R.SPX_LEARN_n_max) x (s.baseline p)
  s.nodeWrite (0x30000000 + p * 8) (leBytes 2 mean ++ leBytes 2 spread ++ leBytes 2 count ++ leBytes 2 top)

/-- The BASE_LEARN tallies launched and not ended (R207). -/
def State.learnTallies (s : State) : List Tally := s.tly.out.filter (fun x => x.outcome.isNone && decide (x.op = 0x10))

/-- The lines `[first, last]` of plane `i` within the points `[p0, p1]`: the first point and how many. -/
def pointsIn (i first last p0 p1 : Nat) : Nat × Nat :=
  let lo := Nat.max (i * 0x80000 + first) p0
  let hi := Nat.min (i * 0x80000 + last) p1
  (lo, hi + 1 - lo)

/-- The live lines of plane `i` within the points `[p0, p1]`, where the plane is enabled: the first and how many. -/
def State.linesIn (s : State) (i p0 p1 : Nat) : Nat × Nat :=
  let (first, last) := s.planeLive i
  if !s.fb (P.SPX i) R.SPX_PL_CFG_en then (0, 0) else pointsIn i first last p0 p1

/-- Commits that a point has learned for a BASE_LEARN tally, which keeps the points of each commit: the first and how many. -/
def Tally.learned (x : Tally) (p : Nat) : Nat := (x.kept.filter (fun r => decide (r.1 ≤ p) && decide (p < r.1 + r.2))).length

/-- A point of a BASE_LEARN tally has not yet learned its ARG2 commits. -/
def Tally.learns (x : Tally) (p : Nat) : Bool := decide (x.learned p < x.arg 2)

/-- The points of a plane that learn at a GOOD commit of the lines `[first, last]`: those that a BASE_LEARN tally covers, and those of R208.
Each learns once. -/
def State.learners (s : State) (i first last : Nat) : List Nat :=
  let own := (s.listedSpectral i).filter (fun p =>
    decide (s.rdLe (spectralRec p + 10) 2 / 2 % 2 = 1) && decide (s.stateByte p % 4 = 0) && decide (first ≤ lineNo p) && decide (lineNo p ≤ last))
  s.learnTallies.foldl (fun l x =>
    let (lo, n) := pointsIn i first last (x.arg 0) (x.arg 1)
    ((List.range n).map (fun k => lo + k)).filter x.learns ++ l.filter (fun p => decide (p < lo) || decide (lo + n ≤ p) || !x.learns p)) own

/-- The lines that a BASE_LEARN tally has taught in full, of how many. -/
def State.learnDone (s : State) (x : Tally) : Nat × Nat :=
  let lines (j : Nat) : Nat × Nat := s.linesIn j (x.arg 0) (x.arg 1)
  let done (j : Nat) : Nat := ((List.range (lines j).2).filter (fun k => !x.learns ((lines j).1 + k))).length
  (((List.range 64).map done).sum, ((List.range 64).map (fun j => (lines j).2)).sum)

/-- A running BASE_LEARN tally shows how far it is, and completes when every line has learned (R207). -/
def State.learnEnds (s : State) (x : Tally) : State :=
  let (done, total) := s.learnDone x
  let s := s.tallyProgress x.num done total x.aux
  if done = total then s.tallyDone x.num done 0 else s

/-- The BASE_LEARN tallies count a GOOD commit of plane `i` made after their launch (R207); one that covers a baseline that cannot be read
ends with status 3, reason 6 (R228). -/
def State.learnStep (s : State) (i first last : Nat) : State :=
  s.learnTallies.foldl (fun (s : State) x =>
    let (lo, n) := pointsIn i first last (x.arg 0) (x.arg 1)
    if (List.range n).any (fun k => x.learns (lo + k) && s.baseLost (lo + k)) then s.tallyEnds x.num 3 6 (s.learnDone x).1 0
    else
      let x := { x with kept := if n = 0 then x.kept else x.kept ++ [(lo, n)] }
      let s := s.setTally x
      if x.running then s.learnEnds x else s) s

/-- What the launch of a learning operation takes at that instant (R207, R209): BASE_LEARN with mode 0 zeroes the range's baselines,
where a line of it is live on an enabled plane; LIM_DERIVE keeps the baselines of the range as they stand, and that one of a live line could
not be read (R228). -/
def State.learnLaunch (s : State) (n : Nat) : State :=
  match s.tally? n with
  | none => s
  | some x =>
    let lo := 0x30000000 + x.arg 0 * 8
    let hi := 0x30000000 + (x.arg 1 + 1) * 8
    if x.op = 0x10 then
      (if x.arg 3 = 0 ∧ (s.learnDone x).2 ≠ 0 then
         (let s := s.curePoison lo (hi - lo)
          { s with mem := SMap.dropRange s.mem lo hi })
       else s)
    else if x.op = 0x11 then
      (let lost := (List.range 64).any (fun i =>
         let (p, n) := s.linesIn i (x.arg 0) (x.arg 1)
         s.anyPoison (0x30000000 + p * 8) (n * 8))
       s.setTally { x with
         kept := (listedItems 0x30000000 8 (SMap.inRange s.mem lo hi)).map (fun p => (p, s.rdLe (0x30000000 + p * 8) 8))
         aux := if lost then 1 else 0 })
    else s

/-- BASE_LEARN (R207): the running tally learns; without a live line in its range it is refused. -/
def execBaseLearn (t tally : Nat) (s : State) : Host.Outcome State Fault Refusal :=
  let s := s.at t
  match s.runningTally tally 0x10 with
  | none => .next (s.lateStop tally 0x10 id)
  | some x => .next (if (s.learnDone x).2 = 0 then s.tallyRefused tally 8 0 0 else s.learnEnds x)

/-- A limit of R209: mean plus or minus k × spread / 100 and o. -/
def derivedLimit (mean spread margin : Nat) (invert : Bool) : Nat :=
  let d := Q.round (Q.frac (margin % 65536 * spread) 100) + (margin / 65536 : Nat)
  (iclip 0 65535 (if invert then (mean : Int) - d else (mean : Int) + d)).toNat

/-- LIM_DERIVE (R209): the limits of every line of the range that qualifies, from the baselines kept at launch, under one closing mark.
`ecc` is what its reads find; a record or baseline of a live line that cannot be read ends it with status 3, reason 6, nothing written
(R228). -/
def execLimDerive (t tally : Nat) (ecc : EccFinds) (s : State) : Host.Outcome State Fault Refusal :=
  let s := s.at t
  match s.runningTally tally 0x11 with
  | none => .next (s.lateStop tally 0x11 id)
  | some x =>
    let s := s.eccFinds ecc
    let lost := (List.range 64).any (fun i =>
      let (lo, n) := s.linesIn i (x.arg 0) (x.arg 1)
      s.anyPoison (spectralRec lo) (16 * n))
    if lost || decide (x.aux = 1) then .next (s.tallyEnds tally 3 6 0 0)
    else
    let base (p : Nat) : Nat := SMap.get (fun _ => 0) x.kept p
    let ps := ((List.range 64).flatMap (fun i =>
      let (lo, n) := s.linesIn i (x.arg 0) (x.arg 1)
      if n = 0 then [] else (s.listedSpectral i).filter (fun p => decide (lo ≤ p) && decide (p < lo + n)))).filter (fun p =>
        decide (s.rdLe (spectralRec p + 10) 2 / 4 % 2 = 1) && decide (s.fv P.SPXC R.SPX_LEARN_n_min ≤ base p / 2 ^ 32 % 65536))
    let s1 := ps.foldl (fun (s' : State) p =>
      let mean := base p % 65536
      let spread := base p / 65536 % 65536
      let inv := decide (s.rdLe (spectralRec p + 10) 2 / 8 % 2 = 1)
      s'.nodeWrite (spectralRec p) (leBytes 2 (derivedLimit mean spread (x.arg 2) inv) ++ leBytes 2 (derivedLimit mean spread (x.arg 3) inv))) s
    if s.touchesStalled s1 then .next s else
    .next ((s1.squash 1 (fun p => decide (x.arg 0 ≤ p) && decide (p ≤ x.arg 1))).tallyDone tally ps.length 0)

/-! ### Commit (R201, R202) -/

/-- A half of a plane is latched at the commit frontier (R202). -/
def State.halfLatched (s : State) (i h : Nat) : Bool :=
  match s.pte.atPlane with
  | some x => decide (x.plane = i) && decide (x.half = h)
  | none => false

/-- The build number after a restart (R200): 1 where a restart was asked for before the record ended that no build has taken, and for
modes 1 and 2 in a new run. -/
def SpxPl.buildNo (x : SpxPl) (b : SpxBuild) : Nat :=
  let avg := b.cfg / 16 % 4
  if b.restarts ≠ x.taken ∨ (b.run ≠ x.run ∧ (avg = 1 ∨ avg = 2)) then 1 else x.builds + 1

/-- A complete build writes the other half and commits. A linear average that has not reached its block's end only keeps its running
mean there. -/
def State.commitBuild (s : State) (i : Nat) (b : SpxBuild) (errs : List (Nat × Q)) : State :=
  let page := P.SPX i
  let x := s.plane i
  let avg := b.cfg / 16 % 4
  let k := b.cfg / 64 % 16
  let h := s.fv page R.SPX_PL_STAT_half
  let j := x.buildNo b
  let codes := s.buildCodes i (if avg = 1 then 1 - h else h) j b errs
  let s := (s.drawKey (16 + 2 * i + (1 - h))).writeHalf i (1 - h) codes
  let s := s.setPlane i { x with builds := j, taken := b.restarts, run := b.run, wait := none }
  if avg = 1 ∧ j % 2 ^ k ≠ 0 then s
  else
    let settling := decide (avg = 2) && decide (j < 2 ^ k)
    let s := if settling then s
      else
        let ps := s.learners i b.first b.last
        let base := codeAt (1 - h) 0
        (ps.foldl (fun (s : State) p => s.learnPoint p (s.rdLe (base + 2 * p) 2)) s).learnStep i b.first b.last
    let s := s.setPlane i { s.plane i with commitAt := some s.now, settling := settling, lefts := s.dyn.map (fun c => c.lefts) }
    let s := (s.setFv page R.SPX_PL_STAT_half (1 - h)).wrapInc page R.SPX_PL_SEQ_seq 1
    let s := s.setStamp page R.SPX_PL_T_LO_t R.SPX_PL_T_HI_t b.stamp
    let s := (s.setFv page R.SPX_PL_STAT_settle (if settling then 2 ^ k - j else 0)).setFb page R.SPX_PL_STAT_hot b.hot
    let s := s.setFv page R.SPX_PL_RPM_rpm (if planeKind i = 2 then (toB32 b.rpm).toNat else 0)
    let late := decide (b.begun + msecs 1600 < s.now)
    let s := if late then (s.satInc P.SPXC R.SPX_STAT_late 1).irq P.SPXC 2 else s
    -- R251: the lowest row that fits; R252: not for the plane that the frontier has latched
    let shown := (s.irq page 0).planeShow i
    let latched := s.pte.atPlane.any (fun y => decide (y.plane = i))
    let same := decide (shown.fv page R.SPX_PL_STAT_quality = s.fv page R.SPX_PL_STAT_quality) &&
      decide (shown.fv page R.SPX_PL_STAT_cause = s.fv page R.SPX_PL_STAT_cause)
    if latched || !same then shown else shown.squash 6 (fun p => !isScalar p && decide (planeNo p = i))

/-- A build may still commit: the plane is built, and the tacho of an ORDER plane has stayed locked since the record ended (R25, R184,
R204). -/
def State.mayCommit (s : State) (i : Nat) (b : SpxBuild) : Bool :=
  s.planeBuilt i && (decide (planeKind i ≠ 2) || (s.tachoLocked b.tch && decide ((s.dch b.tch).lefts = b.lefts)))

/-- PLANE_COMMIT (R201): the build of the plane is complete; `errs` are the errors of its lines in dB, those not listed 0, `ecc` what its
reads find. It waits while the other half is latched; a newer build discards one that waits (R202). -/
def execPlaneCommit (t : Nat) (plane : Fin 64) (errs : List (Nat × Q)) (ecc : EccFinds) (s : State) : Host.Outcome State Fault Refusal :=
  let s := s.at t
  let i := plane.val
  let x := s.plane i
  match x.work with
  | none => .next s
  | some b =>
    if !s.mayCommit i b then .next (s.setPlane i { x with work := none })
    else
      let s := s.eccFinds ecc
      let s := if x.wait.isSome then s.planeDrop i else s
      let s := s.setPlane i { x with work := none, wait := none }
      if s.halfLatched i (1 - s.fv (P.SPX i) R.SPX_PL_STAT_half) then .next (s.setPlane i { s.plane i with wait := some (b, errs) })
      else .next (s.commitBuild i b errs)

/-- The frontier has left plane `i`: a build that waits commits. -/
def State.planeUnlatched (s : State) (i : Nat) : State :=
  match (s.plane i).wait with
  | some (b, errs) => if s.mayCommit i b then s.commitBuild i b errs else s.setPlane i { s.plane i with wait := none }
  | none => s

/-- PLANE_STALE (R205 row 5): no commit for the tolerance in force. -/
def execPlaneStale (t : Nat) (plane : Fin 64) (s : State) : Host.Outcome State Fault Refusal := .next ((s.at t).planeShow plane.val)

/-- PLANE_COMMIT_OVERDUE (R205 row 7): no commit for twice t_ci. -/
def execPlaneCommitOverdue (t : Nat) (plane : Fin 64) (s : State) : Host.Outcome State Fault Refusal :=
  .next ((s.at t).planeShow plane.val)

/-! ### Commits and power (R197, R200, R204, R211) -/

/-- The builds of a plane in progress are abandoned (R204). -/
def State.abandonBuilds (s : State) (i : Nat) : State := s.setPlane i { s.plane i with work := none, wait := none }

/-- A write of SPX_PL_CTRL (R200). -/
def State.planeCtrl (s : State) (i : Nat) (v : Word) : State :=
  if v.getLsbD 0 then s.setPlane i { s.plane i with restarts := (s.plane i).restarts + 1 } else s

/-- The largest `n ≤ top` for which `ok` holds, going down; 0 if none. -/
def lowerUntil (ok : Nat → Bool) : Nat → Nat
  | 0 => 0
  | n + 1 => if ok (n + 1) then n + 1 else lowerUntil ok n

/-- What a commit of a plane page stores (R191, R197, R198, Table 07-8). -/
def planeFixes (s : State) (i b : Nat) (c : Cand) : List (Field × Nat) :=
  let div := s.planeDiv i
  let fake (f : Field) (v : Nat) (s : State) : State := s.setFv b f v
  -- the floor of tol by the configuration committed with it
  let s' := (fake R.SPX_PL_CFG_k (Nat.min 8 (c.fv s b R.SPX_PL_CFG_k)) (fake R.SPX_PL_CFG_avg (c.fv s b R.SPX_PL_CFG_avg) s))
  let s' := if planeKind i = 3 then fake R.SPX_PL_P0_ZOOM_z (nclip 1 12 (c.fv s b R.SPX_PL_P0_ZOOM_z)) s' else s'
  let tol := (R.SPX_PL_STALE_tol, Nat.max (s'.staleFloor i) (Nat.min 3600 (c.fv s b R.SPX_PL_STALE_tol)))
  match planeKind i with
  | 1 =>
    let top := 40960 / 2 ^ div
    let hi := Nat.min top (c.fv s b R.SPX_PL_P0_ENV_f_hi)
    let lo := nclip 50 (hi - 100) (c.fv s b R.SPX_PL_P0_ENV_f_lo)
    [tol, (R.SPX_PL_P0_ENV_f_lo, Nat.max 50 lo), (R.SPX_PL_P0_ENV_f_hi, Nat.max (Nat.max 50 lo + 100) hi)]
  | 2 =>
    let tb := P.DYN (c.fv s b R.SPX_PL_P0_ORD_tch)
    let m := lowerUntil (fun m => decide (2 ^ m * s.fv tb R.DYN_TACH_RPM_rpm_max * 2 ^ div ≤ 60 * 204800)) (nclip 5 12 (c.fv s b R.SPX_PL_P0_ORD_s))
    let k := lowerUntil (fun k => decide (2 ^ k * 600 * 204800 ≤ (2 ^ 20 - 8192) * 2 ^ div * s.fv tb R.DYN_TACH_RPM_rpm_min) && decide (k + m ≤ 20))
      (c.fv s b R.SPX_PL_P0_ORD_b)
    [tol, (R.SPX_PL_P0_ORD_s, m), (R.SPX_PL_P0_ORD_b, k)]
  | 3 =>
    let z := nclip 1 12 (c.fv s b R.SPX_PL_P0_ZOOM_z)
    -- whole mHz within 0.40 × fs_z and 0.40 × fs - 0.40 × fs_z
    let fz := (81920000 + 2 ^ (div + z) - 1) / 2 ^ (div + z)
    let fs := 81920000 / 2 ^ div
    [tol, (R.SPX_PL_P1_ZOOM_fc, nclip fz (fs - fz) (c.fv s b R.SPX_PL_P1_ZOOM_fc))]
  | _ => [tol]

/-- What a commit of the SPX common page stores (Table 07-7). -/
def spxFixes (s : State) (b : Nat) (c : Cand) : List (Field × Nat) :=
  let on := nclip 85 125 (c.fv s b R.SPX_HOT_t_on)
  let nmin := nclip 4 65535 (c.fv s b R.SPX_LEARN_n_min)
  [(R.SPX_HOT_en, if Config.gradeXB then c.fv s b R.SPX_HOT_en else 0), (R.SPX_HOT_t_off, nclip 80 (on - 2) (c.fv s b R.SPX_HOT_t_off)),
   (R.SPX_LEARN_n_max, Nat.max nmin (c.fv s b R.SPX_LEARN_n_max))]

/-- The stream of plane `i` begins anew with the channel's next sample. -/
def State.streamAgain (s : State) (i : Nat) : State := s.setPlane i ((s.plane i).streamFrom (2 ^ s.fv (P.SPX i) R.SPX_PL_P0_ZOOM_z) (s.dch (planeCh i)).count)

/-- SPX is powered: its pages take their Reset values but for those of R211, and show their configuration; streams begin anew (R190). -/
def State.spxPowered (s : State) : State :=
  let s := s.lapse (fun k _ => decide (k = .spx) || decide (k = .spxPl))
  ((List.range 64).foldl (fun (s : State) i => ((s.planeCfgShow i).abandonBuilds i).streamAgain i) s).allPlanesShow

/-- SPX loses power or is switched off: builds are abandoned (R28, R190, R204). -/
def State.spxStopped (s : State) : State :=
  ((List.range 64).foldl (fun (s : State) i => s.abandonBuilds i) s).allPlanesShow

/-- After a commit of the SPX common page. -/
def State.spxCommitted (s old : State) : State :=
  let s := if s.domainOn 5 ∧ !old.domainOn 5 then s.spxPowered else if !s.domainOn 5 ∧ old.domainOn 5 then s.spxStopped else s
  let s := if !s.fb P.SPXC R.SPX_HOT_en && s.fb P.SPXC R.SPX_STAT_hot_rate then s.hotRate else s
  s.allPlanesShow

/-- After a commit of a plane page (R200, R204): averaging restarts, a plane switched off abandons its builds, and a ZOOM stream of another
centre or decimation, or of a plane just enabled, settles anew (log 84). -/
def State.planeCommitted (s old : State) (i : Nat) : State :=
  let b := P.SPX i
  let changed (f : Field) : Bool := decide (s.fv b f ≠ old.fv b f)
  let s := s.setPlane i { s.plane i with restarts := (s.plane i).restarts + 1 }
  let s := if s.fb b R.SPX_PL_CFG_en then s else s.abandonBuilds i
  let s := if planeKind i = 3 && (changed R.SPX_PL_CFG_en || changed R.SPX_PL_P0_ZOOM_z || changed R.SPX_PL_P1_ZOOM_fc) then s.streamAgain i else s
  (s.planeCfgShow i).planeShow i

/-- After a commit of a DYN channel page: its planes' lines and the ORDER planes on its tacho follow. -/
def State.planesOfChannel (s : State) (ch : Nat) : State :=
  (([0, 1, 2, 3] : List Nat).foldl (fun (s : State) p => s.planeCfgShow (4 * ch + p)) s).planesFollow ch

end Sys2Proof.Machine
end

