-- ==== Sys2Proof/Machine/Sto.lean ====
section
/-! DEFINITION. The storeroom: who may read and write what through the aperture (R214, R215), the storeroom tallies (R217, R223),
errors, scrubbing, spares, slack (R227–R232). -/

namespace Sys2Proof.Machine

open Sys2Proof

/-! ### Regions (Tables 08-1, 08-2, 08-4) -/

/-- A byte of the storeroom as its reader sees it: the alarm handling store is laid out from its records. -/
def State.storeByte (s : State) (a : Nat) : Byte := if 0x00C00000 ≤ a ∧ a < 0x01000000 then s.alhByte a else s.rd8 a
def State.storeBytes (s : State) (a n : Nat) : List Byte := (List.range n).map (fun i => s.storeByte (a + i))

/-- Plane values, sample rings, calibration records, recorder: what may be read in SCRAPPED (R215). -/
def scrapReadable (a : Nat) : Bool :=
  (decide (0x28000000 ≤ a) && decide (a < 0x30000000)) || (decide (0x40000000 ≤ a) && decide (a < 0x44000000)) ||
    (decide (0x00310000 ≤ a) && decide (a < 0x00310800)) || (decide (0x00311000 ≤ a) && decide (a < 0x00313000)) ||
    (decide (0x80000000 ≤ a) && decide (a < 0x100000000))

/-- The aperture reads this byte of the region map; `sealed_`: the lifecycle state is SEALED. -/
def regionReadable (sealed_ : Bool) (a : Nat) : Bool :=
  if a < 0x04000000 then
    (decide (0x00300000 ≤ a) && decide (a < 0x00302000)) || (decide (0x00310000 ≤ a) && decide (a < 0x00310800)) ||
      (decide (0x00311000 ≤ a) && decide (a < 0x00313000)) || (decide (0x00400000 ≤ a) && decide (a < 0x01000000))
  else if a < 0x06000000 then !sealed_
  else if a < 0x44300000 then true
  else if a < 0x50000000 then false
  else decide (a < 0x100000000)

/-- The aperture is open to a port (R499, Table 21-5): in SEALED outside a session, not to the trapdoor. -/
def State.aperPort (s : State) (p : Port) : Bool := decide (p = .host) || (s.fb P.SEC R.SEC_CFG_td_en && (decide (s.life ≠ 2) || decide (s.level p ≠ 0)))

/-- A port may read this byte through the aperture. -/
def State.aperReadable (s : State) (p : Port) (a : Nat) : Bool :=
  s.aperPort p && (if s.life = 3 then scrapReadable a else regionReadable (decide (s.life = 2)) a)

/-- A port may write this byte through the aperture: the integrator area and the staging of user tables. -/
def State.aperWritable (s : State) (p : Port) (a : Nat) : Bool :=
  s.aperPort p && decide (s.life ≠ 3) &&
    ((decide (0x50000000 ≤ a) && decide (a < 0x80000000)) || (decide (0x00300000 ≤ a) && decide (a < 0x00301000)))

/-- The edges of the regions: between two of them every byte is judged alike. -/
def regionEdges : List Nat :=
  [0x00300000, 0x00301000, 0x00302000, 0x00310000, 0x00310800, 0x00311000, 0x00313000, 0x00400000, 0x01000000, 0x04000000, 0x06000000,
   0x28000000, 0x30000000, 0x40000000, 0x44000000, 0x44300000, 0x48000000, 0x50000000, 0x80000000, 0x100000000]

/-- A property of the region map holds on the whole range `[a, a + n)`. -/
def regionAll (f : Nat → Bool) (a n : Nat) : Bool :=
  decide (n = 0) || (f a && (regionEdges.filter (fun e => decide (a < e) && decide (e < a + n))).all f)

/-! ### Errors (R228) -/

/-- The first poisoned word of a range. -/
def State.firstPoison (s : State) (a n : Nat) : Option Nat :=
  (s.poisoned.filter (fun p => decide (a ≤ p) && decide (p < a + n))).foldl (fun m p => match m with
    | none => some p
    | some q => some (Nat.min p q)) none

/-- A scrub pass starts, or scrubbing stops (R229): no row has given a corrected word in the pass. -/
def State.scrubSet (s : State) (on : Bool) : State := { s with sto := { s.sto with passRows := [] } }.setFb P.STO R.STO_STAT_scrub on

/-- A write of STO_CTRL: clr_err, scrub_now (R228, R229). -/
def State.stoCtrl (s : State) (v : Word) : State :=
  let s := if v.getLsbD 0 then (s.setReg (P.STO + R.STO_ERR_corr.off) 0#32).setFv P.STO R.STO_UE_ADDR_addr 0xFFFFFFFF else s
  if v.getLsbD 1 then s.scrubSet true else s

/-- SCRUB_PASS_END (R229): every word has been read once; the next pass follows while scrubbing is enabled. -/
def execScrubPassEnd (t : Nat) (ecc : EccFinds) (s : State) : Host.Outcome State Fault Refusal :=
  let s := s.at t
  if !s.domainOn 7 || !(s.fb P.STO R.STO_STAT_scrub || s.fb P.STO R.STO_SCRUB_en) then .next s
  else
    let s := s.eccFinds ecc
    .next ((s.scrubSet (s.fb P.STO R.STO_SCRUB_en)).irq P.STO 3)

/-- STO_SPARE and spare_low (R230). -/
def State.spareShow (s : State) : State :=
  let m := (s.sto.spares.zipIdx).foldl (fun (r : Nat × Nat) x => if x.1 < r.1 then (x.1, x.2) else r) (s.sto.spares.getD 0 0, 0)
  let s := (s.setFv P.STO R.STO_SPARE_left m.1).setFv P.STO R.STO_SPARE_shelf m.2
  let was := s.fb P.STO R.STO_STAT_spare_low
  (s.setFb P.STO R.STO_STAT_spare_low (decide (m.1 < 256))).irqIf (decide (m.1 < 256) && !was) P.STO 2

/-- ROW_SPARE (R230): the shelf's row that has been due longest is copied to a spare one, `ecc` what the copy finds in it; a shelf without
spares keeps its weak row. Contents and poison stay. -/
def execRowSpare (t : Nat) (shelf : Fin 16) (ecc : EccFinds) (s : State) : Host.Outcome State Fault Refusal :=
  let s := s.at t
  match s.sto.dueRows.find? (fun r => decide (r.1 = shelf.val)) with
  | none => .next s
  | some r =>
    if !s.domainOn 7 then .next s
    else
      let here (a : Nat) : Bool := decide (s.rowOf a = r)
      let s := s.eccFinds { corrected := ecc.corrected.filter here, lost := ecc.lost.filter here }
      let s := { s with sto := { s.sto with
        spares := s.sto.spares.set shelf.val (s.sto.spares.getD shelf.val 0 - 1), dueRows := s.sto.dueRows.filter (fun y => decide (y ≠ r)) } }
      .next s.spareShow

/-- WEAR_MOVE (R231): a most-written structure moves; STO_WEAR shows the highest projected wear. -/
def execWearMove (t wear : Nat) (s : State) : Host.Outcome State Fault Refusal :=
  let s := s.at t
  .next (if s.domainOn 7 then s.setFv P.STO R.STO_WEAR_wear (Nat.min wear 100) else s)

/-! ### Slack (R227, R232) -/

/-- A sweep of `len` × 10 ms has ended: the longest of the last 60 minutes, the slack, system point 0x0036, the notice. -/
def State.stoSweep (s : State) (len conflict shelf : Nat) : State :=
  let sweeps := (s.sto.sweeps ++ [(s.now, len)]).filter (fun x => decide (s.now - secs 3600 ≤ x.1))
  let m := sweeps.foldl (fun m x => Nat.max m x.2) 0
  let slack := 10000 - 10 * m
  let s := { s with sto := { s.sto with sweeps := sweeps, slackOk := if slack < 3000 then none else some (s.sto.slackOk.getD s.now) } }
  let s := (s.setFv P.STO R.STO_SLACK_sweep_max (Nat.min m 65535)).setFv P.STO R.STO_SLACK_slack slack
  let s := (s.setFv P.STO R.STO_CONFLICT_ratio (Nat.min conflict 10000)).setFv P.STO R.STO_CONFLICT_shelf shelf
  let s := s.sourceWrite 0x36 (toB32 (Q.frac slack 100)) 0 3 s.now
  if slack < 2500 ∧ !s.fb P.STO R.STO_STAT_notice then ((s.setFv P.STO R.STO_STAT_notice 1).irq P.STO 1).sysTrigger 2 0 else s

/-- NOTICE_CLEAR (R227): the slack has stayed at or above 30 % for 60 minutes. -/
def execNoticeClear (t : Nat) (s : State) : Host.Outcome State Fault Refusal :=
  let s := s.at t
  .next (if s.sto.slackOk.any (fun x => decide (x + secs 3600 ≤ s.now)) then s.setFv P.STO R.STO_STAT_notice 0 else s)

/-! ### Tallies (R217, R223) -/

/-- The bytes of a whole-word range as words of 8 bytes lie in the integrator area. -/
def inIntegrator (a n : Nat) : Bool := decide (0x50000000 ≤ a) && decide (a + n ≤ 0x80000000)

/-- STO_COPY up to `upto` bytes. Where the destination overlaps the source from above, the words are copied from the last one down, so
that every source byte is read before it is overwritten. -/
def State.stoCopy (s : State) (x : Tally) (upto : Nat) : State :=
  let src := x.arg 0
  let dst := x.arg 1
  let len := x.arg 2
  if !(decide (src + len ≤ 0x100000000) && regionAll (s.aperReadable x.port) src len && inIntegrator dst len) then s.tallyRefused x.num 3 0 0
  else
    let goal := Nat.min len (upto / 8 * 8)
    let n := goal - x.done
    let down := decide (src < dst) && decide (dst < src + len)
    let from_ := if down then len - goal else x.done
    match s.firstPoison (src + from_) n with
    | some p =>
      let k := if down then 0 else p - (src + from_)
      let s := (s.curePoison (dst + from_) k).wrBytes (dst + from_) (s.storeBytes (src + from_) k)
      s.tallyEnds x.num 3 6 (x.done + k) 0
    | none =>
      let s := (s.curePoison (dst + from_) n).wrBytes (dst + from_) (s.storeBytes (src + from_) n)
      let s := s.tallyProgress x.num (x.done + n) len 0
      if len ≤ x.done + n then s.tallyDone x.num len 0 else s

/-- STO_COPY (R217), with what its reads find. -/
def execStoCopy (t tally upto : Nat) (ecc : EccFinds) (s : State) : Host.Outcome State Fault Refusal :=
  let s := s.at t
  match s.runningTally tally 1 with
  | some x => .next (if s.domainOn 7 then (s.eccFinds ecc).stoCopy x upto else s)
  | none => .next (s.lateStop tally 1 id)

/-- STO_FILL up to `upto` bytes: the 64-bit pattern of ARG2 and ARG3, little-endian. -/
def State.stoFill (s : State) (x : Tally) (upto : Nat) : State :=
  let dst := x.arg 0
  let len := x.arg 1
  if !inIntegrator dst len then s.tallyRefused x.num 3 0 0
  else
    let n := Nat.min len (upto / 8 * 8) - x.done
    let pat := leBytes 4 (x.arg 2) ++ leBytes 4 (x.arg 3)
    let s := (s.curePoison (dst + x.done) n).wrBytes (dst + x.done) ((List.replicate (n / 8) pat).flatten)
    let s := s.tallyProgress x.num (x.done + n) len 0
    if len ≤ x.done + n then s.tallyDone x.num len 0 else s

/-- STO_FILL (R217). -/
def execStoFill (t tally upto : Nat) (s : State) : Host.Outcome State Fault Refusal :=
  let s := s.at t
  match s.runningTally tally 2 with
  | some x => .next (if s.domainOn 7 then s.stoFill x upto else s)
  | none => .next (s.lateStop tally 2 id)

/-- STO_VERIFY up to `upto` bytes, with what it finds; the tally's own word holds the first uncorrectable address plus 1. -/
def State.stoVerify (s : State) (x : Tally) (upto : Nat) (ecc : EccFinds) : State :=
  let a := x.arg 0
  let len := x.arg 1
  if 0x100000000 < a + len then s.tallyRefused x.num 3 0 0
  else
    let n := Nat.min len (upto / 8 * 8) - x.done
    let here (p : Nat) : Bool := decide (a + x.done ≤ p) && decide (p < a + x.done + n)
    let ecc : EccFinds := { corrected := ecc.corrected.filter here, lost := ecc.lost.filter here }
    let s := (s.eccFinds ecc).satInc P.STO R.STO_VERIFY_CNT_corr ecc.corrected.length
    let aux := if x.aux ≠ 0 then x.aux else match s.firstPoison (a + x.done) n with
      | some p => p + 1
      | none => 0
    let s := s.tallyProgress x.num (x.done + n) len aux
    if len ≤ x.done + n then s.tallyDone x.num len (if aux = 0 then 0xFFFFFFFF else aux - 1) else s

/-- STO_VERIFY (R217). -/
def execStoVerify (t tally upto : Nat) (ecc : EccFinds) (s : State) : Host.Outcome State Fault Refusal :=
  let s := s.at t
  match s.runningTally tally 3 with
  | some x => .next (if s.domainOn 7 then s.stoVerify x upto ecc else s)
  | none => .next (s.lateStop tally 3 id)

/-- The keys of a re-key are drawn, where none has begun (R223). -/
def State.rekeyBegins (s : State) : State :=
  if s.sto.newKeys = [] then (List.range 11).foldl (fun (s : State) i => s.drawNewKey i) s else s

/-- The groups below `upto` have moved under the keys drawn (R223); evaluations of points that read a group moved are squashed (R251 row 5). -/
def State.rekeyMoves (s : State) (upto : Nat) : State :=
  let here (a : Nat) : Bool := decide (s.sto.moved ≤ a / 4096) && decide (a / 4096 < upto)
  let s := s.squash 5 (fun p => !isScalar p && (here (spectralRec p) || here (codeAt (s.fv (P.SPX (planeNo p)) R.SPX_PL_STAT_half) p)))
  { s with sto := { s.sto with moved := Nat.max s.sto.moved upto } }

/-- Every group has moved: the keys drawn are the regions' keys (R223). -/
def State.rekeyDone (s : State) : State :=
  { s with sto := { s.sto with keys := s.sto.newKeys.foldl (fun m x => SMap.insert m x.1 x.2) s.sto.keys, newKeys := [], moved := 0 } }

/-- A re-key stops before its end (R223): the placement stays mixed, under the keys drawn. -/
def State.rekeyStops (s : State) : State :=
  (s.rekeyBegins.setFv P.STO R.STO_STAT_rekey 0).setFv P.STO R.STO_STAT_partial 1

/-- The number of groups (R221). -/
def groupCount : Nat := 0x100000

/-- STO_REKEY (R223): the groups below `upto`, in order of their addresses, have moved under new keys, `ecc` what reading them found; with
the last one it is done. A mixed placement that stood is completed with the keys drawn for it. -/
def execStoRekey (t tally upto : Nat) (ecc : EccFinds) (s : State) : Host.Outcome State Fault Refusal :=
  let s := s.at t
  match s.runningTally tally 4 with
  | some _ =>
    if !s.domainOn 7 then .next s
    else
      let s := ((s.eccFinds ecc).rekeyBegins.rekeyMoves upto).tallyProgress tally (Nat.min upto groupCount) groupCount 0
      if upto < groupCount then .next s
      else
        let s := s.rekeyDone.wrapInc P.STO R.STO_KEY_gen 1
        let s := ((s.setFv P.STO R.STO_STAT_rekey 0).setFv P.STO R.STO_STAT_partial 0).irq P.STO 4
        .next (s.tallyDone tally (s.fv P.STO R.STO_KEY_gen) 0)
  | none => .next (s.lateStop tally 4 State.rekeyStops)

/-- Start-up (R229, R232): scrubbing goes on; slack and notice wait for the first sweep. -/
def State.stoStart (s : State) : State :=
  let s := { s with sto := { s.sto with sweeps := [], slackOk := none } }
  s.spareShow.setFb P.STO R.STO_STAT_scrub (s.fb P.STO R.STO_SCRUB_en)

end Sys2Proof.Machine
end

