-- ==== Sys2Proof/Machine/Pte.lean ====
section
/-! DEFINITION. The scalar lane (R233, R234) and the spectral sweep (R238–R240). A pass and the points of a plane are evaluated one after
the other in frontier order, which R253 makes equal to what the run-ahead commits. -/

namespace Sys2Proof.Machine

open Sys2Proof

/-! ### System points (R58, R376, R392, R528) -/

/-- A measured system point: outside its range the nearest end, BAD. -/
def State.sysPoint (s : State) (n : Nat) (v lo hi : Q) : State :=
  s.sourceWrite n (toB32 (Q.clip lo hi v)) (if Q.lt v lo || Q.lt hi v then 3 else 0) 3 s.now

/-- The system points that are renewed once per scalar lane period. -/
def State.renewPoints (s : State) (vmain avdd vsx vbackup temp power : Q) : State :=
  let s := s.sysPoint 0x30 vmain (Q.frac 5 2) (Q.ofNat 4)
  let s := s.sysPoint 0x31 avdd (Q.frac 5 2) (Q.ofNat 4)
  let s := s.sysPoint 0x32 vsx Q.zero (Q.ofNat 36)
  let s := s.sysPoint 0x33 vbackup Q.zero (Q.ofNat 4)
  let s := s.sysPoint 0x34 temp (Q.ofInt (-55)) (Q.ofNat 150)
  let bits := (List.range 16).foldl (fun n i => if bitAt (s.fv P.DIO R.DIO_DI_wb) i then n + 1 else n) 0
  let qa := if s.fv P.DIO R.DIO_STAT_link = 1 then 0 else 3
  let s := s.sourceWrite 0x38 (toB32 (Q.ofNat bits)) qa 3 s.now
  let s := s.sourceWrite 0x39 (toB32 (Q.frac (s.fv P.DIO R.DIO_STAT_vfield) 5)) qa 3 s.now
  let s := s.sourceWrite 0x3A (toB32 power) 0 3 s.now
  (List.range 4).foldl (fun (s : State) ch =>
    let b := P.LPOCH ch
    let q := if s.fv P.LPO R.LPO_STAT_link = 1 ∧ s.fb b R.LPO_CH_CFG_en then 0 else 3
    let s := s.sourceWrite (0x50 + ch) (s.fw b R.LPO_CH_HR_hr) (if s.fb b R.LPO_CH_STAT_compliance then 3 else q) 3 s.now
    s.sourceWrite (0x54 + ch) (s.fw b R.LPO_CH_RB_rb) q 3 s.now) s

/-! ### The scalar lane (R233, R234) -/

def natInsert (n : Nat) : List Nat → List Nat
  | [] => [n]
  | m :: l => if n < m then n :: m :: l else if n = m then m :: l else m :: natInsert n l

/-- A list of numbers in ascending order without repeats. -/
def natSort (l : List Nat) : List Nat := l.foldl (fun acc n => natInsert n acc) []

/-- The points due in a pass, in its three groups (R234). -/
def State.lanePoints (s : State) : List Nat :=
  let on (n : Nat) : Bool := s.classBit (scalarPoint n) R.PTE_CL_CFG_en
  let runs := s.pte.runs.map (fun x => x.1 / 4)
  let all := (natSort (s.pte.due ++ runs ++ s.pte.carried)).filter (fun n => decide (0x100 ≤ n) && on n)
  (List.range 0x100).filter on ++ all.filter (fun n => s.pte.carried.contains n) ++
    all.filter (fun n => !s.pte.carried.contains n)

/-- Evaluate the points of a pass in order; where the change queue is full, or has no room for a point's changes, the lane waits (R249):
the state and the points left. -/
def State.laneEval (s : State) (now : Nat) : List (Nat × Shadow) → State × List (Nat × Shadow)
  | [] => (s, [])
  | x :: l =>
    let e := s.scalarEval x.1 now x.2
    if s.changesFull || decide (16384 < e.pte.changes.length) then (s.irq P.PTE 4, x :: l) else e.laneEval now l

/-- The pass at work goes on (R233, R249, R255): its frontier, the class events, and the commits that SAF draws (R464). -/
def State.laneGo (s : State) (reev : Nat) : State :=
  match s.pte.lane with
  | none => s
  | some x =>
    let old := s
    let e := s.laneEval x.now x.todo
    let taken := (x.todo.take (x.todo.length - e.2.length)).map (fun y => y.1)
    let s := e.1
    let s : State := { s with pte := { s.pte with lane := if e.2.isEmpty then none else some { x with todo := e.2 } } }
    let front := match e.2.head? with
      | some y => y.1
      | none => taken.getLastD (s.fv P.PTE R.PTE_LANE_FRONT_scalar)
    let s := ((s.setFv P.PTE R.PTE_LANE_FRONT_scalar front).setFb P.PTE R.PTE_LANE_FRONT_idle e.2.isEmpty).classEvents old
    let trip := (taken.filter (fun n => old.trips.any (fun x => decide (x.1 = old.entryOf (scalarPoint n))))).length
    if s.diagRuns 6 then s.wrapInc P.SAF R.SAF_REEV_reev (Nat.max trip (Nat.min reev taken.length)) else s

/-- A pass starts over the due points (R233, R234). Its capacity above 1,024 points is open. -/
def State.lanePass (s : State) (reev : Nat) : State :=
  let s := s.wrapInc P.PTE R.PTE_LANE_SEQ_seq 1
  let s := s.setStamp P.PTE R.PTE_LANE_T_LO_t R.PTE_LANE_T_HI_t s.now
  let l := s.lanePoints
  let r : Nat × State := if l.length ≤ 1024 then (l.length, s) else
    let d := s.draw
    (1024 + d.1.toNat % (l.length - 1023), d.2)
  let s := r.2
  let left := l.drop r.1
  let x : Lane := { now := s.now, todo := (l.take r.1).map (fun n => (n, s.snapScalar n)) }
  let s : State := { s with pte := { s.pte with squashed := s.pte.squashed.filter (fun y => !isScalar y.1), carried := left, lane := some x } }
  let s := s.setFv P.PTE R.PTE_STAT_lane_due (Nat.min 2047 l.length)
  let s := s.setFb P.PTE R.PTE_STAT_lane_over (!left.isEmpty)
  let s := if left.isEmpty then s else (s.satInc P.PTE R.PTE_LATE_passes 1).irq P.PTE 3
  s.laneGo reev

/-- SCALAR_PASS (R233): the system points, the thresholds that watch them, a pass that waited for the change queue, then the due points.
`reev` commits are drawn by SAF (R464), beside those of the trip entries; `ecc` is what the pass's reads find. -/
def execScalarPass (t : Nat) (vmain avdd vsx vbackup temp power : Q) (reev : Nat) (ecc : EccFinds) (s : State) : Host.Outcome State Fault Refusal :=
  let s := s.at t
  if !s.domainOn 6 || s.ptePaused then .next s
  else
    let s := ((s.eccFinds ecc).renewPoints vmain avdd vsx vbackup temp power).hotRate
    let s := s.laneGo reev
    let s := if s.fb P.PTE R.PTE_CTRL_sc_en && s.pte.lane.isNone && !s.changesFull then s.lanePass reev else s.irqIf s.changesFull P.PTE 4
    .next s.tempBand.safShow

/-! ### The spectral sweep (R238–R240) -/

/-- The end of the spectral points. -/
def specEnd : Nat := 64 * 0x80000

/-- The first point of the first enabled plane at or above a plane; the end where there is none. -/
def State.nextPlane (s : State) (i : Nat) : Nat :=
  match (List.range 64).find? (fun j => decide (i ≤ j) && s.fb (P.SPX j) R.SPX_PL_CFG_en) with
  | some j => j * 0x80000
  | none => specEnd

/-- The frontier stands at a point. -/
def State.frontier (s : State) (p : Nat) : State :=
  ({ s with pte := { s.pte with nextPoint := p } }).setFv P.PTE R.PTE_FRONTIER_point p

/-- A sweep may start: the previous one has ended, at least eff_period after it started (R238). -/
def State.sweepMay (s : State) : Bool :=
  s.domainOn 6 && !s.ptePaused && s.fb P.PTE R.PTE_CTRL_sp_en && !s.fb P.PTE R.PTE_STAT_sweeping && !s.changesFull &&
    (decide (s.fv P.PTE R.PTE_SWEEP_seq = 0) || decide (s.pte.sweepStart + msecs (10 * s.fv P.PTE R.PTE_EVAL_eff_period) ≤ s.now))

/-- SWEEP_START (R238). -/
def execSweepStart (t : Nat) (s : State) : Host.Outcome State Fault Refusal :=
  let s := s.at t
  if !s.sweepMay then .next s
  else
    let s := (s.wrapInc P.PTE R.PTE_SWEEP_seq 1).setStamp P.PTE R.PTE_SWEEP_T_LO_t R.PTE_SWEEP_T_HI_t s.now
    let s := (s.setFv P.PTE R.PTE_STAT_sweeping 1).setFv P.PTE R.PTE_FRONTIER_idle 0
    let s : State := { s with pte := { s.pte with sweepStart := s.now, atPlane := none, squashed := s.pte.squashed.filter (fun x => isScalar x.1) } }
    .next (s.frontier (s.nextPlane 0))

/-- The frontier enters a plane: it latches the half in force and compares if there is a new commit; commits never evaluated are counted
(R202, R240). -/
def State.enterPlane (s : State) (i : Nat) : State :=
  let b := P.SPX i
  let seq := s.fv b R.SPX_PL_SEQ_seq
  let d := (seq + 2 ^ 32 - SMap.get (fun _ => 0) s.pte.seenSeq i) % 2 ^ 32
  let x : AtPlane :=
    { plane := i, half := s.fv b R.SPX_PL_STAT_half, compared := decide (d ≠ 0), stamp := s.stamp b R.SPX_PL_T_LO_t R.SPX_PL_T_HI_t }
  let s : State := { s with pte := { s.pte with atPlane := some x, seenSeq := SMap.put (fun _ => 0) s.pte.seenSeq i seq } }
  if d ≤ 1 then s
  else ((s.satInc P.PTE R.PTE_SKIP_skip (d - 1)).setFv P.PTE R.PTE_SKIP_PL_plane i).irq P.PTE 2

/-- The frontier leaves the plane: a build that waited for its half commits (R202). -/
def State.leavePlane (s : State) (i : Nat) : State :=
  let s : State := { s with pte := { s.pte with atPlane := none } }
  (s.planeUnlatched i).frontier (s.nextPlane (i + 1))

/-- Evaluate points of the plane at the frontier in order; where the change queue has no room the frontier waits (R249). -/
def State.sweepEval (s : State) (x : AtPlane) : List Nat → State
  | [] => s.leavePlane x.plane
  | p :: l =>
    let e := s.specEval x p
    if s.changesFull || decide (16384 < e.pte.changes.length) then (s.frontier p).irq P.PTE 4 else e.sweepEval x l

/-- The points of the plane at the frontier that are not yet evaluated. -/
def State.planePoints (s : State) (i : Nat) : List Nat :=
  (s.listedSpectral i).filter (fun p => decide (s.pte.nextPoint ≤ p))

/-- PLANE_EVALUATION (R240): the frontier enters the next plane, or goes on in the one where it waited. While sp_en = 0 no point is
evaluated (R238). `reev` commits are drawn by SAF (R464). -/
def execPlaneEvaluation (t reev : Nat) (ecc : EccFinds) (s : State) : Host.Outcome State Fault Refusal :=
  let s := s.at t
  if !s.domainOn 6 || s.ptePaused || !s.fb P.PTE R.PTE_STAT_sweeping || s.changesFull then .next (s.irqIf (s.domainOn 6 && s.changesFull) P.PTE 4)
  else
    let s := if s.pte.atPlane.isNone then s.frontier (Nat.max s.pte.nextPoint (s.nextPlane (planeNo s.pte.nextPoint))) else s
    if specEnd ≤ s.pte.nextPoint then .next s
    else
      let i := planeNo s.pte.nextPoint
      if !s.fb P.PTE R.PTE_CTRL_sp_en then .next (s.leavePlane i)
      else
        let old := s
        let s := s.eccFinds ecc
        let s := if s.pte.atPlane.isNone then s.enterPlane i else s
        match s.pte.atPlane with
        | none => .next s
        | some x =>
          let ps := s.planePoints i
          let s := ((s.sweepEval x ps).classEvents old).safShow
          .next (if s.diagRuns 7 then s.wrapInc P.SAF R.SAF_REEV_reev (Nat.min reev ps.length) else s)

/-- SWEEP_END (R239): every enabled plane has been taken. -/
def execSweepEnd (t conflict shelf : Nat) (s : State) : Host.Outcome State Fault Refusal :=
  let s := s.at t
  if !s.domainOn 6 || s.ptePaused || !s.fb P.PTE R.PTE_STAT_sweeping || s.pte.atPlane.isSome ||
      decide (s.nextPlane (planeNo s.pte.nextPoint) < specEnd) then .next s
  else
    let len := s.now - s.pte.sweepStart
    let cs := Nat.min 65535 (toMs len / 10)
    let late := decide (secs 10 < len)
    let s := s.setFv P.PTE R.PTE_SWEEP_LEN_last cs
    let s := s.setFv P.PTE R.PTE_SWEEP_LEN_max (Nat.max cs (s.fv P.PTE R.PTE_SWEEP_LEN_max))
    let s := s.setFb P.PTE R.PTE_STAT_late late
    let s := if late then (s.satInc P.PTE R.PTE_LATE_sweeps 1).irq P.PTE 1 else s
    let s := ((s.setFv P.PTE R.PTE_STAT_sweeping 0).setFv P.PTE R.PTE_FRONTIER_idle 1).irq P.PTE 0
    .next (s.stoSweep cs conflict shelf)

/-! ### Waiting time (R30, R238) -/

/-- Time that does not count moves the start of the sweep in progress. -/
def State.sweepShift (s : State) (n : Nat) : State :=
  { s with pte := { s.pte with sweepStart := s.pte.sweepStart + n } }

/-- Runs in progress do not grow in time that does not count (R30, R237). -/
def State.runsShift (s : State) (n : Nat) : State :=
  { s with pte := { s.pte with runs := s.pte.runs.map (fun x => (x.1, { x.2 with since := x.2.since.map (fun t => t + n) })) } }

end Sys2Proof.Machine
end

