-- ==== Sys2Proof/Machine/Age.lean ====
section
/-! DEFINITION. Ageing margins and the planner (R475–R484). -/

namespace Sys2Proof.Machine

open Sys2Proof

/-! ### Time that counts (R477, R478) -/

/-- Steps of RUN and LEAN so far. -/
def State.runSteps (s : State) : Nat := s.age.runAcc + (match s.age.runFrom with | some t => s.now - t | none => 0)

/-- Counting starts or stops: RUN and LEAN, and RUN, LEAN and DORMANT. -/
def State.ageCount (s : State) (run op : Bool) : State :=
  { s with age := { s.age with
    runAcc := s.runSteps, runFrom := if run then some s.now else none
    opAcc := s.opSteps, opFrom := if op then some s.now else none } }

/-! ### Margins (R475–R477) -/

/-- A margin that falls linearly from 100 % at `a` to 0 % at `b`. -/
def linearMargin (a b x : Q) : Q := Q.clip Q.zero (Q.ofNat 100) (Q.mul (Q.ofNat 100) (Q.div (Q.sub b x) (Q.sub b a)))

/-- Monitor 1: the largest of |ref_dev| and |d| over the converters, in ppm. -/
def State.refDrift (s : State) : Q :=
  (List.range 8).foldl (fun m k => Q.max m (Q.abs (Q.make (sext 16 (s.fv (P.CV k) R.CV_DRIFT_d)) 100)))
    (Q.abs (Q.make (sext 16 (s.fv P.SAC R.SAC_REF_ref_dev)) 100))

/-- Monitor 3: the change of TBS_XRATIO since the latest time write, in ppb. -/
def State.xtalDrift (s : State) : Int := sext 32 (s.fv P.TBS R.TBS_XRATIO_ratio) - s.age.xratio

/-- The margin of a domain's monitor other than handshake completion, with its code (Table 20-1). -/
def State.otherMargin (s : State) (m : MonitorInput) (d : Nat) : Option (Nat × Q) :=
  if d = 0 then some (3, linearMargin Q.zero (Q.ofNat (100 * s.fv P.AGE R.AGE_LIM2_xtal_lim)) (Q.ofNat s.xtalDrift.natAbs))
  else if d = 3 then some (1, linearMargin Q.zero (Q.ofNat 20) s.refDrift)
  else if d = 4 then some (7, linearMargin Q.zero (Q.frac 1 20) (Q.abs m.gm))
  else if d = 7 then
    some (2, Q.min (linearMargin Q.one Q.zero m.sense) (linearMargin Q.zero (Q.ofNat 1024) (Q.ofNat m.corrected)))
  else if d = 9 then some (6, linearMargin m.dominant0 (Q.frac 3 2) m.dominant)
  else if d = 10 then some (4, linearMargin Q.one (Q.ofNat 2) m.drop)
  else if d = 11 then some (5, linearMargin (Q.frac 3 10) Q.one m.headroom)
  else none

/-- The class of a service margin (R476). -/
def marginClass (q : Q) : Nat :=
  if Q.le (Q.ofNat 50) q then 0 else if Q.le (Q.ofNat 25) q then 1 else if Q.le (Q.ofNat 10) q then 2 else 3

/-- A domain's service margin and the monitor that sets it. -/
def State.serviceOf (s : State) (d : Nat) : Nat × Q :=
  let c := (s.age.comp.getD d none).getD (Q.ofNat 100)
  match s.age.others.getD d none with
  | some (k, q) => if Q.lt q c then (k, q) else (0, c)
  | none => (0, c)

/-- The offset of a domain in 5 mV steps. -/
def State.offset (s : State) (d : Nat) : Nat := s.fv P.AGE (R.AGE_DOM_ofs.nth d)

/-- The life estimate in 0.1 years (R477). -/
def State.lifeOf (s : State) (d : Nat) : Nat :=
  let days := SMap.inRange s.age.days (d * 2 ^ 32) ((d + 1) * 2 ^ 32)
  match days.head?, days.getLast? with
  | some a, some b =>
    let slope := Q.div (Q.sub a.2 b.2) (Q.ofNat (b.1 - a.1))
    if a.1 = b.1 ∨ slope.num ≤ 0 then 255
    else
      let steps := if d = 0 ∨ d = 2 then 0 else s.fv P.AGE R.AGE_LIM_ofs_max - s.offset d
      let gain := Q.mul (Q.ofNat steps) ((s.age.gains.getD d none).getD Q.zero)
      let left := Q.sub (Q.add (s.serviceOf d).2 gain) (Q.ofNat (s.fv P.AGE R.AGE_CFG_urgent))
      Nat.min 255 (Q.round (Q.div (Q.mul (Q.ofNat 10) left) (Q.mul slope (Q.ofNat 365)))).toNat
  | _, _ => 255

/-- Show a domain's margin, class, monitor and life; system point 0x0060 + n follows (R476, R477, R483). -/
def State.showMargin (s : State) (d : Nat) : State :=
  let (mon, q) := s.serviceOf d
  let was := s.fv P.AGE (R.AGE_DOM_class.nth d)
  let c := marginClass q
  let s : State := { s with age := { s.age with service := s.age.service.set d q } }
  let s := (s.setFv P.AGE (R.AGE_DOM_margin.nth d) q.toNat).setFv P.AGE (R.AGE_DOM_class.nth d) c
  let s := (s.setFv P.AGE (R.AGE_DOM_mon.nth d) mon).setFv P.AGE (R.AGE_DOM_life.nth d) (s.lifeOf d)
  let s := s.sourceWrite (0x60 + d) (toB32 q) 0 3 s.now
  let s := s.irqIf (decide (was < 2) && decide (2 ≤ c)) P.AGE 2
  s.irqIf (decide (was < 3) && decide (3 ≤ c)) P.AGE 3

/-- AGE_STAT's view of the domains: notice, critical, the lowest margin (R483). -/
def State.showLowest (s : State) : State :=
  let cls (d : Nat) : Nat := s.fv P.AGE (R.AGE_DOM_class.nth d)
  let any (n : Nat) : Bool := (List.range 12).any (fun d => decide (n ≤ cls d))
  let m (d : Nat) : Q := s.age.service.getD d Q.zero
  let low := (List.range 12).foldl (fun b d => if Q.lt (m d) (m b) then d else b) 0
  let s := (s.setFb P.AGE R.AGE_STAT_notice (any 2)).setFb P.AGE R.AGE_STAT_critical (any 3)
  (s.setFv P.AGE R.AGE_STAT_low_dom low).setFv P.AGE R.AGE_STAT_low_class (cls low)

/-- The daily margin of a domain: the latest of each day of operation, for 365 days (R477). -/
def State.keepDay (s : State) (d : Nat) : State :=
  let day := s.opSteps / secs 86400
  let days := SMap.insert s.age.days (d * 2 ^ 32 + day) (s.serviceOf d).2
  { s with age := { s.age with days := days.filter (fun x => decide (x.1 / 2 ^ 32 ≠ d) || decide (day < x.1 % 2 ^ 32 + 365)) } }

/-- A domain in a monitor pass (R475). -/
def State.measureDomain (s : State) (m : MonitorInput) (d : Nat) : State :=
  if !s.domainOn d then s.setFv P.AGE (R.AGE_DOM_stale.nth d) 1
  else
    let c := linearMargin (Q.frac 1 2) Q.one (m.completion.getD d Q.zero)
    let s : State := { s with age := { s.age with
      comp := s.age.comp.set d (some c)
      others := s.age.others.set d (s.otherMargin m d) } }
    ((s.setFv P.AGE (R.AGE_DOM_stale.nth d) 0).keepDay d).showMargin d

/-- The completion margin of a domain lies below a figure in %. -/
def State.compBelow (s : State) (d n : Nat) : Bool :=
  match s.age.comp.getD d none with
  | some q => Q.lt q (Q.ofNat n)
  | none => false

/-- Monitors 1 and 2 of the latest pass that measured them, and since when each relaxable quantity's monitor has stood at target + 15 %. -/
def State.watchRelax (s : State) (m : MonitorInput) : State :=
  let m1 := if s.domainOn 3 then (s.otherMargin m 3).map (fun x => x.2) else s.age.mon1
  let m2 := if s.domainOn 7 then (s.otherMargin m 7).map (fun x => x.2) else s.age.mon2
  let top := s.fv P.AGE R.AGE_CFG_target + 15
  let high (q : Option Q) : Bool := match q with | some q => Q.le (Q.ofNat top) q | none => false
  let ok := [high (s.age.comp.getD 6 none) && high (s.age.comp.getD 7 none), high m1, high m2]
  { s with age := { s.age with
    mon1 := m1, mon2 := m2
    weak := if s.domainOn 7 then m.weak else s.age.weak
    okFrom := (List.range 3).map (fun i => if ok.getD i false then some ((s.age.okFrom.getD i none).getD s.now) else none) } }

/-- MONITOR_PASS (R475): every 60 s of RUN and LEAN. A completion margin below urgent makes a plan due (R478). -/
def execMonitorPass (t : Nat) (m : MonitorInput) (s : State) : Host.Outcome State Fault Refusal :=
  let s := s.at t
  if !s.ready || decide (2 ≤ s.pstate) || s.age.runPass.any (fun n => decide (s.runSteps < n + secs 60)) then .next s
  else
    let s : State := { s with age := { s.age with runPass := some s.runSteps } }
    let s := ((List.range 12).foldl (fun (s : State) d => s.measureDomain m d) s).watchRelax m
    let s := s.setFv P.AGE R.AGE_XTAL_drift (uext 16 (iclip (-32768) 32767 (Q.round (Q.make s.xtalDrift 10))))
    let low := (List.range 12).any (fun d => s.domainOn d && s.compBelow d (s.fv P.AGE R.AGE_CFG_urgent))
    let s : State := if low && s.age.plan.isNone then { s with age := { s.age with due := some 1 } } else s
    .next s.showLowest

/-! ### The planned values in force (R481) -/

/-- eff_period, eff_scrub and eff_h as they follow from the settings and the planned values. -/
def State.plannedShow (s : State) : State :=
  let per := s.fv P.AGE R.AGE_CAP_per
  let scrub := s.fv P.AGE R.AGE_CAP_scrub
  let s := s.setFv P.PTE R.PTE_EVAL_eff_period (Nat.max per (s.fv P.PTE R.PTE_EVAL_period))
  let p := s.fv P.STO R.STO_SCRUB_period
  let s := s.setFv P.STO R.STO_STAT_eff_scrub (if scrub = 0 then p else Nat.min scrub p)
  (List.range 8).foldl (fun (s : State) k =>
    s.setFv (P.CV k) R.CV_CAL_STAT_eff_h (Nat.min s.calLongest (s.fv (P.CV k) R.CV_CAL_STAT_eff_h))) s

/-! ### Plans (R478–R480, R482) -/

/-- A step more on a domain's offset may be taken: below ofs_max, and the RUN power predicted stays at or below 4.8 W (R480). -/
def State.stepFits (s : State) (d : Nat) : Bool :=
  let ofs := (List.range 12).map (fun i => if i = d then s.offset i + 1 else s.offset i)
  decide ((Config.runPower ofs).toNat ≤ 4800)

def State.belowMax (s : State) (d : Nat) : Bool := decide (s.offset d < s.fv P.AGE R.AGE_LIM_ofs_max)

/-- A domain whose supply the planner may move (Table 20-2). -/
def movable (d : Nat) : Bool := decide (d ≠ 0) && decide (d ≠ 2)

def State.setPlan (s : State) (p : Option AgePlan) : State := { s with age := { s.age with plan := p } }

/-- The domain takes part no more in action 1. -/
def AgePlan.finish (p : AgePlan) (d : Nat) : AgePlan := { p with dom := none, done := p.done ++ [d] }

/-- Action 1 for domain `d`: one step of +5 mV where it may be taken (R479, R480). -/
def State.raiseOffset (s : State) (p : AgePlan) (d : Nat) : State :=
  if !s.belowMax d then s.setPlan (some (p.finish d))
  else if !s.stepFits d then (s.setPlan (some (p.finish d))).setFv P.AGE R.AGE_STAT_power_cap 1
  else if !p.apply then s.setPlan (some { p.finish d with changed := p.changed ||| 2 ^ d })
  else
    (s.setPlan (some { p with dom := some d, before := (s.age.comp.getD d none).getD Q.zero, stepAt := s.now })).setFv P.AGE (R.AGE_DOM_ofs.nth d)
      (s.offset d + 1)

/-- Actions 1 of the domains not yet finished, until one settles. -/
def State.raiseOffsets (s : State) : State :=
  (List.range 12).foldl (fun (s : State) d =>
    match s.age.plan with
    | some p =>
      if p.dom.isSome || p.done.contains d then s
      else if movable d && s.compBelow d (s.fv P.AGE R.AGE_CFG_target) then s.raiseOffset p d
      else s.setPlan (some (p.finish d))
    | none => s) s

/-- Action 2 (Table 20-2). -/
def State.lowerOffsets (s : State) (p : AgePlan) : State :=
  (List.range 12).foldl (fun (s : State) d =>
    if movable d && decide (0 < s.offset d) && decide (s.offset d ≤ p.ofs.getD d 0) && (s.age.comp.getD d none).isSome &&
        !s.compBelow d 50
    then s.setFv P.AGE (R.AGE_DOM_ofs.nth d) (s.offset d - 1) else s) s

/-- The rows of a shelf next to a weak one, and the row. -/
def weakRows (l : List (Nat × Nat)) : List (Nat × Nat) :=
  ((l.flatMap (fun x => [(x.1, x.2 - 1), x, (x.1, x.2 + 1)])).filter (fun x => decide (x.2 < 2 ^ 18))).eraseDups

/-- A cap that halves from the interval in force, not below `low`; 0 is none. -/
def halfCap (cap interval low : Nat) : Nat :=
  let cur := if cap = 0 then interval else cap
  let new := Nat.min 255 (Nat.max (Nat.max 1 low) (cur / 2))
  if new < cur then new else cap

/-- A cap relaxed by one step: twice as long, none from the interval on. -/
def doubleCap (cap interval : Nat) : Nat := if interval ≤ 2 * cap then 0 else 2 * cap

def State.okFor (s : State) (i : Nat) : Bool :=
  match s.age.okFrom.getD i none with
  | some t => decide (t + secs 2592000 ≤ s.now)
  | none => false

/-- Actions 3–7 (Table 20-2): the planned period and the caps, the rows marked weak. -/
def State.planCaps (s : State) : State :=
  let target := s.fv P.AGE R.AGE_CFG_target
  let low (q : Option Q) : Bool := match q with | some q => Q.lt q (Q.ofNat target) | none => false
  let stuck (d : Nat) : Bool := s.compBelow d target && !(s.belowMax d && s.stepFits d)
  let per := s.fv P.AGE R.AGE_CAP_per
  let period := s.fv P.PTE R.PTE_EVAL_period
  let per' :=
    if stuck 6 || stuck 7 then
      (let n := Nat.min (Nat.min 1000 (s.fv P.AGE R.AGE_LIM_per_max)) (Nat.max per period + 50)
       if Nat.max per period < n then n else per)
    else if s.okFor 0 && decide (per ≠ 0) then (if per - 50 ≤ period then 0 else per - 50)
    else per
  let cal := s.fv P.AGE R.AGE_CAP_cal
  let h := s.fv P.SAC R.SAC_CAL_CFG_interval
  let cal' := if low s.age.mon1 then halfCap cal h (s.fv P.AGE R.AGE_LIM_cal_min)
    else if s.okFor 1 && decide (cal ≠ 0) then doubleCap cal h else cal
  let scrub := s.fv P.AGE R.AGE_CAP_scrub
  let p := s.fv P.STO R.STO_SCRUB_period
  let scrub' := if low s.age.mon2 then halfCap scrub p (s.fv P.AGE R.AGE_LIM2_scrub_min)
    else if s.okFor 2 && decide (scrub ≠ 0) then doubleCap scrub p else scrub
  let s := ((s.setFv P.AGE R.AGE_CAP_per per').setFv P.AGE R.AGE_CAP_cal cal').setFv P.AGE R.AGE_CAP_scrub scrub'
  let rows := (weakRows s.age.weak).filter (fun x => !s.age.marked.contains x)
  let s := rows.foldl (fun (s : State) r => s.rowDue r) s
  { s with age := { s.age with weak := [], marked := s.age.marked ++ rows } }

/-- The triggers of a plan that led from `old` to `s` (R482): action, domain and final value of each quantity changed. -/
def State.planTriggers (s old : State) (p : AgePlan) : List (Nat × Nat × Nat) :=
  let ds := List.range 12
  let ofs := (ds.filter (fun d => decide (s.offset d ≠ p.ofs.getD d 0))).map (fun d => (1, d, s.offset d))
  let f (a d : Nat) (f : Field) (k : Nat) : List (Nat × Nat × Nat) :=
    if s.fv P.AGE f = old.fv P.AGE f then [] else [(a, d, s.fv P.AGE f / k)]
  let target := s.fv P.AGE R.AGE_CFG_target
  let pd := if !old.compBelow 6 target && old.compBelow 7 target then 7 else 6
  let rows := s.age.marked.length - old.age.marked.length
  let cls := (ds.filter (fun d => decide (s.fv P.AGE (R.AGE_DOM_class.nth d) ≠ p.classes.getD d 0))).map
    (fun d => (6, d, s.fv P.AGE (R.AGE_DOM_class.nth d)))
  ofs ++ f 2 pd R.AGE_CAP_per 50 ++ f 3 3 R.AGE_CAP_cal 1 ++ f 4 7 R.AGE_CAP_scrub 1 ++
    (if rows = 0 then [] else [(5, 7, Nat.min 255 rows)]) ++ cls

/-- The plan's remaining actions, its triggers and its end (R478, R479, R482). -/
def State.planEnds (s : State) (p : AgePlan) : State :=
  let after := (s.lowerOffsets p).planCaps
  let trig := after.planTriggers s p
  let changed := trig.foldl (fun m x => if x.1 = 6 then m else m ||| 2 ^ x.2.1) p.changed
  let s := if p.apply then after.plannedShow else s
  let trig := if p.apply then trig else []
  let s := trig.foldl (fun (s : State) x => s.sysTrigger 4 (x.1 * 4096 + x.2.1 * 256 + x.2.2 % 256)) s
  let n := trig.length
  let s := (s.setFv P.AGE R.AGE_ACT_last n).satInc P.AGE R.AGE_ACT_total n
  let s := ((s.irqIf (decide (n ≠ 0)) P.AGE 1).irq P.AGE 0).setFv P.AGE R.AGE_STAT_running 0
  let s := s.showLowest.setPlan none
  if p.src = 2 then s.tallyDone p.tally changed (s.fv P.AGE R.AGE_STAT_low_class) else s

/-- The plan goes on: the next offset step, or its end. -/
def State.planGoes (s : State) : State :=
  let s := s.raiseOffsets
  match s.age.plan with
  | some p => if p.dom.isSome then s else s.planEnds p
  | none => s

/-- A plan starts (R478). -/
def State.planStarts (s : State) (src tally : Nat) (apply : Bool) : State :=
  let p : AgePlan :=
    { src := src, tally := tally, apply := apply, dom := none, before := Q.zero, stepAt := 0, done := [], ofs := (List.range 12).map s.offset,
      classes := (List.range 12).map (fun d => s.fv P.AGE (R.AGE_DOM_class.nth d)), changed := 0 }
  let s := ((s.setPlan (some p)).setFv P.AGE R.AGE_STAT_running 1).wrapInc P.AGE R.AGE_STAT_plans 1
  let s := (s.setStamp P.AGE R.AGE_T_LO_t R.AGE_T_HI_t s.now).setFv P.AGE R.AGE_STAT_power_cap 0
  ((s.setFv P.AGE R.AGE_ACT_last 0).irqIf (decide (src = 1)) P.AGE 4).planGoes

/-- PLAN_DUE (R478): AGE_CFG.interval hours of RUN and LEAN since the plan before. A low margin makes one due at the end of its pass. -/
def execPlanDue (t : Nat) (s : State) : Host.Outcome State Fault Refusal :=
  let s := s.at t
  if s.ready && s.fb P.AGE R.AGE_CFG_auto && decide (secs 3600 * s.fv P.AGE R.AGE_CFG_interval ≤ s.runSteps - s.age.runPlan) then
    .next { s with age := { s.age with runPlan := s.runSteps, due := some (s.age.due.getD 0) } }
  else .next s

/-- No plan is at work, nor a tally of the Margin class running (R97, R478). -/
def State.marginFree (s : State) : Bool :=
  s.age.plan.isNone && s.tly.out.all (fun x => !(x.running && x.outcome.isNone && decide (x.op = 0x70)))

/-- PLAN (R478, R479): the plan due runs, in RUN or LEAN. -/
def execPlan (t : Nat) (s : State) : Host.Outcome State Fault Refusal :=
  let s := s.at t
  match s.age.due with
  | some k =>
    if s.ready && decide (s.pstate ≤ 1) && s.marginFree then
      .next (({ s with age := { s.age with due := none } }).planStarts k 0 (s.fb P.AGE R.AGE_CFG_apply))
    else .next s
  | none => .next s

/-- A plan cut short by a cancel, a deadline or a loss of power: its steps stay. -/
def State.planStops (s : State) : State := (s.setPlan none).setFv P.AGE R.AGE_STAT_running 0

/-- A tally's plan is cut short. -/
def State.planTallyStops (s : State) (n : Nat) : State :=
  match s.age.plan with
  | some p => if p.src = 2 ∧ p.tally = n then s.planStops else s
  | none => s

/-- MARGIN_PLAN (R478): tally operation 0x70 runs a plan, applying its actions while ARG0 = 1. -/
def execMarginPlan (t tally : Nat) (s : State) : Host.Outcome State Fault Refusal :=
  let s := s.at t
  match s.runningTally tally 0x70 with
  | some x => .next (if s.age.plan.isNone then s.planStarts 2 tally (decide (x.arg 0 ≠ 0)) else s)
  | none => .next (s.lateStop tally 0x70 (fun s => s.planTallyStops tally))

/-- The tally of the plan at work has passed its deadline: the plan ends (R100). -/
def State.planLate (s : State) : State :=
  match s.age.plan with
  | some p => if p.src = 2 then s.lateStop p.tally 0x70 (fun s => s.planTallyStops p.tally) else s
  | none => s

/-- OFFSET_STEP_SETTLED (R479, Table 20-3): at least 1.0 s after its step the domain is measured again; another step until its completion margin reaches target + 5 %. -/
def execOffsetStepSettled (t : Nat) (completion : Q) (s : State) : Host.Outcome State Fault Refusal :=
  let s := (s.at t).planLate
  match s.age.plan with
  | none => .next s
  | some p =>
    match p.dom with
    | none => .next s
    | some d =>
      if s.now < p.stepAt + secs 1 then .next s
      else if !s.domainOn d then .next (s.setPlan (some (p.finish d))).planGoes
      else
        let c := linearMargin (Q.frac 1 2) Q.one completion
        let s : State := { s with age := { s.age with
          comp := s.age.comp.set d (some c)
          gains := s.age.gains.set d (some (Q.sub c p.before)) } }
        let s := s.showMargin d
        if s.compBelow d (s.fv P.AGE R.AGE_CFG_target + 5) then .next (s.raiseOffset { p with dom := none } d).planGoes
        else .next (s.setPlan (some (p.finish d))).planGoes

/-! ### Writes (R481, R484) -/

/-- A write of AGE_CTRL (R484). -/
def State.ageCtrl (s : State) (p : Port) (v : Word) : State :=
  if !v.getLsbD 0 then s
  else if s.age.plan.isSome || !s.maintains p then s.clampAt P.AGE R.AGE_CTRL_reset_ofs.off 0 true 1 0
  else
    let s := (List.range 12).foldl (fun (s : State) d => s.setFv P.AGE (R.AGE_DOM_ofs.nth d) 0) s
    (s.setReg (P.AGE + R.AGE_CAP_per.off) 0#32).plannedShow

/-- The values of AGE_CFG and AGE_LIM that depend on others (Table 20-4). -/
def ageFixes (s : State) (b : Nat) (c : Cand) : List (Field × Nat) :=
  [(R.AGE_CFG_urgent, nclip 5 (nclip 15 50 (c.fv s b R.AGE_CFG_target) - 5) (c.fv s b R.AGE_CFG_urgent)),
   (R.AGE_LIM_per_max, nclip (s.fv P.PTE R.PTE_EVAL_period) 1000 (c.fv s b R.AGE_LIM_per_max))]

end Sys2Proof.Machine
end

