-- ==== Sys2Proof/Machine/Events.lean ====
section
/-! DEFINITION. Events that reach several blocks: diagnostics (R462, R463) and SELFTEST (R471), up frames of attic A with their edges
(R369, R284, R307), received CAN frames (R410, R291, R307), AVDD (R57). -/

namespace Sys2Proof.Machine

open Sys2Proof

/-! ### Diagnostics (R462–R466) -/

/-- Diagnostic 4 fails on converter `k`: the saf fault on every channel that is not OFF and on the partner of a BRIDGE6 channel (R463); point 0x35 where it read it (R145). -/
def State.conv4Fails (s : State) (k : Nat) : State :=
  let s := { s with saf := { s.saf with conv4 := withBit s.saf.conv4 k true, checkPasses := s.saf.checkPasses.set k 0 } }
  let s := ((cvChannels k).filter (fun ch => decide (s.scMode ch ≠ 0) || s.scPartnered ch)).foldl
    (fun (s : State) ch => (s.scFaults ch 0x1000 0x1000).scShow ch) s
  s.termShow

/-- Diagnostic 4 clears on converter `k`: the saf fault clears and the channels settle (R463). -/
def State.conv4Clears (s : State) (k : Nat) : State :=
  let s := { s with saf := { s.saf with conv4 := withBit s.saf.conv4 k false } }
  let s := (cvChannels k).foldl (fun (s : State) ch => (s.scFaults ch 0x1000 0).scShow ch) s
  if s.sac.termBy = some k && s.domainOn 3 && bitAt (s.fv P.SAC R.SAC_CTRL_cv_en) k then s.sourceQuality 0x35 0 else s

/-- What diagnostic `code` judges includes `detail` (R462, R465, R466): an enabled converter, a loop channel of SAF_LPO_MON, a task of
SAF_FBE. -/
def State.diagJudges (s : State) (code detail : Nat) : Bool :=
  match code with
  | 4 => decide (detail < 8) && bitAt (s.fv P.SAC R.SAC_CTRL_cv_en) detail
  | 11 => decide (detail < 4) && bitAt (s.fv P.SAF R.SAF_LPO_MON_mask) detail
  | 12 => decide (detail < 8) && bitAt (s.fv P.SAF R.SAF_FBE_tasks) detail
  | _ => true

/-- Converter `k` stalls (diagnostic 4): no slot result for 4 × t_cycle_max, its scan held by a link test too (R519). -/
def State.cvStalls (s : State) (k : Nat) : Bool :=
  let late (t0 : Nat) : Bool := decide (t0 + 4 * s.cvCycle k ≤ s.now)
  if s.linkOn 7 k then late (s.stamp P.LNK R.LNK_T_LO_t R.LNK_T_HI_t) else (s.cv k).slot.any (fun x => late x.start)

/-- What the node's own state says of a diagnostic's failure on `detail` (Table 19-2, R465, R466): the check results and stalls of a
converter, the age of the island frames, the loops, the tasks. The other failures are faults of the part itself. -/
def State.diagFound (s : State) (code detail : Nat) : Bool :=
  match code with
  | 4 => decide (2 ≤ s.saf.checkFails.getD detail 0) || s.cvStalls detail
  | 9 => s.upLateA
  | 10 => s.upLateB
  | 11 => s.loopFails detail
  | 12 => s.taskStands detail
  | _ => true

/-- The guaranteed detection time of a diagnostic (Table 19-2); of diagnostic 12 that of the longest task judged. -/
def State.detectTime (s : State) (code : Nat) : Nat :=
  match code with
  | 0 | 1 | 2 | 9 => msecs 1
  | 3 => msecs 100
  | 5 | 6 | 13 => secs 2
  | 7 => secs 30
  | 8 => secs 60
  | 10 => if s.lpo.lpow then usecs 1250 else msecs 1
  | 11 => msecs 20
  | _ => (List.range 8).foldl (fun m n => if bitAt (s.fv P.SAF R.SAF_FBE_tasks) n then Nat.max m (msecs (2 * (s.taskEntry n).period)) else m) 0

/-- A diagnostic that the node's state decides fails on nothing that it judges. -/
def State.diagPasses (s : State) (code : Nat) : Bool :=
  if code = 3 then s.tbs.refOk
  else if 9 ≤ code ∧ code ≤ 12 then (List.range 8).all (fun d => !(s.diagJudges code d && s.diagFound code d)) else true

/-- A diagnostic that runs now fails on `detail`; for diagnostics 6 and 7 that is the point's address. -/
def State.diagnosticFails (s : State) (code detail : Nat) : State :=
  if decide (13 < code) || !s.diagRuns code || !s.diagJudges code detail || !s.diagFound code detail then s
  else
    let s := if code = 4 then s.conv4Fails detail else s
    let s := if code = 6 ∨ code = 7 then s.setFv P.SAF R.SAF_CAUSE_PT_point detail else s
    (s.diagFail code detail).safShow

/-- DIAGNOSTIC_FAIL (R454, R462–R468). -/
def execDiagnosticFail (t code detail : Nat) (s : State) : Host.Outcome State Fault Refusal := .next ((s.at t).diagnosticFails code detail)

/-- DIAGNOSTIC_CLEAR (R462, R463): the diagnostic has passed for its detection time since it failed last (State.failsUntil); code 4 after four passing checks of the converter, and
its bit stands while another converter fails; code 14 clears by a SELFTEST only. -/
def execDiagnosticClear (t code detail : Nat) (s : State) : Host.Outcome State Fault Refusal :=
  let s := s.at t
  if decide (13 < code) || !s.diagRuns code then .next s
  else if code = 4 then
    if detail < 8 ∧ bitAt s.saf.conv4 detail ∧ 4 ≤ s.saf.checkPasses.getD detail 0 then
      let s := s.conv4Clears detail
      .next (if s.saf.conv4 = 0 then s.diagClear 4 else s)
    else .next s
  else if s.diagPasses code && decide (s.saf.failAt.getD code 0 + s.detectTime code ≤ s.now) then .next (s.diagClear code)
  else .next s

/-- SELFTEST (R471, R472): the tests of ARG0 run; `failed` is what the part finds. -/
def execSelftest (t tally failed : Nat) (s : State) : Host.Outcome State Fault Refusal :=
  let s := s.at t
  match s.runningTally tally 0x50 with
  | some x =>
    let mask := Nat.min 0x7F (x.arg 0)
    let bad := failed &&& mask
    .next ((s.tallyDone tally (mask - bad) bad).selftestEnds mask bad)
  | none => .next (s.lateStop tally 0x50 id)

/-! ### Attic A -/

/-- A debounced edge reported by attic A: the acknowledge input (R284), event tasks (R307), a wake source (R381). -/
def State.inputEdge (s : State) (ch : Nat) (on : Bool) (stamp : Nat) : State :=
  let s := if on then s.ackInput ch stamp else s
  let s := (List.range 16).foldl (fun (s : State) n =>
    let e := s.taskEntry n
    if bitAt e.diMask ch && (decide (e.diEdge = 2) || decide (e.diEdge = (if on then 0 else 1))) then s.fbeTrigger n stamp else s) s
  if s.fb P.DIO (R.DIO_DIN_wake.nth ch) then s.wakeSource 1 else s

/-- UP_FRAME_A (R369, R370, R372, R375): one in each 50 µs; a frame that passes its checks enters, another is counted. The island sends down to
12.0 V, whether COR hears it or not, and frames that carry a link test's pattern are none of its own. -/
def execUpFrameA (t : Nat) (ok : Bool) (seq rb : Nat) (s : State) : Host.Outcome State Fault Refusal :=
  let s := s.at t
  if decide (s.dio.vfield < 12000) || decide (s.dio.upSlot = some (frameSlot s.now)) then .next s
  else
    let (s, edges, lost) := s.upFrameSent seq rb
    if !s.corOn || s.linkTest 1 then .next s
    else
    let good := frameGood s.dio.upSeq ok seq
    let s := s.upFrameSeen ok seq
    if !good then .next s.upFrameBad
    else
    let r := (s.failsUntil 9 s.upLateA).upFrameA seq rb edges lost
    .next (r.2.foldl (fun (s : State) (e : Nat × Bool × Nat) => s.inputEdge e.1 e.2.1 e.2.2) r.1)

/-! ### CAN -/

/-- CAN_FRAME_RECEIVED (R407, R410–R412): an ANSWER frame in object 126 of port A goes to ALH (R291); an object named by an event task
releases it (R307). -/
def execCanFrameReceived (t : Nat) (port : Fin 2) (stamp : Nat) (frame : CanFrame) (s : State) : Host.Outcome State Fault Refusal :=
  let s := s.at t
  let p := port.val
  let stamp := Nat.min stamp s.now
  let r := s.canReceive p stamp frame
  match r.2 with
  | none => .next r.1
  | some o =>
    let s := r.1
    let s := if p = 0 ∧ o = 126 ∧ s.fb P.ALH R.ALH_CAN_en then s.answerReceived stamp frame.data else s
    .next ((List.range 16).foldl (fun (s : State) n =>
      let e := s.taskEntry n
      if e.canEn && decide (e.canObj = p * 128 + o) then s.fbeTrigger n stamp else s) s)

/-! ### AVDD (R57) -/

/-- AVDD is judged: while VMAIN is valid (R57), after the power-fail sequence too. -/
def State.avddWatched (s : State) : Bool := s.corOn || decide (s.pwr.mode = .locked)

/-- AVDD_LOST (R57): every static and dynamic channel raises the avdd fault. -/
def execAvddLost (t : Nat) (s : State) : Host.Outcome State Fault Refusal :=
  let s := s.at t
  if !s.avddWatched || !s.pwr.avddOk then .next s
  else .next ({ s with pwr := { s.pwr with avddOk := false } }.sacAvddLost).dynAvddLost

/-- AVDD_RESTORED (R57, R172). -/
def execAvddRestored (t : Nat) (s : State) : Host.Outcome State Fault Refusal :=
  let s := s.at t
  if !s.avddWatched || s.pwr.avddOk then .next s
  else .next ({ s with pwr := { s.pwr with avddOk := true, avddFrom := some s.now } }.sacAvddBack).dynAvddBack

end Sys2Proof.Machine
end

