-- ==== Sys2Proof/Machine/FbeProg.lean ====
section
/-! DEFINITION. Program images (R302–R304, R311, R317, R318): header and task table, the steps of the code, the opcodes of
expressions, the checks of a load, costs and response bounds. -/

namespace Sys2Proof.Machine

open Sys2Proof

/-- `n` little-endian bytes of an image from an offset on. -/
def imgLe (l : List Byte) (off n : Nat) : Nat := leNat ((l.drop off).take n)

/-! ### Expression opcodes (Table 11-4) -/

/-- An opcode at the head of a byte list: its code, its operands as one number and a second one, and its length in bytes; none where it
is undefined or its operands are cut short. -/
def opAt (l : List Byte) : Option (Nat × Nat × Nat × Nat) :=
  match l with
  | [] => none
  | b :: rest =>
    let c := b.toNat
    let n1 := if c = 0x01 then 1 else if c = 0x02 ∨ c = 0x03 then 4 else if 0x04 ≤ c ∧ c ≤ 0x09 then 3
      else if c = 0x1C ∨ c = 0x1D ∨ c = 0x23 ∨ c = 0x24 then 1 else if c = 0x26 ∨ c = 0x27 then 2 else 0
    let n2 := if c = 0x08 ∨ c = 0x09 then 2 else 0
    if 0x28 ≤ c ∨ rest.length < n1 + n2 then none
    else if (c = 0x1C ∨ c = 0x1D) ∧ 5 < leNat (rest.take n1) then none
    else some (c, leNat (rest.take n1), leNat ((rest.drop n1).take n2), 1 + n1 + n2)

/-- How many values an opcode takes from the stack and how many it puts there. -/
def opStack (c : Nat) : Nat × Nat :=
  if c = 0x00 ∨ c = 0x26 then (0, 0)
  else if c = 0x01 ∨ c = 0x02 ∨ c = 0x03 ∨ c = 0x04 ∨ c = 0x06 then (0, 1)
  else if c = 0x05 ∨ c = 0x07 ∨ c = 0x0B ∨ c = 0x27 then (1, 0)
  else if c = 0x08 ∨ c = 0x12 ∨ (0x17 ≤ c ∧ c ≤ 0x1B) ∨ (0x21 ≤ c ∧ c ≤ 0x24) then (1, 1)
  else if c = 0x09 then (2, 0)
  else if c = 0x0A then (1, 2)
  else if c = 0x0C then (2, 2)
  else if c = 0x25 then (3, 1)
  else (2, 1)

/-- Where the expression goes on after an opcode at `pc`: JMP and JZ skip bytes forward. -/
def opNext (c a len pc : Nat) : List Nat :=
  if c = 0x26 then [pc + len + a] else if c = 0x27 then [pc + len, pc + len + a] else [pc + len]

/-- Sizes against which addresses are checked: instance data, input image, output image. -/
structure Sizes where
  inst : Nat
  inp : Nat
  out : Nat
deriving DecidableEq, Repr

/-- An opcode's address lies within its image or instance (R318); `idx` says that LDX or STX addresses the instance data. -/
def opAddress (z : Sizes) (idx : Bool) (c a b : Nat) : Bool :=
  if c = 0x04 ∨ c = 0x05 then decide (a + 4 ≤ z.inst)
  else if c = 0x06 then decide (a + 4 ≤ z.inp)
  else if c = 0x07 then decide (a + 4 ≤ z.out)
  else if c = 0x08 then decide (1 ≤ b) && decide (a + 4 * (b - 1) + 4 ≤ (if idx then z.inst else z.inp))
  else if c = 0x09 then decide (1 ≤ b) && decide (a + 4 * (b - 1) + 4 ≤ (if idx then z.inst else z.out))
  else true

/-- Add a depth with which a position is reached. -/
def addDepth (m : SMap (List Nat)) (pc d : Nat) : SMap (List Nat) :=
  let l := SMap.get (fun _ => []) m pc
  if l.contains d then m else SMap.insert m pc (d :: l)

/-- Go through an expression position by position with the stack depths on every path (R318): `m` maps the positions reached to their
depths, `n` counts the bytes left. -/
def exprWalk (z : Sizes) (instIdx : List Nat) (at_ : Nat) (code : List Byte) : Nat → Nat → SMap (List Nat) → Bool
  | 0, pc, m => (SMap.get (fun _ => []) m pc).all (fun d => decide (d = 0)) && m.all (fun e => decide (e.1 ≤ pc))
  | n + 1, pc, m =>
    match SMap.get (fun _ => []) m pc with
    | [] => exprWalk z instIdx at_ code n (pc + 1) m
    | ds =>
      match opAt (code.drop pc) with
      | none => false
      | some (c, a, b, len) =>
        let (pops, pushes) := opStack c
        if !(opAddress z (instIdx.contains (at_ + pc)) c a b && ds.all (fun d => decide (pops ≤ d) && decide (d - pops + pushes ≤ 16))) then false
        else
          let m := (opNext c a len pc).foldl (fun m q => ds.foldl (fun m d => addDepth m q (d - pops + pushes)) m) m
          exprWalk z instIdx at_ code n (pc + 1) m

/-- The opcodes of an expression one after another (R318): each is defined, its address lies within its image or instance, its jump within
the expression, on a path or not. `n` bounds them. -/
def exprScan (z : Sizes) (instIdx : List Nat) (at_ : Nat) (code : List Byte) : Nat → Nat → Bool
  | 0, pc => decide (code.length ≤ pc)
  | n + 1, pc =>
    if code.length ≤ pc then true
    else match opAt (code.drop pc) with
      | none => false
      | some (c, a, b, len) =>
        opAddress z (instIdx.contains (at_ + pc)) c a b && (opNext c a len pc).all (fun q => decide (q ≤ code.length)) &&
          exprScan z instIdx at_ code n (pc + len)

/-- An expression passes the checks of R318. -/
def exprOk (z : Sizes) (instIdx : List Nat) (at_ : Nat) (code : List Byte) : Bool :=
  exprScan z instIdx at_ code code.length 0 && exprWalk z instIdx at_ code code.length 0 [(0, [0])]

/-- The longest path from each position of an expression, from the last one back (R311): one step for each opcode. -/
def exprCosts (code : List Byte) : Nat → SMap Nat → SMap Nat
  | 0, m => m
  | n + 1, m =>
    match opAt (code.drop n) with
    | none => exprCosts code n m
    | some (c, a, _, len) =>
      exprCosts code n (SMap.insert m n (1 + (opNext c a len n).foldl (fun k q => Nat.max k (SMap.get (fun _ => 0) m q)) 0))

def exprCost (code : List Byte) : Nat := SMap.get (fun _ => 0) (exprCosts code code.length []) 0

/-! ### The steps of a task (R303) -/

/-- A step of a task's code: a block call with its type, instance offset and parameter list offset, or an expression with the offset
of its bytecode in the image and its bytes. -/
inductive CodeStep where
  | block (type inst par : Nat)
  | expr (at_ : Nat) (code : List Byte)
deriving DecidableEq, Repr

/-- The steps of a code range that lies at `at_`; none where a byte belongs to no step. `n` bounds the steps. -/
def codeSteps : Nat → Nat → List Byte → Option (List CodeStep)
  | _, _, [] => some []
  | 0, _, _ :: _ => none
  | n + 1, at_, b :: rest =>
    if b = 0xC0#8 ∧ 7 ≤ rest.length then
      (codeSteps n (at_ + 8) (rest.drop 7)).map (fun l =>
        .block ((rest.getD 0 0#8).toNat) (leNat ((rest.drop 1).take 3)) (leNat ((rest.drop 4).take 3)) :: l)
    else if b = 0xC1#8 ∧ 2 ≤ rest.length ∧ 2 + leNat (rest.take 2) ≤ rest.length then
      let k := leNat (rest.take 2)
      (codeSteps n (at_ + 3 + k) (rest.drop (2 + k))).map (fun l => .expr (at_ + 3) ((rest.drop 2).take k) :: l)
    else none

/-- The cost of a block type (Table 11-7); none for a code of no family. -/
def blockCost (t : Nat) : Option Nat :=
  if t ≤ 0x03 then some 8 else if t ≤ 0x06 then some 6 else if t ≤ 0x0A then some 3 else if t ≤ 0x10 then some 12
  else if t ≤ 0x14 then some 10 else if t ≤ 0x18 then some 12
  else if 0x20 ≤ t ∧ t ≤ 0x2B then some 40 else if 0x40 ≤ t ∧ t ≤ 0x7A then some 16 else none

/-- The image sizes of a task. -/
def imageSize (bs : List ProgBinding) (task : Nat) (out : Bool) : Nat :=
  (bs.filter (fun b => decide (b.task = task) && decide (b.out = out))).foldl (fun m b => Nat.max m (b.word + 4 * b.words)) 0

/-- Words bound by a task. -/
def boundWords (bs : List ProgBinding) (task : Nat) : Nat := ((bs.filter (fun b => decide (b.task = task))).map (fun b => b.words)).sum

def stepOk (z : Sizes) (instIdx : List Nat) : CodeStep → Bool
  | .block t inst _ => (blockCost t).isSome && decide (inst < z.inst)
  | .expr at_ code => exprOk z instIdx at_ code

def stepCost : CodeStep → Nat
  | .block t _ _ => (blockCost t).getD 0
  | .expr _ code => exprCost code

/-! ### Header and tables (Tables 11-1 to 11-3) -/

/-- Entry `n` of the task table. -/
def taskAt (l : List Byte) (off n : Nat) : ProgTask :=
  let e := off + n * 32
  { kind := imgLe l e 1, prio := imgLe l (e + 1) 1, period := imgLe l (e + 2) 2, phase := imgLe l (e + 4) 2, code := imgLe l (e + 8) 4,
    codeLen := imgLe l (e + 12) 4, diMask := imgLe l (e + 16) 2, diEdge := imgLe l (e + 18) 1, canObj := imgLe l (e + 19) 1,
    canEn := decide (imgLe l (e + 20) 1 % 2 = 1) }

/-- Bytes `[a, b)` are zero. -/
def zeroBytes (l : List Byte) (a b : Nat) : Bool := ((l.drop a).take (b - a)).all (fun x => decide (x = 0#8))

/-- A task table entry within its ranges (Table 11-2). -/
def taskOk (l : List Byte) (off n : Nat) : Bool :=
  let t := taskAt l off n
  let e := off + n * 32
  (decide (t.kind = 0) || (decide (t.kind = 1) && decide (n ≤ 7)) || (decide (t.kind = 2) && decide (8 ≤ n))) &&
    decide (t.prio ≤ 15) && decide (t.period ≤ 10000) && decide (t.diEdge ≤ 2) && decide (imgLe l (e + 20) 1 ≤ 1) &&
    zeroBytes l (e + 6) (e + 8) && zeroBytes l (e + 21) (e + 32) &&
    (decide (t.kind = 0) || decide (t.code + t.codeLen ≤ l.length)) &&
    (decide (t.kind ≠ 1) || (decide (1 ≤ t.period) && decide (t.phase < t.period)))

/-- A binding within its ranges (Table 11-3, R304): channels, lines, loop channels, points, objects, directions. -/
def bindingOk (b : ProgBinding) : Bool :=
  decide (b.task < 16) && decide (b.word % 4 = 0) &&
    (match b.kind with
     | 0 => true
     | 1 => !b.out && decide (b.target < 16)
     | 2 => !b.out
     | 3 => b.out && decide (b.target < 8)
     | 4 => b.out && decide (b.target < 4)
     | 5 => b.out
     | 6 | 7 | 8 => !b.out && decide (b.target < 0x2010000)
     | 9 => !b.out && decide (b.target < 256) && decide (b.words ≤ 16)
     | 10 => !b.out && decide (b.target < 256)
     | 11 | 12 => b.out && decide (0x2000100 ≤ b.target) && decide (b.target < 0x2010000)
     | _ => false)

/-- What a binding drives as an output (R304): a global variable, a DO line, a loop channel, the ramp target, a derived point. -/
def outKey (kind sym target : Nat) : Nat × Nat :=
  if kind = 0 then (0, sym) else if kind = 5 then (5, 0) else if 11 ≤ kind then (11, target) else (kind, target)

/-- What a step drives as an output by a block with a constant first parameter (Table 11-7): LOOP_OUT its channel, CAN_TX its object;
RMP_TGT the ramp target. -/
def stepOut (params : List (Nat × BlockParams)) : CodeStep → Option (Nat × Nat)
  | .block type _ par =>
    if type = 0x16 then some (5, 0)
    else if type = 0x15 ∨ type = 0x17 then
      match (params.find? (fun x => decide (x.1 = par))).bind (fun x => x.2.ins.head?) with
      | some (.const v) => some (if type = 0x15 then 4 else 20, v.toNat)
      | _ => none
    else none
  | .expr _ _ => none

/-- Every output of every task, with its task. -/
def taskOutputs (tb : ProgTables) (codes : List (List CodeStep)) : List (Nat × Nat × Nat) :=
  (tb.bindings.filter (fun b => b.out)).map (fun b => (b.task, outKey b.kind b.sym b.target)) ++
    (codes.zipIdx).flatMap (fun x => (x.1.filterMap (stepOut tb.params)).map (fun k => (x.2, k)))

/-- Two tasks do not drive the same thing as an output (R304). -/
def outputsDisjoint (l : List (Nat × Nat × Nat)) : Bool := l.all (fun b => l.all (fun c => decide (b.1 = c.1) || decide (b.2 ≠ c.2)))

/-! ### Scheduling (R311), in steps of 50 ns -/

/-- C_n: the cost and 0.12 ms. -/
def taskC (cost : Nat) : Nat := cost + 2400
/-- T_j: the period or the least gap, 1 ms for a gap of 0. -/
def taskT (t : ProgTask) : Nat := (if t.period = 0 then 1 else t.period) * 20000

/-- One evaluation of the right side of W_n = C_n + Σ ⌈W_n / T_j⌉ × C_j. -/
def respStep (ts : List (Nat × ProgTask × Nat)) (n prio c w : Nat) : Nat :=
  ts.foldl (fun acc x =>
    if x.1 ≠ n ∧ x.2.1.kind ≠ 0 ∧ prio ≤ x.2.1.prio then acc + (w + taskT x.2.1 - 1) / taskT x.2.1 * taskC x.2.2 else acc) c

/-- The smallest solution from below, up to a bound. -/
def respFrom (ts : List (Nat × ProgTask × Nat)) (n prio c : Nat) : Nat → Nat → Nat
  | 0, w => w
  | k + 1, w =>
    let w' := respStep ts n prio c w
    if w' = w ∨ 335544300 ≤ w' then w' else respFrom ts n prio c k w'

/-! ### The checks of a load (R304) -/

/-- Check a program image whose body is in clear: header, tables, code, bindings, schedule. -/
def programOf (l : List Byte) : Option Program :=
  let taskOff := imgLe l 16 4
  let instBytes := imgLe l 40 4
  let tasks := (List.range 16).map (taskAt l taskOff)
  match Config.progTables l with
  | none => none
  | some tb =>
    let sizes (n : Nat) : Sizes := { inst := instBytes, inp := imageSize tb.bindings n false, out := imageSize tb.bindings n true }
    let codes := (List.range 16).map (fun n =>
      let t := tasks.getD n ProgTask.none
      if t.kind = 0 then some [] else codeSteps t.codeLen t.code ((l.drop t.code).take t.codeLen))
    let headerOk := decide (imgLe l 4 2 = 1) && decide (imgLe l 6 2 ≤ 1) && decide (imgLe l 12 4 ≤ 16777216) && zeroBytes l 48 64 &&
      decide (taskOff + 512 ≤ l.length) && decide (instBytes ≤ 15663104) && decide (imgLe l 36 4 = tb.bindings.length)
    let codeOk := (List.range 16).all (fun n =>
      match codes.getD n none with
      | none => false
      | some st => st.all (stepOk (sizes n) tb.instIdx))
    let costs := (List.range 16).map (fun n =>
      if (tasks.getD n ProgTask.none).kind = 0 then 0
      else (((codes.getD n none).getD []).map stepCost).sum + boundWords tb.bindings n)
    let ts := (List.range 16).map (fun n => (n, tasks.getD n ProgTask.none, costs.getD n 0))
    let resp := ts.map (fun x => if x.2.1.kind = 0 then 0 else respFrom ts x.1 x.2.1.prio (taskC x.2.2) 140000 (taskC x.2.2))
    -- U as a sum of fractions over the cyclic tasks, against 0.80
    let u := (ts.filter (fun x => decide (x.2.1.kind = 1))).foldl (fun q x => Q.add q (Q.frac (taskC x.2.2) (taskT x.2.1))) Q.zero
    let schedOk := Q.le u (Q.frac 4 5) &&
      (List.range 16).all (fun n =>
        let t := tasks.getD n ProgTask.none
        decide (t.kind ≠ 1) || decide (resp.getD n 0 ≤ taskT t))
    if headerOk && (List.range 16).all (taskOk l taskOff) && tb.bindings.all bindingOk &&
      outputsDisjoint (taskOutputs tb (codes.map (fun c => c.getD []))) && codeOk && schedOk then
      some { imageId := imgLe l 8 4, tasks := tasks, tables := tb, instBytes := instBytes, costs := costs, resp := resp,
             util := (Q.mul u (Q.ofNat 1000)).toNat }
    else none

end Sys2Proof.Machine
end

