-- ==== Sys2Proof/Machine/FbeCode.lean ====
section
/-! DEFINITION. What the steps of a cycle do on its private copies (R313, R317–R325): expressions and built-in blocks. -/

namespace Sys2Proof.Machine

open Sys2Proof

/-! ### The private copies of a cycle -/

/-- The code bank `b` in the storeroom (Table 08-1). -/
def bankBase (b : Nat) : Nat := 0x04000000 + b * 0x01000000
/-- The instance records of half `h` (R305). -/
def instBase (h : Nat) : Nat := 0x06100000 + h * 0x01000000

/-- A cycle at work: the input image, the forced words of the instance data, the instance bytes written, the output words written,
commands, arithmetic events, and the stack of the expression. -/
structure Work where
  inp : SMap Word
  forced : SMap Word
  base : Nat
  inst : SMap Byte
  out : SMap Word
  cmds : List FbeCmd
  arith : Nat
  stack : List Word
deriving DecidableEq, Repr

/-- A word of the instance data: forced, written in this cycle, or committed. -/
def Work.rd (w : Work) (s : State) (off : Nat) : Word :=
  match SMap.get? w.forced off with
  | some v => v
  | none => word (leNat ((List.range 4).map (fun i => (SMap.get? w.inst (off + i)).getD (s.rd8 (w.base + off + i)))))

/-- Write a word of the instance data; a forced one keeps its value (R326). -/
def Work.wr (w : Work) (off : Nat) (v : Word) : Work :=
  if (SMap.get? w.forced off).isSome then w
  else { w with inst := ((Word.bytes v).foldl (fun (r : SMap Byte × Nat) b => (SMap.insert r.1 r.2 b, r.2 + 1)) (w.inst, off)).1 }

def Work.rdIn (w : Work) (off : Nat) : Word := SMap.get (fun _ => 0#32) w.inp off
def Work.wrOut (w : Work) (off : Nat) (v : Word) : Work := { w with out := SMap.insert w.out off v }
def Work.push (w : Work) (v : Word) : Work := { w with stack := v :: w.stack }
def Work.pop (w : Work) : Word × Work := (w.stack.headD 0#32, { w with stack := w.stack.drop 1 })
def Work.event (w : Work) : Work := { w with arith := w.arith + 1 }
def Work.cmd (w : Work) (c : FbeCmd) : Work := { w with cmds := w.cmds ++ [c] }

/-! ### Operations (Table 11-4, R319) -/

def w32 (i : Int) : Word := word (uext 32 i)
def sint (w : Word) : Int := sext 32 w.toNat
def boolWord (b : Bool) : Word := if b then 1#32 else 0#32

/-- RTOI: rounded half to even, saturating; NaN gives 0. The flag is an arithmetic event. -/
def realToInt (w : Word) : Word × Bool :=
  if b32IsNaN w then (0#32, true)
  else if b32IsInf w then ((if b32Sign w then 0x80000000#32 else 0x7FFFFFFF#32), true)
  else
    let q := ofB32 w
    let m : Int := divRne q.num.natAbs q.d
    let i := if q.num < 0 then -m else m
    if i < -2147483648 then (0x80000000#32, true) else if 2147483647 < i then (0x7FFFFFFF#32, true) else (w32 i, false)

/-- DIVI and MODI (R319): by zero gives 0; −2^31 by −1 gives −2^31. -/
def divInt (mod : Bool) (a b : Word) : Word × Bool :=
  if sint b = 0 then (0#32, true)
  else if !mod && decide (sint a = -2147483648) && decide (sint b = -1) then (0x80000000#32, true)
  else (w32 (if mod then Int.tmod (sint a) (sint b) else Int.tdiv (sint a) (sint b)), false)

/-- A comparison (CMPI, CMPR) by its condition code. -/
def compareBy (cc : Nat) (eq lt le gt ge : Bool) : Bool := [eq, !eq, lt, le, gt, ge].getD cc false

def cmpInt (cc : Nat) (a b : Word) : Bool :=
  compareBy cc (decide (a = b)) (decide (sint a < sint b)) (decide (sint a ≤ sint b)) (decide (sint b < sint a)) (decide (sint b ≤ sint a))
def cmpReal (cc : Nat) (a b : Word) : Bool := compareBy cc (b32Eq a b) (b32Lt a b) (b32Le a b) (b32Lt b a) (b32Le b a)

/-- An operation of two values from the stack: the result and whether it is an arithmetic event. -/
def binOp (c cc : Nat) (a b : Word) : Word × Bool :=
  match c with
  | 0x0D => (a + b, false)
  | 0x0E => (a - b, false)
  | 0x0F => (a * b, false)
  | 0x10 => divInt false a b
  | 0x11 => divInt true a b
  | 0x13 => (b32Add a b, false)
  | 0x14 => (b32Sub a b, false)
  | 0x15 => (b32Mul a b, false)
  | 0x16 => (b32Div a b, false)
  | 0x1C => (boolWord (cmpInt cc a b), false)
  | 0x1D => (boolWord (cmpReal cc a b), false)
  | 0x1E => (a &&& b, false)
  | 0x1F => (a ||| b, false)
  | _ => (a ^^^ b, false)

/-- An operation of one value. -/
def unOp (c k : Nat) (a : Word) : Word × Bool :=
  match c with
  | 0x12 => (0#32 - a, false)
  | 0x17 => (b32Neg a, false)
  | 0x18 => (b32Abs a, false)
  | 0x19 => (b32Sqrt a, false)
  | 0x1A => (toB32 (Q.ofInt (sint a)), false)
  | 0x1B => realToInt a
  | 0x21 => (~~~ a, false)
  | 0x22 => (boolWord (decide (a = 0#32)), false)
  | 0x23 => (a <<< (k % 32), false)
  | _ => (a.sshiftRight (k % 32), false)

/-- One opcode on a cycle's copies; jumps are taken by the caller. `idx`: LDX and STX address the instance data. -/
def opRun (s : State) (idx : Bool) (c a b : Nat) (w : Work) : Work :=
  match c with
  | 0x00 | 0x26 => w
  | 0x01 | 0x02 | 0x03 => w.push (word a)
  | 0x04 => w.push (w.rd s a)
  | 0x05 => let (v, w) := w.pop; w.wr a v
  | 0x06 => w.push (w.rdIn a)
  | 0x07 => let (v, w) := w.pop; w.wrOut a v
  | 0x08 =>
    let (i, w) := w.pop
    if sint i < 0 ∨ (b : Int) ≤ sint i then (w.push 0#32).event
    else w.push (if idx then w.rd s (a + 4 * i.toNat) else w.rdIn (a + 4 * i.toNat))
  | 0x09 =>
    let (i, w) := w.pop
    let (v, w) := w.pop
    if sint i < 0 ∨ (b : Int) ≤ sint i then w.event
    else if idx then w.wr (a + 4 * i.toNat) v else w.wrOut (a + 4 * i.toNat) v
  | 0x0A => let (v, w) := w.pop; (w.push v).push v
  | 0x0B | 0x27 => w.pop.2
  | 0x0C => let (y, w) := w.pop; let (x, w) := w.pop; (w.push y).push x
  | 0x25 =>
    let (y, w) := w.pop
    let (x, w) := w.pop
    let (f, w) := w.pop
    w.push (if f = 0#32 then y else x)
  | _ =>
    if (opStack c).1 = 1 then
      let (x, w) := w.pop
      let r := unOp c a x
      if r.2 then (w.push r.1).event else w.push r.1
    else
      let (y, w) := w.pop
      let (x, w) := w.pop
      let r := binOp c a x y
      if r.2 then (w.push r.1).event else w.push r.1

/-- Run an expression whose bytecode lies at `at_` in the image, from position `pc` on; jumps run forward only, so its length bounds
the opcodes. -/
def exprRun (s : State) (instIdx : List Nat) (at_ : Nat) (code : List Byte) : Nat → Nat → Work → Work
  | 0, _, w => w
  | n + 1, pc, w =>
    match opAt (code.drop pc) with
    | none => w
    | some (c, a, b, len) =>
      let jump := decide (c = 0x26) || (decide (c = 0x27) && decide (w.stack.headD 0#32 = 0#32))
      let w := opRun s (instIdx.contains (at_ + pc)) c a b w
      exprRun s instIdx at_ code n (pc + len + (if jump then a else 0)) w

/-! ### Built-in blocks (R320–R325). The record of an instance (R306): after its header a word of flags (bit 31: executed before), the
stamp of its previous execution in two words, and the block's own words. -/

/-- The k-th word of the state behind an instance's header. -/
def instWord (inst k : Nat) : Nat := inst + 16 + 4 * k

def Work.rd64 (w : Work) (s : State) (off : Nat) : Nat := (w.rd s off).toNat + (w.rd s (off + 4)).toNat * 2 ^ 32
def Work.wr64 (w : Work) (off v : Nat) : Work := (w.wr off (word v)).wr (off + 4) (word (v / 2 ^ 32))

/-- The state words every stateful block keeps: its flags, whether it ran before, and Δ (R320). -/
def Work.enter (w : Work) (s : State) (inst stamp : Nat) : Nat × Bool × Nat :=
  let f := (w.rd s (instWord inst 0)).toNat
  let ran := bitAt f 31
  (f % 2 ^ 31, ran, if ran then stamp - w.rd64 s (instWord inst 1) else 0)

/-- Store the flags and the stamp of this execution. -/
def Work.leave (w : Work) (inst stamp flags : Nat) : Work :=
  (w.wr (instWord inst 0) (word (flags % 2 ^ 31 + 2 ^ 31))).wr64 (instWord inst 1) stamp

def flag (l : List Word) (i : Nat) : Bool := decide (l.getD i 0#32 ≠ 0#32)

/-- The timers (R321, Table 11-8). Inputs IN, PT (and R before PT on TONR), outputs Q and ET; flag 0 is the previous IN, flag 1 a pulse
running. -/
def runTimer (s : State) (w : Work) (type inst stamp : Nat) (ins : List Word) : Work × List Word :=
  let (f, ran, d) := w.enter s inst stamp
  let was := bitAt f 0
  let inp := flag ins 0
  let k := if type = 3 then 2 else 1
  let pt := (ins.getD k 0#32).toNat + (ins.getD (k + 1) 0#32).toNat * 2 ^ 32
  let et := w.rd64 s (instWord inst 3)
  let grow := Nat.min (et + d) pt
  let r : Nat × Bool × Bool :=
    match type with
    | 0 =>
      let e := if !inp then 0 else if !(ran && was) then 0 else grow
      (e, inp && decide (pt ≤ e), false)
    | 1 =>
      let e := if inp then 0 else if was then 0 else grow
      (e, inp || decide (e < pt), false)
    | 2 =>
      let running := bitAt f 1
      let start := inp && !was && !running
      let e := if start then 0 else if running then grow else if inp then et else 0
      let on := (start || running) && decide (e < pt)
      (e, on, on)
    | _ =>
      let e := if flag ins 1 then 0 else if inp then grow else et
      (e, decide (pt ≤ e), false)
  let e := Nat.min r.1 pt
  let w := (w.wr64 (instWord inst 3) e).leave inst stamp (flagBit inp 0 + flagBit r.2.2 1)
  (w, [boolWord r.2.1, word e, word (e / 2 ^ 32)])

/-- The counters (R322). CTU: CU, R, PV; CTD: CD, LD, PV; CTUD: CU, CD, R, LD, PV. Flags 0 and 1 are the previous CU and CD. -/
def runCounter (s : State) (w : Work) (type inst stamp : Nat) (ins : List Word) : Work × List Word :=
  let (f, _, _) := w.enter s inst stamp
  let cv := sint (w.rd s (instWord inst 3))
  let cu := if type = 5 then false else flag ins 0
  let cd := if type = 4 then false else if type = 5 then flag ins 0 else flag ins 1
  let up := cu && !bitAt f 0
  let down := cd && !bitAt f 1
  let r := if type = 4 then flag ins 1 else if type = 6 then flag ins 2 else false
  let ld := if type = 5 then flag ins 1 else if type = 6 then flag ins 3 else false
  let pv := sint (ins.getD (if type = 6 then 4 else 2) 0#32)
  let cv' : Int :=
    if r then 0 else if ld then pv
    else if up && down then cv
    else if up then (if cv < 2147483647 then cv + 1 else cv)
    else if down then (if -2147483648 < cv then cv - 1 else cv)
    else cv
  let w := (w.wr (instWord inst 3) (w32 cv')).leave inst stamp (flagBit cu 0 + flagBit cd 1)
  let qu := boolWord (decide (pv ≤ cv'))
  let qd := boolWord (decide (cv' ≤ 0))
  (w, if type = 4 then [qu, w32 cv'] else if type = 5 then [qd, w32 cv'] else [qu, qd, w32 cv'])

/-- Edges and bistables (R322); an edge block's first execution only takes M := CLK (Table 11-9). Flag 0 is M or Q. -/
def runEdge (s : State) (w : Work) (type inst stamp : Nat) (ins : List Word) : Work × List Word :=
  let (f, ran, _) := w.enter s inst stamp
  let m := bitAt f 0
  let a := flag ins 0
  let b := flag ins 1
  let q := match type with
    | 7 => ran && a && !m
    | 8 => ran && !a && m
    | 9 => a || (m && !b)
    | _ => !b && (m || a)
  (w.leave inst stamp (flagBit (if type ≤ 8 then a else q) 0), [boolWord q])

/-- The alarm interface blocks (R324). ALM_READ: E. ALM_ACK and ALM_RESET: REQ, E, ACT. ALM_SHELVE: REQ, UNSHELVE, E, SEC. ALM_MODE,
ALM_DUTY: the new value. Flags: 0 previous REQ, 1 BUSY, 2 previous UNSHELVE. -/
def runAlarm (s : State) (w : Work) (type inst stamp : Nat) (ins : List Word) : Work × List Word :=
  let (f, ran, _) := w.enter s inst stamp
  if type = 0x0B then
    let x := s.entry ((ins.getD 0 0#32).toNat % 16384)
    (w, [word x.st, word x.level, word x.pri, word x.actSeq, word (x.stateByte / 8)])
  else if 0x0F ≤ type then
    let v := ins.getD 0 0#32
    let changed := ran && decide (w.rd s (instWord inst 3) ≠ v)
    let w := (w.wr (instWord inst 3) v).leave inst stamp 0
    (if changed then w.cmd (if type = 0x0F then .mode (v.toNat % 16) else .duty (v.toNat % 32)) else w, [])
  else
    let req := flag ins 0
    let un := decide (type = 0x0E) && flag ins 1
    let got := SMap.get? s.fbe.results inst
    let busy := bitAt f 1 && got.isNone
    let rise := req && !bitAt f 0 && !busy
    let riseUn := un && !bitAt f 2 && !busy && !rise
    let e := ((ins.getD (if type = 0x0E then 2 else 1) 0#32).toNat)
    let arg := (ins.getD (if type = 0x0E then 3 else 2) 0#32).toNat
    let op := if riseUn then 6 else if type = 0x0C then 1 else if type = 0x0D then 4 else 5
    let w := if got.isSome then w.cmd (.taken inst) else w
    let w := if rise || riseUn then w.cmd (.alarm op e arg inst) else w
    let busy' := busy || rise || riseUn
    let w := w.leave inst stamp (flagBit req 0 + flagBit busy' 1 + flagBit un 2)
    (w, [boolWord busy', boolWord got.isSome, word (got.getD 0)])

/-- Where the output image of a task holds what an output binding of a kind names; none where the task binds no such thing. -/
def Program.outAt (p : Program) (task kind target : Nat) : Option Nat :=
  (p.tables.bindings.find? (fun b =>
    decide (b.task = task) && b.out && decide (b.kind = kind) && (decide (kind = 5) || decide (b.target = target)))).map (fun b => b.word)

/-- Where the output image of a task holds the value (11) or the quality (12) of a derived point: the word bound, else one behind every
image. -/
def Program.pointWord (p : Program) (task kind point : Nat) : Nat :=
  (p.outAt task kind point).getD (2 ^ 40 + 2 * scalarNo point + (kind - 11))

/-- Point access and output actions (R325, Table 11-7). PT_GET, PT_STATE, PT_LINE: the point. PT_PUT: point, value, quality. LOOP_OUT:
channel, value. RMP_TGT: value. CAN_TX: port × 128 + object, then data words. EV_FIRE: the event task. What the task binds as an output
takes the value in its output image. -/
def runAction (s : State) (p : Program) (task : Nat) (w : Work) (type : Nat) (ins : List Word) : Work × List Word :=
  let a := (ins.getD 0 0#32).toNat
  match type with
  | 0x12 =>
    (if (p.outAt task 11 a).isSome || (p.outAt task 12 a).isSome then
       (w.wrOut (p.pointWord task 11 a) (ins.getD 1 0#32)).wrOut (p.pointWord task 12 a) (ins.getD 2 0#32)
     else w, [])
  | 0x15 =>
    (match p.outAt task 4 a with
     | some k => w.wrOut k (ins.getD 1 0#32)
     | none => if a < 4 then w.cmd (.loop a (ins.getD 1 0#32)) else w, [])
  | 0x16 =>
    (match p.outAt task 5 0 with
     | some k => w.wrOut k (ins.getD 0 0#32)
     | none => w.cmd (.ramp (ins.getD 0 0#32)), [])
  | 0x17 =>
    let ok := decide (a < 256) && s.maySend (a / 128) (a % 128) 1
    (if ok then w.cmd (.canTx (a / 128) (a % 128) ((ins.drop 1).flatMap Word.bytes)) else w, [boolWord (!ok)])
  | 0x18 => (if a < 8 then w.cmd (.fire a) else w, [])
  | _ =>
    (w, if !isPoint a then Config.pointBlock type a 0#32 0 0
        else Config.pointBlock type a (s.pointReal a) (s.pointQuality a) (s.stateByte a))

/-- The signal blocks (R323): their formulas are open; at a first execution, and at a Δ above 10 periods of a cyclic task, the state starts
from the present input, whatever it was. -/
def runSignal (s : State) (w : Work) (type inst size stamp period : Nat) (ins : List Word) : Work × List Word :=
  let (_, ran, d) := w.enter s inst stamp
  let words := (List.range ((size - 28) / 4)).map (fun k => w.rd s (instWord inst (3 + k)))
  let r :=
    if !ran || (decide (period ≠ 0) && decide (10 * period * 16777216 < d * 1000)) then Config.signalBlock type [] ins true 0
    else Config.signalBlock type words ins false d
  let w := (List.range ((size - 28) / 4)).foldl (fun w k => w.wr (instWord inst (3 + k)) (r.1.getD k 0#32)) w
  (w.leave inst stamp 0, r.2)

/-- One block call. -/
def runBlock (s : State) (p : Program) (task stamp : Nat) (w : Work) (type inst par : Nat) : Work :=
  let ps := ((p.tables.params.find? (fun x => decide (x.1 = par))).map (fun x => x.2)).getD { ins := [], outs := [] }
  let ins := ps.ins.map (fun a => match a with
    | .const v => v
    | .inst off => w.rd s off
    | .image off => w.rdIn off)
  let size := ((p.tables.insts.find? (fun i => decide (i.off = inst))).map (fun i => i.size)).getD 28
  let e := p.tasks.getD task ProgTask.none
  let r : Work × List Word :=
    if type ≤ 0x03 then runTimer s w type inst stamp ins
    else if type ≤ 0x06 then runCounter s w type inst stamp ins
    else if type ≤ 0x0A then runEdge s w type inst stamp ins
    else if type ≤ 0x10 then runAlarm s w type inst stamp ins
    else if type ≤ 0x18 then runAction s p task w type ins
    else if type ≤ 0x2B then runSignal s w type inst size stamp (if e.kind = 1 then e.period else 0) ins
    else (w, Config.functionBlock type ins)
  (ps.outs.zip r.2).foldl (fun w x => match x.1 with
    | .const _ => w
    | .inst off => w.wr off x.2
    | .image off => w.wrOut off x.2) r.1

/-- Run the steps of a task once (R303, R313). -/
def runCode (s : State) (p : Program) (task stamp : Nat) (w : Work) (steps : List CodeStep) : Work :=
  steps.foldl (fun w st => match st with
    | .block type inst par => runBlock s p task stamp w type inst par
    | .expr at_ code => { exprRun s p.tables.instIdx at_ code code.length 0 w with stack := [] }) w

end Sys2Proof.Machine
end

