-- ==== Sys2Proof/Machine/Fbe.lean ====
section
/-! DEFINITION. The function-block engine: releases (R307–R310), cycles (R313–R316), forces (R326–R328), the on-line change
(R329), resumption (R330). The steps of a cycle run at its start on private copies; nothing of them shows before the commit. -/

namespace Sys2Proof.Machine

open Sys2Proof

/-! ### Status -/

/-- Releases are halted by the debug unit (R501). -/
def State.fbeHalted (s : State) : Bool := s.fb P.DBG R.DBG_CTRL_fbe_halt

/-- FBE_STAT.run: stopped in SCRAPPED (R491), no program, paused by a halt or DORMANT, stopped by en, or running. -/
def State.fbeShow (s : State) : State :=
  s.setFv P.FBE R.FBE_STAT_run
    (if s.life = 3 then 3 else if s.program.isNone then 0 else if s.fbeHalted || decide (s.pstate = 2) then 2 else if !s.fb P.FBE R.FBE_CTRL_en then 3 else 1)

/-- Order of R309: higher priority, then earlier cycle stamp, then lower task number; a triple is (priority, stamp, task). -/
def taskBefore (a b : Nat × Nat × Nat) : Bool :=
  decide (b.1 < a.1) || (decide (a.1 = b.1) && (decide (a.2.1 < b.2.1) || (decide (a.2.1 = b.2.1) && decide (a.2.2 < b.2.2))))

def firstTask (l : List (Nat × Nat × Nat)) : Option (Nat × Nat × Nat) :=
  l.foldl (fun r x => match r with
    | none => some x
    | some y => if taskBefore x y then some x else some y) none

/-- The cycle that runs: the first of the cycles at work. -/
def State.runningTask (s : State) : Option (Nat × Nat × Nat) :=
  firstTask ((List.range 16).filterMap (fun n => (s.task n).cycle.map (fun c => ((s.taskEntry n).prio, c.stamp, n))))

/-- The released cycle that starts next: one whose task has no cycle at work. -/
def State.waitingTask (s : State) : Option (Nat × Nat × Nat) :=
  firstTask ((List.range 16).filterMap (fun n =>
    if (s.task n).cycle.isSome then none else (s.task n).released.map (fun t => ((s.taskEntry n).prio, t, n))))

/-- FBE_TK_STAT.state and queue of every task: idle, released, running, preempted. -/
def State.taskShow (s : State) : State :=
  let run := s.runningTask.map (fun x => x.2.2)
  (List.range 16).foldl (fun s n =>
    let x := s.task n
    let st : Nat := if x.cycle.isSome then (if run = some n then 2 else 3) else if x.released.isSome then 1 else 0
    (s.setFv (P.FBETK n) R.FBE_TK_STAT_state st).setFv (P.FBETK n) R.FBE_TK_STAT_queue x.queue.length) s

/-! ### Releases (R307–R310) -/

/-- The latest release stamp of cyclic task `n` that the timebase has reached: ⌊(phase + k × period) × 2^24 / 1,000⌋, later by the
excluded intervals of R330. -/
def State.releaseStamp (s : State) (n : Nat) : Option Nat :=
  let e := s.taskEntry n
  let m := ((s.now - s.fbe.shift + 1) * 1000 - 1) / 16777216
  if s.now < s.fbe.shift ∨ m < e.phase ∨ e.period = 0 then none
  else some (s.fbe.shift + (e.phase + (m - e.phase) / e.period * e.period) * 16777216 / 1000)

/-- A release finds the previous cycle of its task not yet committed (R310). -/
def State.taskOverrun (s : State) (n : Nat) : State :=
  let s := s.setTask n { s.task n with watch := some ((s.task n).watch.getD s.now) }
  let s := ((s.satInc (P.FBETK n) R.FBE_TK_OVR_ovr 1).irq (P.FBETK n) 0).irq P.FBE 0
  if !s.fb (P.FBETK n) R.FBE_TK_CTRL_ovr_fault then s
  else ({ s with fbe := { s.fbe with faults := withBit s.fbe.faults n true } }).diagFail 12 n

/-- Release a cycle of a task with a cycle stamp; from here it is due to commit (R466). -/
def State.releaseTask (s : State) (n stamp : Nat) : State :=
  ((s.taskSeen n).setTask n { s.task n with released := some stamp, watch := some s.now }).taskShow

/-- CYCLIC_RELEASE (R307, R310, R501): a release stamp is reached; under a debug halt it counts as an overrun. -/
def execCyclicRelease (t : Nat) (task : Fin 8) (s : State) : Host.Outcome State Fault Refusal :=
  let s := s.at t
  let n := task.val
  if !s.ready || decide (2 ≤ s.pstate) || s.releasesEnd || !s.taskOn n || decide ((s.taskEntry n).kind ≠ 1) then .next s
  else
    match s.releaseStamp n with
    | none => .next s
    | some r =>
      let x := s.task n
      if x.rel.any (fun p => decide (r ≤ p)) then .next s
      else
        let s := s.setTask n { x with rel := some r }
        .next (if s.fbeHalted || x.cycle.isSome || x.released.isSome then s.taskOverrun n else s.releaseTask n r)

/-- EVENT_RELEASE (R308): the oldest trigger of an event task starts its cycle no earlier than the least gap after the previous
cycle stamp. -/
def execEventRelease (t : Nat) (task : Fin 8) (s : State) : Host.Outcome State Fault Refusal :=
  let s := s.at t
  let n := 8 + task.val
  let x := s.task n
  if !s.ready || decide (2 ≤ s.pstate) || s.releasesEnd || s.fbeHalted || !s.taskOn n || x.cycle.isSome || x.released.isSome then .next s
  else
    match x.queue with
    | [] => .next s
    | stamp :: rest =>
      if x.last.any (fun l => decide (s.now < l + msecs (s.taskEntry n).period)) then .next s
      else .next ((s.setTask n { x with queue := rest }).releaseTask n stamp)

/-- A write of FBE_EV_TRIG (R307, R316). -/
def State.evTrig (s : State) (v : Word) : State :=
  (List.range 8).foldl (fun s i => if v.getLsbD i then s.fbeTrigger (8 + i) s.now else s) s

/-- FBE_CTRL.en or FBE_TK_EN has been committed: a task that now runs takes the releases from here on. -/
def State.fbeEnabled (s : State) (old : State) : State :=
  ((List.range 16).foldl (fun s n =>
    if s.taskOn n && !old.taskOn n then s.setTask n { s.task n with rel := some s.now, watch := none } else s) s).fbeShow

/-- DBG_CTRL.step (R501): release one cycle of a task while halted. -/
def State.debugStep (s : State) (n : Nat) : State :=
  let x := s.task n
  let e := s.taskEntry n
  if e.kind = 0 ∨ x.cycle.isSome ∨ x.released.isSome then s
  else if e.kind = 1 then s.releaseTask n ((s.releaseStamp n).getD s.now)
  else
    match x.queue with
    | stamp :: rest => (s.setTask n { x with queue := rest }).releaseTask n stamp
    | [] => s.releaseTask n s.now

/-! ### Forces (R326–R328) -/

def globalKey (sym i : Nat) : Nat := sym * 65536 + i

/-- The force in effect on an element of a symbol. -/
def State.forceOn (s : State) (sym idx : Nat) : Option Word :=
  (s.fbe.forces.find? (fun f => decide (f.2.sym = sym) && decide (f.2.idx = idx) && f.2.act.isSome)).bind (fun f => f.2.act)

def Program.symbol (p : Program) (ident : Nat) : Option ProgSymbol := p.tables.symbols.find? (fun y => decide (y.ident = ident))
def Program.outs (p : Program) (f : ProgBinding → Bool) : List ProgBinding := p.tables.bindings.filter (fun b => b.out && f b)

/-- Give the forces in effect to the DO lines, the loop channels and the ramp generator. -/
def State.forceShow (s : State) : State :=
  let bs (k : Nat) : List (Nat × Word) :=
    match s.program with
    | none => []
    | some p => (p.outs (fun b => decide (b.kind = k))).filterMap (fun b => (s.forceOn b.sym 0).map (fun v => (b.target, v)))
  let lines := (bs 3).map (fun x => (x.1, decide (x.2 ≠ 0#32)))
  let s : State := { s with dio := { s.dio with forces := lines } }
  let s : State := (List.range 4).foldl (fun s ch =>
    s.setLoop ch { s.loop ch with force := ((bs 4).find? (fun x => decide (x.1 = ch))).map (fun x => x.2) }) s
  let r : Option Word := (bs 5).head?.map (fun x => x.2)
  if r = s.rmp.fbeForce then s else ({ s with rmp := { s.rmp with fbeForce := r } }).rmpReplan

/-- Show the forces; a change of their number is an event, a crate and system point 0x0037 (R328). -/
def State.forcesChanged (s : State) : State :=
  let n := s.fbe.forces.length
  let was := s.fv P.FBE R.FBE_NFORCE_n
  let s := s.forceShow
  if n = was then s
  else
    let s := (s.setFv P.FBE R.FBE_NFORCE_n n).setFb P.FBE R.FBE_STAT_forcing (decide (n ≠ 0))
    let s := (s.irq P.FBE 2).sysTrigger 3 n
    s.sourceWrite 0x37 (toB32 (Q.ofNat n)) 0 3 s.now

def State.setForce (s : State) (slot : Nat) (f : Force) : State :=
  { s with fbe := { s.fbe with forces := if f.state = 0 then SMap.erase s.fbe.forces slot else SMap.insert s.fbe.forces slot f } }

/-- Apply a value of an output of the program (R315): global, DO line, loop channel, ramp target. A line named in a committed
ALH_TGTn is not changed. -/
def State.applyOutput (s : State) (b : ProgBinding) (i : Nat) (v : Word) : State :=
  match b.kind with
  | 0 => { s with fbe := { s.fbe with globals := SMap.insert s.fbe.globals (globalKey b.sym i) v } }
  | 3 => if (s.callDrive b.target).isSome then s else s.fbeDo b.target (decide (v ≠ 0#32))
  | 4 => s.fbeLoop b.target v
  | 5 => s.rmpFbe v
  | _ => s

/-- A symbol of the image is a global variable: some task binds it as one. -/
def Program.isGlobal (p : Program) (sym : Nat) : Bool := p.tables.bindings.any (fun b => decide (b.kind = 0) && decide (b.sym = sym))

/-- A released force leaves its value where the code next writes it (R327): instance word, global, output image and output. -/
def State.leaveForce (s : State) (f : Force) : State :=
  match s.program, f.act with
  | some p, some v =>
    let s : State := if p.isGlobal f.sym then { s with fbe := { s.fbe with globals := SMap.insert s.fbe.globals (globalKey f.sym f.idx) v } } else s
    let s := match (p.symbol f.sym).bind (fun y => y.off) with
      | some off => s.nodeWrite (instBase (s.fv P.FBE R.FBE_STAT_ihalf) + off + 4 * f.idx) (Word.bytes v)
      | none => s
    (p.outs (fun b => decide (b.sym = f.sym) && decide (f.idx < b.words))).foldl (fun s b =>
      let x := s.task b.task
      (s.setTask b.task { x with out := SMap.insert x.out (b.word + 4 * f.idx) v }).applyOutput b f.idx v) s
  | _, _ => s

/-- A slot whose tasks have all started a cycle moves on: PENDING to ACTIVE, RELEASING to FREE. -/
def State.forceMoves (s : State) (slot : Nat) (f : Force) : State :=
  if f.waits ≠ [] then s.setForce slot f
  else if f.state = 1 then s.setForce slot { f with state := 2, act := some f.val }
  else (s.leaveForce f).setForce slot { f with state := 0 }

/-- Task `n` starts a cycle: the forces that wait for it (Table 11-5). -/
def State.forcesAt (s : State) (n : Nat) : State :=
  (s.fbe.forces.foldl (fun s f =>
    if (f.2.state = 1 ∨ f.2.state = 3) ∧ f.2.waits.contains n then
      s.forceMoves f.1 { f.2 with waits := f.2.waits.filter (fun m => decide (m ≠ n)) }
    else s) s).forcesChanged

/-- FBE_FRC_CTRL.set (R327): the result code and the slot's next state. -/
def State.forceSet (s : State) (slot : Nat) (may : Bool) : State :=
  let sym := s.fv P.FBE R.FBE_FRC_SYM_sym
  let idx := s.fv P.FBE R.FBE_FRC_IDX_idx
  let raw := s.fw P.FBE R.FBE_FRC_VAL_val
  let cur := SMap.get? s.fbe.forces slot
  let res (n : Nat) (s : State) : State := s.setFv P.FBE R.FBE_FRC_STAT_res n
  if !may then res 4 s
  else
    match s.program.bind (fun p => p.symbol sym) with
    | none => res 1 s
    | some y =>
      if y.count ≤ idx then res 2 s
      else
        -- a BOOL stands in bit 0 (Table 11-12)
        let val := if y.dtype = 0 then raw &&& 1#32 else raw
        match cur with
        | none =>
          ((res 0 s).forceMoves slot
            { state := 1, sym := sym, idx := idx, val := val, act := none, dtype := y.dtype, waits := y.tasks }).forcesChanged
        | some f =>
          if f.sym = sym ∧ f.idx = idx ∧ f.state ≤ 2 then
            ((res 0 s).forceMoves slot { f with state := 1, val := val, waits := y.tasks }).forcesChanged
          else res 3 s

/-- FBE_FRC_CTRL.release of one slot. -/
def State.forceRelease (s : State) (slot : Nat) : State :=
  match SMap.get? s.fbe.forces slot with
  | none => s
  | some f =>
    if f.state = 3 then s
    else
      let waits := ((s.program.bind (fun p => p.symbol f.sym)).map (fun y => y.tasks)).getD []
      (s.forceMoves slot { f with state := 3, waits := waits }).forcesChanged

/-- A write of FBE_FRC_CTRL: set, release, release_all. -/
def State.frcCtrl (s : State) (p : Port) (v : Word) : State :=
  let slot := s.fv P.FBE R.FBE_FRC_SEL_slot
  let s := if v.getLsbD 0 then s.forceSet slot (s.maintains p) else s
  let s := if v.getLsbD 1 then s.forceRelease slot else s
  if v.getLsbD 2 then (s.fbe.forces.map (fun f => f.1)).foldl (fun s i => s.forceRelease i) s else s

/-! ### The cycle (R313, R314) -/

/-- The words that an input binding brings into the snapshot (Table 11-3, R314). -/
def State.bindingIn (s : State) (n : Nat) (b : ProgBinding) : List Word :=
  let q := b.target / 128
  let o := b.target % 128
  match b.kind with
  | 0 => (List.range b.words).map (fun i => SMap.get (fun _ => 0#32) s.fbe.globals (globalKey b.sym i))
  | 1 => [boolWord (bitAt (s.fv P.DIO R.DIO_DI_state) b.target)]
  | 2 => [word (flagBit (decide (s.fv P.DIO R.DIO_STAT_link = 1)) 0 + flagBit (s.fb P.DIO R.DIO_STAT_fault) 1 + flagBit (s.fb P.DIO R.DIO_STAT_armed) 2)]
  | 6 => [s.pointReal b.target]
  | 7 => [word (s.pointQuality b.target)]
  | 8 => [word (s.stateByte b.target)]
  | 9 => (List.range b.words).map (fun i => s.reg (objPage q o + R.CAN_OBJ_DATA_data.off + o % 32 * 0x40 + 4 * i))
  | 10 =>
    let cnt := s.objFv q o R.CAN_OBJ_STAT_rcnt
    let stamp := s.stamp (objPage q o) (R.CAN_OBJ_T_LO_t.nth (o % 32)) (R.CAN_OBJ_T_HI_t.nth (o % 32))
    let x := s.task n
    let c0 := SMap.get (fun _ => 0) x.seen (2 * b.target)
    let t0 := SMap.get (fun _ => 0) x.seen (2 * b.target + 1)
    [word ((cnt + 256 - c0) % 256 + flagBit (decide (cnt ≠ c0 ∨ stamp ≠ t0)) 8 + s.objFv q o R.CAN_OBJ_STAT_rdlc * 512)]
  | _ => []

/-- What a task's next snapshot compares its receive counts with (R314). -/
def State.seenNow (s : State) (p : Program) (n : Nat) : SMap Nat :=
  (p.tables.bindings.filter (fun b => decide (b.task = n) && decide (b.kind = 10))).foldl (fun m b =>
    let q := b.target / 128
    let o := b.target % 128
    let stamp := s.stamp (objPage q o) (R.CAN_OBJ_T_LO_t.nth (o % 32)) (R.CAN_OBJ_T_HI_t.nth (o % 32))
    SMap.insert (SMap.insert m (2 * b.target) (s.objFv q o R.CAN_OBJ_STAT_rcnt)) (2 * b.target + 1) stamp) (s.task n).seen

/-- The input image of a snapshot, forced inputs at their force value (R313 stage 1). -/
def State.snapshot (s : State) (p : Program) (n : Nat) : SMap Word :=
  (p.tables.bindings.filter (fun b => decide (b.task = n) && !b.out)).foldl (fun m b =>
    ((s.bindingIn n b).zipIdx).foldl (fun m x => SMap.insert m (b.word + 4 * x.2) ((s.forceOn b.sym x.2).getD x.1)) m) []

/-- The forced words of the instance data, by offset. -/
def State.forcedWords (s : State) (p : Program) : SMap Word :=
  s.fbe.forces.foldl (fun m f => match f.2.act, (p.symbol f.2.sym).bind (fun y => y.off) with
    | some v, some off => SMap.insert m (off + 4 * f.2.idx) v
    | _, _ => m) []

/-- Start a cycle of task `n`: forces, snapshot, and the steps on private copies. -/
def State.startCycle (s : State) (p : Program) (n stamp : Nat) : State :=
  let s := s.forcesAt n
  let e := s.taskEntry n
  let w : Work := { inp := s.snapshot p n, forced := s.forcedWords p, base := instBase (s.fv P.FBE R.FBE_STAT_ihalf), inst := [], out := [],
                    cmds := [], arith := 0, stack := [] }
  let code := s.rdBytes (bankBase (s.fv P.FBE R.FBE_STAT_bank) + e.code) e.codeLen
  let w := runCode s p n stamp w ((codeSteps e.codeLen e.code code).getD [])
  let c : Cycle := { stamp := stamp, inst := w.inst, out := w.out, cmds := w.cmds, arith := w.arith, seen := s.seenNow p n }
  (s.setTask n { s.task n with released := none, cycle := some c }).taskShow

/-- CYCLE_START (R309, R313, R329): the released cycle of highest priority starts, at a step boundary of a running cycle of lower
priority; none starts in ARMED or SEAM. `ecc` is what reading its inputs finds (R228). -/
def execCycleStart (t : Nat) (ecc : EccFinds) (s : State) : Host.Outcome State Fault Refusal :=
  let s := s.at t
  if !s.domainOn 8 || decide (2 ≤ s.fv P.FBE R.FBE_STAT_olc) then .next s
  else
    match s.program, s.waitingTask with
    | some p, some (prio, stamp, n) =>
      if s.runningTask.any (fun r => decide (prio ≤ r.1)) then .next s else .next ((s.eccFinds ecc).startCycle p n stamp)
    | _, _ => .next s

/-- A command of a cycle takes effect at its commit (R324, R325). -/
def State.cycleCmd (s : State) (n : Nat) (c : FbeCmd) : State :=
  match c with
  | .taken inst => { s with fbe := { s.fbe with results := SMap.erase s.fbe.results inst } }
  | .alarm op idx arg inst =>
    let a := if op = 5 then arg else if arg = 0xFFFFFFFF then 0xFFFF else arg
    let (s, res) := s.alhCmd op idx a 4 0 s.now true
    { s with fbe := { s.fbe with results := SMap.insert s.fbe.results inst res } }
  | .mode m => s.alhMode m 4
  | .duty d => s.alhDuty d 4
  | .fire k => s.fbeTrigger (8 + k) s.now
  | .canTx q o data =>
    if !s.maySend q o 1 then s
    else
      let s := s.setPageBytes (objPage q o) (0x800 + o % 32 * 0x40) (data.take 64)
      s.queueFrame q o (s.objFrame q o)
  | .loop ch v =>
    match s.program with
    | some p => if (p.outs (fun b => decide (b.kind = 4) && decide (b.target = ch) && decide (b.task ≠ n))).isEmpty then s.fbeLoop ch v else s
    | none => s
  | .ramp v => s.rmpFbe v

/-- The word of an output binding: its force, else the latest committed. -/
def State.outWord (s : State) (b : ProgBinding) (i : Nat) : Option Word :=
  match s.forceOn b.sym i with
  | some v => some v
  | none => SMap.get? (s.task b.task).out (b.word + 4 * i)

/-- The value (11) or the quality (12) of a derived point that task `n` has committed, or its force. -/
def State.pointOut (s : State) (p : Program) (n kind point : Nat) : Option Word :=
  match (p.outs (fun b => decide (b.task = n) && decide (b.kind = kind) && decide (b.target = point))).head? with
  | some b => s.outWord b 0
  | none => SMap.get? (s.task n).out (p.pointWord n kind point)

/-- The value that a scalar point's source has written last: of its shadow entry while it is simulated (R247), else of its value entry. -/
def State.heldValue (s : State) (n : Nat) : Word :=
  if s.pointSimulated (scalarPoint n) then (SMap.get (fun _ => Shadow.reset) s.pte.shadow n).value else s.value n

/-- A derived point that task `n` binds takes its value and quality with source 4 and the commit stamp (R315); where no value has been
written the value stands. -/
def State.applyPoint (s : State) (p : Program) (n point : Nat) : State :=
  let q := (s.pointOut p n 12 point).map (fun w => w.toNat % 4)
  match s.pointOut p n 11 point, q with
  | some v, _ => s.sourceWrite (scalarNo point) v (q.getD 0) 4 s.now
  | none, some k => s.sourceWrite (scalarNo point) (s.heldValue (scalarNo point)) k 4 s.now
  | none, none => s

/-- Stage 4 (R315): the outputs of task `n`. -/
def State.applyOutputs (s : State) (p : Program) (n : Nat) : State :=
  let mine := p.outs (fun b => decide (b.task = n))
  let points := ((mine.filter (fun b => decide (11 ≤ b.kind))).map (fun b => b.target)).eraseDups
  let s := points.foldl (fun (s : State) x => s.applyPoint p n x) s
  (mine.filter (fun b => decide (b.kind < 11))).foldl (fun s b =>
    (List.range b.words).foldl (fun s i =>
      match SMap.get? (s.task n).out (b.word + 4 * i) with
      | some v => s.applyOutput b i v
      | none => s) s) s

/-- Commit a cycle (R313 stages 3 and 4). -/
def State.commitCycle (s : State) (p : Program) (n : Nat) (c : Cycle) : State :=
  let base := instBase (s.fv P.FBE R.FBE_STAT_ihalf)
  let s := c.inst.foldl (fun s e => s.nodeWrite (base + e.1) [e.2]) s
  let x := s.task n
  let s := (s.taskSeen n).setTask n { x with cycle := none, last := some c.stamp, watch := some s.now, seen := c.seen, out := c.out.foldl (fun m e => SMap.insert m e.1 e.2) x.out }
  let s := c.cmds.foldl (fun s k => s.cycleCmd n k) s
  let b := P.FBETK n
  let us := Nat.min 65535 (toUs (s.now - c.stamp))
  let s := (s.wrapInc b R.FBE_TK_CYC_cyc 1).setStamp b R.FBE_TK_T_LO_t R.FBE_TK_T_HI_t c.stamp
  let s := (s.setFv b R.FBE_TK_EXEC_last us).setFv b R.FBE_TK_EXEC_max (Nat.max us (s.fv b R.FBE_TK_EXEC_max))
  let s := s.setFb b R.FBE_TK_STAT_arith (decide (c.arith ≠ 0))
  let s := s.satInc P.FBE R.FBE_ERR_arith c.arith
  let s := (s.irqIf (decide (c.arith ≠ 0)) b 1).irqIf (decide (c.arith ≠ 0)) P.FBE 3
  (s.applyOutputs p n).taskShow

/-- CYCLE_COMMIT (R313, R315): the running cycle commits. -/
def execCycleCommit (t : Nat) (s : State) : Host.Outcome State Fault Refusal :=
  let s := s.at t
  match s.program, s.runningTask with
  | some p, some (_, _, n) =>
    match (s.task n).cycle with
    | some c => .next (if s.domainOn 8 then s.unlessWaits (s.commitCycle p n c) else s)
    | none => .next s
  | _, _ => .next s

/-- A write of FBE_CLR (Table 11-11). -/
def State.fbeClr (s : State) : State :=
  let s := s.setReg (P.FBE + R.FBE_ERR_arith.off) 0#32
  let s := (List.range 16).foldl (fun s n => (s.setReg (P.FBETK n + R.FBE_TK_OVR_ovr.off) 0#32).setFv (P.FBETK n) R.FBE_TK_EXEC_max 0) s
  { s with fbe := { s.fbe with faults := 0 } }

/-! ### On-line change (R329) -/

def State.standby (s : State) : Nat := 1 - s.fv P.FBE R.FBE_STAT_bank

/-- The old instance that carries its state into an instance of the new image (Table 11-9): same identity and type. -/
def carrier (old : Option Program) (i : ProgInst) : Option ProgInst :=
  old.bind (fun p => p.tables.insts.find? (fun j => decide (j.ident = i.ident) && decide (j.type = i.type)))

/-- The state bytes of an instance behind its header, from its initial values. -/
def initBytes (i : ProgInst) : List Byte := (i.init ++ List.replicate (i.size - 16) 0#8).take (i.size - 16)

/-- The record of an instance in the new half: header (R306), and the state carried from half `h` or the initial one. -/
def State.newRecord (s : State) (old : Option Program) (h : Nat) (i : ProgInst) : List Byte :=
  let head := leBytes 4 i.ident ++ [byte i.type, byte i.version, 0#8, 0#8] ++ leBytes 4 i.size ++ leBytes 4 0
  let init := initBytes i
  match carrier old i with
  | none => head ++ init
  | some j =>
    if i.type = 0xFF then head ++ init
    else
      let kept := s.rdBytes (instBase h + j.off + 16) (Nat.min i.size j.size - 16)
      head ++ (kept ++ init.drop kept.length)

/-- Carry the variables with the same identity and data type (Table 11-9) from half `h` to half `k`. -/
def State.carryVars (s : State) (old : Option Program) (new : Program) (h k : Nat) : State :=
  match old with
  | none => s
  | some p =>
    new.tables.symbols.foldl (fun s y =>
      match y.off, (p.symbol y.ident).filter (fun z => decide (z.dtype = y.dtype)) with
      | some off, some z =>
        (match z.off with
         | some o => s.wrBytes (instBase k + off) (s.rdBytes (instBase h + o) (4 * Nat.min y.count z.count))
         | none => s)
      | _, _ => s) s

/-- Build half `k` for the new image from half `h`: directory, records, variables (R305, R306). -/
def State.buildHalf (s : State) (old : Option Program) (new : Program) (h k : Nat) : State :=
  let base := 0x06000000 + k * 0x01000000
  let s := { s with
    mem := SMap.dropRange s.mem base (base + 0x01000000)
    poisoned := s.poisoned.filter (fun a => decide (a < base) || decide (base + 0x01000000 ≤ a)) }
  let s := (new.tables.insts.zipIdx).foldl (fun s x =>
    let i := x.1
    let s := s.wrBytes (base + x.2 * 16) (leBytes 4 i.ident ++ leBytes 4 i.type ++ leBytes 4 i.off ++ leBytes 4 i.size)
    s.wrBytes (instBase k + i.off) (s.newRecord old h i)) s
  s.carryVars old new h k

/-- An on-line change ends before its seam (R101, R102): the image in force stays. -/
def State.olcAbandon (s : State) : State :=
  { s with fbe := { s.fbe with olcTally := none } }.setFv P.FBE R.FBE_STAT_olc 0

/-- OLC (R329, R500): the change starts in PREPARING. -/
def execOlc (t tally : Nat) (s : State) : Host.Outcome State Fault Refusal :=
  let s := s.at t
  match s.runningTally tally 0x21 with
  | none => .next (s.lateStop tally 0x21 (fun s => if s.fbe.olcTally = some tally then s.olcAbandon else s))
  | some x =>
    if s.life = 3 then .next (s.tallyRefused tally 2 0 0)
    else if s.fv P.FBE R.FBE_STAT_olc ≠ 0 then .next s
    else if x.arg 0 ≠ s.standby ∨ !s.fb P.FBE R.FBE_STAT_sb_valid ∨ (s.fbe.banks.getD s.standby none).isNone then
      .next (s.tallyRefused tally 8 0 0)
    else .next ({ s with fbe := { s.fbe with olcTally := some tally } }.setFv P.FBE R.FBE_STAT_olc 1)

/-- The tally of an on-line change before its seam has passed its deadline: the change ends (R100). -/
def State.olcLate (s : State) : State :=
  match s.fbe.olcTally with
  | some n => s.lateStop n 0x21 State.olcAbandon
  | none => s

/-- OLC_PREPARED (Table 11-6): every instance is built, so the change goes to ARMED. -/
def execOlcPrepared (t : Nat) (s : State) : Host.Outcome State Fault Refusal :=
  let s := (s.at t).olcLate
  if s.fv P.FBE R.FBE_STAT_olc ≠ 1 ∨ !s.domainOn 8 then .next s
  else
    match s.fbe.banks.getD s.standby none with
    | none => .next s
    | some new =>
      let h := s.fv P.FBE R.FBE_STAT_ihalf
      .next ((s.buildHalf s.program new h (1 - h)).setFv P.FBE R.FBE_STAT_olc 2)

/-- The registers that show a program (R311, Table 11-12). -/
def State.showProgram (s : State) (p : Program) : State :=
  let s := (s.setFv P.FBE R.FBE_IMG_ID_id p.imageId).setFv P.FBE R.FBE_UTIL_u p.util
  (List.range 16).foldl (fun s n =>
    let e := p.tasks.getD n ProgTask.none
    let b := P.FBETK n
    let s := ((s.setFv b R.FBE_TK_CFG_period e.period).setFv b R.FBE_TK_CFG_prio e.prio).setFv b R.FBE_TK_CFG_kind e.kind
    let s := (s.setFv b R.FBE_TK_PHASE_phase e.phase).setFv b R.FBE_TK_COST_cost (p.costs.getD n 0)
    s.setFv b R.FBE_TK_RESP_w (Nat.min 0xFFFFFF ((p.resp.getD n 0 + 19) / 20))) s

/-- The derived points bound as outputs. -/
def Program.derived (p : Program) : List Nat :=
  ((p.outs (fun b => decide (b.kind = 11 ∨ b.kind = 12))).map (fun b => b.target)).eraseDups

/-- The change report (R329): header, dropped forces, orphaned points. -/
def changeReport (stamp oldId newId carried new discarded : Nat) (drops : List (Nat × Force)) (orphans : List Nat) : List (Nat × List Byte) :=
  [(0, leBytes 8 stamp ++ leBytes 4 oldId ++ leBytes 4 newId ++ leBytes 2 carried ++ leBytes 2 new ++ leBytes 2 discarded ++
      leBytes 2 drops.length ++ leBytes 2 orphans.length ++ List.replicate 6 0#8),
   (0x20, (drops.take 1024).flatMap (fun f => leBytes 4 f.2.sym ++ leBytes 2 f.2.idx ++ leBytes 2 f.1)),
   (0x2020, (orphans.take 4096).flatMap (fun p => leBytes 2 (scalarNo p)))]

/-- The global variables of a new image (Table 11-9): carried where identity and data type are the same, else at the image's initial
values. -/
def State.seamGlobals (s : State) (old : Option Program) (new : Program) : SMap Word :=
  (new.tables.symbols.filter (fun y => new.isGlobal y.ident)).foldl (fun m y =>
    let same := (old.bind (fun p => p.symbol y.ident)).any (fun z => decide (z.dtype = y.dtype))
    (List.range y.count).foldl (fun m i =>
      let v := (if same then SMap.get? s.fbe.globals (globalKey y.ident i) else none).getD (y.init.getD i 0#32)
      SMap.insert m (globalKey y.ident i) v) m) []

/-- A force slot that stays at a seam waits for the tasks that bind or write its symbol in the new image and have not started a cycle
since it was set or released (Table 11-5). -/
def seamForce (old : Option Program) (y : ProgSymbol) (f : Force) : Force :=
  let was := ((old.bind (fun p => p.symbol f.sym)).map (fun z => z.tasks)).getD []
  { f with dtype := y.dtype, waits := if f.state = 2 then [] else y.tasks.filter (fun n => f.waits.contains n || !was.contains n) }

/-- The slots that no task of the new image keeps waiting move on. -/
def State.forcesSettle (s : State) : State :=
  s.fbe.forces.foldl (fun s f => if f.2.waits = [] ∧ (f.2.state = 1 ∨ f.2.state = 3) then s.forceMoves f.1 f.2 else s) s

/-- The tasks after a change of image: held releases and waiting triggers stay where the task keeps its kind. -/
def seamTask (old new : ProgTask) (now : Nat) (x : Task) : Task :=
  if old.kind = new.kind then { x with out := [] }
  else { Task.reset with rel := some now, last := x.last }

/-- The seam (R329): switch bank and half, forces, tasks, registers and report under one closing mark. -/
def State.seam (s : State) (new : Program) : State :=
  let old := s.program
  let h := s.fv P.FBE R.FBE_STAT_ihalf
  let k := 1 - h
  let s := s.buildHalf old new h k
  let oldTasks := (List.range 16).map s.taskEntry
  let carried := (new.tables.insts.filter (fun i => (carrier old i).isSome)).length
  let fresh := new.tables.insts.length - carried
  let gone := ((old.map (fun p => p.tables.insts)).getD []).filter (fun j =>
    new.tables.insts.all (fun i => !(decide (i.ident = j.ident) && decide (i.type = j.type))))
  let keeps (f : Force) : Bool := (new.symbol f.sym).any (fun y => decide (f.idx < y.count))
  let drops := s.fbe.forces.filter (fun f => !keeps f.2)
  let orphans := ((old.map Program.derived).getD []).filter (fun p => !new.derived.contains p)
  let kept : SMap Nat := new.tables.insts.foldl (fun m i =>
    match (carrier old i).bind (fun j => SMap.get? s.fbe.results j.off) with
    | some r => SMap.insert m i.off r
    | none => m) []
  let tasks := (s.fbe.tasks.zipIdx).map (fun x =>
    seamTask (oldTasks.getD x.2 ProgTask.none) (new.tasks.getD x.2 ProgTask.none) s.now x.1)
  let tally := s.fbe.olcTally
  let oldId := if old.isSome then s.fv P.FBE R.FBE_IMG_ID_id else 0
  let bank := s.standby
  let s := { s with fbe := { s.fbe with
    forces := (s.fbe.forces.filter (fun (f : Nat × Force) => keeps f.2)).map (fun (f : Nat × Force) => (f.1, ((new.symbol f.2.sym).map (fun y => seamForce old y f.2)).getD f.2))
    globals := s.seamGlobals old new
    results := kept
    tasks := tasks
    olcTally := none } }
  let s := ((s.setFv P.FBE R.FBE_STAT_bank bank).setFv P.FBE R.FBE_STAT_ihalf k).setFv P.FBE R.FBE_STAT_olc 0
  let s := (s.setFb P.FBE R.FBE_STAT_sb_valid old.isSome).setFv P.FBE R.FBE_SB_ID_id oldId
  let s := s.showProgram new
  let s := s.setStamp P.FBE R.FBE_SEAM_LO_t R.FBE_SEAM_HI_t s.now
  let s := (s.setFv P.FBE R.FBE_OLC_REP_carried carried).setFv P.FBE R.FBE_OLC_REP_new fresh
  let s := (s.setFv P.FBE R.FBE_OLC_DROP_forces drops.length).setFv P.FBE R.FBE_OLC_DROP_orphans orphans.length
  let s := (changeReport s.now oldId new.imageId carried fresh gone.length drops orphans).foldl
    (fun s x => s.wrBytes (0x06FF0000 + k * 0x01000000 + x.1) x.2) s
  let s := (s.forcesSettle.forcesChanged.irq P.FBE 1).squash 3 (fun p => isScalar p && decide (0x100 ≤ scalarNo p))
  let s := (s.fbeShow).taskShow
  match tally with
  | some n => s.tallyDone n (s.now % 2 ^ 32) drops.length
  | none => s

/-- SEAM (Table 11-6): no cycle runs or is preempted any more, and the images are exchanged. -/
def execSeam (t : Nat) (s : State) : Host.Outcome State Fault Refusal :=
  let s := (s.at t).olcLate
  if s.fv P.FBE R.FBE_STAT_olc ≠ 2 ∨ !s.domainOn 8 ∨ s.runningTask.isSome then .next s
  else
    match s.fbe.banks.getD s.standby none with
    | none => .next s
    | some new => .next (s.seam new)

/-! ### Power (R33, R316, R330) -/

/-- A cycle cut short leaves no trace and is released again (R313). -/
def State.cyclesCut (s : State) : State :=
  { s with fbe := { s.fbe with tasks := s.fbe.tasks.map (fun (x : Task) => match x.cycle with
    | some c => { x with cycle := none, released := some c.stamp }
    | none => x) } }.taskShow

/-- The receive counts lapse at a start-up, and with them what the tasks have seen of them (R314). -/
def State.seenStart (s : State) : State :=
  { s with fbe := { s.fbe with tasks := s.fbe.tasks.map (fun (x : Task) => { x with seen := [] }) } }

/-- Move the stored stamps of every stateful block later (R330). -/
def State.shiftBlocks (s : State) (p : Program) (n : Nat) : State :=
  let base := instBase (s.fv P.FBE R.FBE_STAT_ihalf)
  p.tables.insts.foldl (fun s i =>
    if i.type = 0xFF then s
    else
      let a := base + instWord i.off 1
      s.nodeWriteLe a 8 (s.rdLe a 8 + n)) s

/-- Resumption after `n` steps that do not count (R330): the release schedule, the stamps of the tasks, of their waiting triggers and of
the blocks. A trigger queued within the interval (R316) takes its end. -/
def State.fbeShift (s : State) (n : Nat) : State :=
  let s := match s.program with
    | some p => s.shiftBlocks p n
    | none => s
  let up (o : Option Nat) : Option Nat := o.map (fun x => x + n)
  ({ s with fbe := { s.fbe with
    shift := s.fbe.shift + n
    tasks := s.fbe.tasks.map (fun (x : Task) => { x with queue := x.queue.map (fun t => Nat.min t s.pwr.stopAt + n), released := up x.released, last := up x.last, rel := up x.rel, watch := none }) } }).fbeShow

end Sys2Proof.Machine
end

