-- ==== Sys2Proof/Machine/Lnk.lean ====
section
/-! DEFINITION. Link tests (R514–R521): patterns, the generator, the checker, launch and end. -/

namespace Sys2Proof.Machine

open Sys2Proof

/-! ### Generator and checker (R514–R516) -/

/-- Length of a pattern's register and its second tap (R514). -/
def prbsOf (pat : Nat) : Nat × Nat := [(7, 6), (15, 14), (23, 18), (31, 28)].getD pat (7, 6)

/-- The bit that follows the latest `n` bits, the newest in bit 0. -/
def prbsNext (n tap reg : Nat) : Bool := bitAt reg (n - 1) != bitAt reg (tap - 1)
def prbsShift (n reg : Nat) (b : Bool) : Nat := (reg * 2 + (if b then 1 else 0)) % 2 ^ n

/-- The generator and checker of a test: the pattern, whether its bits go out inverted, exp of LNK_INS; the registers of R515 and the
counters; whether lock was reached or lost. -/
structure LnkRun where
  pat : Nat
  invert : Bool
  exp : Nat
  locked : Bool
  x : Lnk
  bits : Nat
  err : Nat
  ins : Nat
  sync : Nat
  gotLock : Bool
  lostLock : Bool
deriving DecidableEq, Repr

/-- The next bit of the generator, and the run after it (R514, R516). Bits are counted from 1. -/
def LnkRun.send (c : LnkRun) : Bool × LnkRun :=
  let (n, tap) := prbsOf c.pat
  let b := prbsNext n tap c.x.gen
  let k := c.x.sent + 1
  let hit := c.x.ins1 || (decide (c.exp ≠ 0) && decide (k % 2 ^ c.exp = 0))
  ((b != c.invert) != hit,
   { c with
     x := { c.x with
       gen := prbsShift n c.x.gen b, sent := k, ins1 := false
       insLocked := if hit && c.locked then c.x.insLocked + 1 else c.x.insLocked }
     ins := if hit then satAdd (2 ^ 32 - 1) c.ins 1 else c.ins })

/-- Lock is lost (R515): counted, and the checker synchronises again. -/
def LnkRun.lose (c : LnkRun) : LnkRun :=
  { c with locked := false, sync := satAdd 65535 c.sync 1, lostLock := true, x := { c.x with rx := 0, fill := 0, agreed := 0, since := 0, misses := [] } }

/-- The checker takes a bit (R515): compared once locked; before that it loads its register and counts bits that agree, those with which
the register fills among them. -/
def LnkRun.take (c : LnkRun) (r : Bool) : LnkRun :=
  let (n, tap) := prbsOf c.pat
  let d := r != c.invert
  let p := prbsNext n tap c.x.rx
  if c.locked then
    let i := c.x.since
    let bad := d != p
    let misses := (if bad then c.x.misses ++ [i] else c.x.misses).filter (fun m => decide (i < m + 256))
    let c : LnkRun := { c with
      bits := c.bits + 1, err := if bad then satAdd (2 ^ 32 - 1) c.err 1 else c.err
      x := { c.x with rx := prbsShift n c.x.rx p, since := i + 1, misses := misses } }
    if 32 ≤ misses.length then c.lose else c
  else
    let ok := decide (c.x.fill < n) || d == p
    let agreed := if ok then c.x.agreed + 1 else 0
    let c : LnkRun := { c with x := { c.x with rx := prbsShift n c.x.rx d, fill := Nat.min n (c.x.fill + 1), agreed := agreed } }
    if 64 ≤ agreed then { c with locked := true, gotLock := true, x := { c.x with since := 0, misses := [] } } else c

/-- `k` bits go over the link, which inverts those numbered in `flips`. -/
def LnkRun.carry (flips : List Nat) : Nat → LnkRun → LnkRun
  | 0, c => c
  | k + 1, c =>
    let (b, c) := c.send
    LnkRun.carry flips k (c.take (b != flips.contains c.x.sent))

/-- The test at work as the LNK page holds it. -/
def State.lnkRun (s : State) : LnkRun :=
  let pat := s.fv P.LNK R.LNK_CFG_pat
  { pat := pat, invert := decide (pat ≠ 0) != s.fb P.LNK R.LNK_CFG_inv, exp := s.fv P.LNK R.LNK_INS_exp,
    locked := decide (s.fv P.LNK R.LNK_STAT_state = 3), x := s.lnk, bits := s.stamp P.LNK R.LNK_BITS_LO_bits R.LNK_BITS_HI_bits,
    err := s.fv P.LNK R.LNK_ERR_err, ins := s.fv P.LNK R.LNK_INSCNT_ins, sync := s.fv P.LNK R.LNK_SYNC_sync, gotLock := false, lostLock := false }

def State.setLnkRun (s : State) (c : LnkRun) : State :=
  let s : State := { s with lnk := c.x }
  let s := s.setStamp P.LNK R.LNK_BITS_LO_bits R.LNK_BITS_HI_bits c.bits
  let s := ((s.setFv P.LNK R.LNK_ERR_err c.err).setFv P.LNK R.LNK_INSCNT_ins c.ins).setFv P.LNK R.LNK_SYNC_sync c.sync
  let s := s.setFv P.LNK R.LNK_STAT_state (if c.locked then 3 else 2)
  let s := if c.lostLock then (s.setFv P.LNK R.LNK_STAT_lost_sync 1).irq P.LNK 1 else s
  s.irqIf c.gotLock P.LNK 2

/-- A test runs. -/
def State.lnkRuns (s : State) : Bool := decide (2 ≤ s.fv P.LNK R.LNK_STAT_state)

/-- The bits per second of a link, where Table 23-1 gives a rate; link 2 at most. -/
def lnkRate (link : Nat) : Option Nat :=
  match link with
  | 1 | 2 => some 1920000
  | 7 => some 2048000
  | 8 => some 26214400
  | 9 => some 200000000
  | 10 => some 1000000
  | _ => none

/-- Of `sent` bits, those that the link can have carried at its rate since the start stamp, beside the ones counted. -/
def State.lnkRoom (s : State) (sent : Nat) : Nat :=
  match lnkRate (s.fv P.LNK R.LNK_STAT_link) with
  | some r => Nat.min sent (r * (s.now - s.stamp P.LNK R.LNK_T_LO_t R.LNK_T_HI_t) / 16777216 - s.lnk.sent)
  | none => sent

/-- The test at work has carried `sent` bits since the node last counted (Table 23-1); link 0 carries none of its own. -/
def State.lnkCarry (s : State) (sent : Nat) (flips : List Nat) : State :=
  if s.lnkRuns && decide (s.fv P.LNK R.LNK_STAT_link ≠ 0) then s.setLnkRun (LnkRun.carry flips (s.lnkRoom sent) s.lnkRun) else s

/-! ### Link 0 (R517) -/

/-- Bits of a byte as the port sends them, most significant first (R68). -/
def msbBits (b : Byte) : List Bool := (List.range 8).map (fun i => b.getLsbD (7 - i))

/-- Bytes written to LNK_HBUF during a test of link 0 are checked. -/
def State.hbufTake (s : State) (l : List Byte) : State :=
  if s.lnkRuns && decide (s.fv P.LNK R.LNK_STAT_link = 0) then
    s.setLnkRun ((l.flatMap msbBits).foldl (fun (c : LnkRun) b => c.take b) s.lnkRun)
  else s

def hbufByte (c : LnkRun) : Nat × LnkRun :=
  (List.range 8).foldl (fun (x : Nat × LnkRun) _ =>
    let y := x.2.send
    (x.1 * 2 + (if y.1 then 1 else 0), y.2)) (0, c)

def hbufBytes : Nat → LnkRun → List Byte × LnkRun
  | 0, c => ([], c)
  | k + 1, c =>
    let (b, c) := hbufByte c
    let (l, c) := hbufBytes k c
    (byte b :: l, c)

/-- Bytes read from LNK_HBUF: the pattern during a test of link 0, else 0. -/
def State.hbufGive (s : State) (n : Nat) : List Byte × State :=
  if s.lnkRuns && decide (s.fv P.LNK R.LNK_STAT_link = 0) then
    let x := hbufBytes n s.lnkRun
    (x.1, s.setLnkRun x.2)
  else (List.replicate n 0#8, s)

/-! ### Launch (R517, R520) -/

/-- The test takes its link out of service (Table 23-1). -/
def outOfService (link : Nat) : Bool := decide (link ≠ 0) && decide (link ≠ 6)

/-- The domain of a link is powered (R520). -/
def State.linkPowered (s : State) (link : Nat) : Bool :=
  match link with
  | 0 => s.corOn
  | 1 => s.domainOn 10
  | 2 => s.domainOn 11
  | 4 => s.domainOn 9 && decide (s.fv (P.CAN 0) R.CAN_CFG_mode ≠ 0)
  | 5 => s.domainOn 9 && decide (s.fv (P.CAN 1) R.CAN_CFG_mode ≠ 0) && decide (s.pstate ≠ 2)
  | 6 => s.domainOn 7
  | 7 => s.domainOn 3
  | 8 => s.domainOn 4
  | 9 => s.domainOn 5
  | _ => s.corOn

/-- Why a launch is refused; none where it is accepted. -/
def State.launchReason (s : State) (p : Port) (link : Nat) : Option Nat :=
  if !s.linkPowered link || (decide (s.pstate = 2) && outOfService link) then some 5
  else if s.life = 2 ∧ outOfService link ∧ s.level p ≠ 2 then some 2
  else if s.life = 3 ∧ !([0, 6, 7, 8, 9].contains link) then some 2
  else none

/-- LNK_CTRL.clr: the counters go to zero. -/
def State.lnkClear (s : State) : State :=
  let s := s.setStamp P.LNK R.LNK_BITS_LO_bits R.LNK_BITS_HI_bits 0
  let s := ((s.setFv P.LNK R.LNK_ERR_err 0).setFv P.LNK R.LNK_INSCNT_ins 0).setFv P.LNK R.LNK_SYNC_sync 0
  { s with lnk := { s.lnk with insLocked := 0 } }

/-- LNK_CTRL.go. -/
def State.linkGo (s : State) (p : Port) : State :=
  if s.fv P.LNK R.LNK_STAT_state ≠ 0 then s.clampAt P.LNK R.LNK_CTRL_go.off 0 true 1 0
  else
    let link := s.fv P.LNK R.LNK_CFG_link
    match s.launchReason p link with
    | some r => (s.setFv P.LNK R.LNK_STAT_status 2).setFv P.LNK R.LNK_STAT_reason r
    | none =>
      let s : State := { s with lnk := { Lnk.reset with inst := s.fv P.LNK R.LNK_CFG_inst, port := p } }
      let s := (s.lnkClear.setFv P.LNK R.LNK_STAT_status 0).setFv P.LNK R.LNK_STAT_reason 0
      ((s.setFv P.LNK R.LNK_STAT_lost_sync 0).setFv P.LNK R.LNK_STAT_link link).setFv P.LNK R.LNK_STAT_state 1

/-- The builds of a plane at work and waiting are dropped, each counted (R519). -/
def State.buildsDropped (s : State) (i : Nat) : State :=
  let x := s.plane i
  let s := if x.work.isSome then s.planeDrop i else s
  (if x.wait.isSome then s.planeDrop i else s).abandonBuilds i

/-- A port taken out of service carries its frame no further: it is pending again (R519). DESIGN CHOICE (log 116). -/
def State.portTaken (s : State) (p : Nat) : State :=
  match (s.port p).sending with
  | some o => (s.setObj p o R.CAN_OBJ_STAT_tstate 1).canTxEnded p o
  | none => s

/-- What the link under test does as the test starts (R519). -/
def State.linkTaken (s : State) (link : Nat) : State :=
  match link with
  | 4 => s.portTaken 0
  | 5 => s.portTaken 1
  | 7 => s.scanStops s.lnk.inst
  | 9 => (List.range 4).foldl (fun (s : State) p => s.buildsDropped (4 * s.lnk.inst + p)) s
  | 10 => s.rmpTaken
  | _ => s

/-- LINK_TEST_START (R520): a launch on link 7 waits while its converter calibrates. The generator's first bits are open. -/
def execLinkTestStart (t : Nat) (s : State) : Host.Outcome State Fault Refusal :=
  let s := s.at t
  let link := s.fv P.LNK R.LNK_STAT_link
  if s.fv P.LNK R.LNK_STAT_state ≠ 1 ∨ !s.corOn ∨ (link = 7 ∧ (s.cv s.lnk.inst).cal.isSome) then .next s
  else
    let d := s.draw
    let n := (prbsOf (s.fv P.LNK R.LNK_CFG_pat)).1
    let s : State := { d.2 with lnk := { d.2.lnk with gen := d.1.toNat % (2 ^ n - 1) + 1 } }
    let s := (s.setFv P.LNK R.LNK_STAT_state 2).setStamp P.LNK R.LNK_T_LO_t R.LNK_T_HI_t s.now
    .next (s.linkTaken link)

/-! ### Endings (R519, R521) -/

/-- The link resumes normal traffic. -/
def State.linkBack (s : State) (link : Nat) : State :=
  match link with
  | 3 => { s with pnl := { s.pnl with fromShadow := true } }
  | 7 => if s.domainOn 3 then s.scanResumes s.lnk.inst else s
  | 8 => if s.domainOn 4 then s.dynDisc s.lnk.inst else s
  | 10 => s.rmpReplan
  | _ => s

/-- A test ends, or a launch that waits, with a status and reason. -/
def State.linkEnds (s : State) (status reason : Nat) : State :=
  if s.fv P.LNK R.LNK_STAT_state = 0 then s
  else
    let ran := s.lnkRuns
    let s := (s.setFv P.LNK R.LNK_STAT_state 0).setFv P.LNK R.LNK_STAT_status status
    let s := (s.setFv P.LNK R.LNK_STAT_reason reason).irq P.LNK 0
    if ran then s.linkBack (s.fv P.LNK R.LNK_STAT_link) else s

/-- LINK_TEST_END (R521): dur ms since the start stamp; `sent` bits were carried since the last count, `flips` inverted by the link. -/
def execLinkTestEnd (t sent : Nat) (flips : List Nat) (s : State) : Host.Outcome State Fault Refusal :=
  let s := s.at t
  let dur := s.fv P.LNK R.LNK_DUR_dur
  if s.corOn && s.lnkRuns && decide (dur ≠ 0) && decide (s.stamp P.LNK R.LNK_T_LO_t R.LNK_T_HI_t + msecs dur ≤ s.now) then
    .next ((s.lnkCarry sent flips).linkEnds 0 0)
  else .next s

/-- A write of LNK_CTRL (R516, R520, R521). -/
def State.lnkCtrl (s : State) (p : Port) (v : Word) (sent : Nat) (flips : List Nat) : State :=
  let s := s.lnkCarry sent flips
  let s := if v.getLsbD 0 then s.linkGo p else s
  let s := if v.getLsbD 1 then s.linkEnds 0 0 else s
  let s : State := if v.getLsbD 2 then { s with lnk := { s.lnk with ins1 := true } } else s
  if v.getLsbD 3 then s.lnkClear else s

/-- The node leaves RUN or enters DORMANT: tests whose domain loses power, and in DORMANT every one out of service, end (R507, R521). -/
def State.linksLosePower (s : State) : State :=
  let link := s.fv P.LNK R.LNK_STAT_link
  if !s.linkPowered link || (decide (s.pstate = 2) && outOfService link) then s.linkEnds 3 5 else s

/-- The power-fail sequence or an unwarned loss ends a test; it is reported at the next start-up (R521). -/
def State.linkCut (s : State) : State :=
  if s.fv P.LNK R.LNK_STAT_state = 0 then s
  else { s.setFv P.LNK R.LNK_STAT_state 0 with lnk := { s.lnk with cut := some (s.fv P.LNK R.LNK_STAT_link) } }

/-- Start-up: a test that a power loss ended is reported. -/
def State.lnkStart (s : State) : State :=
  match s.lnk.cut with
  | none => { s with lnk := Lnk.reset }
  | some link => ((({ s with lnk := Lnk.reset }).setFv P.LNK R.LNK_STAT_status 6).setFv P.LNK R.LNK_STAT_link link).irq P.LNK 0

/-- What a write of LNK_CFG stores (Table 23-3): the range of inst and ext by the link. -/
def lnkFixes (s : State) (b : Nat) (c : Cand) : List (Field × Nat) :=
  let link := nclip 0 10 (c.fv s b R.LNK_CFG_link)
  let top := if link = 6 ∨ link = 8 ∨ link = 9 then 15 else if link = 7 then 7 else 0
  [(R.LNK_CFG_inst, Nat.min top (c.fv s b R.LNK_CFG_inst)),
   (R.LNK_CFG_ext, if link = 4 ∨ link = 5 then c.fv s b R.LNK_CFG_ext else 0)]

end Sys2Proof.Machine
end

