-- ==== Sys2Proof/Machine/Crypto.lean ====
section
/-! DEFINITION. The algorithms that R492, R494 and R497 name: SHA-256, ECDSA on P-256 and AES-256-GCM. The spec names the standards and does
not print them; they are taken from FIPS 180-4, FIPS 186-4, FIPS 197 and SP 800-38D (PRESUMED). -/

namespace Sys2Proof.Machine

open Sys2Proof

/-- Big-endian number of a byte list, and back. -/
def beNat (l : List Byte) : Nat := l.foldl (fun n b => n * 256 + b.toNat) 0
def beBytes : Nat → Nat → List Byte
  | 0, _ => []
  | n + 1, v => beBytes n (v / 256) ++ [byte v]

/-- A list in pieces of `n`; `k` bounds the pieces. -/
def pieces {α : Type} (n : Nat) : Nat → List α → List (List α)
  | 0, _ => []
  | _ + 1, [] => []
  | k + 1, x :: l => (x :: l).take n :: pieces n k ((x :: l).drop n)

/-! ### SHA-256 -/

def shaK : List Nat :=
  [0x428a2f98, 0x71374491, 0xb5c0fbcf, 0xe9b5dba5, 0x3956c25b, 0x59f111f1, 0x923f82a4, 0xab1c5ed5] ++
  [0xd807aa98, 0x12835b01, 0x243185be, 0x550c7dc3, 0x72be5d74, 0x80deb1fe, 0x9bdc06a7, 0xc19bf174] ++
  [0xe49b69c1, 0xefbe4786, 0x0fc19dc6, 0x240ca1cc, 0x2de92c6f, 0x4a7484aa, 0x5cb0a9dc, 0x76f988da] ++
  [0x983e5152, 0xa831c66d, 0xb00327c8, 0xbf597fc7, 0xc6e00bf3, 0xd5a79147, 0x06ca6351, 0x14292967] ++
  [0x27b70a85, 0x2e1b2138, 0x4d2c6dfc, 0x53380d13, 0x650a7354, 0x766a0abb, 0x81c2c92e, 0x92722c85] ++
  [0xa2bfe8a1, 0xa81a664b, 0xc24b8b70, 0xc76c51a3, 0xd192e819, 0xd6990624, 0xf40e3585, 0x106aa070] ++
  [0x19a4c116, 0x1e376c08, 0x2748774c, 0x34b0bcb5, 0x391c0cb3, 0x4ed8aa4a, 0x5b9cca4f, 0x682e6ff3] ++
  [0x748f82ee, 0x78a5636f, 0x84c87814, 0x8cc70208, 0x90befffa, 0xa4506ceb, 0xbef9a3f7, 0xc67178f2]

def shaH : List Nat :=
  [0x6a09e667, 0xbb67ae85, 0x3c6ef372, 0xa54ff53a, 0x510e527f, 0x9b05688c, 0x1f83d9ab, 0x5be0cd19]

/-- The message schedule, newest word first. -/
def shaSchedule : Nat → List Word → List Word
  | 0, w => w
  | n + 1, w =>
    let a := w.getD 1 0#32
    let b := w.getD 14 0#32
    let s1 := a.rotateRight 17 ^^^ a.rotateRight 19 ^^^ a >>> 10
    let s0 := b.rotateRight 7 ^^^ b.rotateRight 18 ^^^ b >>> 3
    shaSchedule n ((s1 + w.getD 6 0#32 + s0 + w.getD 15 0#32) :: w)

def shaRound (h : List Word) (kw : Nat × Word) : List Word :=
  let g (i : Nat) : Word := h.getD i 0#32
  let e := g 4
  let a := g 0
  let t1 := g 7 + (e.rotateRight 6 ^^^ e.rotateRight 11 ^^^ e.rotateRight 25) + ((e &&& g 5) ^^^ (~~~e &&& g 6)) + word kw.1 + kw.2
  let t2 := (a.rotateRight 2 ^^^ a.rotateRight 13 ^^^ a.rotateRight 22) + ((a &&& g 1) ^^^ (a &&& g 2) ^^^ (g 1 &&& g 2))
  [t1 + t2, a, g 1, g 2, g 3 + t1, e, g 5, g 6]

def shaBlock (h : List Word) (b : List Byte) : List Word :=
  let w := (pieces 4 16 b).map (fun x => word (beNat x))
  let r := ((shaK.zip (shaSchedule 48 w.reverse).reverse)).foldl shaRound h
  (List.range 8).map (fun i => h.getD i 0#32 + r.getD i 0#32)

def sha256 (l : List Byte) : List Byte :=
  let zeros := (119 - l.length % 64) % 64
  let m := l ++ [0x80#8] ++ List.replicate zeros 0#8 ++ beBytes 8 (8 * l.length)
  ((pieces 64 (m.length / 64 + 1) m).foldl shaBlock (shaH.map word)).flatMap (fun w => beBytes 4 w.toNat)

/-! ### P-256 -/

def ecP : Nat := 2 ^ 256 - 2 ^ 224 + 2 ^ 192 + 2 ^ 96 - 1
def ecB : Nat := 0x5ac635d8aa3a93e7b3ebbd55769886bc651d06b0cc53b0f63bce3c3e27d2604b
def ecN : Nat := 0xffffffff00000000ffffffffffffffffbce6faada7179e84f3b9cac2fc632551
def ecG : Nat × Nat :=
  (0x6b17d1f2e12c4247f8bce6e563a440f277037d812deb33a0f4a13945d898c296,
   0x4fe342e2fe1a7f9b8ee7eb4a7c0f9e162bce33576b315ececbb6406837bf51f5)

/-- A point is on the curve (R492). -/
def onCurve (x y : Nat) : Bool :=
  decide (x < ecP) && decide (y < ecP) && decide ((y * y) % ecP = (x * x * x + (ecP - 3) * x + ecB) % ecP)

/-- `b` to the power of a number of `k` bits, modulo `m`. -/
def powMod (m b : Nat) : Nat → Nat → Nat
  | 0, _ => 1 % m
  | k + 1, e =>
    let h := powMod m (b * b % m) k (e / 2)
    if e % 2 = 1 then b * h % m else h

def subMod (a b : Nat) : Nat := (a + ecP - b % ecP) % ecP

/-- A point in Jacobian coordinates; the third one 0 at infinity. -/
structure EcPoint where
  x : Nat
  y : Nat
  z : Nat

def EcPoint.double (p : EcPoint) : EcPoint :=
  let d := p.z * p.z % ecP
  let g := p.y * p.y % ecP
  let b := p.x * g % ecP
  let a := 3 * subMod p.x d * (p.x + d) % ecP
  let x := subMod (a * a) (8 * b)
  ⟨x, subMod (a * subMod (4 * b) x) (8 * g * g), subMod (subMod ((p.y + p.z) * (p.y + p.z)) g) d⟩

def EcPoint.add (p q : EcPoint) : EcPoint :=
  if p.z % ecP = 0 then q
  else if q.z % ecP = 0 then p
  else
    let zp := p.z * p.z % ecP
    let zq := q.z * q.z % ecP
    let u := p.x * zq % ecP
    let s := p.y * zq * q.z % ecP
    let h := subMod (q.x * zp) u
    let r := subMod (q.y * zp * p.z) s
    if h = 0 then (if r = 0 then p.double else ⟨1, 1, 0⟩)
    else
      let hh := h * h % ecP
      let x := subMod (subMod (r * r) (hh * h)) (2 * u * hh)
      ⟨x, subMod (r * subMod (u * hh) x) (s * hh * h), h * p.z * q.z % ecP⟩

/-- A multiple of a point, by a number of `k` bits. -/
def EcPoint.times (p : EcPoint) : Nat → Nat → EcPoint
  | 0, _ => ⟨1, 1, 0⟩
  | k + 1, n =>
    let h := EcPoint.times p.double k (n / 2)
    if n % 2 = 1 then h.add p else h

/-- An ECDSA P-256 signature with SHA-256 (R494, R497): the key X then Y and the signature r then s, each 32 bytes big-endian. -/
def ecdsaVerify (key msg sig : List Byte) : Bool :=
  let qx := beNat (key.take 32)
  let qy := beNat (key.drop 32)
  let r := beNat (sig.take 32)
  let s := beNat (sig.drop 32)
  if r = 0 ∨ ecN ≤ r ∨ s = 0 ∨ ecN ≤ s ∨ !onCurve qx qy then false
  else
    let w := powMod ecN s 256 (ecN - 2)
    let e := beNat (sha256 msg)
    let p := ((⟨ecG.1, ecG.2, 1⟩ : EcPoint).times 256 (e * w % ecN)).add ((⟨qx, qy, 1⟩ : EcPoint).times 256 (r * w % ecN))
    if p.z % ecP = 0 then false
    else
      let i := powMod ecP p.z 256 (ecP - 2)
      decide (p.x * i * i % ecP % ecN = r)

/-! ### AES-256-GCM -/

/-- A product in GF(2^8); `k` bits of the second factor. -/
def gfMul : Nat → Byte → Byte → Byte
  | 0, _, _ => 0#8
  | k + 1, a, b =>
    let a2 := (a <<< 1) ^^^ (if a.getLsbD 7 then 0x1B#8 else 0#8)
    (if b.getLsbD 0 then a else 0#8) ^^^ gfMul k a2 (b >>> 1)

def gfPow : Nat → Nat → Byte → Byte
  | 0, _, _ => 1#8
  | k + 1, e, b =>
    let h := gfPow k (e / 2) (gfMul 8 b b)
    if e % 2 = 1 then gfMul 8 b h else h

/-- The substitution box: the inverse and an affine map. -/
def aesSub (b : Byte) : Byte :=
  let i := gfPow 8 254 b
  i ^^^ i.rotateLeft 1 ^^^ i.rotateLeft 2 ^^^ i.rotateLeft 3 ^^^ i.rotateLeft 4 ^^^ 0x63#8

def xorList (a b : List Byte) : List Byte := List.zipWith (fun x y => x ^^^ y) a b

/-- The expanded key, newest word of 4 bytes first; `n` the words so far. -/
def aesExpand : Nat → Nat → Byte → List (List Byte) → List (List Byte)
  | 0, _, _, w => w
  | k + 1, n, rc, w =>
    let t := w.headD []
    let old := w.getD 7 []
    if n % 8 = 0 then
      let r := (t.drop 1 ++ t.take 1).map aesSub
      aesExpand k (n + 1) (gfMul 8 rc 2#8) (xorList old (xorList r [rc, 0#8, 0#8, 0#8]) :: w)
    else if n % 8 = 4 then aesExpand k (n + 1) rc (xorList old (t.map aesSub) :: w)
    else aesExpand k (n + 1) rc (xorList old t :: w)

/-- The 15 round keys of a 32-byte key. -/
def aesKeys (key : List Byte) : List (List Byte) :=
  (pieces 4 15 (aesExpand 52 8 1#8 (pieces 4 8 key).reverse).reverse).map (fun l => l.flatten)

def aesShift (s : List Byte) : List Byte := (List.range 16).map (fun i => s.getD ((i + 4 * (i % 4)) % 16) 0#8)

def aesMix (s : List Byte) : List Byte :=
  (pieces 4 4 s).flatMap (fun c =>
    (List.range 4).map (fun i =>
      let g (j : Nat) : Byte := c.getD ((i + j) % 4) 0#8
      gfMul 8 (g 0) 2#8 ^^^ gfMul 8 (g 1) 3#8 ^^^ g 2 ^^^ g 3))

/-- One block through AES-256 with its round keys. -/
def aesBlock (ks : List (List Byte)) (b : List Byte) : List Byte :=
  let s := xorList b (ks.headD [])
  let s := ((ks.drop 1).take 13).foldl (fun s k => xorList (aesMix (aesShift (s.map aesSub))) k) s
  xorList (aesShift (s.map aesSub)) (ks.getD 14 [])

/-- A product in GF(2^128) as GHASH orders its bits. -/
def gcmMul : Nat → Nat → Nat → Nat
  | 0, _, _ => 0
  | k + 1, x, v =>
    let z := if x / 2 ^ k % 2 = 1 then v else 0
    let v2 := if v % 2 = 1 then (v / 2) ^^^ (0xE1 * 2 ^ 120) else v / 2
    z ^^^ gcmMul k x v2

/-- The 16-byte pieces of a list, the last filled up with zeros. -/
def gcmPieces (l : List Byte) : List Nat :=
  (pieces 16 (l.length / 16 + 1) l).map (fun b => beNat (b ++ List.replicate (16 - b.length) 0#8))

/-- Decrypt under AES-256-GCM (R494): key, 12-byte IV, additional authenticated data, ciphertext, tag; none where the tag does not
verify. -/
def gcmOpen (key iv aad ct tag : List Byte) : Option (List Byte) :=
  let ks := aesKeys key
  let h := beNat (aesBlock ks (List.replicate 16 0#8))
  let g := (gcmPieces aad ++ gcmPieces ct ++ [8 * aad.length * 2 ^ 64 + 8 * ct.length]).foldl (fun y x => gcmMul 128 (y ^^^ x) h) 0
  let mask := beNat (aesBlock ks (iv ++ beBytes 4 1))
  if beNat tag ≠ g ^^^ mask then none
  else
    some (((pieces 16 (ct.length / 16 + 1) ct).zipIdx.map (fun b => xorList b.1 (aesBlock ks (iv ++ beBytes 4 (b.2 + 2))))).flatten)

end Sys2Proof.Machine
end

