-- ==== Sys2Proof/Machine/Sec.lean ====
section
/-! DEFINITION. Security events, sessions and tamper (R496–R502), and the key store's verification (R492, R494). -/

namespace Sys2Proof.Machine

open Sys2Proof

/-- A security event (R502): its bit on the SEC page and the security alert latch. -/
def State.secEvent (s : State) (bit : Nat) : State := (s.irq P.SEC bit).setFv P.SEC R.SEC_STAT_alert 1

def State.secPort (s : State) (p : Port) : SecPort :=
  match p with
  | .host => s.sec.host
  | .trapdoor => s.sec.trap

def State.setSecPort (s : State) (p : Port) (x : SecPort) : State :=
  match p with
  | .host => { s with sec := { s.sec with host := x } }
  | .trapdoor => { s with sec := { s.sec with trap := x } }

/-- The level field of a port. -/
def levelField (p : Port) : Field :=
  match p with
  | .host => R.SEC_STAT_h_lvl
  | .trapdoor => R.SEC_STAT_t_lvl

/-- Every sealed page is locked again (R498). -/
def State.relock (s : State) : State := s.sealedPages.foldl (fun (s : State) b => s.setFv b R.PG_STAT_locked 1) s

/-- Close a port's session (R498). -/
def State.closeSession (s : State) (p : Port) : State :=
  if s.levelHeld p = 0 then s
  else
    let s := (s.setFv P.SEC (levelField p) 0).relock.irq P.SEC 5
    match p with
    | .host => s
    | .trapdoor => s.setFv P.DBG R.DBG_STAT_session 0

def State.closeSessions (s : State) : State := (s.closeSession .host).closeSession .trapdoor

/-! ### The key store (R492) -/

/-- The key in a slot. -/
def State.slotKey (s : State) (slot : Nat) : Option (List Byte) := if slot = 0 then some Config.slot0 else SMap.get? s.sec.keys slot

/-- The first of the slots under which a message verifies (R494, R497). -/
def State.verifies (s : State) (slots : List Nat) (msg sig : List Byte) : Option Nat :=
  slots.find? (fun i => match s.slotKey i with
    | some k => ecdsaVerify k msg sig
    | none => false)

/-- SEC_KEYS as it follows from the store. -/
def State.keysShow (s : State) : State :=
  let v := bitsOf 4 (fun i => decide (i = 0) || (SMap.get? s.sec.keys i).isSome)
  (s.setFv P.SEC R.SEC_KEYS_valid v).setFb P.SEC R.SEC_KEYS_aes s.sec.aes.isSome

/-! ### Sessions (R497, R498) -/

/-- SEC_CTRL.challenge: a fresh nonce of 16 bytes for the port. -/
def State.challenge (s : State) (p : Port) : State :=
  let d0 := s.draw
  let d1 := d0.2.draw
  let d2 := d1.2.draw
  let d3 := d2.2.draw
  d3.2.setSecPort p { d3.2.secPort p with nonce := [d0.1, d1.1, d2.1, d3.1], since := some d3.2.now }

/-- SEC_CTRL.open: a request for a session, refused during a lockout (R498). -/
def State.openSession (s : State) (p : Port) (level : Nat) : State :=
  if s.lockedOut then s.clampAt P.SEC R.SEC_CTRL_open.off R.SEC_CTRL_open.lsb true 1 0
  else
    let l := nclip 1 2 level
    let s := if l = level then s else s.clampAt P.SEC R.SEC_CTRL_level.off R.SEC_CTRL_level.lsb true level l
    let x := s.secPort p
    let valid := x.since.any (fun t => decide (s.now ≤ t + secs 60))
    let r : OpenReq := { port := p, level := l, nonce := if valid then some x.nonce else none, resp := x.resp }
    ({ s with sec := { s.sec with opens := s.sec.opens ++ [r] } }).setSecPort p { x with since := none }

/-- The message of R497 that a response signs. -/
def openMessage (nonce : List Word) (level : Nat) (p : Port) : List Byte :=
  nonce.flatMap Word.bytes ++ leBytes 8 Config.uid.toNat ++ [byte level, byte (match p with | .host => 0 | .trapdoor => 1)]

/-- The response of an open verifies under slots 1–3. -/
def State.opens (s : State) (r : OpenReq) : Bool :=
  match r.nonce with
  | some n => (s.verifies [1, 2, 3] (openMessage n r.level r.port) (r.resp.flatMap Word.bytes)).isSome
  | none => false

/-- SESSION_DECISION (R497, R498): the session opens, or the failure counts and the lockout begins; a tamper event of the same stamp closes
the session that the open created (R513). -/
def execSessionDecision (t : Nat) (s : State) : Host.Outcome State Fault Refusal :=
  let s := s.at t
  match s.sec.opens with
  | [] => .next s
  | r :: rest =>
    if !s.corOn then .next s
    else
      let s : State := { s with sec := { s.sec with opens := rest } }
      if s.opens r then
        let s := (s.setFv P.SEC (levelField r.port) r.level).setSecPort r.port { s.secPort r.port with opened := s.now }
        let s := (s.setFv P.SEC R.SEC_STAT_fails 0).setFv P.SEC R.SEC_STAT_lockout 0
        let s := (if r.port = .trapdoor then s.setFv P.DBG R.DBG_STAT_session 1 else s).irq P.SEC 5
        .next (if s.sec.tampAt = some s.now then s.closeSession r.port else s)
      else
        let s := s.satInc P.SEC R.SEC_STAT_fails 1
        let wait := Nat.min 3600 (10 * 2 ^ (s.fv P.SEC R.SEC_STAT_fails - 1))
        let s : State := { s with sec := { s.sec with lockUntil := s.now + secs wait } }
        .next ((s.setFv P.SEC R.SEC_STAT_lockout 1).secEvent 1)

/-- SESSION_EXPIRY (R498): sess_min minutes after it opened. -/
def State.expireSession (s : State) (p : Port) : State := if s.sessionOver p then s.closeSession p else s

def execSessionExpiry (t : Nat) (s : State) : Host.Outcome State Fault Refusal :=
  let s := s.at t
  .next (if s.corOn then (s.expireSession .host).expireSession .trapdoor else s)

/-- LOCKOUT_END (R498). -/
def execLockoutEnd (t : Nat) (s : State) : Host.Outcome State Fault Refusal :=
  let s := s.at t
  .next (if s.corOn && decide (s.sec.lockUntil ≤ s.now) then s.setFv P.SEC R.SEC_STAT_lockout 0 else s)

/-- NONCE_EXPIRY (R497): 60 s after the challenge. -/
def State.expireNonce (s : State) (p : Port) : State :=
  let x := s.secPort p
  if x.since.any (fun t => decide (t + secs 60 ≤ s.now)) then s.setSecPort p { x with since := none } else s

def execNonceExpiry (t : Nat) (s : State) : Host.Outcome State Fault Refusal :=
  let s := s.at t
  .next ((s.expireNonce .host).expireNonce .trapdoor)

/-- TRAPDOOR_SESSION_END (R498): TDEN has stayed low for 1 s. -/
def execTrapdoorSessionEnd (t : Nat) (s : State) : Host.Outcome State Fault Refusal :=
  let s := s.at t
  .next (if s.corOn && s.sec.tdenLow.any (fun x => decide (x + secs 1 ≤ s.now)) then s.closeSession .trapdoor else s)

/-- A write of SEC_CTRL (R497, R498, R502). -/
def State.secCtrl (s : State) (p : Port) (v : Word) : State :=
  let s := if v.getLsbD 0 then s.challenge p else s
  let s := if v.getLsbD 1 then s.openSession p (Word.bits v 2 2) else s
  let s := if v.getLsbD 4 then s.closeSession p else s
  if !v.getLsbD 5 then s
  else if Word.bits v 8 8 = 0xA5 then s.setFv P.SEC R.SEC_STAT_alert 0
  else s.clampAt P.SEC R.SEC_CTRL_alert_clr.off R.SEC_CTRL_alert_clr.lsb true 1 0

/-- A write of SEC_RESPn. -/
def State.secResp (s : State) (p : Port) (n : Nat) (v : Word) : State :=
  s.setSecPort p { s.secPort p with resp := (s.secPort p).resp.set n v }

/-! ### Tamper (R496, R504) -/

/-- The AES key goes (R491, R496). -/
def State.eraseAes (s : State) : State := ({ s with sec := { s.sec with aes := none } }).keysShow

/-- A tamper event on an input; in BACKUP it is reported at the next start-up. DEDUCED (log 114): the first event since the last clear is one
that finds both bits of SEC_TAMP.held clear. -/
def State.tamper (s : State) (i : Nat) : State :=
  let first := decide (s.fv P.SEC R.SEC_TAMP_held = 0)
  let s := s.setFv P.SEC R.SEC_TAMP_held (withBit (s.fv P.SEC R.SEC_TAMP_held) i true)
  let s := if first then s.setStamp P.SEC R.SEC_TAMP_T_LO_t R.SEC_TAMP_T_HI_t s.calendar else s
  let s := ({ s with sec := { s.sec with tampAt := some s.now } }).closeSessions
  let s := if s.fb P.SEC R.SEC_CFG_tamp_erase then s.eraseAes else s
  if s.corOn then s.secEvent 0
  else ({ s with sec := { s.sec with tampLate := true } }).setFv P.SEC R.SEC_TAMP_in_backup 1

/-- Input `i` is judged. -/
def State.tamperOn (s : State) (i : Nat) : Bool :=
  s.cellarOn && decide (s.fv P.SEC (if i = 0 then R.SEC_CFG_tamp0 else R.SEC_CFG_tamp1) ≠ 0)

/-- Start-up (R496, R498): sessions close, banked values reset, a tamper event in BACKUP is reported. -/
def State.secStart (s : State) : State :=
  let s := s.closeSessions
  let s : State := { s with sec := { s.sec with host := SecPort.reset, trap := SecPort.reset, opens := [], tdenLow := none } }
  let s := if s.sec.tampLate then s.secEvent 0 else s
  { s with sec := { s.sec with tampLate := false } }

end Sys2Proof.Machine
end

