-- ==== Sys2Proof/Machine/Pages.lean ====
section
/-! DEFINITION. What a register word reads (R80, R83–R94): the common registers, the summary words and PG_STAT.fault of each block, the
fields that follow from other state, and what the words of an unpowered page read (R91). -/

namespace Sys2Proof.Machine

open Sys2Proof

/-! ### Interrupts (R92, R93) -/

/-- The pages with an event that is set and enabled, in ascending order. -/
def State.irqPages (s : State) : List Nat :=
  (s.regs.filter (fun x => decide (x.1 % 0x1000 = 0x20) && decide (x.2 &&& s.reg (x.1 + 4) ≠ 0#32))).map (fun x => x.1 - 0x20)

/-- HIRQ_N is asserted. -/
def State.hirq (s : State) : Bool := !s.irqPages.isEmpty

/-- HALERT_N is asserted (R469, R502). -/
def State.halert (s : State) : Bool := s.fb P.SAF R.SAF_STAT_alert || s.fb P.SEC R.SEC_STAT_alert

/-! ### Fields that follow from other state -/

/-- SYS_STATE.dom_on. -/
def State.domBits (s : State) : Nat := bitsOf 12 s.domainOn

/-- A word with the bits of a field replaced. -/
def overlay (w : Word) (f : Field) (v : Nat) : Word := Word.withBits w f.lsb f.width v

/-- The fraction of a tally that is done, in 1/256. -/
def Tally.fraction (x : Tally) : Nat := if x.total = 0 then 0 else Nat.min 255 (x.done * 256 / x.total)

/-- TLY_QSTATE of TLY_QUERY.tally (Table 03-14). -/
def State.qstate (s : State) : Nat :=
  let n := s.fv P.TLY R.TLY_QUERY_tally
  match s.tally? n with
  | some x => if x.running then 2 + x.fraction * 256 else 1
  | none =>
    match s.tly.cq.find? (fun c => decide (c.num = n)) with
    | some c => 3 + (if c.status ≤ 1 then 255 else c.progress) * 256
    | none => 0

/-- The phase of a converter's slot (CV_STAT): break, discharge, excitation settling, then the slot's own. -/
def State.cvPhase (s : State) (k : Nat) (x : CvSlot) : Nat :=
  let n := s.slotStage k x
  if n ≤ 3 then n else x.kind

/-- The phase of a calibration slot: break, discharge, measurement (R147). -/
def State.calPhase (s : State) (k : Nat) (run : CalRun) : Nat :=
  let since := s.now - (run.start + run.elapsed s.now * 16777216 / run.hz)
  let bbm := 9 + Config.breakTime.toNat % 25
  if since < bbm then 1 else if since < bbm + usecs (5 * run.dis) then 2 else 4

/-- SAF_DT.t_sac in ms (Table 19-2, diagnostic 4). -/
def State.safDt (s : State) : Nat :=
  ((List.range 8).map (fun k =>
    if bitAt (s.fv P.SAC R.SAC_CTRL_cv_en) k && (cvChannels k).any (fun ch => decide (s.scMode ch ≠ 0)) then
      (let n := s.cvSlots k
       let hz := s.cvHz k
       if n * 1000 ≤ 30 * hz then 500 else (16 * n * 1000 + hz - 1) / hz + 20)
    else 0)).foldl Nat.max 0

/-- A bit per channel or plane group. -/
def bits32 (f : Nat → Bool) : Nat := bitsOf 32 f

/-- The words of a page that follow from other state; none where the word in force stands. -/
def State.shown (s : State) (p : Port) (k : Kind) (i b off : Nat) : Option Word :=
  let w := s.reg (b + off)
  match k with
  | .sys =>
    if off = 0x40 then some (overlay w R.SYS_ID_grade (if Config.gradeXB then 1 else 0))
    else if off = 0x44 then
      some (overlay (overlay w R.SYS_STATE_ready (if s.ready then 1 else 0)) R.SYS_STATE_dom_on s.domBits)
    else if off = 0x50 then some (overlay w R.SYS_PWR_busy (if s.pwr.busy || s.pwr.earlyWake.isSome then 1 else 0))
    else none
  | .hpi =>
    if off = 0x44 then some (word s.queue.length)
    else if off = 0x50 then some (overlay w R.HPI_GC_joined s.group.length)
    else if off = 0x54 then
      some (word (bitsOf 23 (fun n => s.irqPages.any (fun q => match pageAt q with
        | some (k', _) => decide (k'.block q = n)
        | none => false))))
    else if off = 0x58 then some (match s.irqPages with | [] => 0x80000000#32 | q :: _ => word q)
    else none
  | .tly =>
    if off = 0x70 then some (word (s.tly.out.length + s.tly.cq.length * 65536))
    else if off = 0x74 then some (match s.tly.cq with | [] => 0#32 | c :: _ => word (c.num + c.status * 65536 + c.reason * 16777216))
    else if off = 0x78 then some (match s.tly.cq with | [] => 0#32 | c :: _ => word c.r0)
    else if off = 0x7C then some (match s.tly.cq with | [] => 0#32 | c :: _ => word c.r1)
    else if off = 0x90 then some (word s.qstate)
    else none
  | .tbs =>
    if off = 0x48 then some (word s.now)
    else if off = 0x4C then some (word (s.now / 2 ^ 32))
    else if off = 0x50 then some (word s.calendar)
    else if off = 0x54 then some (word (s.calendar / 2 ^ 32))
    else if off = 0x70 then some s.tbsDate
    else if off = 0x74 then some s.tbsTime
    else if off = 0x78 then some (overlay w R.TBS_WDAY_calc s.tbsWday)
    else if 0x100 ≤ off ∧ off < 0x120 then some (word (leNat ((s.tbsText.drop (off - 0x100)).take 4)))
    else none
  | .saf =>
    if off = 0xBC then some (word s.safDt)
    else if off = 0xC8 then some (word s.stHours)
    else none
  | .sec =>
    if off = 0x40 then some (word Config.uid.toNat)
    else if off = 0x44 then some (word (Config.uid.toNat / 2 ^ 32))
    else if off = 0x50 then
      some (overlay (overlay (overlay w R.SEC_STAT_h_lvl (s.level .host)) R.SEC_STAT_t_lvl (s.level .trapdoor)) R.SEC_STAT_lockout
        (if s.lockedOut then 1 else 0))
    else if 0x64 ≤ off ∧ off < 0x74 then some ((s.secPort p).nonce.getD ((off - 0x64) / 4) 0#32)
    else none
  | .dbg =>
    if off = 0x44 then
      some (overlay (overlay w R.DBG_STAT_halted (s.fv P.DBG R.DBG_CTRL_fbe_halt)) R.DBG_STAT_session (if s.level .trapdoor = 0 then 0 else 1))
    else none
  | .lnk => if 0x100 ≤ off ∧ off < 0x200 then some (word (leNat ((s.hbufGive 4).1))) else none
  | .cv =>
    if off = 0x48 then
      some (match (s.cv i).slot with
        | some x => word (x.ch + s.cvPhase i x * 16 + 256)
        | none => word (((s.cv i).cal.map (fun x => s.calPhase i x)).getD 0 * 16))
    else if off = 0x50 then (s.cv i).cal.map (fun x => w + word (x.elapsed s.now))
    else none
  | .sc =>
    -- both quality fields read the record (R141)
    if off = 0x7C then some (overlay w R.SC_STAT_quality (s.pointQuality (scalarPoint i)))
    else if off = 0x84 then some (overlay w R.SC_LIVE_quality (s.pointQuality (scalarPoint i)))
    else none
  | .dyn =>
    if off = 0x40 then
      some (overlay w R.DYN_COM_STAT_run (if s.domainOn 4 && (List.range 16).any (fun ch => decide (s.dynMode ch ≠ 0)) then 1 else 0))
    else if off = 0x44 then
      some (word (((List.range 16).map (fun ch => if s.dynMode ch = 1 then 2 * 2 ^ s.fv (P.DYN ch) R.DYN_MODE_iepe_ma else 0)).sum))
    else none
  | .dynCh =>
    if off = 0x68 then some (overlay w R.DYN_STAT_run (if s.domainOn 4 && decide (s.dynMode i ≠ 0) && !s.linkOn 8 i then 1 else 0))
    else none
  | .spx =>
    if off = 0x4C then
      let on := (List.range 64).filter (fun q => s.fb (P.SPX q) R.SPX_PL_CFG_en)
      let d := Config.spxDemand (on.map (fun q => (q, s.fv (P.DYN (q / 4)) R.DYN_MODE_div)))
      some (overlay (overlay w R.SPX_STAT_run (if s.domainOn 5 && s.spx.any (fun x => x.work.isSome) then 1 else 0)) R.SPX_STAT_demand d.toNat)
    else none
  | .pte =>
    if off = 0x50 then
      some (overlay (overlay (overlay w R.PTE_STAT_cq_full (if s.changesFull then 1 else 0)) R.PTE_STAT_paused (if s.ptePaused then 1 else 0))
        R.PTE_STAT_stall (if s.stalled then 1 else 0))
    else if off = 0x68 then
      some (word (Nat.min 2047 s.nForced + Nat.min 2047 (s.nSimScalar + (s.pte.sims.filter (fun e => e.active)).length) * 65536))
    else if off = 0x78 then
      some (let e := s.pte.sims.getD (s.fv P.PTE R.PTE_SIM_SEL_entry) SimEntry.reset; word (e.point + flagBit e.active 31))
    else if off = 0x7C then some (word (s.pte.sims.getD (s.fv P.PTE R.PTE_SIM_SEL_entry) SimEntry.reset).code)
    else if off = 0xA4 then some (word (s.nLevel none 1))
    else if off = 0xA8 then some (word (s.nLevel none 2))
    else if off = 0xAC then some (word (s.nBad none))
    else none
  | .pteCl =>
    if off = 0x44 then some (word (s.nLevel (some i) 1))
    else if off = 0x48 then some (word (s.nLevel (some i) 2))
    else if off = 0x4C then some (word (s.nBad (some i)))
    else if off = 0x50 then some (word (s.nLatched (some i)))
    else none
  | .alh =>
    if off = 0x60 then some (word (s.alhAct + s.alhUnack * 65536))
    else if off = 0x64 then some (word (s.alhSup + s.alh.slots.length * 65536))
    else if off = 0x68 then some (word s.alhOos)
    else if off = 0x70 then some s.rateWord
    else if off = 0x140 then some (word s.targetsOk)
    else none
  | .fbe =>
    let f := SMap.get (fun _ => Force.reset) s.fbe.forces (s.fv P.FBE R.FBE_FRC_SEL_slot)
    if off = 0x60 then some (word f.sym)
    else if off = 0x64 then some (word f.idx)
    else if off = 0x68 then some f.val
    else if off = 0x70 then some (word (f.state + f.dtype * 4 + s.fv P.FBE R.FBE_FRC_STAT_res * 16))
    else none
  | .evr =>
    if off = 0x4C then
      some (SMap.get (fun _ => 0#32) s.evr.lists (s.fv P.EVR R.EVR_LSEL_list * 64 + s.fv P.EVR R.EVR_LSEL_item))
    else if off = 0x54 then
      some (word (flagBit (s.fb P.EVR R.EVR_CTRL_en && !s.fb P.EVR R.EVR_STAT_full && !s.evr.paused && decide (s.life ≠ 3)) 0 +
        flagBit (s.fb P.EVR R.EVR_STAT_full) 1 + flagBit (s.tly.out.any (fun x => x.running && decide (x.op = 0x30))) 2 + flagBit (s.evr.marker.any (fun m => decide (m.kind = 1) && m.closed.isNone)) 3 + Nat.min 127 s.cratesStaged * 16 +
        s.evr.queue.length * 4096))
    else none
  | .rmp =>
    if off = R.RMP_POS_pos.off then some (word (uext 32 s.rmpPos))
    else if off = R.RMP_PHASE_ph.off then some (overlay w R.RMP_PHASE_ph (s.rmpPhase s.rmpPos))
    else if off = R.RMP_STAT_dir.off then some (overlay w R.RMP_STAT_dir (if s.diroHigh then 1 else 0))
    else none
  | .dio => if off = R.DIO_DO_STAT_eff.off then some (overlay w R.DIO_DO_STAT_eff s.doEffBits) else none
  | _ => none

/-! ### Summary words (0x30–0x3C) and PG_STAT.fault -/

/-- The register that a page's summary word repeats. -/
def copyOf (k : Kind) (off : Nat) : Option Nat :=
  let at_ (l : List Nat) : Option Nat := l[(off - 0x30) / 4]?
  match k with
  | .cv => at_ [0x48]
  | .sc => at_ [R.SC_STAT_range.off, R.SC_LIVE_live.off]
  | .dynCh => at_ [0x68, 0x70]
  | .spxPl => at_ [0x54]
  | .sto => at_ [R.STO_STAT_rekey.off, R.STO_ERR_corr.off]
  | .pte => at_ [0x50, 0x80, 0xA8, 0xAC]
  | .pteCl => at_ [0x48, 0x44]
  | .alh => at_ [0x60, 0x64, 0x68]
  | .alhLd => at_ [R.ALH_LD_STAT_active.off]
  | .fbe => at_ [R.FBE_STAT_run.off, R.FBE_NFORCE_n.off]
  | .fbeTk => at_ [R.FBE_TK_STAT_state.off]
  | .evr => at_ [0x54, 0x58, 0x60]
  | .tbs => at_ [0x44, 0xA0]
  | .dio => at_ [R.DIO_STAT_link.off, R.DIO_DI_state.off, R.DIO_DO_STAT_eff.off]
  | .lpo => at_ [R.LPO_STAT_link.off]
  | .lpoCh => at_ [R.LPO_CH_STAT_src.off, R.LPO_CH_RB_rb.off]
  | .can => at_ [R.CAN_STAT_state.off, R.CAN_COLL_count.off]
  | .pnl => at_ [R.PNL_STAT_busy.off, R.PNL_GEN_gen.off, R.PNL_LEDGER_last.off]
  | .rmp => at_ [R.RMP_STAT_src.off, R.RMP_POS_pos.off, R.RMP_DEM_dem.off]
  | .saf => at_ [0xA0, 0xA4, 0xA8, 0xAC]
  | .age => at_ [R.AGE_STAT_running.off, R.AGE_CAP_per.off]
  | .sec => at_ [0x50, 0x48, 0xC0]
  | .dbg => at_ [0x44]
  | .lnk => at_ [0x50, 0x5C]
  | _ => none

/-- The targets of an active call that cannot be reached (R288). -/
def State.unreachable (s : State) (l : Nat) : Bool :=
  s.callActive l && decide ((SMap.get (fun _ => Call.none_) s.alh.calls l).targets &&& (0xFFFFFFFF - s.targetsOk) ≠ 0)

/-- PG_STAT.fault of a powered page. -/
def State.pageFault (s : State) (k : Kind) (i b : Nat) : Bool :=
  match k with
  | .sac => (List.range 32).any (fun ch => decide (s.scLive ch ≠ 0)) || (List.range 8).any (fun n => (s.cv n).fault)
  | .cv => (s.cv i).fault
  | .sc => decide (s.scLive i ≠ 0)
  | .dyn => (List.range 16).any (fun ch => decide (s.fv (P.DYN ch) R.DYN_LIVE_live ≠ 0))
  | .dynCh => decide (s.fv b R.DYN_LIVE_live ≠ 0)
  | .spx => (List.range 64).any (fun q => decide (s.fv (P.SPX q) R.SPX_PL_STAT_cause = 2) && decide (s.fv (P.SPX q) R.SPX_PL_STAT_quality = 3))
  | .spxPl => decide (s.fv b R.SPX_PL_STAT_cause = 2)
  | .sto => !s.poisoned.isEmpty || s.sto.spares.any (fun n => decide (n = 0))
  | .pte =>
    s.poisoned.any (fun a => (decide (0x08000000 ≤ a) && decide (a < 0x28000000)) || (decide (0x44000000 ≤ a) && decide (a < 0x44200000))) ||
      s.fb P.PTE R.PTE_STAT_late
  | .alh => (List.range 8).any s.unreachable
  | .alhLd => s.unreachable i
  | .fbe => decide (s.fbe.faults ≠ 0)
  | .fbeTk => bitAt s.fbe.faults i
  | .evr => s.fb P.EVR R.EVR_STAT_full
  | .tbs => s.fb P.TBS R.TBS_STAT_osf || !s.fb P.TBS R.TBS_STAT_x32_ok
  | .dio => s.fb P.DIO R.DIO_STAT_fault || decide (s.fv P.DIO R.DIO_STAT_link ≠ 1)
  | .lpo => decide (s.fv P.LPO R.LPO_STAT_link ≠ 1) || (List.range 4).any (fun ch => s.fb (P.LPOCH ch) R.LPO_CH_STAT_compliance)
  | .lpoCh => s.pageReady .lpoCh && s.fb b R.LPO_CH_STAT_compliance
  | .can => decide (s.fv b R.CAN_STAT_state = 4) || decide (s.fv b R.CAN_STAT_state = 5) || s.fb b R.CAN_STAT_id_collision
  | .canObj => (List.range 32).any (fun o => decide (s.fv b (R.CAN_OBJ_STAT_tstate.nth o) = 4) || decide (s.fv b (R.CAN_OBJ_STAT_tstate.nth o) = 6))
  | .pnl => s.fb P.PNL R.PNL_STAT_crc_err
  | .rmp => s.rmp.dflt || s.fb P.RMP R.RMP_STAT_ovr || s.fb P.RMP R.RMP_STAT_pos_lost
  | .saf => s.fb P.SAF R.SAF_STAT_safe
  | .age => s.fb P.AGE R.AGE_STAT_critical
  | .sec => decide (s.fv P.SEC R.SEC_TAMP_held ≠ 0) || s.fb P.SEC R.SEC_TAMP_in_backup
  | .lnk => decide (s.fv P.LNK R.LNK_ERR_err ≠ s.lnk.insLocked)
  | _ => false

/-- The summary words that are no copy of one register. -/
def State.summary (s : State) (k : Kind) (b off : Nat) : Nat :=
  match k with
  | .sac =>
    if off = 0x30 then bits32 (fun ch => decide (s.scLive ch ≠ 0))
    else if off = 0x34 then bits32 (fun ch => decide (s.pointQuality (scalarPoint ch) = 1))
    else if off = 0x38 then bits32 (fun ch => decide (s.pointQuality (scalarPoint ch) = 3))
    else bitsOf 8 (fun n => (s.cv n).fault)
  | .dyn =>
    if off = 0x30 then bitsOf 16 (fun ch => decide (s.fv (P.DYN ch) R.DYN_LIVE_live ≠ 0))
    else if off = 0x34 then bitsOf 16 (fun ch => decide (s.fv (P.DYN ch) R.DYN_STAT_tstate = 2))
    else if off = 0x38 then bitsOf 16 (fun ch => decide (s.fv (P.DYN ch) R.DYN_STAT_tstate = 3))
    else 0
  | .spx =>
    let plane (f : Nat → Bool) : Nat := bitsOf 16 (fun ch => (List.range 4).any (fun q => f (P.SPX (4 * ch + q))))
    if off = 0x30 then plane (fun x => decide (s.fv x R.SPX_PL_STAT_quality = 3))
    else if off = 0x34 then plane (fun x => decide (s.fv x R.SPX_PL_STAT_quality = 2))
    else if off = 0x38 then
      bitsOf 16 (fun ch => decide (s.fv (P.SPX (4 * ch + 2)) R.SPX_PL_STAT_quality = 2) && decide (s.fv (P.SPX (4 * ch + 2)) R.SPX_PL_STAT_cause = 4))
    else 0
  | .alh => if off = 0x3C then bitsOf 8 s.callActive else 0
  | .fbe =>
    if off = 0x38 then bitsOf 16 (fun n => decide (s.fv (P.FBETK n) R.FBE_TK_OVR_ovr ≠ 0))
    else if off = 0x3C then (s.reg (P.FBE + R.FBE_UTIL_u.off)).toNat
    else 0
  | .lpo =>
    if off = 0x34 then bitsOf 4 (fun ch => s.fb (P.LPOCH ch) R.LPO_CH_STAT_compliance)
    else if off = 0x38 then bitsOf 4 (fun ch => s.fb (P.LPOCH ch) R.LPO_CH_STAT_fold)
    else 0
  | .can => if off = 0x38 then bitsOf 4 (fun n => s.fb b (R.CAN_PMB_STAT_new.nth n)) else 0
  | .canObj =>
    let tst (o : Nat) : Nat := s.fv b (R.CAN_OBJ_STAT_tstate.nth o)
    if off = 0x30 then bits32 (fun o => decide (tst o = 1) || decide (tst o = 2))
    else if off = 0x34 then bits32 (fun o => s.fb b (R.CAN_OBJ_STAT_new.nth o) && !s.fb b (R.CAN_OBJ_CFG_dir.nth o))
    else if off = 0x38 then bits32 (fun o => decide (tst o = 4))
    else 0
  | _ => 0

/-! ### Words -/

/-- Where the word at an offset is held: of CAN_OBJ_MASK and CAN_OBJ_RPL the one that the object's direction selects (Table 16-7). -/
def homeOff (k : Kind) (off dir : Nat) : Nat :=
  if k = .canObj ∧ 0x100 ≤ off ∧ off < 0x500 ∧ off % 0x20 = 8 ∧ dir = 1 then 0x600 + (off - 0x108) / 0x20 * 4 else off

/-- The offset at which a port finds a held word. -/
def shownOff (k : Kind) (home : Nat) : Nat :=
  if k = .canObj ∧ 0x600 ≤ home ∧ home < 0x680 then 0x108 + (home - 0x600) / 4 * 0x20 else home

/-- The fields that stand in a word while its object has direction `dir`; the data bytes are rw of a transmit object and ro of a receive
object (Table 16-7). -/
def standing (k : Kind) (inst off dir : Nat) : List Field :=
  if k = .canObj then
    if 0x600 ≤ off ∧ off < 0x680 then []
    else if 0x800 ≤ off ∧ dir = 0 then (fieldsAt k inst off).map (fun f => { f with acc := .ro })
    else fieldsAt k inst (homeOff k off dir)
  else fieldsAt k inst off

/-- The object that a word of an object page belongs to. -/
def objectOf (k : Kind) (off : Nat) : Option Nat :=
  if k ≠ .canObj then none
  else if 0x100 ≤ off ∧ off < 0x500 then some ((off - 0x100) / 0x20)
  else if 0x800 ≤ off then some ((off - 0x800) / 0x40)
  else none

/-- The word of the page that shows the staged copies of its rws fields. -/
def State.stagedWord (s : State) (b off : Nat) : Word :=
  if b = P.EVR ∧ off = 0x4C then
    let i := s.fv P.EVR R.EVR_LSEL_list * 64 + s.fv P.EVR R.EVR_LSEL_item
    (SMap.get? s.evr.stagedLists i).getD (SMap.get (fun _ => 0#32) s.evr.lists i)
  else (SMap.get? s.staged (b + off)).getD (s.reg (b + off))

/-- The direction of the object that a word of an object page belongs to: committed, or as staged. -/
def State.objDir (s : State) (staged : Bool) (k : Kind) (b off : Nat) : Nat :=
  match objectOf k off with
  | some o =>
    let f := R.CAN_OBJ_CFG_dir.nth o
    if staged && decide (off < 0x500) then Word.bits (s.stagedWord b f.off) f.lsb f.width else s.fv b f
  | none => 0

/-- A word at 0x40 or above: wo fields read 0 (R12), ro and w1c fields of an unpowered page their Reset values (R91), rws fields
their staged values while `view` is set (R84), reserved bits 0 (R13). -/
def State.blockWord (s : State) (view : Bool) (p : Port) (k : Kind) (i b off : Nat) : Word :=
  let dir := s.objDir view k b off
  let home := homeOff k off dir
  let w := (s.shown p k i b off).getD (s.reg (b + home))
  let on := s.pageOn k
  let st := s.stagedWord b home
  word (((standing k i off dir).map (fun f =>
    (match f.acc with
     | .wo => 0
     | .rw => Word.bits w f.lsb f.width
     | .rws => Word.bits (if view then st else w) f.lsb f.width
     | _ => if (on && (s.pageReady k || !f.ofIsland k)) || f.kept then Word.bits w f.lsb f.width else f.resetValue) * 2 ^ f.lsb)).sum)

/-- PG_STAT (Table 03-5). A commit completes within its command, so busy reads 0. -/
def State.pgStat (s : State) (k : Kind) (i b : Nat) : Nat :=
  let r := s.ring b
  flagBit (s.pageReady k) 0 + flagBit (!r.entries.isEmpty || decide (r.lost ≠ 0)) 1 + flagBit (s.fb b R.PG_STAT_locked) 2 +
    flagBit (s.pageOn k && s.pageFault k i b) 3 + flagBit (s.fb b R.PG_STAT_staged) 4 + flagBit (s.group.contains b) 6

/-- A register word as a port reads it, with the staged copies of rws fields where `view` is set. Words outside every page read 0. -/
def State.readWordAs (s : State) (view : Bool) (p : Port) (a : Nat) : Word :=
  match pageAt a with
  | none => 0#32
  | some (k, i) =>
    let b := pageBase a
    let off := a % 0x1000
    let r := s.ring b
    if off = 0x00 then word (k.block b + k.number * 256 + (if k.number = 0 then 0 else i) * 65536)
    else if off = 0x04 then 0x00000100#32
    else if off = 0x08 then word (s.pgStat k i b)
    else if off = 0x10 then
      (match r.entries with
       | [] => word (r.lost * 1048576)
       | e :: _ => word (e.word + e.lsb * 1024 + flagBit e.src 15 + r.entries.length * 65536 + r.lost * 1048576))
    else if off = 0x14 then (match r.entries with | [] => 0#32 | e :: _ => e.wr)
    else if off = 0x18 then (match r.entries with | [] => 0#32 | e :: _ => e.st)
    else if off = 0x20 ∨ off = 0x24 ∨ off = 0x2C then s.reg a
    else if off < 0x30 then 0#32
    else if off < 0x40 then
      (match copyOf k off with
       | some o => s.blockWord view p k i b o
       | none => if s.pageOn k then word (s.summary k b off) else 0#32)
    else s.blockWord view p k i b off

/-- A register word as a port reads it (R84). -/
def State.readWord (s : State) (p : Port) (a : Nat) : Word := s.readWordAs (s.fb P.HPI R.HPI_CFG_view) p a

end Sys2Proof.Machine
end

