-- ==== Sys2Proof/Machine/Evr.lean ====
section
/-! DEFINITION. The event recorder: snapshots and crates (R334–R337), flood and full (R338, R339), the flush at a power failure (R340),
the loss marker (R341), EVR_ERASE (R344), and what a write of its page and a commit of it do (R332, R334, R346). -/

namespace Sys2Proof.Machine

open Sys2Proof

/-! ### Snapshots (R334, R335) -/

/-- An item descriptor inside Table 12-2; any other is stored as 0. -/
def itemValid (d : Nat) : Nat :=
  let kind := d / 0x10000000
  if kind = 1 then (if d % 0x10000000 ≤ 0x200FFFF then d else 0)
  else if kind = 2 then
    (if d % 0x10000000 < 0x1000000 ∧ d % 4 = 0 ∧ (pageAt (d % 0x10000000)).isSome then d else 0)
  else 0

/-- The 6 bytes of an item in committed state (R335). -/
def State.itemBytes (s : State) (d : Nat) : List Byte :=
  let x := d % 0x10000000
  if d / 0x10000000 = 1 then
    let read := if isScalar x then [scalarVal (scalarNo x), stateByteAt x]
      else [codeAt (s.fv (P.SPX (planeNo x)) R.SPX_PL_STAT_half) x, stateByteAt x]
    if read.any s.isPoisoned then [0#8, 0#8, 0#8, 0#8, 0x10#8, 0#8]
    else
      leBytes 4 (if isScalar x then (s.value (scalarNo x)).toNat else s.levelCode x) ++
        [byte (s.pointQuality x + flagBit (s.pointForced x) 2 + flagBit (s.pointSimulated x) 3), byte (s.stateByte x)]
  else
    match pageAt x with
    | some (k, _) => Word.bytes (s.readWordAs false .host x) ++ [byte (flagBit (!s.pageReady k) 4), 0#8]
    | none => [0#8, 0#8, 0#8, 0#8, 0x10#8, 0#8]

/-- The descriptors of a list up to its first unused item (R334). -/
def State.listItems (s : State) (l : Nat) : List Nat :=
  ((List.range 64).map (fun i => (SMap.get (fun _ => 0#32) s.evr.lists (l * 64 + i)).toNat)).takeWhile (fun d => decide (d / 0x10000000 ≠ 0))

/-! ### Crates (R336) -/

/-- Bytes 0–503 of a crate (Table 12-3), with its check sum. -/
def crateBody (seq kind list source flags stamp cal arg n delay : Nat) (items context : List Byte) : List Byte :=
  let fill (l : List Byte) (k : Nat) : List Byte := (l ++ List.replicate k 0#8).take k
  let l := leBytes 4 seq ++ [byte kind, byte list, byte source, byte flags] ++ leBytes 8 stamp ++ leBytes 8 cal ++ leBytes 2 arg ++
    leBytes 2 n ++ leBytes 4 delay ++ fill items 384 ++ fill context 80
  l ++ leBytes 4 (crc32 l) ++ leBytes 4 0

/-- The crate sequence number after `n`: it wraps to 1 (R337). -/
def nextSeq (n : Nat) : Nat := if 0xFFFFFFFF ≤ n then 1 else n + 1

/-- Flags [0] and [1] of a crate. -/
def State.clockFlags (s : State) : Nat := flagBit (s.fb P.TBS R.TBS_STAT_clamped_set) 0 + flagBit (s.fb P.TBS R.TBS_STAT_osf) 1

/-- The crate of a trigger captured at the present instant (R335, R336). -/
def State.crateOf (s : State) (g : Trigger) (seq : Nat) : Crate :=
  let items := match g.list with
    | some l => (s.listItems l).map s.itemBytes
    | none => []
  let missing := items.any (fun l => bitAt (l.getD 4 0#8).toNat 4)
  let delay := Nat.min 0xFFFFFFFF (s.now - g.stamp)
  let flags := s.clockFlags + flagBit missing 2 + flagBit (decide (usecs 100 < delay)) 3
  { body := crateBody seq 0 (g.list.getD 0xFF) g.source flags g.stamp s.calendar (g.arg % 65536) items.length delay items.flatten g.context,
    seq := seq }

/-- The crate of a marker (Table 12-4), with the calendar and the flags of its closing. Its t_trig is its first trigger's stamp. -/
def markerCrate (m : Marker) (seq cal flags : Nat) : Crate :=
  let ctx := leBytes 4 m.count ++ leBytes 8 m.tFirst ++ leBytes 8 m.tLast ++ [byte m.srcMask, 0#8] ++ leBytes 2 m.entry ++
    leBytes 4 (if m.kind = 1 then m.qfull else 0)
  { body := crateBody seq m.kind 0xFF 0xFF flags m.tFirst cal 0 0 0 [] ctx, seq := seq }

/-- A closed marker waits in the marker slot to be written (R338). -/
def State.markerWaits (s : State) : Bool := s.evr.marker.any (fun m => m.closed.isSome)

/-- Close the open marker: it takes the next sequence number and waits in its slot until the crates staged before it are written (R338). -/
def State.closeMarker (s : State) : State :=
  match s.evr.marker with
  | some m =>
    if m.closed.isSome then s
    else
      let seq := nextSeq s.evr.lastSeq
      let c : Closing := { seq := seq, cal := s.calendar, flags := s.clockFlags, ahead := s.evr.larder.length }
      { s with evr := { s.evr with marker := some { m with kind := 1, closed := some c }, lastSeq := seq } }
  | none => s

/-- The capture unit takes a trigger (R333, R338, R339). -/
def State.captureTrigger (s : State) (g : Trigger) : State :=
  if s.fb P.EVR R.EVR_STAT_full || s.regionClosed || decide (64 ≤ s.cratesStaged) then s.foldOrRefuse g
  else
    let s := s.closeMarker
    let seq := nextSeq s.evr.lastSeq
    { s with evr := { s.evr with larder := s.evr.larder ++ [s.crateOf g seq], lastSeq := seq } }

/-- A trigger that would be folded finds the marker slot holding a closed marker: there is one slot, and the trigger waits in the queue until
that marker is written (R338; DESIGN CHOICE, log 118). -/
def State.captureWaits (s : State) : Bool :=
  s.markerWaits && !s.fb P.EVR R.EVR_STAT_full && (s.regionClosed || decide (64 ≤ s.cratesStaged))

/-- CRATE_CAPTURE (R335): the oldest trigger of the queue is taken; `ecc` is what reading its items finds (R228). -/
def execCrateCapture (t : Nat) (ecc : EccFinds) (s : State) : Host.Outcome State Fault Refusal :=
  let s := s.at t
  match s.evr.queue with
  | [] => .next s
  | g :: rest =>
    if !s.ready || decide (s.life = 3) || s.captureWaits then .next s
    else .next ((({ s with evr := { s.evr with queue := rest } }).eccFinds ecc).captureTrigger g)

/-! ### Writing (R337, R339) -/

/-- Write a crate at index `i` of the region, its closing mark last, and advance EVR_WIDX and EVR_SEQ; nothing follows the crate at the
region's end (R339). -/
def State.putCrate (s : State) (i : Nat) (c : Crate) : State :=
  let a := 0x80000000 + i * 512
  let old := s.fv P.EVR R.EVR_WIDX_widx
  let s := s.nodeWrite a (c.body ++ leBytes 4 c.seq ++ leBytes 4 0xA5C33C5A)
  let s := ((s.setFv P.EVR R.EVR_WIDX_widx (i + 1)).setFv P.EVR R.EVR_SEQ_seq c.seq).irq P.EVR 0
  let s := s.irqIf (decide (419430 ≤ 4194304 - old) && decide (4194304 - (i + 1) < 419430)) P.EVR 4
  if i = 4194303 then (s.setFv P.EVR R.EVR_STAT_full 1).irq P.EVR 2 else s

/-- The staged crate at the head of the larder is written at EVR_WIDX; a closed marker has one less before it. -/
def State.writeCrate (s : State) : State :=
  match s.evr.larder with
  | c :: rest =>
    let m := s.evr.marker.map (fun (m : Marker) =>
      { m with closed := m.closed.map (fun (x : Closing) => { x with ahead := x.ahead - 1 }) })
    ({ s with evr := { s.evr with larder := rest, marker := m } }).putCrate (s.fv P.EVR R.EVR_WIDX_widx) c
  | [] => s

/-- Write what comes next in sequence at EVR_WIDX: the closed marker once no crate is staged before it, else the oldest staged crate. -/
def State.writeStaged (s : State) : State :=
  match s.evr.marker with
  | some m =>
    match m.closed with
    | some x =>
      if x.ahead = 0 then ({ s with evr := { s.evr with marker := none } }).putCrate (s.fv P.EVR R.EVR_WIDX_widx) (markerCrate m x.seq x.cal x.flags)
      else s.writeCrate
    | none => s.writeCrate
  | none => s.writeCrate

/-- Write the full marker at the last crate of the region; recording stops (R339). -/
def State.writeFullMarker (s : State) : State :=
  match s.evr.marker with
  | some m =>
    if s.fb P.EVR R.EVR_STAT_full then { s with evr := { s.evr with marker := none } }
    else
      let seq := nextSeq s.evr.lastSeq
      let c := markerCrate m seq s.calendar s.clockFlags
      let s : State := { s with evr := { s.evr with marker := none, lastSeq := seq } }
      s.putCrate 4194303 c
  | none => s

/-- The full marker stands open. -/
def State.fullMarkerOpen (s : State) : Bool := s.evr.marker.any (fun m => decide (m.kind = 3))

/-- CRATE_WRITE (R337, R339): the oldest staged crate is written, or the full marker once none is staged. -/
def execCrateWrite (t : Nat) (s : State) : Host.Outcome State Fault Refusal :=
  let s := s.at t
  if !s.ready || s.evr.paused || s.evr.loss.isSome then .next s
  else if !s.evr.larder.isEmpty || s.markerWaits then .next s.writeStaged
  else if s.fullMarkerOpen && s.regionClosed then .next s.writeFullMarker
  else .next s

/-! ### Power loss (R340, R341) -/

/-- Crate EVR_WIDX is cleared and takes the loss marker that waits (R341). -/
def State.writeLossMarker (s : State) (l : Nat × Nat × Nat) : State :=
  let i := s.fv P.EVR R.EVR_WIDX_widx
  let s : State := { s with evr := { s.evr with loss := none } }
  if 4194304 ≤ i then s
  else
    let seq := nextSeq s.evr.lastSeq
    let m : Marker := { kind := 2, count := l.1, tFirst := l.2.1, tLast := l.2.2, srcMask := 0, entry := 0xFFFF, qfull := 0, closed := none }
    let c := markerCrate m seq s.calendar s.clockFlags
    ({ s with evr := { s.evr with lastSeq := seq } }).putCrate i c

/-- LOSS_MARKER (R341): before any other crate is written; an erase that pauses writing (R344) delays it. -/
def execLossMarker (t : Nat) (s : State) : Host.Outcome State Fault Refusal :=
  let s := s.at t
  match s.evr.loss with
  | some l => .next (if s.ready && !s.evr.paused then s.writeLossMarker l else s)
  | none => .next s

/-- The triggers that wait in the queue are folded into the marker (R340). -/
def State.foldQueue (s : State) : State :=
  let q := s.evr.queue
  q.foldl (fun (s : State) g => s.foldOrRefuse g) { s with evr := { s.evr with queue := [] } }

/-- Step 3 of R40: the staged crates and a closed marker are written in order (R340), a loss marker that still waits before them (R341); the
triggers left in the queue are folded. -/
def State.flushLarder (s : State) : State :=
  let s := match s.evr.loss with
    | some l => s.writeLossMarker l
    | none => s
  ((List.range (s.evr.larder.length + 1)).foldl (fun (s : State) _ => if !s.evr.larder.isEmpty || s.markerWaits then s.writeStaged else s) s).foldQueue

/-- The end of step 5 of R40: what has been raised since is folded, and the open marker is written as the last crate (R340): the full marker
where one stands open in a closed region, or only the region's last crate is left. -/
def State.flushMarker (s : State) : State :=
  let s := s.foldQueue
  if (s.fullMarkerOpen && s.regionClosed) || decide (4194303 ≤ s.fv P.EVR R.EVR_WIDX_widx) then
    ({ s with evr := { s.evr with marker := s.evr.marker.map (fun (m : Marker) => { m with kind := 3 }) } }).writeFullMarker
  else s.closeMarker.writeStaged

/-- What the cellar has counted of the larder and the queue: crates and triggers, first and last trigger stamp (R341). -/
def State.lossCount (s : State) : Nat × Nat × Nat :=
  let stamps := s.evr.larder.map (fun c => leNat ((c.body.drop 8).take 8)) ++ s.evr.queue.map (fun g => g.stamp)
  match stamps with
  | [] => (0, 0, 0)
  | x :: l => (stamps.length, l.foldl Nat.min x, l.foldl Nat.max x)

/-- The larder, the queue and the open marker are lost with COR. -/
def State.evrStops (s : State) : State :=
  { s with evr := { s.evr with queue := [], larder := [], marker := none, paused := false } }

/-- Two losses marked by one crate: the counts together, the earliest and the latest stamp. -/
def lossSum (a b : Nat × Nat × Nat) : Nat × Nat × Nat :=
  if a.1 = 0 then b else if b.1 = 0 then a else (a.1 + b.1, Nat.min a.2.1 b.2.1, Nat.max a.2.2 b.2.2)

/-- An unwarned loss (R41): the cellar keeps its count, with that of losses that no start-up has counted yet (R56), and what stood in COR
is gone. -/
def State.evrLost (s : State) : State :=
  let before := if s.evr.losses = 0 then (0, 0, 0) else s.evr.loss.getD (0, 0, 0)
  let lost := lossSum before s.lossCount
  let s := s.evrStops
  { s with evr := { s.evr with loss := some lost, losses := s.evr.losses + 1 } }

/-- A start-up counts the unwarned losses, known from the cellar or not (R341), and the triggers that the cellar counted after the
marker (R340). -/
def State.evrStart (s : State) (clean cellarLost : Bool) : State :=
  let s := s.satInc P.EVR R.EVR_OVR_ovr s.evr.late
  let n := Nat.max 1 s.evr.losses
  let s : State := { s with evr := { s.evr with late := 0, losses := 0 } }
  if clean then { s with evr := { s.evr with loss := none } }
  else
    let l := if cellarLost then (0xFFFFFFFF, 0, 0) else s.evr.loss.getD (0, 0, 0)
    let marked := decide (s.fv P.EVR R.EVR_SEQ_seq ≠ 0)
    let counted := marked || s.evr.loss.isSome
    let s : State := { s with evr := { s.evr with loss := if marked then some l else none } }
    if !counted then s
    else
      let s := s.satInc P.EVR R.EVR_LOSS_crates (Nat.min l.1 65535)
      (s.satInc P.EVR R.EVR_LOSS_events n).irq P.EVR 3

/-! ### EVR_ERASE (R344) -/

/-- EVR_ERASE up to `upto` crates from the top of the range downward. -/
def State.evrErase (s : State) (x : Tally) (upto : Nat) : State :=
  let first := x.arg 0
  let count := if x.arg 1 = 0 then 4194304 - first else x.arg 1
  let top := first + count
  let widx := s.fv P.EVR R.EVR_WIDX_widx
  let pause := decide (x.arg 1 = 0) || decide (widx ≤ top) || s.evr.paused
  let upto := Nat.max x.done (Nat.min upto count)
  let lo := top - upto
  let a := 0x80000000 + lo * 512
  let n := (upto - x.done) * 512
  let s := s.curePoison a n
  let s : State := { s with mem := SMap.dropRange s.mem a (a + n), evr := { s.evr with paused := pause } }
  let s := if pause && decide (lo < widx) then
      (let s := s.setFv P.EVR R.EVR_WIDX_widx lo
       if lo < 4194303 then s.setFv P.EVR R.EVR_STAT_full 0 else s)
    else s
  let s := s.tallyProgress x.num upto count 0
  if count ≤ upto then
    ({ s with evr := { s.evr with paused := false } }).tallyDone x.num count 0
  else s

/-- EVR_ERASE (R344, R500): refused at its first step where the lifecycle and the port's session do not permit it. -/
def execEvrErase (t tally crates : Nat) (s : State) : Host.Outcome State Fault Refusal :=
  let s := s.at t
  match s.runningTally tally 0x30 with
  | some x => .next (if decide (x.total ≠ 0) || s.maintains x.port then s.evrErase x crates else s.tallyRefused tally 2 0 0)
  | none => .next (s.lateStop tally 0x30 (fun s => { s with evr := { s.evr with paused := false } }))

/-! ### The EVR page -/

/-- A write of EVR_TRIG (Table 12-1 source 0): the trigger's instant is that at which the write takes effect. -/
def State.evrTrigGo (s : State) (v : Word) : State :=
  if v.getLsbD 8 then
    s.trigger { stamp := s.now, source := 0, arg := Word.bits v 16 16, list := some (Word.bits v 0 4), context := [] }
  else s

/-- A write of EVR_CLR. -/
def State.evrClr (s : State) (v : Word) : State :=
  if v.getLsbD 0 then
    ((s.setReg (P.EVR + R.EVR_OVR_ovr.off) 0#32).setReg (P.EVR + R.EVR_FULL_full.off) 0#32).setReg (P.EVR + R.EVR_LOSS_crates.off) 0#32
  else s

/-- A commit of the EVR page stores the staged descriptors (R334); the answer's second part is what was stored otherwise. -/
def State.evrCommitLists (s : State) : State × List (Nat × Nat) :=
  let l := s.evr.stagedLists
  let bad := (l.filter (fun x => decide (itemValid x.2.toNat ≠ x.2.toNat))).map (fun x => (x.2.toNat, itemValid x.2.toNat))
  let lists := l.foldl (fun m x => SMap.put (fun _ => 0#32) m x.1 (word (itemValid x.2.toNat))) s.evr.lists
  ({ s with evr := { s.evr with lists := lists, stagedLists := [] } }, bad)

end Sys2Proof.Machine
end

