-- ==== Sys2Proof/Machine/Tally.lean ====
section
/-! DEFINITION. The tally engine (R95–R104): launch, classes, completion, deadline, cancellation, power loss. -/

namespace Sys2Proof.Machine

open Sys2Proof

/-! ### Launch (R95, R96) -/

/-- The codes of Table 03-12. -/
def tallyCodes : List Nat := [0x00, 0x01, 0x02, 0x03, 0x04, 0x10, 0x11, 0x20, 0x21, 0x30, 0x40, 0x50, 0x60, 0x70, 0xFF]

/-- The arguments of an operation as its launch clamps them (R95, R148, R207, R209, R217, R344, R471, R478). -/
def clampArgs (op : Nat) (a : List Nat) : List Nat :=
  let g (i : Nat) : Nat := a.getD i 0
  let eight (i : Nat) (l : List Nat) : List Nat := l.set i (g i / 8 * 8)
  if op = 0x01 then eight 0 (eight 1 (eight 2 a))
  else if op = 0x02 then eight 0 (eight 1 a)
  else if op = 0x03 then (eight 0 (eight 1 a)).set 2 (Nat.min 1 (g 2))
  else if op = 0x10 then
    let lo := Nat.min 0x1FFFFFF (g 0)
    (((a.set 0 lo).set 1 (nclip lo 0x1FFFFFF (g 1))).set 2 (nclip 1 65535 (g 2))).set 3 (Nat.min 1 (g 3))
  else if op = 0x11 then
    let lo := Nat.min 0x1FFFFFF (g 0)
    ((a.set 0 lo).set 1 (nclip lo 0x1FFFFFF (g 1))).set 3 (Nat.max (g 2 % 65536) (g 3 % 65536) + Nat.max (g 2 / 65536) (g 3 / 65536) * 65536)
  else if op = 0x30 then
    let first := Nat.min 4194303 (g 0)
    (a.set 0 first).set 1 (Nat.min (g 1) (4194304 - first))
  else if op = 0x40 then a.set 1 (Nat.min 2 (g 1))
  else if op = 0x50 then a.set 0 (Nat.min 0x7F (g 0))
  else if op = 0x70 then a.set 0 (Nat.min 1 (g 0))
  else a

/-- The number is outstanding or queued. -/
def State.tallyUsed (s : State) (n : Nat) : Bool :=
  s.tly.out.any (fun x => decide (x.num = n)) || s.tly.cq.any (fun c => decide (c.num = n))

/-- The number after `n`, from 1 to 0xFFFF (R96). -/
def nextTally (n : Nat) : Nat := if 0xFFFF ≤ n then 1 else n + 1

/-- The first free number after `n`; at most 256 are in use. -/
def State.freeTally (s : State) : Nat → Nat → Nat
  | 0, n => nextTally n
  | k + 1, n => if s.tallyUsed (nextTally n) then s.freeTally k (nextTally n) else nextTally n

/-- The arguments of the TLY page. -/
def State.tallyArgs (s : State) : List Nat := (List.range 8).map (fun i => (s.reg (P.TLY + 0x48 + 4 * i)).toNat)

/-- Record the arguments that a launch clamps, and keep them as stored (R95). -/
def State.argClamps (s : State) (a a' : List Nat) : State :=
  (List.range 8).foldl (fun (s : State) i =>
    let w := a.getD i 0
    let v := a'.getD i 0
    if w = v then s else (s.setReg (P.TLY + 0x48 + 4 * i) (word v)).clampAt P.TLY (0x48 + 4 * i) 0 true w v) s

/-- A launch is refused (R96). -/
def State.tallyFull (s : State) : Bool := decide (64 ≤ s.tly.out.length) || decide (256 ≤ s.tly.out.length + s.tly.cq.length)

/-- A read of TLY_GO launches the operation: the tally number, 0 where it is refused (R95, R96). -/
def State.tlyGo (s : State) (p : Port) : Nat × State :=
  if s.tallyFull then (0, s.irq P.TLY 2)
  else
    let op := s.fv P.TLY R.TLY_OP_op
    let a := s.tallyArgs
    let a' := clampArgs op a
    let n := s.freeTally 256 (s.fv P.TLY R.TLY_LAST_last)
    let tmo := s.fv P.TLY R.TLY_TMO_tmo
    let s := (s.argClamps a a').setFv P.TLY R.TLY_LAST_last n
    let s := if op = 3 then s.setFv P.STO R.STO_VERIFY_CNT_corr 0 else s
    let x : Tally := { num := n, op := op, port := p, args := a'.map word, deadline := if tmo = 0 then none else some (s.now + secs tmo),
                       running := false, clamped := decide (a ≠ a'), done := 0, total := 0, aux := 0, kept := [], outcome := none }
    let s := ({ s with tly := { s.tly with out := s.tly.out ++ [x] } } : State).learnLaunch n
    -- R302: a program image launched during an on-line change before its seam
    let olc := s.fv P.FBE R.FBE_STAT_olc
    if op = 0x20 ∧ a'.getD 2 0 = 1 ∧ (olc = 1 ∨ olc = 2) then (n, s.tallyRefused n 4 0 0) else (n, s)

/-! ### Classes (R97) -/

/-- The class of an operation (Table 03-12); 0 none. -/
def tallyClass (op : Nat) : Nat :=
  if op = 0x00 ∨ op = 0xFF then 0
  else if op ≤ 0x04 ∨ op = 0x30 then 1
  else if op = 0x10 ∨ op = 0x11 then 2
  else if op = 0x20 ∨ op = 0x21 then 3
  else if op = 0x40 then 4
  else if op = 0x50 then 5
  else if op = 0x60 then 6
  else 7

/-- The subsystem of an operation is powered (R97, R102, R533): of the learning operations SPX, of CAL SAC. -/
def State.tallyPowered (s : State) (op : Nat) : Bool :=
  s.ready && (if tallyClass op = 0 then true else if tallyClass op = 2 then s.domainOn 5 else if tallyClass op = 4 then s.domainOn 3
    else decide (s.pstate ≤ 1))

/-- A tally may start: it is the oldest that waits in its class, and none of the class runs. -/
def State.tallyNext (s : State) (x : Tally) : Bool :=
  let c := tallyClass x.op
  decide (c = 0) ||
    (s.tly.out.all (fun y => !(decide (tallyClass y.op = c) && y.running && y.outcome.isNone)) &&
      ((s.tly.out.find? (fun y => decide (tallyClass y.op = c) && !y.running && y.outcome.isNone)).any (fun y => decide (y.num = x.num))))

/-- TALLY_START (R97): the tally runs. -/
def execTallyStart (t tally : Nat) (s : State) : Host.Outcome State Fault Refusal :=
  let s := s.at t
  match s.tally? tally with
  | none => .next s
  | some x =>
    if x.running || x.outcome.isSome || !s.tallyPowered x.op || !s.tallyNext x || (decide (x.op = 0x70) && !s.marginFree) then .next s
    else
      let s := s.setTally { x with running := true }
      .next (if x.op = 4 then s.setFv P.STO R.STO_STAT_rekey 1 else s)

/-- The tally `n` of an operation without a class that has not ended. -/
def State.plainTally (s : State) (n op : Nat) : Bool :=
  s.ready && (s.tally? n).any (fun x => x.running && x.outcome.isNone && decide (x.op = op) && !s.tallyLate x)

/-- NOP (R98): operation 0x00 is done. -/
def execNop (t tally : Nat) (s : State) : Host.Outcome State Fault Refusal :=
  let s := s.at t
  .next (if s.plainTally tally 0x00 then s.tallyDone tally 0 0 else s.lateStop tally 0x00 id)

/-- UNDEFINED_OPERATION (R98, Table 03-12): code 0xFF ends with status 2, reason 1. -/
def execUndefinedOperation (t tally : Nat) (s : State) : Host.Outcome State Fault Refusal :=
  let s := s.at t
  .next (if s.plainTally tally 0xFF then s.tallyRefused tally 1 0 0 else s.lateStop tally 0xFF id)

/-! ### Ends (R98–R103) -/

/-- A tally stops before its end, with status 4, 5 or 6 (R100–R102): a whole operation leaves its target as it was. -/
def State.tallyStops (s : State) (x : Tally) (status : Nat) : State :=
  let n := x.num
  let s := if !x.running then s
    else if x.op = 0x04 then s.rekeyStops
    else if x.op = 0x40 then s.calTallyStops n
    else if x.op = 0x70 then s.planTallyStops n
    else if x.op = 0x21 then (if s.fbe.olcTally = some n then s.olcAbandon else s)
    else if x.op = 0x30 then { s with evr := { s.evr with paused := false } }
    else s
  s.tallyEnds n status 0 x.partDone x.partSecond

/-- An outstanding tally whose operation has ended enters the completion queue (R99, R103). -/
def State.queueCompletion (s : State) (x : Tally) : State :=
  match x.outcome with
  | none => s
  | some (status, reason, r0, r1) =>
    let c : Completion := { num := x.num, status := status, reason := reason, r0 := r0, r1 := r1, progress := x.fraction }
    let s : State := { s with tly := { out := s.tly.out.filter (fun y => decide (y.num ≠ x.num)), cq := s.tly.cq ++ [c] } }
    (s.irq P.TLY 0).irqIf (decide (s.tly.cq.length = 192)) P.TLY 1

/-- TALLY_COMPLETION (R99, R103): the completion enters the queue. -/
def execTallyCompletion (t tally : Nat) (s : State) : Host.Outcome State Fault Refusal :=
  let s := s.at t
  match s.tally? tally with
  | some x => .next (if s.ready then s.queueCompletion x else s)
  | none => .next s

/-- TALLY_TIMEOUT (R100): the deadline has passed, so the operation stops with status 4. -/
def execTallyTimeout (t tally : Nat) (s : State) : Host.Outcome State Fault Refusal :=
  let s := s.at t
  match s.tally? tally with
  | some x =>
    if s.ready && decide (s.pstate ≤ 1) && x.outcome.isNone && s.tallyLate x then .next (s.tallyStops x 4)
    else .next s
  | none => .next s

/-- A write of TLY_CANCEL (R101): TLY_CANCEL_RES gives the answer. DESIGN CHOICE (log 62): an operation that has ended, its completion
queued or about to be, answers 1, too late. -/
def State.tlyCancel (s : State) (n : Nat) : State :=
  match s.tally? n with
  | some x =>
    if x.outcome.isSome then s.setFv P.TLY R.TLY_CANCEL_RES_res 1
    else (s.tallyStops x 5).setFv P.TLY R.TLY_CANCEL_RES_res 0
  | none => s.setFv P.TLY R.TLY_CANCEL_RES_res (if s.tallyUsed n then 1 else 2)

/-- A write of TLY_CQ_POP (R103). -/
def State.cqPop (s : State) (v : Word) : State :=
  if v.getLsbD 0 then { s with tly := { s.tly with cq := s.tly.cq.drop 1 } } else s

/-- Every running and waiting tally ends with status 6 (R102). -/
def State.talliesEnd (s : State) : State :=
  s.tly.out.foldl (fun (s : State) x => if x.outcome.isNone then s.tallyStops x 6 else s) s

/-- The completions of the tallies that a power loss ended enter the queue at start-up (R102). -/
def State.tallyStart (s : State) : State := s.tly.out.foldl (fun (s : State) x => s.queueCompletion x) s

/-- Deadlines do not count the time of DORMANT, BACKUP and OFF (R30, R100). -/
def State.tallyShift (s : State) (n : Nat) : State :=
  { s with tly := { s.tly with out := s.tly.out.map (fun (x : Tally) => { x with deadline := x.deadline.map (fun d => d + n) }) } }

end Sys2Proof.Machine
end

