-- ==== Sys2Proof/Machine/Keys.lean ====
section
/-! DEFINITION. KEY_OP (R492, Table 21-4): INSTALL, REVOKE, AES and ADVANCE with the effects of the lifecycle (R491, R512). -/

namespace Sys2Proof.Machine

open Sys2Proof

/-- SEC_KEYS (Table 21-4 result1). -/
def State.keysWord (s : State) : Nat := (s.reg (P.SEC + R.SEC_KEYS_valid.off)).toNat

/-- The running KEY_OP tally with this function; a function outside Table 21-4 is any row's to refuse. -/
def State.keyTally (s : State) (n fn : Nat) : Option Tally :=
  match s.runningTally n 0x60 with
  | some x => if x.arg 0 = fn ∨ x.arg 0 = 0 ∨ 4 < x.arg 0 then some x else none
  | none => none

/-- The function ends: not permitted here, a bad operand, or done with result0. -/
def State.keyDenied (s : State) (n : Nat) : State := s.tallyRefused n 2 0 0
def State.keyBad (s : State) (n : Nat) : State := s.tallyRefused n 8 0 0
def State.keyDone (s : State) (n r0 : Nat) : State :=
  let s := s.keysShow
  s.tallyDone n r0 s.keysWord

/-- The slots 1–3 that hold a key. -/
def State.filledSlots (s : State) : List Nat := [1, 2, 3].filter (fun i => (SMap.get? s.sec.keys i).isSome)

/-- The operand of a function, `n` bytes at an address of the integrator area. -/
def State.keyOperand (s : State) (a n : Nat) : Option (List Byte) := if inIntegrator a n then some (s.storeBytes a n) else none

/-- INSTALL (R492): the slot takes the key of 64 bytes, a point on the curve; `ecc` is what reading it finds (R228). -/
def execInstall (t tally : Nat) (ecc : EccFinds) (s : State) : Host.Outcome State Fault Refusal :=
  let s := s.at t
  match s.keyTally tally 1 with
  | none => .next (s.lateStop tally 0x60 id)
  | some x =>
    let slot := x.arg 1
    if x.arg 0 ≠ 1 then .next (s.keyBad tally)
    else if !s.maintains x.port then .next (s.keyDenied tally)
    else if slot = 0 ∨ 3 < slot then .next (s.keyBad tally)
    else
      match s.keyOperand (x.arg 2) 64 with
      | none => .next (s.keyBad tally)
      | some k =>
        let s := s.eccFinds ecc
        if s.anyPoison (x.arg 2) 64 then .next (s.tallyEnds tally 3 6 0 0)
        else if !onCurve (beNat (k.take 32)) (beNat (k.drop 32)) then .next (s.keyBad tally)
        else .next ((({ s with sec := { s.sec with keys := SMap.insert s.sec.keys slot k } }).secEvent 4).keyDone tally slot)

/-- REVOKE (R492): the slot is emptied; in SEALED not the last filled one. -/
def execRevoke (t tally : Nat) (s : State) : Host.Outcome State Fault Refusal :=
  let s := s.at t
  match s.keyTally tally 2 with
  | none => .next (s.lateStop tally 0x60 id)
  | some x =>
    let slot := x.arg 1
    if x.arg 0 ≠ 2 then .next (s.keyBad tally)
    else if !s.maintains x.port then .next (s.keyDenied tally)
    else if slot = 0 ∨ 3 < slot then .next (s.keyBad tally)
    else if s.life = 2 ∧ s.filledSlots = [slot] then .next (s.keyDenied tally)
    else .next ((({ s with sec := { s.sec with keys := SMap.erase s.sec.keys slot } }).secEvent 4).keyDone tally slot)

/-- AES (R492): the store takes the key, `ecc` what reading it finds (R228); its source is overwritten with zeros. -/
def execAes (t tally : Nat) (ecc : EccFinds) (s : State) : Host.Outcome State Fault Refusal :=
  let s := s.at t
  match s.keyTally tally 3 with
  | none => .next (s.lateStop tally 0x60 id)
  | some x =>
    if x.arg 0 ≠ 3 then .next (s.keyBad tally)
    else if 2 ≤ s.life then .next (s.keyDenied tally)
    else
      match s.keyOperand (x.arg 1) 32 with
      | none => .next (s.keyBad tally)
      | some k =>
        let s := s.eccFinds ecc
        if s.anyPoison (x.arg 1) 32 then .next (s.tallyEnds tally 3 6 0 0)
        else
          let s := s.wrBytes (x.arg 1) (List.replicate 32 0#8)
          .next (({ s with sec := { s.sec with aes := some k } }).keyDone tally 0)

/-! ### ADVANCE (R491, R512) -/

/-- A mode of Table 22-4 stands that refuses an ADVANCE to SEALED. -/
def State.standingMode (s : State) : Bool :=
  decide (s.nForced ≠ 0) || decide (s.nSimScalar ≠ 0) || s.pte.sims.any (fun e => e.active) || !s.fbe.forces.isEmpty ||
    decide (s.fv P.FBE R.FBE_STAT_olc ≠ 0) || s.fb P.DBG R.DBG_CTRL_fbe_halt || decide (s.fv P.LNK R.LNK_STAT_state ≠ 0)

/-- Release a point's force and end its simulation (Table 22-4). -/
def State.pointFreed (s : State) (p : Nat) : State :=
  let bit := if isScalar p then 128 else 32
  let b := s.stateByte p
  let s1 := if s.pointForced p then s.writeRecord p (if isScalar p then 26 else 8) [byte (b - bit)] else s
  let s1 := if isScalar p && s.pointSimulated p then
      s1.writeRecord p 27 [byte ((s.rd8 (scalarRec (scalarNo p) + 27)).toNat - 4)]
    else s1
  s1.windowFollows s p false

/-- Every spectral simulation entry becomes inactive (R248). -/
def State.simsEnd (s : State) : State :=
  let active := s.pte.sims.filter (fun e => e.active)
  let s := { s with pte := { s.pte with sims := s.pte.sims.map (fun (e : SimEntry) => { e with active := false }) } }
  active.foldl (fun (s : State) e =>
    let s := s.squashPoint 0 e.point
    let b := s.stateByte e.point
    let q := s.reportedQuality e.point
    s.queueChange (mkChange e.point (s.entryOf e.point) b b q q (s.pointForced e.point) false false s.now s.now)) s

/-- Every force and simulation of a point ends. -/
def State.pointsFreed (s : State) : State :=
  let ps := s.listedPoints.filter (fun p => s.pointForced p || (isScalar p && s.pointSimulated p))
  (ps.foldl (fun (s : State) p => s.pointFreed p) s).simsEnd

/-- Every FBE force slot becomes FREE. -/
def State.slotsFreed (s : State) : State :=
  (s.fbe.forces.foldl (fun (s : State) f => (s.leaveForce f.2).setForce f.1 { f.2 with state := 0 }) s).forcesChanged

/-- An on-line change before its seam is cancelled, its tally with it. -/
def State.changeCancelled (s : State) : State :=
  let olc := s.fv P.FBE R.FBE_STAT_olc
  if olc = 1 ∨ olc = 2 then
    match s.fbe.olcTally with
    | some n => (s.olcAbandon).tallyEnds n 5 0 0 0
    | none => s.olcAbandon
  else s

/-- Every call ends (R491). -/
def State.callsEnd (s : State) : State :=
  ((s.alh.entries.filter (fun x => x.2.call.isSome)).map (fun x => x.1)).foldl (fun (s : State) e => s.callLeave e) s

/-- The lifecycle state takes its new value with the effects of R491 and R512. -/
def State.advanceTo (s : State) (target : Nat) : State :=
  let s := s.setFv P.SYS R.SYS_STATE_life target
  if target = 2 then
    let s := ((s.setFv P.SEC R.PG_STAT_locked 1).setFv P.DBG R.PG_STAT_locked 1).setFv P.SAF R.PG_STAT_locked 1
    let locked := (s.regs.filter (fun x => decide (x.1 % 0x1000 = 0x08) && s.fb (pageBase x.1) R.PG_STAT_locked)).map (fun x => pageBase x.1)
    ({ s with sealedPages := locked }).closeSessions
  else if target = 3 then
    let s : State := { s with sec := { s.sec with keys := [], aes := none } }
    let s := (s.keysShow.closeSessions).pointsFreed
    let s := (s.slotsFreed.changeCancelled).setFv P.DBG R.DBG_CTRL_fbe_halt 0
    let s := s.linkEnds 5 0
    (s.safCause true 4 0 0).fbeShow.callsEnd.safShow
  else s

/-- ADVANCE (R490–R492, R512): one step onward, or to SCRAPPED. -/
def execAdvance (t tally : Nat) (s : State) : Host.Outcome State Fault Refusal :=
  let s := s.at t
  match s.keyTally tally 4 with
  | none => .next (s.lateStop tally 0x60 id)
  | some x =>
    let target := x.arg 1
    if x.arg 0 ≠ 4 then .next (s.keyBad tally)
    else if s.life = 3 then .next (s.keyDenied tally)
    else if x.arg 2 ≠ 0x4C494645 then .next (s.keyBad tally)
    else if target = 3 then
      if !s.maintains x.port then .next (s.keyDenied tally)
      else .next (((s.advanceTo 3).secEvent 3).keyDone tally 3)
    else if target ≠ s.life + 1 then .next (s.keyBad tally)
    else if target = 1 ∧ s.filledSlots = [] then .next (s.keyBad tally)
    else if target = 2 ∧ s.standingMode then .next (s.keyBad tally)
    else .next (((s.advanceTo target).secEvent 3).keyDone tally target)

end Sys2Proof.Machine
end

