-- ==== Sys2Proof/Machine/Modes.lean ====
section
/-! DEFINITION. Transitions between the power states (R28–R30, R485–R488): requests, entry to DORMANT, wakes. -/

namespace Sys2Proof.Machine

open Sys2Proof

/-- A change of power state has taken effect. -/
def State.pstateChanged (s : State) : State := (s.safShow.fbeShow).irq P.SYS 0

/-- DYN and SPX are powered, where the configuration enables them (R533); where not, their points stand as unpowered. After a start-up or a
wake (`woken`) the levels stay HELD until their first value (R37, R487), not after LEAN (R28). -/
def State.dynSpxPowered (s : State) (woken : Bool) : State :=
  let s := if s.domainOn 4 then s.dynPowered woken true else if s.pstate = 0 then s.dynOff else s.dynStopped
  if s.domainOn 5 then s.spxPowered else s.spxStopped

/-- RUN to LEAN (R28, R485): builds are abandoned, DYN and SPX lose power. -/
def State.toLean (s : State) : State := (((s.setFv P.SYS R.SYS_STATE_pstate 1).dynStopped.spxStopped).linksLosePower).pstateChanged

/-- LEAN to RUN (R485): DYN and SPX are powered. -/
def State.toRun (s : State) : State := (((s.setFv P.SYS R.SYS_STATE_pstate 0).dynSpxPowered false)).pstateChanged

/-- A request of the host (R485, R486 step 1, R488): held while a transition is in progress; in DORMANT a wake. -/
def State.powerRequest (s : State) (req : Nat) : State :=
  if s.pwr.busy || s.pwr.earlyWake.isSome then { s with pwr := { s.pwr with heldReq := some req } }
  else if s.pstate = 2 then (if req = 2 then s else ({ s with pwr := { s.pwr with wakeTo := req } }).wakeSource 0)
  else if req = s.pstate then s
  else if req = 0 then s.toRun
  else if req = 1 then s.toLean
  else { s with pwr := { s.pwr with busy := true } }

/-- A transition has ended: the latest held request is applied (R488). -/
def State.heldRequest (s : State) : State :=
  match s.pwr.heldReq with
  | none => s
  | some req =>
    let s : State := { s with pwr := { s.pwr with heldReq := none } }
    (s.setFv P.SYS R.SYS_PWR_req req).powerRequest req

/-- Port B loses power (R26); a bus-off stands (R420). -/
def State.portBOff (s : State) : State :=
  let s := s.setPort 1 { s.port 1 with sending := none }
  s.setCanState 1 (if s.busOff 1 then 4 else 0)

/-- DORMANT_ENTRY (R486 steps 2 to 6, R488): the running cycles have ended; the band pass, CAN A asleep, the domains unpowered; a wake
stamped before this follows with its own stamp. -/
def execDormantEntry (t : Nat) (s : State) : Host.Outcome State Fault Refusal :=
  let s := s.at t
  if !s.ready || !s.pwr.busy || decide (s.fv P.FBE R.FBE_STAT_olc ≠ 0) || s.fbe.tasks.any (fun x => x.cycle.isSome) then .next s
  else
    let s := s.bandRest
    let s := (s.canSleep).portBOff
    let s : State := { s with dio := { s.dio with hold := bitsOf 8 s.doCommand } }
    let s := ((s.sacStop).setFv P.SYS R.SYS_STATE_pstate 2).termShow
    let s := ((s.dynStopped.spxStopped).calCounting false).ageCount false true
    let s : State := { s with pwr := { s.pwr with busy := false, stopAt := s.now } }
    let s := ((s.linksLosePower).rmpReplan).pstateChanged
    match s.pwr.earlyWake with
    | some w => .next (s.wakeStamp w.1 w.2)
    | none => .next s.heldRequest

/-- Deadlines, delays, runs and schedules move later by `n` steps that do not count (R30). -/
def State.shiftAll (s : State) (n : Nat) : State :=
  ((((s.alhShift n).fbeShift n).sweepShift n).runsShift n).tallyShift n

/-- PTE, ALH and FBE resume: what lapsed while FBE had no power stands at its Reset value (PTE's since the wake, or the start-up), deadlines
have moved (R30, R91). -/
def State.resumePte (s : State) : State :=
  let s := s.lapse (fun k _ => decide (k.domain = 8))
  (s.shiftAll (s.now - s.pwr.stopAt)).taskShow

/-- The domains of RUN or LEAN are powered (R34 step 7, R487 steps 2 and 3). -/
def State.awaken (s : State) : State :=
  let s := s.resumePte
  let s := if s.domainOn 3 then s.sacPowered else s
  (((s.dynSpxPowered true).calCounting true).ageCount true true).alhResumes

/-- WAKE_FROM_DORMANT (R487, R488): into the state that the host asked for, or SYS_PWR.wake_to. -/
def execWakeFromDormant (t : Nat) (s : State) : Host.Outcome State Fault Refusal :=
  let s := s.at t
  match s.pwr.earlyWake with
  | none => .next s
  | some (stamp, bit) =>
    if !s.ready || decide (s.pstate ≠ 2) then .next s
    else
      let target := if bit = 0 then s.pwr.wakeTo else s.fv P.SYS R.SYS_PWR_wake_to
      let s : State := { s with pwr := { s.pwr with earlyWake := none } }
      let s := (s.setFv P.SYS R.SYS_STATE_pstate target).setFv P.SYS R.SYS_PWR_req target
      let s := s.awaken
      let s := if s.fb (P.CAN 0) R.CAN_CTRL_sleep then s else s.canWakeUp
      let s := (s.canStart 1 (decide (s.canState 1 = 4))).rmpReplan
      let s := (s.setFv P.SYS R.SYS_START_cause 2).setFv P.SYS R.SYS_START_clean 1
      let s := (s.setFv P.SYS R.SYS_START_panel_rewrite 1).setFv P.SYS R.SYS_START_pfw_hold 0
      let s := s.setFv P.SYS R.SYS_T_READY_t_ready (Nat.min 0xFFFFFF (s.now - stamp))
      .next s.pstateChanged.heldRequest

end Sys2Proof.Machine
end

