-- ==== Sys2Proof/Machine/Fabric.lean ====
section
/-! DEFINITION. The register fabric (R12–R15, R82–R91): who may read and write a word, what its fields store, staging, commit, group
commit, lock, and what a written word then does on its page. -/

namespace Sys2Proof.Machine

open Sys2Proof

/-! ### Who may (R499, R500, Table 21-5) -/

/-- SYS_ID, SEC_UID, SEC_STAT, SEC_CTRL, SEC_NONCE and SEC_RESP: all that the trapdoor answers while SEC_CFG.td_en is 0, and in SEALED
without a session (R499). -/
def trapdoorList (a : Nat) : Bool :=
  decide (a = 0x40) || (decide (a / 0x1000 = 6) &&
    (let o := a % 0x1000
     decide (o = 0x40) || decide (o = 0x44) || decide (o = 0x50) || decide (o = 0x60) || (decide (0x64 ≤ o) && decide (o < 0x74)) ||
       (decide (0x80 ≤ o) && decide (o < 0xC0))))

/-- The measurement pages of Table 21-5 (M): SAC, DYN, SPX, TBS, LNK and HPI, and SEC_CTRL. -/
def measurementWord (k : Kind) (a : Nat) : Bool :=
  match k with
  | .sac | .cv | .sc | .dyn | .dynCh | .spx | .spxPl | .tbs | .lnk | .hpi => true
  | .sec => decide (a % 0x1000 = 0x60)
  | _ => false

/-- The port may read the register word. -/
def State.mayRead (s : State) (p : Port) (k : Kind) (a : Nat) : Bool :=
  match p with
  | .host => true
  | .trapdoor =>
    if !s.fb P.SEC R.SEC_CFG_td_en then trapdoorList a
    else if s.life = 3 then measurementWord k a
    else if s.life = 2 ∧ s.level p = 0 then trapdoorList a
    else true

/-- The port may write the register word. -/
def State.mayWrite (s : State) (p : Port) (k : Kind) (a : Nat) : Bool :=
  match p with
  | .host => if s.life = 3 then measurementWord k a else true
  | .trapdoor =>
    if s.life = 3 then false
    else if !s.fb P.SEC R.SEC_CFG_td_en || (decide (s.life = 2) && decide (s.level p ≠ 2)) then trapdoorList a
    else true

/-- The port may write the rw and rws fields of a page: not of a locked page (R90), nor of a sealed one outside a level 2 session. -/
def State.mayStore (s : State) (p : Port) (b : Nat) : Bool :=
  !s.fb b R.PG_STAT_locked && (!s.sealedPages.contains b || (decide (s.life = 2) && decide (s.level p = 2)))

/-- A trapdoor access is refused (Table 21-8 DBG_STAT). -/
def State.trapRefused (s : State) (p : Port) : State :=
  match p with
  | .host => s
  | .trapdoor => (s.satInc P.DBG R.DBG_STAT_refused 1).irq P.DBG 1

/-! ### Clamp entries (R15, R86) -/

/-- What a Clamp entry stores of a written value, with the previous value for those it keeps. -/
def Clamp.fix (c : Clamp) (width w prev : Nat) : Nat :=
  match c with
  | .any => w
  | .rng lo hi => nclip lo hi w
  | .srng lo hi => uext width (iclip lo hi (sext width w))
  | .frng lo hi => if !b32Finite (word w) then prev else if b32Lt (word w) lo then lo.toNat else if b32Lt hi (word w) then hi.toNat else w
  | .fpos => if b32Finite (word w) && b32Lt 0#32 (word w) then w else prev
  | .fnonneg => if b32Finite (word w) && b32Le 0#32 (word w) then w else prev
  | .mask m => w &&& m
  | .ones m => w ||| m
  | .dep => w

/-- The last day of a month of a year (R353). -/
def monthDays (year month : Nat) : Nat :=
  if month = 2 then (if year % 4 = 0 ∧ (year % 100 ≠ 0 ∨ year % 400 = 0) then 29 else 28)
  else if month = 4 ∨ month = 6 ∨ month = 9 ∨ month = 11 then 30 else 31

/-- A target of RMP_TGT within the limits (R444, Table 18-3): of speed with tmode 1, else the virtual limits. -/
def State.rmpTgtLimit (s : State) (w : Word) : Word :=
  if s.fb P.RMP R.RMP_CFG_tmode then
    (let v := s.rmpLim R.RMP_LIM_V_vmax
     if Q.lt v (ofB32 w) then toB32 v else if Q.lt (ofB32 w) (Q.neg v) then toB32 (Q.neg v) else w)
  else if Q.lt s.rmpHi (ofB32 w) then toB32 s.rmpHi
  else if Q.lt (ofB32 w) s.rmpLo then toB32 s.rmpLo
  else w

/-- The bytes of a word of PNL_LBUF that lie in a line; those beyond are reserved (R440). -/
def State.lbufFix (s : State) (off w : Nat) : Nat := w % 2 ^ (8 * Nat.min 4 (s.pnlLineLen - (off - 0x200)))

/-- A loop's set value within the range in force (R389). -/
def loopFix (ext : Bool) (w : Word) : Word := let r := loopSat ext (ofB32 w); if r.2 then toB32 r.1 else w

/-- RMP_TGT as a host write stores it (R444, Table 18-3): within the limits; while another owns the target, or for a value that is not
finite, the previous one. -/
def State.rmpTgtFix (s : State) (w : Word) : Word :=
  let prev := s.fw P.RMP R.RMP_TGT_tgt
  if s.fv P.RMP R.RMP_CFG_own ≠ 1 ∨ !b32Finite w then prev else s.rmpTgtLimit w

/-- The value of an rw field whose Clamp entry depends on other state; `b` the page, `w` the value after its own entry. -/
def State.rwFix (s : State) (p : Port) (k : Kind) (b off : Nat) (f : Field) (v : Word) (w : Nat) : Nat :=
  if f = R.TLY_OP_op then (if tallyCodes.contains w then w else 0xFF)
  else if f = R.PTE_WIN_BASE_base then (if (0x020 ≤ w ∧ w ≤ 0x09F) ∨ w = 0x110 then w else s.fv b f)
  else if f = R.TBS_SET_DATE_day then
    nclip 1 (monthDays (nclip 2000 9999 (Word.bits v 0 16)) (nclip 1 12 (Word.bits v 16 4))) w
  else if f = R.PNL_LSEL_line then nclip 32 (s.fv b R.PNL_GEOM_height - 1) w
  else if f = R.PNL_LBUF_data then s.lbufFix off w
  else if f = R.LPO_FSK_TXBUF_tx ∧ s.fb b R.LPO_FSK_STAT_tx_busy then (s.reg (b + off)).toNat
  else if f = R.RMP_TGT_tgt then (s.rmpTgtFix (word w)).toNat
  else if f = R.DBG_CTRL_fbe_halt then (if w = 0 ∨ s.fb b f ∨ s.maintains p then w else 0)
  else if f = R.LNK_CFG_inst ∨ f = R.LNK_CFG_ext then
    (match (lnkFixes s b [(0x40, v)]).find? (fun x => decide (x.1 = f)) with
     | some x => x.2
     | none => w)
  else if k = .can ∧ f = R.CAN_CTRL_sleep then w
  else w

/-- The fields that a page action stores by itself, with its own clamp. -/
def storedByAction (f : Field) : Bool :=
  decide (f = R.DIO_DO_SET_set) || decide (f = R.LPO_CH_SET_set) || decide (f = R.PTE_SIM_PT_active)

/-! ### The common registers (R83, Tables 03-4 to 03-10) -/

/-- The fields of the common registers; the summary words read only. -/
def commonFields (off : Nat) : List Field :=
  let f (lsb width : Nat) (acc : Access) : Field := ⟨off, 1, 0, lsb, width, acc, 0, .any, true⟩
  if off = 0x00 then [f 0 8 .ro, f 8 4 .ro, f 16 8 .ro]
  else if off = 0x04 then [f 0 8 .ro, f 8 8 .ro]
  else if off = 0x08 then (List.range 7).map (fun i => f i 1 .ro)
  else if off = 0x0C then (List.range 5).map (fun i => f i 1 .wo) ++ [f 8 8 .wo]
  else if off = 0x10 then [f 0 10 .ro, f 10 5 .ro, f 15 1 .ro, f 16 4 .ro, f 20 11 .ro]
  else if off = 0x14 ∨ off = 0x18 then [f 0 32 .ro]
  else if off = 0x1C then [f 0 1 .wo, f 1 1 .wo]
  else if off = 0x20 then [f 0 31 .w1c, f 31 1 .w1c]
  else if off = 0x24 then [f 0 32 .rw]
  else if off = 0x28 then [f 0 32 .wo]
  else [f 0 32 .ro]

/-- The fields that a write of a word finds; the header of an object by its direction as staged. -/
def State.wordFields (s : State) (k : Kind) (i b off : Nat) : List Field :=
  if off < 0x40 then commonFields off else standing k i off (s.objDir true k b off)

/-! ### Storing a word (R12, R13, R84, R90) -/

/-- Stage the value of an rws field. -/
def State.stage (s : State) (b off : Nat) (f : Field) (w : Nat) : State :=
  let v := Word.withBits (s.stagedWord b off) f.lsb f.width w
  let item := s.fv P.EVR R.EVR_LSEL_list * 64 + s.fv P.EVR R.EVR_LSEL_item
  let s : State :=
    if b = P.EVR ∧ off = 0x4C then { s with evr := { s.evr with stagedLists := SMap.insert s.evr.stagedLists item v } }
    else { s with staged := SMap.insert s.staged (b + off) v }
  s.setFv b R.PG_STAT_staged 1

/-- One field of a written word. `now` is what the word reads, `may` whether rw and rws fields take writes. -/
def State.storeField (s : State) (p : Port) (k : Kind) (b off : Nat) (may : Bool) (now v : Word) (f : Field) : State :=
  let w := Word.bits v f.lsb f.width
  let cur := Word.bits now f.lsb f.width
  let here : Field := { f with off := off }
  match f.acc with
  | .wo => s
  | .ro => if w = cur then s else s.clampAt b off f.lsb true w cur
  | .w1c => s.setFv b here (s.fv b here &&& (2 ^ f.width - 1 - w))
  | .rw =>
    if !may then (if w = cur then s else s.clampAt b off f.lsb true w cur)
    else if storedByAction f then s
    else
      let st := s.rwFix p k b off f v (f.clamp.fix f.width w (s.fv b here))
      let s := if st = w then s else s.clampAt b off f.lsb true w st
      s.setFv b here st
  | .rws =>
    let home := homeOff k off (s.objDir true k b off)
    if may then s.stage b home f w
    else if w = cur ∧ w = Word.bits (s.stagedWord b home) f.lsb f.width then s
    else s.clampAt b off f.lsb true w cur

/-- How many bits from `j` on no field covers. -/
def freeRun (covered : Nat → Bool) : Nat → Nat → Nat
  | 0, _ => 0
  | n + 1, j => if covered j || decide (32 ≤ j) then 0 else 1 + freeRun covered n (j + 1)

/-- Every field of a written word in ascending bit order, and a clamp for each run of reserved bits in which a 1 is written (R13). -/
def State.storeWord (s : State) (p : Port) (k : Kind) (i b off : Nat) (may : Bool) (v : Word) : State :=
  let fs := s.wordFields k i b off
  let now := s.readWord p (b + off)
  let covered (j : Nat) : Bool := fs.any (fun f => decide (f.lsb ≤ j) && decide (j < f.lsb + f.width))
  if fs.isEmpty then (if v = 0#32 then s else s.clampAt b off 0 true v.toNat 0)
  else
    (List.range 32).foldl (fun (s : State) j =>
      match fs.find? (fun f => decide (f.lsb = j)) with
      | some f => s.storeField p k b off may now v f
      | none =>
        if covered j || (decide (0 < j) && !covered (j - 1)) then s
        else
          let w := Word.bits v j (freeRun covered 32 j)
          if w = 0 then s else s.clampAt b off j true w 0) s

/-! ### Commit (R84–R89) -/

/-- Fields whose stored value depends on others of the page, as a commit leaves them (R86). -/
def rmpFixes (s : State) (b : Nat) (c : Cand) : List (Field × Nat) :=
  let w (f : Field) : Word := word (c.fv s b f)
  let pos (x : Word) : Bool := b32Finite x && b32Lt 0#32 x
  let keep (f : Field) : Word := if pos (w f) then w f else s.fw b f
  let top := if c.fv s b R.RMP_OUT_wmode = 1 then 8 else Nat.min 8 (c.fv s b R.RMP_OUT_wfix)
  let vtop := Q.frac (1000000 * 2 ^ top) 256
  let vm := keep R.RMP_LIM_V_vmax
  let lo := c.fv s b R.RMP_VLIM_LO_lo
  let hi := c.fv s b R.RMP_VLIM_HI_hi
  let ok := decide (sext 32 lo < sext 32 hi)
  let most := ((List.range 8).map (fun p => keep (R.RMP_PR_D_d_p.nth p))).foldl (fun a x => if b32Lt a x then x else a) (keep R.RMP_LIM_D_dmax)
  let dabs := keep R.RMP_DABS_dabs
  [(R.RMP_LIM_V_vmax, (if Q.lt vtop (ofB32 vm) then toB32 vtop else vm).toNat),
   (R.RMP_VLIM_LO_lo, if ok then lo else s.fv b R.RMP_VLIM_LO_lo), (R.RMP_VLIM_HI_hi, if ok then hi else s.fv b R.RMP_VLIM_HI_hi),
   (R.RMP_DABS_dabs, (if b32Lt dabs most then most else dabs).toNat)]

def safFixes (s : State) (b : Nat) (c : Cand) : List (Field × Nat) :=
  let v := c.fv s b R.SAF_LPO_SAFE_lvl
  let one (i : Nat) : Nat := let x := v / 4 ^ i % 4; (if x = 2 then 2 else 1) * 4 ^ i
  [(R.SAF_LPO_SAFE_lvl, one 0 + one 1 + one 2 + one 3)]

def alhFixes (s : State) (b : Nat) (c : Cand) : List (Field × Nat) :=
  (List.range 32).flatMap (fun i =>
    let kind := Nat.min 2 (c.fv s b (R.ALH_TGT_kind.nth i))
    let a := c.fv s b (R.ALH_TGT_addr.nth i)
    let pulse := c.fv s b (R.ALH_TGT_pulse.nth i)
    [(R.ALH_TGT_addr.nth i, if kind = 1 then nclip 1 127 a else if kind = 2 then Nat.min 7 a else a),
     (R.ALH_TGT_pulse.nth i, if kind = 1 then 0 else pulse)])

def dioFixes (s : State) (b : Nat) (c : Cand) : List (Field × Nat) :=
  let on := nclip 30 80 (c.fv s b R.DIO_THR_on_pct)
  [(R.DIO_THR_off_pct, nclip 10 (on - 5) (c.fv s b R.DIO_THR_off_pct))]

/-- The dependent fields of a page (R86). -/
def State.pageFixes (s : State) (k : Kind) (i b : Nat) (c : Cand) : List (Field × Nat) :=
  match k with
  | .sac => sacFixes s b c
  | .cv => cvFixes s b c
  | .sc => scFixes s i b c
  | .dynCh => dynFixes s b c
  | .spx => spxFixes s b c
  | .spxPl => planeFixes s i b c
  | .alh => alhFixes s b c
  | .dio => dioFixes s b c
  | .lpoCh => loopFixes s b c
  | .can => canFixes s b c
  | .canObj => objFixes s b c
  | .pnl => pnlFixes s b c
  | .rmp => rmpFixes s b c
  | .saf => safFixes s b c
  | .age => ageFixes s b c
  | _ => []

/-- The staged words of a page, by offset. -/
def State.stagedOf (s : State) (b : Nat) : SMap Word := (SMap.inRange s.staged b (b + 0x1000)).map (fun x => (x.1 - b, x.2))

/-- The rws fields of a held word. -/
def stagedFields (k : Kind) (i off : Nat) : List Field := (fieldsAt k i off).filter (fun f => decide (f.acc = .rws))

/-- The words of a page as its commit would store them: the staged fields by their own Clamp entries. -/
def State.candidate (s : State) (k : Kind) (i b : Nat) : Cand :=
  let raw : Cand := s.stagedOf b
  raw.map (fun x =>
    let cur := s.reg (b + x.1)
    (x.1, (stagedFields k i x.1).foldl (fun (w : Word) f =>
      Word.withBits w f.lsb f.width (f.clamp.fix f.width (Word.bits x.2 f.lsb f.width) (Word.bits cur f.lsb f.width))) cur))

/-- A candidate with fields in place. -/
def Cand.place (c : Cand) (s : State) (b : Nat) (l : List (Field × Nat)) : Cand :=
  l.foldl (fun (c' : Cand) x =>
    if c'.fv s b x.1 = x.2 then c' else SMap.insert c' x.1.off (Word.withBits (c'.word s b x.1.off) x.1.lsb x.1.width x.2)) c

/-- The candidate with the dependent fields in place. -/
def State.fixedCandidate (s : State) (k : Kind) (i b : Nat) (c : Cand) : Cand := c.place s b (s.pageFixes k i b c)

/-- The rw fields whose range depends on staged fields of their page, as that range leaves them once `s` holds what is committed (R86). -/
def State.rejudged (s : State) (k : Kind) (b : Nat) : List (Field × Nat) :=
  match k with
  | .pnl =>
    (R.PNL_LSEL_line, nclip 32 (s.fv b R.PNL_GEOM_height - 1) (s.fv b R.PNL_LSEL_line)) ::
      (List.range 64).map (fun i => (R.PNL_LBUF_data.nth i, s.lbufFix (0x200 + 4 * i) (s.fv b (R.PNL_LBUF_data.nth i))))
  | .lpoCh => [(R.LPO_CH_SET_set, (loopFix (s.fb b R.LPO_CH_CFG_ext) (s.fw b R.LPO_CH_SET_set)).toNat)]
  | .rmp => [(R.RMP_TGT_tgt, (s.rmpTgtLimit (s.fw b R.RMP_TGT_tgt)).toNat)]
  | _ => []

/-- The words of a page as its commit leaves them (R86). -/
def State.finalCandidate (s : State) (k : Kind) (i b : Nat) : Cand :=
  let c := s.fixedCandidate k i b (s.candidate k i b)
  c.place s b ((c.foldl (fun (s' : State) x => s'.setReg (b + x.1) x.2) s).rejudged k b)

/-- Store the fields of a page that a commit leaves, and record what is stored otherwise than requested, in ascending offset and bit
(R85, R86). -/
def State.storeCommit (s : State) (k : Kind) (i b : Nat) : State :=
  let asked : Cand := s.stagedOf b
  let ordered := (s.finalCandidate k i b).foldl (fun (m : SMap (Nat × Word)) x =>
    SMap.insert m (2 * shownOff k x.1 + flagBit (decide (shownOff k x.1 ≠ x.1)) 0) x) []
  let s1 := ordered.foldl (fun (s' : State) e =>
    let x := e.2
    let fs := (fieldsAt k i x.1).filter (fun f => decide (f.acc = .rws) || decide (f.acc = .rw))
    let was := s.reg (b + x.1)
    let s' := (List.range 32).foldl (fun (s' : State) j =>
      match fs.find? (fun f => decide (f.lsb = j)) with
      | some f =>
        let w := Word.bits (if f.acc = .rws then (SMap.get? asked x.1).getD was else was) f.lsb f.width
        let st := Word.bits x.2 f.lsb f.width
        if w = st then s' else s'.clampAt b (shownOff k x.1) f.lsb false w st
      | none => s') s'
    s'.setReg (b + x.1) x.2) s
  if k = .evr then
    let r := s1.evrCommitLists
    r.2.foldl (fun (s : State) x => s.clampAt P.EVR 0x4C 0 false x.1 x.2) r.1
  else s1

/-- PG_SEQ after a commit (Table 03-10). -/
def nextCommit (n : Nat) : Nat := if 0xFFFFFFFF ≤ n then 1 else n + 1

/-- Store a page's staged values under one closing mark (R85): PG_SEQ and HPI_LAST_CMT follow. -/
def State.storePage (s : State) (b : Nat) : State :=
  match pageAt b with
  | none => s
  | some (k, i) =>
    let s := s.storeCommit k i b
    let s : State := { s with staged := SMap.dropRange s.staged b (b + 0x1000) }
    let s := (s.setFv b R.PG_STAT_staged 0).setFv b R.PG_SEQ_seq (nextCommit (s.fv b R.PG_SEQ_seq))
    s.setStamp P.HPI R.HPI_LAST_CMT_LO_t_lo R.HPI_LAST_CMT_HI_t_hi s.now

/-- What takes effect with the committed fields of a page; `old` is the state before the commit. -/
def State.committed (s old : State) (b : Nat) : State :=
  match pageAt b with
  | none => s
  | some (k, i) =>
    match k with
    | .sac => s.sacCommitted old
    | .cv => s.cvCommitted old i
    | .sc => s.scCommitted old i
    | .dynCh => (s.dynCommitted old i).planesOfChannel i
    | .spx => s.spxCommitted old
    | .spxPl => s.planeCommitted old i
    | .sto =>
      (if s.fb P.STO R.STO_SCRUB_en = old.fb P.STO R.STO_SCRUB_en then s
       else s.scrubSet (s.fb P.STO R.STO_SCRUB_en)).plannedShow
    | .pteCl => (s.squash 1 (fun p => decide (s.classOf p = i))).classDue i
    | .pte => s.plannedShow.safShow
    | .alh => s.alhCommitted.safShow
    | .fbe => s.fbeEnabled old
    | .canObj =>
      let p := if b < 0x128000 then 0 else 1
      (List.range 32).foldl (fun (s : State) j =>
        let o := (b - P.CANOBJ p 0) / 0x1000 * 32 + j
        let a := b + 0x100 + j * 0x20
        if s.reg a = old.reg a ∧ s.reg (a + 4) = old.reg (a + 4) ∧ s.reg (a + 8) = old.reg (a + 8) ∧ s.reg (b + 0x600 + j * 4) = old.reg (b + 0x600 + j * 4) then s else s.objCommitted p o old) s
    | .pnl => s.pnlCommitted old
    | .dio => s.dioCommitted old
    | .lpoCh => s.loopCommitted old i
    | .rmp => s.rmpReplan
    | .saf => s.safShow.rmpReplan
    | .age => s.plannedShow
    | .tbs => s.tbsCommitted old
    | _ => s

/-- PG_CTRL.commit (R85, R89): the page acts alone and leaves the group. -/
def State.commitPage (s : State) (b : Nat) : State :=
  let s : State := { s with group := s.group.filter (fun x => decide (x ≠ b)) }
  if s.fb b R.PG_STAT_staged then (s.storePage b).committed s b else s

/-- PG_CTRL.discard (R88). -/
def State.discardPage (s : State) (b : Nat) : State :=
  let s : State := { s with group := s.group.filter (fun x => decide (x ≠ b)), staged := SMap.dropRange s.staged b (b + 0x1000) }
  let s : State := if b = P.EVR then { s with evr := { s.evr with stagedLists := [] } } else s
  s.setFv b R.PG_STAT_staged 0

/-- Commit every page of a list at one instant (R89). -/
def State.commitAll (s : State) (pages : List Nat) : State :=
  let l := pages.filter (fun b => s.fb b R.PG_STAT_staged)
  let s1 := l.foldl (fun (s : State) b => s.storePage b) s
  l.foldl (fun (s' : State) b => s'.committed s b) s1

/-- HPI_CTRL.gc_go (R89): the joined pages commit and leave the group. -/
def State.groupCommit (s : State) : State :=
  if s.group.isEmpty then s
  else
    let s1 := ({ s with group := [] }).commitAll s.group
    (s1.wrapInc P.HPI R.HPI_GC_seq 1).irq P.HPI 3

/-! ### PG_CTRL, PG_CLAMP_NEXT, PG_IRQ_SET -/

/-- PG_CTRL.join (R89). -/
def State.joinPage (s : State) (b : Nat) : State :=
  if s.group.contains b then s
  else if 64 ≤ s.group.length then s.clampAt b 0x0C 4 true 1 0
  else { s with group := s.group ++ [b] }

/-- A write of PG_CTRL (Table 03-6, R85, R88–R90): more than one action does nothing. -/
def State.pgCtrl (s : State) (p : Port) (b : Nat) (v : Word) : State :=
  match [0, 1, 2, 3, 4].filter (fun i => v.getLsbD i) with
  | [] => s
  | [3] =>
    if Word.bits v 8 8 ≠ 0x5A || (s.sealedPages.contains b && !(decide (s.life = 2) && decide (s.level p = 2))) then s.clampAt b 0x0C 3 true 1 0
    else s.setFv b R.PG_STAT_locked 0
  | [n] =>
    if !s.mayStore p b then s.clampAt b 0x0C n true 1 0
    else if n = 0 then s.commitPage b
    else if n = 1 then s.discardPage b
    else if n = 2 then s.setFv b R.PG_STAT_locked 1
    else s.joinPage b
  | l => l.foldl (fun (s : State) i => s.clampAt b 0x0C i true 1 0) s

/-- A write of PG_CLAMP_NEXT (R87): flush, or remove the oldest entry. -/
def State.clampNext (s : State) (b : Nat) (v : Word) : State :=
  let r := s.ring b
  if v.getLsbD 1 then s.setRing { r with entries := [], lost := 0 }
  else if v.getLsbD 0 then s.setRing { r with entries := r.entries.drop 1 }
  else s

/-! ### What a written word does (the rows of the chapters' register tables) -/

/-- A clamp of a date or time field since the previous time write (R354). -/
def State.tbsFields (s : State) (off : Nat) (v : Word) : State :=
  let ok := (fieldsAt .tbs 0 off).all (fun f => decide (Word.bits v f.lsb f.width = s.fv P.TBS f))
  if ok then s else { s with tbs := { s.tbs with fieldClamp := true } }

/-- What a word at 0x40 or above does once its fields are stored. `old` is the state before the write, `may` whether the page takes writes
of rw fields; `sent` and `flips` are what a link test has carried since the node last counted. -/
def State.pageAction (s old : State) (p : Port) (k : Kind) (i b off : Nat) (v : Word) (may : Bool) (sent : Nat) (flips : List Nat) : State :=
  match k with
  | .sys => if off = 0x50 ∧ may then s.powerRequest (s.fv P.SYS R.SYS_PWR_req) else s
  | .hpi =>
    if off ≠ 0x4C then s
    else
      let s := if v.getLsbD 0 then s.setReg (P.HPI + 0x48) 0#32 else s
      let s := if v.getLsbD 1 then s.groupCommit else s
      if v.getLsbD 2 then { s with group := [] } else s
  | .tly =>
    if off = 0x80 then s.cqPop v
    else if off = 0x84 ∧ may then s.tlyCancel (Word.bits v 0 16)
    else s
  | .tbs =>
    if off = 0x40 then s.tbsCtrl v
    else if (off = 0x60 ∨ off = 0x64) ∧ may then s.tbsFields off v
    else if off = R.TBS_LOCAL_ofs.off ∧ may then s.dayReached.secReached
    else if off = R.TBS_WDAY_free.off ∧ may then s.secReached
    else s
  | .saf => if off = 0xB8 then s.safCtrl v else s
  | .age => if off = 0x64 then s.ageCtrl p v else s
  | .sec =>
    if off = 0x60 then s.secCtrl p v
    else if 0x80 ≤ off ∧ off < 0xC0 then s.secResp p ((off - 0x80) / 4) v
    else s
  | .dbg =>
    if off ≠ 0x40 then s
    else
      let s := s.fbeShow
      if !v.getLsbD 1 then s
      else if s.fb P.DBG R.DBG_CTRL_fbe_halt && s.maintains p then s.debugStep (s.fv P.DBG R.DBG_CTRL_task)
      else s.clampAt P.DBG 0x40 1 true 1 0
  | .lnk =>
    if off = 0x4C then s.lnkCtrl p v sent flips
    else if 0x100 ≤ off ∧ off < 0x200 then (if may then s.hbufTake (Word.bytes v) else s)
    else s
  | .sac => if off = R.SAC_CAL_CTRL_hold.off then s.calHold else s
  | .sc => if off = R.SC_CTRL_test.off then s.scCtrl i v else s
  | .spxPl => if off = R.SPX_PL_CTRL_restart.off then s.planeCtrl i v else s
  | .sto => if off = R.STO_CTRL_clr_err.off then s.stoCtrl v else s
  | .pte =>
    if off = R.PTE_CLR_clr.off then (if v.getLsbD 0 then s.pteClr else s)
    else if off = R.PTE_SIM_PT_point.off ∧ may then
      (let r := s.simWrite p (Word.bits v 0 25) (v.getLsbD 31)
       if v.getLsbD 31 ∧ !r.2 then r.1.clampAt P.PTE off 31 true 1 0 else r.1)
    else if off = R.PTE_SIM_VAL_code.off ∧ may then s.simValue (Word.bits v 0 16)
    else s
  | .pteCl => if off = R.PTE_CL_CTRL_release.off ∧ v.getLsbD 0 then s.classRelease i else s
  | .alh =>
    let src := match p with
      | .host => 1
      | .trapdoor => 5
    if off = R.ALH_MODE_mode.off ∧ may then s.alhWord (.mode (Word.bits v 0 4) (old.fv P.ALH R.ALH_MODE_mode) src)
    else if off = R.ALH_DUTY_target.off ∧ may then s.alhWord (.duty (Word.bits v 0 5) src)
    else if off = R.ALH_CMD_op.off then s.alhCmdWrite p v
    else if off = R.ALH_CLR_clr.off ∧ v.getLsbD 0 then s.alhClear
    else s
  | .fbe =>
    if off = R.FBE_FRC_CTRL_set.off then s.frcCtrl p v
    else if off = R.FBE_EV_TRIG_trig.off then s.evTrig v
    else if off = R.FBE_CLR_clr.off ∧ v.getLsbD 0 then s.fbeClr
    else s
  | .evr =>
    if off = R.EVR_TRIG_go.off then s.evrTrigGo v
    else if off = R.EVR_CLR_clr.off then s.evrClr v
    else s
  | .dio =>
    if off = R.DIO_CTRL_rearm.off then s.dioCtrl v
    else if off = R.DIO_DO_SET_set.off ∧ may then s.doSet v.toNat
    else if off = R.DIO_CLR_clr.off ∧ v.getLsbD 0 then (s.setReg (P.DIO + R.DIO_FRM_ERR_crc.off) 0#32).setReg (P.DIO + R.DIO_DI_LOST_lost.off) 0#32
    else s
  | .lpo => if off = R.LPO_CLR_clr.off ∧ v.getLsbD 0 then s.lpoClr else s
  | .lpoCh =>
    if off = R.LPO_CH_SET_set.off ∧ may then s.loopSet i v
    else if off = R.LPO_CH_CTRL_clr_comp.off then s.loopCtrl i v
    else s
  | .can =>
    let port := if b < 0x128000 then 0 else 1
    let before := old.fb b R.CAN_CTRL_sleep
    if off = R.CAN_CTRL_sleep.off then s.canCtrl port (if may then v else Word.withBits v 1 1 (if before then 1 else 0)) before
    else if R.CAN_PMB_CTRL_release.coversWord off ∧ v.getLsbD 0 then s.pmbRelease port ((off - R.CAN_PMB_CTRL_release.off) / 0x20)
    else s
  | .canObj =>
    let port := if b < 0x128000 then 0 else 1
    if R.CAN_OBJ_CTRL_send.coversWord off then
      s.objCtrl port ((b - P.CANOBJ port 0) / 0x1000 * 32 + (off - R.CAN_OBJ_CTRL_send.off) / 0x20) v
    else s
  | .pnl => if off = R.PNL_CTRL_put.off then s.pnlCtrl v else s
  | .rmp =>
    if off = R.RMP_TGT_tgt.off then
      (if may ∧ s.fv P.RMP R.RMP_CFG_own = 1 then { s with rmp := { s.rmp with startTgt := none } }.rmpReplan else s)
    else if off = R.RMP_CTRL_setpos.off then
      (let s1 := if v.getLsbD 1 && s.rmpMoving then s.clampAt P.RMP off 1 true 1 0 else s
       s1.rmpCtrl v)
    else s
  | _ => s

/-- A refused word, reported where it differs from what stands (R12, R500). -/
def State.refuseWord (s : State) (p : Port) (b off : Nat) (v : Word) : State :=
  let cur := s.readWord p (b + off)
  let s := if v = cur then s else s.clampAt b off 0 true v.toNat cur.toNat
  s.trapRefused p

/-- A register word that its port may write takes effect (R12, R75, R84). -/
def State.takeWord (s : State) (p : Port) (a : Nat) (v : Word) (sent : Nat) (flips : List Nat) : State :=
  match pageAt a with
  | none => s
  | some (k, i) =>
    let b := pageBase a
    let off := a % 0x1000
    let may := s.mayStore p b
    let s1 := s.storeWord p k i b off may v
    if off = 0x0C then s1.pgCtrl p b v
    else if off = 0x1C then s1.clampNext b v
    else if off = 0x28 then s1.setReg (b + 0x20) (s1.reg (b + 0x20) ||| v)
    else if off < 0x40 then s1
    else s1.pageAction s p k i b off v may sent flips

/-- One written register word: refused, or it takes effect (R12, R500). -/
def State.writeWord (s : State) (p : Port) (a : Nat) (v : Word) (sent : Nat) (flips : List Nat) : State :=
  match pageAt a with
  | none => s
  | some (k, _) => if s.mayWrite p k a then s.takeWord p a v sent flips else s.refuseWord p (pageBase a) (a % 0x1000) v

end Sys2Proof.Machine
end

