-- ==== Sys2Proof/Machine/Image.lean ====
section
/-! DEFINITION. IMG_LOAD (R299, R302, R493–R495, R535): header, signature, decryption and the three targets. -/

namespace Sys2Proof.Machine

open Sys2Proof

/-- The magic values of R493, by ARG2. -/
def imageMagic (target : Nat) : List Byte :=
  if target = 1 then [0x54#8, 0x4B#8, 0x46#8, 0x42#8]
  else if target = 2 then [0x54#8, 0x4B#8, 0x43#8, 0x46#8]
  else [0x54#8, 0x4B#8, 0x41#8, 0x4C#8]

/-- The running IMG_LOAD tally with this target; a target outside R493 is any row's to refuse. -/
def State.imageTally (s : State) (n target : Nat) : Option Tally :=
  match s.runningTally n 0x20 with
  | some x => if x.arg 2 = target ∨ (x.arg 2 ≠ 1 ∧ x.arg 2 ≠ 2 ∧ x.arg 2 ≠ 4) then some x else none
  | none => none

/-- SEC_IMG and SEC_IMG_ID record a load (R494). -/
def State.imageShow (s : State) (target : Nat) (sig dec : Bool) (slot id : Nat) : State :=
  let s := (s.setFv P.SEC R.SEC_IMG_target target).setFb P.SEC R.SEC_IMG_sig_ok sig
  ((s.setFb P.SEC R.SEC_IMG_decrypted dec).setFv P.SEC R.SEC_IMG_slot slot).setFv P.SEC R.SEC_IMG_ID_id id

/-- An image that has passed R493 and R494: its identity, the slot that verified, header and body in clear. -/
structure CheckedImage where
  id : Nat
  slot : Nat
  decrypted : Bool
  header : List Byte
  body : List Byte
deriving DecidableEq, Repr

/-- result1 of a load whose signature verified (Table 21-10). -/
def CheckedImage.result (c : CheckedImage) : Nat := 1 + c.slot * 16

/-- The slots that Table 21-3 allows, ascending. -/
def State.imageSlots (s : State) : List Nat := if s.life = 0 then [0, 1, 2, 3] else [1, 2, 3]

/-- An image that fails R494: status 3, reason 7, and a security event (R502). -/
def State.imageFails (s : State) (n id r1 : Nat) : State := (s.secEvent 2).tallyEnds n 3 7 id r1

/-- Body and tag of an encrypted image (R494): ciphertext, IV and tag behind the header, before the signature. -/
def openBody (key img : List Byte) : Option (List Byte) :=
  let n := img.length
  gcmOpen key ((img.drop (n - 96)).take 12) (img.take 64) ((img.drop 64).take (n - 160)) ((img.drop (n - 80)).take 16)

/-- The standby bank is marked invalid (R302). -/
def State.standbyInvalid (s : State) : State :=
  { s with fbe := { s.fbe with banks := s.fbe.banks.set s.standby none } }.setFv P.FBE R.FBE_STAT_sb_valid 0

/-- An image whose form is wrong: status 3, reason 8; a program image leaves the standby bank invalid (R302, R304). -/
def State.formFails (s : State) (x : Tally) (id r1 : Nat) : State :=
  (if x.arg 2 = 1 then s.standbyInvalid else s).tallyEnds x.num 3 8 id r1

/-- Everything before the target (R493, R494, R500): the state with the tally ended where a check fails, else the image. `ecc` is what
reading the image finds (R228). -/
def State.checkImage (s : State) (x : Tally) (ecc : EccFinds) : State × Option CheckedImage :=
  let a := x.arg 0
  let n := x.arg 1
  let target := x.arg 2
  if target ≠ 1 ∧ target ≠ 2 ∧ target ≠ 4 then (s.tallyRefused x.num 8 0 0, none)
  else if s.life = 3 then (s.tallyRefused x.num 2 0 0, none)
  else if !inIntegrator a n then (s.tallyRefused x.num 3 0 0, none)
  else
    let s := s.eccFinds ecc
    if s.anyPoison a n then ((s.imageShow target false false 0 0).tallyEnds x.num 3 6 0 0, none)
    else
    let img := s.storeBytes a n
    let id := leNat ((img.drop 8).take 4)
    let s := s.imageShow target false false 0 id
    if n < 128 then (s.formFails x (if n < 64 then 0 else id) 0, none)
    else if leNat ((img.drop 12).take 4) ≠ n ∨ img.take 4 ≠ imageMagic target then (s.formFails x id 0, none)
    else
      match s.verifies s.imageSlots (img.take (n - 64)) (img.drop (n - 64)) with
      | none => (s.imageFails x.num id 2, none)
      | some slot =>
        let s := s.imageShow target true false slot id
        let encrypted := bitAt (leNat ((img.drop 6).take 2)) 0
        if !encrypted then
          if s.life = 2 ∧ s.fb P.SEC R.SEC_CFG_enc_req then (s.tallyRefused x.num 2 id 5, none)
          else (s, some { id := id, slot := slot, decrypted := false, header := img.take 64, body := (img.drop 64).take (n - 128) })
        else if n < 160 then (s.formFails x id (1 + slot * 16), none)
        else
          match s.sec.aes with
          | none => (s.imageFails x.num id 4, none)
          | some key =>
            match openBody key img with
            | none => (s.imageFails x.num id 3, none)
            | some body =>
              (s.imageShow target true true slot id,
               some { id := id, slot := slot, decrypted := true, header := img.take 64, body := body })

/-- IMG_LOAD_PROGRAM (R302, R304): into the standby bank; a check that fails leaves it marked invalid. -/
def execImgLoadProgram (t tally : Nat) (ecc : EccFinds) (s : State) : Host.Outcome State Fault Refusal :=
  let s := s.at t
  match s.imageTally tally 1 with
  | none => .next (s.lateStop tally 0x20 id)
  | some x =>
    match s.checkImage x ecc with
    | (s, none) => .next s
    | (s, some c) =>
      let bank := s.standby
      match programOf (c.header ++ c.body) with
      | none => .next (s.formFails x c.id c.result)
      | some p =>
        let s := s.nodeWrite (bankBase bank) (c.header ++ c.body)
        let s : State := { s with fbe := { s.fbe with banks := s.fbe.banks.set bank (some p) } }
        let s := (s.setFv P.FBE R.FBE_STAT_sb_valid 1).setFv P.FBE R.FBE_SB_ID_id c.id
        .next (s.tallyDone tally c.id c.result)

/-- The records of a configuration image: address, byte 3, value. -/
def imageRecords (body : List Byte) : List (Nat × Nat × Word) :=
  (pieces 8 body.length body).map (fun r => (leNat (r.take 3), leNat ((r.drop 3).take 1), word (leNat (r.drop 4))))

/-- The pages that records touch, each once, in order. -/
def touchedPages (l : List (Nat × Nat × Word)) : List Nat :=
  l.foldl (fun (b : List Nat) r => if b.contains (pageBase r.1) then b else b ++ [pageBase r.1]) []

/-- The checks of R495 over every record. -/
def recordsOk (body : List Byte) : Bool :=
  let l := imageRecords body
  decide (body.length % 8 = 0) && decide ((touchedPages l).length ≤ 64) &&
    l.all (fun r => decide (r.2.1 = 0) && decide (r.1 % 4 = 0) && (pageAt r.1).isSome)

/-- The records are written and the pages they touch commit as one group (R89, R495). -/
def State.imageConfig (s : State) (p : Port) (body : List Byte) : State :=
  let l := imageRecords body
  let s := l.foldl (fun (s : State) r => s.takeWord p r.1 r.2.2 0 []) s
  let pages := (touchedPages l).filter (fun b => s.mayStore p b)
  if pages.isEmpty then s
  else
    let s : State := { s with group := s.group.filter (fun b => !pages.contains b) }
    ((s.commitAll pages).wrapInc P.HPI R.HPI_GC_seq 1).irq P.HPI 3

/-- IMG_LOAD_CONFIG (R495). -/
def execImgLoadConfig (t tally : Nat) (ecc : EccFinds) (s : State) : Host.Outcome State Fault Refusal :=
  let s := s.at t
  match s.imageTally tally 2 with
  | none => .next (s.lateStop tally 0x20 id)
  | some x =>
    match s.checkImage x ecc with
    | (s, none) => .next s
    | (s, some c) =>
      if !recordsOk c.body then .next (s.tallyEnds tally 3 8 c.id c.result)
      else .next ((s.imageConfig x.port c.body).tallyDone tally c.id c.result)

/-- IMG_LOAD_ALARM_TABLE (R299): the table takes effect at one instant, the recount follows, then the tally is done. -/
def execImgLoadAlarmTable (t tally : Nat) (ecc : EccFinds) (s : State) : Host.Outcome State Fault Refusal :=
  let s := s.at t
  match s.imageTally tally 4 with
  | none => .next (s.lateStop tally 0x20 id)
  | some x =>
    match s.checkImage x ecc with
    | (s, none) => .next s
    | (s, some c) =>
      match Config.alarmTable c.body with
      | none => .next (s.tallyEnds tally 3 8 c.id c.result)
      | some a =>
        if !a.valid then .next (s.tallyEnds tally 3 8 c.id c.result)
        else .next (s.unlessWaits (((s.alhLoad a c.id).alhRecount).tallyDone tally c.id c.result))

end Sys2Proof.Machine
end

