-- ==== Sys2Proof/Machine/HostPort.lean ====
section
/-! DEFINITION. The host port and the trapdoor (R68–R82, R95, R499, R530): frames, the status byte, the read buffer, the write queue. -/

namespace Sys2Proof.Machine

open Sys2Proof

/-! ### Ports -/

def State.portState (s : State) (p : Port) : PortState :=
  match p with
  | .host => s.host
  | .trapdoor => s.trap

def State.setPortState (s : State) (p : Port) (x : PortState) : State :=
  match p with
  | .host => { s with host := x }
  | .trapdoor => { s with trap := x }

/-- The node drives its port balls: COR runs and the host interface is not locked out (R48, R78, R501). -/
def State.portDriven (s : State) : Bool := s.corOn || s.closing

/-- A frame may run on the port: the trapdoor's between TDEN rising and falling (R499). -/
def State.frameOpen (s : State) (p : Port) : Bool := decide (p = .host) || s.fb P.DBG R.DBG_STAT_tden

/-- A frame ends: on the trapdoor TDEN falls (R498, R499). -/
def State.frameEnd (s : State) (p : Port) : State :=
  match p with
  | .host => s
  | .trapdoor => ({ s with sec := { s.sec with tdenLow := some s.now } }).setFv P.DBG R.DBG_STAT_tden 0

/-- The status byte (Table 03-2). -/
def State.statusByte (s : State) (p : Port) (ready err hold : Bool) : Byte :=
  let x := s.portState p
  byte (flagBit ready 0 + flagBit err 1 + flagBit x.wlost 2 + flagBit x.clamp 3 + flagBit s.hirq 4 + flagBit s.halert 5 + flagBit hold 6)

/-- What a frame drove on the data lanes. -/
def State.answers (s : State) (p : Port) (status : Byte) (data : List Byte) : State :=
  s.setPortState p { s.portState p with answer := some { status := status, data := data } }

/-- The one-entry read buffer of a port is discarded (R72, R77). DESIGN CHOICE (log 61): a read of TLY_GO so discarded before its launch
launches nothing. -/
def State.dropRead (s : State) (p : Port) : State := s.setPortState p { s.portState p with rbuf := none }

/-- A write frame is discarded (R71, R94). -/
def State.writeLost (s : State) (p : Port) : State := (s.setPortState p { s.portState p with wlost := true }).irq P.HPI 0

/-- HPI_ERR.bad_addr counts a frame (R73, R80, R216). -/
def State.badAddr (s : State) : State := (s.satInc P.HPI R.HPI_ERR_bad_addr 1).irq P.HPI 2

/-! ### Where an address lies (R79–R81, R257) -/

def windowBottom : Nat := 0x400000
def aperBottom : Nat := 0x800000
def tlyGoAddr : Nat := 0x002068

/-- The storeroom address of the bottom of the window or aperture that an address lies in, by the base in force. -/
def State.baseOf (s : State) (a : Nat) : Nat :=
  if a < windowBottom then 0
  else if a < aperBottom then s.fv P.PTE R.PTE_WIN_BASE_base * 0x400000
  else s.fv P.STO R.STO_APER_BASE_base * 0x100000

/-- LNK_HBUF (R517). -/
def inHbuf (a : Nat) : Bool := decide (0x008100 ≤ a) && decide (a < 0x008200)

/-! ### Reads (R72–R74, R80, R216, R228, R257) -/

/-- One word of a burst of registers: TLY_GO reads 0 in it, LNK_HBUF gives the next bytes of the pattern. -/
def State.burstWord (s : State) (p : Port) (a : Nat) : List Byte × State :=
  match pageAt a with
  | none => (List.replicate 4 0#8, s)
  | some (k, _) =>
    if !s.mayRead p k a || decide (a = tlyGoAddr) then (List.replicate 4 0#8, s)
    else if inHbuf a then s.hbufGive 4
    else (Word.bytes (s.readWord p a), s)

/-- `n` words of registers from an address on. -/
def State.burstWords (s : State) (p : Port) : Nat → Nat → List Byte × State
  | _, 0 => ([], s)
  | a, n + 1 =>
    let (b, s) := s.burstWord p a
    let (l, s) := s.burstWords p (a + 4) n
    (b ++ l, s)

/-- A register read starts on a word of a page that the port may read. -/
def State.regFirst (s : State) (p : Port) (a : Nat) : Bool :=
  decide (a % 4 = 0) && (match pageAt a with
    | some (k, _) => s.mayRead p k a
    | none => false)

/-- The port may read the point window (R257, Table 21-5). -/
def State.windowReadable (s : State) (p : Port) : Bool :=
  match p with
  | .host => true
  | .trapdoor => s.fb P.SEC R.SEC_CFG_td_en && (decide (s.life ≠ 2) || decide (s.level p ≠ 0))

/-- The storeroom addresses under a read of the window or the aperture, byte by byte, wrapping at its top (R81). -/
def readAddrs (base a n : Nat) : List Nat :=
  let bottom := if a < aperBottom then windowBottom else aperBottom
  (List.range n).map (fun i => base + (a - bottom + i) % bottom)

/-- A byte of the storeroom that a read of the window or the aperture gives. -/
def State.readable (s : State) (p : Port) (a b : Nat) : Bool :=
  if a < aperBottom then s.windowReadable p && decide (b < 0x44300000 ∨ 0x48000000 ≤ b) else s.aperReadable p b

/-- What a read of at most `n` bytes finds at one instant: how many bytes a read may ask for without an error (R71, R80, R216, R228,
R257), and the bytes. -/
def State.readNow (s : State) (p : Port) (a base n : Nat) : Nat × List Byte × State :=
  if a < windowBottom then
    if !s.regFirst p a then (0, List.replicate n 0#8, s)
    else
      let r := s.burstWords p a ((n + 3) / 4)
      (256, r.1.take n, r.2)
  else
    let l := readAddrs base a n
    let first := s.readable p a ((readAddrs base a 1).headD 0)
    let window := decide (a < aperBottom)
    let bad (b : Nat) : Bool := (window && !s.readable p a b) || (s.readable p a b && s.isPoisoned b)
    if !first then (0, List.replicate n 0#8, s)
    else ((l.findIdx? bad).getD 256, l.map (fun b => if s.readable p a b then s.storeByte b else 0#8), s)

/-- What a read counts (R73, R80, R216, Table 21-8): a bad address once, a refused trapdoor access once, a burst over 256 bytes. -/
def State.countRead (s : State) (p : Port) (a base n : Nat) : State :=
  let m := Nat.min 256 n
  let s := if 256 < n then s.satInc P.HPI R.HPI_ERR_burst_over 1 else s
  if a < windowBottom then
    let ws := (List.range ((m + 3) / 4)).map (fun i => a + 4 * i)
    let outside := ws.any (fun w => (pageAt w).isNone)
    let refused := decide (a % 4 = 0) && ws.any (fun w => match pageAt w with
      | some (k, _) => !s.mayRead p k w
      | none => false)
    let s := if a % 4 ≠ 0 ∨ (pageAt a).isNone ∨ outside then s.badAddr else s
    if refused then s.trapRefused p else s
  else
    let l := readAddrs base a m
    let first := s.readable p a (l.headD 0)
    let s := if decide (aperBottom ≤ a) && first && !l.all (s.readable p a) then s.badAddr else s
    if !(if a < aperBottom then s.windowReadable p else s.aperPort p) then s.trapRefused p else s

/-- Bytes cut or filled with zeros to a length (R73). -/
def fitBytes (n : Nat) (l : List Byte) : List Byte := (l.take n) ++ List.replicate (n - l.length) 0#8

/-- The answer to a read of `n` bytes that is ready, of which `ok` bytes read without an error: err = 1 and zeros where more are asked. -/
def State.answerRead (s : State) (p : Port) (a base n ok : Nat) (l : List Byte) : State :=
  let s := (s.countRead p a base n).dropRead p
  let err := decide (ok < Nat.min 256 n) || decide (ok = 0)
  s.answers p (s.statusByte p true err false) (fitBytes n (if err then [] else l.take 256))

/-- A read that is not ready goes on inside the node (R72). -/
def State.holdRead (s : State) (p : Port) (a n : Nat) : State :=
  let r : ReadBuf := { addr := a, base := s.baseOf a, len := Nat.min 256 n, ahead := s.queue.length, result := none }
  let s := s.setPortState p { s.portState p with rbuf := some r }
  s.answers p (s.statusByte p false false false) (List.replicate n 0#8)

/-- The longest that a first word takes (Table 03-15): 500 ns for registers, 4 µs through the window and the aperture. -/
def fabricMost (a : Nat) : Nat := if a < windowBottom then 500 else 4000

/-- A read that launches a tally (R74). -/
def State.goRead (s : State) (p : Port) (a : Nat) : Bool := decide (a = tlyGoAddr) && s.mayRead p .tly a

/-- The turnaround in clock cycles (R70, R499). -/
def State.turnaround (s : State) (p : Port) : Nat :=
  match p with
  | .host => s.fv P.HPI R.HPI_CFG_turn
  | .trapdoor => 4

/-- A read frame; `lanes` is the number of cycles of the status byte, `hz` the clock, `ns` the time that the fabric takes (R530). -/
def State.readFrame (s : State) (p : Port) (lanes a n hz ns : Nat) (ecc : EccFinds) : State :=
  let a := a % 0x1000000
  if !s.portDriven then s.answers p 0xFF#8 (List.replicate n 0xFF#8)
  else if !s.ready then
    (let s := s.dropRead p
     s.answers p (s.statusByte p false false true) (List.replicate n 0#8))
  else
    let fresh (s : State) : State :=
      if s.goRead p a && s.queue.isEmpty then
        (let st := s.statusByte p true false false
         let r := s.tlyGo p
         let s := if 256 < n then r.2.satInc P.HPI R.HPI_ERR_burst_over 1 else r.2
         s.answers p st (fitBytes n (leBytes 4 r.1)))
      else if !s.goRead p a && s.queue.isEmpty &&
          decide (2 * hz * Nat.min ns (fabricMost a) ≤ (2 * (s.turnaround p + lanes) - 1) * 1000000000) then
        (let s := if windowBottom ≤ a then s.eccFinds ecc else s
         let base := s.baseOf a
         let r := s.readNow p a base (Nat.min 256 n)
         r.2.2.answerRead p a base n r.1 r.2.1)
      else s.holdRead p a n
    match (s.portState p).rbuf with
    | none => fresh s
    | some x =>
      if x.addr ≠ a then fresh (s.dropRead p)
      else
        match x.result with
        | none => s.answers p (s.statusByte p false false false) (List.replicate n 0#8)
        | some r =>
          if a = tlyGoAddr ∧ r.1 ≠ 0 then
            (let s := (if 256 < n then s.satInc P.HPI R.HPI_ERR_burst_over 1 else s).dropRead p
             s.answers p (s.statusByte p true false false) (fitBytes n r.2))
          else s.answerRead p a x.base n r.1 r.2

/-- RD1 (R69): single-lane read frame of either port. -/
def execRd1 (t : Nat) (port : Port) (addr n sckHz fabricNs : Nat) (ecc : EccFinds) (s : State) : Host.Outcome State Fault Refusal :=
  let s := s.at t
  .next (if s.frameOpen port then (s.readFrame port 8 addr n sckHz fabricNs ecc).frameEnd port else s)

/-- RD4 (R69): quad-lane read frame of the host. -/
def execRd4 (t addr n sckHz fabricNs : Nat) (ecc : EccFinds) (s : State) : Host.Outcome State Fault Refusal :=
  .next ((s.at t).readFrame .host 2 addr n sckHz fabricNs ecc)

/-- TLY_GO (R74, R95, R96): a read of TLY_GO. With an empty write queue it launches at once; else it is held. -/
def execTlyGo (t : Nat) (port : Port) (s : State) : Host.Outcome State Fault Refusal :=
  let s := s.at t
  .next (if s.frameOpen port then (s.readFrame port 8 tlyGoAddr 4 0 0 { corrected := [], lost := [] }).frameEnd port else s)

/-- HBUF_READ (R517): a read of LNK_HBUF that is ready at its first attempt where the write queue is empty. -/
def execHbufRead (t : Nat) (port : Port) (addr n : Nat) (s : State) : Host.Outcome State Fault Refusal :=
  let s := s.at t
  .next (if inHbuf addr && s.frameOpen port then (s.readFrame port 8 addr n 0 0 { corrected := [], lost := [] }).frameEnd port else s)

/-- HELD_READ_COMPLETE (R72): the writes that arrived before a held read have taken effect, and its result is there. -/
def execHeldReadComplete (t : Nat) (port : Port) (ecc : EccFinds) (s : State) : Host.Outcome State Fault Refusal :=
  let s := s.at t
  match (s.portState port).rbuf with
  | some x =>
    if !s.ready || x.result.isSome || decide (x.ahead ≠ 0) || s.goRead port x.addr then .next s
    else
      let s := if windowBottom ≤ x.addr then s.eccFinds ecc else s
      let r := s.readNow port x.addr x.base (if inHbuf x.addr then x.len else 256)
      .next (r.2.2.setPortState port { r.2.2.portState port with rbuf := some { x with result := some (r.1, r.2.1) } })
  | none => .next s

/-- TALLY_LAUNCH (R74, R95): the writes before a held read of TLY_GO have taken effect, and the operation is launched once. -/
def execTallyLaunch (t : Nat) (port : Port) (s : State) : Host.Outcome State Fault Refusal :=
  let s := s.at t
  match (s.portState port).rbuf with
  | some x =>
    if !s.ready || x.result.isSome || decide (x.ahead ≠ 0) || !s.goRead port x.addr then .next s
    else
      let r := s.tlyGo port
      .next (r.2.setPortState port { r.2.portState port with rbuf := some { x with result := some (4, leBytes 4 r.1) } })
  | none => .next s

/-! ### Writes (R73, R75–R77, R80, R81) -/

/-- A frame has left the write queue. -/
def PortState.frameGone (x : PortState) : PortState := { x with rbuf := x.rbuf.map (fun (r : ReadBuf) => { r with ahead := r.ahead - 1 }) }

/-- The oldest frame leaves the write queue. -/
def State.frameDone (s : State) : State :=
  { s with queue := s.queue.drop 1, host := s.host.frameGone, trap := s.trap.frameGone }

/-- A write through the aperture takes effect: refused whole where it touches a region that the port may not write, or covers a poisoned
word only in part (R81, R216, R228). -/
def State.aperWrite (s : State) (f : Frame) : State :=
  let runs := burstRuns f.base 0x800000 (f.data.length / 0x800000 + 1) (f.addr - aperBottom) f.data
  if runs.all (fun r => regionAll (s.aperWritable f.port) r.1 r.2.length && !s.partPoison r.1 r.2.length) then
    runs.foldl (fun (s : State) r => s.nodeWrite r.1 r.2) s
  else (s.writeLost f.port).trapRefused f.port

/-- Aperture writes at the front of the write queue take effect. -/
def State.drainAper (s : State) : Nat → State
  | 0 => s
  | k + 1 =>
    match s.queue with
    | [] => s
    | f :: _ => if f.addr < aperBottom then s else ((s.aperWrite f).frameDone).drainAper k

/-- A write frame arrives: discarded while the queue is full, or posted. -/
def State.writeFrame (s : State) (p : Port) (a : Nat) (l : List Byte) (ecc : EccFinds) : State :=
  let a := a % 0x1000000
  if !s.portDriven then s
  else if !s.ready then (s.dropRead p).writeLost p
  else
    let s := s.dropRead p
    let l := if a < windowBottom then l.take (l.length / 4 * 4) else l
    if a < windowBottom ∧ (a % 4 ≠ 0 ∨ (List.range (l.length / 4)).any (fun i => (pageAt (a + 4 * i)).isNone)) then
      (s.badAddr).writeLost p
    else if l.isEmpty then s
    else if 16 ≤ s.queue.length then (s.satInc P.HPI R.HPI_ERR_wr_drop 1).writeLost p
    else
      let s := if windowBottom ≤ a then s.eccFinds ecc else s
      let f : Frame := { port := p, addr := a, base := s.baseOf a, data := l }
      ({ s with queue := s.queue ++ [f] }).drainAper 16

/-- WR1 (R75): single-lane write frame of either port. -/
def execWr1 (t : Nat) (port : Port) (addr : Nat) (data : List Byte) (ecc : EccFinds) (s : State) : Host.Outcome State Fault Refusal :=
  let s := s.at t
  .next (if s.frameOpen port then (s.writeFrame port addr data ecc).frameEnd port else s)

/-- WR4 (R75): quad-lane write frame of the host. -/
def execWr4 (t addr : Nat) (data : List Byte) (ecc : EccFinds) (s : State) : Host.Outcome State Fault Refusal :=
  .next ((s.at t).writeFrame .host addr data ecc)

/-- FRAME_ABORT (R77): chip select rises in a write frame; what is complete counts. -/
def execFrameAbort (t : Nat) (port : Port) (addr : Nat) (data : List Byte) (ecc : EccFinds) (s : State) : Host.Outcome State Fault Refusal :=
  let s := s.at t
  .next (if s.frameOpen port then (s.writeFrame port addr data ecc).frameEnd port else s)

/-! ### STAT, HRST, undecoded opcodes (R69–R71, R77) -/

/-- STAT (R71): the status byte, then the sticky bits are cleared. -/
def execStat (t : Nat) (port : Port) (s : State) : Host.Outcome State Fault Refusal :=
  let s := s.at t
  if !s.frameOpen port then .next s
  else if !s.portDriven then .next ((s.answers port 0xFF#8 []).frameEnd port)
  else
    let s := s.answers port (s.statusByte port s.ready false (!s.ready)) []
    .next ((s.setPortState port { s.portState port with wlost := false, clamp := false }).frameEnd port)

/-- HRST (R77): the host's read buffer is discarded. -/
def execHrst (t : Nat) (s : State) : Host.Outcome State Fault Refusal :=
  let s := s.at t
  .next (if s.portDriven then s.dropRead .host else s)

/-- The opcodes that a port decodes (Table 03-1, R499). -/
def decodedOpcodes (p : Port) : List Nat :=
  match p with
  | .host => [0x03, 0xEB, 0x02, 0x32, 0x05, 0x99]
  | .trapdoor => [0x03, 0x02, 0x05]

/-- UNDEFINED_OPCODE (R70): counted and ignored; a held result stays. -/
def execUndefinedOpcode (t : Nat) (port : Port) (opcode : Byte) (s : State) : Host.Outcome State Fault Refusal :=
  let s := s.at t
  if !s.frameOpen port then .next s
  else if !s.portDriven || (decodedOpcodes port).contains opcode.toNat then .next (s.frameEnd port)
  else .next (((s.satInc P.HPI R.HPI_ERR_bad_op 1).irq P.HPI 1).frameEnd port)

end Sys2Proof.Machine
end

