-- ==== Sys2Proof/Machine/Writes.lean ====
section
/-! DEFINITION. Queued writes take effect (R75, R84): the word at the front of the write queue, by the row of the table that names what
it does; a word that no row names is REGISTER_WRITE's; frames of the point window. -/

namespace Sys2Proof.Machine

open Sys2Proof

/-- The rows of the opcode table that a written register word can be. -/
inductive WriteRow where
  | commit | discard | lock | unlock | join | clampNext | clampFlush | pgIrqSet | hpiClrErr | gcGo | gcAbandon | tlyCancel
  | tlyCqPop | scTest | scFlip | restart | scrubNow | stoClrErr | spectralSimulation | classRelease | pteClr | acknowledgeEntry | acknowledgeGroup | acknowledgeAll
  | resetEntry | shelveEntry | unshelveEntry | takeOutOfService | returnToService | acceptCall | armGroup | alhCmdNone | modeChange | dutyChange | alhClr | fbeEvTrig
  | forceSet | forceRelease | forceReleaseAll | fbeClr | evrTrigGo | evrClr | tbsSet | tbsAdjust | tbsSetCal | tbsHalt | trimWrite | rearm
  | thrTest | doSet | dioClr | clrComp | loopSet | txGo | txAbort | rxRel | lpoClr | send | cancel | objRelease
  | resume | recover | sleep | canClr | pmbRelease | put | update | full | copyFront | targetWrite | ackPos | setpos
  | rmpClr | safRelease | alertClr | safEnter | resetOfs | reqRun | reqLean | reqDormant | challenge | sessionOpen | sessionClose | secAlertClr
  | fbeHalt | debugStep | linkGo | linkStop | ins1 | lnkClr | hbufWrite
deriving DecidableEq, Repr

/-- The rows of a word of a hpi page. -/
def rowsOfHpi (off : Nat) (v : Word) : List WriteRow :=
  ([(WriteRow.hpiClrErr, decide (off = R.HPI_CTRL_clr_err.off) && v.getLsbD R.HPI_CTRL_clr_err.lsb),
    (.gcGo, decide (off = R.HPI_CTRL_gc_go.off) && v.getLsbD R.HPI_CTRL_gc_go.lsb),
    (.gcAbandon, decide (off = R.HPI_CTRL_gc_abandon.off) && v.getLsbD R.HPI_CTRL_gc_abandon.lsb)].filter (fun x => x.2)).map (fun x => x.1)

/-- The rows of a word of a tly page. -/
def rowsOfTly (off : Nat) (v : Word) : List WriteRow :=
  ([(WriteRow.tlyCancel, decide (off = R.TLY_CANCEL_tally.off)),
    (.tlyCqPop, decide (off = R.TLY_CQ_POP_pop.off) && v.getLsbD R.TLY_CQ_POP_pop.lsb)].filter (fun x => x.2)).map (fun x => x.1)

/-- The rows of a word of a sc page. -/
def rowsOfSc (off : Nat) (v : Word) : List WriteRow :=
  ([(WriteRow.scTest, decide (off = R.SC_CTRL_test.off) && v.getLsbD R.SC_CTRL_test.lsb),
    (.scFlip, decide (off = R.SC_CTRL_flip.off) && v.getLsbD R.SC_CTRL_flip.lsb)].filter (fun x => x.2)).map (fun x => x.1)

/-- The rows of a word of a spxPl page. -/
def rowsOfSpxPl (off : Nat) (v : Word) : List WriteRow :=
  ([(WriteRow.restart, decide (off = R.SPX_PL_CTRL_restart.off) && v.getLsbD R.SPX_PL_CTRL_restart.lsb)].filter (fun x => x.2)).map (fun x => x.1)

/-- The rows of a word of a sto page. -/
def rowsOfSto (off : Nat) (v : Word) : List WriteRow :=
  ([(WriteRow.scrubNow, decide (off = R.STO_CTRL_scrub_now.off) && v.getLsbD R.STO_CTRL_scrub_now.lsb),
    (.stoClrErr, decide (off = R.STO_CTRL_clr_err.off) && v.getLsbD R.STO_CTRL_clr_err.lsb)].filter (fun x => x.2)).map (fun x => x.1)

/-- The rows of a word of a pte page. -/
def rowsOfPte (off : Nat) (v : Word) : List WriteRow :=
  ([(WriteRow.spectralSimulation, decide (off = R.PTE_SIM_PT_point.off)),
    (.pteClr, decide (off = R.PTE_CLR_clr.off) && v.getLsbD R.PTE_CLR_clr.lsb)].filter (fun x => x.2)).map (fun x => x.1)

/-- The rows of a word of a pteCl page. -/
def rowsOfPteCl (off : Nat) (v : Word) : List WriteRow :=
  ([(WriteRow.classRelease, decide (off = R.PTE_CL_CTRL_release.off) && v.getLsbD R.PTE_CL_CTRL_release.lsb)].filter (fun x => x.2)).map (fun x => x.1)

/-- The rows of a word of a alh page. -/
def rowsOfAlh (off : Nat) (v : Word) : List WriteRow :=
  ([(WriteRow.acknowledgeEntry, decide (off = R.ALH_CMD_op.off) && decide (Word.bits v R.ALH_CMD_op.lsb R.ALH_CMD_op.width = 1)),
    (.acknowledgeGroup, decide (off = R.ALH_CMD_op.off) && decide (Word.bits v R.ALH_CMD_op.lsb R.ALH_CMD_op.width = 2)),
    (.acknowledgeAll, decide (off = R.ALH_CMD_op.off) && decide (Word.bits v R.ALH_CMD_op.lsb R.ALH_CMD_op.width = 3)),
    (.resetEntry, decide (off = R.ALH_CMD_op.off) && decide (Word.bits v R.ALH_CMD_op.lsb R.ALH_CMD_op.width = 4)),
    (.shelveEntry, decide (off = R.ALH_CMD_op.off) && decide (Word.bits v R.ALH_CMD_op.lsb R.ALH_CMD_op.width = 5)),
    (.unshelveEntry, decide (off = R.ALH_CMD_op.off) && decide (Word.bits v R.ALH_CMD_op.lsb R.ALH_CMD_op.width = 6)),
    (.takeOutOfService, decide (off = R.ALH_CMD_op.off) && decide (Word.bits v R.ALH_CMD_op.lsb R.ALH_CMD_op.width = 7)),
    (.returnToService, decide (off = R.ALH_CMD_op.off) && decide (Word.bits v R.ALH_CMD_op.lsb R.ALH_CMD_op.width = 8)),
    (.acceptCall, decide (off = R.ALH_CMD_op.off) && decide (Word.bits v R.ALH_CMD_op.lsb R.ALH_CMD_op.width = 9)),
    (.armGroup, decide (off = R.ALH_CMD_op.off) && decide (Word.bits v R.ALH_CMD_op.lsb R.ALH_CMD_op.width = 10)),
    (.alhCmdNone, decide (off = R.ALH_CMD_op.off) && (decide (Word.bits v R.ALH_CMD_op.lsb R.ALH_CMD_op.width = 0) || decide (10 < Word.bits v R.ALH_CMD_op.lsb R.ALH_CMD_op.width))),
    (.modeChange, decide (off = R.ALH_MODE_mode.off)),
    (.dutyChange, decide (off = R.ALH_DUTY_target.off)),
    (.alhClr, decide (off = R.ALH_CLR_clr.off) && v.getLsbD R.ALH_CLR_clr.lsb)].filter (fun x => x.2)).map (fun x => x.1)

/-- The rows of a word of a fbe page. -/
def rowsOfFbe (off : Nat) (v : Word) : List WriteRow :=
  ([(WriteRow.fbeEvTrig, decide (off = R.FBE_EV_TRIG_trig.off)),
    (.forceSet, decide (off = R.FBE_FRC_CTRL_set.off) && v.getLsbD R.FBE_FRC_CTRL_set.lsb),
    (.forceRelease, decide (off = R.FBE_FRC_CTRL_release.off) && v.getLsbD R.FBE_FRC_CTRL_release.lsb),
    (.forceReleaseAll, decide (off = R.FBE_FRC_CTRL_release_all.off) && v.getLsbD R.FBE_FRC_CTRL_release_all.lsb),
    (.fbeClr, decide (off = R.FBE_CLR_clr.off) && v.getLsbD R.FBE_CLR_clr.lsb)].filter (fun x => x.2)).map (fun x => x.1)

/-- The rows of a word of a evr page. -/
def rowsOfEvr (off : Nat) (v : Word) : List WriteRow :=
  ([(WriteRow.evrTrigGo, decide (off = R.EVR_TRIG_go.off) && v.getLsbD R.EVR_TRIG_go.lsb),
    (.evrClr, decide (off = R.EVR_CLR_clr.off) && v.getLsbD R.EVR_CLR_clr.lsb)].filter (fun x => x.2)).map (fun x => x.1)

/-- The rows of a word of a tbs page. -/
def rowsOfTbs (off : Nat) (v : Word) : List WriteRow :=
  ([(WriteRow.tbsSet, decide (off = R.TBS_CTRL_set.off) && v.getLsbD R.TBS_CTRL_set.lsb),
    (.tbsAdjust, decide (off = R.TBS_CTRL_adjust.off) && v.getLsbD R.TBS_CTRL_adjust.lsb),
    (.tbsSetCal, decide (off = R.TBS_CTRL_set_cal.off) && v.getLsbD R.TBS_CTRL_set_cal.lsb),
    (.tbsHalt, decide (off = R.TBS_CTRL_halt.off) && !(v.getLsbD R.TBS_CTRL_set.lsb || v.getLsbD R.TBS_CTRL_adjust.lsb || v.getLsbD R.TBS_CTRL_set_cal.lsb)),
    (.trimWrite, decide (off = R.TBS_TRIM_trim.off))].filter (fun x => x.2)).map (fun x => x.1)

/-- The rows of a word of a dio page. -/
def rowsOfDio (off : Nat) (v : Word) : List WriteRow :=
  ([(WriteRow.rearm, decide (off = R.DIO_CTRL_rearm.off) && v.getLsbD R.DIO_CTRL_rearm.lsb),
    (.thrTest, decide (off = R.DIO_CTRL_thr_test.off)),
    (.doSet, decide (off = R.DIO_DO_SET_set.off)),
    (.dioClr, decide (off = R.DIO_CLR_clr.off) && v.getLsbD R.DIO_CLR_clr.lsb)].filter (fun x => x.2)).map (fun x => x.1)

/-- The rows of a word of a lpoCh page. -/
def rowsOfLpoCh (off : Nat) (v : Word) : List WriteRow :=
  ([(WriteRow.clrComp, decide (off = R.LPO_CH_CTRL_clr_comp.off) && v.getLsbD R.LPO_CH_CTRL_clr_comp.lsb),
    (.loopSet, decide (off = R.LPO_CH_SET_set.off)),
    (.txGo, decide (off = R.LPO_CH_CTRL_tx_go.off) && v.getLsbD R.LPO_CH_CTRL_tx_go.lsb),
    (.txAbort, decide (off = R.LPO_CH_CTRL_tx_abort.off) && v.getLsbD R.LPO_CH_CTRL_tx_abort.lsb),
    (.rxRel, decide (off = R.LPO_CH_CTRL_rx_rel.off) && v.getLsbD R.LPO_CH_CTRL_rx_rel.lsb)].filter (fun x => x.2)).map (fun x => x.1)

/-- The rows of a word of a lpo page. -/
def rowsOfLpo (off : Nat) (v : Word) : List WriteRow :=
  ([(WriteRow.lpoClr, decide (off = R.LPO_CLR_clr.off) && v.getLsbD R.LPO_CLR_clr.lsb)].filter (fun x => x.2)).map (fun x => x.1)

/-- The rows of a word of a canObj page. -/
def rowsOfCanObj (off : Nat) (v : Word) : List WriteRow :=
  ([(WriteRow.send, R.CAN_OBJ_CTRL_send.coversWord off && v.getLsbD R.CAN_OBJ_CTRL_send.lsb),
    (.cancel, R.CAN_OBJ_CTRL_cancel.coversWord off && v.getLsbD R.CAN_OBJ_CTRL_cancel.lsb),
    (.objRelease, R.CAN_OBJ_CTRL_release.coversWord off && v.getLsbD R.CAN_OBJ_CTRL_release.lsb),
    (.resume, R.CAN_OBJ_CTRL_resume.coversWord off && v.getLsbD R.CAN_OBJ_CTRL_resume.lsb)].filter (fun x => x.2)).map (fun x => x.1)

/-- The rows of a word of a can page. -/
def rowsOfCan (off : Nat) (v : Word) : List WriteRow :=
  ([(WriteRow.recover, decide (off = R.CAN_CTRL_recover.off) && v.getLsbD R.CAN_CTRL_recover.lsb),
    (.sleep, decide (off = R.CAN_CTRL_sleep.off) && v.getLsbD R.CAN_CTRL_sleep.lsb),
    (.canClr, decide (off = R.CAN_CTRL_clr.off) && v.getLsbD R.CAN_CTRL_clr.lsb),
    (.pmbRelease, R.CAN_PMB_CTRL_release.coversWord off && v.getLsbD R.CAN_PMB_CTRL_release.lsb)].filter (fun x => x.2)).map (fun x => x.1)

/-- The rows of a word of a pnl page. -/
def rowsOfPnl (off : Nat) (v : Word) : List WriteRow :=
  ([(WriteRow.put, decide (off = R.PNL_CTRL_put.off) && v.getLsbD R.PNL_CTRL_put.lsb),
    (.update, decide (off = R.PNL_CTRL_update.off) && v.getLsbD R.PNL_CTRL_update.lsb),
    (.full, decide (off = R.PNL_CTRL_full.off) && v.getLsbD R.PNL_CTRL_full.lsb),
    (.copyFront, decide (off = R.PNL_CTRL_copy_front.off) && v.getLsbD R.PNL_CTRL_copy_front.lsb)].filter (fun x => x.2)).map (fun x => x.1)

/-- The rows of a word of a rmp page. -/
def rowsOfRmp (off : Nat) (v : Word) : List WriteRow :=
  ([(WriteRow.targetWrite, decide (off = R.RMP_TGT_tgt.off)),
    (.ackPos, decide (off = R.RMP_CTRL_ack_pos.off) && v.getLsbD R.RMP_CTRL_ack_pos.lsb),
    (.setpos, decide (off = R.RMP_CTRL_setpos.off) && v.getLsbD R.RMP_CTRL_setpos.lsb),
    (.rmpClr, decide (off = R.RMP_CTRL_clr.off) && v.getLsbD R.RMP_CTRL_clr.lsb)].filter (fun x => x.2)).map (fun x => x.1)

/-- The rows of a word of a saf page. -/
def rowsOfSaf (off : Nat) (v : Word) : List WriteRow :=
  ([(WriteRow.safRelease, decide (off = R.SAF_CTRL_release.off) && v.getLsbD R.SAF_CTRL_release.lsb),
    (.alertClr, decide (off = R.SAF_CTRL_alert_clr.off) && v.getLsbD R.SAF_CTRL_alert_clr.lsb),
    (.safEnter, decide (off = R.SAF_CTRL_enter.off) && v.getLsbD R.SAF_CTRL_enter.lsb)].filter (fun x => x.2)).map (fun x => x.1)

/-- The rows of a word of a age page. -/
def rowsOfAge (off : Nat) (v : Word) : List WriteRow :=
  ([(WriteRow.resetOfs, decide (off = R.AGE_CTRL_reset_ofs.off) && v.getLsbD R.AGE_CTRL_reset_ofs.lsb)].filter (fun x => x.2)).map (fun x => x.1)

/-- The rows of a word of a sys page. -/
def rowsOfSys (off : Nat) (v : Word) : List WriteRow :=
  ([(WriteRow.reqRun, decide (off = R.SYS_PWR_req.off) && decide (Word.bits v R.SYS_PWR_req.lsb R.SYS_PWR_req.width = 0)),
    (.reqLean, decide (off = R.SYS_PWR_req.off) && decide (Word.bits v R.SYS_PWR_req.lsb R.SYS_PWR_req.width = 1)),
    (.reqDormant, decide (off = R.SYS_PWR_req.off) && decide (2 ≤ Word.bits v R.SYS_PWR_req.lsb R.SYS_PWR_req.width))].filter (fun x => x.2)).map (fun x => x.1)

/-- The rows of a word of a sec page. -/
def rowsOfSec (off : Nat) (v : Word) : List WriteRow :=
  ([(WriteRow.challenge, decide (off = R.SEC_CTRL_challenge.off) && v.getLsbD R.SEC_CTRL_challenge.lsb),
    (.sessionOpen, decide (off = R.SEC_CTRL_open.off) && v.getLsbD R.SEC_CTRL_open.lsb),
    (.sessionClose, decide (off = R.SEC_CTRL_close.off) && v.getLsbD R.SEC_CTRL_close.lsb),
    (.secAlertClr, decide (off = R.SEC_CTRL_alert_clr.off) && v.getLsbD R.SEC_CTRL_alert_clr.lsb)].filter (fun x => x.2)).map (fun x => x.1)

/-- The rows of a word of a dbg page. -/
def rowsOfDbg (off : Nat) (v : Word) : List WriteRow :=
  ([(WriteRow.fbeHalt, decide (off = R.DBG_CTRL_fbe_halt.off)),
    (.debugStep, decide (off = R.DBG_CTRL_step.off) && v.getLsbD R.DBG_CTRL_step.lsb)].filter (fun x => x.2)).map (fun x => x.1)

/-- The rows of a word of a lnk page. -/
def rowsOfLnk (off : Nat) (v : Word) : List WriteRow :=
  ([(WriteRow.linkGo, decide (off = R.LNK_CTRL_go.off) && v.getLsbD R.LNK_CTRL_go.lsb),
    (.linkStop, decide (off = R.LNK_CTRL_stop.off) && v.getLsbD R.LNK_CTRL_stop.lsb),
    (.ins1, decide (off = R.LNK_CTRL_ins1.off) && v.getLsbD R.LNK_CTRL_ins1.lsb),
    (.lnkClr, decide (off = R.LNK_CTRL_clr.off) && v.getLsbD R.LNK_CTRL_clr.lsb),
    (.hbufWrite, R.LNK_HBUF_buf.coversWord off)].filter (fun x => x.2)).map (fun x => x.1)

/-- The rows that a written word is (Tables 03-6, 03-8, 03-9 and those of the chapters): several where it sets several bits. -/
def rowsOf (a : Nat) (v : Word) : List WriteRow :=
  let off := a % 0x1000
  match pageAt a with
  | none => []
  | some (k, _) =>
    if off = 0x0C then
      (match [0, 1, 2, 3, 4].filter (fun i => v.getLsbD i) with
       | [0] => [.commit]
       | [1] => [.discard]
       | [2] => [.lock]
       | [3] => [.unlock]
       | [4] => [.join]
       | _ => [])
    else if off = 0x1C then
      (([(WriteRow.clampNext, v.getLsbD 0), (.clampFlush, v.getLsbD 1)].filter (fun x => x.2)).map (fun x => x.1))
    else if off = 0x28 then [.pgIrqSet]
    else
      match k with
      | .hpi => rowsOfHpi off v
      | .tly => rowsOfTly off v
      | .sc => rowsOfSc off v
      | .spxPl => rowsOfSpxPl off v
      | .sto => rowsOfSto off v
      | .pte => rowsOfPte off v
      | .pteCl => rowsOfPteCl off v
      | .alh => rowsOfAlh off v
      | .fbe => rowsOfFbe off v
      | .evr => rowsOfEvr off v
      | .tbs => rowsOfTbs off v
      | .dio => rowsOfDio off v
      | .lpoCh => rowsOfLpoCh off v
      | .lpo => rowsOfLpo off v
      | .canObj => rowsOfCanObj off v
      | .can => rowsOfCan off v
      | .pnl => rowsOfPnl off v
      | .rmp => rowsOfRmp off v
      | .saf => rowsOfSaf off v
      | .age => rowsOfAge off v
      | .sys => rowsOfSys off v
      | .sec => rowsOfSec off v
      | .dbg => rowsOfDbg off v
      | .lnk => rowsOfLnk off v
      | _ => []

/-! ### The front of the write queue -/

/-- The register word at the front of the write queue: its port, address and value. -/
def State.frontWord (s : State) : Option (Port × Nat × Word) :=
  match s.queue with
  | [] => none
  | f :: _ => if f.addr < windowBottom then some (f.port, f.addr, word (leNat (f.data.take 4))) else none

/-- The word at the front has taken effect; aperture frames that come to the front take theirs. -/
def State.popWord (s : State) : State :=
  match s.queue with
  | [] => s
  | f :: rest =>
    if f.data.length ≤ 4 then s.frameDone.drainAper 16
    else { s with queue := { f with addr := f.addr + 4, data := f.data.drop 4 } :: rest }

/-- The word at the front takes effect where `is` says that it is of the row's kind; `sent` and `flips` are what a link test has carried
since the node last counted. -/
def State.takeFrontNow (s : State) (is : Nat → Word → Bool) (sent : Nat) (flips : List Nat) : State :=
  match s.frontWord with
  | none => s
  | some (p, a, v) => if s.ready && is a v then (s.writeWord p a v sent flips).popWord else s

/-- The word at the front takes effect unless it waits (R249, R254). -/
def State.takeFront (s : State) (is : Nat → Word → Bool) (sent : Nat) (flips : List Nat) : State := s.unlessWaits (s.takeFrontNow is sent flips)

/-- The word at the front takes effect as this row. -/
def State.takeRow (s : State) (r : WriteRow) (sent : Nat) (flips : List Nat) : State := s.takeFront (fun a v => (rowsOf a v).contains r) sent flips

/-- REGISTER_WRITE (R84): a word with no row of its own. -/
def execRegisterWrite (t : Nat) (s : State) : Host.Outcome State Fault Refusal :=
  .next ((s.at t).takeFront (fun a v => (rowsOf a v).isEmpty) 0 [])

/-- COMMIT (R85). -/
def execCommit (t : Nat) (s : State) : Host.Outcome State Fault Refusal := .next ((s.at t).takeRow .commit 0 [])

/-- DISCARD (R88). -/
def execDiscard (t : Nat) (s : State) : Host.Outcome State Fault Refusal := .next ((s.at t).takeRow .discard 0 [])

/-- LOCK (R90). -/
def execLock (t : Nat) (s : State) : Host.Outcome State Fault Refusal := .next ((s.at t).takeRow .lock 0 [])

/-- UNLOCK (R90). -/
def execUnlock (t : Nat) (s : State) : Host.Outcome State Fault Refusal := .next ((s.at t).takeRow .unlock 0 [])

/-- JOIN (R89). -/
def execJoin (t : Nat) (s : State) : Host.Outcome State Fault Refusal := .next ((s.at t).takeRow .join 0 [])

/-- CLAMP_NEXT (R87). -/
def execClampNext (t : Nat) (s : State) : Host.Outcome State Fault Refusal := .next ((s.at t).takeRow .clampNext 0 [])

/-- CLAMP_FLUSH (R87). -/
def execClampFlush (t : Nat) (s : State) : Host.Outcome State Fault Refusal := .next ((s.at t).takeRow .clampFlush 0 [])

/-- PG_IRQ_SET (R93). -/
def execPgIrqSet (t : Nat) (s : State) : Host.Outcome State Fault Refusal := .next ((s.at t).takeRow .pgIrqSet 0 [])

/-- HPI_CLR_ERR (R94). -/
def execHpiClrErr (t : Nat) (s : State) : Host.Outcome State Fault Refusal := .next ((s.at t).takeRow .hpiClrErr 0 [])

/-- GC_GO (R89). -/
def execGcGo (t : Nat) (s : State) : Host.Outcome State Fault Refusal := .next ((s.at t).takeRow .gcGo 0 [])

/-- GC_ABANDON (R89). -/
def execGcAbandon (t : Nat) (s : State) : Host.Outcome State Fault Refusal := .next ((s.at t).takeRow .gcAbandon 0 [])

/-- TLY_CANCEL (R101). -/
def execTlyCancel (t : Nat) (s : State) : Host.Outcome State Fault Refusal := .next ((s.at t).takeRow .tlyCancel 0 [])

/-- TLY_CQ_POP (R103). -/
def execTlyCqPop (t : Nat) (s : State) : Host.Outcome State Fault Refusal := .next ((s.at t).takeRow .tlyCqPop 0 [])

/-- SC_TEST (R109). -/
def execScTest (t : Nat) (s : State) : Host.Outcome State Fault Refusal := .next ((s.at t).takeRow .scTest 0 [])

/-- SC_FLIP (R135). -/
def execScFlip (t : Nat) (s : State) : Host.Outcome State Fault Refusal := .next ((s.at t).takeRow .scFlip 0 [])

/-- RESTART (R200). -/
def execRestart (t : Nat) (s : State) : Host.Outcome State Fault Refusal := .next ((s.at t).takeRow .restart 0 [])

/-- SCRUB_NOW (R229). -/
def execScrubNow (t : Nat) (s : State) : Host.Outcome State Fault Refusal := .next ((s.at t).takeRow .scrubNow 0 [])

/-- STO_CLR_ERR (R228). -/
def execStoClrErr (t : Nat) (s : State) : Host.Outcome State Fault Refusal := .next ((s.at t).takeRow .stoClrErr 0 [])

/-- SPECTRAL_SIMULATION (R248). -/
def execSpectralSimulation (t : Nat) (s : State) : Host.Outcome State Fault Refusal := .next ((s.at t).takeRow .spectralSimulation 0 [])

/-- CLASS_RELEASE (R243). -/
def execClassRelease (t : Nat) (s : State) : Host.Outcome State Fault Refusal := .next ((s.at t).takeRow .classRelease 0 [])

/-- PTE_CLR (R262). -/
def execPteClr (t : Nat) (s : State) : Host.Outcome State Fault Refusal := .next ((s.at t).takeRow .pteClr 0 [])

/-- ACKNOWLEDGE_ENTRY (R283). -/
def execAcknowledgeEntry (t : Nat) (s : State) : Host.Outcome State Fault Refusal := .next ((s.at t).takeRow .acknowledgeEntry 0 [])

/-- ACKNOWLEDGE_GROUP (R282). -/
def execAcknowledgeGroup (t : Nat) (s : State) : Host.Outcome State Fault Refusal := .next ((s.at t).takeRow .acknowledgeGroup 0 [])

/-- ACKNOWLEDGE_ALL (R282). -/
def execAcknowledgeAll (t : Nat) (s : State) : Host.Outcome State Fault Refusal := .next ((s.at t).takeRow .acknowledgeAll 0 [])

/-- RESET_ENTRY (R271). -/
def execResetEntry (t : Nat) (s : State) : Host.Outcome State Fault Refusal := .next ((s.at t).takeRow .resetEntry 0 [])

/-- SHELVE_ENTRY (R274). -/
def execShelveEntry (t : Nat) (s : State) : Host.Outcome State Fault Refusal := .next ((s.at t).takeRow .shelveEntry 0 [])

/-- UNSHELVE_ENTRY (R273). -/
def execUnshelveEntry (t : Nat) (s : State) : Host.Outcome State Fault Refusal := .next ((s.at t).takeRow .unshelveEntry 0 [])

/-- TAKE_OUT_OF_SERVICE (R273). -/
def execTakeOutOfService (t : Nat) (s : State) : Host.Outcome State Fault Refusal := .next ((s.at t).takeRow .takeOutOfService 0 [])

/-- RETURN_TO_SERVICE (R273). -/
def execReturnToService (t : Nat) (s : State) : Host.Outcome State Fault Refusal := .next ((s.at t).takeRow .returnToService 0 [])

/-- ACCEPT_CALL (R289). -/
def execAcceptCall (t : Nat) (s : State) : Host.Outcome State Fault Refusal := .next ((s.at t).takeRow .acceptCall 0 [])

/-- ARM_GROUP (R281). -/
def execArmGroup (t : Nat) (s : State) : Host.Outcome State Fault Refusal := .next ((s.at t).takeRow .armGroup 0 [])

/-- ALH_CMD_NONE (R282). -/
def execAlhCmdNone (t : Nat) (s : State) : Host.Outcome State Fault Refusal := .next ((s.at t).takeRow .alhCmdNone 0 [])

/-- MODE_CHANGE (R275). -/
def execModeChange (t : Nat) (s : State) : Host.Outcome State Fault Refusal := .next ((s.at t).takeRow .modeChange 0 [])

/-- DUTY_CHANGE (R285). -/
def execDutyChange (t : Nat) (s : State) : Host.Outcome State Fault Refusal := .next ((s.at t).takeRow .dutyChange 0 [])

/-- ALH_CLR (R291). -/
def execAlhClr (t : Nat) (s : State) : Host.Outcome State Fault Refusal := .next ((s.at t).takeRow .alhClr 0 [])

/-- FBE_EV_TRIG (R307). -/
def execFbeEvTrig (t : Nat) (s : State) : Host.Outcome State Fault Refusal := .next ((s.at t).takeRow .fbeEvTrig 0 [])

/-- FORCE_SET (R327). -/
def execForceSet (t : Nat) (s : State) : Host.Outcome State Fault Refusal := .next ((s.at t).takeRow .forceSet 0 [])

/-- FORCE_RELEASE (R327). -/
def execForceRelease (t : Nat) (s : State) : Host.Outcome State Fault Refusal := .next ((s.at t).takeRow .forceRelease 0 [])

/-- FORCE_RELEASE_ALL (R327). -/
def execForceReleaseAll (t : Nat) (s : State) : Host.Outcome State Fault Refusal := .next ((s.at t).takeRow .forceReleaseAll 0 [])

/-- FBE_CLR (R310). -/
def execFbeClr (t : Nat) (s : State) : Host.Outcome State Fault Refusal := .next ((s.at t).takeRow .fbeClr 0 [])

/-- EVR_TRIG_GO (R332). -/
def execEvrTrigGo (t : Nat) (s : State) : Host.Outcome State Fault Refusal := .next ((s.at t).takeRow .evrTrigGo 0 [])

/-- EVR_CLR (R346). -/
def execEvrClr (t : Nat) (s : State) : Host.Outcome State Fault Refusal := .next ((s.at t).takeRow .evrClr 0 [])

/-- TBS_SET (R353). -/
def execTbsSet (t : Nat) (s : State) : Host.Outcome State Fault Refusal := .next ((s.at t).takeRow .tbsSet 0 [])

/-- TBS_ADJUST (R353). -/
def execTbsAdjust (t : Nat) (s : State) : Host.Outcome State Fault Refusal := .next ((s.at t).takeRow .tbsAdjust 0 [])

/-- TBS_SET_CAL (R353). -/
def execTbsSetCal (t : Nat) (s : State) : Host.Outcome State Fault Refusal := .next ((s.at t).takeRow .tbsSetCal 0 [])

/-- TBS_HALT (R356). -/
def execTbsHalt (t : Nat) (s : State) : Host.Outcome State Fault Refusal := .next ((s.at t).takeRow .tbsHalt 0 [])

/-- TRIM_WRITE (R358). -/
def execTrimWrite (t : Nat) (s : State) : Host.Outcome State Fault Refusal := .next ((s.at t).takeRow .trimWrite 0 [])

/-- REARM (R377). -/
def execRearm (t : Nat) (s : State) : Host.Outcome State Fault Refusal := .next ((s.at t).takeRow .rearm 0 [])

/-- THR_TEST (R374). -/
def execThrTest (t : Nat) (s : State) : Host.Outcome State Fault Refusal := .next ((s.at t).takeRow .thrTest 0 [])

/-- DO_SET (R380). -/
def execDoSet (t : Nat) (s : State) : Host.Outcome State Fault Refusal := .next ((s.at t).takeRow .doSet 0 [])

/-- DIO_CLR (R370). -/
def execDioClr (t : Nat) (s : State) : Host.Outcome State Fault Refusal := .next ((s.at t).takeRow .dioClr 0 [])

/-- CLR_COMP (R396). -/
def execClrComp (t : Nat) (s : State) : Host.Outcome State Fault Refusal := .next ((s.at t).takeRow .clrComp 0 [])

/-- LOOP_SET (R389). -/
def execLoopSet (t : Nat) (s : State) : Host.Outcome State Fault Refusal := .next ((s.at t).takeRow .loopSet 0 [])

/-- TX_GO (R398). -/
def execTxGo (t : Nat) (s : State) : Host.Outcome State Fault Refusal := .next ((s.at t).takeRow .txGo 0 [])

/-- TX_ABORT (R398). -/
def execTxAbort (t : Nat) (s : State) : Host.Outcome State Fault Refusal := .next ((s.at t).takeRow .txAbort 0 [])

/-- RX_REL (R399). -/
def execRxRel (t : Nat) (s : State) : Host.Outcome State Fault Refusal := .next ((s.at t).takeRow .rxRel 0 [])

/-- LPO_CLR (R401). -/
def execLpoClr (t : Nat) (s : State) : Host.Outcome State Fault Refusal := .next ((s.at t).takeRow .lpoClr 0 [])

/-- SEND (R414). -/
def execSend (t : Nat) (s : State) : Host.Outcome State Fault Refusal := .next ((s.at t).takeRow .send 0 [])

/-- CANCEL (R417). -/
def execCancel (t : Nat) (s : State) : Host.Outcome State Fault Refusal := .next ((s.at t).takeRow .cancel 0 [])

/-- OBJ_RELEASE (R410). -/
def execObjRelease (t : Nat) (s : State) : Host.Outcome State Fault Refusal := .next ((s.at t).takeRow .objRelease 0 [])

/-- RESUME (R418). -/
def execResume (t : Nat) (s : State) : Host.Outcome State Fault Refusal := .next ((s.at t).takeRow .resume 0 [])

/-- RECOVER (R420). -/
def execRecover (t : Nat) (s : State) : Host.Outcome State Fault Refusal := .next ((s.at t).takeRow .recover 0 [])

/-- SLEEP (R421). -/
def execSleep (t : Nat) (s : State) : Host.Outcome State Fault Refusal := .next ((s.at t).takeRow .sleep 0 [])

/-- CAN_CLR (R420). -/
def execCanClr (t : Nat) (s : State) : Host.Outcome State Fault Refusal := .next ((s.at t).takeRow .canClr 0 [])

/-- PMB_RELEASE (R412). -/
def execPmbRelease (t : Nat) (s : State) : Host.Outcome State Fault Refusal := .next ((s.at t).takeRow .pmbRelease 0 [])

/-- PUT (R432). -/
def execPut (t : Nat) (s : State) : Host.Outcome State Fault Refusal := .next ((s.at t).takeRow .put 0 [])

/-- UPDATE (R432). -/
def execUpdate (t : Nat) (s : State) : Host.Outcome State Fault Refusal := .next ((s.at t).takeRow .update 0 [])

/-- FULL (R432). -/
def execFull (t : Nat) (s : State) : Host.Outcome State Fault Refusal := .next ((s.at t).takeRow .full 0 [])

/-- COPY_FRONT (R432). -/
def execCopyFront (t : Nat) (s : State) : Host.Outcome State Fault Refusal := .next ((s.at t).takeRow .copyFront 0 [])

/-- TARGET_WRITE (R444). -/
def execTargetWrite (t : Nat) (s : State) : Host.Outcome State Fault Refusal := .next ((s.at t).takeRow .targetWrite 0 [])

/-- ACK_POS (R451). -/
def execAckPos (t : Nat) (s : State) : Host.Outcome State Fault Refusal := .next ((s.at t).takeRow .ackPos 0 [])

/-- SETPOS (R453). -/
def execSetpos (t : Nat) (s : State) : Host.Outcome State Fault Refusal := .next ((s.at t).takeRow .setpos 0 [])

/-- RMP_CLR (R446). -/
def execRmpClr (t : Nat) (s : State) : Host.Outcome State Fault Refusal := .next ((s.at t).takeRow .rmpClr 0 [])

/-- SAF_RELEASE (R459). -/
def execSafRelease (t : Nat) (s : State) : Host.Outcome State Fault Refusal := .next ((s.at t).takeRow .safRelease 0 [])

/-- ALERT_CLR (R469). -/
def execAlertClr (t : Nat) (s : State) : Host.Outcome State Fault Refusal := .next ((s.at t).takeRow .alertClr 0 [])

/-- SAF_ENTER (R454). -/
def execSafEnter (t : Nat) (s : State) : Host.Outcome State Fault Refusal := .next ((s.at t).takeRow .safEnter 0 [])

/-- RESET_OFS (R484). -/
def execResetOfs (t : Nat) (s : State) : Host.Outcome State Fault Refusal := .next ((s.at t).takeRow .resetOfs 0 [])

/-- REQ_RUN (R485). -/
def execReqRun (t : Nat) (s : State) : Host.Outcome State Fault Refusal := .next ((s.at t).takeRow .reqRun 0 [])

/-- REQ_LEAN (R485). -/
def execReqLean (t : Nat) (s : State) : Host.Outcome State Fault Refusal := .next ((s.at t).takeRow .reqLean 0 [])

/-- REQ_DORMANT (R486). -/
def execReqDormant (t : Nat) (s : State) : Host.Outcome State Fault Refusal := .next ((s.at t).takeRow .reqDormant 0 [])

/-- CHALLENGE (R497). -/
def execChallenge (t : Nat) (s : State) : Host.Outcome State Fault Refusal := .next ((s.at t).takeRow .challenge 0 [])

/-- SESSION_OPEN (R497). -/
def execSessionOpen (t : Nat) (s : State) : Host.Outcome State Fault Refusal := .next ((s.at t).takeRow .sessionOpen 0 [])

/-- SESSION_CLOSE (R498). -/
def execSessionClose (t : Nat) (s : State) : Host.Outcome State Fault Refusal := .next ((s.at t).takeRow .sessionClose 0 [])

/-- SEC_ALERT_CLR (R502). -/
def execSecAlertClr (t : Nat) (s : State) : Host.Outcome State Fault Refusal := .next ((s.at t).takeRow .secAlertClr 0 [])

/-- FBE_HALT (R501). -/
def execFbeHalt (t : Nat) (s : State) : Host.Outcome State Fault Refusal := .next ((s.at t).takeRow .fbeHalt 0 [])

/-- DEBUG_STEP (R501). -/
def execDebugStep (t : Nat) (s : State) : Host.Outcome State Fault Refusal := .next ((s.at t).takeRow .debugStep 0 [])

/-- LINK_GO (R520). -/
def execLinkGo (t : Nat) (s : State) : Host.Outcome State Fault Refusal := .next ((s.at t).takeRow .linkGo 0 [])

/-- LINK_STOP (R521). -/
def execLinkStop (t sent : Nat) (flips : List Nat) (s : State) : Host.Outcome State Fault Refusal := .next ((s.at t).takeRow .linkStop sent flips)

/-- INS1 (R516). -/
def execIns1 (t sent : Nat) (flips : List Nat) (s : State) : Host.Outcome State Fault Refusal := .next ((s.at t).takeRow .ins1 sent flips)

/-- LNK_CLR (R521). -/
def execLnkClr (t : Nat) (s : State) : Host.Outcome State Fault Refusal := .next ((s.at t).takeRow .lnkClr 0 [])

/-- HBUF_WRITE (R517). -/
def execHbufWrite (t : Nat) (s : State) : Host.Outcome State Fault Refusal := .next ((s.at t).takeRow .hbufWrite 0 [])

/-! ### Frames of the point window (R243, R246, R247, R258) -/

/-- The frame of the point window at the front of the write queue. -/
def State.frontWindow (s : State) : Option Frame :=
  match s.queue with
  | [] => none
  | f :: _ => if windowBottom ≤ f.addr ∧ f.addr < aperBottom then some f else none

/-- The items under bytes at an address of the storeroom; `k` bounds them. -/
def itemsFrom : Nat → Nat → Nat → List (Nat × Nat × Nat × Nat)
  | 0, _, _ => []
  | k + 1, a, n => if n = 0 then [] else
    let i := windowItem a
    let m := i.2.2.1 + i.2.2.2 - a
    i :: itemsFrom k (a + m) (n - m)

/-- The runs of a window frame. -/
def Frame.runs (f : Frame) : List (Nat × List Byte) :=
  burstRuns f.base 0x400000 (f.data.length / 0x400000 + 1) (f.addr - windowBottom) f.data

/-- The items that a window frame touches: kind, point, start and size. -/
def Frame.items (f : Frame) : List (Nat × Nat × Nat × Nat) := f.runs.flatMap (fun r => itemsFrom (r.2.length + 1) r.1 r.2.length)

/-- The byte that a window frame writes at an address of the storeroom. -/
def Frame.byteAt (f : Frame) (a : Nat) : Option Nat :=
  match f.runs.find? (fun r => decide (r.1 ≤ a) && decide (a < r.1 + r.2.length)) with
  | some r => some (at8 r.2 (a - r.1))
  | none => none

/-- A window frame writes bit `sp` of the state byte of a spectral record, or bit `sc` of byte `off` of a scalar record, as `b`, on a
point that `is` holds of. -/
def Frame.writes (f : Frame) (sp off sc : Nat) (b : Bool) (is : Nat → Bool) : Bool :=
  f.items.any (fun i =>
    if i.1 = 0 then (f.byteAt (i.2.2.1 + 8)).any (fun x => decide (bitAt x sp = b)) && decide (sp < 8) && is i.2.1
    else if i.1 = 1 then (f.byteAt (i.2.2.1 + off)).any (fun x => decide (bitAt x sc = b)) && is i.2.1
    else false)

/-- A window frame waits while PTE evaluates a point that it touches at the frontier (R254), and while the change queue is full, so that no
change is lost (R249). -/
def State.windowWaits (s : State) (f : Frame) : Bool :=
  s.domainOn 6 && (s.changesFull || (s.stalled && f.items.any (fun i => s.stalledAt i.2.1)))

/-- The window frame at the front takes effect where `is` says that it is of the row's kind; a refused one is lost (R81, R257). -/
def State.takeWindow (s : State) (is : Frame → Bool) : State :=
  match s.frontWindow with
  | none => s
  | some f =>
    if !(s.ready && is f) then s
    else
      let s' := match s.windowWrite f.port f.base f.addr f.data with
        | some x => x
        | none => (s.writeLost f.port).trapRefused f.port
      s'.frameDone.drainAper 16

/-- The window frame at the front takes effect unless it waits (R249, R254). -/
def State.takeOpenWindow (s : State) (is : Frame → Bool) : State := s.takeWindow (fun f => !(s.windowWaits f) && is f)

/-- POINT_WINDOW_WRITE (R258): a write frame of the point window. -/
def execPointWindowWrite (t : Nat) (s : State) : Host.Outcome State Fault Refusal := .next ((s.at t).takeOpenWindow (fun _ => true))

/-- POINT_FORCE (R246): a window write with forced = 1. -/
def execPointForce (t : Nat) (s : State) : Host.Outcome State Fault Refusal :=
  .next ((s.at t).takeOpenWindow (fun f => f.writes 5 26 7 true (fun _ => true)))

/-- POINT_FORCE_RELEASE (R246): a window write with forced = 0 on a forced point. -/
def execPointForceRelease (t : Nat) (s : State) : Host.Outcome State Fault Refusal :=
  let s := s.at t
  .next (s.takeOpenWindow (fun f => f.writes 5 26 7 false s.pointForced))

/-- LATCH_RELEASE (R243): a window write of latched = 0 on a latched point. -/
def execLatchRelease (t : Nat) (s : State) : Host.Outcome State Fault Refusal :=
  let s := s.at t
  .next (s.takeOpenWindow (fun f => f.writes 2 26 4 false s.pointLatched))

/-- POINT_SIMULATE (R247): a window write that sets a scalar record's simulated bit. -/
def execPointSimulate (t : Nat) (s : State) : Host.Outcome State Fault Refusal :=
  let s := s.at t
  .next (s.takeOpenWindow (fun f => f.writes 8 27 2 true (fun p => isScalar p && !s.pointSimulated p)))

/-- SIMULATION_END (R247): a window write that clears a simulated scalar record's bit. -/
def execSimulationEnd (t : Nat) (s : State) : Host.Outcome State Fault Refusal :=
  let s := s.at t
  .next (s.takeOpenWindow (fun f => f.writes 8 27 2 false (fun p => isScalar p && s.pointSimulated p)))

/-- Every write queued takes effect in order (R78); `k` bounds the words and frames. -/
def State.drainQueue (s : State) : Nat → State
  | 0 => s
  | k + 1 =>
    match s.queue with
    | [] => s
    | _ => (((s.takeFrontNow (fun _ _ => true) 0 []).takeWindow (fun _ => true)).drainAper 16).drainQueue k

/-- How many words and frames wait at most. -/
def State.queued (s : State) : Nat := (s.queue.map (fun f => f.data.length / 4 + 1)).sum

end Sys2Proof.Machine
end

