-- ==== Sys2Proof/Machine/Power.lean ====
section
/-! DEFINITION. Start-up, the power-fail sequence, the losses of supply (R31–R41, R48, R55–R62, R485–R489), the tamper inputs (R496)
and the trapdoor's enable (R499). -/

namespace Sys2Proof.Machine

open Sys2Proof

/-! ### Start-up (R34) -/

/-- The state in which a start-up ends (R489). -/
def State.startInto (s : State) : Nat :=
  let req := s.fv P.SYS R.SYS_PWR_req
  if req = 2 then s.fv P.SYS R.SYS_PWR_wake_to else req

/-- What COR's registers hold when it starts (R14, R91): the ro and w1c fields that keep no value at their Reset values, no event, no
clamp recorded, no frame queued, no result held. -/
def State.corReset (s : State) : State :=
  let s := s.lapse (fun _ _ => true)
  { s with
    regs := s.regs.filter (fun x => decide (x.1 % 0x1000 ≠ 0x20))
    rings := []
    queue := []
    host := PortState.reset
    trap := PortState.reset }

/-- The supply of attic A at the first barrier frame (R35): above 18 V, where it was not yet known to be. -/
def State.fieldAtStart (s : State) (vf18 : Bool) : State :=
  if vf18 && decide (s.dio.vfield ≤ 18000) then
    (let (w, s) := s.draw
     s.setField (18001 + w.toNat))
  else s

/-- Steps 1 to 6 of R34 (from step 3 for cause 3, R40), up to the hold of R39. -/
def State.startCor (s : State) (cause : Nat) (vf18 : Bool) : State :=
  let lastEff := s.dio.sent
  let off : List Bool := [s.busOff 0, s.busOff 1]
  let clean := s.pwr.clean
  let into := s.startInto
  let s := s.startClocks
  let s : State := { s with pwr := { s.pwr with mode := .held, busy := false, heldReq := none, earlyWake := none } }
  let s := s.corReset.clocksShow
  let s := (s.setFv P.SYS R.SYS_PWR_req into).setFv P.SYS R.SYS_STATE_pstate into
  let s := (s.setFv P.SYS R.SYS_START_cause cause).setFb P.SYS R.SYS_START_clean clean
  let s := (s.setFv P.DBG R.DBG_CTRL_fbe_halt 0).secStart
  let s := s.setFb P.SAF R.SAF_STAT_latched (s.fb P.SAF R.SAF_STAT_safe)
  let s := s.lnkStart.stoStart.pnlStart
  let s := (s.fieldAtStart vf18).dioStart lastEff
  let s := s.lpoStart.rmpStart
  ((s.canStart 0 (off.getD 0 false)).canStart 1 (off.getD 1 false)).seenStart

/-- Steps 7 and 8 of R34: PTE, ALH and FBE resume, the domains of the state are powered, RDY_N is asserted, SYS_T_READY records the
time since t0. `cold`: the cellar had lost power. -/
def State.startReady (s : State) (cold : Bool) : State :=
  let clean := s.fb P.SYS R.SYS_START_clean
  let s := s.setFv P.SYS R.SYS_STATE_pfw 0
  let s : State := { s with pwr := { s.pwr with mode := .active, cellarLost := false } }
  let s := s.awaken
  let s := s.alhStart
  let s := ((s.evrStart clean cold).tallyStart).plannedShow
  let s := s.setFv P.SAF R.SAF_LIVE_live (withBit (s.fv P.SAF R.SAF_LIVE_live) 4 (decide (s.saf.conv4 ≠ 0)))
  let s := s.safShow.fbeShow
  s.setFv P.SYS R.SYS_T_READY_t_ready (Nat.min 0xFFFFFF (s.now - s.pwr.t0))

/-- The start-up holds at step 6 while PFW_N is low (R39). -/
def State.startHolds (s : State) : State := (s.setFv P.SYS R.SYS_START_pfw_hold 1).setFv P.SYS R.SYS_STATE_pfw 1

/-- Diagnostics that fail in steps 1 to 6 of R34: what they say keeps SAFEA and SAFEB at their safe level at step 7. -/
def State.startFails (s : State) (fails : List (Nat × Nat)) : State := fails.foldl (fun (s : State) x => s.diagnosticFails x.1 x.2) s

/-- START_UP (R34): t0 at `t` with RDY_N `ready` steps later; TMODE at t0 (R48), PFW_N low at t0 (R39), VFIELD above 18 V at the first
barrier frame (R35); `fails`: the diagnostics that fail before step 7, each with its detail. -/
def execStartUp (t ready : Nat) (tmode pfwLow vf18 : Bool) (fails : List (Nat × Nat)) (s : State) : Host.Outcome State Fault Refusal :=
  let s := s.at t
  match s.pwr.mode with
  | .off | .backup =>
    if tmode then .next { s with pwr := { s.pwr with mode := .tmode } }
    else
      let cold := s.pwr.cellarLost
      let s := (s.pnlOff).startCor (if cold then 0 else 1) vf18
      let s : State := { s with pwr := { s.pwr with t0 := s.now, avddOk := true, avddFrom := none } }
      let s := s.startFails fails
      if pfwLow then .next s.startHolds
      else .next ((s.at (s.now + ready)).startReady cold)
  | _ => .next s

/-- PFW_HOLD_RELEASE (R39): PFW_N has been high for 10 ms; start-up goes on with step 7. -/
def execPfwHoldRelease (t : Nat) (s : State) : Host.Outcome State Fault Refusal :=
  let s := s.at t
  .next (if s.pwr.mode = .held then s.startReady s.pwr.cellarLost else s)

/-- PFW_WITHDRAWN (R40): VMAIN stayed valid; start-up from step 3 with cause 3; `fails` as in START_UP. -/
def execPfwWithdrawn (t : Nat) (fails : List (Nat × Nat)) (s : State) : Host.Outcome State Fault Refusal :=
  let s := s.at t
  if s.pwr.mode = .locked then
    (let vf18 := decide (18000 < s.dio.vfield)
     .next (((s.startCor 3 vf18).startFails fails).startReady false))
  else .next s

/-! ### Stops (R40, R41) -/

/-- The work that a stop ends: tallies (R102), cycles (R33), a link test (R507), a plan, calibrations (R149), the step pulses (R452), the counting of
operation; deadlines count no more, unless DORMANT had already stopped them (R30). -/
def State.workStops (s : State) : State :=
  let s := ((s.talliesEnd.cyclesCut.linkCut).planStops).rmpHalt
  let s := ((s.sacStop).calCounting false).ageCount false false
  let stopAt := if s.pstate = 2 then s.pwr.stopAt else s.now
  { s with
    queue := []
    host := { s.host with rbuf := none }
    trap := { s.trap with rbuf := none }
    pwr := { s.pwr with busy := false, heldReq := none, earlyWake := none, stopAt := stopAt } }

/-- POWER_FAIL_WARNING (R40): the writes queued take effect (R78), the panel stops, the larder is flushed, the state is committed,
evaluation and programs halt, the marker is written (R340); the host interface is locked out `lock` steps after PFW_N fell. -/
def execPowerFailWarning (t lock : Nat) (s : State) : Host.Outcome State Fault Refusal :=
  let s := s.at t
  if !s.ready then .next s
  else
    let s := (s.pnlStop).drainQueue s.queued
    let s := s.flushLarder
    let s : State := { s with rmp := { s.rmp with commit := s.rmpPos } }
    let s := (s.recordTimebase).workStops
    let s := ({ s with evr := { s.evr with paused := false } }).flushMarker
    let s : State := { s with pwr := { s.pwr with mode := .locked, clean := true, lockAt := s.now + lock } }
    .next (s.setFv P.SYS R.SYS_STATE_pfw 1)

/-- VMAIN has fallen: the cellar runs on VBACKUP, the stop was not complete. -/
def State.lostUnwarned (s : State) : State := { s with pwr := { s.pwr with mode := .backup, clean := false } }

/-- UNWARNED_LOSS (R41): VMAIN falls. Before step 6 of R40 is complete it is unwarned, after it the power loss warned of; before RDY_N it
abandons the start-up (R56); with TMODE high it ends the stop of R48. -/
def execUnwarnedLoss (t : Nat) (s : State) : Host.Outcome State Fault Refusal :=
  let s := s.at t
  match s.pwr.mode with
  | .active => .next ((s.evrLost.workStops).pnlOff).lostUnwarned
  | .held | .tmode => .next (({ s with queue := [] }.evrLost).pnlOff).lostUnwarned
  | .locked =>
    if s.closing then .next (s.evrLost.pnlOff).lostUnwarned
    else .next { s.pnlOff with pwr := { s.pwr with mode := .backup } }
  | _ => .next s

/-- CELLAR_STOP (R62): the cellar stops in BACKUP. -/
def execCellarStop (t : Nat) (s : State) : Host.Outcome State Fault Refusal :=
  let s := s.at t
  .next (if s.pwr.mode = .backup then { s with pwr := { s.pwr with mode := .off, cellarLost := true } } else s)

/-! ### Tamper and trapdoor -/

/-- TAMPER_EVENT (R496): an active level of input `i` has stayed for 1 ms; `live` are the present levels. An event in DORMANT wakes the
node (R487). -/
def execTamperEvent (t : Nat) (input : Fin 2) (live : Nat) (s : State) : Host.Outcome State Fault Refusal :=
  let s := s.at t
  let s := s.setFv P.SEC R.SEC_STAT_tamp_live live
  .next (if s.tamperOn input.val then (s.tamper input.val).wakeSource 6 else s)

/-- TDEN rises (R498, R499): a session whose time has run out is closed, the trapdoor is enabled. -/
def State.tdenRises (s : State) : State :=
  let s := s.expireSession .trapdoor
  (({ s with sec := { s.sec with tdenLow := none } }).setFv P.DBG R.DBG_STAT_tden 1).irq P.DBG 0

/-- TDEN_RISING (R487, R499): the trapdoor is enabled; a wake source. -/
def execTdenRising (t : Nat) (s : State) : Host.Outcome State Fault Refusal :=
  let s := s.at t
  .next (if s.corOn then s.tdenRises.wakeSource 5 else s)

end Sys2Proof.Machine
end

