-- ==== Sys2Proof/Machine/Dispatch.lean ====
section
/-! DEFINITION. What each command does: one arm a constructor of `Instr`, each a direct call of its meaning. -/

namespace Sys2Proof.Machine

open Sys2Proof

def exec (i : Instr) (s : State) : Host.Outcome State Fault Refusal :=
  match i with
  | .startUp t ready tmode pfwLow vf18 fails => Sys2Proof.Machine.execStartUp t ready tmode pfwLow vf18 fails s
  | .pfwHoldRelease t => Sys2Proof.Machine.execPfwHoldRelease t s
  | .powerFailWarning t lock => Sys2Proof.Machine.execPowerFailWarning t lock s
  | .pfwWithdrawn t fails => Sys2Proof.Machine.execPfwWithdrawn t fails s
  | .unwarnedLoss t => Sys2Proof.Machine.execUnwarnedLoss t s
  | .avddLost t => Sys2Proof.Machine.execAvddLost t s
  | .avddRestored t => Sys2Proof.Machine.execAvddRestored t s
  | .cellarStop t => Sys2Proof.Machine.execCellarStop t s
  | .rd1 t port addr n sckHz fabricNs ecc => Sys2Proof.Machine.execRd1 t port addr n sckHz fabricNs ecc s
  | .rd4 t addr n sckHz fabricNs ecc => Sys2Proof.Machine.execRd4 t addr n sckHz fabricNs ecc s
  | .wr1 t port addr data ecc => Sys2Proof.Machine.execWr1 t port addr data ecc s
  | .wr4 t addr data ecc => Sys2Proof.Machine.execWr4 t addr data ecc s
  | .stat t port => Sys2Proof.Machine.execStat t port s
  | .hrst t => Sys2Proof.Machine.execHrst t s
  | .undefinedOpcode t port opcode => Sys2Proof.Machine.execUndefinedOpcode t port opcode s
  | .frameAbort t port addr data ecc => Sys2Proof.Machine.execFrameAbort t port addr data ecc s
  | .heldReadComplete t port ecc => Sys2Proof.Machine.execHeldReadComplete t port ecc s
  | .registerWrite t => Sys2Proof.Machine.execRegisterWrite t s
  | .commit t => Sys2Proof.Machine.execCommit t s
  | .discard t => Sys2Proof.Machine.execDiscard t s
  | .lock t => Sys2Proof.Machine.execLock t s
  | .unlock t => Sys2Proof.Machine.execUnlock t s
  | .join t => Sys2Proof.Machine.execJoin t s
  | .clampNext t => Sys2Proof.Machine.execClampNext t s
  | .clampFlush t => Sys2Proof.Machine.execClampFlush t s
  | .pgIrqSet t => Sys2Proof.Machine.execPgIrqSet t s
  | .hpiClrErr t => Sys2Proof.Machine.execHpiClrErr t s
  | .gcGo t => Sys2Proof.Machine.execGcGo t s
  | .gcAbandon t => Sys2Proof.Machine.execGcAbandon t s
  | .tlyGo t port => Sys2Proof.Machine.execTlyGo t port s
  | .tallyLaunch t port => Sys2Proof.Machine.execTallyLaunch t port s
  | .tallyStart t tally => Sys2Proof.Machine.execTallyStart t tally s
  | .nop t tally => Sys2Proof.Machine.execNop t tally s
  | .stoCopy t tally upto ecc => Sys2Proof.Machine.execStoCopy t tally upto ecc s
  | .stoFill t tally upto => Sys2Proof.Machine.execStoFill t tally upto s
  | .stoVerify t tally upto ecc => Sys2Proof.Machine.execStoVerify t tally upto ecc s
  | .stoRekey t tally upto ecc => Sys2Proof.Machine.execStoRekey t tally upto ecc s
  | .baseLearn t tally => Sys2Proof.Machine.execBaseLearn t tally s
  | .limDerive t tally ecc => Sys2Proof.Machine.execLimDerive t tally ecc s
  | .imgLoadProgram t tally ecc => Sys2Proof.Machine.execImgLoadProgram t tally ecc s
  | .imgLoadConfig t tally ecc => Sys2Proof.Machine.execImgLoadConfig t tally ecc s
  | .imgLoadAlarmTable t tally ecc => Sys2Proof.Machine.execImgLoadAlarmTable t tally ecc s
  | .olc t tally => Sys2Proof.Machine.execOlc t tally s
  | .evrErase t tally crates => Sys2Proof.Machine.execEvrErase t tally crates s
  | .cal t tally => Sys2Proof.Machine.execCal t tally s
  | .selftest t tally failed => Sys2Proof.Machine.execSelftest t tally failed s
  | .install t tally ecc => Sys2Proof.Machine.execInstall t tally ecc s
  | .revoke t tally => Sys2Proof.Machine.execRevoke t tally s
  | .aes t tally ecc => Sys2Proof.Machine.execAes t tally ecc s
  | .advance t tally => Sys2Proof.Machine.execAdvance t tally s
  | .marginPlan t tally => Sys2Proof.Machine.execMarginPlan t tally s
  | .undefinedOperation t tally => Sys2Proof.Machine.execUndefinedOperation t tally s
  | .tallyCompletion t tally => Sys2Proof.Machine.execTallyCompletion t tally s
  | .tallyTimeout t tally => Sys2Proof.Machine.execTallyTimeout t tally s
  | .tlyCancel t => Sys2Proof.Machine.execTlyCancel t s
  | .tlyCqPop t => Sys2Proof.Machine.execTlyCqPop t s
  | .converterStart t k => Sys2Proof.Machine.execConverterStart t k s
  | .measurementSlot t ch m => Sys2Proof.Machine.execMeasurementSlot t ch m s
  | .leadSlot t ch vl m => Sys2Proof.Machine.execLeadSlot t ch vl m s
  | .excitationTestSlot t ch vmOff sexc dvm => Sys2Proof.Machine.execExcitationTestSlot t ch vmOff sexc dvm s
  | .supervisorCheckSlot t k safref term temp => Sys2Proof.Machine.execSupervisorCheckSlot t k safref term temp s
  | .staleFault t ch => Sys2Proof.Machine.execStaleFault t ch s
  | .scTest t => Sys2Proof.Machine.execScTest t s
  | .scFlip t => Sys2Proof.Machine.execScFlip t s
  | .calDue t k temp => Sys2Proof.Machine.execCalDue t k temp s
  | .calibrationStart t k => Sys2Proof.Machine.execCalibrationStart t k s
  | .calibrationComplete t k m => Sys2Proof.Machine.execCalibrationComplete t k m s
  | .calibrationTimeout t k => Sys2Proof.Machine.execCalibrationTimeout t k s
  | .calOverdue t k => Sys2Proof.Machine.execCalOverdue t k s
  | .dynSample t ch v0 v30 gerr oerr over30 clip cm => Sys2Proof.Machine.execDynSample t ch v0 v30 gerr oerr over30 clip cm s
  | .biasMonitor t ch volts vsx compliance => Sys2Proof.Machine.execBiasMonitor t ch volts vsx compliance s
  | .overallLevel t ch => Sys2Proof.Machine.execOverallLevel t ch s
  | .overallStale t ch => Sys2Proof.Machine.execOverallStale t ch s
  | .channelSettled t ch => Sys2Proof.Machine.execChannelSettled t ch s
  | .tachoEdge t ch => Sys2Proof.Machine.execTachoEdge t ch s
  | .tachoDeadline t ch => Sys2Proof.Machine.execTachoDeadline t ch s
  | .recordEnd t ch ecc => Sys2Proof.Machine.execRecordEnd t ch ecc s
  | .zoomRecordEnd t ch => Sys2Proof.Machine.execZoomRecordEnd t ch s
  | .planeCommit t plane errs ecc => Sys2Proof.Machine.execPlaneCommit t plane errs ecc s
  | .planeStale t plane => Sys2Proof.Machine.execPlaneStale t plane s
  | .planeCommitOverdue t plane => Sys2Proof.Machine.execPlaneCommitOverdue t plane s
  | .restart t => Sys2Proof.Machine.execRestart t s
  | .scrubNow t => Sys2Proof.Machine.execScrubNow t s
  | .scrubPassEnd t ecc => Sys2Proof.Machine.execScrubPassEnd t ecc s
  | .rowSpare t shelf ecc => Sys2Proof.Machine.execRowSpare t shelf ecc s
  | .wearMove t wear => Sys2Proof.Machine.execWearMove t wear s
  | .stoClrErr t => Sys2Proof.Machine.execStoClrErr t s
  | .noticeClear t => Sys2Proof.Machine.execNoticeClear t s
  | .scalarPass t vmain avdd vsx vbackup temp power reev ecc => Sys2Proof.Machine.execScalarPass t vmain avdd vsx vbackup temp power reev ecc s
  | .sweepStart t => Sys2Proof.Machine.execSweepStart t s
  | .planeEvaluation t reev ecc => Sys2Proof.Machine.execPlaneEvaluation t reev ecc s
  | .sweepEnd t conflict shelf => Sys2Proof.Machine.execSweepEnd t conflict shelf s
  | .pointWindowWrite t => Sys2Proof.Machine.execPointWindowWrite t s
  | .pointForce t => Sys2Proof.Machine.execPointForce t s
  | .pointForceRelease t => Sys2Proof.Machine.execPointForceRelease t s
  | .latchRelease t => Sys2Proof.Machine.execLatchRelease t s
  | .pointSimulate t => Sys2Proof.Machine.execPointSimulate t s
  | .simulationEnd t => Sys2Proof.Machine.execSimulationEnd t s
  | .spectralSimulation t => Sys2Proof.Machine.execSpectralSimulation t s
  | .classRelease t => Sys2Proof.Machine.execClassRelease t s
  | .pteClr t => Sys2Proof.Machine.execPteClr t s
  | .pointChange t ecc => Sys2Proof.Machine.execPointChange t ecc s
  | .acknowledgeEntry t => Sys2Proof.Machine.execAcknowledgeEntry t s
  | .acknowledgeGroup t => Sys2Proof.Machine.execAcknowledgeGroup t s
  | .acknowledgeAll t => Sys2Proof.Machine.execAcknowledgeAll t s
  | .resetEntry t => Sys2Proof.Machine.execResetEntry t s
  | .shelveEntry t => Sys2Proof.Machine.execShelveEntry t s
  | .unshelveEntry t => Sys2Proof.Machine.execUnshelveEntry t s
  | .takeOutOfService t => Sys2Proof.Machine.execTakeOutOfService t s
  | .returnToService t => Sys2Proof.Machine.execReturnToService t s
  | .acceptCall t => Sys2Proof.Machine.execAcceptCall t s
  | .armGroup t => Sys2Proof.Machine.execArmGroup t s
  | .alhCmdNone t => Sys2Proof.Machine.execAlhCmdNone t s
  | .modeChange t => Sys2Proof.Machine.execModeChange t s
  | .supModeRelease t entry => Sys2Proof.Machine.execSupModeRelease t entry s
  | .dutyChange t => Sys2Proof.Machine.execDutyChange t s
  | .shelveExpiry t slot => Sys2Proof.Machine.execShelveExpiry t slot s
  | .suppressionHoldEnd t entry => Sys2Proof.Machine.execSuppressionHoldEnd t entry s
  | .pendingDecided t entry => Sys2Proof.Machine.execPendingDecided t entry s
  | .firstOutFinal t group => Sys2Proof.Machine.execFirstOutFinal t group s
  | .rungDeadline t ladder => Sys2Proof.Machine.execRungDeadline t ladder s
  | .callRepeat t ladder => Sys2Proof.Machine.execCallRepeat t ladder s
  | .statusFrame t => Sys2Proof.Machine.execStatusFrame t s
  | .answerAccept t => Sys2Proof.Machine.execAnswerAccept t s
  | .answerAckEntry t => Sys2Proof.Machine.execAnswerAckEntry t s
  | .answerAckGroup t => Sys2Proof.Machine.execAnswerAckGroup t s
  | .answerAckCall t => Sys2Proof.Machine.execAnswerAckCall t s
  | .answerTakeDuty t => Sys2Proof.Machine.execAnswerTakeDuty t s
  | .answerResetEntry t => Sys2Proof.Machine.execAnswerResetEntry t s
  | .alhClr t => Sys2Proof.Machine.execAlhClr t s
  | .cyclicRelease t task => Sys2Proof.Machine.execCyclicRelease t task s
  | .eventRelease t task => Sys2Proof.Machine.execEventRelease t task s
  | .fbeEvTrig t => Sys2Proof.Machine.execFbeEvTrig t s
  | .cycleStart t ecc => Sys2Proof.Machine.execCycleStart t ecc s
  | .cycleCommit t => Sys2Proof.Machine.execCycleCommit t s
  | .forceSet t => Sys2Proof.Machine.execForceSet t s
  | .forceRelease t => Sys2Proof.Machine.execForceRelease t s
  | .forceReleaseAll t => Sys2Proof.Machine.execForceReleaseAll t s
  | .olcPrepared t => Sys2Proof.Machine.execOlcPrepared t s
  | .seam t => Sys2Proof.Machine.execSeam t s
  | .fbeClr t => Sys2Proof.Machine.execFbeClr t s
  | .evrTrigGo t => Sys2Proof.Machine.execEvrTrigGo t s
  | .crateCapture t ecc => Sys2Proof.Machine.execCrateCapture t ecc s
  | .crateWrite t => Sys2Proof.Machine.execCrateWrite t s
  | .lossMarker t => Sys2Proof.Machine.execLossMarker t s
  | .evrClr t => Sys2Proof.Machine.execEvrClr t s
  | .timebaseRecord t xratio => Sys2Proof.Machine.execTimebaseRecord t xratio s
  | .referenceStopped t => Sys2Proof.Machine.execReferenceStopped t s
  | .oscStop t => Sys2Proof.Machine.execOscStop t s
  | .tbsSet t => Sys2Proof.Machine.execTbsSet t s
  | .tbsAdjust t => Sys2Proof.Machine.execTbsAdjust t s
  | .tbsSetCal t => Sys2Proof.Machine.execTbsSetCal t s
  | .timeWriteApply t => Sys2Proof.Machine.execTimeWriteApply t s
  | .tbsHalt t => Sys2Proof.Machine.execTbsHalt t s
  | .trimWrite t => Sys2Proof.Machine.execTrimWrite t s
  | .alarmFire t b => Sys2Proof.Machine.execAlarmFire t b s
  | .periodicEvent t => Sys2Proof.Machine.execPeriodicEvent t s
  | .weekdayAdvance t => Sys2Proof.Machine.execWeekdayAdvance t s
  | .tcompUpdate t temp => Sys2Proof.Machine.execTcompUpdate t temp s
  | .calendarTop t => Sys2Proof.Machine.execCalendarTop t s
  | .downFrameA t ok => Sys2Proof.Machine.execDownFrameA t ok s
  | .upFrameA t ok seq rb => Sys2Proof.Machine.execUpFrameA t ok seq rb s
  | .linkALost t => Sys2Proof.Machine.execLinkALost t s
  | .islandADisarm t => Sys2Proof.Machine.execIslandADisarm t s
  | .diInputChange t ch mV rise fall => Sys2Proof.Machine.execDiInputChange t ch mV rise fall s
  | .debouncedEdge t ch => Sys2Proof.Machine.execDebouncedEdge t ch s
  | .wireBreak t ch => Sys2Proof.Machine.execWireBreak t ch s
  | .vfieldWarn t mV => Sys2Proof.Machine.execVfieldWarn t mV s
  | .vfieldOff t mV => Sys2Proof.Machine.execVfieldOff t mV s
  | .vf18 t mV => Sys2Proof.Machine.execVf18 t mV s
  | .outputTrip t line => Sys2Proof.Machine.execOutputTrip t line s
  | .rearm t => Sys2Proof.Machine.execRearm t s
  | .thrTest t => Sys2Proof.Machine.execThrTest t s
  | .doSet t => Sys2Proof.Machine.execDoSet t s
  | .dioClr t => Sys2Proof.Machine.execDioClr t s
  | .downFrameB t ok => Sys2Proof.Machine.execDownFrameB t ok s
  | .upFrameB t ok seq carrier temp rb hr => Sys2Proof.Machine.execUpFrameB t ok seq carrier temp rb hr s
  | .linkBLost t => Sys2Proof.Machine.execLinkBLost t s
  | .islandBFail t => Sys2Proof.Machine.execIslandBFail t s
  | .loopPowerChange t mV carries => Sys2Proof.Machine.execLoopPowerChange t mV carries s
  | .regulationStep t => Sys2Proof.Machine.execRegulationStep t s
  | .complianceSet t ch => Sys2Proof.Machine.execComplianceSet t ch s
  | .complianceClear t ch => Sys2Proof.Machine.execComplianceClear t ch s
  | .clrComp t => Sys2Proof.Machine.execClrComp t s
  | .loopSet t => Sys2Proof.Machine.execLoopSet t s
  | .txGo t => Sys2Proof.Machine.execTxGo t s
  | .fskTxStart t ch => Sys2Proof.Machine.execFskTxStart t ch s
  | .txDone t ch => Sys2Proof.Machine.execTxDone t ch s
  | .txAbort t => Sys2Proof.Machine.execTxAbort t s
  | .rxFrame t ch stamp chars => Sys2Proof.Machine.execRxFrame t ch stamp chars s
  | .rxRel t => Sys2Proof.Machine.execRxRel t s
  | .lpoClr t => Sys2Proof.Machine.execLpoClr t s
  | .canFrameReceived t port stamp frame => Sys2Proof.Machine.execCanFrameReceived t port stamp frame s
  | .canTxStart t port tdcv => Sys2Proof.Machine.execCanTxStart t port tdcv s
  | .canTxSuccess t port => Sys2Proof.Machine.execCanTxSuccess t port s
  | .arbitrationLost t port => Sys2Proof.Machine.execArbitrationLost t port s
  | .canError t port lec dphase field free extra => Sys2Proof.Machine.execCanError t port lec dphase field free extra s
  | .dominantTimeout t port => Sys2Proof.Machine.execDominantTimeout t port s
  | .send t => Sys2Proof.Machine.execSend t s
  | .cancel t => Sys2Proof.Machine.execCancel t s
  | .objRelease t => Sys2Proof.Machine.execObjRelease t s
  | .resume t => Sys2Proof.Machine.execResume t s
  | .recover t => Sys2Proof.Machine.execRecover t s
  | .recoveryComplete t port => Sys2Proof.Machine.execRecoveryComplete t port s
  | .sleep t => Sys2Proof.Machine.execSleep t s
  | .canWake t sign => Sys2Proof.Machine.execCanWake t sign s
  | .canClr t => Sys2Proof.Machine.execCanClr t s
  | .pmbRelease t => Sys2Proof.Machine.execPmbRelease t s
  | .replyTimeout t port object => Sys2Proof.Machine.execReplyTimeout t port object s
  | .timingApply t port => Sys2Proof.Machine.execTimingApply t port s
  | .put t => Sys2Proof.Machine.execPut t s
  | .update t => Sys2Proof.Machine.execUpdate t s
  | .full t => Sys2Proof.Machine.execFull t s
  | .copyFront t => Sys2Proof.Machine.execCopyFront t s
  | .passStart t => Sys2Proof.Machine.execPassStart t s
  | .lineWritten t => Sys2Proof.Machine.execLineWritten t s
  | .bandPass t => Sys2Proof.Machine.execBandPass t s
  | .blink t => Sys2Proof.Machine.execBlink t s
  | .idleCrcCheck t upsets shadowUpsets => Sys2Proof.Machine.execIdleCrcCheck t upsets shadowUpsets s
  | .panelRewrite t upsets => Sys2Proof.Machine.execPanelRewrite t upsets s
  | .rampAdvance t => Sys2Proof.Machine.execRampAdvance t s
  | .targetWrite t => Sys2Proof.Machine.execTargetWrite t s
  | .demandReplan t => Sys2Proof.Machine.execDemandReplan t s
  | .driverFault t => Sys2Proof.Machine.execDriverFault t s
  | .driverStop t => Sys2Proof.Machine.execDriverStop t s
  | .dstopRelease t => Sys2Proof.Machine.execDstopRelease t s
  | .stpiEdge t dirHigh => Sys2Proof.Machine.execStpiEdge t dirHigh s
  | .positionCommit t => Sys2Proof.Machine.execPositionCommit t s
  | .ackPos t => Sys2Proof.Machine.execAckPos t s
  | .setpos t => Sys2Proof.Machine.execSetpos t s
  | .rmpClr t => Sys2Proof.Machine.execRmpClr t s
  | .diagnosticFail t code detail => Sys2Proof.Machine.execDiagnosticFail t code detail s
  | .diagnosticClear t code detail => Sys2Proof.Machine.execDiagnosticClear t code detail s
  | .safetyDemand t low => Sys2Proof.Machine.execSafetyDemand t low s
  | .demandClear t high => Sys2Proof.Machine.execDemandClear t high s
  | .safRelease t => Sys2Proof.Machine.execSafRelease t s
  | .alertClr t => Sys2Proof.Machine.execAlertClr t s
  | .safEnter t => Sys2Proof.Machine.execSafEnter t s
  | .autoSelftest t failed => Sys2Proof.Machine.execAutoSelftest t failed s
  | .stDue t => Sys2Proof.Machine.execStDue t s
  | .monitorPass t m => Sys2Proof.Machine.execMonitorPass t m s
  | .planDue t => Sys2Proof.Machine.execPlanDue t s
  | .plan t => Sys2Proof.Machine.execPlan t s
  | .offsetStepSettled t completion => Sys2Proof.Machine.execOffsetStepSettled t completion s
  | .resetOfs t => Sys2Proof.Machine.execResetOfs t s
  | .reqRun t => Sys2Proof.Machine.execReqRun t s
  | .reqLean t => Sys2Proof.Machine.execReqLean t s
  | .reqDormant t => Sys2Proof.Machine.execReqDormant t s
  | .dormantEntry t => Sys2Proof.Machine.execDormantEntry t s
  | .wakeFromDormant t => Sys2Proof.Machine.execWakeFromDormant t s
  | .tamperEvent t input live => Sys2Proof.Machine.execTamperEvent t input live s
  | .challenge t => Sys2Proof.Machine.execChallenge t s
  | .sessionOpen t => Sys2Proof.Machine.execSessionOpen t s
  | .sessionDecision t => Sys2Proof.Machine.execSessionDecision t s
  | .sessionClose t => Sys2Proof.Machine.execSessionClose t s
  | .sessionExpiry t => Sys2Proof.Machine.execSessionExpiry t s
  | .lockoutEnd t => Sys2Proof.Machine.execLockoutEnd t s
  | .nonceExpiry t => Sys2Proof.Machine.execNonceExpiry t s
  | .tdenRising t => Sys2Proof.Machine.execTdenRising t s
  | .trapdoorSessionEnd t => Sys2Proof.Machine.execTrapdoorSessionEnd t s
  | .secAlertClr t => Sys2Proof.Machine.execSecAlertClr t s
  | .fbeHalt t => Sys2Proof.Machine.execFbeHalt t s
  | .debugStep t => Sys2Proof.Machine.execDebugStep t s
  | .linkGo t => Sys2Proof.Machine.execLinkGo t s
  | .linkTestStart t => Sys2Proof.Machine.execLinkTestStart t s
  | .linkStop t sent flips => Sys2Proof.Machine.execLinkStop t sent flips s
  | .linkTestEnd t sent flips => Sys2Proof.Machine.execLinkTestEnd t sent flips s
  | .ins1 t sent flips => Sys2Proof.Machine.execIns1 t sent flips s
  | .lnkClr t => Sys2Proof.Machine.execLnkClr t s
  | .hbufWrite t => Sys2Proof.Machine.execHbufWrite t s
  | .hbufRead t port addr n => Sys2Proof.Machine.execHbufRead t port addr n s
  | .referenceReturn t => Sys2Proof.Machine.execReferenceReturn t s
  | .x32Restart t => Sys2Proof.Machine.execX32Restart t s
  | .dfltRelease t => Sys2Proof.Machine.execDfltRelease t s
  | .integrationComplete t port => Sys2Proof.Machine.execIntegrationComplete t port s
  | .vfieldRise t mV => Sys2Proof.Machine.execVfieldRise t mV s
  | .islandSelfCheckFail t => Sys2Proof.Machine.execIslandSelfCheckFail t s
  | .pcomEdge t => Sys2Proof.Machine.execPcomEdge t s

end Sys2Proof.Machine
end

