-- ==== Sys2Proof/Machine/Balls.lean ====
section
/-! DEFINITION. The levels of the output balls that carry the node's state outward (Table 02-3): they follow from the state and are not
stored. Loop currents and DO lines stand in their own chapters' files. -/

namespace Sys2Proof.Machine

open Sys2Proof

/-- The level of an output ball: high impedance, low, high, or a wave: a square wave, a pattern, the clock and the data of a transfer. -/
inductive BallLevel where
  | highZ
  | low
  | high
  | wave
deriving DecidableEq, Repr

/-- RDY_N is low (R34, R40). -/
def State.rdyLow (s : State) : Bool := s.ready
/-- HIRQ_N is low (R92). -/
def State.hirqLow (s : State) : Bool := s.portDriven && s.hirq
/-- HALERT_N is low (R469, R502). -/
def State.halertLow (s : State) : Bool := s.portDriven && s.halert
/-- SAFEA is high and SAFEB carries its wave: from step 7 of R34 on, while the safe state is released and SAF has power (R458). -/
def State.safeReleased (s : State) : Bool := (s.ready || decide (s.pwr.mode = .locked)) && !s.fb P.SAF R.SAF_STAT_safe
/-- SAFEA is high while the safe state is released, SAFEB carries 1 kHz; both are low in it, and while SAF has no power (R458, R47). -/
def State.safeaLevel (s : State) : BallLevel := if s.safeReleased then .high else .low
def State.safebLevel (s : State) : BallLevel := if s.safeReleased then .wave else .low
/-- DREN is high; after PFW_N it holds until COR loses power (R452). -/
def State.drenHigh (s : State) : Bool := (s.corOn || decide (s.pwr.mode = .locked)) && s.fb P.RMP R.RMP_STAT_dren
/-- PVEN and PDISP are high (R436, R437). -/
def State.pvenHigh (s : State) : Bool := (s.corOn || decide (s.pwr.mode = .locked)) && s.pnl.pven
def State.pdispHigh (s : State) : Bool := s.pvenHigh && s.pnl.pdisp

/-- COR has power (Table 17-1). -/
def State.corPowered (s : State) : Bool := s.corOn || decide (s.pwr.mode = .locked)

/-- A transfer is in progress (R425). -/
def State.pnlTransfers (s : State) : Bool :=
  s.pnlOn && decide (s.pnl.lineFrom ≤ s.now) && (s.pnl.clearing || s.pnl.pass.isSome)

/-- PCS: high through a transfer, else low. -/
def State.pcsLevel (s : State) : BallLevel := if !s.corPowered then .highZ else if s.pnlTransfers then .high else .low
/-- PSCK, PSI0 and PSI1: low while idle (R436: from PFW_N on). -/
def State.psckLevel (s : State) : BallLevel := if !s.corPowered then .highZ else if s.pnlTransfers then .wave else .low
def State.psiLevel (s : State) : BallLevel := s.psckLevel
/-- PCOM (R428, R436). -/
def State.pcomLevel (s : State) : BallLevel := if !s.corPowered then .highZ else if s.pnl.pcom then .high else .low
/-- STPO (R448): high for 2 + w reference cycles from the leading edge of each pulse, low with step_en = 0; a link test's pattern (R517). -/
def State.stpoLevel (s : State) : BallLevel :=
  let high (e : RmpEdge) : Bool := s.rmpEdgeDue e && decide (s.now * 125 < ((e.due + 500) / 1000 + 2 + Nat.log2 e.delta.natAbs) * 128)
  if !s.corPowered then .highZ
  else if s.linkTest 10 then .wave
  else if s.corOn && s.fb P.RMP R.RMP_OUT_step_en && (s.rmp.edges.any high || s.rmp.out.any high) then .high
  else .low
/-- DIRO: high for positive motion (R443); the inverse of a link test's pattern (R517). -/
def State.diroLevel (s : State) : BallLevel :=
  if !s.corPowered then .highZ else if s.linkTest 10 then .wave else if s.diroHigh then .high else .low
/-- TDSO is high while a trapdoor session is open (R499). -/
def State.tdsoHigh (s : State) : Bool := s.corOn && decide (s.level .trapdoor ≠ 0)

end Sys2Proof.Machine
end

