-- ==== Sys2Proof/Safety.lean ====
section
/-! DEFINITION. The terms of the claims: the invariant of the node, what waits at the front of the write queue, and when a page takes it. -/

namespace Sys2Proof.Machine

open Sys2Proof

/-! ### The invariant -/

/-- No clamp ring holds more than 8 entries (R87). -/
def State.ringsBounded (s : State) : Prop := ∀ r ∈ s.rings, r.entries.length ≤ 8

/-- At most 64 tallies are outstanding, and with the queued completions at most 256 (R96). -/
def State.talliesBounded (s : State) : Prop := s.tly.out.length ≤ 64 ∧ s.tly.out.length + s.tly.cq.length ≤ 256

/-- A poisoned word is a 64-bit word of the storeroom (R228). -/
def State.poisonAligned (s : State) : Prop := ∀ a ∈ s.poisoned, a % 8 = 0

/-- What every step keeps: the storeroom's list in canonical form; the registers in force and the staged copies listed once each, in
rising order; every ring and queue within the depth that the spec gives it (R87, R75, R89, R96, R332); poison by 64-bit words (R228). -/
structure State.Inv (s : State) : Prop where
  mem : Memory.wf s.mem
  regs : SMap.rising 0 s.regs = true
  staged : SMap.rising 0 s.staged = true
  rings : s.ringsBounded
  queue : s.queue.length ≤ 16
  group : s.group.length ≤ 64
  tallies : s.talliesBounded
  triggers : s.evr.queue.length ≤ 4096
  poison : s.poisonAligned

/-- The least value at which the timebase may resume (R31, R348): where it stopped, and nothing before the first cellar start. -/
def State.clockFloor (s : State) : Nat :=
  if s.pwr.mode = .locked then s.now else if s.tbs.record.isNone then 0 else s.pwr.stopAt

/-- The least value of the timebase after a command: in OFF and BACKUP nothing shows it, and a start-up takes it up where it stopped or
later (R31, R348). -/
def State.timeFloor (s : State) : Instr → Nat
  | .startUp .. => if s.pwr.mode = .off ∨ s.pwr.mode = .backup then Nat.min s.now s.clockFloor else s.now
  | _ => s.now

/-! ### What a command leaves -/

/-- The parts of the machine's state. -/
inductive Part where
  | now | pending | free | regs | staged | group | rings | sealedPages | queue | host | trap | mem | poisoned | pwr | tly | sac | dyn |
  spx | sto | pte | alh | fbe | evr | tbs | dio | lpo | can | pnl | rmp | saf | age | sec | lnk
deriving DecidableEq, Repr

/-- A part stands in `t` as in `s`. -/
def State.same (s t : State) : Part → Prop
  | .now => t.now = s.now
  | .pending => t.pending = s.pending
  | .free => t.free = s.free
  | .regs => t.regs = s.regs
  | .staged => t.staged = s.staged
  | .group => t.group = s.group
  | .rings => t.rings = s.rings
  | .sealedPages => t.sealedPages = s.sealedPages
  | .queue => t.queue = s.queue
  | .host => t.host = s.host
  | .trap => t.trap = s.trap
  | .mem => t.mem = s.mem
  | .poisoned => t.poisoned = s.poisoned
  | .pwr => t.pwr = s.pwr
  | .tly => t.tly = s.tly
  | .sac => t.sac = s.sac
  | .dyn => t.dyn = s.dyn
  | .spx => t.spx = s.spx
  | .sto => t.sto = s.sto
  | .pte => t.pte = s.pte
  | .alh => t.alh = s.alh
  | .fbe => t.fbe = s.fbe
  | .evr => t.evr = s.evr
  | .tbs => t.tbs = s.tbs
  | .dio => t.dio = s.dio
  | .lpo => t.lpo = s.lpo
  | .can => t.can = s.can
  | .pnl => t.pnl = s.pnl
  | .rmp => t.rmp = s.rmp
  | .saf => t.saf = s.saf
  | .age => t.age = s.age
  | .sec => t.sec = s.sec
  | .lnk => t.lnk = s.lnk

/-- A command answers a next state, in which every part but those listed stands as before. -/
def State.movesOnly (s : State) (ps : List Part) (o : Host.Outcome State Fault Refusal) : Prop :=
  ∃ t, o = .next t ∧ ∀ p, p ∉ ps → s.same t p

/-- What every command of the write queue may change: the registers and the staged copies, the clamp rings, what the ports show, the queue
itself, and the storeroom only where another frame waits (aperture frames that come to the front take effect, R75). -/
def State.wordParts (s : State) : List Part :=
  [.regs, .staged, .rings, .queue, .host, .trap, .evr, .lnk] ++ (if s.queue.length ≤ 1 then [] else [.mem, .poisoned])

/-- The parts that a command may change beyond time. -/
def State.changes (s : State) : Instr → List Part
  | .startUp .. =>
    [.free, .regs, .rings, .queue, .host, .trap, .mem, .poisoned, .pwr, .tly, .sac, .dyn, .spx, .sto, .pte, .alh, .fbe, .evr, .dio,
    .lpo, .can, .pnl, .rmp, .saf, .age, .sec, .lnk]
  | .pfwHoldRelease .. =>
    [.free, .regs, .rings, .host, .trap, .mem, .poisoned, .pwr, .tly, .sac, .dyn, .spx, .pte, .alh, .fbe, .evr, .can, .rmp, .saf,
    .age]
  | .powerFailWarning .. =>
    [.free, .regs, .staged, .group, .rings, .queue, .host, .trap, .mem, .poisoned, .pwr, .tly, .sac, .dyn, .spx, .sto, .pte, .alh,
    .fbe, .evr, .dio, .lpo, .can, .pnl, .rmp, .saf, .age, .sec, .lnk]
  | .pfwWithdrawn .. =>
    [.free, .regs, .rings, .queue, .host, .trap, .mem, .poisoned, .pwr, .tly, .sac, .dyn, .spx, .sto, .pte, .alh, .fbe, .evr, .dio,
    .lpo, .can, .pnl, .rmp, .saf, .age, .sec, .lnk]
  | .unwarnedLoss .. =>
    [.free, .regs, .queue, .host, .trap, .mem, .poisoned, .pwr, .tly, .sac, .sto, .pte, .fbe, .evr, .pnl, .rmp, .age, .lnk]
  | .avddLost .. => [.free, .regs, .mem, .poisoned, .pwr, .sac, .dyn, .pte]
  | .avddRestored .. => [.free, .regs, .mem, .poisoned, .pwr, .dyn, .pte]
  | .cellarStop .. => [.pwr]
  | .rd1 .. => [.regs, .rings, .host, .trap, .mem, .poisoned, .tly, .sto, .sec, .lnk]
  | .rd4 .. => [.regs, .rings, .host, .trap, .mem, .poisoned, .tly, .sto, .lnk]
  | .wr1 .. => [.regs, .queue, .host, .trap, .mem, .poisoned, .sto, .sec]
  | .wr4 .. => [.regs, .queue, .host, .trap, .mem, .poisoned, .sto]
  | .stat .. => [.regs, .host, .trap, .sec]
  | .hrst .. => [.host, .trap]
  | .undefinedOpcode .. => [.regs, .sec]
  | .frameAbort .. => [.regs, .queue, .host, .trap, .mem, .poisoned, .sto, .sec]
  | .heldReadComplete .. => [.regs, .host, .trap, .poisoned, .sto, .lnk]
  | .registerWrite .. =>
    [.free, .regs, .staged, .group, .rings, .queue, .host, .trap, .mem, .poisoned, .pwr, .tly, .sac, .dyn, .spx, .sto, .pte, .alh,
    .fbe, .evr, .dio, .lpo, .can, .pnl, .rmp, .saf, .age, .sec, .lnk]
  | .commit .. =>
    s.wordParts ++ [.free, .group, .mem, .poisoned, .tly, .sac, .dyn, .spx, .sto, .pte, .alh, .fbe, .tbs, .dio, .lpo, .can, .pnl,
    .rmp, .saf]
  | .discard .. => s.wordParts ++ [.group]
  | .lock .. | .unlock .. => s.wordParts
  | .join .. => s.wordParts ++ [.group]
  | .clampNext .. | .clampFlush .. | .pgIrqSet .. => s.wordParts
  | .hpiClrErr .. | .gcGo .. | .gcAbandon .. =>
    s.wordParts ++ [.free, .group, .mem, .poisoned, .tly, .sac, .dyn, .spx, .sto, .pte, .alh, .fbe, .tbs, .dio, .lpo, .can, .pnl,
    .rmp, .saf]
  | .tlyGo .. => [.regs, .rings, .host, .trap, .mem, .poisoned, .tly, .sto, .sec, .lnk]
  | .tallyLaunch .. => [.regs, .rings, .host, .trap, .mem, .poisoned, .tly]
  | .tallyStart .. => [.regs, .tly]
  | .nop .. => [.tly]
  | .stoCopy .. => [.regs, .mem, .poisoned, .tly, .sto]
  | .stoFill .. => [.mem, .poisoned, .tly]
  | .stoVerify .. => [.regs, .poisoned, .tly, .sto]
  | .stoRekey .. => [.free, .regs, .poisoned, .tly, .sto, .pte]
  | .baseLearn .. => [.tly]
  | .limDerive .. => [.free, .regs, .mem, .poisoned, .tly, .sto, .pte]
  | .imgLoadProgram .. => [.regs, .mem, .poisoned, .tly, .sto, .fbe]
  | .imgLoadConfig .. =>
    [.free, .regs, .staged, .group, .rings, .host, .trap, .mem, .poisoned, .pwr, .tly, .sac, .dyn, .spx, .sto, .pte, .alh, .fbe,
    .evr, .dio, .lpo, .can, .pnl, .rmp, .saf, .age, .sec, .lnk]
  | .imgLoadAlarmTable .. => [.free, .regs, .rings, .host, .trap, .mem, .poisoned, .tly, .sto, .pte, .alh, .fbe, .evr, .can, .rmp, .saf]
  | .olc .. => [.regs, .tly, .fbe]
  | .evrErase .. => [.regs, .mem, .poisoned, .tly, .evr]
  | .cal .. => [.free, .regs, .mem, .poisoned, .tly, .sac, .pte]
  | .selftest .. => [.regs, .rings, .host, .trap, .tly, .evr, .rmp, .saf]
  | .install .. => [.regs, .poisoned, .tly, .sto, .sec]
  | .revoke .. => [.regs, .tly, .sec]
  | .aes .. => [.regs, .mem, .poisoned, .tly, .sto, .sec]
  | .advance .. =>
    [.free, .regs, .rings, .sealedPages, .host, .trap, .mem, .poisoned, .tly, .sac, .dyn, .pte, .alh, .fbe, .evr, .dio, .lpo, .can,
    .pnl, .rmp, .saf, .sec]
  | .marginPlan .. => [.regs, .tly, .sto, .evr, .age]
  | .undefinedOperation .. => [.tly]
  | .tallyCompletion .. => [.regs, .tly]
  | .tallyTimeout .. => [.free, .regs, .mem, .poisoned, .tly, .sac, .sto, .pte, .fbe, .evr, .age]
  | .tlyCancel .. | .tlyCqPop .. => s.wordParts ++ [.free, .mem, .poisoned, .tly, .sac, .sto, .pte, .fbe, .age]
  | .converterStart .. | .measurementSlot .. | .leadSlot .. | .excitationTestSlot .. => [.free, .regs, .mem, .poisoned, .sac, .pte]
  | .supervisorCheckSlot .. => [.free, .regs, .mem, .poisoned, .sac, .pte, .saf]
  | .staleFault .. => [.free, .regs, .mem, .poisoned, .sac, .pte]
  | .scTest .. | .scFlip .. => s.wordParts ++ [.sac]
  | .calDue .. => [.regs, .sac]
  | .calibrationStart .. => [.free, .regs, .mem, .poisoned, .sac, .pte]
  | .calibrationComplete .. | .calibrationTimeout .. => [.free, .regs, .mem, .poisoned, .tly, .sac, .pte]
  | .calOverdue .. => [.regs]
  | .dynSample .. => [.free, .regs, .mem, .poisoned, .dyn, .spx, .pte]
  | .biasMonitor .. | .overallLevel .. | .overallStale .. | .channelSettled .. | .tachoEdge .. | .tachoDeadline .. =>
    [.free, .regs, .mem, .poisoned, .dyn, .pte]
  | .recordEnd .. => [.regs, .poisoned, .dyn, .spx, .sto]
  | .zoomRecordEnd .. => [.regs, .spx]
  | .planeCommit .. => [.free, .regs, .mem, .poisoned, .tly, .spx, .sto, .pte]
  | .planeStale .. | .planeCommitOverdue .. => [.free, .regs, .pte]
  | .restart .. => s.wordParts ++ [.spx]
  | .scrubNow .. => s.wordParts ++ [.sto]
  | .scrubPassEnd .. | .rowSpare .. => [.regs, .poisoned, .sto]
  | .wearMove .. => [.regs]
  | .stoClrErr .. => s.wordParts ++ [.sto]
  | .noticeClear .. => [.regs]
  | .scalarPass .. => [.free, .regs, .mem, .poisoned, .sto, .pte]
  | .sweepStart .. => [.regs, .pte]
  | .planeEvaluation .. => [.free, .regs, .mem, .poisoned, .tly, .spx, .sto, .pte]
  | .sweepEnd .. => [.free, .regs, .mem, .poisoned, .sto, .pte, .evr]
  | .pointWindowWrite .. | .pointForce .. | .pointForceRelease .. | .latchRelease .. | .pointSimulate .. | .simulationEnd .. =>
    [.free, .regs, .rings, .queue, .host, .trap, .mem, .poisoned, .pte]
  | .spectralSimulation .. => s.wordParts ++ [.free, .pte]
  | .classRelease .. => s.wordParts ++ [.free, .mem, .poisoned, .pte]
  | .pteClr .. => s.wordParts ++ [.free, .pte]
  | .pointChange .. => [.free, .regs, .rings, .host, .trap, .mem, .poisoned, .sto, .pte, .alh, .fbe, .evr, .can, .rmp, .saf]
  | .acknowledgeEntry .. | .acknowledgeGroup .. | .acknowledgeAll .. | .resetEntry .. | .shelveEntry .. | .unshelveEntry ..
  | .takeOutOfService .. | .returnToService .. | .acceptCall .. | .armGroup .. | .alhCmdNone .. | .modeChange .. =>
    s.wordParts ++ [.free, .mem, .poisoned, .pte, .alh, .fbe, .can, .rmp, .saf]
  | .supModeRelease .. => [.free, .regs, .rings, .host, .trap, .mem, .poisoned, .pte, .alh, .evr, .can, .rmp, .saf]
  | .dutyChange .. => s.wordParts ++ [.free, .mem, .poisoned, .pte, .alh, .fbe, .can, .rmp, .saf]
  | .shelveExpiry .. | .suppressionHoldEnd .. | .pendingDecided .. =>
    [.free, .regs, .rings, .host, .trap, .mem, .poisoned, .pte, .alh, .evr, .can, .rmp, .saf]
  | .firstOutFinal .. => [.alh]
  | .rungDeadline .. => [.free, .regs, .rings, .host, .trap, .mem, .poisoned, .pte, .alh, .fbe, .evr, .can, .rmp, .saf]
  | .callRepeat .. | .statusFrame .. => [.regs, .alh, .can]
  | .answerAccept .. | .answerAckEntry .. | .answerAckGroup .. | .answerAckCall .. | .answerTakeDuty .. | .answerResetEntry .. =>
    [.free, .regs, .rings, .host, .trap, .mem, .poisoned, .pte, .alh, .fbe, .evr, .can, .rmp, .saf]
  | .alhClr .. => s.wordParts ++ [.free, .mem, .poisoned, .pte, .alh, .fbe, .can, .rmp, .saf]
  | .cyclicRelease .. => [.regs, .rings, .host, .trap, .fbe, .evr, .rmp, .saf]
  | .eventRelease .. => [.regs, .fbe, .saf]
  | .fbeEvTrig .. => s.wordParts ++ [.free, .mem, .poisoned, .pte, .fbe, .dio, .lpo, .rmp]
  | .cycleStart .. => [.free, .regs, .rings, .host, .trap, .mem, .poisoned, .sto, .pte, .fbe, .evr, .dio, .lpo, .rmp]
  | .cycleCommit .. => [.free, .regs, .rings, .host, .trap, .mem, .poisoned, .pte, .alh, .fbe, .evr, .dio, .lpo, .can, .rmp, .saf]
  | .forceSet .. | .forceRelease .. | .forceReleaseAll .. => s.wordParts ++ [.free, .mem, .poisoned, .pte, .fbe, .dio, .lpo, .rmp]
  | .olcPrepared .. => [.regs, .mem, .poisoned, .tly, .fbe]
  | .seam .. => [.free, .regs, .rings, .host, .trap, .mem, .poisoned, .tly, .pte, .fbe, .evr, .dio, .lpo, .rmp]
  | .fbeClr .. => s.wordParts ++ [.free, .mem, .poisoned, .pte, .fbe, .dio, .lpo, .rmp]
  | .evrTrigGo .. => s.wordParts
  | .crateCapture .. => [.regs, .poisoned, .sto, .evr, .lnk]
  | .crateWrite .. | .lossMarker .. => [.regs, .mem, .poisoned, .evr]
  | .evrClr .. => s.wordParts
  | .timebaseRecord .. => [.regs]
  | .referenceStopped .. => []
  | .oscStop .. => [.regs]
  | .tbsSet .. | .tbsAdjust .. | .tbsSetCal .. => s.wordParts ++ [.tbs]
  | .timeWriteApply .. => [.regs, .rings, .host, .trap, .pwr, .age]
  | .tbsHalt .. | .trimWrite .. => s.wordParts ++ [.tbs]
  | .alarmFire .. => [.regs, .pwr]
  | .periodicEvent .. | .weekdayAdvance .. | .tcompUpdate .. | .calendarTop .. => [.regs]
  | .downFrameA .. => [.dio]
  | .upFrameA .. => [.free, .regs, .rings, .host, .trap, .mem, .poisoned, .pwr, .pte, .alh, .fbe, .evr, .dio, .can, .rmp, .saf]
  | .linkALost .. => [.free, .regs, .mem, .poisoned, .pte, .dio]
  | .islandADisarm .. | .diInputChange .. | .debouncedEdge .. | .wireBreak .. | .vfieldWarn .. | .vfieldOff .. | .vf18 ..
  | .outputTrip .. => [.dio]
  | .rearm .. | .thrTest .. | .doSet .. | .dioClr .. => s.wordParts ++ [.dio]
  | .downFrameB .. => [.lpo]
  | .upFrameB .. => [.regs, .pwr, .lpo, .saf]
  | .linkBLost .. => [.free, .regs, .mem, .poisoned, .pte, .lpo]
  | .islandBFail .. => [.regs, .lpo]
  | .loopPowerChange .. => [.lpo, .saf]
  | .regulationStep .. => [.regs, .lpo, .saf]
  | .complianceSet .. | .complianceClear .. => [.regs]
  | .clrComp .. | .loopSet .. | .txGo .. => s.wordParts ++ [.lpo]
  | .fskTxStart .. => [.lpo]
  | .txDone .. => [.regs, .lpo]
  | .txAbort .. => s.wordParts ++ [.lpo]
  | .rxFrame .. => [.regs, .pwr, .lpo]
  | .rxRel .. => s.wordParts ++ [.lpo]
  | .lpoClr .. => s.wordParts
  | .canFrameReceived .. => [.free, .regs, .alh, .fbe, .can]
  | .canTxStart .. => [.regs, .can]
  | .canTxSuccess .. => [.free, .regs, .can]
  | .arbitrationLost .. | .canError .. | .dominantTimeout .. => [.regs, .can]
  | .send .. | .cancel .. | .objRelease .. | .resume .. | .recover .. => s.wordParts ++ [.can]
  | .recoveryComplete .. => [.regs, .can]
  | .sleep .. => s.wordParts ++ [.can]
  | .canWake .. => [.regs, .pwr]
  | .canClr .. | .pmbRelease .. => s.wordParts ++ [.can]
  | .replyTimeout .. | .timingApply .. => [.regs, .can]
  | .put .. | .update .. | .full .. | .copyFront .. => s.wordParts ++ [.pnl]
  | .passStart .. | .lineWritten .. | .bandPass .. | .blink .. | .idleCrcCheck .. | .panelRewrite .. => [.regs, .pnl]
  | .rampAdvance .. => [.regs, .rings, .host, .trap, .rmp]
  | .targetWrite .. => s.wordParts ++ [.rmp]
  | .demandReplan .. => [.regs, .rings, .host, .trap, .rmp]
  | .driverFault .. => [.regs, .rmp]
  | .driverStop .. | .dstopRelease .. | .stpiEdge .. => [.regs, .rings, .host, .trap, .rmp]
  | .positionCommit .. => [.rmp]
  | .ackPos .. | .setpos .. | .rmpClr .. => s.wordParts ++ [.rmp]
  | .diagnosticFail .. => [.free, .regs, .rings, .host, .trap, .mem, .poisoned, .sac, .pte, .evr, .rmp, .saf]
  | .diagnosticClear .. => [.free, .regs, .mem, .poisoned, .sac, .pte, .saf]
  | .safetyDemand .. => [.regs, .rings, .host, .trap, .evr, .rmp, .saf]
  | .demandClear .. => [.regs, .saf]
  | .safRelease .. | .alertClr .. | .safEnter .. => s.wordParts ++ [.rmp, .saf]
  | .autoSelftest .. => [.regs, .rings, .host, .trap, .evr, .rmp, .saf]
  | .stDue .. => [.regs]
  | .monitorPass .. => [.free, .regs, .mem, .poisoned, .pte, .age]
  | .planDue .. => [.age]
  | .plan .. => [.regs, .tly, .sto, .evr, .age]
  | .offsetStepSettled .. => [.free, .regs, .mem, .poisoned, .tly, .sto, .pte, .evr, .age]
  | .resetOfs .. => s.wordParts
  | .reqRun .. | .reqLean .. | .reqDormant .. => s.wordParts ++ [.free, .mem, .poisoned, .pwr, .sac, .dyn, .spx, .pte, .pnl, .rmp]
  | .dormantEntry .. =>
    [.free, .regs, .rings, .host, .trap, .mem, .poisoned, .pwr, .tly, .sac, .dyn, .spx, .pte, .dio, .can, .pnl, .rmp, .age]
  | .wakeFromDormant .. =>
    [.free, .regs, .rings, .host, .trap, .mem, .poisoned, .pwr, .tly, .sac, .dyn, .spx, .pte, .alh, .fbe, .evr, .can, .pnl, .rmp,
    .saf, .age]
  | .tamperEvent .. => [.regs, .pwr, .sec]
  | .challenge .. | .sessionOpen .. => s.wordParts ++ [.free, .sec]
  | .sessionDecision .. => [.regs, .sec]
  | .sessionClose .. => s.wordParts ++ [.free, .sec]
  | .sessionExpiry .. | .lockoutEnd .. => [.regs]
  | .nonceExpiry .. => [.sec]
  | .tdenRising .. => [.regs, .pwr, .sec]
  | .trapdoorSessionEnd .. => [.regs]
  | .secAlertClr .. => s.wordParts ++ [.free, .sec]
  | .fbeHalt .. | .debugStep .. => s.wordParts ++ [.fbe, .saf]
  | .linkGo .. => s.wordParts ++ [.free, .mem, .poisoned, .sac, .dyn, .pte, .pnl, .rmp]
  | .linkTestStart .. => [.free, .regs, .mem, .poisoned, .sac, .spx, .pte, .can, .rmp, .lnk]
  | .linkStop .. => s.wordParts ++ [.free, .mem, .poisoned, .sac, .dyn, .pte, .pnl, .rmp]
  | .linkTestEnd .. => [.free, .regs, .rings, .host, .trap, .mem, .poisoned, .sac, .dyn, .pte, .pnl, .rmp, .lnk]
  | .ins1 .. | .lnkClr .. | .hbufWrite .. => s.wordParts ++ [.free, .mem, .poisoned, .sac, .dyn, .pte, .pnl, .rmp]
  | .hbufRead .. => [.regs, .rings, .host, .trap, .mem, .poisoned, .tly, .sto, .sec, .lnk]
  | .referenceReturn .. => [.saf]
  | .x32Restart .. => [.regs]
  | .dfltRelease .. => [.regs, .rings, .host, .trap, .rmp]
  | .integrationComplete .. => [.regs]
  | .vfieldRise .. | .islandSelfCheckFail .. => [.dio]
  | .pcomEdge .. => [.pnl]

/-- The parts that a command may change: time with its timebase, and its own. -/
def State.mayChange (s : State) (c : Instr) : List Part := [.now, .tbs] ++ s.changes c

/-! ### Words that wait -/

/-- The word at the front need not wait: its write touches no point at which PTE waits, and the change queue has room for what it brings
(R249, R254). -/
def State.goes (s : State) (p : Port) (a : Nat) (v : Word) : Prop :=
  ∀ sent flips, s.touchesStalled (s.writeWord p a v sent flips).popWord = false ∧ s.overfills (s.writeWord p a v sent flips).popWord = false

/-- A register word takes effect next (R75): the node is in service, the word `v` of port `p` for address `a` is at the front of the
write queue, `a` lies `off` bytes into the page of kind `k` and instance `i`, the port may write it (R12, R499, R500), and the word need
not wait (R249, R254). -/
def State.takes (s : State) (p : Port) (a : Nat) (v : Word) (k : Kind) (i off : Nat) : Prop :=
  s.ready = true ∧ s.frontWord = some (p, a, v) ∧ pageAt a = some (k, i) ∧ a % 0x1000 = off ∧ s.mayWrite p k a = true ∧ s.goes p a v

/-- The same for a word that its port may not write. -/
def State.refuses (s : State) (p : Port) (a : Nat) (v : Word) (k : Kind) (i : Nat) : Prop :=
  s.ready = true ∧ s.frontWord = some (p, a, v) ∧ pageAt a = some (k, i) ∧ s.mayWrite p k a = false ∧ s.goes p a v

/-- The fields of a word are stored, and what is stored otherwise than written is recorded (R12, R13, R84, R86). -/
def State.stored (s : State) (p : Port) (a : Nat) (v : Word) (k : Kind) (i : Nat) : State :=
  s.storeWord p k i (pageBase a) (a % 0x1000) (s.mayStore p (pageBase a)) v

end Sys2Proof.Machine
end

