-- ==== Sys2Proof/Certificates/Slice0/Obligations.lean ====
section
/-! DEFINITION. The statements for the provers: what reset leaves, what every step keeps and leaves alone, the rules of pages, tallies and
the storeroom, and the completion of every command with the state that the rules give it. -/

open Sys2Proof Sys2Proof.Machine

/-- A step takes the command at the front of the queue and carries it out on the state with the queue's rest (the model's form, log entry
60). -/
def Obligations.StepRunsFrontCommand : Prop :=
  ∀ (s : State) (c : Instr) (rest : List Instr), step { s with pending := c :: rest } = exec c { s with pending := rest }

/-- The model's choice (log entry 1): with no command waiting a step changes nothing. -/
def Obligations.EmptyQueueIdles : Prop :=
  ∀ (s : State), s.pending = [] → step s = .next s

/-- The invariant holds after reset: no ring or queue is beyond its depth (R75, R87, R89, R96, R332), and the lists are in canonical form.
-/
def Obligations.ResetMeetsInv : Prop := State.reset.Inv

/-- Every step keeps the invariant: no clamp ring beyond 8 entries (R87), no write queue beyond 16 frames (R75), no group beyond 64 pages
(R89), no more than 64 tallies, 256 with the completions (R96), no trigger queue beyond 4096 (R332), poison by words of 64 bits (R228), and
the storeroom, the registers and the staged copies in canonical form. -/
def Obligations.StepKeepsInv : Prop :=
  ∀ (s t : State), s.Inv → step s = .next t → t.Inv

/-- The frame of every command: it answers a next state, in which every part of the node stands as before but time and the parts that
State.mayChange lists for it. No command touches the command queue. Where the spec leaves a value or an order open, the model's choice
stands in log entry 3. -/
def Obligations.CommandFrames : Prop :=
  ∀ (s : State) (c : Instr), Part.pending ∉ s.mayChange c ∧ s.movesOnly (s.mayChange c) (exec c s)

/-- R31, R348: no command steps the timebase backward. The START_UP of a node in OFF or BACKUP, where nothing shows the timebase, may take
it up again at a number below State.now, never below the one at which it stopped. Where the spec leaves a value or an order open, the
model's choice stands in log entries 4, 134. -/
def Obligations.TimebaseNeverStepsBack : Prop :=
  ∀ (s t : State) (c : Instr), exec c s = .next t → s.timeFloor c ≤ t.now

/-- R14: after reset the lifecycle state is BLANK, and every field of every page holds the value of its Reset column. Where the spec leaves
a value or an order open, the model's choice stands in log entries 8, 11. -/
def Obligations.ResetColumn : Prop :=
  State.reset.life = 0 ∧
  ∀ (n off : Nat) (k : Kind) (i : Nat), pageOf n = some (k, i) → 0x40 ≤ off → off < 0x1000 → off % 4 = 0 →
    ∀ f, f ∈ standing k i off 0 → Word.bits (State.reset.reg (n * 0x1000 + off)) f.lsb f.width = f.resetValue

/-- R534: after reset every scalar record, value entry and spectral record, and the band map, hold what no one has written. -/
def Obligations.BlankPoints : Prop :=
  (∀ n, n < 0x10000 → State.reset.rdBytes (scalarRec n) 32 =
    (List.replicate 4 [0x00#8, 0x00#8, 0xC0#8, 0x7F#8]).flatten ++
      [0#8, 0#8, 0#8, 0#8, 0#8, 0#8, 0#8, 0#8, 0xFF#8, 0xFF#8, 0#8, 3#8, 0#8, 0#8, 0#8, 0#8]) ∧
  (∀ n, n < 0x10000 → State.reset.rdBytes (scalarVal n) 16 = List.replicate 16 0#8) ∧
  (∀ q, q < 0x2000000 → State.reset.rdBytes (spectralRec q) 16 =
    [0xFF#8, 0xFF#8, 0xFF#8, 0xFF#8, 1#8, 0#8, 0#8, 0#8, 0xC0#8, 0#8, 0#8, 0#8, 0#8, 0#8, 0#8, 0#8]) ∧
  (∀ a, 0xD80000 ≤ a → a < 0xE00000 → State.reset.rd8 a = 0xFF#8)

/-- R71, Table 03-2: the bits of the status byte. Bit 7 is 0 in every one. -/
def Obligations.StatusByte : Prop :=
  ∀ (s : State) (p : Port) (ready err hold : Bool), let b := s.statusByte p ready err hold
    b.getLsbD 0 = ready ∧ b.getLsbD 1 = err ∧ b.getLsbD 2 = (s.portState p).wlost ∧ b.getLsbD 3 = (s.portState p).clamp ∧
    b.getLsbD 4 = s.hirq ∧ b.getLsbD 5 = s.halert ∧ b.getLsbD 6 = hold ∧ b.getLsbD 7 = false

/-- R87: a clamp is entered behind the older ones while fewer than 8 stand; a ring that holds 8 keeps them and counts one more lost (the
field saturates at 2047). PG_IRQ_STAT.clamp and the sticky clamp bit of both ports are set, and the rings of the other pages stand. -/
def Obligations.ClampRing : Prop :=
  ∀ (s : State) (b off lsb wr st : Nat) (src : Bool), let t := s.clampAt b off lsb src wr st
    let r := s.ring b
    (r.entries.length < 8 → (t.ring b).lost = r.lost ∧
      (t.ring b).entries = r.entries ++ [{ word := off / 4 % 1024, lsb := lsb, src := src, wr := word wr, st := word st }]) ∧
    (8 ≤ r.entries.length → (t.ring b).entries = r.entries ∧ (t.ring b).lost = Nat.min 2047 (r.lost + 1)) ∧
    (t.reg (b + 0x20)).getLsbD 31 = true ∧ t.host.clamp = true ∧ t.trap.clamp = true ∧
    ∀ c, c ≠ b → t.ring c = s.ring c

/-- R88: a discard drops the staged values of the page and no others (those of the trigger lists with the EVR page's), clears
PG_STAT.staged, takes the page out of the group, by which PG_STAT.joined reads 0, and records no clamp. -/
def Obligations.DiscardDropsStaged : Prop :=
  ∀ (s : State) (k : Kind) (i b : Nat), pageAt b = some (k, i) → b % 0x1000 = 0 → let t := s.discardPage b
    (∀ a, b ≤ a → a < b + 0x1000 → SMap.get? t.staged a = none) ∧
    (∀ a, a < b ∨ b + 0x1000 ≤ a → SMap.get? t.staged a = SMap.get? s.staged a) ∧
    (b = P.EVR → t.evr.stagedLists = []) ∧ t.fv b R.PG_STAT_staged = 0 ∧ b ∉ t.group ∧ t.pgStat k i b / 64 % 2 = 0 ∧ t.rings = s.rings

/-- R89: a page joins the group once, and the group holds 64; a further join is a clamp and the page does not join. A group commit empties
the group and sets PG_IRQ_STAT.gc_done on the HPI page; without a joined page it does nothing. -/
def Obligations.GroupOfPages : Prop :=
  ∀ (s : State) (b : Nat),
    (b ∈ s.group → s.joinPage b = s) ∧
    (b ∉ s.group → s.group.length < 64 → s.joinPage b = { s with group := s.group ++ [b] }) ∧
    (b ∉ s.group → 64 ≤ s.group.length → s.joinPage b = s.clampAt b 0x0C 4 true 1 0 ∧ (s.joinPage b).group = s.group) ∧
    (s.group = [] → s.groupCommit = s) ∧
    (s.group ≠ [] → s.groupCommit.group = [] ∧ (s.groupCommit.reg (P.HPI + 0x20)).getLsbD 3 = true)

/-- R90: a locked page stores no write to its rw and rws fields and acts on no bit of PG_CTRL but unlock; each such write is a clamp where
it would have changed the field, or the staged copy of an rws field, and so is an unlock without its key, or of a sealed page in SEALED
outside a session of level 2. Where the spec leaves a value or an order open, the model's choice stands in log entries 27, 28. -/
def Obligations.LockedPage : Prop :=
  ∀ (s : State) (p : Port) (k : Kind) (b off : Nat) (now v : Word) (f : Field),
    let only (n : Nat) : Prop := [0, 1, 2, 3, 4].filter (fun j => v.getLsbD j) = [n]
    (s.fb b R.PG_STAT_locked = true → s.mayStore p b = false ∧
      (let was := Word.bits now f.lsb f.width
       let staged := Word.bits (s.stagedWord b (homeOff k off (s.objDir true k b off))) f.lsb f.width
       let got := Word.bits v f.lsb f.width
       f.acc = .rw ∨ f.acc = .rws → s.storeField p k b off (s.mayStore p b) now v f =
        if got = was ∧ (f.acc = .rws → got = staged) then s else s.clampAt b off f.lsb true got was) ∧
      ∀ n, n ∈ [0, 1, 2, 4] → only n → s.pgCtrl p b v = s.clampAt b 0x0C n true 1 0) ∧
    (only 3 → Word.bits v 8 8 = 0x5A → s.sealedPages.contains b = false →
      (s.pgCtrl p b v).fb b R.PG_STAT_locked = false) ∧
    (only 3 → Word.bits v 8 8 ≠ 0x5A ∨ (s.sealedPages.contains b = true ∧ s.life = 2 ∧ s.level p ≠ 2) →
      s.pgCtrl p b v = s.clampAt b 0x0C 3 true 1 0)

/-- R12, R84, R86: the frame of a stored word. Its fields change no register but the word itself and the page's PG_STAT and PG_IRQ_STAT, no
staged copy but the word's (of the two words that stand at one address of a CAN object, the one that its direction selects), and no clamp
ring but the page's; of the rest only the staged items of the trigger lists and what the ports show may change. Where the spec leaves a
value or an order open, the model's choice stands in log entry 79. -/
def Obligations.WordStoresInItsPage : Prop :=
  ∀ (s : State) (p : Port) (a : Nat) (v : Word) (k : Kind) (i : Nat), let b := pageBase a
    let t := s.stored p a v k i
    (∀ x, x ≠ a → x ≠ b + R.PG_STAT_staged.off → x ≠ b + 0x20 → t.reg x = s.reg x) ∧
    (∀ x, x ≠ a → x ≠ b + homeOff k (a % 0x1000) 1 → SMap.get? t.staged x = SMap.get? s.staged x) ∧ (∀ c, c ≠ b → t.ring c = s.ring c) ∧
    s.movesOnly [.regs, .staged, .rings, .host, .trap, .evr] (.next t)

/-- R92: HIRQ_N is asserted while some page has a bit set in both PG_IRQ_STAT and PG_IRQ_EN. -/
def Obligations.InterruptLine : Prop :=
  ∀ (s : State), SMap.rising 0 s.regs = true → (s.hirq = true ↔ ∃ b, b % 0x1000 = 0 ∧ s.reg (b + 0x20) &&& s.reg (b + 0x24) ≠ 0#32)

/-- R96: a read of TLY_GO with 64 tallies outstanding, or 256 with the queued completions, returns 0, launches nothing and sets
PG_IRQ_STAT.refused; any other issues a number from 1 to 0xFFFF, the next that is neither outstanding nor queued, and wraps to 1. -/
def Obligations.TallyNumbers : Prop :=
  ∀ (s : State) (p : Port),
    (64 ≤ s.tly.out.length ∨ 256 ≤ s.tly.out.length + s.tly.cq.length → s.tlyGo p = (0, s.irq P.TLY 2)) ∧
    (s.tly.out.length < 64 → s.tly.out.length + s.tly.cq.length < 256 →
      let n := (s.tlyGo p).1
      1 ≤ n ∧ n ≤ 0xFFFF ∧ s.tallyUsed n = false ∧ (s.tlyGo p).2.fv P.TLY R.TLY_LAST_last = n ∧
      (s.tallyUsed (nextTally (s.fv P.TLY R.TLY_LAST_last)) = false → n = nextTally (s.fv P.TLY R.TLY_LAST_last))) ∧
    nextTally 0xFFFF = 1

/-- R103: a completion enters the queue behind the older ones, sets PG_IRQ_STAT.cq, and cq_high where it is the 192nd; the oldest stands in
TLY_CQ0 to TLY_CQ2 of one 64-byte block, and writing TLY_CQ_POP.pop removes it. -/
def Obligations.CompletionQueue : Prop :=
  ∀ (s : State) (p : Port) (x : Tally) (status reason r0 r1 : Nat) (c : Completion) (rest : List Completion),
    (x.outcome = some (status, reason, r0, r1) →
      let t := s.queueCompletion x
      t.tly.cq = s.tly.cq ++ [{ num := x.num, status := status, reason := reason, r0 := r0, r1 := r1, progress := x.fraction }] ∧
      (t.reg (P.TLY + 0x20)).getLsbD 0 = true ∧ (t.tly.cq.length = 192 → (t.reg (P.TLY + 0x20)).getLsbD 1 = true)) ∧
    (s.tly.cq = c :: rest → s.corOn = true →
      (c.num < 0x10000 → c.status < 0x100 → c.reason < 0x100 →
        s.readWord p (P.TLY + 0x74) = word (c.num + c.status * 0x10000 + c.reason * 0x1000000)) ∧
      s.readWord p (P.TLY + 0x78) = word c.r0 ∧ s.readWord p (P.TLY + 0x7C) = word c.r1 ∧
      (P.TLY + 0x74) / 64 = (P.TLY + 0x7C) / 64 ∧ (s.cqPop 1#32).tly.cq = rest)

/-- R6, R212: a run of bytes written to the storeroom is read back byte for byte at its addresses, and every other byte stands. -/
def Obligations.StoreBytes : Prop :=
  ∀ (s : State), Memory.wf s.mem → ∀ (a : Nat) (l : List Byte) (x : Nat),
    (s.wrBytes a l).rd8 x = if a ≤ x ∧ x < a + l.length then l.getD (x - a) 0#8 else s.rd8 x

/-- R228: an uncorrectable word is poisoned, counted and its address kept where none stands, its row is due to be replaced (R230), and
PG_IRQ_STAT.ue is set; a write of its 8 bytes stores them and clears the poison, and a node write of a part is not made. Where the spec
leaves a value or an order open, the model's choice stands in log entries 59, 101. -/
def Obligations.PoisonedWord : Prop :=
  ∀ (s : State) (a : Nat), a < 0x100000000 → s.isPoisoned a = false →
    let w := a / 8 * 8
    let t := s.uncorrectable a
    t.isPoisoned a = true ∧ t.mem = s.mem ∧ s.rowOf w ∈ t.sto.dueRows ∧ (t.reg (P.STO + 0x20)).getLsbD 0 = true ∧
    t.fv P.STO R.STO_ERR_ue = Nat.min (2 ^ R.STO_ERR_ue.width - 1) (s.fv P.STO R.STO_ERR_ue + 1) ∧
    t.fv P.STO R.STO_UE_ADDR_addr = (if s.fv P.STO R.STO_UE_ADDR_addr = 0xFFFFFFFF then w else s.fv P.STO R.STO_UE_ADDR_addr) ∧
    (∀ l : List Byte, l.length = 8 → s.poisoned = [] → (t.nodeWrite w l).isPoisoned a = false ∧ (t.nodeWrite w l).mem = (s.wrBytes w l).mem) ∧
    ∀ (d : Nat) (l : List Byte), d < 8 → 0 < l.length → d + l.length ≤ 8 → l.length < 8 → t.nodeWrite (w + d) l = t

/-- R217, Table 03-12: what STO_FILL and STO_COPY store. A fill stores its 64-bit pattern from the first byte not yet written up to the
operand (log entry 5), a copy the bytes of its source, from the last one down where the destination overlaps it from above; every byte
outside that range stands, and so does all of the storeroom where the range is not the integrator's. Where the spec leaves a value or an
order open, the model's choice stands in log entries 5, 32, 94. -/
def Obligations.FillAndCopyStore : Prop :=
  ∀ (t n upto : Nat) (ecc : EccFinds) (s : State) (x : Tally) (a : Nat) (s' : State), (s.at t).domainOn 7 →
    ((s.at t).runningTally n 2 = some x → exec (.stoFill t n upto) s = .next s' →
      let lo := x.arg 0 + x.done
      let hi := lo + (Nat.min (x.arg 1) (upto / 8 * 8) - x.done)
      (a < lo ∨ hi ≤ a → s'.rd8 a = s.rd8 a) ∧
      (inIntegrator (x.arg 0) (x.arg 1) = false → s'.rd8 a = s.rd8 a) ∧
      (Memory.wf s.mem → inIntegrator (x.arg 0) (x.arg 1) = true → x.arg 1 % 8 = 0 → x.done % 8 = 0 → lo ≤ a → a < hi →
        s'.rd8 a = (leBytes 4 (x.arg 2) ++ leBytes 4 (x.arg 3)).getD ((a - lo) % 8) 0#8)) ∧
    ((s.at t).runningTally n 1 = some x → exec (.stoCopy t n upto ecc) s = .next s' →
      let goal := Nat.min (x.arg 2) (upto / 8 * 8)
      let lo := x.arg 1 + (if x.arg 0 < x.arg 1 ∧ x.arg 1 < x.arg 0 + x.arg 2 then x.arg 2 - goal else x.done)
      (a < lo ∨ lo + (goal - x.done) ≤ a → s'.rd8 a = s.rd8 a) ∧
      (inIntegrator (x.arg 1) (x.arg 2) = false → s'.rd8 a = s.rd8 a))

/-- R501, R71: while COR is not powered, and the power-fail sequence does not hold the ports (R78), no port answers: a read gives 0xFF on
every lane, the status byte that no driven one equals, and a write frame, a STAT and an HRST change nothing. Where the spec leaves a value
or an order open, the model's choice stands in log entry 26. -/
def Obligations.PortsSilent : Prop :=
  ∀ (t a n hz ns : Nat) (data : List Byte) (ecc : EccFinds) (s : State), (s.at t).portDriven = false →
    exec (.rd1 t .host a n hz ns ecc) s = .next ((s.at t).answers .host 0xFF#8 (List.replicate n 0xFF#8)) ∧
    exec (.rd4 t a n hz ns ecc) s = .next ((s.at t).answers .host 0xFF#8 (List.replicate n 0xFF#8)) ∧
    exec (.wr1 t .host a data ecc) s = .next (s.at t) ∧ exec (.wr4 t a data ecc) s = .next (s.at t) ∧
    exec (.hrst t) s = .next (s.at t) ∧
    (∀ p ready err hold, (s.at t).statusByte p ready err hold ≠ 0xFF#8)

/-- R356: while TBS_CTRL.halt is 1 no calendar alarm fires, the weekday counter does not advance and the periodic event stops; the timebase
goes on. Where the spec leaves a value or an order open, the model's choice stands in log entries 3, 119. -/
def Obligations.HaltedCalendar : Prop :=
  ∀ (t : Nat) (b : Bool) (s : State), s.fb P.TBS R.TBS_CTRL_halt = true →
    exec (.alarmFire t b) s = .next (s.at t) ∧ exec (.periodicEvent t) s = .next (s.at t) ∧ exec (.weekdayAdvance t) s = .next (s.at t)

/-- R484: reset_ofs returns every offset to 0 mV and clears the planned period and both caps; it is refused and reported as a clamp while a
plan runs, and while the lifecycle state is SEALED outside a session that may maintain (Table 21-5). -/
def Obligations.ResetOffsets : Prop :=
  ∀ (s : State) (p : Port) (v : Word), v.getLsbD 0 = true →
    (s.age.plan = none → s.maintains p = true → let t := s.ageCtrl p v
      (∀ d, d < 12 → t.fv P.AGE (R.AGE_DOM_ofs.nth d) = 0) ∧
      t.fv P.AGE R.AGE_CAP_per = 0 ∧ t.fv P.AGE R.AGE_CAP_scrub = 0 ∧ t.fv P.AGE R.AGE_CAP_cal = 0) ∧
    (s.age.plan ≠ none ∨ (s.life = 2 ∧ s.level p ≠ 2) →
      s.ageCtrl p v = s.clampAt P.AGE R.AGE_CTRL_reset_ofs.off R.AGE_CTRL_reset_ofs.lsb true 1 0)

/-- A word of PG_CTRL that sets one action bit (R85, R88, R89, R90): COMMIT commits the page, DISCARD drops its staged values, LOCK sets
PG_STAT.locked, UNLOCK with the key 0x5A clears it, JOIN puts the page into the group. PG_CLAMP_NEXT removes the oldest entry of the page's
clamp ring, or all of it (R87); PG_IRQ_SET sets the events whose bits are 1. HPI_CTRL (R89, R94): clr_err clears the error counts, gc_go
commits the joined pages at one instant, gc_abandon empties the group; the actions of one word follow in the order of their bits (log entry
28). Where the spec leaves a value or an order open, the model's choice stands in log entries 27, 28, 29. -/
def Obligations.PageWords : Prop :=
  (∀ (t : Nat) (s : State) (p : Port) (a : Nat) (v : Word) (k : Kind) (i : Nat), (s.at t).takes p a v k i 0x0C →
     let w := (s.at t).stored p a v k i
     let b := pageBase a
     let only (n : Nat) : Prop := [0, 1, 2, 3, 4].filter (fun j => v.getLsbD j) = [n]
     (only 0 → w.mayStore p b = true → exec (.commit t) s = .next (w.commitPage b).popWord) ∧
     (only 1 → w.mayStore p b = true → exec (.discard t) s = .next (w.discardPage b).popWord) ∧
     (only 2 → w.mayStore p b = true → exec (.lock t) s = .next (w.setFv b R.PG_STAT_locked 1).popWord) ∧
     (only 3 → Word.bits v 8 8 = 0x5A → w.sealedPages.contains b = false ∨ (w.life = 2 ∧ w.level p = 2) →
       exec (.unlock t) s = .next (w.setFv b R.PG_STAT_locked 0).popWord) ∧
     (only 4 → w.mayStore p b = true → w.group.contains b = false → w.group.length < 64 →
       exec (.join t) s = .next ({ w with group := w.group ++ [b] } : State).popWord)) ∧
  (∀ (t : Nat) (s : State) (p : Port) (a : Nat) (v : Word) (k : Kind) (i : Nat),
     let w := (s.at t).stored p a v k i
     let r := w.ring (pageBase a)
     ((s.at t).takes p a v k i 0x1C →
       (v.getLsbD 0 = true → v.getLsbD 1 = false →
         exec (.clampNext t) s = .next (w.setRing { r with entries := r.entries.drop 1 }).popWord) ∧
       (v.getLsbD 1 = true → exec (.clampFlush t) s = .next (w.setRing { r with entries := [], lost := 0 }).popWord)) ∧
     ((s.at t).takes p a v k i 0x28 →
       exec (.pgIrqSet t) s = .next (w.setReg (pageBase a + 0x20) (w.reg (pageBase a + 0x20) ||| v)).popWord)) ∧
  (∀ (t : Nat) (s : State) (p : Port) (a : Nat) (v : Word) (i : Nat), (s.at t).takes p a v .hpi i 0x4C →
     let w := (s.at t).stored p a v .hpi i
     let w := if v.getLsbD 0 then w.setReg (P.HPI + 0x48) 0#32 else w
     let w := if v.getLsbD 1 ∧ w.group ≠ [] then ((({ w with group := [] } : State).commitAll w.group).wrapInc P.HPI R.HPI_GC_seq 1).irq P.HPI 3 else w
     let w := if v.getLsbD 2 then ({ w with group := [] } : State) else w
     (v.getLsbD 0 = true → exec (.hpiClrErr t) s = .next w.popWord) ∧
     (v.getLsbD 1 = true → exec (.gcGo t) s = .next w.popWord) ∧
     (v.getLsbD 2 = true → exec (.gcAbandon t) s = .next w.popWord))

/-- TLY_CANCEL stops a tally that stands without an outcome with status 5 (R101); TLY_CQ_POP removes the oldest completion (R103). SC_CTRL
asks for an excitation test slot and for one reversed slot (R109, R135); SPX_PL_CTRL restarts a plane (R200); STO_CTRL clears the error
counts and starts a scrub pass, in which no row has yet given a corrected word (R228, R229, R230). PTE_SIM_PT gives the selected entry its
point and active bit (R248); PTE_CL_CTRL.release releases the latched points of a class (R243); PTE_CLR clears the engine's counts (R262).
Where the spec leaves a value or an order open, the model's choice stands in log entries 27, 28, 29, 62, 68. -/
def Obligations.MeasurementWords : Prop :=
  (∀ (t : Nat) (s : State) (p : Port) (a : Nat) (v : Word) (i : Nat),
     let w := (s.at t).stored p a v .tly i
     ((s.at t).takes p a v .tly i 0x84 → (s.at t).mayStore p (pageBase a) = true → ∀ x, w.tally? (Word.bits v 0 16) = some x → x.outcome = none →
       exec (.tlyCancel t) s = .next ((w.tallyStops x 5).setFv P.TLY R.TLY_CANCEL_RES_res 0).popWord) ∧
     ((s.at t).takes p a v .tly i 0x80 → v.getLsbD 0 = true →
       exec (.tlyCqPop t) s = .next ({ w with tly := { w.tly with cq := w.tly.cq.drop 1 } } : State).popWord)) ∧
  (∀ (t : Nat) (s : State) (p : Port) (a : Nat) (v : Word) (i : Nat),
     ((s.at t).takes p a v .sc i R.SC_CTRL_test.off →
       let w := (s.at t).stored p a v .sc i
       let c := w.sc i
       let u := w.setSc i { c with test := if v.getLsbD 0 ∧ c.test = 0 then 1 else c.test, flip := c.flip || v.getLsbD 1 }
       (v.getLsbD 0 = true → exec (.scTest t) s = .next u.popWord) ∧
       (v.getLsbD 1 = true → exec (.scFlip t) s = .next u.popWord)) ∧
     ((s.at t).takes p a v .spxPl i R.SPX_PL_CTRL_restart.off →
       let w := (s.at t).stored p a v .spxPl i
       v.getLsbD 0 = true → exec (.restart t) s = .next (w.setPlane i { w.plane i with restarts := (w.plane i).restarts + 1 }).popWord) ∧
     ((s.at t).takes p a v .sto i R.STO_CTRL_clr_err.off →
       let w := (s.at t).stored p a v .sto i
       let w := if v.getLsbD 0 then (w.setReg (P.STO + R.STO_ERR_corr.off) 0#32).setFv P.STO R.STO_UE_ADDR_addr 0xFFFFFFFF else w
       let u := if v.getLsbD 1 then ({ w with sto := { w.sto with passRows := [] } } : State).setFb P.STO R.STO_STAT_scrub true else w
       (v.getLsbD 0 = true → exec (.stoClrErr t) s = .next u.popWord) ∧
       (v.getLsbD 1 = true → exec (.scrubNow t) s = .next u.popWord))) ∧
  (∀ (t : Nat) (s : State) (p : Port) (a : Nat) (v : Word) (i : Nat),
     ((s.at t).takes p a v .pte i R.PTE_SIM_PT_point.off → (s.at t).mayStore p (pageBase a) = true →
       let r := ((s.at t).stored p a v .pte i).simWrite p (Word.bits v 0 25) (v.getLsbD 31)
       r.2 = v.getLsbD 31 → exec (.spectralSimulation t) s = .next r.1.popWord) ∧
     ((s.at t).takes p a v .pteCl i R.PTE_CL_CTRL_release.off → v.getLsbD 0 = true →
       exec (.classRelease t) s = .next (((s.at t).stored p a v .pteCl i).classRelease i).popWord) ∧
     ((s.at t).takes p a v .pte i R.PTE_CLR_clr.off → v.getLsbD 0 = true →
       exec (.pteClr t) s = .next ((s.at t).stored p a v .pte i).pteClr.popWord))

/-- ALH_CMD (R282, R283, Table 10-11): a word whose op field is 1 to 10 carries out that operation with its index and ALH_CMD_ARG, after the
changes stamped before it; any other op answers 4. ALH_CMD_RES then gives the result, and its count of commands is one more. While ALH is
paused (R293) the command waits with its stamp (log entry 132). ALH_MODE changes the operating mode (R275), ALH_DUTY the duty target with
the port as its source (R285), each after the changes and answers stamped before it (R282); while ALH is paused (R293) they wait (log entry
132). ALH_CLR clears the peak rate and the count of ignored answers (R291). Where the spec leaves a value or an order open, the model's
choice stands in log entries 28, 43, 106, 132. -/
def Obligations.AlarmWords : Prop :=
  (∀ (t : Nat) (s : State) (p : Port) (a : Nat) (v : Word) (i : Nat), (s.at t).takes p a v .alh i R.ALH_CMD_op.off →
     let w := (s.at t).stored p a v .alh i
     let x := w.alhUpTo w.now
     let idx := Word.bits v 8 16
     let arg := w.fv P.ALH R.ALH_CMD_ARG_arg
     let src := match p with
       | .host => 1
       | .trapdoor => 5
     let ends (r : State × Nat) : State := ((r.1.setFv P.ALH R.ALH_CMD_RES_res r.2).wrapInc P.ALH R.ALH_CMD_RES_cseq 1).popWord
     let all := x.alhAll (fun _ => true)
     let op := Word.bits v 0 4
     (w.alhRuns = true →
       (op = 1 → idx < 16384 → actMatches (x.entry idx) arg src = true →
         exec (.acknowledgeEntry t) s = .next (ends (x.alhAck [idx] src 0 w.now))) ∧
       (op = 2 → idx < 1024 →
         exec (.acknowledgeGroup t) s = .next (ends (x.alhAck (all.filter (fun e => decide ((x.entryCfg e).group = idx))) src 0 w.now))) ∧
       (op = 3 → exec (.acknowledgeAll t) s = .next (ends (x.alhAck all src 0 w.now))) ∧
       (op = 4 → idx < 16384 → actMatches (x.entry idx) arg src = true →
         exec (.resetEntry t) s = .next (ends (x.alhReset idx src 0 w.now))) ∧
       (op = 5 → idx < 16384 → exec (.shelveEntry t) s = .next (ends (x.alhShelve idx arg src 0 w.now))) ∧
       (op = 6 → idx < 16384 → exec (.unshelveEntry t) s = .next (ends (x.alhUnshelve idx src 0))) ∧
       (op = 7 → idx < 16384 → w.maintains p = true → exec (.takeOutOfService t) s = .next (ends (x.alhService idx true src 0 w.now))) ∧
       (op = 8 → idx < 16384 → w.maintains p = true → exec (.returnToService t) s = .next (ends (x.alhService idx false src 0 w.now))) ∧
       (op = 9 → idx < 8 → exec (.acceptCall t) s = .next (ends (x.callAccept idx w.now))) ∧
       (op = 10 → idx < 1024 → (x.group_ idx).armed = false → exec (.armGroup t) s = .next (ends (x.groupArm idx, 0))) ∧
       (op = 0 ∨ 10 < op → exec (.alhCmdNone t) s = .next (ends (x, 4)))) ∧
     (w.alhRuns = false →
       let u := ({ w with alh := { w.alh with held := w.alh.held ++ [.cmd op idx arg src w.now (w.maintains p)] } } : State).popWord
       (op = 1 → exec (.acknowledgeEntry t) s = .next u) ∧ (op = 2 → exec (.acknowledgeGroup t) s = .next u) ∧
       (op = 3 → exec (.acknowledgeAll t) s = .next u) ∧ (op = 4 → exec (.resetEntry t) s = .next u) ∧
       (op = 5 → exec (.shelveEntry t) s = .next u) ∧ (op = 6 → exec (.unshelveEntry t) s = .next u) ∧
       (op = 7 → exec (.takeOutOfService t) s = .next u) ∧ (op = 8 → exec (.returnToService t) s = .next u) ∧
       (op = 9 → exec (.acceptCall t) s = .next u) ∧ (op = 10 → exec (.armGroup t) s = .next u) ∧
       (op = 0 ∨ 10 < op → exec (.alhCmdNone t) s = .next u))) ∧
  (∀ (t : Nat) (s : State) (p : Port) (a : Nat) (v : Word) (i : Nat),
     let w := (s.at t).stored p a v .alh i
     let src := match p with
       | .host => 1
       | .trapdoor => 5
     let was := (s.at t).fv P.ALH R.ALH_MODE_mode
     let waits (x : AlhWord) : State := ({ w with alh := { w.alh with held := w.alh.held ++ [x] } } : State).popWord
     ((s.at t).takes p a v .alh i R.ALH_MODE_mode.off → (s.at t).mayStore p (pageBase a) = true →
       exec (.modeChange t) s =
         .next (if w.alhRuns then ((w.setFv P.ALH R.ALH_MODE_mode was).alhMode (Word.bits v 0 4) src).popWord
           else waits (.mode (Word.bits v 0 4) was src))) ∧
     ((s.at t).takes p a v .alh i R.ALH_DUTY_target.off → (s.at t).mayStore p (pageBase a) = true →
       exec (.dutyChange t) s =
         .next (if w.alhRuns then (((w.alhUpTo w.now).setFv P.ALH R.ALH_DUTY_target (Word.bits v 0 5)).setFv P.ALH R.ALH_DUTY_src src).popWord
           else waits (.duty (Word.bits v 0 5) src))) ∧
     ((s.at t).takes p a v .alh i R.ALH_CLR_clr.off → v.getLsbD 0 = true →
       exec (.alhClr t) s = .next ((w.rateRoll.setFv P.ALH R.ALH_RATE_peak 0).setReg (P.ALH + R.ALH_IGN_ign.off) 0#32).popWord))

/-- FBE_EV_TRIG triggers the event tasks of its bits (R307); FBE_FRC_CTRL sets and releases forces (R327); FBE_CLR clears the engine's
errors (R310); EVR_TRIG raises a trigger of source 0 at its instant (R332); EVR_CLR clears the recorder's counts (R346). Where the spec
leaves a value or an order open, the model's choice stands in log entries 28, 33, 44. -/
def Obligations.EngineWords : Prop :=
  ∀ (t : Nat) (s : State) (p : Port) (a : Nat) (v : Word) (i : Nat),
    let w := (s.at t).stored p a v .fbe i
    ((s.at t).takes p a v .fbe i R.FBE_EV_TRIG_trig.off →
      exec (.fbeEvTrig t) s =
        .next ((List.range 8).foldl (fun u n => if v.getLsbD n then u.fbeTrigger (8 + n) u.now else u) w).popWord) ∧
    ((s.at t).takes p a v .fbe i R.FBE_FRC_CTRL_set.off →
      let slot := w.fv P.FBE R.FBE_FRC_SEL_slot
      let w := if v.getLsbD 0 then w.forceSet slot (w.maintains p) else w
      let w := if v.getLsbD 1 then w.forceRelease slot else w
      let w := if v.getLsbD 2 then (w.fbe.forces.map (fun f => f.1)).foldl (fun u n => u.forceRelease n) w else w
      (v.getLsbD 0 = true → exec (.forceSet t) s = .next w.popWord) ∧
      (v.getLsbD 1 = true → exec (.forceRelease t) s = .next w.popWord) ∧
      (v.getLsbD 2 = true → exec (.forceReleaseAll t) s = .next w.popWord)) ∧
    ((s.at t).takes p a v .fbe i R.FBE_CLR_clr.off → v.getLsbD 0 = true → exec (.fbeClr t) s = .next w.fbeClr.popWord) ∧
    ((s.at t).takes p a v .evr i R.EVR_TRIG_go.off → v.getLsbD 8 = true →
      let w := (s.at t).stored p a v .evr i
      exec (.evrTrigGo t) s = .next
        (w.trigger { stamp := w.now, source := 0, arg := Word.bits v 16 16, list := some (Word.bits v 0 4), context := [] }).popWord) ∧
    ((s.at t).takes p a v .evr i R.EVR_CLR_clr.off → v.getLsbD 0 = true →
      let w := (s.at t).stored p a v .evr i
      exec (.evrClr t) s = .next
        (((w.setReg (P.EVR + R.EVR_OVR_ovr.off) 0#32).setReg (P.EVR + R.EVR_FULL_full.off) 0#32).setReg (P.EVR + R.EVR_LOSS_crates.off)
          0#32).popWord)

/-- TBS_CTRL (R353, R356): halt is as written; one of set, adjust and set_cal requests a time write with the value of TBS_SET, the signed
difference, or the calendar fields, behind those that still wait for their pulse (log entry 117); a word with none of them only halts or
releases. TBS_TRIM stores the trim (R358). Where the spec leaves a value or an order open, the model's choice stands in log entries 28, 117.
-/
def Obligations.TimeWords : Prop :=
  ∀ (t : Nat) (s : State) (p : Port) (a : Nat) (v : Word) (i : Nat),
    let w := (s.at t).stored p a v .tbs i
    ((s.at t).takes p a v .tbs i 0x40 →
      let u := w.setHalted
      let raw : Nat := u.fv P.TBS R.TBS_SET_LO_set + 2 ^ 32 * u.fv P.TBS R.TBS_SET_HI_set
      let only (l : List Nat) : Prop := [1, 2, 3].filter (fun j => v.getLsbD j) = l
      let wants (n : Nat) (x : Int) : State :=
        { u with tbs := { u.tbs with
            writes := u.tbs.writes ++ [{ kind := n, value := x, stamp := u.now, clamped := u.tbs.fieldClamp }], fieldClamp := false } }
      (only [1] → exec (.tbsSet t) s = .next (wants 1 raw).popWord) ∧
      (only [2] → exec (.tbsAdjust t) s = .next (wants 2 (sext 64 raw)).popWord) ∧
      (only [3] → exec (.tbsSetCal t) s = .next (wants 3 u.setCalValue).popWord) ∧
      (only [] → exec (.tbsHalt t) s = .next u.popWord)) ∧
    ((s.at t).takes p a v .tbs i R.TBS_TRIM_trim.off → exec (.trimWrite t) s = .next w.popWord)

/-- DIO_CTRL programs the thresholds for a test, by which the balls are compared again (R373, R374), and re-arms the island where link and
supply allow (R377); DIO_DO_SET sets the lines that the host owns (R380); DIO_CLR clears the frame and loss counts (R370). LPO_CH_CTRL ends
a compliance latch (R396), aborts and starts a transmission (R398) and frees the receive buffer (R399), in that order (log entry 28);
LPO_CH_SET sets the level (R389); LPO_CLR clears the counts (R401). Where the spec leaves a value or an order open, the model's choice
stands in log entries 28, 49, 121. -/
def Obligations.AtticWords : Prop :=
  (∀ (t : Nat) (s : State) (p : Port) (a : Nat) (v : Word) (i : Nat),
     let w := (s.at t).stored p a v .dio i
     ((s.at t).takes p a v .dio i R.DIO_CTRL_thr_test.off →
       let w := w.showThr.inputsFollow
       let u := if v.getLsbD 0 then (if w.rearmMay then ({ w with dio := { w.dio with arm := true } } : State) else w.clampAt P.DIO 0x40 0 true 1 0)
         else w
       (v.getLsbD 0 = true → exec (.rearm t) s = .next u.popWord) ∧ exec (.thrTest t) s = .next u.popWord) ∧
     ((s.at t).takes p a v .dio i R.DIO_DO_SET_set.off → (s.at t).mayStore p (pageBase a) = true →
       exec (.doSet t) s = .next (w.doSet v.toNat).popWord) ∧
     ((s.at t).takes p a v .dio i R.DIO_CLR_clr.off → v.getLsbD 0 = true →
       exec (.dioClr t) s = .next ((w.setReg (P.DIO + R.DIO_FRM_ERR_crc.off) 0#32).setReg (P.DIO + R.DIO_DI_LOST_lost.off) 0#32).popWord)) ∧
  (∀ (t : Nat) (s : State) (p : Port) (a : Nat) (v : Word) (i : Nat),
     ((s.at t).takes p a v .lpoCh i R.LPO_CH_CTRL_clr_comp.off →
       let w := (s.at t).stored p a v .lpoCh i
       let w := if v.getLsbD 0 then w.clrComp i else w
       let w := if v.getLsbD 2 then w.txFail i else w
       let w := if v.getLsbD 1 then w.txGo i else w
       let u := (if v.getLsbD 3 then w.setFv (P.LPOCH i) R.LPO_FSK_STAT_rx_full 0 else w).popWord
       (v.getLsbD 0 = true → exec (.clrComp t) s = .next u) ∧ (v.getLsbD 1 = true → exec (.txGo t) s = .next u) ∧
       (v.getLsbD 2 = true → exec (.txAbort t) s = .next u) ∧ (v.getLsbD 3 = true → exec (.rxRel t) s = .next u)) ∧
     ((s.at t).takes p a v .lpoCh i R.LPO_CH_SET_set.off → (s.at t).mayStore p (pageBase a) = true →
       exec (.loopSet t) s = .next (((s.at t).stored p a v .lpoCh i).loopSet i v).popWord) ∧
     ((s.at t).takes p a v .lpo i R.LPO_CLR_clr.off → v.getLsbD 0 = true →
       exec (.lpoClr t) s = .next ((s.at t).stored p a v .lpo i).lpoClr.popWord))

/-- CAN_OBJ_CTRL sends, cancels, releases and resumes an object (R414, R417, R410, R418); CAN_CTRL recovers from bus-off, sleeps or wakes,
and clears the counts (R420, R421), in the order of the bits (log entry 28); CAN_PMB_CTRL releases a mailbox (R412). Where the spec leaves a
value or an order open, the model's choice stands in log entries 28, 47, 122. -/
def Obligations.CanWords : Prop :=
  ∀ (t : Nat) (s : State) (p : Port) (a : Nat) (v : Word) (i off : Nat),
    let port := if pageBase a < 0x128000 then 0 else 1
    ((s.at t).takes p a v .canObj i off → R.CAN_OBJ_CTRL_send.coversWord off = true →
      let w := (s.at t).stored p a v .canObj i
      let o := (pageBase a - P.CANOBJ port 0) / 0x1000 * 32 + (off - R.CAN_OBJ_CTRL_send.off) / 0x20
      let b := objPage port o
      let at_ := R.CAN_OBJ_CTRL_send.off + o % 32 * 0x20
      let w := if v.getLsbD 0 then (if w.maySend port o 0 then w.queueFrame port o (w.objFrame port o) else w.clampAt b at_ 0 true 1 0) else w
      let w := if v.getLsbD 1 then w.cancelObj port o else w
      let w := if v.getLsbD 2 then w.releaseObj port o else w
      let u := (if v.getLsbD 3 then (if w.tstate port o = 4 then w.setObj port o R.CAN_OBJ_STAT_tstate 1 else w.clampAt b at_ 3 true 1 0)
        else w).popWord
      (v.getLsbD 0 = true → exec (.send t) s = .next u) ∧ (v.getLsbD 1 = true → exec (.cancel t) s = .next u) ∧
      (v.getLsbD 2 = true → exec (.objRelease t) s = .next u) ∧ (v.getLsbD 3 = true → exec (.resume t) s = .next u)) ∧
    ((s.at t).takes p a v .can i R.CAN_CTRL_sleep.off → (s.at t).mayStore p (pageBase a) = true →
      let u := (((s.at t).stored p a v .can i).canCtrl port v ((s.at t).fb (pageBase a) R.CAN_CTRL_sleep)).popWord
      (v.getLsbD 0 = true → exec (.recover t) s = .next u) ∧ (v.getLsbD 1 = true → exec (.sleep t) s = .next u) ∧
      (v.getLsbD 2 = true → exec (.canClr t) s = .next u)) ∧
    ((s.at t).takes p a v .can i off → R.CAN_PMB_CTRL_release.coversWord off = true → v.getLsbD 0 = true →
      let w := (s.at t).stored p a v .can i
      let n := (off - R.CAN_PMB_CTRL_release.off) / 0x20
      exec (.pmbRelease t) s =
        .next ((w.setFv (P.CAN port) (R.CAN_PMB_STAT_new.nth n) 0).setFv (P.CAN port) (R.CAN_PMB_STAT_lost.nth n) 0).popWord)

/-- PNL_CTRL (R432): put copies the line buffer into the back frame, update asks for a pass, full makes it a full one, copy_front copies the
front frame's body, in the order of the bits (log entry 28). RMP_TGT of a motion that the host owns replans it (R444); RMP_CTRL clears the
counts (R446), acknowledges a position (R451), and sets it at standstill (R453). Where the spec leaves a value or an order open, the model's
choice stands in log entries 28, 48, 50, 123, 124. -/
def Obligations.PanelAndMotionWords : Prop :=
  (∀ (t : Nat) (s : State) (p : Port) (a : Nat) (v : Word) (i : Nat), (s.at t).takes p a v .pnl i R.PNL_CTRL_put.off →
     let w := (s.at t).stored p a v .pnl i
     let w := if v.getLsbD 0 then w.pnlPut else w
     let w := if v.getLsbD 1 then w.pnlUpdate else w
     let w := if v.getLsbD 2 then w.pnlFull else w
     let u := (if v.getLsbD 3 then w.pnlCopyFront else w).popWord
     (v.getLsbD 0 = true → exec (.put t) s = .next u) ∧ (v.getLsbD 1 = true → exec (.update t) s = .next u) ∧
     (v.getLsbD 2 = true → exec (.full t) s = .next u) ∧ (v.getLsbD 3 = true → exec (.copyFront t) s = .next u)) ∧
  (∀ (t : Nat) (s : State) (p : Port) (a : Nat) (v : Word) (i : Nat),
     let w := (s.at t).stored p a v .rmp i
     ((s.at t).takes p a v .rmp i R.RMP_TGT_tgt.off →
       ((s.at t).mayStore p (pageBase a) = true → w.fv P.RMP R.RMP_CFG_own = 1 →
         exec (.targetWrite t) s = .next ({ w with rmp := { w.rmp with startTgt := none } } : State).rmpReplan.popWord) ∧
       (w.fv P.RMP R.RMP_CFG_own ≠ 1 → exec (.targetWrite t) s = .next w.popWord)) ∧
     ((s.at t).takes p a v .rmp i R.RMP_CTRL_setpos.off →
       let w := if v.getLsbD 1 ∧ w.rmpMoving = true then w.clampAt P.RMP R.RMP_CTRL_setpos.off 1 true 1 0 else w
       let w := if v.getLsbD 2 then
           (((w.setFv P.RMP R.RMP_CNT_demands 0).setFv P.RMP R.RMP_CNT_dclamps 0).setFv P.RMP R.RMP_STAT_dclamp 0).setFv P.RMP R.RMP_STAT_ovr 0
         else w
       let w := if v.getLsbD 0 then (w.setFv P.RMP R.RMP_STAT_pos_unc 0).setFv P.RMP R.RMP_STAT_pos_lost 0 else w
       let q := sext 32 (w.fv P.RMP R.RMP_SETPOS_pos)
       let u := (if v.getLsbD 1 ∧ w.rmpMoving = false then
           (let z := (w.rmpHalt.setRmpPos q).rmpStand (rmpSteps q)
            ({ z with rmp := { z.rmp with input := q, commit := q, startTgt := z.rmp.startTgt.map (fun _ => q) } } : State).setFv P.RMP R.RMP_STAT_pos_unc 0)
         else w).popWord
       (v.getLsbD 0 = true → exec (.ackPos t) s = .next u) ∧ (v.getLsbD 1 = true → exec (.setpos t) s = .next u) ∧
       (v.getLsbD 2 = true → exec (.rmpClr t) s = .next u)))

/-- SAF_CTRL with its key 0xA5: enter causes the safe state (R454), alert_clr clears the alert (R469), and release leaves the safe state
where its conditions hold (R459); AGE_CTRL.reset_ofs returns every domain to offset 0 (R484). Where the spec leaves a value or an order
open, the model's choice stands in log entries 28, 51, 52, 116. -/
def Obligations.SupervisorWords : Prop :=
  ∀ (t : Nat) (s : State) (p : Port) (a : Nat) (v : Word) (i : Nat),
    ((s.at t).takes p a v .saf i R.SAF_CTRL_enter.off → Word.bits v 8 8 = 0xA5 →
      let w := (s.at t).stored p a v .saf i
      let w := if v.getLsbD 2 then w.safCause true 4 0 0 else w
      let w := if v.getLsbD 1 then w.setFv P.SAF R.SAF_STAT_alert 0 else w
      let was := w.fb P.SAF R.SAF_STAT_safe
      let noted : State := if was = true then
          { w with saf := { w.saf with released := some (w.now, (w.fb P.SAF R.SAF_STAT_latched, (w.reg (P.SAF + 0x20)).getLsbD 4)) } }
        else w
      let out := (((noted.setFv P.SAF R.SAF_STAT_safe 0).setFv P.SAF R.SAF_STAT_latched 0).irqIf was P.SAF 4).rmpReplan
      let u := (if v.getLsbD 0 = false then w else if v.getLsbD 2 = true ∨ w.releaseHolds = false then w.clampAt P.SAF 0xB8 0 true 1 0 else out).popWord
      (v.getLsbD 0 = true → exec (.safRelease t) s = .next u) ∧ (v.getLsbD 1 = true → exec (.alertClr t) s = .next u) ∧
      (v.getLsbD 2 = true → exec (.safEnter t) s = .next u)) ∧
    ((s.at t).takes p a v .age i R.AGE_CTRL_reset_ofs.off → v.getLsbD 0 = true →
      let w := (s.at t).stored p a v .age i
      w.age.plan = none → w.maintains p = true →
      exec (.resetOfs t) s = .next (((List.range 12).foldl (fun u d => u.setFv P.AGE (R.AGE_DOM_ofs.nth d) 0) w).setReg
        (P.AGE + R.AGE_CAP_per.off) 0#32).plannedShow.popWord)

/-- SYS_PWR.req (R485, R486, R488): a request is held while a transition is in progress; out of DORMANT it wakes the node into the state
written; otherwise LEAN and RUN follow at once (log entry 13), and DORMANT begins. Where the spec leaves a value or an order open, the
model's choice stands in log entries 13, 19. -/
def Obligations.PowerWords : Prop :=
  ∀ (t : Nat) (s : State) (p : Port) (a : Nat) (v : Word) (i : Nat), (s.at t).takes p a v .sys i R.SYS_PWR_req.off →
    (s.at t).mayStore p (pageBase a) = true →
    let w := (s.at t).stored p a v .sys i
    let r := w.fv P.SYS R.SYS_PWR_req
    let u := (if w.pwr.busy = true ∨ w.pwr.earlyWake.isSome = true then ({ w with pwr := { w.pwr with heldReq := some r } } : State)
      else if w.pstate = 2 then (if r = 2 then w else ({ w with pwr := { w.pwr with wakeTo := r } } : State).wakeSource 0)
      else if r = w.pstate then w
      else if r = 0 then w.toRun
      else if r = 1 then w.toLean
      else ({ w with pwr := { w.pwr with busy := true } } : State)).popWord
    (Word.bits v 0 2 = 0 → exec (.reqRun t) s = .next u) ∧ (Word.bits v 0 2 = 1 → exec (.reqLean t) s = .next u) ∧
    (2 ≤ Word.bits v 0 2 → exec (.reqDormant t) s = .next u)

/-- SEC_CTRL issues a nonce, opens and closes a session and, with its key, clears the alert (R497, R498, R502), in the order of the bits
(log entry 28); DBG_CTRL halts the function block engine and steps one task of it (R501). Where the spec leaves a value or an order open,
the model's choice stands in log entries 25, 28, 78. -/
def Obligations.SecurityWords : Prop :=
  ∀ (t : Nat) (s : State) (p : Port) (a : Nat) (v : Word) (i : Nat),
    ((s.at t).takes p a v .sec i R.SEC_CTRL_challenge.off →
      let w := (s.at t).stored p a v .sec i
      let w := if v.getLsbD 0 then w.challenge p else w
      let w := if v.getLsbD 1 then w.openSession p (Word.bits v 2 2) else w
      let w := if v.getLsbD 4 then w.closeSession p else w
      let u := (if v.getLsbD 5 = false then w else if Word.bits v 8 8 = 0xA5 then w.setFv P.SEC R.SEC_STAT_alert 0
        else w.clampAt P.SEC R.SEC_CTRL_alert_clr.off R.SEC_CTRL_alert_clr.lsb true 1 0).popWord
      (v.getLsbD 0 = true → exec (.challenge t) s = .next u) ∧ (v.getLsbD 1 = true → exec (.sessionOpen t) s = .next u) ∧
      (v.getLsbD 4 = true → exec (.sessionClose t) s = .next u) ∧ (v.getLsbD 5 = true → exec (.secAlertClr t) s = .next u)) ∧
    ((s.at t).takes p a v .dbg i R.DBG_CTRL_fbe_halt.off →
      let w := ((s.at t).stored p a v .dbg i).fbeShow
      let u := (if v.getLsbD 1 = false then w
        else if w.fb P.DBG R.DBG_CTRL_fbe_halt = true ∧ w.maintains p = true then w.debugStep (w.fv P.DBG R.DBG_CTRL_task)
        else w.clampAt P.DBG 0x40 1 true 1 0).popWord
      exec (.fbeHalt t) s = .next u ∧ (v.getLsbD 1 = true → exec (.debugStep t) s = .next u))

/-- LNK_CTRL launches and stops a link test, inserts one error and clears the counters (R516, R520, R521), after the bits carried since the
node last counted, in the order of the bits (log entry 28); a word of LNK_HBUF is checked during a test of link 0 (R517). Where the spec
leaves a value or an order open, the model's choice stands in log entries 28, 53, 116. -/
def Obligations.LinkWords : Prop :=
  ∀ (t sent : Nat) (flips : List Nat) (s : State) (p : Port) (a : Nat) (v : Word) (i off : Nat),
    let w := (s.at t).stored p a v .lnk i
    let acts (n : Nat) (l : List Nat) : State :=
      let w := w.lnkCarry n l
      let w := if v.getLsbD 0 then w.linkGo p else w
      let w := if v.getLsbD 1 then w.linkEnds 0 0 else w
      let w := if v.getLsbD 2 then ({ w with lnk := { w.lnk with ins1 := true } } : State) else w
      (if v.getLsbD 3 then w.lnkClear else w).popWord
    ((s.at t).takes p a v .lnk i R.LNK_CTRL_go.off →
      (v.getLsbD 0 = true → exec (.linkGo t) s = .next (acts 0 [])) ∧
      (v.getLsbD 1 = true → exec (.linkStop t sent flips) s = .next (acts sent flips)) ∧
      (v.getLsbD 2 = true → exec (.ins1 t sent flips) s = .next (acts sent flips)) ∧
      (v.getLsbD 3 = true → exec (.lnkClr t) s = .next (acts 0 []))) ∧
    ((s.at t).takes p a v .lnk i off → R.LNK_HBUF_buf.coversWord off = true → (s.at t).mayStore p (pageBase a) = true →
      exec (.hbufWrite t) s = .next (w.hbufTake (Word.bytes v)).popWord)

/-- A word that no row names stores its fields and lets its page act (R84); on pages without actions that is all. Where the spec leaves a
value or an order open, the model's choice stands in log entries 27, 29, 75, 76, 79. -/
def Obligations.PlainWords : Prop :=
  ∀ (t : Nat) (s : State) (p : Port) (a : Nat) (v : Word) (k : Kind) (i off : Nat), (s.at t).takes p a v k i off → 0x40 ≤ off →
    rowsOf a v = [] →
    let w := (s.at t).stored p a v k i
    exec (.registerWrite t) s = .next (w.pageAction (s.at t) p k i (pageBase a) off v ((s.at t).mayStore p (pageBase a)) 0 []).popWord ∧
    (k ∈ [Kind.cv, .dyn, .dynCh, .spx, .fbeTk, .alhLd] → exec (.registerWrite t) s = .next w.popWord)

/-- A word that its port may not write stores nothing: where it differs from what stands a clamp is recorded (R12, R500), and the next word
comes to the front. It is so for every row that the word is. A word whose write touches a point at which PTE waits (R254), or for whose
changes the change queue has no room (R249), stays at the front, and nothing but time passes; any other takes effect. Where the spec leaves
a value or an order open, the model's choice stands in log entries 27, 29, 97. -/
def Obligations.RefusedWords : Prop :=
  (∀ (t : Nat) (s : State) (p : Port) (a : Nat) (v : Word) (k : Kind) (i : Nat), (s.at t).refuses p a v k i →
    let u := ((s.at t).refuseWord p (pageBase a) (a % 0x1000) v).popWord
    (∀ r sent flips, (rowsOf a v).contains r = true → (s.at t).takeRow r sent flips = u) ∧
    (rowsOf a v = [] → exec (.registerWrite t) s = .next u)) ∧
  (∀ (t sent : Nat) (flips : List Nat) (s : State) (p : Port) (a : Nat) (v : Word), (s.at t).ready = true →
    (s.at t).frontWord = some (p, a, v) →
    let w := s.at t
    let u (n : Nat) (l : List Nat) : State := (w.writeWord p a v n l).popWord
    let waits (x : State) : Prop := w.touchesStalled x = true ∨ w.overfills x = true
    (∀ r, (rowsOf a v).contains r = true →
      (waits (u sent flips) → w.takeRow r sent flips = w) ∧ (¬waits (u sent flips) → w.takeRow r sent flips = u sent flips)) ∧
    (rowsOf a v = [] → (waits (u 0 []) → exec (.registerWrite t) s = .next w) ∧ (¬waits (u 0 []) → exec (.registerWrite t) s = .next (u 0 []))))

/-- A frame of the point window (R243, R246, R247, R258) that its port may write: the records take its bytes, and the next frame comes to
the front, unless it waits for the change queue (R249) or for a point under evaluation (R254), when nothing but time passes.
POINT_WINDOW_WRITE is any such frame; the others name what it writes. Where the spec leaves a value or an order open, the model's choice
stands in log entries 21, 29, 42, 95, 97. -/
def Obligations.WindowWrites : Prop :=
  ∀ (t : Nat) (s : State) (f : Frame), (s.at t).ready = true → (s.at t).frontWindow = some f →
    (∀ x, (s.at t).windowWaits f = false → (s.at t).windowWrite f.port f.base f.addr f.data = some x →
      let u := x.frameDone.drainAper 16
      exec (.pointWindowWrite t) s = .next u ∧
      (f.writes 5 26 7 true (fun _ => true) = true → exec (.pointForce t) s = .next u) ∧
      (f.writes 5 26 7 false (s.at t).pointForced = true → exec (.pointForceRelease t) s = .next u) ∧
      (f.writes 2 26 4 false (s.at t).pointLatched = true → exec (.latchRelease t) s = .next u) ∧
      (f.writes 8 27 2 true (fun q => isScalar q && !(s.at t).pointSimulated q) = true → exec (.pointSimulate t) s = .next u) ∧
      (f.writes 8 27 2 false (fun q => isScalar q && (s.at t).pointSimulated q) = true → exec (.simulationEnd t) s = .next u)) ∧
    ((s.at t).windowWaits f = true → ∀ c, c ∈ [Instr.pointWindowWrite t, .pointForce t, .pointForceRelease t, .latchRelease t,
      .pointSimulate t, .simulationEnd t] → exec c s = .next (s.at t))

/-- The supply (R34, R39, R40): a start-up from OFF or BACKUP carries out steps 1 to 8, or waits where PFW_N is low, and a diagnostic that
fails in it keeps the safety outputs at their safe level; the hold ends in the rest of it; a power-fail warning takes the queued writes,
flushes what the recorder holds, commits the position and closes the core, with the ports locked out some time later; its end starts the
node again; a loss leaves it in BACKUP, unwarned where VMAIN falls before the lock-out, and the cellar's stop in OFF. AVDD falls and returns
for the analogue domains. Where the spec leaves a value or an order open, the model's choice stands in log entries 4, 5, 12, 14, 15, 16,
115, 118, 134. -/
def Obligations.SupplyCompletes : Prop :=
  ∀ (t ready lock : Nat) (pfwLow vf18 : Bool) (fails : List (Nat × Nat)) (s : State),
    let u := s.at t
    ((u.pwr.mode = .off ∨ u.pwr.mode = .backup) →
      let cold := u.pwr.cellarLost
      let w := u.pnlOff.startCor (if cold then 0 else 1) vf18
      let w := ({ w with pwr := { w.pwr with t0 := w.now, avddOk := true, avddFrom := none } } : State)
      let w := fails.foldl (fun (w : State) x => w.diagnosticFails x.1 x.2) w
      exec (.startUp t ready true pfwLow vf18 fails) s = .next ({ u with pwr := { u.pwr with mode := .tmode } } : State) ∧
      exec (.startUp t ready false true vf18 fails) s = .next w.startHolds ∧
      exec (.startUp t ready false false vf18 fails) s = .next ((w.at (w.now + ready)).startReady cold)) ∧
    (u.pwr.mode = .held → exec (.pfwHoldRelease t) s = .next (u.startReady u.pwr.cellarLost)) ∧
    (u.ready →
      let w := (u.pnlStop.drainQueue u.queued).flushLarder
      let w := ({ w with rmp := { w.rmp with commit := w.rmpPos } } : State).recordTimebase.workStops
      let w := ({ w with evr := { w.evr with paused := false } } : State).flushMarker
      exec (.powerFailWarning t lock) s =
        .next (({ w with pwr := { w.pwr with mode := .locked, clean := true, lockAt := w.now + lock } } : State).setFv P.SYS R.SYS_STATE_pfw 1)) ∧
    (u.pwr.mode = .locked →
      let w := fails.foldl (fun (w : State) x => w.diagnosticFails x.1 x.2) (u.startCor 3 (decide (18000 < u.dio.vfield)))
      exec (.pfwWithdrawn t fails) s = .next (w.startReady false)) ∧
    (u.pwr.mode = .active → exec (.unwarnedLoss t) s = .next u.evrLost.workStops.pnlOff.lostUnwarned) ∧
    (u.pwr.mode = .held ∨ u.pwr.mode = .tmode →
      exec (.unwarnedLoss t) s = .next ({ u with queue := [] } : State).evrLost.pnlOff.lostUnwarned) ∧
    (u.pwr.mode = .locked →
      (u.now < u.pwr.lockAt → exec (.unwarnedLoss t) s = .next u.evrLost.pnlOff.lostUnwarned) ∧
      (u.pwr.lockAt ≤ u.now →
        exec (.unwarnedLoss t) s = .next ({ u.pnlOff with pwr := { u.pwr with mode := .backup } } : State))) ∧
    (u.pwr.mode = .backup →
      exec (.cellarStop t) s = .next ({ u with pwr := { u.pwr with mode := .off, cellarLost := true } } : State)) ∧
    (u.avddWatched → u.pwr.avddOk = true →
      exec (.avddLost t) s = .next ({ u with pwr := { u.pwr with avddOk := false } } : State).sacAvddLost.dynAvddLost) ∧
    (u.avddWatched → u.pwr.avddOk = false →
      exec (.avddRestored t) s = .next ({ u with pwr := { u.pwr with avddOk := true, avddFrom := some u.now } } : State).sacAvddBack.dynAvddBack)

/-- Host and trapdoor frames (R66–R82, R499): a read is answered or held, a write posted, STAT shows the status byte and clears the lost and
clamp latches, HRST drops a held read, an opcode that the port does not decode is counted; an aborted frame counts as far as it came. A held
read (R72, R77, R98): once the writes before it have taken effect its words are taken, or its tally is launched; the result waits for the
next read frame of the same address. Where the spec leaves a value or an order open, the model's choice stands in log entries 4, 5, 21, 22,
23, 24, 25, 26, 61. -/
def Obligations.ReadsAndWritesComplete : Prop :=
  (∀ (t a n hz ns : Nat) (port : Port) (data : List Byte) (op : Byte) (ecc : EccFinds) (s : State),
     let u := s.at t
     let none_ : EccFinds := { corrected := [], lost := [] }
     (u.frameOpen port →
       exec (.rd1 t port a n hz ns ecc) s = .next ((u.readFrame port 8 a n hz ns ecc).frameEnd port) ∧
       exec (.tlyGo t port) s = .next ((u.readFrame port 8 tlyGoAddr 4 0 0 none_).frameEnd port) ∧
       (inHbuf a → exec (.hbufRead t port a n) s = .next ((u.readFrame port 8 a n 0 0 none_).frameEnd port)) ∧
       exec (.wr1 t port a data ecc) s = .next ((u.writeFrame port a data ecc).frameEnd port) ∧
       exec (.frameAbort t port a data ecc) s = .next ((u.writeFrame port a data ecc).frameEnd port) ∧
       (u.portDriven →
         let w := u.answers port (u.statusByte port u.ready false (!u.ready)) []
         exec (.stat t port) s = .next ((w.setPortState port { w.portState port with wlost := false, clamp := false }).frameEnd port)) ∧
       (u.portDriven → (decodedOpcodes port).contains op.toNat = false →
         exec (.undefinedOpcode t port op) s = .next (((u.satInc P.HPI R.HPI_ERR_bad_op 1).irq P.HPI 1).frameEnd port))) ∧
     exec (.rd4 t a n hz ns ecc) s = .next (u.readFrame .host 2 a n hz ns ecc) ∧
     exec (.wr4 t a data ecc) s = .next (u.writeFrame .host a data ecc) ∧
     (u.portDriven → exec (.hrst t) s = .next (u.dropRead .host))) ∧
  (∀ (t : Nat) (port : Port) (ecc : EccFinds) (s : State) (x : ReadBuf),
     let u := s.at t
     (u.portState port).rbuf = some x → u.ready → x.result = none → x.ahead = 0 →
     (u.goRead port x.addr = false →
       let w := if windowBottom ≤ x.addr then u.eccFinds ecc else u
       let r := w.readNow port x.addr x.base (if inHbuf x.addr then x.len else 256)
       exec (.heldReadComplete t port ecc) s =
         .next (r.2.2.setPortState port { r.2.2.portState port with rbuf := some { x with result := some (r.1, r.2.1) } })) ∧
     (u.goRead port x.addr = true →
       let r := u.tlyGo port
       exec (.tallyLaunch t port) s =
         .next (r.2.setPortState port { r.2.portState port with rbuf := some { x with result := some (4, leBytes 4 r.1) } })))

/-- Tallies (R96–R103): an outstanding tally starts when nothing before it holds it, NOP completes, an operation without a class is refused,
an ended tally enters the completion queue, and one whose deadline has passed stops with status 4, at its next step too. Where the spec
leaves a value or an order open, the model's choice stands in log entries 4, 32, 74. -/
def Obligations.TalliesComplete : Prop :=
  ∀ (t n : Nat) (s : State) (x : Tally),
    let u := s.at t
    u.tally? n = some x →
    (x.running = false → x.outcome = none → u.tallyPowered x.op → u.tallyNext x → (x.op = 0x70 → u.marginFree) →
      let w := u.setTally { x with running := true }
      exec (.tallyStart t n) s = .next (if x.op = 4 then w.setFv P.STO R.STO_STAT_rekey 1 else w)) ∧
    (u.plainTally n 0x00 → exec (.nop t n) s = .next (u.tallyDone n 0 0)) ∧
    (x.running = true → x.outcome = none → x.op = 0 → u.ready → u.pstate ≤ 1 → u.tallyLate x →
      exec (.nop t n) s = .next (u.tallyEnds n 4 0 x.partDone x.partSecond)) ∧
    (u.plainTally n 0xFF → exec (.undefinedOperation t n) s = .next (u.tallyRefused n 1 0 0)) ∧
    (u.ready → exec (.tallyCompletion t n) s = .next (u.queueCompletion x)) ∧
    (u.ready → u.pstate ≤ 1 → x.outcome = none → ∀ d, x.deadline = some d → d < u.now →
      exec (.tallyTimeout t n) s = .next (u.tallyStops x 4))

/-- Operations on the storeroom (R226, R227, R229, R221, R210–R212, R345): while their tally runs and the store is powered, each carries on
by its operand, and derives or learns what its arguments name; limits that touch a point at which PTE waits wait too (R254). Where the spec
leaves a value or an order open, the model's choice stands in log entries 5, 32, 33, 41, 59, 93, 95, 101, 133. -/
def Obligations.StoreOperationsComplete : Prop :=
  ∀ (t n upto crates : Nat) (ecc : EccFinds) (s : State) (x : Tally),
    let u := s.at t
    (u.runningTally n 1 = some x → u.domainOn 7 → exec (.stoCopy t n upto ecc) s = .next ((u.eccFinds ecc).stoCopy x upto)) ∧
    (u.runningTally n 2 = some x → u.domainOn 7 → exec (.stoFill t n upto) s = .next (u.stoFill x upto)) ∧
    (u.runningTally n 3 = some x → u.domainOn 7 → exec (.stoVerify t n upto ecc) s = .next (u.stoVerify x upto ecc)) ∧
    (u.runningTally n 4 = some x → u.domainOn 7 →
      let w := u.eccFinds ecc
      let w := if w.sto.newKeys = [] then (List.range 11).foldl (fun (w : State) i => w.drawNewKey i) w else w
      let here (g : Nat) : Bool := decide (w.sto.moved ≤ g / 4096) && decide (g / 4096 < upto)
      let w := w.squash 5 (fun p => !isScalar p && (here (spectralRec p) || here (codeAt (w.fv (P.SPX (planeNo p)) R.SPX_PL_STAT_half) p)))
      let w := ({ w with sto := { w.sto with moved := Nat.max w.sto.moved upto } } : State).tallyProgress n (Nat.min upto groupCount) groupCount 0
      (upto < groupCount → exec (.stoRekey t n upto ecc) s = .next w) ∧
      (groupCount ≤ upto →
        let w := ({ w with sto := { w.sto with
          keys := w.sto.newKeys.foldl (fun m x => SMap.insert m x.1 x.2) w.sto.keys, newKeys := [], moved := 0 } } : State)
        let w := w.wrapInc P.STO R.STO_KEY_gen 1
        let w := ((w.setFv P.STO R.STO_STAT_rekey 0).setFv P.STO R.STO_STAT_partial 0).irq P.STO 4
        exec (.stoRekey t n upto ecc) s = .next (w.tallyDone n (w.fv P.STO R.STO_KEY_gen) 0))) ∧
    (u.runningTally n 0x10 = some x →
      let lines (j : Nat) : Nat × Nat := u.linesIn j (x.arg 0) (x.arg 1)
      let total := ((List.range 64).map (fun j => (lines j).2)).sum
      let done := ((List.range 64).map (fun j => ((List.range (lines j).2).filter (fun k => !x.learns ((lines j).1 + k))).length)).sum
      (total = 0 → exec (.baseLearn t n) s = .next (u.tallyRefused n 8 0 0)) ∧
      (total ≠ 0 → exec (.baseLearn t n) s =
        .next (let w := u.tallyProgress x.num done total x.aux
               if done = total then w.tallyDone x.num done 0 else w))) ∧
    (u.runningTally n 0x11 = some x →
      let w := u.eccFinds ecc
      let lines (i : Nat) : Nat × Nat := w.linesIn i (x.arg 0) (x.arg 1)
      let within (i q : Nat) : Bool := decide ((lines i).1 ≤ q) && decide (q < (lines i).1 + (lines i).2)
      let lost := (List.range 64).any (fun i => w.anyPoison (spectralRec (lines i).1) (16 * (lines i).2)) || decide (x.aux = 1)
      let base (q : Nat) : Nat := SMap.get (fun _ => 0) x.kept q
      let listed := (List.range 64).flatMap (fun i => if (lines i).2 = 0 then [] else (w.listedSpectral i).filter (within i))
      let ps := listed.filter (fun q => decide (w.rdLe (spectralRec q + 10) 2 / 4 % 2 = 1) &&
        decide (w.fv P.SPXC R.SPX_LEARN_n_min ≤ base q / 2 ^ 32 % 65536))
      let limit (q k : Nat) : List Byte := leBytes 2
        (derivedLimit (base q % 65536) (base q / 65536 % 65536) (x.arg k) (decide (w.rdLe (spectralRec q + 10) 2 / 8 % 2 = 1)))
      (lost = true → exec (.limDerive t n ecc) s = .next (w.tallyEnds n 3 6 0 0)) ∧
      (lost = false →
        let y := ps.foldl (fun (s' : State) q => s'.nodeWrite (spectralRec q) (limit q 2 ++ limit q 3)) w
        (w.touchesStalled y = true → exec (.limDerive t n ecc) s = .next w) ∧
        (w.touchesStalled y = false → exec (.limDerive t n ecc) s = .next
          ((y.squash 1 (fun q => decide (x.arg 0 ≤ q) && decide (q ≤ x.arg 1))).tallyDone n ps.length 0)))) ∧
    (u.runningTally n 0x30 = some x → u.maintains x.port → exec (.evrErase t n crates) s = .next (u.evrErase x crates))

/-- IMG_LOAD (R304, R493, R494): an image that passes its checks is taken by its target - a program by the standby bank, a configuration by
the pages it names, an alarm table by the alarm handler (at once, unless it touches a point at which PTE waits, R254, or has no room in the
change queue, R249) - and its tally completes; one that does not parse ends with status 3 and reason 8. Where the spec leaves a value or an
order open, the model's choice stands in log entries 30, 31, 45, 46, 97, 108, 110. -/
def Obligations.ImagesComplete : Prop :=
  ∀ (t n : Nat) (ecc : EccFinds) (s : State) (x : Tally),
    let u := s.at t
    (u.imageTally n 1 = some x →
      exec (.imgLoadProgram t n ecc) s = .next (match u.checkImage x ecc with
        | (w, none) => w
        | (w, some c) =>
          let bank := w.standby
          match programOf (c.header ++ c.body) with
          | none =>
            (if x.arg 2 = 1 then w.standbyInvalid else w).tallyEnds x.num 3 8 c.id c.result
          | some p =>
            let w := w.nodeWrite (bankBase bank) (c.header ++ c.body)
            ((({ w with fbe := { w.fbe with banks := w.fbe.banks.set bank (some p) } } : State).setFv P.FBE R.FBE_STAT_sb_valid 1).setFv P.FBE
              R.FBE_SB_ID_id c.id).tallyDone n c.id c.result)) ∧
    (u.imageTally n 2 = some x →
      exec (.imgLoadConfig t n ecc) s = .next (match u.checkImage x ecc with
        | (w, none) => w
        | (w, some c) => if recordsOk c.body then (w.imageConfig x.port c.body).tallyDone n c.id c.result else w.tallyEnds n 3 8 c.id c.result)) ∧
    (u.imageTally n 4 = some x →
      exec (.imgLoadAlarmTable t n ecc) s = .next (match u.checkImage x ecc with
        | (w, none) => w
        | (w, some c) =>
          match (Config.alarmTable c.body).filter (fun a => a.valid) with
          | none => w.tallyEnds n 3 8 c.id c.result
          | some a =>
            let y := (w.alhLoad a c.id).alhRecount.tallyDone n c.id c.result
            if w.touchesStalled y = true ∨ w.overfills y = true then w else y))

/-- KEY_OP (R490, R495, R496, Table 21-4) with arguments it accepts: INSTALL stores a key on the curve, REVOKE empties a slot that is not
the last of a FIELD node, AES takes its key from the storeroom and clears it there (a key that cannot be read ends either with status 3,
reason 6), ADVANCE moves the lifecycle one stage, or to SCRAPPED. Where the spec leaves a value or an order open, the model's choice stands
in log entries 32, 54, 56. -/
def Obligations.KeyOperationsComplete : Prop :=
  ∀ (t n : Nat) (ecc : EccFinds) (s : State) (x : Tally) (k : List Byte),
    let u := s.at t
    let v := u.eccFinds ecc
    (u.keyTally n 1 = some x → x.arg 0 = 1 → u.maintains x.port → 0 < x.arg 1 → x.arg 1 ≤ 3 → u.keyOperand (x.arg 2) 64 = some k →
      (v.anyPoison (x.arg 2) 64 = true → exec (.install t n ecc) s = .next (v.tallyEnds n 3 6 0 0)) ∧
      (v.anyPoison (x.arg 2) 64 = false → onCurve (beNat (k.take 32)) (beNat (k.drop 32)) →
        exec (.install t n ecc) s =
          .next ((({ v with sec := { v.sec with keys := SMap.insert v.sec.keys (x.arg 1) k } } : State).secEvent 4).keyDone n (x.arg 1)))) ∧
    (u.keyTally n 2 = some x → x.arg 0 = 2 → u.maintains x.port → 0 < x.arg 1 → x.arg 1 ≤ 3 → ¬(u.life = 2 ∧ u.filledSlots = [x.arg 1]) →
      exec (.revoke t n) s =
        .next ((({ u with sec := { u.sec with keys := SMap.erase u.sec.keys (x.arg 1) } } : State).secEvent 4).keyDone n (x.arg 1))) ∧
    (u.keyTally n 3 = some x → x.arg 0 = 3 → u.life < 2 → u.keyOperand (x.arg 1) 32 = some k →
      let w := v.wrBytes (x.arg 1) (List.replicate 32 0#8)
      (v.anyPoison (x.arg 1) 32 = true → exec (.aes t n ecc) s = .next (v.tallyEnds n 3 6 0 0)) ∧
      (v.anyPoison (x.arg 1) 32 = false → exec (.aes t n ecc) s = .next (({ w with sec := { w.sec with aes := some k } } : State).keyDone n 0))) ∧
    (u.keyTally n 4 = some x → x.arg 0 = 4 → u.life ≠ 3 → x.arg 2 = 0x4C494645 →
      (x.arg 1 = 3 → u.maintains x.port → exec (.advance t n) s = .next (((u.advanceTo 3).secEvent 3).keyDone n 3)) ∧
      (x.arg 1 ≠ 3 → x.arg 1 = u.life + 1 → ¬(x.arg 1 = 1 ∧ u.filledSlots = []) → ¬(x.arg 1 = 2 ∧ u.standingMode) →
        exec (.advance t n) s = .next (((u.advanceTo (x.arg 1)).secEvent 3).keyDone n (x.arg 1))))

/-- CAL, SELFTEST, OLC and MARGIN_PLAN (R150, R471, R324, R481): a running tally asks its converters for calibrations, reports the tests
that passed and failed, begins an online change with a valid standby bank, or starts a plan. Where the spec leaves a value or an order open,
the model's choice stands in log entries 5, 32, 38, 51. -/
def Obligations.ServiceOperationsComplete : Prop :=
  ∀ (t n failed : Nat) (s : State) (x : Tally),
    let u := s.at t
    (u.runningTally n 0x40 = some x → x.total = 0 →
      let mask := if u.domainOn 3 then x.arg 0 % 256 &&& u.fv P.SAC R.SAC_CTRL_cv_en else 0
      let k := ((List.range 8).filter (bitAt mask)).length
      exec (.cal t n) s = .next (if k = 0 then u.tallyDone n 0 0 else u.tallyProgress n 0 k mask)) ∧
    (u.runningTally n 0x50 = some x →
      let mask := Nat.min 0x7F (x.arg 0)
      let bad := failed &&& mask
      exec (.selftest t n failed) s = .next ((u.tallyDone n (mask - bad) bad).selftestEnds mask bad)) ∧
    (u.runningTally n 0x21 = some x → u.life ≠ 3 → u.fv P.FBE R.FBE_STAT_olc = 0 → x.arg 0 = u.standby → u.fb P.FBE R.FBE_STAT_sb_valid →
      (u.fbe.banks.getD u.standby none).isSome →
      exec (.olc t n) s = .next (({ u with fbe := { u.fbe with olcTally := some n } } : State).setFv P.FBE R.FBE_STAT_olc 1)) ∧
    (u.runningTally n 0x70 = some x → u.age.plan = none →
      exec (.marginPlan t n) s = .next (u.planStarts 2 n (decide (x.arg 0 ≠ 0))))

/-- Slots of the static channels (R106–R137): a converter that is enabled, free of calibration and of a link test starts a cycle; the slot
at work, once its time has passed, ends with what it measured, and the next one begins; the supervisor's check of a reference beyond 200 ppm
counts as failed (R462); a channel held beyond its tolerance goes stale. Where the spec leaves a value or an order open, the model's choice
stands in log entries 5, 35, 36, 37, 39, 64, 65, 66, 67, 68, 69, 71, 127. -/
def Obligations.StaticSlotsComplete : Prop :=
  ∀ (t : Nat) (k : Fin 8) (ch : Fin 32) (m : SlotInput) (vl sexc dvm safref term temp : Q) (s : State),
    let u := s.at t
    let c := ch.val / 4
    (u.domainOn 3 → bitAt (u.fv P.SAC R.SAC_CTRL_cv_en) k.val → (u.cv k.val).slot = none → (u.cv k.val).cal = none → u.linkOn 7 k.val = false →
      exec (.converterStart t k) s = .next (u.newCycle k.val)) ∧
    (∀ x, u.inSlot c 4 ch.val = some x →
      let seen := u.slotSeen ch.val x.rev m
      let w := u.slotShared ch.val seen
      exec (.measurementSlot t ch m) s = .next ((if x.second then w.scSense ch.val seen else w.scMeasure ch.val seen).nextSlot c)) ∧
    ((u.inSlot c 5 ch.val).isSome →
      let seen := u.slotSeen ch.val false m
      let lead := u.cvVolts c (u.fv (P.SC ch.val) R.SC_STAT_range) vl
      exec (.leadSlot t ch vl m) s = .next (((u.slotShared ch.val seen).scLead ch.val lead seen).nextSlot c)) ∧
    ((u.inSlot c 6 ch.val).isSome →
      let seen := u.slotSeen ch.val false m
      exec (.excitationTestSlot t ch sexc dvm m) s = .next (((u.slotShared ch.val seen).scTested ch.val sexc dvm seen).nextSlot c)) ∧
    ((u.inSlot k.val 7 0).isSome →
      let w := (u.slotDone k.val).cvTemp k.val temp
      let fails := Q.lt (Q.frac 200 1000000) (Q.abs (Q.sub safref Q.one))
      let n := w.saf.checkFails.getD k.val 0
      let p := w.saf.checkPasses.getD k.val 0
      let w := ({ w with saf := { w.saf with
        checkFails := w.saf.checkFails.set k.val (if fails then n + 1 else 0)
        checkPasses := w.saf.checkPasses.set k.val (if fails then 0 else p + 1) } } : State)
      exec (.supervisorCheckSlot t k safref term temp) s =
        .next ((if k.val = 0 ∨ k.val = 4 then w.termRead k.val term else w).nextSlot k.val)) ∧
    (u.domainOn 3 → u.scActive ch.val → u.scOwnQuality ch.val = 1 → ∀ t0, (u.sc ch.val).staleFrom = some t0 → t0 + u.scTol ch.val ≤ u.now →
      exec (.staleFault t ch) s = .next ((u.scFaults ch.val 0x200 0x200).scShow ch.val))

/-- Calibration (R150–R156): a trigger of time or temperature makes a converter due, the lowest one due starts, its run succeeds, fails or
repeats by the checks, times out after 26 cycles, and is overdue one interval after it fell due. Where the spec leaves a value or an order
open, the model's choice stands in log entries 5, 38, 39, 71, 73, 77, 128. -/
def Obligations.CalibrationCompletes : Prop :=
  ∀ (t : Nat) (k : Fin 8) (temp : Q) (m : CalInput) (s : State) (run : CalRun) (d : Nat),
    let u := s.at t
    let eff := secs 3600 * u.fv (P.CV k.val) R.CV_CAL_STAT_eff_h
    (u.domainOn 3 → bitAt (u.fv P.SAC R.SAC_CTRL_cv_en) k.val →
      let w := u.setFv (P.CV k.val) R.CV_CTEMP_temp_now (toB32 temp).toNat
      exec (.calDue t k temp) s = .next
        (if secs 3600 * w.fv (P.CV k.val) R.CV_CAL_STAT_eff_h ≤ w.calCounted k.val then w.calFallsDue k.val 0
         else if w.tempTriggers k.val temp then w.calFallsDue k.val 1 else w)) ∧
    (u.domainOn 3 → bitAt (u.fv P.SAC R.SAC_CTRL_cv_en) k.val → (List.range 8).any (fun j => (u.cv j).cal.isSome) = false →
      u.linkOn 7 k.val = false → u.slotBoundary k.val →
      (List.range 8).find? (fun j => decide (u.fv (P.CV j) R.CV_CAL_STAT_state = 1) &&
        (bitAt (u.fv P.SAC R.SAC_CTRL_cv_en) j && !u.linkOn 7 j)) = some k.val →
      exec (.calibrationStart t k) s = .next (u.calRun k.val 0 (u.cv k.val).dueTrig none none)) ∧
    ((u.cv k.val).cal = some run → u.domainOn 3 → (calSlots run.kind).length ≤ run.elapsed u.now →
      let late := decide (run.start + 26 * 16777216 / run.hz < u.now)
      let base := (u.cv k.val).base
      let old := (u.cv k.val).ratios
      let checks : Bool := decide (run.kind ≠ 1)
      let g := u.calFigures k.val run.kind m
      let vref := if checks then g.vref else Q.zero
      let dr2 := if checks then Q.sub g.r2 base.1 else Q.zero
      let dr20 := if checks then Q.sub g.r20 base.2.1 else Q.zero
      let dg := if run.kind ≠ 2 then Q.sub (g.gains.headD Q.zero) base.2.2.1 else Q.zero
      let far (x y : Q) (n : Nat) : Bool := Q.lt (Q.ofNat n) (Q.abs (Q.sub x y))
      let jumps := checks && (far g.r2 old.1 10 || far g.r20 old.2 10)
      let agrees (f : CalFigures) : Bool := !far g.r2 f.r2 1 && !far g.r20 f.r20 1
      let w := u.setFv (P.CV k.val) R.CV_CTEMP_temp_now (toB32 g.temp).toNat
      let w := if checks then w.refChecked g.vref else w
      let fails (reason : Nat) : State := w.calFails k.val run reason dr2 dr20 dg vref
      let succeeds (again : Bool) : State := (w.calSucceeds k.val run g dr2 dr20 dg vref again).calEnded k.val run true
      exec (.calibrationComplete t k m) s = .next
        (if late then ((u.refUnseen run).calFails k.val run 3 Q.zero Q.zero Q.zero Q.zero).calEnded k.val run false
         else if checks && Q.lt (Q.ofNat 20) (Q.abs g.vref) then (fails 1).calEnded k.val run false
         else match run.first with
          | some f => if agrees f then succeeds true else (fails 2).calEnded k.val run false
          | none => if jumps then (fails 2).calRun k.val 0 3 (some g) run.tally else succeeds false)) ∧
    ((u.cv k.val).cal = some run → u.domainOn 3 → run.start + 26 * 16777216 / run.hz ≤ u.now →
      exec (.calibrationTimeout t k) s = .next (((u.refUnseen run).calFails k.val run 3 Q.zero Q.zero Q.zero Q.zero).calEnded k.val run false)) ∧
    ((u.cv k.val).dueAt = some d → u.domainOn 3 → d + eff < u.now →
      exec (.calOverdue t k) s = .next (u.setFv (P.CV k.val) R.CV_CAL_STAT_overdue 1))

/-- Dynamic channels (R159–R182): a bias reading judges the channel, a sample joins its crate and moves the write index, the overall level
is given or goes stale, settling ends, and the edges and deadlines of a tachometer move its state. Where the spec leaves a value or an order
open, the model's choice stands in log entries 5, 40, 85, 86, 87, 88, 89, 129. -/
def Obligations.DynamicChannelsComplete : Prop :=
  ∀ (t : Nat) (ch : Fin 16) (v0 v30 : Int) (gerr oerr : Q) (over30 clip cm compliance : Bool) (volts vsx : Q) (s : State) (e : Nat)
    (rest : List Nat),
    let u := s.at t
    let b := P.DYN ch.val
    let c := u.dch ch.val
    (u.domainOn 4 → u.dynMode ch.val = 1 →
      let ok := Q.le (Q.ofNat 21) vsx
      let w := (u.setFb P.DYNC R.DYN_COM_STAT_vsx_ok ok).setFv b R.DYN_BIAS_V_bias (toB32 volts).toNat
      let above := Q.lt (Q.frac (w.fv b R.DYN_BIAS_bias_hi) 10) volts
      let below := Q.lt volts (Q.frac (w.fv b R.DYN_BIAS_bias_lo) 10)
      exec (.biasMonitor t ch volts vsx compliance) s = .next
        ((w.dynFaults ch.val 0x13 ((if above then 1 else 0) + (if below then 2 else 0) + (if !ok || compliance then 16 else 0))).dynShow ch.val)) ∧
    (u.domainOn 4 → u.dynMode ch.val ≠ 0 →
      let mode := u.dynMode ch.val
      let w := if clip then (u.setDch ch.val { c with clipAt := some u.now }).satInc b R.DYN_CLIPS_clips 1 else u
      let w := w.dynAvdd ch.val
      let clipped := (w.dch ch.val).clipAt.any (fun a => decide (w.now < a + secs 1))
      let w := w.dynFaults ch.val (if mode = 1 then 8 else if mode = 2 then 12 else 4) ((if cm then 4 else 0) + (if clipped then 8 else 0))
      let d := w.dch ch.val
      let inv := decide (w.dynLive ch.val &&& dynMarking ≠ 0) || w.fb b R.DYN_STAT_settling || d.ovlEnd.any (fun a => decide (w.now < a)) ||
        w.linkOn 8 ch.val
      let paths := d.paths.add (w.fv b R.DYN_MODE_div) v0 v30
      let k := paths.correction gerr oerr
      let r := d.merge v0 (Q.round (Q.add (Q.mul (Q.ofInt v30) k.1) k.2)) (below30 v30) over30 clip inv
      let j := w.fv b R.DYN_WIDX_widx
      let w := if d.disc then (w.setFv b R.DYN_RUN_IDX_run_idx j).setStamp b R.DYN_RUN_T_LO_t R.DYN_RUN_T_HI_t w.now else w
      let w := w.setDch ch.val { r.2.2 with paths := paths }
      let w := if d.disc then w.setPlane (4 * ch.val + 3) ((w.plane (4 * ch.val + 3)).streamFrom 1 0) else w
      let w := w.nodeWriteLe (0x40000000 + ch.val * 0x400000 + j % 2 ^ 20 * 4) 4 r.2.1
      let w := (w.wrapInc b R.DYN_WIDX_widx 1).setFb b R.DYN_STAT_hg (decide (r.2.1 / 2 ^ 28 % 2 = 1))
      let w := w.setFv b R.DYN_GM_gm (uext 16 (gainCode k.1))
      exec (.dynSample t ch v0 v30 gerr oerr over30 clip cm) s =
        .next ((((w.levelSample ch.val r.1 d.disc inv).edgeSample ch.val r.1).zoomSample ch.val).dynShow ch.val)) ∧
    (u.domainOn 4 → u.dynLevels ch.val → u.fv b R.DYN_OVL_t_upd ≤ c.ovl.since →
      let w := u.setDch ch.val { c with ovl := { c.ovl with since := 0 } }
      let ok := decide (w.fv b R.DYN_OVL_t_win ≤ c.ovl.blocks.length) && !w.fb b R.DYN_STAT_settling && decide (w.dynLive ch.val &&& 0x7F = 0)
      let v := toB32 (w.overall ch.val)
      let x := w.setDch ch.val { w.dch ch.val with ovlOk := true, held := false }
      let x := (x.dynFaults ch.val 0x80 0).setFv b R.DYN_OVL_V_ovl v.toNat
      exec (.overallLevel t ch) s = .next
        (if ok then (x.sourceWrite (0x20 + ch.val) v (x.dynQuality ch.val) 2 x.now).dynShow ch.val
         else (w.setDch ch.val { w.dch ch.val with ovlOk := false }).dynShow ch.val)) ∧
    (c.settlingFrom = some e → u.domainOn 4 → u.dynQuality ch.val = 1 → e + msecs (u.fv b R.DYN_OVL_STALE_tol) ≤ u.now →
      exec (.overallStale t ch) s = .next ((u.dynFaults ch.val 0x80 0x80).dynShow ch.val)) ∧
    (let w := if u.domainOn 4 = true ∧ u.dynMode ch.val ≠ 0 then (u.dynAvdd ch.val).dynShow ch.val else u
     (w.dch ch.val).settleEnd = some e → w.domainOn 4 → e ≤ w.now →
      exec (.channelSettled t ch) s = .next
        (if w.dynLive ch.val &&& dynMarking ≠ 0 then w.dynShow ch.val
         else ((w.setDch ch.val { (w.dch ch.val).newWindow with settleEnd := none }).setFv b R.DYN_STAT_settling 0).dynShow ch.val)) ∧
    (c.found = e :: rest → u.domainOn 4 → u.dynMode ch.val = 3 →
      let n := u.fv b R.DYN_EIDX_eidx
      let flags := e % 16 + u.fv b R.DYN_TACH_pol * 16 + (if c.edgeDisc then 32 else 0)
      let w := u.nodeWrite (0x00400000 + ch.val * 0x80000 + n % 32768 * 16) (leBytes 8 (e / 16) ++ [byte flags, 0#8, 0#8, 0#8] ++ leBytes 4 n)
      let w := (w.wrapInc b R.DYN_EIDX_eidx 1).setDch ch.val { c with found := rest, edgeDisc := false }
      let w := if w.deadlinePassed ch.val e then w.tachoLost ch.val else w
      let was := w.fv b R.DYN_STAT_tstate
      let x := match c.edge with
        | some p => w.tachoInterval ch.val e (e - p)
        | none => w.setDch ch.val { w.dch ch.val with edge := some e }
      exec (.tachoEdge t ch) s = .next
        (x.setDch ch.val ((x.dch ch.val).lockedEdge n (decide (was = 2) && decide (x.fv b R.DYN_STAT_tstate = 2))))) ∧
    (u.domainOn 4 → u.dynMode ch.val = 3 → u.deadlinePassed ch.val (Nat.min (u.now * 16) (c.found.headD (u.now * 16))) →
      exec (.tachoDeadline t ch) s = .next (u.tachoLost ch.val))

/-- Planes and the store (R183–R207, R228–R231): the end of a record begins the builds of its planes, a build is committed unless the other
half is latched, and the plane's quality follows its age; a scrub pass, a spared row, a moved row and the end of a notice are shown. Where
the spec leaves a value or an order open, the model's choice stands in log entries 5, 41, 58, 59, 80, 81, 82, 83, 84, 91, 99, 101, 130. -/
def Obligations.PlanesAndStoreComplete : Prop :=
  ∀ (t wear : Nat) (ch shelf : Fin 16) (plane : Fin 64) (errs : List (Nat × Q)) (ecc : EccFinds) (s : State) (b : SpxBuild) (row : Nat × Nat),
    let u := s.at t
    (u.recordEnds ch.val →
      let f := u.eccFinds ecc
      let w := f.setDch ch.val { u.dch ch.val with recNext := (u.dch ch.val).count + (if f.fb P.SPXC R.SPX_STAT_hot_rate then 2 ^ 19 else 2 ^ 18) }
      let words := w.latestWords ch.val (2 ^ 20)
      let planes := (([0, 1, 2] : List Nat).map (fun p => 4 * ch.val + p)).filter w.planeBuilt
      let drops := planes.any (fun i => (w.plane i).work.isSome) || w.linkOn 9 ch.val || words.any (fun x => wordInv x.2) ||
        w.anyPoison (0x40000000 + ch.val * 0x400000) 0x400000
      exec (.recordEnd t ch ecc) s = .next
        (if drops then planes.foldl (fun (v : State) i => v.planeDrop i) w else planes.foldl (fun (v : State) i => v.recordBuild i words) w)) ∧
    (u.zoomEnds (4 * ch.val + 3) →
      let i := 4 * ch.val + 3
      let x := u.plane i
      let w := u.setPlane i { x with recNext := x.streamed + (if u.fb P.SPXC R.SPX_STAT_hot_rate then 2 ^ 17 else 2 ^ 16) }
      let first := x.streamed - 2 ^ 18
      let record := (x.stream.filter (fun y => decide (first ≤ y.1))).map (fun y => (y.1 - first, y.2))
      exec (.zoomRecordEnd t ch) s = .next
        (if x.work.isSome || w.linkOn 9 ch.val || x.bad.any (fun m => decide (first ≤ m)) then w.planeDrop i
         else w.beginBuild i (w.sampleStamp ch.val ((w.dch ch.val).count - 1)) Q.zero (.stream (w.fv (P.SPX i) R.SPX_PL_P0_ZOOM_z) record))) ∧
    ((u.plane plane.val).work = some b →
      let i := plane.val
      (u.mayCommit i b = false → exec (.planeCommit t plane errs ecc) s = .next (u.setPlane i { u.plane i with work := none })) ∧
      (u.mayCommit i b →
        let w := u.eccFinds ecc
        let w := if (u.plane i).wait.isSome then w.planeDrop i else w
        let w := w.setPlane i { u.plane i with work := none, wait := none }
        exec (.planeCommit t plane errs ecc) s = .next
          (if w.halfLatched i (1 - w.fv (P.SPX i) R.SPX_PL_STAT_half) then w.setPlane i { w.plane i with wait := some (b, errs) }
           else w.commitBuild i b errs))) ∧
    exec (.planeStale t plane) s = .next (u.planeShow plane.val) ∧ exec (.planeCommitOverdue t plane) s = .next (u.planeShow plane.val) ∧
    (u.domainOn 7 →
      (u.fb P.STO R.STO_STAT_scrub ∨ u.fb P.STO R.STO_SCRUB_en →
        let w := u.eccFinds ecc
        let w := ({ w with sto := { w.sto with passRows := [] } } : State)
        exec (.scrubPassEnd t ecc) s = .next ((w.setFb P.STO R.STO_STAT_scrub (w.fb P.STO R.STO_SCRUB_en)).irq P.STO 3)) ∧
      (u.sto.dueRows.find? (fun r => decide (r.1 = shelf.val)) = some row →
        let here (a : Nat) : Bool := decide (u.rowOf a = row)
        let w := u.eccFinds { corrected := ecc.corrected.filter here, lost := ecc.lost.filter here }
        exec (.rowSpare t shelf ecc) s =
          .next ({ w with sto := { w.sto with
            spares := w.sto.spares.set shelf.val (w.sto.spares.getD shelf.val 0 - 1)
            dueRows := w.sto.dueRows.filter (fun y => decide (y ≠ row)) } } : State).spareShow) ∧
      exec (.wearMove t wear) s = .next (u.setFv P.STO R.STO_WEAR_wear (Nat.min wear 100))) ∧
    (u.sto.slackOk.any (fun x => decide (x + secs 3600 ≤ u.now)) → exec (.noticeClear t) s = .next (u.setFv P.STO R.STO_STAT_notice 0))

/-- Point evaluation (R232–R262): a scalar pass renews the supervised points and judges the scalars due; a sweep starts, evaluates each
plane in turn with its re-evaluations, and ends with its length; changes wait while their queue is full, and the alarm handler takes the
earliest, unless what follows from it touches a point at which the engine waits (R254) or finds no room in the queue (R249). Where the spec
leaves a value or an order open, the model's choice stands in log entries 5, 42, 59, 94, 95, 96, 97, 98, 126. -/
def Obligations.EvaluationCompletes : Prop :=
  ∀ (t reev conflict shelf : Nat) (vmain avdd vsx vbackup temp power : Q) (ecc : EccFinds) (s : State),
    let u := s.at t
    (u.domainOn 6 → u.ptePaused = false →
      let w := ((u.eccFinds ecc).renewPoints vmain avdd vsx vbackup temp power).hotRate
      let w := w.laneGo reev
      exec (.scalarPass t vmain avdd vsx vbackup temp power reev ecc) s = .next
        (if w.fb P.PTE R.PTE_CTRL_sc_en && w.pte.lane.isNone && !w.changesFull then w.lanePass reev
         else w.irqIf w.changesFull P.PTE 4).tempBand.safShow) ∧
    (u.sweepMay →
      let w := (u.wrapInc P.PTE R.PTE_SWEEP_seq 1).setStamp P.PTE R.PTE_SWEEP_T_LO_t R.PTE_SWEEP_T_HI_t u.now
      let w := (w.setFv P.PTE R.PTE_STAT_sweeping 1).setFv P.PTE R.PTE_FRONTIER_idle 0
      let w := ({ w with pte := { w.pte with
        sweepStart := w.now, atPlane := none, squashed := w.pte.squashed.filter (fun y => isScalar y.1) } } : State)
      exec (.sweepStart t) s = .next (w.frontier (w.nextPlane 0))) ∧
    (u.domainOn 6 → u.ptePaused = false → u.fb P.PTE R.PTE_STAT_sweeping → u.changesFull = false →
      let w := if u.pte.atPlane.isNone then u.frontier (Nat.max u.pte.nextPoint (u.nextPlane (planeNo u.pte.nextPoint))) else u
      let i := planeNo w.pte.nextPoint
      let e := w.eccFinds ecc
      let v := if e.pte.atPlane.isNone then e.enterPlane i else e
      let ps := v.planePoints i
      let judged (x : AtPlane) : State := ((v.sweepEval x ps).classEvents w).safShow
      exec (.planeEvaluation t reev ecc) s = .next
        (if specEnd ≤ w.pte.nextPoint then w
         else if !w.fb P.PTE R.PTE_CTRL_sp_en then w.leavePlane i
         else match v.pte.atPlane with
          | none => v
          | some x => if (judged x).diagRuns 7 then (judged x).wrapInc P.SAF R.SAF_REEV_reev (Nat.min reev ps.length) else judged x)) ∧
    (u.domainOn 6 → u.ptePaused = false → u.fb P.PTE R.PTE_STAT_sweeping → u.pte.atPlane = none → specEnd ≤ u.nextPlane (planeNo u.pte.nextPoint) →
      let len := u.now - u.pte.sweepStart
      let cs := Nat.min 65535 (toMs len / 10)
      let late := decide (secs 10 < len)
      let w := u.setFv P.PTE R.PTE_SWEEP_LEN_last cs
      let w := (w.setFv P.PTE R.PTE_SWEEP_LEN_max (Nat.max cs (w.fv P.PTE R.PTE_SWEEP_LEN_max))).setFb P.PTE R.PTE_STAT_late late
      let w := if late then (w.satInc P.PTE R.PTE_LATE_sweeps 1).irq P.PTE 1 else w
      let w := ((w.setFv P.PTE R.PTE_STAT_sweeping 0).setFv P.PTE R.PTE_FRONTIER_idle 1).irq P.PTE 0
      exec (.sweepEnd t conflict shelf) s = .next (w.stoSweep cs conflict shelf)) ∧
    (u.alhRuns → u.fb P.ALH R.ALH_CTRL_en → ∀ c, (earliestChange u.pte.changes).map (fun x => x.1) = some c →
      let x := ((u.eccFinds ecc).alhUpTo c.stamp).takeChange
      (u.touchesStalled x ∨ u.overfills x → exec (.pointChange t ecc) s = .next u) ∧
      (¬(u.touchesStalled x ∨ u.overfills x) → exec (.pointChange t ecc) s = .next x))

/-- Alarm entries (R270–R281): the release of a mode suppression, the expiry of a shelving, the end of a suppression hold, the decision of a
pending entry and the end of a first-out window each take effect at their time, or wait while they touch a point at which the evaluation
engine waits (R254) or find no room in the change queue (R249). Calls and their answers (R286–R291): a rung passes unless an answer stamped
before it has moved the call, an active call is repeated, the status frame is sent; the oldest waiting ANSWER takes effect after what is
stamped before it (R282): alone, it acts by its kind, and one that no longer fits is counted. An answer that would touch a point at which
the evaluation engine waits (R254), or finds no room in the change queue (R249), waits. Where the spec leaves a value or an order open, the
model's choice stands in log entries 6, 43, 97, 102, 103, 104, 107, 131, 132. -/
def Obligations.AlarmsComplete : Prop :=
  (∀ (t d : Nat) (entry : Fin 16384) (slot group : Fin 1024) (s : State) (x : Slot),
     let u := s.at t
     let y := u.entry entry
     let takes (c : Instr) (x : State) : Prop :=
       (u.touchesStalled x ∨ u.overfills x → exec c s = .next u) ∧ (¬(u.touchesStalled x ∨ u.overfills x) → exec c s = .next x)
     u.alhRuns →
     (y.modeDrop = some d → d ≤ u.now →
       takes (.supModeRelease t entry) (u.alhOverlay entry { y with supMode := false, modeDrop := none } u.now 5 0 0)) ∧
     (SMap.get? u.alh.slots slot = some x → x.expiry ≤ u.now → u.anyPoison (0x00E50000 + slot.val * 16) 16 = false →
       takes (.shelveExpiry t slot) ((u.unshelve x.entry 0 0).irq P.ALH 5)) ∧
     takes (.suppressionHoldEnd t entry) ((u.alhJudge entry 6).judgeFrom entry) ∧
     (y.pendUntil = some d → d < u.now →
       let z := match u.causeOf entry with
         | some c => { y with pending := false, pendUntil := none, supGraph := true, cause := c }
         | none => { y with pending := false, pendUntil := none, supGraph := false, cause := 0xFFFF }
       takes (.pendingDecided t entry) (u.alhOverlay entry z u.now 9 0 0)) ∧
     exec (.firstOutFinal t group) s = .next (u.foFinal group)) ∧
  (∀ (t stamp : Nat) (ladder : Fin 8) (d : List Byte) (rest : List (Nat × List Byte)) (s : State),
     let u := s.at t
     let takes (c : Instr) (x : State) : Prop :=
       (u.touchesStalled x ∨ u.overfills x → exec c s = .next u) ∧ (¬(u.touchesStalled x ∨ u.overfills x) → exec c s = .next x)
     u.alhRuns →
     (u.rungDue ladder →
       let w := u.alhUpTo (u.stamp (P.ALHLD ladder) R.ALH_LD_DL_LO_dl R.ALH_LD_DL_HI_dl)
       exec (.rungDeadline t ladder) s = .next (if w.rungDue ladder then w.rungMove ladder else w)) ∧
     (u.callActive ladder → u.repeatDue (SMap.get (fun _ => Call.none_) u.alh.calls ladder).sent →
       exec (.callRepeat t ladder) s = .next (u.callChanged ladder)) ∧
     (u.fb P.ALH R.ALH_CAN_en → u.repeatDue u.alh.statusAt →
       exec (.statusFrame t) s = .next (({ u with alh := { u.alh with statusAt := some u.now } } : State).alhSend 125 u.statusFrame)) ∧
     (u.alh.answers = (stamp, d) :: rest →
       (answerKind d = 1 → takes (.answerAccept t) (u.alhUpTo stamp)) ∧
       (answerKind d = 2 → takes (.answerAckEntry t) (u.alhUpTo stamp)) ∧
       (answerKind d = 3 → takes (.answerAckGroup t) (u.alhUpTo stamp)) ∧
       (answerKind d = 4 → takes (.answerAckCall t) (u.alhUpTo stamp)) ∧
       (answerKind d = 5 → takes (.answerTakeDuty t) (u.alhUpTo stamp)) ∧
       (answerKind d = 6 → takes (.answerResetEntry t) (u.alhUpTo stamp))) ∧
     (u.alh.answers = [(stamp, d)] → u.pte.changes = [] →
       let w : State := { u with alh := { u.alh with answers := [] } }
       let node := (d.getD 0 0#8).toNat
       let n := (d.getD 2 0#8).toNat + (d.getD 3 0#8).toNat * 256
       let l := (d.getD 4 0#8).toNat
       let cmd (op idx arg : Nat) : State × Nat := w.alhOp op idx arg 2 node stamp false
       let taken (x : State) (ok : Bool) : State := if ok then x else (x.satInc P.ALH R.ALH_IGN_ign 1).irq P.ALH 7
       (answerKind d = 1 → takes (.answerAccept t)
         (if l < 8 ∧ w.callActive l ∧ notOlder n (w.fv (P.ALHLD l) R.ALH_LD_SEQ_rseq) then (w.callAccept l stamp).1 else taken w false)) ∧
       (answerKind d = 2 → takes (.answerAckEntry t)
         (taken (cmd 1 n l).1 (decide ((cmd 1 n l).2 ≠ 3) && decide ((cmd 1 n l).2 ≠ 4)))) ∧
       (answerKind d = 3 → takes (.answerAckGroup t) (taken (cmd 2 n 0).1 (decide ((cmd 2 n 0).2 ≠ 4)))) ∧
       (answerKind d = 4 → takes (.answerAckCall t)
         (if l < 8 then (w.alhAck (((w.callEntries l).filter (fun e => notOlder n e.2.join)).map (fun e => e.1)) 2 node stamp).1
          else taken w false)) ∧
       (answerKind d = 5 → takes (.answerTakeDuty t)
         (match (List.range 32).find? (fun k => decide (w.fv P.ALH (R.ALH_TGT_kind.nth k) = 1) &&
             decide (w.fv P.ALH (R.ALH_TGT_addr.nth k) = node)) with
          | some k => (w.setFv P.ALH R.ALH_DUTY_target k).setFv P.ALH R.ALH_DUTY_src 2
          | none => taken w false)) ∧
       (answerKind d = 6 → takes (.answerResetEntry t)
         (taken (cmd 4 n l).1 (decide ((cmd 4 n l).2 ≠ 3) && decide ((cmd 4 n l).2 ≠ 4))))))

/-- The function-block engine and the recorder (R301–R326, R332–R346): releases stamp their task, the waiting task of the highest priority
starts a cycle, a cycle commits (unless it must wait, R249, R254), an online change is prepared and taken at the seam; a trigger is
captured, a staged crate written, and what a power loss took is recorded as one loss marker. Where the spec leaves a value or an order open,
the model's choice stands in log entries 6, 33, 34, 44, 97, 111, 112, 113, 118, 135. -/
def Obligations.EngineAndRecorderComplete : Prop :=
  ∀ (t r stamp prio n : Nat) (rest : List Nat) (task : Fin 8) (s : State) (p new : Program) (c : Cycle) (g : Trigger) (gs : List Trigger)
    (l : Nat × Nat × Nat) (ecc : EccFinds),
    let u := s.at t
    (u.ready → u.pstate < 2 → u.releasesEnd = false → u.taskOn task.val → (u.taskEntry task.val).kind = 1 → u.releaseStamp task.val = some r →
      (u.task task.val).rel.any (fun q => decide (r ≤ q)) = false →
      let w := u.setTask task.val { u.task task.val with rel := some r }
      exec (.cyclicRelease t task) s = .next
        (if w.fbeHalted || (u.task task.val).cycle.isSome || (u.task task.val).released.isSome then w.taskOverrun task.val
         else w.releaseTask task.val r)) ∧
    (let k := 8 + task.val
     let x := u.task k
     u.ready → u.pstate < 2 → u.releasesEnd = false → u.fbeHalted = false → u.taskOn k → x.cycle = none → x.released = none →
      x.queue = stamp :: rest → x.last.any (fun q => decide (u.now < q + msecs (u.taskEntry k).period)) = false →
      exec (.eventRelease t task) s = .next ((u.setTask k { x with queue := rest }).releaseTask k stamp)) ∧
    (u.domainOn 8 → u.fv P.FBE R.FBE_STAT_olc < 2 → u.program = some p → u.waitingTask = some (prio, stamp, n) →
      u.runningTask.any (fun q => decide (prio ≤ q.1)) = false → exec (.cycleStart t ecc) s = .next ((u.eccFinds ecc).startCycle p n stamp)) ∧
    (u.domainOn 8 → u.program = some p → u.runningTask = some (prio, stamp, n) → (u.task n).cycle = some c →
      let x := u.commitCycle p n c
      (u.touchesStalled x ∨ u.overfills x → exec (.cycleCommit t) s = .next u) ∧
      (¬(u.touchesStalled x ∨ u.overfills x) → exec (.cycleCommit t) s = .next x)) ∧
    (let v := u.olcLate
     v.domainOn 8 → v.fbe.banks.getD v.standby none = some new →
      let h := v.fv P.FBE R.FBE_STAT_ihalf
      (v.fv P.FBE R.FBE_STAT_olc = 1 →
        exec (.olcPrepared t) s = .next ((v.buildHalf v.program new h (1 - h)).setFv P.FBE R.FBE_STAT_olc 2)) ∧
      (v.fv P.FBE R.FBE_STAT_olc = 2 → v.runningTask = none → exec (.seam t) s = .next (v.seam new))) ∧
    (u.ready → u.life ≠ 3 → u.captureWaits = false → u.evr.queue = g :: gs →
      exec (.crateCapture t ecc) s = .next ((({ u with evr := { u.evr with queue := gs } } : State).eccFinds ecc).captureTrigger g)) ∧
    (u.ready → u.evr.paused = false → u.evr.loss = none →
      (u.evr.larder ≠ [] ∨ u.markerWaits → exec (.crateWrite t) s = .next u.writeStaged) ∧
      (u.evr.larder = [] → u.markerWaits = false → u.fullMarkerOpen → u.regionClosed → exec (.crateWrite t) s = .next u.writeFullMarker)) ∧
    (u.ready → u.evr.paused = false → u.evr.loss = some l → u.fv P.EVR R.EVR_WIDX_widx < 4194304 →
      let w := ({ u with evr := { u.evr with loss := none } } : State)
      let seq := nextSeq w.evr.lastSeq
      let m : Marker := { kind := 2, count := l.1, tFirst := l.2.1, tLast := l.2.2, srcMask := 0, entry := 0xFFFF, qfull := 0, closed := none }
      exec (.lossMarker t) s =
        .next (({ w with evr := { w.evr with lastSeq := seq } } : State).putCrate (u.fv P.EVR R.EVR_WIDX_widx)
          (markerCrate m seq w.calendar w.clockFlags)))

/-- The timebase (R347–R369): once a second the pulse count is recorded, the reference (its diagnostic has failed until then) and the
crystal stop and return, the time writes whose pulse has come are applied in their order, an alarm fires or is kept, the periodic event and
the free weekday advance, the temperature term is renewed, and the calendar halts at its top. Where the spec leaves a value or an order
open, the model's choice stands in log entries 5, 6, 55, 117, 119. -/
def Obligations.ClockCompletes : Prop :=
  ∀ (t : Nat) (b : Bool) (xratio : Int) (temp : Q) (s : State),
    let u := s.at t
    (u.corOn →
      (u.recordDue → exec (.timebaseRecord t xratio) s = .next (u.recordTimebase.setFv P.TBS R.TBS_XRATIO_ratio (uext 32 xratio))) ∧
      exec (.referenceStopped t) s = .next ({ u with tbs := { u.tbs with refOk := false } } : State) ∧
      exec (.referenceReturn t) s = .next ({ u.failsUntil 3 (!u.tbs.refOk) with tbs := { u.tbs with refOk := true } } : State) ∧
      (let come (w : TimeWrite) : Bool := decide (1 ≤ u.pulsesFrom w.stamp)
       exec (.timeWriteApply t) s = .next ((u.tbs.writes.filter come).foldl State.applyTimeWrite
         ({ u with tbs := { u.tbs with writes := u.tbs.writes.filter (fun w => !come w) } } : State))) ∧
      (u.fb P.TBS R.TBS_PER_en → u.calCounts → u.perNext ≤ u.tbs.cal →
        exec (.periodicEvent t) s =
          .next ((({ u with tbs := { u.tbs with perFrom := u.perNext } } : State).wrapInc P.TBS R.TBS_ALM_STAT_per_cnt 1).irq P.TBS 2))) ∧
    (u.cellarOn →
      (let r := ({ u with tbs := { u.tbs with x32Run := false, runBroken := u.tbs.runBroken || !u.corOn } } : State).setFv P.TBS R.TBS_STAT_osf 1
       exec (.oscStop t) s = .next (if r.corOn then (r.setFv P.TBS R.TBS_STAT_x32_ok 0).irq P.TBS 3 else r)) ∧
      (let r := ({ u with tbs := { u.tbs with x32Run := true, runBroken := u.tbs.runBroken || !u.corOn } } : State)
       exec (.x32Restart t) s = .next (if r.corOn then r.setFv P.TBS R.TBS_STAT_x32_ok 1 else r)) ∧
      (calTop ≤ u.tbs.cal → exec (.calendarTop t) s = .next (u.setFv P.TBS R.TBS_STAT_halted 1)) ∧
      (u.tbs.tcompAt.any (fun x => decide (u.now < x + secs 64)) = false →
       let dT := Q.sub temp (Q.ofInt (sext 8 (u.fv P.TBS R.TBS_TCOMP_t0)))
       let term := Q.round (Q.div (Q.mul (Q.mul (Q.ofNat (u.fv P.TBS R.TBS_TCOMP_k)) (Q.mul dT dT)) (Q.ofNat 4294967296)) (Q.ofNat 10000000000))
       let r := ({ u with tbs := { u.tbs with tempTerm := if u.fb P.TBS R.TBS_TCOMP_en then term else 0, tcompAt := some u.now } } : State)
       exec (.tcompUpdate t temp) s = .next (if r.corOn then r.setFv P.TBS R.TBS_CTEMP_temp (toB32 temp).toNat else r))) ∧
    exec (.alarmFire t b) s = .next (u.alarmFire b) ∧
    (u.calCounts → u.tbs.wdayAt < u.localDay →
      exec (.weekdayAdvance t) s =
        .next (({ u with tbs := { u.tbs with wdayAt := u.tbs.wdayAt + 1 } } : State).setFv P.TBS R.TBS_WDAY_free
          (u.fv P.TBS R.TBS_WDAY_free % 7 + 1)))

/-- Barrier and attic A (R370–R387): frames down and up, the loss of the link, the field supply, trips, and the inputs with their debounce.
Where the spec leaves a value or an order open, the model's choice stands in log entries 5, 49, 57, 120. -/
def Obligations.AtticACompletes : Prop :=
  ∀ (t seq rb mV r a : Nat) (ok : Bool) (ball rise fall : Int) (ch : Fin 16) (line : Fin 8) (s : State),
    let u := s.at t
    let with_ (d : Dio) : State := { u with dio := d }
    let field : State :=
      let w := with_ { u.dio with
        vfield := mV
        vf18 := u.dio.vf18 && decide (18000 ≤ mV)
        rise18 := if mV < 18000 then none else some (u.dio.rise18.getD u.now)
        wb := if mV < 16000 then 0 else u.dio.wb
        selfFail := u.dio.selfFail && !(decide (u.dio.vfield < 12000) && decide (12000 ≤ mV)) }
      if mV < 16000 then w.islandDisarm else w.inputsFollow
    (u.corOn → u.dio.downSlot ≠ some (frameSlot u.now) →
      let n := (u.dio.downSeq + 1) % 16
      let slot := (u.dio.cfgSlot + 1) % 34
      let good := ok && u.dio.downRx.all (fun q => decide (n = (q + 1) % 16))
      let w := with_ { u.dio with
        downSeq := n, cfgSlot := slot, downSlot := some (frameSlot u.now), downBits := u.downFrame n slot
        sent := u.doEffBits, downRx := if good then some n else u.dio.downRx }
      exec (.downFrameA t ok) s = .next (if !good || w.linkTest 1 then w else w.islandTakes)) ∧
    (12000 ≤ u.dio.vfield → u.dio.upSlot ≠ some (frameSlot u.now) →
      let mine := decide (frameSlot u.now ≤ u.dio.edgeSlot + 1)
      let edges := if mine then u.dio.edges else []
      let lost := if mine then u.dio.lost else 0
      let w := with_ { u.dio with edges := [], lost := 0, upSlot := some (frameSlot u.now), upBits := u.upFrameBits seq rb edges }
      ((w.corOn = false ∨ w.linkTest 1) → exec (.upFrameA t ok seq rb) s = .next w) ∧
      (w.corOn → w.linkTest 1 = false →
        let v := w.upFrameSeen ok seq
        let x := (v.failsUntil 9 v.upLateA).upFrameA seq rb edges lost
        exec (.upFrameA t ok seq rb) s = .next
          (if frameGood w.dio.upSeq ok seq then x.2.foldl (fun (w : State) (e : Nat × Bool × Nat) => w.inputEdge e.1 e.2.1 e.2.2) x.1
           else v.upFrameBad))) ∧
    (u.corOn → u.fv P.DIO R.DIO_STAT_link = 1 → u.dio.lastUp + msecs 1 ≤ u.now →
      let w := with_ { u.dio with arm := false, goodUp := 0, upSeq := none, upRx := none }
      let w := w.setFv P.DIO R.DIO_STAT_link (if w.fv P.DIO R.DIO_STAT_vfield < 65 then 2 else 0)
      exec (.linkALost t) s = .next (((w.irq P.DIO 6).showRearm.showThr.sourceQuality 0x38 3).sourceQuality 0x39 3)) ∧
    (u.dio.lastDown + msecs 1 ≤ Nat.max t u.now →
      exec (.islandADisarm t) s = .next (with_ { u.dio with downRx := none }).islandDisarm) ∧
    exec (.islandSelfCheckFail t) s = .next (with_ { u.dio with selfFail := true }).islandDisarm ∧
    exec (.vfieldWarn t mV) s = .next field ∧ exec (.vfieldOff t mV) s = .next field ∧ exec (.vfieldRise t mV) s = .next field ∧
    (field.dio.rise18 = some r → r + msecs 50 ≤ field.now →
     let w := ({ field with dio := { field.dio with vf18 := true } } : State)
     exec (.vf18 t mV) s = .next
       (if w.corOn && w.dio.startArm && !w.dio.first && decide (w.now < w.dio.lastDown + msecs 1) then w.islandArm else w)) ∧
    (u.doBall line → SMap.get? u.dio.onFrom line = some a → a + msecs 2 ≤ u.now →
      exec (.outputTrip t line) s = .next (with_ { u.dio with trips := withBit u.dio.trips line true }).outputsTimed) ∧
    exec (.diInputChange t ch ball rise fall) s =
      .next (with_ { u.dio with balls := SMap.insert u.dio.balls ch (ball, rise, fall) }).inputsFollow ∧
    (let from_ := SMap.get (fun _ => 0) u.dio.since ch
     bitAt u.dio.judged ch ≠ bitAt u.dio.debounced ch → from_ + u.debounce ch ≤ u.now →
      let here := decide (u.dio.edgeSlot = frameSlot u.now)
      let edges := if here then u.dio.edges else []
      exec (.debouncedEdge t ch) s = .next (with_ { u.dio with
        debounced := withBit u.dio.debounced ch (bitAt u.dio.judged ch),
        edges := edges.filter (fun e => decide (e.1 ≠ ch.val)) ++ [(ch.val, from_)],
        edgeSlot := frameSlot u.now,
        lost := (if here then u.dio.lost else 0) + (if edges.any (fun e => decide (e.1 = ch.val)) then 1 else 0) })) ∧
    (u.fb P.DIO (R.DIO_DIN_wb_en.nth ch) → SMap.get? u.dio.lowFrom ch = some a → a + msecs 10 ≤ u.now →
      exec (.wireBreak t ch) s = .next (with_ { u.dio with wb := withBit u.dio.wb ch true }))

/-- Attic B (R388–R401): frames down and up, the loss of the link, the failure and the supply of the island, regulation and compliance of
the loops, and the FSK transmissions and receptions. Where the spec leaves a value or an order open, the model's choice stands in log
entries 5, 49, 57, 121. -/
def Obligations.AtticBCompletes : Prop :=
  ∀ (t seq mV carrier : Nat) (ok carries : Bool) (temp : Q) (rb hr : List Q) (ch : Fin 4) (chars : List (Byte × Bool)) (stamp h : Nat)
    (s : State),
    let u := s.at t
    let b := P.LPOCH ch
    let c := u.loop ch
    let all (f : State → Nat → State) (w : State) : State := (List.range 4).foldl f w
    (u.corOn → u.lpo.downSlot ≠ some u.frameSlotB →
      let n := (u.lpo.downSeq + 1) % 16
      let good := ok && !u.atticBOff && u.lpo.downRx.all (fun q => decide (n = (q + 1) % 16))
      let w := ({ u with lpo := { u.lpo with
        downSeq := n, downSlot := some u.frameSlotB, downRx := if good then some n else u.lpo.downRx } } : State)
      exec (.downFrameB t ok) s = .next (if !good || w.linkTest 2 then w else w.islandBTakes)) ∧
    (let u := ({ u with lpo := { u.lpo with temp := temp } } : State)
     u.corOn → u.linkTest 2 = false →
      let v := u.satInc P.LPO R.LPO_FRM_ERR_lost (framesMissing u.lpo.upRx ok seq)
      let bad := ({ v with lpo := { v.lpo with upRx := frameArrived v.lpo.upRx ok seq } } : State)
      let n := v.lpo.goodUp + 1
      let valid := decide (20 ≤ n) || decide (v.fv P.LPO R.LPO_STAT_link = 1)
      let w := ({ v.failsUntil 10 v.upLateB with lpo := { v.lpo with
        upRx := frameArrived v.lpo.upRx ok seq, goodUp := Nat.min 20 n, upSeq := some seq, lastUp := v.now
        upOff := decide (v.lpo.vloop < 9000) && !bad.sinkCarries
        lost := v.lpo.lost && !(valid && decide (v.now < v.lpo.lastDown + msecs 1)) } } : State)
      let w := if decide (20 ≤ n) && decide (v.fv P.LPO R.LPO_STAT_link ≠ 1) then (w.setFv P.LPO R.LPO_STAT_link 1).irq P.LPO 0 else w
      let was := w.fb P.LPO R.LPO_STAT_lpow
      let w := (w.setFb P.LPO R.LPO_STAT_lpow w.lpo.lpow).irqIf (was != w.lpo.lpow) P.LPO 1
      let w := (w.setFv P.LPO R.LPO_STAT_vloop (Nat.min 255 (w.lpo.vloop / 200))).setFv P.LPO R.LPO_TEMP_temp (toB32 temp).toNat
      exec (.upFrameB t ok seq carrier temp rb hr) s = .next (if frameGood u.lpo.upSeq ok seq then (all (fun w k =>
        (w.setFv (P.LPOCH k) R.LPO_CH_RB_rb (toB32 (rb.getD k Q.zero)).toNat).setFv (P.LPOCH k) R.LPO_CH_HR_hr (toB32 (hr.getD k Q.zero)).toNat) w
        ).carriers carrier
        else { bad.satInc P.LPO R.LPO_FRM_ERR_crc 1 with lpo := { bad.lpo with goodUp := 0 } })) ∧
    (u.corOn → u.fv P.LPO R.LPO_STAT_link = 1 → u.lpo.lastUp + msecs 1 ≤ u.now →
      let w := ({ u with lpo := { u.lpo with goodUp := 0, upSeq := none, upRx := none, lost := true } } : State)
      let w := (w.setFv P.LPO R.LPO_STAT_link (if u.lpo.upOff then 2 else 0)).irq P.LPO 0
      exec (.linkBLost t) s = .next
        ((List.range 8).foldl (fun (w : State) k => w.sourceQuality (0x50 + k) 3) (all (fun w k => (w.txFail k).loopStep k 0) w))) ∧
    (u.lpo.lastDown + msecs 1 ≤ Nat.max t u.now →
      exec (.islandBFail t) s =
        .next (all (fun w k => w.loopStep k 0) ({ u with lpo := { u.lpo with lost := true, downRx := none } } : State))) ∧
    exec (.loopPowerChange t mV carries) s = .next (all (fun w k => w.loopRegulate k) (u.islandSupply mV carries)) ∧
    (let dt := u.now - u.lpo.stepAt
     let w := all (fun w k => ((w.loopStep k dt).loopCeil k dt).loopRegulate k) ({ u with lpo := { u.lpo with stepAt := u.now } } : State)
     let hot := (List.range 4).any (fun k => Q.lt (w.loop k).ceil (Q.ofNat 24))
     exec (.regulationStep t) s =
      .next ((w.setFb P.LPO R.LPO_STAT_hot hot).irqIf (hot != w.fb P.LPO R.LPO_STAT_hot) P.LPO 2)) ∧
    (c.holds = some h → h + msecs 20 ≤ u.now → u.fb b R.LPO_CH_STAT_compliance = false →
      let w := (u.setFv b R.LPO_CH_STAT_compliance 1).irq b 0
      exec (.complianceSet t ch) s = .next (if w.fb b R.LPO_CH_CFG_comp_fail then w.setFv b R.LPO_CH_STAT_latched 1 else w)) ∧
    (c.absent = some h → h + msecs 20 ≤ u.now → exec (.complianceClear t ch) s = .next (u.setFv b R.LPO_CH_STAT_compliance 0)) ∧
    (u.fb b R.LPO_FSK_STAT_tx_busy →
      (c.sending = [] → u.carrierGone ch →
        let frame := u.pageBytes b 0x400 (u.fv b R.LPO_FSK_TXLEN_len)
        let chk := if u.fb b R.LPO_FSK_CFG_add_chk then [xorBytes frame] else []
        exec (.fskTxStart t ch) s =
          .next (u.setLoop ch { c with txFrom := u.now, sending := List.replicate (u.fv b R.LPO_FSK_CFG_tx_pre) 0xFF#8 ++ frame ++ chk })) ∧
      (c.sending ≠ [] → 11 * c.sending.length * secs 1 ≤ (u.now - c.txFrom) * 1200 →
        let w := (u.setFv b R.LPO_FSK_STAT_tx_busy 0).irq b 3
        exec (.txDone t ch) s = .next (w.setLoop ch { w.loop ch with sending := [] }))) ∧
    (c.sending = [] →
     let w := (u.setFv b R.LPO_FSK_STAT_carrier 0).setLoop ch { c with carrierAt := some u.now }
     let w := if w.fb b R.LPO_CH_CFG_wake && w.fb b R.LPO_CH_CFG_fsk && decide (w.fv P.LPO R.LPO_STAT_link = 1) then w.wakeSource 3 else w
     let l := fskFrom (w.fv b R.LPO_FSK_CFG_rx_pre) 0 chars
     let want := fskLength l
     let beyond := want.any (fun n => decide (272 < n))
     let short := want.all (fun n => decide (l.length < n))
     let frame := l.take (Nat.min 272 (want.getD 272))
     let bytes := frame.map (fun c => c.1)
     let err := if beyond then 3 else if frame.any (fun c => !c.2) then 1 else if short then 4 else if xorBytes bytes ≠ 0#8 then 2 else 0
     l ≠ [] → w.fb b R.LPO_CH_CFG_fsk → w.fv P.LPO R.LPO_STAT_link = 1 →
      (w.fb b R.LPO_FSK_STAT_rx_full = true → exec (.rxFrame t ch stamp chars) s = .next (w.satInc b R.LPO_FSK_STAT_rx_lost 1)) ∧
      (w.fb b R.LPO_FSK_STAT_rx_full = false →
        let w := (w.setStamp b R.LPO_FSK_RX_T_LO_t R.LPO_FSK_RX_T_HI_t (Nat.min stamp w.now)).setPageBytes b 0x200 bytes
        let w := ((w.setFv b R.LPO_FSK_STAT_rx_len bytes.length).setFv b R.LPO_FSK_STAT_rx_full 1).setFv b R.LPO_FSK_STAT_err err
        exec (.rxFrame t ch stamp chars) s = .next ((w.irqIf (!short || beyond) b 2).irqIf (decide (err ≠ 0)) b 4))) ∧
    (c.sending ≠ [] → exec (.rxFrame t ch stamp chars) s = .next u)

/-- CAN (R402–R425): a frame received finds its object and its readers; a transmission starts, succeeds or loses arbitration; errors move
the counters; recovery, integration, wake, time-out of a reply and new timing take effect. Where the spec leaves a value or an order open,
the model's choice stands in log entries 5, 47, 122. -/
def Obligations.CanCompletes : Prop :=
  ∀ (t tdcv late lec field extra o dl dom rec again whole filt window rate : Nat) (port : Fin 2) (object : Fin 128)
    (dphase free : Bool) (frame : CanFrame) (s : State),
    let u := s.at t
    let p := port.val
    (let stamp := Nat.min late u.now
     exec (.canFrameReceived t port late frame) s = .next (match u.canReceive p stamp frame with
      | (w, none) => w
      | (w, some k) =>
        let w := if p = 0 ∧ k = 126 ∧ w.fb P.ALH R.ALH_CAN_en then w.answerReceived stamp frame.data else w
        (List.range 16).foldl (fun (w : State) n =>
          if (w.taskEntry n).canEn && decide ((w.taskEntry n).canObj = p * 128 + k) then w.fbeTrigger n stamp else w) w)) ∧
    (u.canOn p → u.canMode p = 1 → (u.port p).sending = none → u.canWantsSleep p = false → u.canNext p = some o →
      let b := u.txBuf p o
      let w := u.setPort p { u.port p with sending := some o }
      let b := { b with frame := if u.canFdEn p then b.frame else classicalFrame b.frame }
      let w := (w.setTxBuf p o { b with sof := w.now }).setObj p o R.CAN_OBJ_STAT_tstate 2
      exec (.canTxStart t port tdcv) s = .next
        (if ((w.port p).cfg.getD 3 0#32).getLsbD 7 && b.frame.fd && b.frame.brs then w.setFv (P.CAN p) R.CAN_TDC_tdcv tdcv else w)) ∧
    (u.safOn → (u.port p).sending = some o →
      (let sof := (u.txBuf p o).sof
       let w := u.setStamp (objPage p o) (R.CAN_OBJ_T_LO_t.nth (o % 32)) (R.CAN_OBJ_T_HI_t.nth (o % 32)) sof
       let w := (((w.setObj p o R.CAN_OBJ_STAT_tstate 3).setObj p o R.CAN_OBJ_STAT_coll 0).objEvent p o 1).canGood p true
       let x := (w.setObj p o R.CAN_OBJ_STAT_reply_ok 0).setObj p o R.CAN_OBJ_STAT_reply_tmo 0
       let w := if w.objFb p o R.CAN_OBJ_RPL_en then
          x.setPort p { x.port p with replies := SMap.insert (x.port p).replies o (sof + msecs (x.objFv p o R.CAN_OBJ_RPL_window), false) }
         else w
       exec (.canTxSuccess t port) s = .next (w.canTxEnded p o)) ∧
      (let w := u.cancelled p o
       exec (.arbitrationLost t port) s = .next ((if (u.txBuf p o).late then w.setTxBuf p o { TxBuf.reset with next := (u.txBuf p o).next }
        else u.setObj p o R.CAN_OBJ_STAT_tstate 1).canTxEnded p o))) ∧
    (u.canErrs p →
      (1 ≤ lec → lec ≤ 6 → field ≤ 3 →
        exec (.canError t port lec dphase field free extra) s = .next (u.canErr p lec dphase field free extra)) ∧
      exec (.dominantTimeout t port) s = .next (u.canErr p 5 false 3 false 0)) ∧
    (u.canState p = 5 → u.canMode p ≠ 0 → u.domainOn 9 → u.canWantsSleep p = false →
      exec (.recoveryComplete t port) s =
        .next (((u.setCanState p 2).setPort p { u.port p with txErr := 0, rxErr := 0 }).canShow p)) ∧
    (u.canState p = 1 → u.canMode p ≠ 0 →
      let passive := decide (128 ≤ (u.port p).txErr) || decide (128 ≤ (u.port p).rxErr)
      exec (.integrationComplete t port) s = .next ((u.setCanState p (if passive then 3 else 2)).canShow p)) ∧
    (SMap.get? (u.port p).replies object.val = some (dl, false) → dl < u.now →
      exec (.replyTimeout t port object) s =
        .next (((u.setPort p { u.port p with replies := SMap.insert (u.port p).replies object.val (dl, true) }).setObj p object.val R.CAN_OBJ_STAT_reply_tmo
          1).objEvent p object.val 3)) ∧
    (u.ready → (u.port p).sending = none → u.timingWaits p → exec (.timingApply t port) s = .next (u.timingApply p)) ∧
    (let woken (w : State) (cause : Nat) : State :=
       let w := ((w.setFv (P.CAN 0) R.CAN_WK_STAT_cause cause).irq (P.CAN 0) 4).wakeSource 2
       if w.pstate ≤ 1 then w.canWakeUp else w
     let f := nclip 500 1800 filt
     let n := Nat.min 32 (u.fv (P.CAN 0) R.CAN_WK_STAT_errs + 1)
     let counted := u.setFv (P.CAN 0) R.CAN_WK_STAT_errs n
     u.wakeArmed →
      (u.fv (P.CAN 0) R.CAN_WK_wmode = 1 → f ≤ dom → f ≤ rec → f ≤ again → whole ≤ nclip 500000 5000000 window →
        exec (.canWake t (.pattern dom rec again whole filt window)) s = .next (woken u 1)) ∧
      (u.fv (P.CAN 0) R.CAN_WK_wmode = 2 →
        (u.wakeMatches rate frame → exec (.canWake t (.frame rate frame)) s = .next (woken u 2)) ∧
        exec (.canWake t .error) s = .next (if 31 < n then woken counted 3 else counted)))

/-- The panel (R426–R440): a pass starts, a line is written, the band is renewed or blinks, the idle check compares the frame with its CRC,
a rewrite follows a power loss, and the common electrode turns. The ramp generator (R441–R453) of a node in service: the motion advances, a
changed demand is replanned, the driver's faults and stops act and end, an input edge counts by its weight, and a moving position is
committed. Where the spec leaves a value or an order open, the model's choice stands in log entries 5, 48, 50, 123, 124. -/
def Obligations.PanelAndMotionComplete : Prop :=
  (∀ (t : Nat) (upsets shadowUpsets : List (Nat × Byte)) (s : State),
     let u := s.at t
     let com := if u.pnl.pass.isNone then u.pnlCom else u.pnl.com
     let on := decide (com.1 = u.pnl.comF)
     (u.pnlOn →
       (u.pnlPowered → u.fb P.PNL R.PNL_STAT_rewrite → u.pnl.pass = none → u.pnl.clearing = false →
         let w := u.beginPass 4 u.pnl.shadow (List.range u.pnlHeight)
         exec (.panelRewrite t upsets) s = .next ({ w with pnl := { w.pnl with front := upset w.pnl.front upsets } } : State)) ∧
       (u.lineDue → exec (.lineWritten t) s = .next u.lineWritten) ∧
       (u.pstate ≤ 1 → u.fb P.PNL R.PNL_BAND_blink → u.pnl.blinkAt + msecs 500 ≤ u.now →
         exec (.blink t) s = .next ({ u with pnl := { u.pnl with inverted := !u.pnl.inverted, blinkAt := u.now } } : State).bandPass) ∧
       (u.pnl.pass = none → u.pnl.verified → u.pnl.checkAt + secs 10 ≤ u.now →
         let w := ({ u with pnl := { u.pnl with
           front := upset u.pnl.front upsets, shadow := upset u.pnl.shadow shadowUpsets, checkAt := u.now } } : State)
         exec (.idleCrcCheck t upsets shadowUpsets) s = .next (if w.frameCrc w.pnl.front ≠ w.pnl.shadowCrc then w.crcMismatch else w))) ∧
     (u.pstate ≤ 1 → u.bandKey ≠ u.pnl.bandKey → exec (.bandPass t) s = .next u.bandPass) ∧
     (u.pnlIdle →
       (u.pnl.bandWant → exec (.passStart t) s = .next u.beginBand) ∧
       (u.pnl.bandWant = false → u.pnl.want ∨ u.pnl.fromShadow → exec (.passStart t) s = .next u.hostPass)) ∧
     (u.pnl.pven → u.corOn → u.pnl.comFrom + (u.pnl.comN + 1) * secs 1 / (2 * Nat.max 1 u.pnl.comF) ≤ u.now →
       exec (.pcomEdge t) s = .next ({ u with pnl := { u.pnl with
         pcom := !u.pnl.pcom, com := com, comFrom := if on then u.pnl.comFrom else u.comDue
         comN := if on then u.pnl.comN + 1 else 0, comF := com.1 } } : State))) ∧
  (∀ (t : Nat) (dirHigh : Bool) (s : State),
     let u := s.at t
     let with_ (r : Rmp) : State := { u with rmp := r }
     u.ready →
     (u.rmp.advAt < u.now / 256 → exec (.rampAdvance t) s = .next (with_ { u.rmp with advAt := u.now / 256 }).rmpAdvance) ∧
     exec (.demandReplan t) s = .next (if u.rmpShown ≠ u.rmpProfile then u.rmpReplan else u) ∧
     (let w := with_ { u.rmp with dflt := true }
      exec (.driverFault t) s = .next ((if w.rmpSrc = 1 then w.rmpDrop else w.rmpShow).irq P.RMP 4)) ∧
     exec (.dfltRelease t) s = .next (with_ { u.rmp with dflt := false }).rmpReplan ∧
     exec (.driverStop t) s = .next ((with_ { u.rmp with dstop := true }).rmpReplan.irq P.RMP 5) ∧
     exec (.dstopRelease t) s = .next (with_ { u.rmp with dstop := false }).rmpReplan ∧
     (u.fv P.RMP R.RMP_CFG_own = 2 →
       let up := dirHigh != u.fb P.RMP R.RMP_IN_dir_inv
       let w : Int := (2 ^ u.fv P.RMP R.RMP_IN_wi : Nat)
       exec (.stpiEdge t dirHigh) s = .next (with_ { u.rmp with input := u.rmp.input + (if up then w else -w) }).rmpReplan) ∧
     (u.rmpMoving → u.rmp.commitAt + msecs 10 ≤ u.now →
       exec (.positionCommit t) s = .next (with_ { u.rmp with commit := u.rmpPos, commitAt := u.now })))

/-- The supervisor (R454–R475): a diagnostic that runs fails or clears, a demand is recorded and causes the safe state, its end is shown,
and self-tests fall due and run. Ageing (R476–R484): a monitor pass measures the domains, a plan falls due and starts, and a settled offset
step is raised further or done. Where the spec leaves a value or an order open, the model's choice stands in log entries 5, 51, 52, 125,
126. -/
def Obligations.SupervisorAndAgeingComplete : Prop :=
  (∀ (t code detail failed low high : Nat) (s : State),
     let u := s.at t
     (code ≤ 13 → u.diagRuns code → u.diagJudges code detail → u.diagFound code detail →
       let w := if code = 4 then u.conv4Fails detail else u
       let w := if code = 6 ∨ code = 7 then w.setFv P.SAF R.SAF_CAUSE_PT_point detail else w
       exec (.diagnosticFail t code detail) s = .next (w.diagFail code detail).safShow) ∧
     (code ≤ 13 → u.diagRuns code →
       (code ≠ 4 → u.diagPasses code → u.saf.failAt.getD code 0 + u.detectTime code ≤ u.now →
         exec (.diagnosticClear t code detail) s = .next (u.diagClear code)) ∧
       (code = 4 → detail < 8 → bitAt u.saf.conv4 detail → 4 ≤ u.saf.checkPasses.getD detail 0 →
         let w := u.conv4Clears detail
         exec (.diagnosticClear t code detail) s = .next (if w.saf.conv4 = 0 then w.diagClear 4 else w))) ∧
     (u.demJudged → u.fb P.SAF R.SAF_STAT_demand = false → u.demLasts low →
       let w := ({ u with saf := { u.saf with lowAt := some u.now } } : State)
       exec (.safetyDemand t low) s =
         .next ((((w.setFv P.SAF R.SAF_STAT_demand 1).satInc P.SAF R.SAF_CNT_demands 1).irq P.SAF 2).safCause true 2 0 0)) ∧
     (u.demJudged → u.demLasts high →
       exec (.demandClear t high) s =
         .next (({ u with saf := { u.saf with lowAt := none } } : State).setFv P.SAF R.SAF_STAT_demand 0)) ∧
     (u.ready → 720 ≤ u.stHours → u.fb P.SAF R.SAF_STAT_st_due = false →
       exec (.stDue t) s = .next ((u.setFv P.SAF R.SAF_STAT_st_due 1).irq P.SAF 6).safShow) ∧
     (u.ready → u.fb P.SAF R.SAF_CFG_auto_st → u.tly.out.all (fun y => !(decide (y.op = 0x50) && y.running && y.outcome.isNone)) →
       secs 86400 ≤ u.opSteps - u.saf.autoBase →
       exec (.autoSelftest t failed) s = .next (({ u with saf := { u.saf with autoBase := u.opSteps } } : State).selftestEnds 0x7F failed))) ∧
  (∀ (t k d : Nat) (m : MonitorInput) (completion : Q) (s : State) (p : AgePlan),
     let u := s.at t
     (u.ready → u.pstate < 2 → u.age.runPass.any (fun n => decide (u.runSteps < n + secs 60)) = false →
       let w := ({ u with age := { u.age with runPass := some u.runSteps } } : State)
       let w := ((List.range 12).foldl (fun (w : State) d => w.measureDomain m d) w).watchRelax m
       let w := w.setFv P.AGE R.AGE_XTAL_drift (uext 16 (iclip (-32768) 32767 (Q.round (Q.make w.xtalDrift 10))))
       let low := (List.range 12).any (fun d => w.domainOn d && w.compBelow d (w.fv P.AGE R.AGE_CFG_urgent))
       exec (.monitorPass t m) s = .next
         (if low && w.age.plan.isNone then ({ w with age := { w.age with due := some 1 } } : State) else w).showLowest) ∧
     (u.ready → u.fb P.AGE R.AGE_CFG_auto → secs 3600 * u.fv P.AGE R.AGE_CFG_interval ≤ u.runSteps - u.age.runPlan →
       exec (.planDue t) s =
         .next ({ u with age := { u.age with runPlan := u.runSteps, due := some (u.age.due.getD 0) } } : State)) ∧
     (u.age.due = some k → u.ready → u.pstate ≤ 1 → u.marginFree →
       exec (.plan t) s = .next (({ u with age := { u.age with due := none } } : State).planStarts k 0 (u.fb P.AGE R.AGE_CFG_apply))) ∧
     (let v := u.planLate
      v.age.plan = some p → p.dom = some d → p.stepAt + secs 1 ≤ v.now →
       let c := linearMargin (Q.frac 1 2) Q.one completion
       let w := ({ v with age := { v.age with comp := v.age.comp.set d (some c), gains := v.age.gains.set d (some (Q.sub c p.before)) } } : State)
       let w := w.showMargin d
       exec (.offsetStepSettled t completion) s = .next
         (if !v.domainOn d then (v.setPlan (some (p.finish d))).planGoes
          else if w.compBelow d (w.fv P.AGE R.AGE_CFG_target + 5) then (w.raiseOffset { p with dom := none } d).planGoes
          else (w.setPlan (some (p.finish d))).planGoes)))

/-- Security and power states (R486–R489, R497–R502): the answer to a session request, the ends of sessions, lockout and nonce, tamper
events and the trapdoor's enable; the entry to DORMANT and the wake from it. Where the spec leaves a value or an order open, the model's
choice stands in log entries 6, 19, 20, 25, 54, 114, 116. -/
def Obligations.SecurityAndModesComplete : Prop :=
  ∀ (t live stamp bit : Nat) (input : Fin 2) (s : State) (r : OpenReq) (rest : List OpenReq),
    let u := s.at t
    (u.corOn →
      (u.sec.opens = r :: rest →
        let w := ({ u with sec := { u.sec with opens := rest } } : State)
        let x := (w.setFv P.SEC (levelField r.port) r.level).setSecPort r.port { w.secPort r.port with opened := w.now }
        let x := (x.setFv P.SEC R.SEC_STAT_fails 0).setFv P.SEC R.SEC_STAT_lockout 0
        let z := (if r.port = .trapdoor then x.setFv P.DBG R.DBG_STAT_session 1 else x).irq P.SEC 5
        let y := w.satInc P.SEC R.SEC_STAT_fails 1
        let y := ({ y with sec := { y.sec with lockUntil := y.now + secs (Nat.min 3600 (10 * 2 ^ (y.fv P.SEC R.SEC_STAT_fails - 1))) } } : State)
        exec (.sessionDecision t) s = .next
          (if w.opens r then (if z.sec.tampAt = some z.now then z.closeSession r.port else z)
           else (y.setFv P.SEC R.SEC_STAT_lockout 1).secEvent 1)) ∧
      exec (.sessionExpiry t) s = .next ((u.expireSession .host).expireSession .trapdoor) ∧
      (u.sec.lockUntil ≤ u.now → exec (.lockoutEnd t) s = .next (u.setFv P.SEC R.SEC_STAT_lockout 0)) ∧
      (u.sec.tdenLow.any (fun x => decide (x + secs 1 ≤ u.now)) → exec (.trapdoorSessionEnd t) s = .next (u.closeSession .trapdoor)) ∧
      (let w := if u.sessionOver .trapdoor then u.closeSession .trapdoor else u
       let w := ({ w with sec := { w.sec with tdenLow := none } } : State)
       exec (.tdenRising t) s = .next (((w.setFv P.DBG R.DBG_STAT_tden 1).irq P.DBG 0).wakeSource 5))) ∧
    exec (.nonceExpiry t) s = .next ((u.expireNonce .host).expireNonce .trapdoor) ∧
    (let w := u.setFv P.SEC R.SEC_STAT_tamp_live live
     w.tamperOn input.val → exec (.tamperEvent t input live) s = .next ((w.tamper input.val).wakeSource 6)) ∧
    (u.ready →
      (u.pwr.busy = true → u.fv P.FBE R.FBE_STAT_olc = 0 → u.fbe.tasks.any (fun x => x.cycle.isSome) = false →
        let w := u.bandRest.canSleep.portBOff
        let w := ({ w with dio := { w.dio with hold := bitsOf 8 w.doCommand } } : State)
        let w := (w.sacStop.setFv P.SYS R.SYS_STATE_pstate 2).termShow
        let w := (w.dynStopped.spxStopped.calCounting false).ageCount false true
        let w := ({ w with pwr := { w.pwr with busy := false, stopAt := w.now } } : State).linksLosePower.rmpReplan.pstateChanged
        exec (.dormantEntry t) s = .next (match w.pwr.earlyWake with
          | some x => w.wakeStamp x.1 x.2
          | none => w.heldRequest)) ∧
      (u.pstate = 2 → u.pwr.earlyWake = some (stamp, bit) →
        let target := if bit = 0 then u.pwr.wakeTo else u.fv P.SYS R.SYS_PWR_wake_to
        let w := ({ u with pwr := { u.pwr with earlyWake := none } } : State)
        let w := ((w.setFv P.SYS R.SYS_STATE_pstate target).setFv P.SYS R.SYS_PWR_req target).awaken
        let w := if w.fb (P.CAN 0) R.CAN_CTRL_sleep then w else w.canWakeUp
        let w := (w.canStart 1 (decide (w.canState 1 = 4))).rmpReplan
        let w := (w.setFv P.SYS R.SYS_START_cause 2).setFv P.SYS R.SYS_START_clean 1
        let w := (w.setFv P.SYS R.SYS_START_panel_rewrite 1).setFv P.SYS R.SYS_START_pfw_hold 0
        exec (.wakeFromDormant t) s =
          .next (w.setFv P.SYS R.SYS_T_READY_t_ready (Nat.min 0xFFFFFF (w.now - stamp))).pstateChanged.heldRequest))

/-- Link tests (R516–R521): a launched test starts with a drawn generator state, takes its link, and ends when its duration has passed.
Where the spec leaves a value or an order open, the model's choice stands in log entries 5, 7, 53, 116. -/
def Obligations.LinkTestsComplete : Prop :=
  ∀ (t sent : Nat) (flips : List Nat) (s : State),
    let u := s.at t
    let link := u.fv P.LNK R.LNK_STAT_link
    let dur := u.fv P.LNK R.LNK_DUR_dur
    (u.fv P.LNK R.LNK_STAT_state = 1 → u.corOn → ¬(link = 7 ∧ (u.cv u.lnk.inst).cal.isSome) →
      let n := (prbsOf (u.fv P.LNK R.LNK_CFG_pat)).1
      let w := ({ u.draw.2 with lnk := { u.draw.2.lnk with gen := u.draw.1.toNat % (2 ^ n - 1) + 1 } } : State)
      let w := (w.setFv P.LNK R.LNK_STAT_state 2).setStamp P.LNK R.LNK_T_LO_t R.LNK_T_HI_t w.now
      exec (.linkTestStart t) s = .next (w.linkTaken link)) ∧
    (u.corOn → u.lnkRuns → dur ≠ 0 → u.stamp P.LNK R.LNK_T_LO_t R.LNK_T_HI_t + msecs dur ≤ u.now →
      exec (.linkTestEnd t sent flips) s = .next ((u.lnkCarry sent flips).linkEnds 0 0))
end

