-- ==== Sys2Proof/Laws/State.lean ====
section
/-! SUPPORT. What an update of the state leaves as it was, field by field, so that no proof unfolds a record update. -/

namespace Sys2Proof.Machine

open Sys2Proof

/-! ### State.setReg -/

@[simp] theorem State.setReg_now (s : State) (a : Nat) (w : Word) : (s.setReg a w).now = s.now := rfl
@[simp] theorem State.setReg_pending (s : State) (a : Nat) (w : Word) : (s.setReg a w).pending = s.pending := rfl
@[simp] theorem State.setReg_free (s : State) (a : Nat) (w : Word) : (s.setReg a w).free = s.free := rfl
@[simp] theorem State.setReg_staged (s : State) (a : Nat) (w : Word) : (s.setReg a w).staged = s.staged := rfl
@[simp] theorem State.setReg_group (s : State) (a : Nat) (w : Word) : (s.setReg a w).group = s.group := rfl
@[simp] theorem State.setReg_rings (s : State) (a : Nat) (w : Word) : (s.setReg a w).rings = s.rings := rfl
@[simp] theorem State.setReg_sealedPages (s : State) (a : Nat) (w : Word) : (s.setReg a w).sealedPages = s.sealedPages := rfl
@[simp] theorem State.setReg_queue (s : State) (a : Nat) (w : Word) : (s.setReg a w).queue = s.queue := rfl
@[simp] theorem State.setReg_host (s : State) (a : Nat) (w : Word) : (s.setReg a w).host = s.host := rfl
@[simp] theorem State.setReg_trap (s : State) (a : Nat) (w : Word) : (s.setReg a w).trap = s.trap := rfl
@[simp] theorem State.setReg_mem (s : State) (a : Nat) (w : Word) : (s.setReg a w).mem = s.mem := rfl
@[simp] theorem State.setReg_poisoned (s : State) (a : Nat) (w : Word) : (s.setReg a w).poisoned = s.poisoned := rfl
@[simp] theorem State.setReg_pwr (s : State) (a : Nat) (w : Word) : (s.setReg a w).pwr = s.pwr := rfl
@[simp] theorem State.setReg_tly (s : State) (a : Nat) (w : Word) : (s.setReg a w).tly = s.tly := rfl
@[simp] theorem State.setReg_sac (s : State) (a : Nat) (w : Word) : (s.setReg a w).sac = s.sac := rfl
@[simp] theorem State.setReg_dyn (s : State) (a : Nat) (w : Word) : (s.setReg a w).dyn = s.dyn := rfl
@[simp] theorem State.setReg_spx (s : State) (a : Nat) (w : Word) : (s.setReg a w).spx = s.spx := rfl
@[simp] theorem State.setReg_sto (s : State) (a : Nat) (w : Word) : (s.setReg a w).sto = s.sto := rfl
@[simp] theorem State.setReg_pte (s : State) (a : Nat) (w : Word) : (s.setReg a w).pte = s.pte := rfl
@[simp] theorem State.setReg_alh (s : State) (a : Nat) (w : Word) : (s.setReg a w).alh = s.alh := rfl
@[simp] theorem State.setReg_fbe (s : State) (a : Nat) (w : Word) : (s.setReg a w).fbe = s.fbe := rfl
@[simp] theorem State.setReg_evr (s : State) (a : Nat) (w : Word) : (s.setReg a w).evr = s.evr := rfl
@[simp] theorem State.setReg_tbs (s : State) (a : Nat) (w : Word) : (s.setReg a w).tbs = s.tbs := rfl
@[simp] theorem State.setReg_dio (s : State) (a : Nat) (w : Word) : (s.setReg a w).dio = s.dio := rfl
@[simp] theorem State.setReg_lpo (s : State) (a : Nat) (w : Word) : (s.setReg a w).lpo = s.lpo := rfl
@[simp] theorem State.setReg_can (s : State) (a : Nat) (w : Word) : (s.setReg a w).can = s.can := rfl
@[simp] theorem State.setReg_pnl (s : State) (a : Nat) (w : Word) : (s.setReg a w).pnl = s.pnl := rfl
@[simp] theorem State.setReg_rmp (s : State) (a : Nat) (w : Word) : (s.setReg a w).rmp = s.rmp := rfl
@[simp] theorem State.setReg_saf (s : State) (a : Nat) (w : Word) : (s.setReg a w).saf = s.saf := rfl
@[simp] theorem State.setReg_age (s : State) (a : Nat) (w : Word) : (s.setReg a w).age = s.age := rfl
@[simp] theorem State.setReg_sec (s : State) (a : Nat) (w : Word) : (s.setReg a w).sec = s.sec := rfl
@[simp] theorem State.setReg_lnk (s : State) (a : Nat) (w : Word) : (s.setReg a w).lnk = s.lnk := rfl

/-! ### State.setFv -/

@[simp] theorem State.setFv_now (s : State) (b : Nat) (f : Field) (v : Nat) : (s.setFv b f v).now = s.now := rfl
@[simp] theorem State.setFv_pending (s : State) (b : Nat) (f : Field) (v : Nat) : (s.setFv b f v).pending = s.pending := rfl
@[simp] theorem State.setFv_free (s : State) (b : Nat) (f : Field) (v : Nat) : (s.setFv b f v).free = s.free := rfl
@[simp] theorem State.setFv_staged (s : State) (b : Nat) (f : Field) (v : Nat) : (s.setFv b f v).staged = s.staged := rfl
@[simp] theorem State.setFv_group (s : State) (b : Nat) (f : Field) (v : Nat) : (s.setFv b f v).group = s.group := rfl
@[simp] theorem State.setFv_rings (s : State) (b : Nat) (f : Field) (v : Nat) : (s.setFv b f v).rings = s.rings := rfl
@[simp] theorem State.setFv_sealedPages (s : State) (b : Nat) (f : Field) (v : Nat) : (s.setFv b f v).sealedPages = s.sealedPages := rfl
@[simp] theorem State.setFv_queue (s : State) (b : Nat) (f : Field) (v : Nat) : (s.setFv b f v).queue = s.queue := rfl
@[simp] theorem State.setFv_host (s : State) (b : Nat) (f : Field) (v : Nat) : (s.setFv b f v).host = s.host := rfl
@[simp] theorem State.setFv_trap (s : State) (b : Nat) (f : Field) (v : Nat) : (s.setFv b f v).trap = s.trap := rfl
@[simp] theorem State.setFv_mem (s : State) (b : Nat) (f : Field) (v : Nat) : (s.setFv b f v).mem = s.mem := rfl
@[simp] theorem State.setFv_poisoned (s : State) (b : Nat) (f : Field) (v : Nat) : (s.setFv b f v).poisoned = s.poisoned := rfl
@[simp] theorem State.setFv_pwr (s : State) (b : Nat) (f : Field) (v : Nat) : (s.setFv b f v).pwr = s.pwr := rfl
@[simp] theorem State.setFv_tly (s : State) (b : Nat) (f : Field) (v : Nat) : (s.setFv b f v).tly = s.tly := rfl
@[simp] theorem State.setFv_sac (s : State) (b : Nat) (f : Field) (v : Nat) : (s.setFv b f v).sac = s.sac := rfl
@[simp] theorem State.setFv_dyn (s : State) (b : Nat) (f : Field) (v : Nat) : (s.setFv b f v).dyn = s.dyn := rfl
@[simp] theorem State.setFv_spx (s : State) (b : Nat) (f : Field) (v : Nat) : (s.setFv b f v).spx = s.spx := rfl
@[simp] theorem State.setFv_sto (s : State) (b : Nat) (f : Field) (v : Nat) : (s.setFv b f v).sto = s.sto := rfl
@[simp] theorem State.setFv_pte (s : State) (b : Nat) (f : Field) (v : Nat) : (s.setFv b f v).pte = s.pte := rfl
@[simp] theorem State.setFv_alh (s : State) (b : Nat) (f : Field) (v : Nat) : (s.setFv b f v).alh = s.alh := rfl
@[simp] theorem State.setFv_fbe (s : State) (b : Nat) (f : Field) (v : Nat) : (s.setFv b f v).fbe = s.fbe := rfl
@[simp] theorem State.setFv_evr (s : State) (b : Nat) (f : Field) (v : Nat) : (s.setFv b f v).evr = s.evr := rfl
@[simp] theorem State.setFv_tbs (s : State) (b : Nat) (f : Field) (v : Nat) : (s.setFv b f v).tbs = s.tbs := rfl
@[simp] theorem State.setFv_dio (s : State) (b : Nat) (f : Field) (v : Nat) : (s.setFv b f v).dio = s.dio := rfl
@[simp] theorem State.setFv_lpo (s : State) (b : Nat) (f : Field) (v : Nat) : (s.setFv b f v).lpo = s.lpo := rfl
@[simp] theorem State.setFv_can (s : State) (b : Nat) (f : Field) (v : Nat) : (s.setFv b f v).can = s.can := rfl
@[simp] theorem State.setFv_pnl (s : State) (b : Nat) (f : Field) (v : Nat) : (s.setFv b f v).pnl = s.pnl := rfl
@[simp] theorem State.setFv_rmp (s : State) (b : Nat) (f : Field) (v : Nat) : (s.setFv b f v).rmp = s.rmp := rfl
@[simp] theorem State.setFv_saf (s : State) (b : Nat) (f : Field) (v : Nat) : (s.setFv b f v).saf = s.saf := rfl
@[simp] theorem State.setFv_age (s : State) (b : Nat) (f : Field) (v : Nat) : (s.setFv b f v).age = s.age := rfl
@[simp] theorem State.setFv_sec (s : State) (b : Nat) (f : Field) (v : Nat) : (s.setFv b f v).sec = s.sec := rfl
@[simp] theorem State.setFv_lnk (s : State) (b : Nat) (f : Field) (v : Nat) : (s.setFv b f v).lnk = s.lnk := rfl

/-! ### State.setFb -/

@[simp] theorem State.setFb_now (s : State) (b : Nat) (f : Field) (v : Bool) : (s.setFb b f v).now = s.now := rfl
@[simp] theorem State.setFb_pending (s : State) (b : Nat) (f : Field) (v : Bool) : (s.setFb b f v).pending = s.pending := rfl
@[simp] theorem State.setFb_free (s : State) (b : Nat) (f : Field) (v : Bool) : (s.setFb b f v).free = s.free := rfl
@[simp] theorem State.setFb_staged (s : State) (b : Nat) (f : Field) (v : Bool) : (s.setFb b f v).staged = s.staged := rfl
@[simp] theorem State.setFb_group (s : State) (b : Nat) (f : Field) (v : Bool) : (s.setFb b f v).group = s.group := rfl
@[simp] theorem State.setFb_rings (s : State) (b : Nat) (f : Field) (v : Bool) : (s.setFb b f v).rings = s.rings := rfl
@[simp] theorem State.setFb_sealedPages (s : State) (b : Nat) (f : Field) (v : Bool) : (s.setFb b f v).sealedPages = s.sealedPages := rfl
@[simp] theorem State.setFb_queue (s : State) (b : Nat) (f : Field) (v : Bool) : (s.setFb b f v).queue = s.queue := rfl
@[simp] theorem State.setFb_host (s : State) (b : Nat) (f : Field) (v : Bool) : (s.setFb b f v).host = s.host := rfl
@[simp] theorem State.setFb_trap (s : State) (b : Nat) (f : Field) (v : Bool) : (s.setFb b f v).trap = s.trap := rfl
@[simp] theorem State.setFb_mem (s : State) (b : Nat) (f : Field) (v : Bool) : (s.setFb b f v).mem = s.mem := rfl
@[simp] theorem State.setFb_poisoned (s : State) (b : Nat) (f : Field) (v : Bool) : (s.setFb b f v).poisoned = s.poisoned := rfl
@[simp] theorem State.setFb_pwr (s : State) (b : Nat) (f : Field) (v : Bool) : (s.setFb b f v).pwr = s.pwr := rfl
@[simp] theorem State.setFb_tly (s : State) (b : Nat) (f : Field) (v : Bool) : (s.setFb b f v).tly = s.tly := rfl
@[simp] theorem State.setFb_sac (s : State) (b : Nat) (f : Field) (v : Bool) : (s.setFb b f v).sac = s.sac := rfl
@[simp] theorem State.setFb_dyn (s : State) (b : Nat) (f : Field) (v : Bool) : (s.setFb b f v).dyn = s.dyn := rfl
@[simp] theorem State.setFb_spx (s : State) (b : Nat) (f : Field) (v : Bool) : (s.setFb b f v).spx = s.spx := rfl
@[simp] theorem State.setFb_sto (s : State) (b : Nat) (f : Field) (v : Bool) : (s.setFb b f v).sto = s.sto := rfl
@[simp] theorem State.setFb_pte (s : State) (b : Nat) (f : Field) (v : Bool) : (s.setFb b f v).pte = s.pte := rfl
@[simp] theorem State.setFb_alh (s : State) (b : Nat) (f : Field) (v : Bool) : (s.setFb b f v).alh = s.alh := rfl
@[simp] theorem State.setFb_fbe (s : State) (b : Nat) (f : Field) (v : Bool) : (s.setFb b f v).fbe = s.fbe := rfl
@[simp] theorem State.setFb_evr (s : State) (b : Nat) (f : Field) (v : Bool) : (s.setFb b f v).evr = s.evr := rfl
@[simp] theorem State.setFb_tbs (s : State) (b : Nat) (f : Field) (v : Bool) : (s.setFb b f v).tbs = s.tbs := rfl
@[simp] theorem State.setFb_dio (s : State) (b : Nat) (f : Field) (v : Bool) : (s.setFb b f v).dio = s.dio := rfl
@[simp] theorem State.setFb_lpo (s : State) (b : Nat) (f : Field) (v : Bool) : (s.setFb b f v).lpo = s.lpo := rfl
@[simp] theorem State.setFb_can (s : State) (b : Nat) (f : Field) (v : Bool) : (s.setFb b f v).can = s.can := rfl
@[simp] theorem State.setFb_pnl (s : State) (b : Nat) (f : Field) (v : Bool) : (s.setFb b f v).pnl = s.pnl := rfl
@[simp] theorem State.setFb_rmp (s : State) (b : Nat) (f : Field) (v : Bool) : (s.setFb b f v).rmp = s.rmp := rfl
@[simp] theorem State.setFb_saf (s : State) (b : Nat) (f : Field) (v : Bool) : (s.setFb b f v).saf = s.saf := rfl
@[simp] theorem State.setFb_age (s : State) (b : Nat) (f : Field) (v : Bool) : (s.setFb b f v).age = s.age := rfl
@[simp] theorem State.setFb_sec (s : State) (b : Nat) (f : Field) (v : Bool) : (s.setFb b f v).sec = s.sec := rfl
@[simp] theorem State.setFb_lnk (s : State) (b : Nat) (f : Field) (v : Bool) : (s.setFb b f v).lnk = s.lnk := rfl

/-! ### State.setStamp -/

@[simp] theorem State.setStamp_now (s : State) (b : Nat) (lo hi : Field) (t : Nat) : (s.setStamp b lo hi t).now = s.now := rfl
@[simp] theorem State.setStamp_pending (s : State) (b : Nat) (lo hi : Field) (t : Nat) : (s.setStamp b lo hi t).pending = s.pending := rfl
@[simp] theorem State.setStamp_free (s : State) (b : Nat) (lo hi : Field) (t : Nat) : (s.setStamp b lo hi t).free = s.free := rfl
@[simp] theorem State.setStamp_staged (s : State) (b : Nat) (lo hi : Field) (t : Nat) : (s.setStamp b lo hi t).staged = s.staged := rfl
@[simp] theorem State.setStamp_group (s : State) (b : Nat) (lo hi : Field) (t : Nat) : (s.setStamp b lo hi t).group = s.group := rfl
@[simp] theorem State.setStamp_rings (s : State) (b : Nat) (lo hi : Field) (t : Nat) : (s.setStamp b lo hi t).rings = s.rings := rfl
@[simp] theorem State.setStamp_sealedPages (s : State) (b : Nat) (lo hi : Field) (t : Nat) : (s.setStamp b lo hi t).sealedPages = s.sealedPages := rfl
@[simp] theorem State.setStamp_queue (s : State) (b : Nat) (lo hi : Field) (t : Nat) : (s.setStamp b lo hi t).queue = s.queue := rfl
@[simp] theorem State.setStamp_host (s : State) (b : Nat) (lo hi : Field) (t : Nat) : (s.setStamp b lo hi t).host = s.host := rfl
@[simp] theorem State.setStamp_trap (s : State) (b : Nat) (lo hi : Field) (t : Nat) : (s.setStamp b lo hi t).trap = s.trap := rfl
@[simp] theorem State.setStamp_mem (s : State) (b : Nat) (lo hi : Field) (t : Nat) : (s.setStamp b lo hi t).mem = s.mem := rfl
@[simp] theorem State.setStamp_poisoned (s : State) (b : Nat) (lo hi : Field) (t : Nat) : (s.setStamp b lo hi t).poisoned = s.poisoned := rfl
@[simp] theorem State.setStamp_pwr (s : State) (b : Nat) (lo hi : Field) (t : Nat) : (s.setStamp b lo hi t).pwr = s.pwr := rfl
@[simp] theorem State.setStamp_tly (s : State) (b : Nat) (lo hi : Field) (t : Nat) : (s.setStamp b lo hi t).tly = s.tly := rfl
@[simp] theorem State.setStamp_sac (s : State) (b : Nat) (lo hi : Field) (t : Nat) : (s.setStamp b lo hi t).sac = s.sac := rfl
@[simp] theorem State.setStamp_dyn (s : State) (b : Nat) (lo hi : Field) (t : Nat) : (s.setStamp b lo hi t).dyn = s.dyn := rfl
@[simp] theorem State.setStamp_spx (s : State) (b : Nat) (lo hi : Field) (t : Nat) : (s.setStamp b lo hi t).spx = s.spx := rfl
@[simp] theorem State.setStamp_sto (s : State) (b : Nat) (lo hi : Field) (t : Nat) : (s.setStamp b lo hi t).sto = s.sto := rfl
@[simp] theorem State.setStamp_pte (s : State) (b : Nat) (lo hi : Field) (t : Nat) : (s.setStamp b lo hi t).pte = s.pte := rfl
@[simp] theorem State.setStamp_alh (s : State) (b : Nat) (lo hi : Field) (t : Nat) : (s.setStamp b lo hi t).alh = s.alh := rfl
@[simp] theorem State.setStamp_fbe (s : State) (b : Nat) (lo hi : Field) (t : Nat) : (s.setStamp b lo hi t).fbe = s.fbe := rfl
@[simp] theorem State.setStamp_evr (s : State) (b : Nat) (lo hi : Field) (t : Nat) : (s.setStamp b lo hi t).evr = s.evr := rfl
@[simp] theorem State.setStamp_tbs (s : State) (b : Nat) (lo hi : Field) (t : Nat) : (s.setStamp b lo hi t).tbs = s.tbs := rfl
@[simp] theorem State.setStamp_dio (s : State) (b : Nat) (lo hi : Field) (t : Nat) : (s.setStamp b lo hi t).dio = s.dio := rfl
@[simp] theorem State.setStamp_lpo (s : State) (b : Nat) (lo hi : Field) (t : Nat) : (s.setStamp b lo hi t).lpo = s.lpo := rfl
@[simp] theorem State.setStamp_can (s : State) (b : Nat) (lo hi : Field) (t : Nat) : (s.setStamp b lo hi t).can = s.can := rfl
@[simp] theorem State.setStamp_pnl (s : State) (b : Nat) (lo hi : Field) (t : Nat) : (s.setStamp b lo hi t).pnl = s.pnl := rfl
@[simp] theorem State.setStamp_rmp (s : State) (b : Nat) (lo hi : Field) (t : Nat) : (s.setStamp b lo hi t).rmp = s.rmp := rfl
@[simp] theorem State.setStamp_saf (s : State) (b : Nat) (lo hi : Field) (t : Nat) : (s.setStamp b lo hi t).saf = s.saf := rfl
@[simp] theorem State.setStamp_age (s : State) (b : Nat) (lo hi : Field) (t : Nat) : (s.setStamp b lo hi t).age = s.age := rfl
@[simp] theorem State.setStamp_sec (s : State) (b : Nat) (lo hi : Field) (t : Nat) : (s.setStamp b lo hi t).sec = s.sec := rfl
@[simp] theorem State.setStamp_lnk (s : State) (b : Nat) (lo hi : Field) (t : Nat) : (s.setStamp b lo hi t).lnk = s.lnk := rfl

/-! ### State.satInc -/

@[simp] theorem State.satInc_now (s : State) (b : Nat) (f : Field) (n : Nat) : (s.satInc b f n).now = s.now := rfl
@[simp] theorem State.satInc_pending (s : State) (b : Nat) (f : Field) (n : Nat) : (s.satInc b f n).pending = s.pending := rfl
@[simp] theorem State.satInc_free (s : State) (b : Nat) (f : Field) (n : Nat) : (s.satInc b f n).free = s.free := rfl
@[simp] theorem State.satInc_staged (s : State) (b : Nat) (f : Field) (n : Nat) : (s.satInc b f n).staged = s.staged := rfl
@[simp] theorem State.satInc_group (s : State) (b : Nat) (f : Field) (n : Nat) : (s.satInc b f n).group = s.group := rfl
@[simp] theorem State.satInc_rings (s : State) (b : Nat) (f : Field) (n : Nat) : (s.satInc b f n).rings = s.rings := rfl
@[simp] theorem State.satInc_sealedPages (s : State) (b : Nat) (f : Field) (n : Nat) : (s.satInc b f n).sealedPages = s.sealedPages := rfl
@[simp] theorem State.satInc_queue (s : State) (b : Nat) (f : Field) (n : Nat) : (s.satInc b f n).queue = s.queue := rfl
@[simp] theorem State.satInc_host (s : State) (b : Nat) (f : Field) (n : Nat) : (s.satInc b f n).host = s.host := rfl
@[simp] theorem State.satInc_trap (s : State) (b : Nat) (f : Field) (n : Nat) : (s.satInc b f n).trap = s.trap := rfl
@[simp] theorem State.satInc_mem (s : State) (b : Nat) (f : Field) (n : Nat) : (s.satInc b f n).mem = s.mem := rfl
@[simp] theorem State.satInc_poisoned (s : State) (b : Nat) (f : Field) (n : Nat) : (s.satInc b f n).poisoned = s.poisoned := rfl
@[simp] theorem State.satInc_pwr (s : State) (b : Nat) (f : Field) (n : Nat) : (s.satInc b f n).pwr = s.pwr := rfl
@[simp] theorem State.satInc_tly (s : State) (b : Nat) (f : Field) (n : Nat) : (s.satInc b f n).tly = s.tly := rfl
@[simp] theorem State.satInc_sac (s : State) (b : Nat) (f : Field) (n : Nat) : (s.satInc b f n).sac = s.sac := rfl
@[simp] theorem State.satInc_dyn (s : State) (b : Nat) (f : Field) (n : Nat) : (s.satInc b f n).dyn = s.dyn := rfl
@[simp] theorem State.satInc_spx (s : State) (b : Nat) (f : Field) (n : Nat) : (s.satInc b f n).spx = s.spx := rfl
@[simp] theorem State.satInc_sto (s : State) (b : Nat) (f : Field) (n : Nat) : (s.satInc b f n).sto = s.sto := rfl
@[simp] theorem State.satInc_pte (s : State) (b : Nat) (f : Field) (n : Nat) : (s.satInc b f n).pte = s.pte := rfl
@[simp] theorem State.satInc_alh (s : State) (b : Nat) (f : Field) (n : Nat) : (s.satInc b f n).alh = s.alh := rfl
@[simp] theorem State.satInc_fbe (s : State) (b : Nat) (f : Field) (n : Nat) : (s.satInc b f n).fbe = s.fbe := rfl
@[simp] theorem State.satInc_evr (s : State) (b : Nat) (f : Field) (n : Nat) : (s.satInc b f n).evr = s.evr := rfl
@[simp] theorem State.satInc_tbs (s : State) (b : Nat) (f : Field) (n : Nat) : (s.satInc b f n).tbs = s.tbs := rfl
@[simp] theorem State.satInc_dio (s : State) (b : Nat) (f : Field) (n : Nat) : (s.satInc b f n).dio = s.dio := rfl
@[simp] theorem State.satInc_lpo (s : State) (b : Nat) (f : Field) (n : Nat) : (s.satInc b f n).lpo = s.lpo := rfl
@[simp] theorem State.satInc_can (s : State) (b : Nat) (f : Field) (n : Nat) : (s.satInc b f n).can = s.can := rfl
@[simp] theorem State.satInc_pnl (s : State) (b : Nat) (f : Field) (n : Nat) : (s.satInc b f n).pnl = s.pnl := rfl
@[simp] theorem State.satInc_rmp (s : State) (b : Nat) (f : Field) (n : Nat) : (s.satInc b f n).rmp = s.rmp := rfl
@[simp] theorem State.satInc_saf (s : State) (b : Nat) (f : Field) (n : Nat) : (s.satInc b f n).saf = s.saf := rfl
@[simp] theorem State.satInc_age (s : State) (b : Nat) (f : Field) (n : Nat) : (s.satInc b f n).age = s.age := rfl
@[simp] theorem State.satInc_sec (s : State) (b : Nat) (f : Field) (n : Nat) : (s.satInc b f n).sec = s.sec := rfl
@[simp] theorem State.satInc_lnk (s : State) (b : Nat) (f : Field) (n : Nat) : (s.satInc b f n).lnk = s.lnk := rfl

/-! ### State.wrapInc -/

@[simp] theorem State.wrapInc_now (s : State) (b : Nat) (f : Field) (n : Nat) : (s.wrapInc b f n).now = s.now := rfl
@[simp] theorem State.wrapInc_pending (s : State) (b : Nat) (f : Field) (n : Nat) : (s.wrapInc b f n).pending = s.pending := rfl
@[simp] theorem State.wrapInc_free (s : State) (b : Nat) (f : Field) (n : Nat) : (s.wrapInc b f n).free = s.free := rfl
@[simp] theorem State.wrapInc_staged (s : State) (b : Nat) (f : Field) (n : Nat) : (s.wrapInc b f n).staged = s.staged := rfl
@[simp] theorem State.wrapInc_group (s : State) (b : Nat) (f : Field) (n : Nat) : (s.wrapInc b f n).group = s.group := rfl
@[simp] theorem State.wrapInc_rings (s : State) (b : Nat) (f : Field) (n : Nat) : (s.wrapInc b f n).rings = s.rings := rfl
@[simp] theorem State.wrapInc_sealedPages (s : State) (b : Nat) (f : Field) (n : Nat) : (s.wrapInc b f n).sealedPages = s.sealedPages := rfl
@[simp] theorem State.wrapInc_queue (s : State) (b : Nat) (f : Field) (n : Nat) : (s.wrapInc b f n).queue = s.queue := rfl
@[simp] theorem State.wrapInc_host (s : State) (b : Nat) (f : Field) (n : Nat) : (s.wrapInc b f n).host = s.host := rfl
@[simp] theorem State.wrapInc_trap (s : State) (b : Nat) (f : Field) (n : Nat) : (s.wrapInc b f n).trap = s.trap := rfl
@[simp] theorem State.wrapInc_mem (s : State) (b : Nat) (f : Field) (n : Nat) : (s.wrapInc b f n).mem = s.mem := rfl
@[simp] theorem State.wrapInc_poisoned (s : State) (b : Nat) (f : Field) (n : Nat) : (s.wrapInc b f n).poisoned = s.poisoned := rfl
@[simp] theorem State.wrapInc_pwr (s : State) (b : Nat) (f : Field) (n : Nat) : (s.wrapInc b f n).pwr = s.pwr := rfl
@[simp] theorem State.wrapInc_tly (s : State) (b : Nat) (f : Field) (n : Nat) : (s.wrapInc b f n).tly = s.tly := rfl
@[simp] theorem State.wrapInc_sac (s : State) (b : Nat) (f : Field) (n : Nat) : (s.wrapInc b f n).sac = s.sac := rfl
@[simp] theorem State.wrapInc_dyn (s : State) (b : Nat) (f : Field) (n : Nat) : (s.wrapInc b f n).dyn = s.dyn := rfl
@[simp] theorem State.wrapInc_spx (s : State) (b : Nat) (f : Field) (n : Nat) : (s.wrapInc b f n).spx = s.spx := rfl
@[simp] theorem State.wrapInc_sto (s : State) (b : Nat) (f : Field) (n : Nat) : (s.wrapInc b f n).sto = s.sto := rfl
@[simp] theorem State.wrapInc_pte (s : State) (b : Nat) (f : Field) (n : Nat) : (s.wrapInc b f n).pte = s.pte := rfl
@[simp] theorem State.wrapInc_alh (s : State) (b : Nat) (f : Field) (n : Nat) : (s.wrapInc b f n).alh = s.alh := rfl
@[simp] theorem State.wrapInc_fbe (s : State) (b : Nat) (f : Field) (n : Nat) : (s.wrapInc b f n).fbe = s.fbe := rfl
@[simp] theorem State.wrapInc_evr (s : State) (b : Nat) (f : Field) (n : Nat) : (s.wrapInc b f n).evr = s.evr := rfl
@[simp] theorem State.wrapInc_tbs (s : State) (b : Nat) (f : Field) (n : Nat) : (s.wrapInc b f n).tbs = s.tbs := rfl
@[simp] theorem State.wrapInc_dio (s : State) (b : Nat) (f : Field) (n : Nat) : (s.wrapInc b f n).dio = s.dio := rfl
@[simp] theorem State.wrapInc_lpo (s : State) (b : Nat) (f : Field) (n : Nat) : (s.wrapInc b f n).lpo = s.lpo := rfl
@[simp] theorem State.wrapInc_can (s : State) (b : Nat) (f : Field) (n : Nat) : (s.wrapInc b f n).can = s.can := rfl
@[simp] theorem State.wrapInc_pnl (s : State) (b : Nat) (f : Field) (n : Nat) : (s.wrapInc b f n).pnl = s.pnl := rfl
@[simp] theorem State.wrapInc_rmp (s : State) (b : Nat) (f : Field) (n : Nat) : (s.wrapInc b f n).rmp = s.rmp := rfl
@[simp] theorem State.wrapInc_saf (s : State) (b : Nat) (f : Field) (n : Nat) : (s.wrapInc b f n).saf = s.saf := rfl
@[simp] theorem State.wrapInc_age (s : State) (b : Nat) (f : Field) (n : Nat) : (s.wrapInc b f n).age = s.age := rfl
@[simp] theorem State.wrapInc_sec (s : State) (b : Nat) (f : Field) (n : Nat) : (s.wrapInc b f n).sec = s.sec := rfl
@[simp] theorem State.wrapInc_lnk (s : State) (b : Nat) (f : Field) (n : Nat) : (s.wrapInc b f n).lnk = s.lnk := rfl

/-! ### State.irq -/

@[simp] theorem State.irq_now (s : State) (b n : Nat) : (s.irq b n).now = s.now := rfl
@[simp] theorem State.irq_pending (s : State) (b n : Nat) : (s.irq b n).pending = s.pending := rfl
@[simp] theorem State.irq_free (s : State) (b n : Nat) : (s.irq b n).free = s.free := rfl
@[simp] theorem State.irq_staged (s : State) (b n : Nat) : (s.irq b n).staged = s.staged := rfl
@[simp] theorem State.irq_group (s : State) (b n : Nat) : (s.irq b n).group = s.group := rfl
@[simp] theorem State.irq_rings (s : State) (b n : Nat) : (s.irq b n).rings = s.rings := rfl
@[simp] theorem State.irq_sealedPages (s : State) (b n : Nat) : (s.irq b n).sealedPages = s.sealedPages := rfl
@[simp] theorem State.irq_queue (s : State) (b n : Nat) : (s.irq b n).queue = s.queue := rfl
@[simp] theorem State.irq_host (s : State) (b n : Nat) : (s.irq b n).host = s.host := rfl
@[simp] theorem State.irq_trap (s : State) (b n : Nat) : (s.irq b n).trap = s.trap := rfl
@[simp] theorem State.irq_mem (s : State) (b n : Nat) : (s.irq b n).mem = s.mem := rfl
@[simp] theorem State.irq_poisoned (s : State) (b n : Nat) : (s.irq b n).poisoned = s.poisoned := rfl
@[simp] theorem State.irq_pwr (s : State) (b n : Nat) : (s.irq b n).pwr = s.pwr := rfl
@[simp] theorem State.irq_tly (s : State) (b n : Nat) : (s.irq b n).tly = s.tly := rfl
@[simp] theorem State.irq_sac (s : State) (b n : Nat) : (s.irq b n).sac = s.sac := rfl
@[simp] theorem State.irq_dyn (s : State) (b n : Nat) : (s.irq b n).dyn = s.dyn := rfl
@[simp] theorem State.irq_spx (s : State) (b n : Nat) : (s.irq b n).spx = s.spx := rfl
@[simp] theorem State.irq_sto (s : State) (b n : Nat) : (s.irq b n).sto = s.sto := rfl
@[simp] theorem State.irq_pte (s : State) (b n : Nat) : (s.irq b n).pte = s.pte := rfl
@[simp] theorem State.irq_alh (s : State) (b n : Nat) : (s.irq b n).alh = s.alh := rfl
@[simp] theorem State.irq_fbe (s : State) (b n : Nat) : (s.irq b n).fbe = s.fbe := rfl
@[simp] theorem State.irq_evr (s : State) (b n : Nat) : (s.irq b n).evr = s.evr := rfl
@[simp] theorem State.irq_tbs (s : State) (b n : Nat) : (s.irq b n).tbs = s.tbs := rfl
@[simp] theorem State.irq_dio (s : State) (b n : Nat) : (s.irq b n).dio = s.dio := rfl
@[simp] theorem State.irq_lpo (s : State) (b n : Nat) : (s.irq b n).lpo = s.lpo := rfl
@[simp] theorem State.irq_can (s : State) (b n : Nat) : (s.irq b n).can = s.can := rfl
@[simp] theorem State.irq_pnl (s : State) (b n : Nat) : (s.irq b n).pnl = s.pnl := rfl
@[simp] theorem State.irq_rmp (s : State) (b n : Nat) : (s.irq b n).rmp = s.rmp := rfl
@[simp] theorem State.irq_saf (s : State) (b n : Nat) : (s.irq b n).saf = s.saf := rfl
@[simp] theorem State.irq_age (s : State) (b n : Nat) : (s.irq b n).age = s.age := rfl
@[simp] theorem State.irq_sec (s : State) (b n : Nat) : (s.irq b n).sec = s.sec := rfl
@[simp] theorem State.irq_lnk (s : State) (b n : Nat) : (s.irq b n).lnk = s.lnk := rfl

/-! ### State.setRing -/

@[simp] theorem State.setRing_now (s : State) (r : ClampRing) : (s.setRing r).now = s.now := rfl
@[simp] theorem State.setRing_pending (s : State) (r : ClampRing) : (s.setRing r).pending = s.pending := rfl
@[simp] theorem State.setRing_free (s : State) (r : ClampRing) : (s.setRing r).free = s.free := rfl
@[simp] theorem State.setRing_regs (s : State) (r : ClampRing) : (s.setRing r).regs = s.regs := rfl
@[simp] theorem State.setRing_staged (s : State) (r : ClampRing) : (s.setRing r).staged = s.staged := rfl
@[simp] theorem State.setRing_group (s : State) (r : ClampRing) : (s.setRing r).group = s.group := rfl
@[simp] theorem State.setRing_sealedPages (s : State) (r : ClampRing) : (s.setRing r).sealedPages = s.sealedPages := rfl
@[simp] theorem State.setRing_queue (s : State) (r : ClampRing) : (s.setRing r).queue = s.queue := rfl
@[simp] theorem State.setRing_host (s : State) (r : ClampRing) : (s.setRing r).host = s.host := rfl
@[simp] theorem State.setRing_trap (s : State) (r : ClampRing) : (s.setRing r).trap = s.trap := rfl
@[simp] theorem State.setRing_mem (s : State) (r : ClampRing) : (s.setRing r).mem = s.mem := rfl
@[simp] theorem State.setRing_poisoned (s : State) (r : ClampRing) : (s.setRing r).poisoned = s.poisoned := rfl
@[simp] theorem State.setRing_pwr (s : State) (r : ClampRing) : (s.setRing r).pwr = s.pwr := rfl
@[simp] theorem State.setRing_tly (s : State) (r : ClampRing) : (s.setRing r).tly = s.tly := rfl
@[simp] theorem State.setRing_sac (s : State) (r : ClampRing) : (s.setRing r).sac = s.sac := rfl
@[simp] theorem State.setRing_dyn (s : State) (r : ClampRing) : (s.setRing r).dyn = s.dyn := rfl
@[simp] theorem State.setRing_spx (s : State) (r : ClampRing) : (s.setRing r).spx = s.spx := rfl
@[simp] theorem State.setRing_sto (s : State) (r : ClampRing) : (s.setRing r).sto = s.sto := rfl
@[simp] theorem State.setRing_pte (s : State) (r : ClampRing) : (s.setRing r).pte = s.pte := rfl
@[simp] theorem State.setRing_alh (s : State) (r : ClampRing) : (s.setRing r).alh = s.alh := rfl
@[simp] theorem State.setRing_fbe (s : State) (r : ClampRing) : (s.setRing r).fbe = s.fbe := rfl
@[simp] theorem State.setRing_evr (s : State) (r : ClampRing) : (s.setRing r).evr = s.evr := rfl
@[simp] theorem State.setRing_tbs (s : State) (r : ClampRing) : (s.setRing r).tbs = s.tbs := rfl
@[simp] theorem State.setRing_dio (s : State) (r : ClampRing) : (s.setRing r).dio = s.dio := rfl
@[simp] theorem State.setRing_lpo (s : State) (r : ClampRing) : (s.setRing r).lpo = s.lpo := rfl
@[simp] theorem State.setRing_can (s : State) (r : ClampRing) : (s.setRing r).can = s.can := rfl
@[simp] theorem State.setRing_pnl (s : State) (r : ClampRing) : (s.setRing r).pnl = s.pnl := rfl
@[simp] theorem State.setRing_rmp (s : State) (r : ClampRing) : (s.setRing r).rmp = s.rmp := rfl
@[simp] theorem State.setRing_saf (s : State) (r : ClampRing) : (s.setRing r).saf = s.saf := rfl
@[simp] theorem State.setRing_age (s : State) (r : ClampRing) : (s.setRing r).age = s.age := rfl
@[simp] theorem State.setRing_sec (s : State) (r : ClampRing) : (s.setRing r).sec = s.sec := rfl
@[simp] theorem State.setRing_lnk (s : State) (r : ClampRing) : (s.setRing r).lnk = s.lnk := rfl

/-! ### State.wr8 -/

@[simp] theorem State.wr8_now (s : State) (a : Nat) (x : Byte) : (s.wr8 a x).now = s.now := rfl
@[simp] theorem State.wr8_pending (s : State) (a : Nat) (x : Byte) : (s.wr8 a x).pending = s.pending := rfl
@[simp] theorem State.wr8_free (s : State) (a : Nat) (x : Byte) : (s.wr8 a x).free = s.free := rfl
@[simp] theorem State.wr8_regs (s : State) (a : Nat) (x : Byte) : (s.wr8 a x).regs = s.regs := rfl
@[simp] theorem State.wr8_staged (s : State) (a : Nat) (x : Byte) : (s.wr8 a x).staged = s.staged := rfl
@[simp] theorem State.wr8_group (s : State) (a : Nat) (x : Byte) : (s.wr8 a x).group = s.group := rfl
@[simp] theorem State.wr8_rings (s : State) (a : Nat) (x : Byte) : (s.wr8 a x).rings = s.rings := rfl
@[simp] theorem State.wr8_sealedPages (s : State) (a : Nat) (x : Byte) : (s.wr8 a x).sealedPages = s.sealedPages := rfl
@[simp] theorem State.wr8_queue (s : State) (a : Nat) (x : Byte) : (s.wr8 a x).queue = s.queue := rfl
@[simp] theorem State.wr8_host (s : State) (a : Nat) (x : Byte) : (s.wr8 a x).host = s.host := rfl
@[simp] theorem State.wr8_trap (s : State) (a : Nat) (x : Byte) : (s.wr8 a x).trap = s.trap := rfl
@[simp] theorem State.wr8_poisoned (s : State) (a : Nat) (x : Byte) : (s.wr8 a x).poisoned = s.poisoned := rfl
@[simp] theorem State.wr8_pwr (s : State) (a : Nat) (x : Byte) : (s.wr8 a x).pwr = s.pwr := rfl
@[simp] theorem State.wr8_tly (s : State) (a : Nat) (x : Byte) : (s.wr8 a x).tly = s.tly := rfl
@[simp] theorem State.wr8_sac (s : State) (a : Nat) (x : Byte) : (s.wr8 a x).sac = s.sac := rfl
@[simp] theorem State.wr8_dyn (s : State) (a : Nat) (x : Byte) : (s.wr8 a x).dyn = s.dyn := rfl
@[simp] theorem State.wr8_spx (s : State) (a : Nat) (x : Byte) : (s.wr8 a x).spx = s.spx := rfl
@[simp] theorem State.wr8_sto (s : State) (a : Nat) (x : Byte) : (s.wr8 a x).sto = s.sto := rfl
@[simp] theorem State.wr8_pte (s : State) (a : Nat) (x : Byte) : (s.wr8 a x).pte = s.pte := rfl
@[simp] theorem State.wr8_alh (s : State) (a : Nat) (x : Byte) : (s.wr8 a x).alh = s.alh := rfl
@[simp] theorem State.wr8_fbe (s : State) (a : Nat) (x : Byte) : (s.wr8 a x).fbe = s.fbe := rfl
@[simp] theorem State.wr8_evr (s : State) (a : Nat) (x : Byte) : (s.wr8 a x).evr = s.evr := rfl
@[simp] theorem State.wr8_tbs (s : State) (a : Nat) (x : Byte) : (s.wr8 a x).tbs = s.tbs := rfl
@[simp] theorem State.wr8_dio (s : State) (a : Nat) (x : Byte) : (s.wr8 a x).dio = s.dio := rfl
@[simp] theorem State.wr8_lpo (s : State) (a : Nat) (x : Byte) : (s.wr8 a x).lpo = s.lpo := rfl
@[simp] theorem State.wr8_can (s : State) (a : Nat) (x : Byte) : (s.wr8 a x).can = s.can := rfl
@[simp] theorem State.wr8_pnl (s : State) (a : Nat) (x : Byte) : (s.wr8 a x).pnl = s.pnl := rfl
@[simp] theorem State.wr8_rmp (s : State) (a : Nat) (x : Byte) : (s.wr8 a x).rmp = s.rmp := rfl
@[simp] theorem State.wr8_saf (s : State) (a : Nat) (x : Byte) : (s.wr8 a x).saf = s.saf := rfl
@[simp] theorem State.wr8_age (s : State) (a : Nat) (x : Byte) : (s.wr8 a x).age = s.age := rfl
@[simp] theorem State.wr8_sec (s : State) (a : Nat) (x : Byte) : (s.wr8 a x).sec = s.sec := rfl
@[simp] theorem State.wr8_lnk (s : State) (a : Nat) (x : Byte) : (s.wr8 a x).lnk = s.lnk := rfl

/-! ### State.curePoison -/

@[simp] theorem State.curePoison_now (s : State) (a n : Nat) : (s.curePoison a n).now = s.now := rfl
@[simp] theorem State.curePoison_pending (s : State) (a n : Nat) : (s.curePoison a n).pending = s.pending := rfl
@[simp] theorem State.curePoison_free (s : State) (a n : Nat) : (s.curePoison a n).free = s.free := rfl
@[simp] theorem State.curePoison_regs (s : State) (a n : Nat) : (s.curePoison a n).regs = s.regs := rfl
@[simp] theorem State.curePoison_staged (s : State) (a n : Nat) : (s.curePoison a n).staged = s.staged := rfl
@[simp] theorem State.curePoison_group (s : State) (a n : Nat) : (s.curePoison a n).group = s.group := rfl
@[simp] theorem State.curePoison_rings (s : State) (a n : Nat) : (s.curePoison a n).rings = s.rings := rfl
@[simp] theorem State.curePoison_sealedPages (s : State) (a n : Nat) : (s.curePoison a n).sealedPages = s.sealedPages := rfl
@[simp] theorem State.curePoison_queue (s : State) (a n : Nat) : (s.curePoison a n).queue = s.queue := rfl
@[simp] theorem State.curePoison_host (s : State) (a n : Nat) : (s.curePoison a n).host = s.host := rfl
@[simp] theorem State.curePoison_trap (s : State) (a n : Nat) : (s.curePoison a n).trap = s.trap := rfl
@[simp] theorem State.curePoison_mem (s : State) (a n : Nat) : (s.curePoison a n).mem = s.mem := rfl
@[simp] theorem State.curePoison_pwr (s : State) (a n : Nat) : (s.curePoison a n).pwr = s.pwr := rfl
@[simp] theorem State.curePoison_tly (s : State) (a n : Nat) : (s.curePoison a n).tly = s.tly := rfl
@[simp] theorem State.curePoison_sac (s : State) (a n : Nat) : (s.curePoison a n).sac = s.sac := rfl
@[simp] theorem State.curePoison_dyn (s : State) (a n : Nat) : (s.curePoison a n).dyn = s.dyn := rfl
@[simp] theorem State.curePoison_spx (s : State) (a n : Nat) : (s.curePoison a n).spx = s.spx := rfl
@[simp] theorem State.curePoison_sto (s : State) (a n : Nat) : (s.curePoison a n).sto = s.sto := rfl
@[simp] theorem State.curePoison_pte (s : State) (a n : Nat) : (s.curePoison a n).pte = s.pte := rfl
@[simp] theorem State.curePoison_alh (s : State) (a n : Nat) : (s.curePoison a n).alh = s.alh := rfl
@[simp] theorem State.curePoison_fbe (s : State) (a n : Nat) : (s.curePoison a n).fbe = s.fbe := rfl
@[simp] theorem State.curePoison_evr (s : State) (a n : Nat) : (s.curePoison a n).evr = s.evr := rfl
@[simp] theorem State.curePoison_tbs (s : State) (a n : Nat) : (s.curePoison a n).tbs = s.tbs := rfl
@[simp] theorem State.curePoison_dio (s : State) (a n : Nat) : (s.curePoison a n).dio = s.dio := rfl
@[simp] theorem State.curePoison_lpo (s : State) (a n : Nat) : (s.curePoison a n).lpo = s.lpo := rfl
@[simp] theorem State.curePoison_can (s : State) (a n : Nat) : (s.curePoison a n).can = s.can := rfl
@[simp] theorem State.curePoison_pnl (s : State) (a n : Nat) : (s.curePoison a n).pnl = s.pnl := rfl
@[simp] theorem State.curePoison_rmp (s : State) (a n : Nat) : (s.curePoison a n).rmp = s.rmp := rfl
@[simp] theorem State.curePoison_saf (s : State) (a n : Nat) : (s.curePoison a n).saf = s.saf := rfl
@[simp] theorem State.curePoison_age (s : State) (a n : Nat) : (s.curePoison a n).age = s.age := rfl
@[simp] theorem State.curePoison_sec (s : State) (a n : Nat) : (s.curePoison a n).sec = s.sec := rfl
@[simp] theorem State.curePoison_lnk (s : State) (a n : Nat) : (s.curePoison a n).lnk = s.lnk := rfl

/-! ### State.withPending -/

@[simp] theorem State.withPending_now (s : State) (l : List Instr) : (s.withPending l).now = s.now := rfl
@[simp] theorem State.withPending_free (s : State) (l : List Instr) : (s.withPending l).free = s.free := rfl
@[simp] theorem State.withPending_regs (s : State) (l : List Instr) : (s.withPending l).regs = s.regs := rfl
@[simp] theorem State.withPending_staged (s : State) (l : List Instr) : (s.withPending l).staged = s.staged := rfl
@[simp] theorem State.withPending_group (s : State) (l : List Instr) : (s.withPending l).group = s.group := rfl
@[simp] theorem State.withPending_rings (s : State) (l : List Instr) : (s.withPending l).rings = s.rings := rfl
@[simp] theorem State.withPending_sealedPages (s : State) (l : List Instr) : (s.withPending l).sealedPages = s.sealedPages := rfl
@[simp] theorem State.withPending_queue (s : State) (l : List Instr) : (s.withPending l).queue = s.queue := rfl
@[simp] theorem State.withPending_host (s : State) (l : List Instr) : (s.withPending l).host = s.host := rfl
@[simp] theorem State.withPending_trap (s : State) (l : List Instr) : (s.withPending l).trap = s.trap := rfl
@[simp] theorem State.withPending_mem (s : State) (l : List Instr) : (s.withPending l).mem = s.mem := rfl
@[simp] theorem State.withPending_poisoned (s : State) (l : List Instr) : (s.withPending l).poisoned = s.poisoned := rfl
@[simp] theorem State.withPending_pwr (s : State) (l : List Instr) : (s.withPending l).pwr = s.pwr := rfl
@[simp] theorem State.withPending_tly (s : State) (l : List Instr) : (s.withPending l).tly = s.tly := rfl
@[simp] theorem State.withPending_sac (s : State) (l : List Instr) : (s.withPending l).sac = s.sac := rfl
@[simp] theorem State.withPending_dyn (s : State) (l : List Instr) : (s.withPending l).dyn = s.dyn := rfl
@[simp] theorem State.withPending_spx (s : State) (l : List Instr) : (s.withPending l).spx = s.spx := rfl
@[simp] theorem State.withPending_sto (s : State) (l : List Instr) : (s.withPending l).sto = s.sto := rfl
@[simp] theorem State.withPending_pte (s : State) (l : List Instr) : (s.withPending l).pte = s.pte := rfl
@[simp] theorem State.withPending_alh (s : State) (l : List Instr) : (s.withPending l).alh = s.alh := rfl
@[simp] theorem State.withPending_fbe (s : State) (l : List Instr) : (s.withPending l).fbe = s.fbe := rfl
@[simp] theorem State.withPending_evr (s : State) (l : List Instr) : (s.withPending l).evr = s.evr := rfl
@[simp] theorem State.withPending_tbs (s : State) (l : List Instr) : (s.withPending l).tbs = s.tbs := rfl
@[simp] theorem State.withPending_dio (s : State) (l : List Instr) : (s.withPending l).dio = s.dio := rfl
@[simp] theorem State.withPending_lpo (s : State) (l : List Instr) : (s.withPending l).lpo = s.lpo := rfl
@[simp] theorem State.withPending_can (s : State) (l : List Instr) : (s.withPending l).can = s.can := rfl
@[simp] theorem State.withPending_pnl (s : State) (l : List Instr) : (s.withPending l).pnl = s.pnl := rfl
@[simp] theorem State.withPending_rmp (s : State) (l : List Instr) : (s.withPending l).rmp = s.rmp := rfl
@[simp] theorem State.withPending_saf (s : State) (l : List Instr) : (s.withPending l).saf = s.saf := rfl
@[simp] theorem State.withPending_age (s : State) (l : List Instr) : (s.withPending l).age = s.age := rfl
@[simp] theorem State.withPending_sec (s : State) (l : List Instr) : (s.withPending l).sec = s.sec := rfl
@[simp] theorem State.withPending_lnk (s : State) (l : List Instr) : (s.withPending l).lnk = s.lnk := rfl

@[simp] theorem State.withPending_pending (s : State) (l : List Instr) : (s.withPending l).pending = l := rfl
@[simp] theorem State.setReg_regs (s : State) (a : Nat) (w : Word) : (s.setReg a w).regs = SMap.insert s.regs a w := rfl
@[simp] theorem State.wr8_mem (s : State) (a : Nat) (x : Byte) : (s.wr8 a x).mem = SMap.put memDflt s.mem a x := rfl

end Sys2Proof.Machine
end

