-- ==== Sys2Proof/Laws/Store.lean ====
section
/-! SUPPORT. The laws of the sparse maps: a read after a write, and that every operation keeps the canonical form (addresses strictly
rising, no entry equal to what an unlisted one reads as); the same for the bytes of the storeroom. -/

namespace Sys2Proof.Machine

open Sys2Proof

variable {α : Type}

/-! ### Reads -/

theorem SMap.get?_insert_same (m : SMap α) (a : Nat) (v : α) : SMap.get? (SMap.insert m a v) a = some v := by
  induction m with
  | nil => simp [SMap.insert, SMap.get?]
  | cons p m ih =>
    obtain ⟨k, w⟩ := p
    simp only [SMap.insert]
    split
    · simp [SMap.get?]
    · split
      · rename_i h; simp [SMap.get?, h]
      · rename_i h1 h2; simp [SMap.get?, h2, ih]

theorem SMap.get?_insert_ne (m : SMap α) (a b : Nat) (v : α) (h : b ≠ a) : SMap.get? (SMap.insert m a v) b = SMap.get? m b := by
  induction m with
  | nil => simp [SMap.insert, SMap.get?, h]
  | cons p m ih =>
    obtain ⟨k, w⟩ := p
    simp only [SMap.insert]
    split
    · simp [SMap.get?, h]
    · split
      · rename_i h1 h2
        subst h2
        simp [SMap.get?, h]
      · simp [SMap.get?, ih]

theorem SMap.get_insert_same (d : Nat → α) (m : SMap α) (a : Nat) (v : α) : SMap.get d (SMap.insert m a v) a = v := by
  simp [SMap.get, SMap.get?_insert_same]

theorem SMap.get_insert_ne (d : Nat → α) (m : SMap α) (a b : Nat) (v : α) (h : b ≠ a) :
    SMap.get d (SMap.insert m a v) b = SMap.get d m b := by
  simp [SMap.get, SMap.get?_insert_ne m a b v h]

/-! ### The canonical form -/

theorem SMap.rising_weaken (m : SMap α) {b c : Nat} (hbc : b ≤ c) (h : SMap.rising c m = true) : SMap.rising b m = true := by
  cases m with
  | nil => rfl
  | cons p m =>
    obtain ⟨k, w⟩ := p
    simp only [SMap.rising, Bool.and_eq_true, decide_eq_true_eq] at h ⊢
    exact ⟨le_trans hbc h.1, h.2⟩

theorem SMap.rising_insert (m : SMap α) (a : Nat) (v : α) (b : Nat) (hb : b ≤ a) (h : SMap.rising b m = true) :
    SMap.rising b (SMap.insert m a v) = true := by
  induction m generalizing b with
  | nil => simp [SMap.insert, SMap.rising, hb]
  | cons p m ih =>
    obtain ⟨k, w⟩ := p
    simp only [SMap.rising, Bool.and_eq_true, decide_eq_true_eq] at h
    simp only [SMap.insert]
    split
    · rename_i hlt
      simp only [SMap.rising, Bool.and_eq_true, decide_eq_true_eq]
      exact ⟨hb, hlt, h.2⟩
    · split
      · simp only [SMap.rising, Bool.and_eq_true, decide_eq_true_eq]
        exact ⟨h.1, h.2⟩
      · simp only [SMap.rising, Bool.and_eq_true, decide_eq_true_eq]
        exact ⟨h.1, ih (k + 1) (by omega) h.2⟩

theorem SMap.rising_erase (m : SMap α) (a b : Nat) (h : SMap.rising b m = true) : SMap.rising b (SMap.erase m a) = true := by
  induction m generalizing b with
  | nil => rfl
  | cons p m ih =>
    obtain ⟨k, w⟩ := p
    simp only [SMap.rising, Bool.and_eq_true, decide_eq_true_eq] at h
    simp only [SMap.erase]
    split
    · exact SMap.rising_weaken m (by omega) h.2
    · simp only [SMap.rising, Bool.and_eq_true, decide_eq_true_eq]
      exact ⟨h.1, ih (k + 1) h.2⟩

theorem SMap.rising_filter (m : SMap α) (p : Nat × α → Bool) (b : Nat) (h : SMap.rising b m = true) :
    SMap.rising b (m.filter p) = true := by
  induction m generalizing b with
  | nil => rfl
  | cons x m ih =>
    obtain ⟨k, w⟩ := x
    simp only [SMap.rising, Bool.and_eq_true, decide_eq_true_eq] at h
    simp only [List.filter_cons]
    split
    · simp only [SMap.rising, Bool.and_eq_true, decide_eq_true_eq]
      exact ⟨h.1, ih (k + 1) h.2⟩
    · exact ih b (SMap.rising_weaken m (by omega) h.2)

/-- In a rising list no key below the bound is listed. -/
theorem SMap.get?_below (m : SMap α) (a b : Nat) (hab : a < b) (h : SMap.rising b m = true) : SMap.get? m a = none := by
  induction m generalizing b with
  | nil => rfl
  | cons p m ih =>
    obtain ⟨k, w⟩ := p
    simp only [SMap.rising, Bool.and_eq_true, decide_eq_true_eq] at h
    have hk : a ≠ k := by omega
    simp [SMap.get?, hk, ih (k + 1) (by omega) h.2]

theorem SMap.get?_erase_same (m : SMap α) (a b : Nat) (h : SMap.rising b m = true) : SMap.get? (SMap.erase m a) a = none := by
  induction m generalizing b with
  | nil => rfl
  | cons p m ih =>
    obtain ⟨k, w⟩ := p
    simp only [SMap.rising, Bool.and_eq_true, decide_eq_true_eq] at h
    simp only [SMap.erase]
    split
    · rename_i hk
      exact SMap.get?_below m a (k + 1) (by omega) h.2
    · rename_i hk
      simp [SMap.get?, hk, ih (k + 1) h.2]

theorem SMap.get?_erase_ne (m : SMap α) (a c : Nat) (hc : c ≠ a) : SMap.get? (SMap.erase m a) c = SMap.get? m c := by
  induction m with
  | nil => rfl
  | cons p m ih =>
    obtain ⟨k, w⟩ := p
    simp only [SMap.erase]
    split
    · rename_i hk
      have : c ≠ k := by omega
      simp [SMap.get?, this]
    · simp [SMap.get?, ih]

variable [DecidableEq α]

theorem SMap.noDflt_insert (d : Nat → α) (m : SMap α) (a : Nat) (v : α) (hv : v ≠ d a) (h : SMap.noDflt d m = true) :
    SMap.noDflt d (SMap.insert m a v) = true := by
  induction m with
  | nil => simp [SMap.insert, SMap.noDflt, hv]
  | cons p m ih =>
    obtain ⟨k, w⟩ := p
    simp only [SMap.noDflt, List.all_cons, Bool.and_eq_true, decide_eq_true_eq] at h ih
    simp only [SMap.insert]
    split
    · simp only [SMap.noDflt, List.all_cons, Bool.and_eq_true, decide_eq_true_eq]; exact ⟨hv, h⟩
    · split
      · rename_i h1 h2
        simp only [SMap.noDflt, List.all_cons, Bool.and_eq_true, decide_eq_true_eq]; exact ⟨h2 ▸ hv, h.2⟩
      · simp only [SMap.noDflt, List.all_cons, Bool.and_eq_true, decide_eq_true_eq]; exact ⟨h.1, ih h.2⟩

theorem SMap.noDflt_erase (d : Nat → α) (m : SMap α) (a : Nat) (h : SMap.noDflt d m = true) :
    SMap.noDflt d (SMap.erase m a) = true := by
  induction m with
  | nil => rfl
  | cons p m ih =>
    obtain ⟨k, w⟩ := p
    simp only [SMap.noDflt, List.all_cons, Bool.and_eq_true, decide_eq_true_eq] at h ih
    simp only [SMap.erase]
    split
    · exact h.2
    · simp only [SMap.noDflt, List.all_cons, Bool.and_eq_true, decide_eq_true_eq]; exact ⟨h.1, ih h.2⟩

theorem SMap.noDflt_filter (d : Nat → α) (m : SMap α) (p : Nat × α → Bool) (h : SMap.noDflt d m = true) :
    SMap.noDflt d (m.filter p) = true := by
  simp only [SMap.noDflt, List.all_eq_true, decide_eq_true_eq, List.mem_filter, and_imp] at h ⊢
  exact fun x hx _ => h x hx

theorem SMap.wf_put (d : Nat → α) (m : SMap α) (a : Nat) (v : α) (h : SMap.wf d m = true) : SMap.wf d (SMap.put d m a v) = true := by
  simp only [SMap.wf, Bool.and_eq_true] at h ⊢
  simp only [SMap.put]
  split
  · exact ⟨SMap.rising_erase m a 0 h.1, SMap.noDflt_erase d m a h.2⟩
  · rename_i hv
    exact ⟨SMap.rising_insert m a v 0 (Nat.zero_le a) h.1, SMap.noDflt_insert d m a v hv h.2⟩

theorem SMap.wf_filter (d : Nat → α) (m : SMap α) (p : Nat × α → Bool) (h : SMap.wf d m = true) : SMap.wf d (m.filter p) = true := by
  simp only [SMap.wf, Bool.and_eq_true] at h ⊢
  exact ⟨SMap.rising_filter m p 0 h.1, SMap.noDflt_filter d m p h.2⟩

theorem SMap.wf_dropRange (d : Nat → α) (m : SMap α) (lo hi : Nat) (h : SMap.wf d m = true) : SMap.wf d (SMap.dropRange m lo hi) = true :=
  SMap.wf_filter d m _ h

theorem SMap.get_put_same (d : Nat → α) (m : SMap α) (a : Nat) (v : α) (h : SMap.rising 0 m = true) :
    SMap.get d (SMap.put d m a v) a = v := by
  simp only [SMap.put]
  split
  · rename_i hv
    simp [SMap.get, SMap.get?_erase_same m a 0 h, hv]
  · exact SMap.get_insert_same d m a v

theorem SMap.get_put_ne (d : Nat → α) (m : SMap α) (a c : Nat) (v : α) (hc : c ≠ a) :
    SMap.get d (SMap.put d m a v) c = SMap.get d m c := by
  simp only [SMap.put]
  split
  · simp [SMap.get, SMap.get?_erase_ne m a c hc]
  · exact SMap.get_insert_ne d m a c v hc

/-! ### The storeroom -/

/-- A byte written reads as written. -/
theorem State.rd8_wr8_same (s : State) (a : Nat) (b : Byte) (h : Memory.wf s.mem) : (s.wr8 a b).rd8 a = b := by
  have h' : SMap.rising 0 s.mem = true := by
    have := h
    simp only [Memory.wf, SMap.wf, Bool.and_eq_true] at this
    exact this.1
  exact SMap.get_put_same memDflt s.mem a b h'

/-- A write leaves every other byte as it was. -/
theorem State.rd8_wr8_ne (s : State) (a c : Nat) (b : Byte) (h : c ≠ a) : (s.wr8 a b).rd8 c = s.rd8 c :=
  SMap.get_put_ne memDflt s.mem a c b h

/-- One byte written keeps the canonical form. -/
theorem State.wr8_wf (s : State) (a : Nat) (b : Byte) (h : Memory.wf s.mem) : Memory.wf (s.wr8 a b).mem :=
  SMap.wf_put memDflt s.mem a b h

theorem State.wrBytes_wf (l : List Byte) : ∀ (s : State) (a : Nat), Memory.wf s.mem → Memory.wf (s.wrBytes a l).mem := by
  induction l with
  | nil => intro s a h; exact h
  | cons b l ih => intro s a h; exact ih (s.wr8 a b) (a + 1) (s.wr8_wf a b h)

/-- Bytes written leave every byte outside their range as it was. -/
theorem State.rd8_wrBytes_outside (l : List Byte) :
    ∀ (s : State) (a c : Nat), (c < a ∨ a + l.length ≤ c) → (s.wrBytes a l).rd8 c = s.rd8 c := by
  induction l with
  | nil => intro s a c _; rfl
  | cons b l ih =>
    intro s a c h
    simp only [List.length_cons] at h
    have h1 : (s.wrBytes a (b :: l)).rd8 c = (s.wr8 a b).rd8 c := ih (s.wr8 a b) (a + 1) c (by omega)
    rw [h1]
    exact s.rd8_wr8_ne a c b (by omega)

/-- A node write keeps the canonical form. -/
theorem State.nodeWrite_wf (s : State) (a : Nat) (l : List Byte) (h : Memory.wf s.mem) : Memory.wf (s.nodeWrite a l).mem := by
  simp only [State.nodeWrite]
  split
  · exact h
  · exact State.wrBytes_wf l _ _ h

/-- A node write leaves every byte outside its range as it was. -/
theorem State.rd8_nodeWrite_outside (s : State) (a : Nat) (l : List Byte) (c : Nat) (h : c < a ∨ a + l.length ≤ c) :
    (s.nodeWrite a l).rd8 c = s.rd8 c := by
  simp only [State.nodeWrite]
  split
  · rfl
  · exact State.rd8_wrBytes_outside l _ a c h

/-- A range dropped keeps the canonical form. -/
theorem Memory.wf_dropRange (m : SMap Byte) (lo hi : Nat) (h : Memory.wf m) : Memory.wf (SMap.dropRange m lo hi) :=
  SMap.wf_dropRange memDflt m lo hi h

end Sys2Proof.Machine
end

