-- ==== Sys2Proof/Laws/Keeps.lean ====
section
/-! SUPPORT. What every operation keeps: the clauses of the invariant, the queue of commands, and the order of time. -/

namespace Sys2Proof.Machine

open Sys2Proof

set_option linter.all false

/-- From `s` to `s'` every clause of the invariant is kept, the timebase does not step back, and the commands that wait stand as before. -/
structure Keeps (s s' : State) : Prop where
  mem : Memory.wf s.mem → Memory.wf s'.mem
  regs : SMap.rising 0 s.regs = true → SMap.rising 0 s'.regs = true
  staged : SMap.rising 0 s.staged = true → SMap.rising 0 s'.staged = true
  rings : s.ringsBounded → s'.ringsBounded
  queue : s.queue.length ≤ 16 → s'.queue.length ≤ 16
  group : s.group.length ≤ 64 → s'.group.length ≤ 64
  tallies : s.talliesBounded → s'.talliesBounded
  triggers : s.evr.queue.length ≤ 4096 → s'.evr.queue.length ≤ 4096
  poison : s.poisonAligned → s'.poisonAligned
  now : s.now ≤ s'.now
  pending : s'.pending = s.pending

theorem Keeps.refl (s : State) : Keeps s s := ⟨id, id, id, id, id, id, id, id, id, Nat.le_refl _, rfl⟩

theorem Keeps.trans {s t u : State} (h : Keeps s t) (g : Keeps t u) : Keeps s u :=
  ⟨g.mem ∘ h.mem, g.regs ∘ h.regs, g.staged ∘ h.staged, g.rings ∘ h.rings, g.queue ∘ h.queue, g.group ∘ h.group, g.tallies ∘ h.tallies,
   g.triggers ∘ h.triggers, g.poison ∘ h.poison, Nat.le_trans h.now g.now, g.pending.trans h.pending⟩

theorem Keeps.ite {c : Prop} [Decidable c] {s t u : State} (h : c → Keeps s t) (g : ¬c → Keeps s u) : Keeps s (if c then t else u) := by
  split
  · exact h ‹_›
  · exact g ‹_›

theorem Keeps.foldl {α : Type} {f : State → α → State} {s : State} (hf : ∀ t x, Keeps s t → Keeps s (f t x)) :
    ∀ (l : List α) {t : State}, Keeps s t → Keeps s (l.foldl f t)
  | [], _, h => h
  | x :: l, t, h => Keeps.foldl hf l (hf t x h)

theorem Keeps.foldlFst {α β : Type} {f : State × β → α → State × β} {s : State} (hf : ∀ r x, Keeps s r.1 → Keeps s (f r x).1) :
    ∀ (l : List α) {r : State × β}, Keeps s r.1 → Keeps s (l.foldl f r).1
  | [], _, h => h
  | x :: l, r, h => Keeps.foldlFst hf l (hf r x h)

/-- An update of fields that no clause reads. -/
theorem Keeps.rest {s t : State} {free : Nat} {sealedPages : List Nat} {host trap : PortState} {pwr : Pwr} {sac : Sac} {dyn : List DynCh}
    {spx : List SpxPl} {sto : Sto} {pte : Pte} {alh : Alh} {fbe : Fbe} {tbs : Tbs} {dio : Dio} {lpo : Lpo} {can : Can} {pnl : Pnl} {rmp : Rmp}
    {saf : Saf} {age : Age} {sec : Sec} {lnk : Lnk} {lists stagedLists : SMap Word} {larder : List Crate} {marker : Option Marker}
    {lastSeq late : Nat} {paused : Bool} {loss : Option (Nat × Nat × Nat)} {losses : Nat} (h : Keeps s t) :
    Keeps s (State.mk t.now t.pending free t.regs t.staged t.group t.rings sealedPages t.queue host trap t.mem t.poisoned pwr t.tly sac dyn
      spx sto pte alh fbe (Evr.mk lists stagedLists t.evr.queue larder marker lastSeq paused late loss losses) tbs dio lpo can pnl rmp saf age sec
      lnk) :=
  h.trans ⟨id, id, id, id, id, id, id, id, id, Nat.le_refl _, rfl⟩

theorem Keeps.setRegs {s t : State} {r : SMap Word} (hr : SMap.rising 0 t.regs = true → SMap.rising 0 r = true) (h : Keeps s t) :
    Keeps s { t with regs := r } :=
  h.trans ⟨id, hr, id, id, id, id, id, id, id, Nat.le_refl _, rfl⟩

theorem Keeps.setStaged {s t : State} {r : SMap Word} (hr : SMap.rising 0 t.staged = true → SMap.rising 0 r = true) (h : Keeps s t) :
    Keeps s { t with staged := r } :=
  h.trans ⟨id, id, hr, id, id, id, id, id, id, Nat.le_refl _, rfl⟩

theorem Keeps.setMem {s t : State} {m : SMap Byte} (hm : Memory.wf t.mem → Memory.wf m) (h : Keeps s t) : Keeps s { t with mem := m } :=
  h.trans ⟨hm, id, id, id, id, id, id, id, id, Nat.le_refl _, rfl⟩

theorem Keeps.setQueue {s t : State} {q : List Frame} (hq : t.queue.length ≤ 16 → q.length ≤ 16) (h : Keeps s t) :
    Keeps s { t with queue := q } :=
  h.trans ⟨id, id, id, id, hq, id, id, id, id, Nat.le_refl _, rfl⟩

theorem Keeps.setGroup {s t : State} {g : List Nat} (hg : t.group.length ≤ 64 → g.length ≤ 64) (h : Keeps s t) :
    Keeps s { t with group := g } :=
  h.trans ⟨id, id, id, id, id, hg, id, id, id, Nat.le_refl _, rfl⟩

theorem Keeps.setTly {s t : State} {x : Tly}
    (hx : t.talliesBounded → x.out.length ≤ 64 ∧ x.out.length + x.cq.length ≤ 256) (h : Keeps s t) : Keeps s { t with tly := x } :=
  h.trans ⟨id, id, id, id, id, id, hx, id, id, Nat.le_refl _, rfl⟩

theorem Keeps.setTriggers {s t : State} {e : Evr} (he : t.evr.queue.length ≤ 4096 → e.queue.length ≤ 4096) (h : Keeps s t) :
    Keeps s { t with evr := e } :=
  h.trans ⟨id, id, id, id, id, id, id, he, id, Nat.le_refl _, rfl⟩

theorem Keeps.setPoisoned {s t : State} {l : List Nat} (hl : t.poisonAligned → ∀ a ∈ l, a % 8 = 0) (h : Keeps s t) :
    Keeps s { t with poisoned := l } :=
  h.trans ⟨id, id, id, id, id, id, id, id, hl, Nat.le_refl _, rfl⟩

theorem Keeps.setNow {s t : State} {n : Nat} (hn : t.now ≤ n) (h : Keeps s t) : Keeps s { t with now := n } :=
  h.trans ⟨id, id, id, id, id, id, id, id, id, hn, rfl⟩

/-! ### Registers, rings, storeroom -/

theorem State.setReg_keeps {s t : State} {a : Nat} {w : Word} (h : Keeps s t) : Keeps s (t.setReg a w) :=
  Keeps.setRegs (SMap.rising_insert _ _ _ _ (Nat.zero_le _)) h

theorem State.setFv_keeps {s t : State} {b v : Nat} {f : Field} (h : Keeps s t) : Keeps s (t.setFv b f v) := State.setReg_keeps h
theorem State.setFb_keeps {s t : State} {b : Nat} {f : Field} {v : Bool} (h : Keeps s t) : Keeps s (t.setFb b f v) := State.setReg_keeps h
theorem State.satInc_keeps {s t : State} {b n : Nat} {f : Field} (h : Keeps s t) : Keeps s (t.satInc b f n) := State.setReg_keeps h
theorem State.wrapInc_keeps {s t : State} {b n : Nat} {f : Field} (h : Keeps s t) : Keeps s (t.wrapInc b f n) := State.setReg_keeps h
theorem State.setStamp_keeps {s t : State} {b n : Nat} {lo hi : Field} (h : Keeps s t) : Keeps s (t.setStamp b lo hi n) :=
  State.setReg_keeps (State.setReg_keeps h)
theorem State.irq_keeps {s t : State} {b n : Nat} (h : Keeps s t) : Keeps s (t.irq b n) := State.setReg_keeps h
theorem State.irqIf_keeps {s t : State} {c : Bool} {b n : Nat} (h : Keeps s t) : Keeps s (t.irqIf c b n) :=
  Keeps.ite (fun _ => State.irq_keeps h) (fun _ => h)

/-- The ring of a page is one of those listed, or empty. -/
theorem State.ring_bounded (s : State) (b : Nat) (h : s.ringsBounded) : (s.ring b).entries.length ≤ 8 := by
  unfold State.ring
  cases hf : s.rings.find? (fun r => decide (r.page = b)) with
  | none => exact Nat.zero_le _
  | some r => exact h r (List.mem_of_find?_eq_some hf)

theorem State.setRing_keeps {s t : State} {r : ClampRing} (hr : t.ringsBounded → r.entries.length ≤ 8) (h : Keeps s t) :
    Keeps s (t.setRing r) := by
  refine h.trans ⟨id, id, id, fun hb => ?_, id, id, id, id, id, Nat.le_refl _, rfl⟩
  intro x hx
  simp only [State.setRing] at hx
  split at hx
  · exact hb x (List.mem_filter.1 hx).1
  · rcases List.mem_cons.1 hx with rfl | hx
    · exact hr hb
    · exact hb x (List.mem_filter.1 hx).1

theorem State.clampAt_keeps {s t : State} {b off lsb wr st : Nat} {src : Bool} (h : Keeps s t) : Keeps s (t.clampAt b off lsb src wr st) := by
  refine Keeps.rest (State.irq_keeps (State.setRing_keeps (fun hb => ?_) h))
  have hl := State.ring_bounded t b hb
  split
  · simp only [List.length_append, List.length_cons, List.length_nil]; omega
  · exact hl

theorem State.wr8_keeps {s t : State} {a : Nat} {b : Byte} (h : Keeps s t) : Keeps s (t.wr8 a b) :=
  Keeps.setMem (State.wr8_wf t a b) h

theorem State.wrBytes_keeps {s : State} {l : List Byte} : ∀ {t : State} {a : Nat}, Keeps s t → Keeps s (t.wrBytes a l) := by
  induction l with
  | nil => exact fun h => h
  | cons b l ih => exact fun h => ih (State.wr8_keeps h)

theorem State.wrLe_keeps {s t : State} {a n v : Nat} (h : Keeps s t) : Keeps s (t.wrLe a n v) := State.wrBytes_keeps h

theorem State.curePoison_keeps {s t : State} {a n : Nat} (h : Keeps s t) : Keeps s (t.curePoison a n) :=
  Keeps.setPoisoned (fun hp x hx => hp x (List.mem_filter.1 hx).1) h

theorem State.nodeWrite_keeps {s t : State} {a : Nat} {l : List Byte} (h : Keeps s t) : Keeps s (t.nodeWrite a l) :=
  Keeps.ite (fun _ => h) (fun _ => State.wrBytes_keeps (State.curePoison_keeps h))

theorem State.nodeWriteLe_keeps {s t : State} {a n v : Nat} (h : Keeps s t) : Keeps s (t.nodeWriteLe a n v) := State.nodeWrite_keeps h

theorem State.rowDue_keeps {s t : State} {x : Nat × Nat} (h : Keeps s t) : Keeps s (t.rowDue x) := by
  unfold State.rowDue
  exact Keeps.ite (fun _ => h) (fun _ => Keeps.rest h)

theorem State.uncorrectable_keeps {s t : State} {a : Nat} (h : Keeps s t) : Keeps s (t.uncorrectable a) := by
  refine Keeps.ite (fun _ => h) (fun _ => State.irq_keeps ?_)
  have hp : Keeps s { t with poisoned := t.poisoned ++ [a / 8 * 8] } := by
    refine Keeps.setPoisoned (fun hp x hx => ?_) h
    rcases List.mem_append.1 hx with hx | hx
    · exact hp x hx
    · rw [List.mem_singleton.1 hx]; exact Nat.mul_mod_left _ _
  have hr := State.rowDue_keeps (x := t.rowOf (a / 8 * 8)) (State.satInc_keeps (b := P.STO) (f := R.STO_ERR_ue) (n := 1) hp)
  exact Keeps.ite (fun _ => State.setFv_keeps hr) (fun _ => hr)

theorem State.draw_keeps {s t : State} (h : Keeps s t) : Keeps s t.draw.2 := by
  unfold State.draw
  exact Keeps.rest h
theorem State.drawKey_keeps {s t : State} {i : Nat} (h : Keeps s t) : Keeps s (t.drawKey i) := by
  unfold State.drawKey
  exact Keeps.rest (State.draw_keeps h)
theorem State.drawNewKey_keeps {s t : State} {i : Nat} (h : Keeps s t) : Keeps s (t.drawNewKey i) := by
  unfold State.drawNewKey
  exact Keeps.rest (State.draw_keeps h)
theorem State.countPulses_keeps {s t : State} {n : Nat} (h : Keeps s t) : Keeps s (t.countPulses n) := Keeps.rest h

theorem State.at_keeps {s u : State} {t : Nat} (h : Keeps s u) : Keeps s (u.at t) :=
  Keeps.ite (fun _ => h) (fun _ => Keeps.setNow (by
    show u.now ≤ _
    split
    · exact Nat.le_max_left _ _
    · exact Nat.le_add_right _ _) (State.countPulses_keeps h))

/-- What an operation keeps of a state it keeps of that state with an earlier timebase. -/
theorem Keeps.earlier {s t : State} {n : Nat} (hn : n ≤ s.now) (h : Keeps s t) : Keeps { s with now := n } t :=
  ⟨h.mem, h.regs, h.staged, h.rings, h.queue, h.group, h.tallies, h.triggers, h.poison, Nat.le_trans hn h.now, h.pending⟩

/-- The timebase takes a value: the clauses but the one about time are kept. -/
theorem Keeps.renumber {s t : State} {n : Nat} {x : Tbs} (hn : s.now ≤ n) (h : Keeps s t) : Keeps s { t with now := n, tbs := x } :=
  ⟨h.mem, h.regs, h.staged, h.rings, h.queue, h.group, h.tallies, h.triggers, h.poison, hn, h.pending⟩

/-- What keeps a pair's state keeps the state that the pair gives. -/
theorem Keeps.snd {α : Type} {s t : State} {p : α × State} {a : α} (e : p = (a, t)) (h : Keeps s p.2) : Keeps s t := by
  rw [e] at h
  exact h

theorem Keeps.fst {α : Type} {s t : State} {p : State × α} {a : α} (e : p = (t, a)) (h : Keeps s p.1) : Keeps s t := by
  rw [e] at h
  exact h

theorem Keeps.idOf {s t : State} (h : Keeps s t) : Keeps s (id t) := h

/-- A command answers a next state, and keeps. -/
def KeepsNext (s : State) (o : Host.Outcome State Fault Refusal) : Prop := ∃ t, o = .next t ∧ Keeps s t

theorem KeepsNext.next {s t : State} (h : Keeps s t) : KeepsNext s (.next t) := ⟨t, rfl, h⟩

theorem KeepsNext.ite {c : Prop} [Decidable c] {s : State} {a b : Host.Outcome State Fault Refusal} (ha : c → KeepsNext s a)
    (hb : ¬c → KeepsNext s b) : KeepsNext s (if c then a else b) := by
  split
  · exact ha ‹_›
  · exact hb ‹_›

end Sys2Proof.Machine
end

