-- ==== Sys2Proof/Laws/KeepsOps.lean ====
section
/-! SUPPORT. What the operations of Machine/Ops.lean keep (Laws/Keeps.lean). -/

namespace Sys2Proof.Machine

open Sys2Proof

theorem State.corrected_keeps {s₀ s : State} {a : Nat} (h : Keeps s₀ s) : Keeps s₀ (s.corrected a) := by
  unfold State.corrected
  repeat' with_reducible first
    | assumption | apply State.satInc_keeps | apply State.rowDue_keeps | apply Keeps.ite | intro _ | apply Keeps.foldl
    | (apply Keeps.snd; assumption) | (apply Keeps.fst; assumption) | fail_if_no_progress apply Keeps.rest

theorem State.eccFinds_keeps {s₀ s : State} {e : EccFinds} (h : Keeps s₀ s) : Keeps s₀ (s.eccFinds e) := by
  unfold State.eccFinds
  repeat' with_reducible first
    | assumption | apply State.uncorrectable_keeps | apply State.corrected_keeps | apply Keeps.ite | intro _ | apply Keeps.foldl

theorem State.failsUntil_keeps {s₀ s : State} {code : Nat} {bad : Bool} (h : Keeps s₀ s) : Keeps s₀ (s.failsUntil code bad) := by
  unfold State.failsUntil
  repeat' with_reducible first
    | assumption | apply Keeps.ite | intro _ | apply Keeps.foldl | (apply Keeps.snd; assumption) | (apply Keeps.fst; assumption)
    | fail_if_no_progress apply Keeps.rest

theorem State.lapse_keeps {s₀ s : State} {p : Kind → Nat → Bool} (h : Keeps s₀ s) : Keeps s₀ (s.lapse p) := by
  unfold State.lapse
  repeat' with_reducible first
    | assumption | apply State.setReg_keeps | apply Keeps.ite | intro _ | apply Keeps.foldl | (apply Keeps.snd; assumption)
    | (apply Keeps.fst; assumption) | fail_if_no_progress apply Keeps.rest | apply Keeps.idOf | extract_lets | split

theorem State.wakeStamp_keeps {s₀ s : State} {stamp bit : Nat} (h : Keeps s₀ s) : Keeps s₀ (s.wakeStamp stamp bit) := by
  unfold State.wakeStamp
  repeat' with_reducible first
    | assumption | apply State.lapse_keeps | apply State.setFv_keeps | apply State.setStamp_keeps | apply State.irq_keeps
    | apply State.satInc_keeps

theorem State.wakeSource_keeps {s₀ s : State} {bit : Nat} (h : Keeps s₀ s) : Keeps s₀ (s.wakeSource bit) := by
  unfold State.wakeSource
  repeat' with_reducible first
    | assumption | apply State.wakeStamp_keeps | apply Keeps.ite | intro _ | apply Keeps.foldl | (apply Keeps.snd; assumption)
    | (apply Keeps.fst; assumption) | fail_if_no_progress apply Keeps.rest

theorem State.setValue_keeps {s₀ s : State} {n : Nat} {v : Word} {src stamp : Nat}
    (h : Keeps s₀ s) : Keeps s₀ (s.setValue n v src stamp) := by
  unfold State.setValue
  repeat' with_reducible first
    | assumption | apply State.nodeWrite_keeps

end Sys2Proof.Machine
end

