-- ==== Sys2Proof/Laws/KeepsPoints.lean ====
section
/-! SUPPORT. What the operations of Machine/Points.lean keep (Laws/Keeps.lean). -/

namespace Sys2Proof.Machine

open Sys2Proof

theorem State.holdReported_keeps {s₀ s : State} {p q : Nat} (h : Keeps s₀ s) : Keeps s₀ (s.holdReported p q) := by
  unfold State.holdReported
  repeat' with_reducible first
    | assumption | apply Keeps.ite | intro _ | apply Keeps.foldl | (apply Keeps.snd; assumption) | (apply Keeps.fst; assumption)
    | fail_if_no_progress apply Keeps.rest

theorem State.dropReported_keeps {s₀ s : State} {p : Nat} (h : Keeps s₀ s) : Keeps s₀ (s.dropReported p) := by
  unfold State.dropReported
  repeat' with_reducible first
    | assumption | apply Keeps.ite | intro _ | apply Keeps.foldl | (apply Keeps.snd; assumption) | (apply Keeps.fst; assumption)
    | fail_if_no_progress apply Keeps.rest

theorem State.setEntry_keeps {s₀ s : State} {e : Nat} {x : Entry} (h : Keeps s₀ s) : Keeps s₀ (s.setEntry e x) := by
  unfold State.setEntry
  repeat' with_reducible first
    | assumption | apply Keeps.ite | intro _ | apply Keeps.foldl | (apply Keeps.snd; assumption) | (apply Keeps.fst; assumption)
    | fail_if_no_progress apply Keeps.rest

theorem State.squashed_keeps {s₀ s : State} {code p : Nat} (h : Keeps s₀ s) : Keeps s₀ (s.squashed code p) := by
  unfold State.squashed
  repeat' with_reducible first
    | assumption | apply State.setFv_keeps | apply State.wrapInc_keeps | apply State.setReg_keeps | apply Keeps.ite | intro _
    | apply Keeps.foldl | (apply Keeps.snd; assumption) | (apply Keeps.fst; assumption) | fail_if_no_progress apply Keeps.rest

theorem State.squash_keeps {s₀ s : State} {code : Nat} {hits : Nat → Bool} (h : Keeps s₀ s) : Keeps s₀ (s.squash code hits) := by
  unfold State.squash
  repeat' with_reducible first
    | assumption | apply State.draw_keeps | apply State.squashed_keeps | apply Keeps.ite | intro _ | apply Keeps.foldl

theorem State.squashPoint_keeps {s₀ s : State} {code p : Nat} (h : Keeps s₀ s) : Keeps s₀ (s.squashPoint code p) := by
  unfold State.squashPoint
  repeat' with_reducible first
    | assumption | apply State.squash_keeps

theorem State.unlessWaits_keeps {s₀ s t : State} (h : Keeps s₀ s) (ht : Keeps s₀ t) : Keeps s₀ (s.unlessWaits t) :=
  Keeps.ite (fun _ => h) (fun _ => ht)

theorem State.makeDue_keeps {s₀ s : State} {n : Nat} (h : Keeps s₀ s) : Keeps s₀ (s.makeDue n) := by
  unfold State.makeDue
  repeat' with_reducible first
    | assumption | apply Keeps.ite | intro _ | apply Keeps.foldl | (apply Keeps.snd; assumption) | (apply Keeps.fst; assumption)
    | fail_if_no_progress apply Keeps.rest

theorem State.putRecord_keeps {s₀ s : State} {p off : Nat} {l : List Byte} (h : Keeps s₀ s) : Keeps s₀ (s.putRecord p off l) := by
  unfold State.putRecord
  repeat' with_reducible first
    | assumption | apply State.nodeWrite_keeps | apply State.makeDue_keeps | apply Keeps.ite | intro _

theorem State.writeRecord_keeps {s₀ s : State} {p off : Nat} {l : List Byte} (h : Keeps s₀ s) : Keeps s₀ (s.writeRecord p off l) := by
  unfold State.writeRecord
  repeat' with_reducible first
    | assumption | apply State.squashPoint_keeps | apply State.putRecord_keeps

theorem State.unlatch_keeps {s₀ s : State} {p : Nat} (h : Keeps s₀ s) : Keeps s₀ (s.unlatch p) := by
  unfold State.unlatch
  repeat' with_reducible first
    | assumption | apply State.putRecord_keeps | apply Keeps.ite | intro _ | apply Keeps.foldl | (apply Keeps.snd; assumption)
    | (apply Keeps.fst; assumption) | fail_if_no_progress apply Keeps.rest

theorem State.releasePoint_keeps {s₀ s : State} {p : Nat} (h : Keeps s₀ s) : Keeps s₀ (s.releasePoint p) := by
  unfold State.releasePoint
  repeat' with_reducible first
    | assumption | apply State.squashPoint_keeps | apply State.unlatch_keeps | apply Keeps.ite | intro _

theorem State.setRun_keeps {s₀ s : State} {k : Nat} {r : Option Run} (h : Keeps s₀ s) : Keeps s₀ (s.setRun k r) := by
  unfold State.setRun
  repeat' with_reducible first
    | assumption | apply Keeps.ite | intro _ | apply Keeps.foldl | (apply Keeps.snd; assumption) | (apply Keeps.fst; assumption)
    | fail_if_no_progress apply Keeps.rest

theorem State.dropRuns_keeps {s₀ s : State} {n : Nat} (h : Keeps s₀ s) : Keeps s₀ (s.dropRuns n) := by
  unfold State.dropRuns
  repeat' with_reducible first
    | assumption | apply State.setRun_keeps | apply Keeps.ite | intro _ | apply Keeps.foldl

theorem State.mapRuns_keeps {s₀ s : State} {n : Nat} {f : Run → Run} (h : Keeps s₀ s) : Keeps s₀ (s.mapRuns n f) := by
  unfold State.mapRuns
  repeat' with_reducible first
    | assumption | apply State.setRun_keeps | apply Keeps.ite | intro _ | apply Keeps.foldl | (apply Keeps.snd; assumption)
    | (apply Keeps.fst; assumption) | fail_if_no_progress apply Keeps.rest | apply Keeps.idOf | extract_lets | split

theorem State.freezeRuns_keeps {s₀ s : State} {n stamp : Nat} (h : Keeps s₀ s) : Keeps s₀ (s.freezeRuns n stamp) := by
  unfold State.freezeRuns
  repeat' with_reducible first
    | assumption | apply State.mapRuns_keeps

theorem State.setQuality_keeps {s₀ s : State} {n quality stamp : Nat} (h : Keeps s₀ s) : Keeps s₀ (s.setQuality n quality stamp) := by
  unfold State.setQuality
  repeat' with_reducible first
    | assumption | apply State.freezeRuns_keeps | apply State.mapRuns_keeps | apply Keeps.ite | intro _ | apply Keeps.foldl
    | (apply Keeps.snd; assumption) | (apply Keeps.fst; assumption) | fail_if_no_progress apply Keeps.rest

theorem State.recordQuality_keeps {s₀ s : State} {n quality : Nat} (h : Keeps s₀ s) : Keeps s₀ (s.recordQuality n quality) := by
  unfold State.recordQuality
  repeat' with_reducible first
    | assumption | apply State.nodeWrite_keeps | apply State.holdReported_keeps | apply Keeps.ite | intro _

theorem State.channelSquash_keeps {s₀ s : State} {n : Nat} (h : Keeps s₀ s) : Keeps s₀ (s.channelSquash n) := by
  unfold State.channelSquash
  repeat' with_reducible first
    | assumption | apply State.squashPoint_keeps | apply Keeps.ite | intro _

theorem State.sourceWrite_keeps {s₀ s : State} {n : Nat} {v : Word} {quality src stamp : Nat}
    (h : Keeps s₀ s) : Keeps s₀ (s.sourceWrite n v quality src stamp) := by
  unfold State.sourceWrite
  repeat' with_reducible first
    | assumption | apply State.channelSquash_keeps | apply State.makeDue_keeps | apply State.setValue_keeps
    | apply State.recordQuality_keeps | apply State.setQuality_keeps | apply Keeps.ite | intro _ | apply Keeps.foldl
    | (apply Keeps.snd; assumption) | (apply Keeps.fst; assumption) | fail_if_no_progress apply Keeps.rest

theorem State.sourceQuality_keeps {s₀ s : State} {n quality : Nat} (h : Keeps s₀ s) : Keeps s₀ (s.sourceQuality n quality) := by
  unfold State.sourceQuality
  repeat' with_reducible first
    | assumption | apply State.makeDue_keeps | apply State.recordQuality_keeps | apply State.setQuality_keeps
    | apply State.channelSquash_keeps | apply Keeps.ite | intro _ | apply Keeps.foldl | (apply Keeps.snd; assumption)
    | (apply Keeps.fst; assumption) | fail_if_no_progress apply Keeps.rest

end Sys2Proof.Machine
end

