-- ==== Sys2Proof/Laws/KeepsEvrQueue.lean ====
section
/-! SUPPORT. What the operations of Machine/EvrQueue.lean keep (Laws/Keeps.lean). -/

namespace Sys2Proof.Machine

open Sys2Proof

theorem State.foldTrigger_keeps {s₀ s : State} {g : Trigger} {queueFull : Bool}
    (h : Keeps s₀ s) : Keeps s₀ (s.foldTrigger g queueFull) := by
  unfold State.foldTrigger
  repeat' with_reducible first
    | assumption | apply State.irq_keeps | apply State.satInc_keeps | apply Keeps.ite | intro _ | apply Keeps.foldl
    | (apply Keeps.snd; assumption) | (apply Keeps.fst; assumption) | fail_if_no_progress apply Keeps.rest

theorem State.refuseTrigger_keeps {s₀ s : State} {g : Trigger} {queueFull : Bool}
    (h : Keeps s₀ s) : Keeps s₀ (s.refuseTrigger g queueFull) := by
  unfold State.refuseTrigger
  repeat' with_reducible first
    | assumption | apply State.foldTrigger_keeps | apply State.satInc_keeps | apply Keeps.ite | intro _ | apply Keeps.foldl
    | (apply Keeps.snd; assumption) | (apply Keeps.fst; assumption) | fail_if_no_progress apply Keeps.rest

theorem State.foldOrRefuse_keeps {s₀ s : State} {g : Trigger} (h : Keeps s₀ s) : Keeps s₀ (s.foldOrRefuse g) := by
  unfold State.foldOrRefuse
  repeat' with_reducible first
    | assumption | apply State.satInc_keeps | apply State.refuseTrigger_keeps | apply State.foldTrigger_keeps | apply Keeps.ite
    | intro _

theorem State.trigger_keeps {s₀ s : State} {g : Trigger} (h : Keeps s₀ s) : Keeps s₀ (s.trigger g) := by
  have hw : Keeps s₀ (s.wrapInc P.EVR R.EVR_TRIG_CNT_trig 1) := State.wrapInc_keeps h
  refine Keeps.ite (fun _ => h) (fun _ => Keeps.ite (fun _ => Keeps.rest hw) (fun _ => ?_))
  refine Keeps.ite (fun _ => State.satInc_keeps (State.satInc_keeps hw)) (fun _ => ?_)
  refine Keeps.ite (fun _ => State.foldTrigger_keeps hw) (fun hl => Keeps.setTriggers (fun _ => ?_) hw)
  simp only [List.length_append, List.length_cons, List.length_nil]
  omega

theorem State.sysTrigger_keeps {s₀ s : State} {source arg : Nat} (h : Keeps s₀ s) : Keeps s₀ (s.sysTrigger source arg) := by
  unfold State.sysTrigger
  repeat' with_reducible first
    | assumption | apply State.trigger_keeps

end Sys2Proof.Machine
end

