-- ==== Sys2Proof/Laws/KeepsRmp.lean ====
section
/-! SUPPORT. What the operations of Machine/Rmp.lean keep (Laws/Keeps.lean). -/

namespace Sys2Proof.Machine

open Sys2Proof

theorem State.setRmpPos_keeps {s₀ s : State} {p : Int} (h : Keeps s₀ s) : Keeps s₀ (s.setRmpPos p) := by
  unfold State.setRmpPos
  repeat' with_reducible first
    | assumption | apply State.setFv_keeps

theorem State.rmpFold_keeps {s₀ s : State} (h : Keeps s₀ s) : Keeps s₀ s.rmpFold := by
  unfold State.rmpFold
  repeat' with_reducible first
    | assumption | apply State.setRmpPos_keeps | apply Keeps.ite | intro _ | apply Keeps.foldl | (apply Keeps.snd; assumption)
    | (apply Keeps.fst; assumption) | fail_if_no_progress apply Keeps.rest

theorem State.rmpHalt_keeps {s₀ s : State} (h : Keeps s₀ s) : Keeps s₀ s.rmpHalt := by
  unfold State.rmpHalt
  repeat' with_reducible first
    | assumption | apply State.rmpFold_keeps | apply Keeps.ite | intro _ | apply Keeps.foldl | (apply Keeps.snd; assumption)
    | (apply Keeps.fst; assumption) | fail_if_no_progress apply Keeps.rest

theorem State.rmpStand_keeps {s₀ s : State} {x : Q} (h : Keeps s₀ s) : Keeps s₀ (s.rmpStand x) := by
  unfold State.rmpStand
  repeat' with_reducible first
    | assumption | apply Keeps.ite | intro _ | apply Keeps.foldl | (apply Keeps.snd; assumption) | (apply Keeps.fst; assumption)
    | fail_if_no_progress apply Keeps.rest

theorem State.rmpShow_keeps {s₀ s : State} (h : Keeps s₀ s) : Keeps s₀ s.rmpShow := by
  unfold State.rmpShow
  repeat' with_reducible first
    | assumption | apply State.setFv_keeps | apply State.setFb_keeps

theorem State.rmpDrop_keeps {s₀ s : State} (h : Keeps s₀ s) : Keeps s₀ s.rmpDrop := by
  unfold State.rmpDrop
  repeat' with_reducible first
    | assumption | apply State.rmpHalt_keeps | apply State.rmpStand_keeps | apply State.setFv_keeps | apply State.rmpShow_keeps
    | apply State.irqIf_keeps | apply Keeps.ite | intro _ | apply Keeps.foldl | (apply Keeps.snd; assumption)
    | (apply Keeps.fst; assumption) | fail_if_no_progress apply Keeps.rest

theorem State.rmpEnable_keeps {s₀ s : State} (h : Keeps s₀ s) : Keeps s₀ s.rmpEnable := by
  unfold State.rmpEnable
  repeat' with_reducible first
    | assumption | apply State.setFv_keeps | apply State.rmpHalt_keeps | apply State.rmpShow_keeps | apply State.rmpStand_keeps
    | apply State.setRmpPos_keeps | apply Keeps.ite | intro _

theorem State.rmpLimitPlan_keeps {s₀ s : State} {jm : Q} (h : Keeps s₀ s) : Keeps s₀ (s.rmpLimitPlan jm) := by
  unfold State.rmpLimitPlan
  repeat' with_reducible first
    | assumption | apply State.clampAt_keeps | apply State.irq_keeps | apply State.satInc_keeps | apply State.setFv_keeps
    | apply Keeps.ite | intro _ | apply Keeps.foldl | (apply Keeps.snd; assumption) | (apply Keeps.fst; assumption)
    | fail_if_no_progress apply Keeps.rest

theorem State.rmpPlanNow_keeps {s₀ s : State} {jm : Q} (h : Keeps s₀ s) : Keeps s₀ (s.rmpPlanNow jm) := by
  unfold State.rmpPlanNow
  repeat' with_reducible first
    | assumption | apply State.rmpLimitPlan_keeps | apply State.setFb_keeps | apply Keeps.ite | intro _ | apply Keeps.foldl
    | (apply Keeps.snd; assumption) | (apply Keeps.fst; assumption) | fail_if_no_progress apply Keeps.rest

theorem State.rmpTaken_keeps {s₀ s : State} (h : Keeps s₀ s) : Keeps s₀ s.rmpTaken := by
  unfold State.rmpTaken
  repeat' with_reducible first
    | assumption | apply State.rmpHalt_keeps | apply State.rmpStand_keeps | apply State.rmpShow_keeps | apply State.irqIf_keeps
    | apply State.setFv_keeps | apply Keeps.ite | intro _ | apply Keeps.foldl | (apply Keeps.snd; assumption)
    | (apply Keeps.fst; assumption) | fail_if_no_progress apply Keeps.rest

theorem State.rmpReplan_keeps {s₀ s : State} (h : Keeps s₀ s) : Keeps s₀ s.rmpReplan := by
  unfold State.rmpReplan
  repeat' with_reducible first
    | assumption | apply State.setFv_keeps | apply State.setFb_keeps | apply State.irq_keeps | apply State.satInc_keeps
    | apply State.rmpShow_keeps | apply State.rmpDrop_keeps | apply State.rmpEnable_keeps | apply State.rmpPlanNow_keeps
    | apply Keeps.ite | intro _ | apply Keeps.foldl | (apply Keeps.snd; assumption) | (apply Keeps.fst; assumption)
    | fail_if_no_progress apply Keeps.rest

theorem State.rmpPlace_keeps {s₀ : State} {pt : Nat → RmpPt} {up : Bool} {hi : Nat} (k : Nat) :
    ∀ {c : Nat} {s : State}, Keeps s₀ s → Keeps s₀ (State.rmpPlace pt up hi k c s) := by
  induction k with
  | zero => exact fun h => h
  | succ k ih =>
    intro c s h
    have h1 : ∀ {w : Nat}, Keeps s₀ (s.setFv P.RMP R.RMP_STAT_w w) := State.setFv_keeps h
    exact Keeps.ite (fun _ => h1) (fun _ => ih (Keeps.rest h1))

theorem State.rmpPulses_keeps {s₀ s : State} {pt : Nat → RmpPt} (h : Keeps s₀ s) : Keeps s₀ (s.rmpPulses pt) := by
  unfold State.rmpPulses
  repeat' with_reducible first
    | assumption | apply State.rmpPlace_keeps | apply Keeps.ite | intro _ | apply Keeps.foldl | (apply Keeps.snd; assumption)
    | (apply Keeps.fst; assumption) | fail_if_no_progress apply Keeps.rest

theorem State.rmpAtRest_keeps {s₀ s : State} {moved : Bool} (h : Keeps s₀ s) : Keeps s₀ (s.rmpAtRest moved) := by
  unfold State.rmpAtRest
  repeat' with_reducible first
    | assumption | apply State.irqIf_keeps | apply State.setFv_keeps | apply State.rmpPlanNow_keeps | apply Keeps.ite | intro _
    | apply Keeps.foldl | (apply Keeps.snd; assumption) | (apply Keeps.fst; assumption) | fail_if_no_progress apply Keeps.rest

theorem State.rmpAdvance_keeps {s₀ s : State} (h : Keeps s₀ s) : Keeps s₀ s.rmpAdvance := by
  unfold State.rmpAdvance
  repeat' with_reducible first
    | assumption | apply State.rmpFold_keeps | apply State.rmpShow_keeps | apply State.rmpPulses_keeps | apply State.rmpStand_keeps
    | apply State.rmpAtRest_keeps | apply State.rmpPlanNow_keeps | apply Keeps.ite | intro _ | apply Keeps.foldl
    | (apply Keeps.snd; assumption) | (apply Keeps.fst; assumption) | fail_if_no_progress apply Keeps.rest

theorem State.rmpDemands_keeps {s₀ s : State} {l : List (Nat × Nat)} (h : Keeps s₀ s) : Keeps s₀ (s.rmpDemands l) := by
  unfold State.rmpDemands
  repeat' with_reducible first
    | assumption | apply State.setFv_keeps | apply Keeps.ite | intro _ | apply Keeps.foldl | (apply Keeps.snd; assumption)
    | (apply Keeps.fst; assumption) | fail_if_no_progress apply Keeps.rest

theorem State.rmpFbe_keeps {s₀ s : State} {v : Word} (h : Keeps s₀ s) : Keeps s₀ (s.rmpFbe v) := by
  unfold State.rmpFbe
  repeat' with_reducible first
    | assumption | apply State.rmpReplan_keeps | apply Keeps.ite | intro _ | apply Keeps.foldl | (apply Keeps.snd; assumption)
    | (apply Keeps.fst; assumption) | fail_if_no_progress apply Keeps.rest

theorem State.rmpCtrl_keeps {s₀ s : State} {v : Word} (h : Keeps s₀ s) : Keeps s₀ (s.rmpCtrl v) := by
  unfold State.rmpCtrl
  repeat' with_reducible first
    | assumption | apply State.setFv_keeps | apply State.rmpStand_keeps | apply State.setRmpPos_keeps | apply State.rmpHalt_keeps
    | apply Keeps.ite | intro _ | apply Keeps.foldl | (apply Keeps.snd; assumption) | (apply Keeps.fst; assumption)
    | fail_if_no_progress apply Keeps.rest

theorem State.rmpStart_keeps {s₀ s : State} (h : Keeps s₀ s) : Keeps s₀ s.rmpStart := by
  unfold State.rmpStart
  repeat' with_reducible first
    | assumption | apply State.setFv_keeps | apply State.rmpStand_keeps | apply State.setRmpPos_keeps | apply State.rmpReplan_keeps
    | apply Keeps.ite | intro _ | apply Keeps.foldl | (apply Keeps.snd; assumption) | (apply Keeps.fst; assumption)
    | fail_if_no_progress apply Keeps.rest

theorem execRampAdvance_keeps (t : Nat) (s : State) : KeepsNext s (execRampAdvance t s) := by
  unfold execRampAdvance
  repeat' with_reducible first
    | exact State.at_keeps (Keeps.refl _) | apply KeepsNext.next | assumption | apply State.rmpAdvance_keeps | apply KeepsNext.ite
    | apply Keeps.ite | intro _ | apply Keeps.foldl | (apply Keeps.snd; assumption) | (apply Keeps.fst; assumption)
    | fail_if_no_progress apply Keeps.rest

theorem execDemandReplan_keeps (t : Nat) (s : State) : KeepsNext s (execDemandReplan t s) := by
  unfold execDemandReplan
  repeat' with_reducible first
    | exact State.at_keeps (Keeps.refl _) | apply KeepsNext.next | assumption | apply State.rmpReplan_keeps | apply KeepsNext.ite
    | apply Keeps.ite | intro _

theorem execDriverFault_keeps (t : Nat) (s : State) : KeepsNext s (execDriverFault t s) := by
  unfold execDriverFault
  repeat' with_reducible first
    | exact State.at_keeps (Keeps.refl _) | apply KeepsNext.next | assumption | apply State.irq_keeps | apply State.rmpDrop_keeps
    | apply State.rmpShow_keeps | apply KeepsNext.ite | apply Keeps.ite | intro _ | apply Keeps.foldl | (apply Keeps.snd; assumption)
    | (apply Keeps.fst; assumption) | fail_if_no_progress apply Keeps.rest

theorem execDfltRelease_keeps (t : Nat) (s : State) : KeepsNext s (execDfltRelease t s) := by
  unfold execDfltRelease
  repeat' with_reducible first
    | exact State.at_keeps (Keeps.refl _) | apply KeepsNext.next | assumption | apply State.rmpReplan_keeps | apply KeepsNext.ite
    | apply Keeps.ite | intro _ | apply Keeps.foldl | (apply Keeps.snd; assumption) | (apply Keeps.fst; assumption)
    | fail_if_no_progress apply Keeps.rest

theorem execDriverStop_keeps (t : Nat) (s : State) : KeepsNext s (execDriverStop t s) := by
  unfold execDriverStop
  repeat' with_reducible first
    | exact State.at_keeps (Keeps.refl _) | apply KeepsNext.next | assumption | apply State.irq_keeps | apply State.rmpReplan_keeps
    | apply KeepsNext.ite | apply Keeps.ite | intro _ | apply Keeps.foldl | (apply Keeps.snd; assumption)
    | (apply Keeps.fst; assumption) | fail_if_no_progress apply Keeps.rest

theorem execDstopRelease_keeps (t : Nat) (s : State) : KeepsNext s (execDstopRelease t s) := by
  unfold execDstopRelease
  repeat' with_reducible first
    | exact State.at_keeps (Keeps.refl _) | apply KeepsNext.next | assumption | apply State.rmpReplan_keeps | apply KeepsNext.ite
    | apply Keeps.ite | intro _ | apply Keeps.foldl | (apply Keeps.snd; assumption) | (apply Keeps.fst; assumption)
    | fail_if_no_progress apply Keeps.rest

theorem execStpiEdge_keeps (t : Nat) (dirHigh : Bool) (s : State) : KeepsNext s (execStpiEdge t dirHigh s) := by
  unfold execStpiEdge
  repeat' with_reducible first
    | exact State.at_keeps (Keeps.refl _) | apply KeepsNext.next | assumption | apply State.rmpReplan_keeps | apply KeepsNext.ite
    | apply Keeps.ite | intro _ | apply Keeps.foldl | (apply Keeps.snd; assumption) | (apply Keeps.fst; assumption)
    | fail_if_no_progress apply Keeps.rest

theorem execPositionCommit_keeps (t : Nat) (s : State) : KeepsNext s (execPositionCommit t s) := by
  unfold execPositionCommit
  repeat' with_reducible first
    | exact State.at_keeps (Keeps.refl _) | apply KeepsNext.next | assumption | apply KeepsNext.ite | apply Keeps.ite | intro _
    | apply Keeps.foldl | (apply Keeps.snd; assumption) | (apply Keeps.fst; assumption) | fail_if_no_progress apply Keeps.rest

end Sys2Proof.Machine
end

