-- ==== Sys2Proof/Laws/KeepsSaf.lean ====
section
/-! SUPPORT. What the operations of Machine/Saf.lean keep (Laws/Keeps.lean). -/

namespace Sys2Proof.Machine

open Sys2Proof

theorem State.safShow_keeps {s₀ s : State} (h : Keeps s₀ s) : Keeps s₀ s.safShow := by
  unfold State.safShow
  repeat' with_reducible first
    | assumption | apply State.setFb_keeps | apply State.irqIf_keeps

theorem State.releaseUndone_keeps {s₀ s : State} {was : Bool × Bool} (h : Keeps s₀ s) : Keeps s₀ (s.releaseUndone was) := by
  unfold State.releaseUndone
  repeat' with_reducible first
    | assumption | apply State.setFb_keeps | apply State.setFv_keeps | apply State.setReg_keeps | apply State.rmpReplan_keeps
    | apply State.clampAt_keeps | apply Keeps.ite | intro _ | apply Keeps.foldl | (apply Keeps.snd; assumption)
    | (apply Keeps.fst; assumption) | fail_if_no_progress apply Keeps.rest

theorem State.safCause_keeps {s₀ s : State} {act : Bool} {kind code detail : Nat}
    (h : Keeps s₀ s) : Keeps s₀ (s.safCause act kind code detail) := by
  unfold State.safCause
  repeat' with_reducible first
    | assumption | apply State.releaseUndone_keeps | apply State.setFv_keeps | apply State.setStamp_keeps | apply State.setReg_keeps
    | apply State.satInc_keeps | apply State.irq_keeps | apply State.rmpReplan_keeps | apply State.sysTrigger_keeps | apply Keeps.ite
    | intro _ | apply Keeps.foldl | (apply Keeps.snd; assumption) | (apply Keeps.fst; assumption)
    | fail_if_no_progress apply Keeps.rest | apply Keeps.idOf | extract_lets | split

theorem State.tripCheck_keeps {s₀ s : State} {e old new : Nat} (h : Keeps s₀ s) : Keeps s₀ (s.tripCheck e old new) := by
  unfold State.tripCheck
  repeat' with_reducible first
    | assumption | apply State.setFb_keeps | apply State.safCause_keeps | apply State.irq_keeps | apply Keeps.ite | intro _

theorem State.diagFail_keeps {s₀ s : State} {code detail : Nat} (h : Keeps s₀ s) : Keeps s₀ (s.diagFail code detail) := by
  unfold State.diagFail
  repeat' with_reducible first
    | assumption | apply State.setReg_keeps | apply State.irq_keeps | apply State.safCause_keeps | apply Keeps.ite | intro _
    | apply Keeps.foldl | (apply Keeps.snd; assumption) | (apply Keeps.fst; assumption) | fail_if_no_progress apply Keeps.rest

theorem State.diagClear_keeps {s₀ s : State} {code : Nat} (h : Keeps s₀ s) : Keeps s₀ (s.diagClear code) := by
  unfold State.diagClear
  repeat' with_reducible first
    | assumption | apply State.setReg_keeps

theorem State.safCtrl_keeps {s₀ s : State} {v : Word} (h : Keeps s₀ s) : Keeps s₀ (s.safCtrl v) := by
  unfold State.safCtrl
  repeat' with_reducible first
    | assumption | apply State.clampAt_keeps | apply State.safCause_keeps | apply State.setFv_keeps | apply State.rmpReplan_keeps
    | apply State.irqIf_keeps | apply Keeps.ite | intro _ | apply Keeps.foldl | (apply Keeps.snd; assumption)
    | (apply Keeps.fst; assumption) | fail_if_no_progress apply Keeps.rest

theorem State.fullSelftestPassed_keeps {s₀ s : State} (h : Keeps s₀ s) : Keeps s₀ s.fullSelftestPassed := by
  unfold State.fullSelftestPassed
  repeat' with_reducible first
    | assumption | apply State.safShow_keeps | apply State.diagClear_keeps | apply State.setFv_keeps | apply Keeps.ite | intro _
    | apply Keeps.foldl | (apply Keeps.snd; assumption) | (apply Keeps.fst; assumption) | fail_if_no_progress apply Keeps.rest

theorem State.selftestEnds_keeps {s₀ s : State} {mask failed : Nat} (h : Keeps s₀ s) : Keeps s₀ (s.selftestEnds mask failed) := by
  unfold State.selftestEnds
  repeat' with_reducible first
    | assumption | apply State.diagFail_keeps | apply State.fullSelftestPassed_keeps | apply Keeps.ite | intro _

theorem execSafetyDemand_keeps (t low : Nat) (s : State) : KeepsNext s (execSafetyDemand t low s) := by
  unfold execSafetyDemand
  repeat' with_reducible first
    | exact State.at_keeps (Keeps.refl _) | apply KeepsNext.next | assumption | apply State.irq_keeps | apply State.satInc_keeps
    | apply State.setFv_keeps | apply State.safCause_keeps | apply KeepsNext.ite | apply Keeps.ite | intro _ | apply Keeps.foldl
    | (apply Keeps.snd; assumption) | (apply Keeps.fst; assumption) | fail_if_no_progress apply Keeps.rest

theorem execDemandClear_keeps (t high : Nat) (s : State) : KeepsNext s (execDemandClear t high s) := by
  unfold execDemandClear
  repeat' with_reducible first
    | exact State.at_keeps (Keeps.refl _) | apply KeepsNext.next | assumption | apply State.setFv_keeps | apply KeepsNext.ite
    | apply Keeps.ite | intro _ | apply Keeps.foldl | (apply Keeps.snd; assumption) | (apply Keeps.fst; assumption)
    | fail_if_no_progress apply Keeps.rest

theorem execStDue_keeps (t : Nat) (s : State) : KeepsNext s (execStDue t s) := by
  unfold execStDue
  repeat' with_reducible first
    | exact State.at_keeps (Keeps.refl _) | apply KeepsNext.next | assumption | apply State.safShow_keeps | apply State.irq_keeps
    | apply State.setFv_keeps | apply KeepsNext.ite | apply Keeps.ite | intro _

theorem execAutoSelftest_keeps (t failed : Nat) (s : State) : KeepsNext s (execAutoSelftest t failed s) := by
  unfold execAutoSelftest
  repeat' with_reducible first
    | exact State.at_keeps (Keeps.refl _) | apply KeepsNext.next | assumption | apply State.selftestEnds_keeps | apply KeepsNext.ite
    | apply Keeps.ite | intro _ | apply Keeps.foldl | (apply Keeps.snd; assumption) | (apply Keeps.fst; assumption)
    | fail_if_no_progress apply Keeps.rest

end Sys2Proof.Machine
end

