-- ==== Sys2Proof/Laws/KeepsTallyQueue.lean ====
section
/-! SUPPORT. What the operations of Machine/TallyQueue.lean keep (Laws/Keeps.lean). -/

namespace Sys2Proof.Machine

open Sys2Proof

theorem State.setTally_keeps {s₀ s : State} {x : Tally} (h : Keeps s₀ s) : Keeps s₀ (s.setTally x) := by
  refine Keeps.setTly (fun hb => ?_) h
  simp only [List.length_map]
  exact hb

theorem State.tallyEnds_keeps {s₀ s : State} {n status reason r0 r1 : Nat}
    (h : Keeps s₀ s) : Keeps s₀ (s.tallyEnds n status reason r0 r1) := by
  unfold State.tallyEnds
  repeat' with_reducible first
    | assumption | apply State.setTally_keeps | apply Keeps.ite | intro _ | apply Keeps.foldl | (apply Keeps.snd; assumption)
    | (apply Keeps.fst; assumption) | fail_if_no_progress apply Keeps.rest | apply Keeps.idOf | extract_lets | split

theorem State.tallyDone_keeps {s₀ s : State} {n r0 r1 : Nat} (h : Keeps s₀ s) : Keeps s₀ (s.tallyDone n r0 r1) := by
  unfold State.tallyDone
  repeat' with_reducible first
    | assumption | apply State.tallyEnds_keeps

theorem State.tallyRefused_keeps {s₀ s : State} {n reason r0 r1 : Nat} (h : Keeps s₀ s) : Keeps s₀ (s.tallyRefused n reason r0 r1) := by
  unfold State.tallyRefused
  repeat' with_reducible first
    | assumption | apply State.tallyEnds_keeps

theorem State.lateStop_keeps {s₀ s : State} {n op : Nat} {stop : State → State} (h : Keeps s₀ s)
    (hs : Keeps s₀ (stop s)) : Keeps s₀ (s.lateStop n op stop) := by
  unfold State.lateStop
  split
  · exact Keeps.ite (fun _ => State.tallyEnds_keeps hs) (fun _ => h)
  · exact h

theorem State.tallyProgress_keeps {s₀ s : State} {n done total aux : Nat}
    (h : Keeps s₀ s) : Keeps s₀ (s.tallyProgress n done total aux) := by
  unfold State.tallyProgress
  repeat' with_reducible first
    | assumption | apply State.setTally_keeps | apply Keeps.ite | intro _ | apply Keeps.foldl | (apply Keeps.snd; assumption)
    | (apply Keeps.fst; assumption) | fail_if_no_progress apply Keeps.rest | apply Keeps.idOf | extract_lets | split

end Sys2Proof.Machine
end

