-- ==== Sys2Proof/Laws/KeepsSac.lean ====
section
/-! SUPPORT. What the operations of Machine/Sac.lean keep (Laws/Keeps.lean). -/

namespace Sys2Proof.Machine

open Sys2Proof

theorem State.setSc_keeps {s₀ s : State} {ch : Nat} {c : ScCh} (h : Keeps s₀ s) : Keeps s₀ (s.setSc ch c) := by
  unfold State.setSc
  repeat' with_reducible first
    | assumption | apply Keeps.ite | intro _ | apply Keeps.foldl | (apply Keeps.snd; assumption) | (apply Keeps.fst; assumption)
    | fail_if_no_progress apply Keeps.rest

theorem State.setCv_keeps {s₀ s : State} {k : Nat} {c : CvSt} (h : Keeps s₀ s) : Keeps s₀ (s.setCv k c) := by
  unfold State.setCv
  repeat' with_reducible first
    | assumption | apply Keeps.ite | intro _ | apply Keeps.foldl | (apply Keeps.snd; assumption) | (apply Keeps.fst; assumption)
    | fail_if_no_progress apply Keeps.rest

theorem State.cvShow_keeps {s₀ s : State} {k : Nat} (h : Keeps s₀ s) : Keeps s₀ (s.cvShow k) := by
  unfold State.cvShow
  repeat' with_reducible first
    | assumption | apply State.setFv_keeps

theorem State.scShowOne_keeps {s₀ s : State} {ch : Nat} (h : Keeps s₀ s) : Keeps s₀ (s.scShowOne ch) := by
  unfold State.scShowOne
  repeat' with_reducible first
    | assumption | apply State.setFv_keeps | apply State.irqIf_keeps | apply State.sourceQuality_keeps

theorem State.scShow_keeps {s₀ s : State} {ch : Nat} (h : Keeps s₀ s) : Keeps s₀ (s.scShow ch) := by
  unfold State.scShow
  repeat' with_reducible first
    | assumption | apply State.scShowOne_keeps | apply Keeps.ite | intro _ | apply Keeps.foldl

theorem State.scPut_keeps {s₀ s : State} {ch : Nat} {v : Word} (h : Keeps s₀ s) : Keeps s₀ (s.scPut ch v) := by
  unfold State.scPut
  repeat' with_reducible first
    | assumption | apply State.sourceWrite_keeps | apply State.scShow_keeps | apply Keeps.ite | intro _

theorem State.scSettle_keeps {s₀ s : State} {ch : Nat} (h : Keeps s₀ s) : Keeps s₀ (s.scSettle ch) := by
  unfold State.scSettle
  repeat' with_reducible first
    | assumption | apply State.setSc_keeps | apply State.setFv_keeps | apply Keeps.ite | intro _

theorem State.scFaults_keeps {s₀ s : State} {ch mask bits : Nat} (h : Keeps s₀ s) : Keeps s₀ (s.scFaults ch mask bits) := by
  unfold State.scFaults
  repeat' with_reducible first
    | assumption | apply State.setFv_keeps | apply State.irqIf_keeps | apply State.scSettle_keeps | apply Keeps.ite | intro _

theorem State.startSlot_keeps {s₀ s : State} {k kind ch start : Nat} (h : Keeps s₀ s) : Keeps s₀ (s.startSlot k kind ch start) := by
  unfold State.startSlot
  repeat' with_reducible first
    | assumption | apply State.scShow_keeps | apply State.scSettle_keeps | apply State.setSc_keeps | apply State.setCv_keeps
    | apply Keeps.ite | intro _

theorem State.newCycle_keeps {s₀ s : State} {k : Nat} (h : Keeps s₀ s) : Keeps s₀ (s.newCycle k) := by
  unfold State.newCycle
  repeat' with_reducible first
    | assumption | apply State.setSc_keeps | apply State.startSlot_keeps | apply Keeps.ite | intro _ | apply Keeps.foldl
    | (apply Keeps.snd; assumption) | (apply Keeps.fst; assumption) | fail_if_no_progress apply Keeps.rest | apply Keeps.idOf
    | extract_lets | split

theorem State.slotsFrom_keeps {s₀ s : State} {k c : Nat} (h : Keeps s₀ s) : Keeps s₀ (s.slotsFrom k c) := by
  unfold State.slotsFrom
  repeat' with_reducible first
    | assumption | apply State.startSlot_keeps | apply State.setCv_keeps | apply State.newCycle_keeps | apply Keeps.ite | intro _
    | apply Keeps.foldl | (apply Keeps.snd; assumption) | (apply Keeps.fst; assumption) | fail_if_no_progress apply Keeps.rest
    | apply Keeps.idOf | extract_lets | split

theorem State.nextSlot_keeps {s₀ s : State} {k : Nat} (h : Keeps s₀ s) : Keeps s₀ (s.nextSlot k) := by
  unfold State.nextSlot
  repeat' with_reducible first
    | assumption | apply State.newCycle_keeps | apply State.startSlot_keeps | apply State.setCv_keeps | apply State.slotsFrom_keeps
    | apply Keeps.ite | intro _ | apply Keeps.foldl | (apply Keeps.snd; assumption) | (apply Keeps.fst; assumption)
    | fail_if_no_progress apply Keeps.rest | apply Keeps.idOf | extract_lets | split

theorem State.abandonSlot_keeps {s₀ s : State} {k : Nat} (h : Keeps s₀ s) : Keeps s₀ (s.abandonSlot k) := by
  unfold State.abandonSlot
  repeat' with_reducible first
    | assumption | apply State.nextSlot_keeps | apply State.satInc_keeps | apply Keeps.ite | intro _

theorem State.abandonOf_keeps {s₀ s : State} {ch : Nat} (h : Keeps s₀ s) : Keeps s₀ (s.abandonOf ch) := by
  unfold State.abandonOf
  repeat' with_reducible first
    | assumption | apply State.abandonSlot_keeps | apply Keeps.ite | intro _ | apply Keeps.foldl | (apply Keeps.snd; assumption)
    | (apply Keeps.fst; assumption) | fail_if_no_progress apply Keeps.rest | apply Keeps.idOf | extract_lets | split

theorem State.excChange_keeps {s₀ s : State} {ch : Nat} (h : Keeps s₀ s) : Keeps s₀ (s.excChange ch) := by
  unfold State.excChange
  repeat' with_reducible first
    | assumption | apply State.scShow_keeps | apply State.scSettle_keeps | apply State.abandonOf_keeps

theorem State.rangeChange_keeps {s₀ s : State} {ch r : Nat} (h : Keeps s₀ s) : Keeps s₀ (s.rangeChange ch r) := by
  unfold State.rangeChange
  repeat' with_reducible first
    | assumption | apply State.scShow_keeps | apply State.scSettle_keeps | apply State.irq_keeps | apply State.setFv_keeps

theorem State.scEnter_keeps {s₀ s : State} {ch : Nat} {raw : Q} (h : Keeps s₀ s) : Keeps s₀ (s.scEnter ch raw) := by
  unfold State.scEnter
  repeat' with_reducible first
    | assumption | apply State.setSc_keeps | apply State.scShow_keeps | apply State.setFv_keeps | apply State.scFaults_keeps
    | apply State.setStamp_keeps | apply State.scPut_keeps | apply Keeps.ite | intro _ | apply Keeps.foldl
    | (apply Keeps.snd; assumption) | (apply Keeps.fst; assumption) | fail_if_no_progress apply Keeps.rest | apply Keeps.idOf
    | extract_lets | split

theorem State.dueShow_keeps {s₀ s : State} {k : Nat} (h : Keeps s₀ s) : Keeps s₀ (s.dueShow k) := by
  unfold State.dueShow
  repeat' with_reducible first
    | assumption | apply State.setFv_keeps | apply Keeps.ite | intro _

theorem State.calFallsDue_keeps {s₀ s : State} {k trigger : Nat} (h : Keeps s₀ s) : Keeps s₀ (s.calFallsDue k trigger) := by
  unfold State.calFallsDue
  repeat' with_reducible first
    | assumption | apply State.dueShow_keeps | apply State.setCv_keeps | apply Keeps.ite | intro _

theorem State.cvTemp_keeps {s₀ s : State} {k : Nat} {temp : Q} (h : Keeps s₀ s) : Keeps s₀ (s.cvTemp k temp) := by
  unfold State.cvTemp
  repeat' with_reducible first
    | assumption | apply State.setFv_keeps | apply State.calFallsDue_keeps | apply Keeps.ite | intro _

theorem State.slotDone_keeps {s₀ s : State} {k : Nat} (h : Keeps s₀ s) : Keeps s₀ (s.slotDone k) := by
  unfold State.slotDone
  repeat' with_reducible first
    | assumption | apply State.wrapInc_keeps

theorem State.cvFault_keeps {s₀ s : State} {k : Nat} {bad : Bool} (h : Keeps s₀ s) : Keeps s₀ (s.cvFault k bad) := by
  unfold State.cvFault
  repeat' with_reducible first
    | assumption | apply State.irqIf_keeps | apply State.setCv_keeps

theorem State.scAvdd_keeps {s₀ s : State} {ch : Nat} (h : Keeps s₀ s) : Keeps s₀ (s.scAvdd ch) := by
  unfold State.scAvdd
  repeat' with_reducible first
    | assumption | apply State.scFaults_keeps | apply Keeps.ite | intro _

theorem State.sacVsx_keeps {s₀ s : State} {vsx : Q} (h : Keeps s₀ s) : Keeps s₀ (s.sacVsx vsx) := by
  unfold State.sacVsx
  repeat' with_reducible first
    | assumption | apply State.setFb_keeps

theorem State.slotShared_keeps {s₀ s : State} {ch : Nat} {m : SlotInput} (h : Keeps s₀ s) : Keeps s₀ (s.slotShared ch m) := by
  unfold State.slotShared
  repeat' with_reducible first
    | assumption | apply State.cvTemp_keeps | apply State.cvFault_keeps | apply State.sacVsx_keeps | apply State.slotDone_keeps
    | apply State.setFv_keeps | apply State.scAvdd_keeps | apply State.scFaults_keeps | apply Keeps.ite | intro _

theorem State.scDiscard_keeps {s₀ s : State} {ch : Nat} (h : Keeps s₀ s) : Keeps s₀ (s.scDiscard ch) := by
  unfold State.scDiscard
  repeat' with_reducible first
    | assumption | apply State.scShow_keeps | apply State.setSc_keeps

theorem State.scResult_keeps {s₀ s : State} {ch : Nat} {raw : Q} (h : Keeps s₀ s) : Keeps s₀ (s.scResult ch raw) := by
  unfold State.scResult
  repeat' with_reducible first
    | assumption | apply State.setFv_keeps | apply State.scEnter_keeps | apply State.setSc_keeps | apply State.scShow_keeps
    | apply Keeps.ite | intro _ | apply Keeps.foldl | (apply Keeps.snd; assumption) | (apply Keeps.fst; assumption)
    | fail_if_no_progress apply Keeps.rest | apply Keeps.idOf | extract_lets | split

theorem State.scMeasure_keeps {s₀ s : State} {ch : Nat} {m : SlotInput} (h : Keeps s₀ s) : Keeps s₀ (s.scMeasure ch m) := by
  unfold State.scMeasure
  repeat' with_reducible first
    | assumption | apply State.setSc_keeps | apply State.scFaults_keeps | apply State.rangeChange_keeps | apply State.scDiscard_keeps
    | apply State.scShow_keeps | apply State.scResult_keeps | apply Keeps.ite | intro _

theorem State.scSense_keeps {s₀ s : State} {ch : Nat} {m : SlotInput} (h : Keeps s₀ s) : Keeps s₀ (s.scSense ch m) := by
  unfold State.scSense
  repeat' with_reducible first
    | assumption | apply State.setSc_keeps | apply State.scFaults_keeps | apply State.scShow_keeps | apply State.scDiscard_keeps
    | apply State.scResult_keeps | apply Keeps.ite | intro _ | apply Keeps.foldl | (apply Keeps.snd; assumption)
    | (apply Keeps.fst; assumption) | fail_if_no_progress apply Keeps.rest | apply Keeps.idOf | extract_lets | split

theorem State.scLead_keeps {s₀ s : State} {ch : Nat} {vl : Q} {m : SlotInput} (h : Keeps s₀ s) : Keeps s₀ (s.scLead ch vl m) := by
  unfold State.scLead
  repeat' with_reducible first
    | assumption | apply State.setSc_keeps | apply State.scFaults_keeps | apply State.scShow_keeps | apply State.setFv_keeps
    | apply Keeps.ite | intro _

theorem State.scTested_keeps {s₀ s : State} {ch : Nat} {sexc dvm : Q} {m : SlotInput}
    (h : Keeps s₀ s) : Keeps s₀ (s.scTested ch sexc dvm m) := by
  unfold State.scTested
  repeat' with_reducible first
    | assumption | apply State.setSc_keeps | apply State.scFaults_keeps | apply State.scShow_keeps | apply State.scSettle_keeps
    | apply Keeps.ite | intro _

theorem State.termShow_keeps {s₀ s : State} (h : Keeps s₀ s) : Keeps s₀ s.termShow := by
  unfold State.termShow
  repeat' with_reducible first
    | assumption | apply State.sourceQuality_keeps | apply State.scShow_keeps | apply Keeps.ite | intro _ | apply Keeps.foldl

theorem State.termRead_keeps {s₀ s : State} {k : Nat} {term : Q} (h : Keeps s₀ s) : Keeps s₀ (s.termRead k term) := by
  unfold State.termRead
  repeat' with_reducible first
    | assumption | apply State.termShow_keeps | apply State.sourceWrite_keeps | apply State.setFv_keeps | apply State.scShow_keeps
    | apply Keeps.ite | intro _ | apply Keeps.foldl | (apply Keeps.snd; assumption) | (apply Keeps.fst; assumption)
    | fail_if_no_progress apply Keeps.rest

theorem State.scCtrl_keeps {s₀ s : State} {ch : Nat} {v : Word} (h : Keeps s₀ s) : Keeps s₀ (s.scCtrl ch v) := by
  unfold State.scCtrl
  repeat' with_reducible first
    | assumption | apply State.setSc_keeps

theorem State.scBegin_keeps {s₀ s : State} {ch : Nat} (h : Keeps s₀ s) : Keeps s₀ (s.scBegin ch) := by
  unfold State.scBegin
  repeat' with_reducible first
    | assumption | apply State.setSc_keeps | apply State.setFv_keeps | apply State.scSettle_keeps

theorem State.scBeginShow_keeps {s₀ s : State} {ch : Nat} (h : Keeps s₀ s) : Keeps s₀ (s.scBeginShow ch) := by
  unfold State.scBeginShow
  repeat' with_reducible first
    | assumption | apply State.scShow_keeps | apply State.sourceWrite_keeps | apply Keeps.ite | intro _

theorem State.cvEnable_keeps {s₀ s : State} {k : Nat} (h : Keeps s₀ s) : Keeps s₀ (s.cvEnable k) := by
  unfold State.cvEnable
  repeat' with_reducible first
    | assumption | apply State.scBegin_keeps | apply State.scFaults_keeps | apply State.scBeginShow_keeps | apply State.cvShow_keeps
    | apply Keeps.ite | intro _ | apply Keeps.foldl

theorem State.cvDisable_keeps {s₀ s : State} {k : Nat} (h : Keeps s₀ s) : Keeps s₀ (s.cvDisable k) := by
  unfold State.cvDisable
  repeat' with_reducible first
    | assumption | apply State.setCv_keeps | apply State.scBeginShow_keeps | apply State.setFv_keeps | apply State.setSc_keeps
    | apply Keeps.ite | intro _ | apply Keeps.foldl

theorem State.sacPowered_keeps {s₀ s : State} (h : Keeps s₀ s) : Keeps s₀ s.sacPowered := by
  unfold State.sacPowered
  repeat' with_reducible first
    | assumption | apply State.lapse_keeps | apply State.setFb_keeps | apply State.dueShow_keeps | apply State.cvShow_keeps
    | apply State.setCv_keeps | apply State.cvEnable_keeps | apply State.cvDisable_keeps | apply State.termShow_keeps
    | apply Keeps.ite | intro _ | apply Keeps.foldl | (apply Keeps.snd; assumption) | (apply Keeps.fst; assumption)
    | fail_if_no_progress apply Keeps.rest

theorem State.sacAvddLost_keeps {s₀ s : State} (h : Keeps s₀ s) : Keeps s₀ s.sacAvddLost := by
  unfold State.sacAvddLost
  repeat' with_reducible first
    | assumption | apply State.irq_keeps | apply State.setFb_keeps | apply State.scShow_keeps | apply State.scFaults_keeps
    | apply Keeps.ite | intro _ | apply Keeps.foldl

theorem State.sacAvddBack_keeps {s₀ s : State} (h : Keeps s₀ s) : Keeps s₀ s.sacAvddBack := by
  unfold State.sacAvddBack
  repeat' with_reducible first
    | assumption | apply State.setFb_keeps | apply Keeps.ite | intro _

theorem State.scNewMode_keeps {s₀ s : State} {ch : Nat} (h : Keeps s₀ s) : Keeps s₀ (s.scNewMode ch) := by
  unfold State.scNewMode
  repeat' with_reducible first
    | assumption | apply State.setFv_keeps | apply State.setSc_keeps | apply State.scFaults_keeps | apply Keeps.ite | intro _

theorem State.scRanged_keeps {s₀ s : State} {ch : Nat} (h : Keeps s₀ s) : Keeps s₀ (s.scRanged ch) := by
  unfold State.scRanged
  repeat' with_reducible first
    | assumption | apply State.irq_keeps | apply State.setFv_keeps | apply Keeps.ite | intro _

theorem State.scAveraged_keeps {s₀ s : State} {ch : Nat} (h : Keeps s₀ s) : Keeps s₀ (s.scAveraged ch) := by
  unfold State.scAveraged
  repeat' with_reducible first
    | assumption | apply State.setFv_keeps | apply State.setFb_keeps

theorem State.scCommitted_keeps {s₀ s : State} {old : State} {ch : Nat} (h : Keeps s₀ s) : Keeps s₀ (s.scCommitted old ch) := by
  unfold State.scCommitted
  repeat' with_reducible first
    | assumption | apply State.cvShow_keeps | apply State.scBeginShow_keeps | apply State.setSc_keeps | apply State.scNewMode_keeps
    | apply State.abandonOf_keeps | apply State.scRanged_keeps | apply State.scSettle_keeps | apply State.excChange_keeps
    | apply State.scAveraged_keeps | apply State.newCycle_keeps | apply State.scShow_keeps | apply Keeps.ite | intro _

theorem State.cvCommitted_keeps {s₀ s : State} {old : State} {k : Nat} (h : Keeps s₀ s) : Keeps s₀ (s.cvCommitted old k) := by
  unfold State.cvCommitted
  repeat' with_reducible first
    | assumption | apply State.cvShow_keeps | apply State.abandonSlot_keeps | apply State.scShow_keeps | apply State.scSettle_keeps
    | apply Keeps.ite | intro _ | apply Keeps.foldl

theorem State.copyUserTables_keeps {s₀ s : State} (h : Keeps s₀ s) : Keeps s₀ s.copyUserTables := by
  unfold State.copyUserTables
  refine Keeps.foldl (fun t x ht => State.wrBytes_keeps (Keeps.setMem (Memory.wf_dropRange _ _ _) ?_)) _ h
  exact State.curePoison_keeps ht

theorem execMeasurementSlot_keeps (t : Nat) (ch : Fin 32) (m : SlotInput) (s : State) : KeepsNext s (execMeasurementSlot t ch m s) := by
  unfold execMeasurementSlot
  repeat' with_reducible first
    | exact State.at_keeps (Keeps.refl _) | apply KeepsNext.next | assumption | apply State.slotShared_keeps
    | apply State.nextSlot_keeps | apply State.scSense_keeps | apply State.scMeasure_keeps | apply KeepsNext.ite | apply Keeps.ite
    | intro _ | apply Keeps.foldl | fail_if_no_progress apply Keeps.rest | apply Keeps.idOf | extract_lets | split

theorem execLeadSlot_keeps (t : Nat) (ch : Fin 32) (vl : Q) (m : SlotInput) (s : State) : KeepsNext s (execLeadSlot t ch vl m s) := by
  unfold execLeadSlot
  repeat' with_reducible first
    | exact State.at_keeps (Keeps.refl _) | apply KeepsNext.next | assumption | apply State.nextSlot_keeps | apply State.scLead_keeps
    | apply State.slotShared_keeps | apply KeepsNext.ite | apply Keeps.ite | intro _ | apply Keeps.foldl
    | fail_if_no_progress apply Keeps.rest | apply Keeps.idOf | extract_lets | split

theorem execExcitationTestSlot_keeps (t : Nat) (ch : Fin 32) (sexc dvm : Q) (m : SlotInput) (s : State) :
    KeepsNext s (execExcitationTestSlot t ch sexc dvm m s) := by
  unfold execExcitationTestSlot
  repeat' with_reducible first
    | exact State.at_keeps (Keeps.refl _) | apply KeepsNext.next | assumption | apply State.nextSlot_keeps
    | apply State.scTested_keeps | apply State.slotShared_keeps | apply KeepsNext.ite | apply Keeps.ite | intro _ | apply Keeps.foldl
    | fail_if_no_progress apply Keeps.rest | apply Keeps.idOf | extract_lets | split

theorem execSupervisorCheckSlot_keeps (t : Nat) (k : Fin 8) (safref term temp : Q) (s : State) :
    KeepsNext s (execSupervisorCheckSlot t k safref term temp s) := by
  unfold execSupervisorCheckSlot
  repeat' with_reducible first
    | exact State.at_keeps (Keeps.refl _) | apply KeepsNext.next | assumption | apply State.cvTemp_keeps | apply State.slotDone_keeps
    | apply State.termRead_keeps | apply State.nextSlot_keeps | apply KeepsNext.ite | apply Keeps.ite | intro _ | apply Keeps.foldl
    | (apply Keeps.snd; assumption) | (apply Keeps.fst; assumption) | fail_if_no_progress apply Keeps.rest

theorem execStaleFault_keeps (t : Nat) (ch : Fin 32) (s : State) : KeepsNext s (execStaleFault t ch s) := by
  unfold execStaleFault
  repeat' with_reducible first
    | exact State.at_keeps (Keeps.refl _) | apply KeepsNext.next | assumption | apply State.scShow_keeps | apply State.scFaults_keeps
    | apply KeepsNext.ite | apply Keeps.ite | intro _

theorem execConverterStart_keeps (t : Nat) (k : Fin 8) (s : State) : KeepsNext s (execConverterStart t k s) := by
  unfold execConverterStart
  repeat' with_reducible first
    | exact State.at_keeps (Keeps.refl _) | apply KeepsNext.next | assumption | apply State.newCycle_keeps | apply KeepsNext.ite
    | apply Keeps.ite | intro _

end Sys2Proof.Machine
end

