-- ==== Sys2Proof/Laws/KeepsCal.lean ====
section
/-! SUPPORT. What the operations of Machine/Cal.lean keep (Laws/Keeps.lean). -/

namespace Sys2Proof.Machine

open Sys2Proof

theorem State.calCounting_keeps {s₀ s : State} {on : Bool} (h : Keeps s₀ s) : Keeps s₀ (s.calCounting on) := by
  unfold State.calCounting
  repeat' with_reducible first
    | assumption | apply State.setCv_keeps | apply Keeps.ite | intro _ | apply Keeps.foldl

theorem State.calHold_keeps {s₀ s : State} (h : Keeps s₀ s) : Keeps s₀ s.calHold := by
  unfold State.calHold
  repeat' with_reducible first
    | assumption | apply State.dueShow_keeps | apply Keeps.ite | intro _ | apply Keeps.foldl

theorem State.calTallyStep_keeps {s₀ s : State} {n k : Nat} {ok : Bool} (h : Keeps s₀ s) : Keeps s₀ (s.calTallyStep n k ok) := by
  unfold State.calTallyStep
  repeat' with_reducible first
    | assumption | apply State.lateStop_keeps | apply State.tallyProgress_keeps | apply State.tallyDone_keeps | apply Keeps.ite
    | intro _ | apply Keeps.foldl | (apply Keeps.snd; assumption) | (apply Keeps.fst; assumption)
    | fail_if_no_progress apply Keeps.rest | apply Keeps.idOf | extract_lets | split

theorem State.scanStops_keeps {s₀ s : State} {k : Nat} (h : Keeps s₀ s) : Keeps s₀ (s.scanStops k) := by
  unfold State.scanStops
  repeat' with_reducible first
    | assumption | apply State.setCv_keeps | apply State.setSc_keeps | apply State.scShow_keeps | apply Keeps.ite | intro _
    | apply Keeps.foldl

theorem State.calCount_keeps {s₀ s : State} {k : Nat} (h : Keeps s₀ s) : Keeps s₀ (s.calCount k) := by
  unfold State.calCount
  repeat' with_reducible first
    | assumption | apply State.wrapInc_keeps | apply Keeps.ite | intro _ | apply Keeps.foldl | (apply Keeps.snd; assumption)
    | (apply Keeps.fst; assumption) | fail_if_no_progress apply Keeps.rest | apply Keeps.idOf | extract_lets | split

theorem State.calRun_keeps {s₀ s : State} {k kind trigger : Nat} {first : Option CalFigures} {tally : Option Nat}
    (h : Keeps s₀ s) : Keeps s₀ (s.calRun k kind trigger first tally) := by
  unfold State.calRun
  repeat' with_reducible first
    | assumption | apply State.scanStops_keeps | apply State.calCount_keeps | apply State.setFv_keeps | apply State.setCv_keeps

theorem State.scanResumes_keeps {s₀ s : State} {k : Nat} (h : Keeps s₀ s) : Keeps s₀ (s.scanResumes k) := by
  unfold State.scanResumes
  repeat' with_reducible first
    | assumption | apply State.scNewMode_keeps | apply State.scRanged_keeps | apply State.setSc_keeps | apply State.scBeginShow_keeps
    | apply State.scShow_keeps | apply State.scSettle_keeps | apply State.cvShow_keeps | apply State.newCycle_keeps | apply Keeps.ite
    | intro _ | apply Keeps.foldl

theorem State.calLeaves_keeps {s₀ s : State} {k : Nat} (h : Keeps s₀ s) : Keeps s₀ (s.calLeaves k) := by
  unfold State.calLeaves
  repeat' with_reducible first
    | assumption | apply State.calCount_keeps | apply State.scanResumes_keeps | apply State.setFv_keeps | apply State.setCv_keeps

theorem State.calHistory_keeps {s₀ s : State} {k kind reason trigger : Nat} {dr2 dr20 dg vref : Q}
    (h : Keeps s₀ s) : Keeps s₀ (s.calHistory k kind reason trigger dr2 dr20 dg vref) := by
  unfold State.calHistory
  repeat' with_reducible first
    | assumption | apply State.setCv_keeps | apply State.nodeWrite_keeps

theorem State.calInterval_keeps {s₀ s : State} {k : Nat} {d : Q} (h : Keeps s₀ s) : Keeps s₀ (s.calInterval k d) := by
  unfold State.calInterval
  repeat' with_reducible first
    | assumption | apply State.setFv_keeps | apply State.setCv_keeps | apply Keeps.ite | intro _

theorem State.refChecked_keeps {s₀ s : State} {vref : Q} (h : Keeps s₀ s) : Keeps s₀ (s.refChecked vref) := by
  unfold State.refChecked
  repeat' with_reducible first
    | assumption | apply State.irqIf_keeps | apply State.setFb_keeps | apply State.setFv_keeps | apply Keeps.ite | intro _
    | apply Keeps.foldl | (apply Keeps.snd; assumption) | (apply Keeps.fst; assumption) | fail_if_no_progress apply Keeps.rest

theorem State.refUnseen_keeps {s₀ s : State} {run : CalRun} (h : Keeps s₀ s) : Keeps s₀ (s.refUnseen run) := by
  unfold State.refUnseen
  repeat' with_reducible first
    | assumption | apply State.draw_keeps | apply State.refChecked_keeps | apply Keeps.ite | intro _

theorem State.calFails_keeps {s₀ s : State} {k : Nat} {run : CalRun} {reason : Nat} {dr2 dr20 dg vref : Q}
    (h : Keeps s₀ s) : Keeps s₀ (s.calFails k run reason dr2 dr20 dg vref) := by
  unfold State.calFails
  repeat' with_reducible first
    | assumption | apply State.setFv_keeps | apply State.calHistory_keeps | apply State.irq_keeps

theorem State.calSucceeds_keeps {s₀ s : State} {k : Nat} {run : CalRun} {m : CalFigures} {dr2 dr20 dg vref : Q} {jump : Bool}
    (h : Keeps s₀ s) : Keeps s₀ (s.calSucceeds k run m dr2 dr20 dg vref jump) := by
  unfold State.calSucceeds
  repeat' with_reducible first
    | assumption | apply State.nodeWrite_keeps | apply State.setCv_keeps | apply State.calInterval_keeps | apply State.setFv_keeps
    | apply State.wrapInc_keeps | apply State.setStamp_keeps | apply State.calHistory_keeps | apply State.irq_keeps | apply Keeps.ite
    | intro _

theorem State.calEnded_keeps {s₀ s : State} {k : Nat} {run : CalRun} {ok : Bool} (h : Keeps s₀ s) : Keeps s₀ (s.calEnded k run ok) := by
  unfold State.calEnded
  repeat' with_reducible first
    | assumption | apply State.setCv_keeps | apply State.calLeaves_keeps | apply State.calTallyStep_keeps | apply Keeps.ite | intro _
    | apply Keeps.foldl | (apply Keeps.snd; assumption) | (apply Keeps.fst; assumption) | fail_if_no_progress apply Keeps.rest
    | apply Keeps.idOf | extract_lets | split

theorem State.calAbandon_keeps {s₀ s : State} {k : Nat} (h : Keeps s₀ s) : Keeps s₀ (s.calAbandon k) := by
  unfold State.calAbandon
  repeat' with_reducible first
    | assumption | apply State.setFv_keeps | apply State.refUnseen_keeps | apply State.calEnded_keeps | apply State.calHistory_keeps
    | apply Keeps.ite | intro _ | apply Keeps.foldl | (apply Keeps.snd; assumption) | (apply Keeps.fst; assumption)
    | fail_if_no_progress apply Keeps.rest | apply Keeps.idOf | extract_lets | split

theorem State.calTallyStops_keeps {s₀ s : State} {n : Nat} (h : Keeps s₀ s) : Keeps s₀ (s.calTallyStops n) := by
  unfold State.calTallyStops
  repeat' with_reducible first
    | assumption | apply State.setTally_keeps | apply State.calAbandon_keeps | apply State.setCv_keeps | apply Keeps.ite | intro _
    | apply Keeps.foldl | (apply Keeps.snd; assumption) | (apply Keeps.fst; assumption) | fail_if_no_progress apply Keeps.rest
    | apply Keeps.idOf | extract_lets | split

theorem State.sacStop_keeps {s₀ s : State} (h : Keeps s₀ s) : Keeps s₀ s.sacStop := by
  unfold State.sacStop
  repeat' with_reducible first
    | assumption | apply State.calAbandon_keeps | apply State.setCv_keeps | apply Keeps.ite | intro _ | apply Keeps.foldl

theorem State.sacCommitted_keeps {s₀ s : State} {old : State} (h : Keeps s₀ s) : Keeps s₀ (s.sacCommitted old) := by
  unfold State.sacCommitted
  repeat' with_reducible first
    | assumption | apply State.copyUserTables_keeps | apply State.setFv_keeps | apply State.sacPowered_keeps
    | apply State.termShow_keeps | apply State.cvEnable_keeps | apply State.cvDisable_keeps | apply State.calAbandon_keeps
    | apply Keeps.ite | intro _ | apply Keeps.foldl

theorem execCalDue_keeps (t : Nat) (k : Fin 8) (temp : Q) (s : State) : KeepsNext s (execCalDue t k temp s) := by
  unfold execCalDue
  repeat' with_reducible first
    | exact State.at_keeps (Keeps.refl _) | apply KeepsNext.next | assumption | apply State.setFv_keeps
    | apply State.calFallsDue_keeps | apply KeepsNext.ite | apply Keeps.ite | intro _

theorem execCalOverdue_keeps (t : Nat) (k : Fin 8) (s : State) : KeepsNext s (execCalOverdue t k s) := by
  unfold execCalOverdue
  repeat' with_reducible first
    | exact State.at_keeps (Keeps.refl _) | apply KeepsNext.next | assumption | apply State.setFv_keeps | apply KeepsNext.ite
    | apply Keeps.ite | intro _ | apply Keeps.foldl | fail_if_no_progress apply Keeps.rest | apply Keeps.idOf | extract_lets | split

theorem execCalibrationStart_keeps (t : Nat) (k : Fin 8) (s : State) : KeepsNext s (execCalibrationStart t k s) := by
  unfold execCalibrationStart
  repeat' with_reducible first
    | exact State.at_keeps (Keeps.refl _) | apply KeepsNext.next | assumption | apply State.calRun_keeps | apply KeepsNext.ite
    | apply Keeps.ite | intro _ | apply Keeps.foldl | fail_if_no_progress apply Keeps.rest | apply Keeps.idOf | extract_lets | split

theorem execCalibrationComplete_keeps (t : Nat) (k : Fin 8) (m : CalInput) (s : State) :
    KeepsNext s (execCalibrationComplete t k m s) := by
  unfold execCalibrationComplete
  repeat' with_reducible first
    | exact State.at_keeps (Keeps.refl _) | apply KeepsNext.next | assumption | apply State.calEnded_keeps
    | apply State.calFails_keeps | apply State.refUnseen_keeps | apply State.setFv_keeps | apply State.refChecked_keeps
    | apply State.calSucceeds_keeps | apply State.calRun_keeps | apply KeepsNext.ite | apply Keeps.ite | intro _ | apply Keeps.foldl
    | fail_if_no_progress apply Keeps.rest | apply Keeps.idOf | extract_lets | split

theorem execCalibrationTimeout_keeps (t : Nat) (k : Fin 8) (s : State) : KeepsNext s (execCalibrationTimeout t k s) := by
  unfold execCalibrationTimeout
  repeat' with_reducible first
    | exact State.at_keeps (Keeps.refl _) | apply KeepsNext.next | assumption | apply State.calEnded_keeps
    | apply State.calFails_keeps | apply State.refUnseen_keeps | apply KeepsNext.ite | apply Keeps.ite | intro _ | apply Keeps.foldl
    | fail_if_no_progress apply Keeps.rest | apply Keeps.idOf | extract_lets | split

theorem execCal_keeps (t tally : Nat) (s : State) : KeepsNext s (execCal t tally s) := by
  unfold execCal
  repeat' with_reducible first
    | exact State.at_keeps (Keeps.refl _) | apply KeepsNext.next | assumption | apply State.lateStop_keeps
    | apply State.calTallyStops_keeps | apply State.tallyDone_keeps | apply State.tallyProgress_keeps | apply KeepsNext.ite
    | apply Keeps.ite | intro _ | apply Keeps.foldl | fail_if_no_progress apply Keeps.rest | apply Keeps.idOf | extract_lets | split

end Sys2Proof.Machine
end

