-- ==== Sys2Proof/Laws/KeepsSpxPlane.lean ====
section
/-! SUPPORT. What the operations of Machine/SpxPlane.lean keep (Laws/Keeps.lean). -/

namespace Sys2Proof.Machine

open Sys2Proof

theorem State.setPlane_keeps {s₀ s : State} {i : Nat} {x : SpxPl} (h : Keeps s₀ s) : Keeps s₀ (s.setPlane i x) := by
  unfold State.setPlane
  repeat' with_reducible first
    | assumption | apply Keeps.ite | intro _ | apply Keeps.foldl | (apply Keeps.snd; assumption) | (apply Keeps.fst; assumption)
    | fail_if_no_progress apply Keeps.rest

theorem State.setDch_keeps {s₀ s : State} {ch : Nat} {c : DynCh} (h : Keeps s₀ s) : Keeps s₀ (s.setDch ch c) := by
  unfold State.setDch
  repeat' with_reducible first
    | assumption | apply Keeps.ite | intro _ | apply Keeps.foldl | (apply Keeps.snd; assumption) | (apply Keeps.fst; assumption)
    | fail_if_no_progress apply Keeps.rest

theorem State.planeShow_keeps {s₀ s : State} {i : Nat} (h : Keeps s₀ s) : Keeps s₀ (s.planeShow i) := by
  unfold State.planeShow
  repeat' with_reducible first
    | assumption | apply State.setFv_keeps | apply State.irqIf_keeps | apply State.squash_keeps | apply Keeps.ite | intro _

theorem State.planesFollow_keeps {s₀ s : State} {ch : Nat} (h : Keeps s₀ s) : Keeps s₀ (s.planesFollow ch) := by
  unfold State.planesFollow
  repeat' with_reducible first
    | assumption | apply State.planeShow_keeps | apply Keeps.ite | intro _ | apply Keeps.foldl

theorem State.allPlanesShow_keeps {s₀ s : State} (h : Keeps s₀ s) : Keeps s₀ s.allPlanesShow := by
  unfold State.allPlanesShow
  repeat' with_reducible first
    | assumption | apply State.planeShow_keeps | apply Keeps.ite | intro _ | apply Keeps.foldl

theorem State.zoomSample_keeps {s₀ s : State} {ch : Nat} (h : Keeps s₀ s) : Keeps s₀ (s.zoomSample ch) := by
  unfold State.zoomSample
  repeat' with_reducible first
    | assumption | apply State.setPlane_keeps | apply Keeps.ite | intro _

end Sys2Proof.Machine
end

