-- ==== Sys2Proof/Laws/KeepsPteEval.lean ====
section
/-! SUPPORT. What the operations of Machine/PteEval.lean keep (Laws/Keeps.lean). -/

namespace Sys2Proof.Machine

open Sys2Proof

theorem State.queueChange_keeps {s₀ s : State} {c : Change} (h : Keeps s₀ s) : Keeps s₀ (s.queueChange c) := by
  unfold State.queueChange
  repeat' with_reducible first
    | assumption | apply Keeps.ite | intro _ | apply Keeps.foldl | (apply Keeps.snd; assumption) | (apply Keeps.fst; assumption)
    | fail_if_no_progress apply Keeps.rest

theorem State.poisonFound_keeps {s₀ s : State} {p : Nat} (h : Keeps s₀ s) : Keeps s₀ (s.poisonFound p) := by
  unfold State.poisonFound
  repeat' with_reducible first
    | assumption | apply State.irq_keeps | apply State.satInc_keeps | apply Keeps.ite | intro _ | apply Keeps.foldl
    | (apply Keeps.snd; assumption) | (apply Keeps.fst; assumption) | fail_if_no_progress apply Keeps.rest

theorem State.reportPoison_keeps {s₀ s : State} {p : Nat} {forced simulated : Bool} {stamp : Nat}
    (h : Keeps s₀ s) : Keeps s₀ (s.reportPoison p forced simulated stamp) := by
  unfold State.reportPoison
  repeat' with_reducible first
    | assumption | apply State.queueChange_keeps | apply State.holdReported_keeps | apply State.poisonFound_keeps | apply Keeps.ite
    | intro _

theorem State.poisonGone_keeps {s₀ s : State} {p : Nat} (h : Keeps s₀ s) : Keeps s₀ (s.poisonGone p) := by
  unfold State.poisonGone
  repeat' with_reducible first
    | assumption | apply Keeps.ite | intro _ | apply Keeps.foldl | (apply Keeps.snd; assumption) | (apply Keeps.fst; assumption)
    | fail_if_no_progress apply Keeps.rest

theorem State.setHeld_keeps {s₀ s : State} {n : Nat} {l : List Nat} (h : Keeps s₀ s) : Keeps s₀ (s.setHeld n l) := by
  unfold State.setHeld
  repeat' with_reducible first
    | assumption | apply Keeps.ite | intro _ | apply Keeps.foldl | (apply Keeps.snd; assumption) | (apply Keeps.fst; assumption)
    | fail_if_no_progress apply Keeps.rest

theorem State.scalarCommit_keeps {s₀ s : State} {n b1 q : Nat} {steps : List (Nat × Nat × Nat)} {ts : Nat} {poison : Bool}
    (h : Keeps s₀ s) : Keeps s₀ (s.scalarCommit n b1 q steps ts poison) := by
  unfold State.scalarCommit
  have hf : ∀ {c : Nat → Nat → Nat → Nat → Nat → Nat → Change} {q' : Nat} {r : State × Nat × Nat}, Keeps s₀ r.1 →
      Keeps s₀ (steps.foldl (fun (r : State × Nat × Nat) x =>
        if x.1 = r.2.1 then r else (r.1.queueChange (c r.2.1 x.1 r.2.2 q x.2.1 x.2.2), x.1, q')) r).1 := fun hr => by
    refine Keeps.foldlFst (fun r x hr => ?_) _ hr
    split
    · exact hr
    · exact State.queueChange_keeps hr
  have hw : ∀ {a : Nat} {l : List Byte}, Keeps s₀ ((s.dropReported (scalarPoint n)).nodeWrite a l) :=
    State.nodeWrite_keeps (State.dropReported_keeps h)
  refine Keeps.ite (fun _ => ?_) (fun _ => State.queueChange_keeps ?_)
  · exact hf (c := fun a b d e f g => mkChange (scalarPoint n) (s.entryOf (scalarPoint n)) a b d e _ _ false f g) hw
  · exact hf (c := fun a b d e f g => mkChange (scalarPoint n) (s.entryOf (scalarPoint n)) a b d e _ _ false f g) hw

theorem State.scalarEval_keeps {s₀ s : State} {n now : Nat} {x : Shadow} (h : Keeps s₀ s) : Keeps s₀ (s.scalarEval n now x) := by
  unfold State.scalarEval
  repeat' with_reducible first
    | assumption | apply State.irqIf_keeps | apply State.reportPoison_keeps | apply State.dropRuns_keeps
    | apply State.poisonFound_keeps | apply State.poisonGone_keeps | apply State.scalarCommit_keeps | apply State.freezeRuns_keeps
    | apply State.setHeld_keeps | apply State.setRun_keeps | apply Keeps.ite | intro _ | apply Keeps.foldl
    | (apply Keeps.snd; assumption) | (apply Keeps.fst; assumption) | fail_if_no_progress apply Keeps.rest

theorem State.specEval_keeps {s₀ s : State} {x : AtPlane} {p : Nat} (h : Keeps s₀ s) : Keeps s₀ (s.specEval x p) := by
  unfold State.specEval
  repeat' with_reducible first
    | assumption | apply State.irqIf_keeps | apply State.reportPoison_keeps | apply State.dropReported_keeps
    | apply State.poisonFound_keeps | apply State.poisonGone_keeps | apply State.nodeWrite_keeps | apply State.queueChange_keeps
    | apply Keeps.ite | intro _ | apply Keeps.foldl | (apply Keeps.snd; assumption) | (apply Keeps.fst; assumption)
    | fail_if_no_progress apply Keeps.rest

theorem State.classEvents_keeps {s₀ s : State} {old : State} (h : Keeps s₀ s) : Keeps s₀ (s.classEvents old) := by
  unfold State.classEvents
  repeat' with_reducible first
    | assumption | apply State.irqIf_keeps | apply Keeps.ite | intro _ | apply Keeps.foldl

theorem State.classDue_keeps {s₀ s : State} {c : Nat} (h : Keeps s₀ s) : Keeps s₀ (s.classDue c) := by
  unfold State.classDue
  repeat' with_reducible first
    | assumption | apply Keeps.ite | intro _ | apply Keeps.foldl | (apply Keeps.snd; assumption) | (apply Keeps.fst; assumption)
    | fail_if_no_progress apply Keeps.rest

theorem State.classRelease_keeps {s₀ s : State} {c : Nat} (h : Keeps s₀ s) : Keeps s₀ (s.classRelease c) := by
  unfold State.classRelease
  repeat' with_reducible first
    | assumption | apply State.unlatch_keeps | apply State.queueChange_keeps | apply State.classDue_keeps | apply State.squash_keeps
    | apply Keeps.ite | intro _ | apply Keeps.foldl

theorem State.windowClamps_keeps {s₀ s : State} {p : Nat} {old w new : List Byte} {m : Nat → Bool}
    (h : Keeps s₀ s) : Keeps s₀ (s.windowClamps p old w new m) := by
  unfold State.windowClamps
  repeat' with_reducible first
    | assumption | apply State.clampAt_keeps | apply State.setFv_keeps | apply Keeps.ite | intro _ | apply Keeps.foldl

theorem State.simSwitch_keeps {s₀ s : State} {n : Nat} {on : Bool} {quality : Nat}
    (h : Keeps s₀ s) : Keeps s₀ (s.simSwitch n on quality) := by
  unfold State.simSwitch
  repeat' with_reducible first
    | assumption | apply State.setQuality_keeps | apply State.dropRuns_keeps | apply State.setValue_keeps | apply Keeps.ite | intro _
    | apply Keeps.foldl | (apply Keeps.snd; assumption) | (apply Keeps.fst; assumption) | fail_if_no_progress apply Keeps.rest

theorem State.windowFollows_keeps {s₀ s : State} {old : State} {p : Nat} {quality : Bool}
    (h : Keeps s₀ s) : Keeps s₀ (s.windowFollows old p quality) := by
  unfold State.windowFollows
  repeat' with_reducible first
    | assumption | apply State.squashPoint_keeps | apply State.dropRuns_keeps | apply State.dropReported_keeps
    | apply State.simSwitch_keeps | apply State.setQuality_keeps | apply State.makeDue_keeps | apply State.queueChange_keeps
    | apply Keeps.ite | intro _ | apply Keeps.foldl | (apply Keeps.snd; assumption) | (apply Keeps.fst; assumption)
    | fail_if_no_progress apply Keeps.rest

theorem State.windowOne_keeps {s₀ s : State} {kind p base start : Nat} {l : List Byte} {size : Nat} {may : Bool}
    (h : Keeps s₀ s) : Keeps s₀ (s.windowOne kind p base start l size may) := by
  unfold State.windowOne
  repeat' with_reducible first
    | assumption | apply State.nodeWrite_keeps | apply State.wrBytes_keeps | apply State.curePoison_keeps
    | apply State.windowClamps_keeps | apply State.makeDue_keeps | apply State.windowFollows_keeps | apply Keeps.ite | intro _

theorem State.windowBytes_keeps {s₀ : State} {may : Bool} (k : Nat) :
    ∀ {s : State} {a : Nat} {l : List Byte}, Keeps s₀ s → Keeps s₀ (s.windowBytes may k a l) := by
  induction k with
  | zero => intro s a l h; cases l <;> exact h
  | succ k ih =>
    intro s a l h
    cases l with
    | nil => exact h
    | cons b l => exact ih (State.windowOne_keeps h)

theorem State.simWrite_keeps {s₀ s : State} {p : Port} {point : Nat} {active : Bool}
    (h : Keeps s₀ s) : Keeps s₀ (s.simWrite p point active).1 := by
  unfold State.simWrite
  repeat' with_reducible first
    | assumption | apply State.squashPoint_keeps | apply State.queueChange_keeps | apply State.safShow_keeps | apply Keeps.ite
    | intro _ | apply Keeps.foldl | (apply Keeps.snd; assumption) | (apply Keeps.fst; assumption)
    | fail_if_no_progress apply Keeps.rest

theorem State.simValue_keeps {s₀ s : State} {code : Nat} (h : Keeps s₀ s) : Keeps s₀ (s.simValue code) := by
  unfold State.simValue
  repeat' with_reducible first
    | assumption | apply State.squashPoint_keeps | apply Keeps.ite | intro _ | apply Keeps.foldl | (apply Keeps.snd; assumption)
    | (apply Keeps.fst; assumption) | fail_if_no_progress apply Keeps.rest

theorem State.pteClr_keeps {s₀ s : State} (h : Keeps s₀ s) : Keeps s₀ s.pteClr := by
  unfold State.pteClr
  repeat' with_reducible first
    | assumption | apply State.setFv_keeps | apply State.setReg_keeps

end Sys2Proof.Machine
end

