-- ==== Sys2Proof/Laws/KeepsDio.lean ====
section
/-! SUPPORT. What the operations of Machine/Dio.lean keep (Laws/Keeps.lean). -/

namespace Sys2Proof.Machine

open Sys2Proof

theorem State.fbeDo_keeps {s₀ s : State} {line : Nat} {b : Bool} (h : Keeps s₀ s) : Keeps s₀ (s.fbeDo line b) := by
  unfold State.fbeDo
  repeat' with_reducible first
    | assumption | apply Keeps.ite | intro _ | apply Keeps.foldl | (apply Keeps.snd; assumption) | (apply Keeps.fst; assumption)
    | fail_if_no_progress apply Keeps.rest

theorem State.doSet_keeps {s₀ s : State} {v : Nat} (h : Keeps s₀ s) : Keeps s₀ (s.doSet v) := by
  unfold State.doSet
  repeat' with_reducible first
    | assumption | apply State.clampAt_keeps | apply State.setFv_keeps | apply Keeps.ite | intro _ | apply Keeps.foldl
    | (apply Keeps.snd; assumption) | (apply Keeps.fst; assumption) | fail_if_no_progress apply Keeps.rest

theorem State.judgeInput_keeps {s₀ s : State} {ch : Nat} (h : Keeps s₀ s) : Keeps s₀ (s.judgeInput ch) := by
  unfold State.judgeInput
  repeat' with_reducible first
    | assumption | apply Keeps.ite | intro _ | apply Keeps.foldl | (apply Keeps.snd; assumption) | (apply Keeps.fst; assumption)
    | fail_if_no_progress apply Keeps.rest

theorem State.compareInputs_keeps {s₀ s : State} (h : Keeps s₀ s) : Keeps s₀ s.compareInputs := by
  unfold State.compareInputs
  repeat' with_reducible first
    | assumption | apply State.judgeInput_keeps | apply Keeps.ite | intro _ | apply Keeps.foldl | (apply Keeps.snd; assumption)
    | (apply Keeps.fst; assumption) | fail_if_no_progress apply Keeps.rest

theorem State.currentsTimed_keeps {s₀ s : State} (h : Keeps s₀ s) : Keeps s₀ s.currentsTimed := by
  unfold State.currentsTimed
  repeat' with_reducible first
    | assumption | apply Keeps.ite | intro _ | apply Keeps.foldl | (apply Keeps.snd; assumption) | (apply Keeps.fst; assumption)
    | fail_if_no_progress apply Keeps.rest

theorem State.inputsFollow_keeps {s₀ s : State} (h : Keeps s₀ s) : Keeps s₀ s.inputsFollow := by
  unfold State.inputsFollow
  repeat' with_reducible first
    | assumption | apply State.currentsTimed_keeps | apply State.compareInputs_keeps

theorem State.outputsTimed_keeps {s₀ s : State} (h : Keeps s₀ s) : Keeps s₀ s.outputsTimed := by
  unfold State.outputsTimed
  repeat' with_reducible first
    | assumption | apply Keeps.ite | intro _ | apply Keeps.foldl | (apply Keeps.snd; assumption) | (apply Keeps.fst; assumption)
    | fail_if_no_progress apply Keeps.rest

theorem State.islandDisarm_keeps {s₀ s : State} (h : Keeps s₀ s) : Keeps s₀ s.islandDisarm := by
  unfold State.islandDisarm
  repeat' with_reducible first
    | assumption | apply State.inputsFollow_keeps | apply State.outputsTimed_keeps | apply Keeps.ite | intro _ | apply Keeps.foldl
    | (apply Keeps.snd; assumption) | (apply Keeps.fst; assumption) | fail_if_no_progress apply Keeps.rest

theorem State.islandArm_keeps {s₀ s : State} (h : Keeps s₀ s) : Keeps s₀ s.islandArm := by
  unfold State.islandArm
  repeat' with_reducible first
    | assumption | apply State.inputsFollow_keeps | apply State.outputsTimed_keeps | apply Keeps.ite | intro _ | apply Keeps.foldl
    | (apply Keeps.snd; assumption) | (apply Keeps.fst; assumption) | fail_if_no_progress apply Keeps.rest

theorem State.setField_keeps {s₀ s : State} {mV : Nat} (h : Keeps s₀ s) : Keeps s₀ (s.setField mV) := by
  unfold State.setField
  repeat' with_reducible first
    | assumption | apply State.islandDisarm_keeps | apply State.inputsFollow_keeps | apply Keeps.ite | intro _ | apply Keeps.foldl
    | (apply Keeps.snd; assumption) | (apply Keeps.fst; assumption) | fail_if_no_progress apply Keeps.rest

theorem State.showRearm_keeps {s₀ s : State} (h : Keeps s₀ s) : Keeps s₀ s.showRearm := by
  unfold State.showRearm
  repeat' with_reducible first
    | assumption | apply State.irqIf_keeps | apply State.setFb_keeps

theorem State.showThr_keeps {s₀ s : State} (h : Keeps s₀ s) : Keeps s₀ s.showThr := by
  unfold State.showThr
  repeat' with_reducible first
    | assumption | apply State.setFb_keeps

theorem State.dioCtrl_keeps {s₀ s : State} {v : Word} (h : Keeps s₀ s) : Keeps s₀ (s.dioCtrl v) := by
  unfold State.dioCtrl
  repeat' with_reducible first
    | assumption | apply State.inputsFollow_keeps | apply State.showThr_keeps | apply State.clampAt_keeps | apply Keeps.ite | intro _
    | apply Keeps.foldl | (apply Keeps.snd; assumption) | (apply Keeps.fst; assumption) | fail_if_no_progress apply Keeps.rest

theorem State.islandTakes_keeps {s₀ s : State} (h : Keeps s₀ s) : Keeps s₀ s.islandTakes := by
  unfold State.islandTakes
  repeat' with_reducible first
    | assumption | apply State.outputsTimed_keeps | apply State.islandArm_keeps | apply Keeps.ite | intro _ | apply Keeps.foldl
    | (apply Keeps.snd; assumption) | (apply Keeps.fst; assumption) | fail_if_no_progress apply Keeps.rest

theorem State.dioCommitted_keeps {s₀ s : State} {old : State} (h : Keeps s₀ s) : Keeps s₀ (s.dioCommitted old) := by
  unfold State.dioCommitted
  repeat' with_reducible first
    | assumption | apply State.inputsFollow_keeps | apply Keeps.ite | intro _ | apply Keeps.foldl | (apply Keeps.snd; assumption)
    | (apply Keeps.fst; assumption) | fail_if_no_progress apply Keeps.rest

theorem State.upFrameSent_keeps {s₀ s : State} {seq rb : Nat} (h : Keeps s₀ s) : Keeps s₀ (s.upFrameSent seq rb).1 := by
  unfold State.upFrameSent
  repeat' with_reducible first
    | assumption | apply Keeps.ite | intro _ | apply Keeps.foldl | (apply Keeps.snd; assumption) | (apply Keeps.fst; assumption)
    | fail_if_no_progress apply Keeps.rest

theorem State.upFrameA_keeps {s₀ s : State} {seq rb : Nat} {edges : List (Nat × Nat)} {lost : Nat}
    (h : Keeps s₀ s) : Keeps s₀ (s.upFrameA seq rb edges lost).1 := by
  unfold State.upFrameA
  repeat' with_reducible first
    | assumption | apply State.inputsFollow_keeps | apply State.irq_keeps | apply State.setFv_keeps | apply State.setFb_keeps
    | apply State.irqIf_keeps | apply State.setStamp_keeps | apply State.satInc_keeps | apply State.showThr_keeps
    | apply State.showRearm_keeps | apply Keeps.ite | intro _ | apply Keeps.foldl | (apply Keeps.snd; assumption)
    | (apply Keeps.fst; assumption) | fail_if_no_progress apply Keeps.rest

theorem State.upFrameSeen_keeps {s₀ s : State} {ok : Bool} {seq : Nat} (h : Keeps s₀ s) : Keeps s₀ (s.upFrameSeen ok seq) := by
  unfold State.upFrameSeen
  repeat' with_reducible first
    | assumption | apply State.satInc_keeps | apply Keeps.ite | intro _ | apply Keeps.foldl | (apply Keeps.snd; assumption)
    | (apply Keeps.fst; assumption) | fail_if_no_progress apply Keeps.rest

theorem State.upFrameBad_keeps {s₀ s : State} (h : Keeps s₀ s) : Keeps s₀ s.upFrameBad := by
  unfold State.upFrameBad
  repeat' with_reducible first
    | assumption | apply State.satInc_keeps | apply Keeps.ite | intro _ | apply Keeps.foldl | (apply Keeps.snd; assumption)
    | (apply Keeps.fst; assumption) | fail_if_no_progress apply Keeps.rest

theorem State.dioStart_keeps {s₀ s : State} {lastEff : Nat} (h : Keeps s₀ s) : Keeps s₀ (s.dioStart lastEff) := by
  unfold State.dioStart
  repeat' with_reducible first
    | assumption | apply State.sourceQuality_keeps | apply State.showThr_keeps | apply State.showRearm_keeps
    | apply State.inputsFollow_keeps | apply State.outputsTimed_keeps | apply Keeps.ite | intro _ | apply Keeps.foldl
    | (apply Keeps.snd; assumption) | (apply Keeps.fst; assumption) | fail_if_no_progress apply Keeps.rest

theorem execDownFrameA_keeps (t : Nat) (ok : Bool) (s : State) : KeepsNext s (execDownFrameA t ok s) := by
  unfold execDownFrameA
  repeat' with_reducible first
    | exact State.at_keeps (Keeps.refl _) | apply KeepsNext.next | assumption | apply State.islandTakes_keeps | apply KeepsNext.ite
    | apply Keeps.ite | intro _ | apply Keeps.foldl | (apply Keeps.snd; assumption) | (apply Keeps.fst; assumption)
    | fail_if_no_progress apply Keeps.rest

theorem execIslandADisarm_keeps (t : Nat) (s : State) : KeepsNext s (execIslandADisarm t s) := by
  unfold execIslandADisarm
  repeat' with_reducible first
    | exact State.at_keeps (Keeps.refl _) | apply KeepsNext.next | assumption | apply State.islandDisarm_keeps | apply KeepsNext.ite
    | apply Keeps.ite | intro _ | apply Keeps.foldl | (apply Keeps.snd; assumption) | (apply Keeps.fst; assumption)
    | fail_if_no_progress apply Keeps.rest

theorem execVfieldWarn_keeps (t mV : Nat) (s : State) : KeepsNext s (execVfieldWarn t mV s) := by
  unfold execVfieldWarn
  repeat' with_reducible first
    | exact State.at_keeps (Keeps.refl _) | apply KeepsNext.next | assumption | apply State.setField_keeps

theorem execVfieldOff_keeps (t mV : Nat) (s : State) : KeepsNext s (execVfieldOff t mV s) := by
  unfold execVfieldOff
  repeat' with_reducible first
    | exact State.at_keeps (Keeps.refl _) | apply KeepsNext.next | assumption | apply State.setField_keeps

theorem execVfieldRise_keeps (t mV : Nat) (s : State) : KeepsNext s (execVfieldRise t mV s) := by
  unfold execVfieldRise
  repeat' with_reducible first
    | exact State.at_keeps (Keeps.refl _) | apply KeepsNext.next | assumption | apply State.setField_keeps

theorem execVf18_keeps (t mV : Nat) (s : State) : KeepsNext s (execVf18 t mV s) := by
  unfold execVf18
  repeat' with_reducible first
    | exact State.at_keeps (Keeps.refl _) | apply KeepsNext.next | assumption | apply State.setField_keeps
    | apply State.islandArm_keeps | apply KeepsNext.ite | apply Keeps.ite | intro _ | apply Keeps.foldl
    | (apply Keeps.snd; assumption) | (apply Keeps.fst; assumption) | fail_if_no_progress apply Keeps.rest | apply Keeps.idOf
    | extract_lets | split

theorem execOutputTrip_keeps (t : Nat) (line : Fin 8) (s : State) : KeepsNext s (execOutputTrip t line s) := by
  unfold execOutputTrip
  repeat' with_reducible first
    | exact State.at_keeps (Keeps.refl _) | apply KeepsNext.next | assumption | apply State.outputsTimed_keeps | apply KeepsNext.ite
    | apply Keeps.ite | intro _ | apply Keeps.foldl | (apply Keeps.snd; assumption) | (apply Keeps.fst; assumption)
    | fail_if_no_progress apply Keeps.rest

theorem execIslandSelfCheckFail_keeps (t : Nat) (s : State) : KeepsNext s (execIslandSelfCheckFail t s) := by
  unfold execIslandSelfCheckFail
  repeat' with_reducible first
    | exact State.at_keeps (Keeps.refl _) | apply KeepsNext.next | assumption | apply State.islandDisarm_keeps | apply KeepsNext.ite
    | apply Keeps.ite | intro _ | apply Keeps.foldl | (apply Keeps.snd; assumption) | (apply Keeps.fst; assumption)
    | fail_if_no_progress apply Keeps.rest

theorem execDiInputChange_keeps (t : Nat) (ch : Fin 16) (mV rise fall : Int) (s : State) :
    KeepsNext s (execDiInputChange t ch mV rise fall s) := by
  unfold execDiInputChange
  repeat' with_reducible first
    | exact State.at_keeps (Keeps.refl _) | apply KeepsNext.next | assumption | apply State.inputsFollow_keeps | apply KeepsNext.ite
    | apply Keeps.ite | intro _ | apply Keeps.foldl | (apply Keeps.snd; assumption) | (apply Keeps.fst; assumption)
    | fail_if_no_progress apply Keeps.rest

theorem execDebouncedEdge_keeps (t : Nat) (ch : Fin 16) (s : State) : KeepsNext s (execDebouncedEdge t ch s) := by
  unfold execDebouncedEdge
  repeat' with_reducible first
    | exact State.at_keeps (Keeps.refl _) | apply KeepsNext.next | assumption | apply KeepsNext.ite | apply Keeps.ite | intro _
    | apply Keeps.foldl | (apply Keeps.snd; assumption) | (apply Keeps.fst; assumption) | fail_if_no_progress apply Keeps.rest

theorem execWireBreak_keeps (t : Nat) (ch : Fin 16) (s : State) : KeepsNext s (execWireBreak t ch s) := by
  unfold execWireBreak
  repeat' with_reducible first
    | exact State.at_keeps (Keeps.refl _) | apply KeepsNext.next | assumption | apply KeepsNext.ite | apply Keeps.ite | intro _
    | apply Keeps.foldl | (apply Keeps.snd; assumption) | (apply Keeps.fst; assumption) | fail_if_no_progress apply Keeps.rest

theorem execLinkALost_keeps (t : Nat) (s : State) : KeepsNext s (execLinkALost t s) := by
  unfold execLinkALost
  repeat' with_reducible first
    | exact State.at_keeps (Keeps.refl _) | apply KeepsNext.next | assumption | apply State.setFv_keeps | apply State.showThr_keeps
    | apply State.showRearm_keeps | apply State.irq_keeps | apply State.sourceQuality_keeps | apply KeepsNext.ite | apply Keeps.ite
    | intro _ | apply Keeps.foldl | (apply Keeps.snd; assumption) | (apply Keeps.fst; assumption)
    | fail_if_no_progress apply Keeps.rest

end Sys2Proof.Machine
end

