-- ==== Sys2Proof/Laws/KeepsLpo.lean ====
section
/-! SUPPORT. What the operations of Machine/Lpo.lean keep (Laws/Keeps.lean). -/

namespace Sys2Proof.Machine

open Sys2Proof

theorem State.setLoop_keeps {s₀ s : State} {ch : Nat} {c : LoopCh} (h : Keeps s₀ s) : Keeps s₀ (s.setLoop ch c) := by
  unfold State.setLoop
  repeat' with_reducible first
    | assumption | apply Keeps.ite | intro _ | apply Keeps.foldl | (apply Keeps.snd; assumption) | (apply Keeps.fst; assumption)
    | fail_if_no_progress apply Keeps.rest

theorem State.loopStep_keeps {s₀ s : State} {ch dt : Nat} (h : Keeps s₀ s) : Keeps s₀ (s.loopStep ch dt) := by
  unfold State.loopStep
  repeat' with_reducible first
    | assumption | apply State.setLoop_keeps | apply State.setFb_keeps | apply State.setFv_keeps

theorem State.loopCeil_keeps {s₀ s : State} {ch dt : Nat} (h : Keeps s₀ s) : Keeps s₀ (s.loopCeil ch dt) := by
  unfold State.loopCeil
  repeat' with_reducible first
    | assumption | apply State.setLoop_keeps | apply State.irqIf_keeps | apply State.setFb_keeps

theorem State.loopRegulate_keeps {s₀ s : State} {ch : Nat} (h : Keeps s₀ s) : Keeps s₀ (s.loopRegulate ch) := by
  unfold State.loopRegulate
  repeat' with_reducible first
    | assumption | apply State.failsUntil_keeps | apply State.setLoop_keeps

theorem State.clrComp_keeps {s₀ s : State} {ch : Nat} (h : Keeps s₀ s) : Keeps s₀ (s.clrComp ch) := by
  unfold State.clrComp
  repeat' with_reducible first
    | assumption | apply State.setFv_keeps | apply State.setLoop_keeps

theorem State.loopSet_keeps {s₀ s : State} {ch : Nat} {v : Word} (h : Keeps s₀ s) : Keeps s₀ (s.loopSet ch v) := by
  unfold State.loopSet
  repeat' with_reducible first
    | assumption | apply State.clampAt_keeps | apply State.setReg_keeps | apply State.setLoop_keeps | apply Keeps.ite | intro _

theorem State.fbeLoop_keeps {s₀ s : State} {ch : Nat} {v : Word} (h : Keeps s₀ s) : Keeps s₀ (s.fbeLoop ch v) := by
  unfold State.fbeLoop
  repeat' with_reducible first
    | assumption | apply State.setLoop_keeps | apply Keeps.ite | intro _

theorem State.islandBTakes_keeps {s₀ s : State} (h : Keeps s₀ s) : Keeps s₀ s.islandBTakes := by
  unfold State.islandBTakes
  repeat' with_reducible first
    | assumption | apply State.setLoop_keeps | apply Keeps.ite | intro _ | apply Keeps.foldl | (apply Keeps.snd; assumption)
    | (apply Keeps.fst; assumption) | fail_if_no_progress apply Keeps.rest

theorem State.islandSupply_keeps {s₀ s : State} {mV : Nat} {term : Bool} (h : Keeps s₀ s) : Keeps s₀ (s.islandSupply mV term) := by
  unfold State.islandSupply
  repeat' with_reducible first
    | assumption | apply Keeps.ite | intro _ | apply Keeps.foldl | (apply Keeps.snd; assumption) | (apply Keeps.fst; assumption)
    | fail_if_no_progress apply Keeps.rest

theorem State.carriers_keeps {s₀ s : State} {bits : Nat} (h : Keeps s₀ s) : Keeps s₀ (s.carriers bits) := by
  unfold State.carriers
  repeat' with_reducible first
    | assumption | apply State.setFb_keeps | apply State.setLoop_keeps | apply State.wakeSource_keeps | apply Keeps.ite | intro _
    | apply Keeps.foldl

theorem State.txFail_keeps {s₀ s : State} {ch : Nat} (h : Keeps s₀ s) : Keeps s₀ (s.txFail ch) := by
  unfold State.txFail
  repeat' with_reducible first
    | assumption | apply State.irq_keeps | apply State.setFv_keeps | apply State.setLoop_keeps | apply Keeps.ite | intro _

theorem State.setPageBytes_keeps {s₀ s : State} {b off : Nat} {l : List Byte} (h : Keeps s₀ s) : Keeps s₀ (s.setPageBytes b off l) := by
  unfold State.setPageBytes
  repeat' with_reducible first
    | assumption | apply State.setReg_keeps | apply Keeps.ite | intro _ | apply Keeps.foldl

theorem State.txGo_keeps {s₀ s : State} {ch : Nat} (h : Keeps s₀ s) : Keeps s₀ (s.txGo ch) := by
  unfold State.txGo
  repeat' with_reducible first
    | assumption | apply State.clampAt_keeps | apply State.setFv_keeps | apply Keeps.ite | intro _

theorem State.loopCtrl_keeps {s₀ s : State} {ch : Nat} {v : Word} (h : Keeps s₀ s) : Keeps s₀ (s.loopCtrl ch v) := by
  unfold State.loopCtrl
  repeat' with_reducible first
    | assumption | apply State.clrComp_keeps | apply State.txFail_keeps | apply State.txGo_keeps | apply State.setFv_keeps
    | apply Keeps.ite | intro _

theorem State.loopCommitted_keeps {s₀ s : State} {old : State} {ch : Nat} (h : Keeps s₀ s) : Keeps s₀ (s.loopCommitted old ch) := by
  unfold State.loopCommitted
  repeat' with_reducible first
    | assumption | apply State.txFail_keeps | apply State.setFv_keeps | apply State.islandSupply_keeps | apply Keeps.ite | intro _

theorem State.lpoClr_keeps {s₀ s : State} (h : Keeps s₀ s) : Keeps s₀ s.lpoClr := by
  unfold State.lpoClr
  repeat' with_reducible first
    | assumption | apply State.setFv_keeps | apply Keeps.ite | intro _ | apply Keeps.foldl

theorem State.lpoStart_keeps {s₀ s : State} (h : Keeps s₀ s) : Keeps s₀ s.lpoStart := by
  unfold State.lpoStart
  repeat' with_reducible first
    | assumption | apply State.setLoop_keeps | apply State.setPageBytes_keeps | apply Keeps.ite | intro _ | apply Keeps.foldl
    | (apply Keeps.snd; assumption) | (apply Keeps.fst; assumption) | fail_if_no_progress apply Keeps.rest

theorem execRegulationStep_keeps (t : Nat) (s : State) : KeepsNext s (execRegulationStep t s) := by
  unfold execRegulationStep
  repeat' with_reducible first
    | exact State.at_keeps (Keeps.refl _) | apply KeepsNext.next | assumption | apply State.loopRegulate_keeps
    | apply State.loopCeil_keeps | apply State.loopStep_keeps | apply State.irqIf_keeps | apply State.setFb_keeps
    | apply KeepsNext.ite | apply Keeps.ite | intro _ | apply Keeps.foldl | (apply Keeps.snd; assumption)
    | (apply Keeps.fst; assumption) | fail_if_no_progress apply Keeps.rest

theorem execComplianceSet_keeps (t : Nat) (ch : Fin 4) (s : State) : KeepsNext s (execComplianceSet t ch s) := by
  unfold execComplianceSet
  repeat' with_reducible first
    | exact State.at_keeps (Keeps.refl _) | apply KeepsNext.next | assumption | apply State.irq_keeps | apply State.setFv_keeps
    | apply KeepsNext.ite | apply Keeps.ite | intro _ | apply Keeps.foldl | fail_if_no_progress apply Keeps.rest | apply Keeps.idOf
    | extract_lets | split

theorem execComplianceClear_keeps (t : Nat) (ch : Fin 4) (s : State) : KeepsNext s (execComplianceClear t ch s) := by
  unfold execComplianceClear
  repeat' with_reducible first
    | exact State.at_keeps (Keeps.refl _) | apply KeepsNext.next | assumption | apply State.setFv_keeps | apply KeepsNext.ite
    | apply Keeps.ite | intro _ | apply Keeps.foldl | fail_if_no_progress apply Keeps.rest | apply Keeps.idOf | extract_lets | split

theorem execDownFrameB_keeps (t : Nat) (ok : Bool) (s : State) : KeepsNext s (execDownFrameB t ok s) := by
  unfold execDownFrameB
  repeat' with_reducible first
    | exact State.at_keeps (Keeps.refl _) | apply KeepsNext.next | assumption | apply State.islandBTakes_keeps | apply KeepsNext.ite
    | apply Keeps.ite | intro _ | apply Keeps.foldl | (apply Keeps.snd; assumption) | (apply Keeps.fst; assumption)
    | fail_if_no_progress apply Keeps.rest

theorem execIslandBFail_keeps (t : Nat) (s : State) : KeepsNext s (execIslandBFail t s) := by
  unfold execIslandBFail
  repeat' with_reducible first
    | exact State.at_keeps (Keeps.refl _) | apply KeepsNext.next | assumption | apply State.loopStep_keeps | apply KeepsNext.ite
    | apply Keeps.ite | intro _ | apply Keeps.foldl | (apply Keeps.snd; assumption) | (apply Keeps.fst; assumption)
    | fail_if_no_progress apply Keeps.rest

theorem execLoopPowerChange_keeps (t mV : Nat) (carries : Bool) (s : State) : KeepsNext s (execLoopPowerChange t mV carries s) := by
  unfold execLoopPowerChange
  repeat' with_reducible first
    | exact State.at_keeps (Keeps.refl _) | apply KeepsNext.next | assumption | apply State.islandSupply_keeps
    | apply State.loopRegulate_keeps | apply KeepsNext.ite | apply Keeps.ite | intro _ | apply Keeps.foldl

theorem execUpFrameB_keeps (t : Nat) (ok : Bool) (seq carrier : Nat) (temp : Q) (rb hr : List Q) (s : State) :
    KeepsNext s (execUpFrameB t ok seq carrier temp rb hr s) := by
  unfold execUpFrameB
  repeat' with_reducible first
    | exact State.at_keeps (Keeps.refl _) | apply KeepsNext.next | assumption | apply State.satInc_keeps
    | apply State.failsUntil_keeps | apply State.irq_keeps | apply State.setFv_keeps | apply State.irqIf_keeps
    | apply State.setFb_keeps | apply State.carriers_keeps | apply KeepsNext.ite | apply Keeps.ite | intro _ | apply Keeps.foldl
    | (apply Keeps.snd; assumption) | (apply Keeps.fst; assumption) | fail_if_no_progress apply Keeps.rest

theorem execLinkBLost_keeps (t : Nat) (s : State) : KeepsNext s (execLinkBLost t s) := by
  unfold execLinkBLost
  repeat' with_reducible first
    | exact State.at_keeps (Keeps.refl _) | apply KeepsNext.next | assumption | apply State.irq_keeps | apply State.setFv_keeps
    | apply State.loopStep_keeps | apply State.txFail_keeps | apply State.sourceQuality_keeps | apply KeepsNext.ite | apply Keeps.ite
    | intro _ | apply Keeps.foldl | (apply Keeps.snd; assumption) | (apply Keeps.fst; assumption)
    | fail_if_no_progress apply Keeps.rest

theorem execFskTxStart_keeps (t : Nat) (ch : Fin 4) (s : State) : KeepsNext s (execFskTxStart t ch s) := by
  unfold execFskTxStart
  repeat' with_reducible first
    | exact State.at_keeps (Keeps.refl _) | apply KeepsNext.next | assumption | apply State.setLoop_keeps | apply KeepsNext.ite
    | apply Keeps.ite | intro _

theorem execTxDone_keeps (t : Nat) (ch : Fin 4) (s : State) : KeepsNext s (execTxDone t ch s) := by
  unfold execTxDone
  repeat' with_reducible first
    | exact State.at_keeps (Keeps.refl _) | apply KeepsNext.next | assumption | apply State.irq_keeps | apply State.setFv_keeps
    | apply State.setLoop_keeps | apply KeepsNext.ite | apply Keeps.ite | intro _

theorem execRxFrame_keeps (t : Nat) (ch : Fin 4) (stamp : Nat) (chars : List (Byte × Bool)) (s : State) :
    KeepsNext s (execRxFrame t ch stamp chars s) := by
  unfold execRxFrame
  repeat' with_reducible first
    | exact State.at_keeps (Keeps.refl _) | apply KeepsNext.next | assumption | apply State.setLoop_keeps | apply State.setFv_keeps
    | apply State.wakeSource_keeps | apply State.satInc_keeps | apply State.setStamp_keeps | apply State.setPageBytes_keeps
    | apply State.irqIf_keeps | apply KeepsNext.ite | apply Keeps.ite | intro _

end Sys2Proof.Machine
end

