-- ==== Sys2Proof/Laws/KeepsCan.lean ====
section
/-! SUPPORT. What the operations of Machine/Can.lean keep (Laws/Keeps.lean). -/

namespace Sys2Proof.Machine

open Sys2Proof

theorem State.setPort_keeps {s₀ s : State} {p : Nat} {x : CanPort} (h : Keeps s₀ s) : Keeps s₀ (s.setPort p x) := by
  unfold State.setPort
  repeat' with_reducible first
    | assumption | apply Keeps.ite | intro _ | apply Keeps.foldl | (apply Keeps.snd; assumption) | (apply Keeps.fst; assumption)
    | fail_if_no_progress apply Keeps.rest

theorem State.setObj_keeps {s₀ s : State} {p o : Nat} {f : Field} {v : Nat} (h : Keeps s₀ s) : Keeps s₀ (s.setObj p o f v) := by
  unfold State.setObj
  repeat' with_reducible first
    | assumption | apply State.setFv_keeps

theorem State.objEvent_keeps {s₀ s : State} {p o n : Nat} (h : Keeps s₀ s) : Keeps s₀ (s.objEvent p o n) := by
  unfold State.objEvent
  repeat' with_reducible first
    | assumption | apply State.irq_keeps | apply State.setReg_keeps | apply Keeps.ite | intro _

theorem State.setCanState_keeps {s₀ s : State} {p n : Nat} (h : Keeps s₀ s) : Keeps s₀ (s.setCanState p n) := by
  unfold State.setCanState
  repeat' with_reducible first
    | assumption | apply State.setFv_keeps

theorem State.canShow_keeps {s₀ s : State} {p : Nat} (h : Keeps s₀ s) : Keeps s₀ (s.canShow p) := by
  unfold State.canShow
  repeat' with_reducible first
    | assumption | apply State.setFv_keeps | apply State.setFb_keeps | apply State.irqIf_keeps | apply State.irq_keeps
    | apply State.satInc_keeps | apply State.setCanState_keeps | apply Keeps.ite | intro _

theorem State.canGood_keeps {s₀ s : State} {p : Nat} {tx : Bool} (h : Keeps s₀ s) : Keeps s₀ (s.canGood p tx) := by
  unfold State.canGood
  repeat' with_reducible first
    | assumption | apply State.canShow_keeps | apply State.setPort_keeps | apply State.draw_keeps | apply Keeps.ite | intro _

theorem State.setTxBuf_keeps {s₀ s : State} {p o : Nat} {x : TxBuf} (h : Keeps s₀ s) : Keeps s₀ (s.setTxBuf p o x) := by
  unfold State.setTxBuf
  repeat' with_reducible first
    | assumption | apply State.setPort_keeps

theorem State.canWakeUp_keeps {s₀ s : State} (h : Keeps s₀ s) : Keeps s₀ s.canWakeUp := by
  unfold State.canWakeUp
  repeat' with_reducible first
    | assumption | apply State.setFv_keeps | apply State.setCanState_keeps | apply Keeps.ite | intro _

theorem State.sendWakes_keeps {s₀ s : State} {p : Nat} (h : Keeps s₀ s) : Keeps s₀ (s.sendWakes p) := by
  unfold State.sendWakes
  repeat' with_reducible first
    | assumption | apply State.canWakeUp_keeps | apply Keeps.ite | intro _

theorem State.queueFrame_keeps {s₀ s : State} {p o : Nat} {f : CanFrame} (h : Keeps s₀ s) : Keeps s₀ (s.queueFrame p o f) := by
  unfold State.queueFrame
  repeat' with_reducible first
    | assumption | apply State.setTxBuf_keeps | apply State.setObj_keeps | apply State.sendWakes_keeps | apply Keeps.ite | intro _

theorem State.cancelled_keeps {s₀ s : State} {p o : Nat} (h : Keeps s₀ s) : Keeps s₀ (s.cancelled p o) := by
  unfold State.cancelled
  repeat' with_reducible first
    | assumption | apply State.setObj_keeps | apply State.setTxBuf_keeps

theorem State.cancelObj_keeps {s₀ s : State} {p o : Nat} (h : Keeps s₀ s) : Keeps s₀ (s.cancelObj p o) := by
  unfold State.cancelObj
  repeat' with_reducible first
    | assumption | apply State.cancelled_keeps | apply State.setObj_keeps | apply State.setTxBuf_keeps | apply Keeps.ite | intro _
    | apply Keeps.foldl | (apply Keeps.snd; assumption) | (apply Keeps.fst; assumption) | fail_if_no_progress apply Keeps.rest
    | apply Keeps.idOf | extract_lets | split

theorem State.releaseObj_keeps {s₀ s : State} {p o : Nat} (h : Keeps s₀ s) : Keeps s₀ (s.releaseObj p o) := by
  unfold State.releaseObj
  repeat' with_reducible first
    | assumption | apply State.setObj_keeps | apply Keeps.ite | intro _

theorem State.objCtrl_keeps {s₀ s : State} {p o : Nat} {v : Word} (h : Keeps s₀ s) : Keeps s₀ (s.objCtrl p o v) := by
  unfold State.objCtrl
  repeat' with_reducible first
    | assumption | apply State.queueFrame_keeps | apply State.clampAt_keeps | apply State.cancelObj_keeps
    | apply State.releaseObj_keeps | apply State.setObj_keeps | apply Keeps.ite | intro _

theorem State.canSleep_keeps {s₀ s : State} (h : Keeps s₀ s) : Keeps s₀ s.canSleep := by
  unfold State.canSleep
  repeat' with_reducible first
    | assumption | apply State.cancelled_keeps | apply State.setFv_keeps | apply State.setCanState_keeps | apply Keeps.ite | intro _
    | apply Keeps.foldl

theorem State.objChanged_keeps {s₀ s : State} {old : State} {p o : Nat} (h : Keeps s₀ s) : Keeps s₀ (s.objChanged old p o) := by
  unfold State.objChanged
  repeat' with_reducible first
    | assumption | apply State.cancelObj_keeps | apply State.setObj_keeps | apply State.setPort_keeps | apply Keeps.ite | intro _

theorem State.setHeader_keeps {s₀ s : State} {p o : Nat} {l : List Word} (h : Keeps s₀ s) : Keeps s₀ (s.setHeader p o l) := by
  unfold State.setHeader
  repeat' with_reducible first
    | assumption | apply State.setReg_keeps | apply Keeps.ite | intro _ | apply Keeps.foldl

theorem State.objCommitted_keeps {s₀ s : State} {p o : Nat} {old : State} (h : Keeps s₀ s) : Keeps s₀ (s.objCommitted p o old) := by
  unfold State.objCommitted
  repeat' with_reducible first
    | assumption | apply State.setPort_keeps | apply State.cancelObj_keeps | apply State.setHeader_keeps
    | apply State.objChanged_keeps | apply Keeps.ite | intro _

theorem State.objFreed_keeps {s₀ s : State} {p o : Nat} (h : Keeps s₀ s) : Keeps s₀ (s.objFreed p o) := by
  unfold State.objFreed
  repeat' with_reducible first
    | assumption | apply State.setTxBuf_keeps | apply State.setPort_keeps | apply State.objChanged_keeps | apply State.setHeader_keeps
    | apply State.setObj_keeps | apply Keeps.ite | intro _ | apply Keeps.foldl | (apply Keeps.snd; assumption)
    | (apply Keeps.fst; assumption) | fail_if_no_progress apply Keeps.rest | apply Keeps.idOf | extract_lets | split

theorem State.canTxEnded_keeps {s₀ s : State} {p o : Nat} (h : Keeps s₀ s) : Keeps s₀ (s.canTxEnded p o) := by
  unfold State.canTxEnded
  repeat' with_reducible first
    | assumption | apply State.setPort_keeps | apply State.objFreed_keeps | apply State.canSleep_keeps | apply Keeps.ite | intro _

theorem State.objError_keeps {s₀ s : State} {p o : Nat} {collision : Bool} (h : Keeps s₀ s) : Keeps s₀ (s.objError p o collision) := by
  unfold State.objError
  repeat' with_reducible first
    | assumption | apply State.setObj_keeps | apply State.irq_keeps | apply State.setFv_keeps | apply State.satInc_keeps
    | apply State.setTxBuf_keeps | apply State.objEvent_keeps | apply State.canTxEnded_keeps | apply Keeps.ite | intro _

theorem State.canErr_keeps {s₀ s : State} {p lec : Nat} {dphase : Bool} {field : Nat} {free : Bool} {extra : Nat}
    (h : Keeps s₀ s) : Keeps s₀ (s.canErr p lec dphase field free extra) := by
  unfold State.canErr
  extract_lets b s1 src s2 tx x s3
  have h2 : Keeps s₀ s2 := State.irq_keeps (State.setPort_keeps (State.setFv_keeps (State.setFb_keeps (State.setFv_keeps h))))
  clear_value s2
  have h3 : Keeps s₀ s3 := Keeps.ite (fun _ => State.setCanState_keeps h2) (fun _ => State.canShow_keeps (State.setPort_keeps h2))
  clear_value s3 tx
  cases tx
  · exact h3
  · exact State.objError_keeps h3

theorem State.storeFrame_keeps {s₀ s : State} {p o stamp : Nat} {f : CanFrame}
    (h : Keeps s₀ s) : Keeps s₀ (s.storeFrame p o stamp f) := by
  unfold State.storeFrame
  repeat' with_reducible first
    | assumption | apply State.setObj_keeps | apply State.setPageBytes_keeps | apply State.setReg_keeps | apply State.setStamp_keeps
    | apply State.objEvent_keeps | apply Keeps.ite | intro _

theorem State.pmbTake_keeps {s₀ s : State} {p n stamp : Nat} {f : CanFrame} (h : Keeps s₀ s) : Keeps s₀ (s.pmbTake p n stamp f) := by
  unfold State.pmbTake
  repeat' with_reducible first
    | assumption | apply State.satInc_keeps | apply State.setPageBytes_keeps | apply State.setReg_keeps | apply State.setFb_keeps
    | apply State.setFv_keeps | apply State.setStamp_keeps | apply State.wrapInc_keeps | apply State.irq_keeps | apply Keeps.ite
    | intro _

theorem State.replyOk_keeps {s₀ s : State} {p robj stamp : Nat} (h : Keeps s₀ s) : Keeps s₀ (s.replyOk p robj stamp) := by
  unfold State.replyOk
  repeat' with_reducible first
    | assumption | apply State.objEvent_keeps | apply State.setObj_keeps | apply State.setPort_keeps | apply Keeps.ite | intro _
    | apply Keeps.foldl

theorem State.canReceive_keeps {s₀ s : State} {p stamp : Nat} {f : CanFrame} (h : Keeps s₀ s) : Keeps s₀ (s.canReceive p stamp f).1 := by
  unfold State.canReceive
  repeat' with_reducible first
    | assumption | apply State.setCanState_keeps | apply State.setPort_keeps | apply State.canErr_keeps | apply State.canGood_keeps
    | apply State.pmbTake_keeps | apply State.setObj_keeps | apply State.replyOk_keeps | apply State.storeFrame_keeps
    | apply State.satInc_keeps | apply Keeps.ite | intro _ | apply Keeps.foldl | (apply Keeps.snd; assumption)
    | (apply Keeps.fst; assumption) | fail_if_no_progress apply Keeps.rest | apply Keeps.idOf | extract_lets | split

theorem State.pmbRelease_keeps {s₀ s : State} {p n : Nat} (h : Keeps s₀ s) : Keeps s₀ (s.pmbRelease p n) := by
  unfold State.pmbRelease
  repeat' with_reducible first
    | assumption | apply State.setFv_keeps

theorem State.timingApply_keeps {s₀ s : State} {p : Nat} (h : Keeps s₀ s) : Keeps s₀ (s.timingApply p) := by
  unfold State.timingApply
  repeat' with_reducible first
    | assumption | apply State.setPort_keeps | apply State.setCanState_keeps | apply Keeps.ite | intro _

theorem State.canWoken_keeps {s₀ s : State} {cause : Nat} (h : Keeps s₀ s) : Keeps s₀ (s.canWoken cause) := by
  unfold State.canWoken
  repeat' with_reducible first
    | assumption | apply State.irq_keeps | apply State.setFv_keeps | apply State.wakeSource_keeps | apply State.canWakeUp_keeps
    | apply Keeps.ite | intro _

theorem State.canCtrl_keeps {s₀ s : State} {p : Nat} {v : Word} {before : Bool} (h : Keeps s₀ s) : Keeps s₀ (s.canCtrl p v before) := by
  unfold State.canCtrl
  repeat' with_reducible first
    | assumption | apply State.setCanState_keeps | apply State.clampAt_keeps | apply State.setFv_keeps | apply State.canSleep_keeps
    | apply State.canWakeUp_keeps | apply Keeps.ite | intro _

theorem State.alhHeaders_keeps {s₀ s : State} (h : Keeps s₀ s) : Keeps s₀ s.alhHeaders := by
  unfold State.alhHeaders
  repeat' with_reducible first
    | assumption | apply State.setReg_keeps | apply State.setObj_keeps | apply Keeps.ite | intro _ | apply Keeps.foldl

theorem State.alhObjects_keeps {s₀ s : State} (h : Keeps s₀ s) : Keeps s₀ s.alhObjects := by
  unfold State.alhObjects
  repeat' with_reducible first
    | assumption | apply State.objCommitted_keeps | apply State.alhHeaders_keeps | apply Keeps.ite | intro _ | apply Keeps.foldl

theorem State.canStart_keeps {s₀ s : State} {p : Nat} {off : Bool} (h : Keeps s₀ s) : Keeps s₀ (s.canStart p off) := by
  unfold State.canStart
  repeat' with_reducible first
    | assumption | apply State.setPort_keeps | apply State.setObj_keeps | apply State.setFb_keeps | apply State.setCanState_keeps
    | apply Keeps.ite | intro _ | apply Keeps.foldl

theorem execCanTxStart_keeps (t : Nat) (port : Fin 2) (tdcv : Nat) (s : State) : KeepsNext s (execCanTxStart t port tdcv s) := by
  unfold execCanTxStart
  repeat' with_reducible first
    | exact State.at_keeps (Keeps.refl _) | apply KeepsNext.next | assumption | apply State.setPort_keeps | apply State.setObj_keeps
    | apply State.setTxBuf_keeps | apply State.setFv_keeps | apply KeepsNext.ite | apply Keeps.ite | intro _ | apply Keeps.foldl
    | fail_if_no_progress apply Keeps.rest | apply Keeps.idOf | extract_lets | split

theorem execCanTxSuccess_keeps (t : Nat) (port : Fin 2) (s : State) : KeepsNext s (execCanTxSuccess t port s) := by
  unfold execCanTxSuccess
  repeat' with_reducible first
    | exact State.at_keeps (Keeps.refl _) | apply KeepsNext.next | assumption | apply State.setStamp_keeps | apply State.setObj_keeps
    | apply State.canGood_keeps | apply State.objEvent_keeps | apply State.setPort_keeps | apply State.canTxEnded_keeps
    | apply KeepsNext.ite | apply Keeps.ite | intro _ | apply Keeps.foldl | fail_if_no_progress apply Keeps.rest | apply Keeps.idOf
    | extract_lets | split

theorem execArbitrationLost_keeps (t : Nat) (port : Fin 2) (s : State) : KeepsNext s (execArbitrationLost t port s) := by
  unfold execArbitrationLost
  repeat' with_reducible first
    | exact State.at_keeps (Keeps.refl _) | apply KeepsNext.next | assumption | apply State.setTxBuf_keeps
    | apply State.cancelled_keeps | apply State.setObj_keeps | apply State.canTxEnded_keeps | apply KeepsNext.ite | apply Keeps.ite
    | intro _ | apply Keeps.foldl | fail_if_no_progress apply Keeps.rest | apply Keeps.idOf | extract_lets | split

theorem execCanError_keeps (t : Nat) (port : Fin 2) (lec : Nat) (dphase : Bool) (field : Nat) (free : Bool) (extra : Nat) (s : State) :
    KeepsNext s (execCanError t port lec dphase field free extra s) := by
  unfold execCanError
  repeat' with_reducible first
    | exact State.at_keeps (Keeps.refl _) | apply KeepsNext.next | assumption | apply State.canErr_keeps | apply KeepsNext.ite
    | apply Keeps.ite | intro _

theorem execDominantTimeout_keeps (t : Nat) (port : Fin 2) (s : State) : KeepsNext s (execDominantTimeout t port s) := by
  unfold execDominantTimeout
  repeat' with_reducible first
    | exact State.at_keeps (Keeps.refl _) | apply KeepsNext.next | assumption | apply State.canErr_keeps | apply KeepsNext.ite
    | apply Keeps.ite | intro _

theorem execRecoveryComplete_keeps (t : Nat) (port : Fin 2) (s : State) : KeepsNext s (execRecoveryComplete t port s) := by
  unfold execRecoveryComplete
  repeat' with_reducible first
    | exact State.at_keeps (Keeps.refl _) | apply KeepsNext.next | assumption | apply State.canShow_keeps | apply State.setPort_keeps
    | apply State.setCanState_keeps | apply KeepsNext.ite | apply Keeps.ite | intro _

theorem execReplyTimeout_keeps (t : Nat) (port : Fin 2) (object : Fin 128) (s : State) :
    KeepsNext s (execReplyTimeout t port object s) := by
  unfold execReplyTimeout
  repeat' with_reducible first
    | exact State.at_keeps (Keeps.refl _) | apply KeepsNext.next | assumption | apply State.objEvent_keeps | apply State.setObj_keeps
    | apply State.setPort_keeps | apply KeepsNext.ite | apply Keeps.ite | intro _ | apply Keeps.foldl
    | fail_if_no_progress apply Keeps.rest | apply Keeps.idOf | extract_lets | split

theorem execTimingApply_keeps (t : Nat) (port : Fin 2) (s : State) : KeepsNext s (execTimingApply t port s) := by
  unfold execTimingApply
  repeat' with_reducible first
    | exact State.at_keeps (Keeps.refl _) | apply KeepsNext.next | assumption | apply State.timingApply_keeps | apply KeepsNext.ite
    | apply Keeps.ite | intro _

theorem execIntegrationComplete_keeps (t : Nat) (port : Fin 2) (s : State) : KeepsNext s (execIntegrationComplete t port s) := by
  unfold execIntegrationComplete
  repeat' with_reducible first
    | exact State.at_keeps (Keeps.refl _) | apply KeepsNext.next | assumption | apply State.canShow_keeps
    | apply State.setCanState_keeps | apply KeepsNext.ite | apply Keeps.ite | intro _

theorem execCanWake_keeps (t : Nat) (sign : WakeSign) (s : State) : KeepsNext s (execCanWake t sign s) := by
  unfold execCanWake
  repeat' with_reducible first
    | exact State.at_keeps (Keeps.refl _) | apply KeepsNext.next | assumption | apply State.canWoken_keeps | apply State.setFv_keeps
    | apply KeepsNext.ite | apply Keeps.ite | intro _ | apply Keeps.foldl | fail_if_no_progress apply Keeps.rest | apply Keeps.idOf
    | extract_lets | split

end Sys2Proof.Machine
end

