-- ==== Sys2Proof/Laws/KeepsFbeQueue.lean ====
section
/-! SUPPORT. What the operations of Machine/FbeQueue.lean keep (Laws/Keeps.lean). -/

namespace Sys2Proof.Machine

open Sys2Proof

theorem State.setTask_keeps {s₀ s : State} {n : Nat} {x : Task} (h : Keeps s₀ s) : Keeps s₀ (s.setTask n x) := by
  unfold State.setTask
  repeat' with_reducible first
    | assumption | apply Keeps.ite | intro _ | apply Keeps.foldl | (apply Keeps.snd; assumption) | (apply Keeps.fst; assumption)
    | fail_if_no_progress apply Keeps.rest

theorem State.taskSeen_keeps {s₀ s : State} {n : Nat} (h : Keeps s₀ s) : Keeps s₀ (s.taskSeen n) := by
  unfold State.taskSeen
  repeat' with_reducible first
    | assumption | apply State.failsUntil_keeps

theorem State.fbeTrigger_keeps {s₀ s : State} {n stamp : Nat} (h : Keeps s₀ s) : Keeps s₀ (s.fbeTrigger n stamp) := by
  unfold State.fbeTrigger
  repeat' with_reducible first
    | assumption | apply State.irq_keeps | apply State.satInc_keeps | apply State.setFv_keeps | apply State.setTask_keeps
    | apply Keeps.ite | intro _

end Sys2Proof.Machine
end

