-- ==== Sys2Proof/Laws/KeepsAlhView.lean ====
section
/-! SUPPORT. What the operations of Machine/AlhView.lean keep (Laws/Keeps.lean). -/

namespace Sys2Proof.Machine

open Sys2Proof

theorem State.setGroup_keeps {s₀ s : State} {g : Nat} {x : Group} (h : Keeps s₀ s) : Keeps s₀ (s.setGroup g x) := by
  unfold State.setGroup
  repeat' with_reducible first
    | assumption | apply Keeps.ite | intro _ | apply Keeps.foldl | (apply Keeps.snd; assumption) | (apply Keeps.fst; assumption)
    | fail_if_no_progress apply Keeps.rest

end Sys2Proof.Machine
end

