-- ==== Sys2Proof/Laws/KeepsSto.lean ====
section
/-! SUPPORT. What the operations of Machine/Sto.lean keep (Laws/Keeps.lean). -/

namespace Sys2Proof.Machine

open Sys2Proof

theorem State.scrubSet_keeps {s₀ s : State} {on : Bool} (h : Keeps s₀ s) : Keeps s₀ (s.scrubSet on) := by
  unfold State.scrubSet
  repeat' with_reducible first
    | assumption | apply State.setFb_keeps | apply Keeps.ite | intro _ | apply Keeps.foldl | (apply Keeps.snd; assumption)
    | (apply Keeps.fst; assumption) | fail_if_no_progress apply Keeps.rest

theorem State.stoCtrl_keeps {s₀ s : State} {v : Word} (h : Keeps s₀ s) : Keeps s₀ (s.stoCtrl v) := by
  unfold State.stoCtrl
  repeat' with_reducible first
    | assumption | apply State.setFv_keeps | apply State.setReg_keeps | apply State.scrubSet_keeps | apply Keeps.ite | intro _

theorem State.spareShow_keeps {s₀ s : State} (h : Keeps s₀ s) : Keeps s₀ s.spareShow := by
  unfold State.spareShow
  repeat' with_reducible first
    | assumption | apply State.setFv_keeps | apply State.irqIf_keeps | apply State.setFb_keeps

theorem State.stoSweep_keeps {s₀ s : State} {len conflict shelf : Nat} (h : Keeps s₀ s) : Keeps s₀ (s.stoSweep len conflict shelf) := by
  unfold State.stoSweep
  repeat' with_reducible first
    | assumption | apply State.setFv_keeps | apply State.sourceWrite_keeps | apply State.sysTrigger_keeps | apply State.irq_keeps
    | apply Keeps.ite | intro _ | apply Keeps.foldl | (apply Keeps.snd; assumption) | (apply Keeps.fst; assumption)
    | fail_if_no_progress apply Keeps.rest

theorem State.stoCopy_keeps {s₀ s : State} {x : Tally} {upto : Nat} (h : Keeps s₀ s) : Keeps s₀ (s.stoCopy x upto) := by
  unfold State.stoCopy
  repeat' with_reducible first
    | assumption | apply State.tallyRefused_keeps | apply State.wrBytes_keeps | apply State.curePoison_keeps
    | apply State.tallyEnds_keeps | apply State.tallyProgress_keeps | apply State.tallyDone_keeps | apply Keeps.ite | intro _
    | apply Keeps.foldl | (apply Keeps.snd; assumption) | (apply Keeps.fst; assumption) | fail_if_no_progress apply Keeps.rest
    | apply Keeps.idOf | extract_lets | split

theorem State.stoFill_keeps {s₀ s : State} {x : Tally} {upto : Nat} (h : Keeps s₀ s) : Keeps s₀ (s.stoFill x upto) := by
  unfold State.stoFill
  repeat' with_reducible first
    | assumption | apply State.tallyRefused_keeps | apply State.wrBytes_keeps | apply State.curePoison_keeps
    | apply State.tallyProgress_keeps | apply State.tallyDone_keeps | apply Keeps.ite | intro _

theorem State.stoVerify_keeps {s₀ s : State} {x : Tally} {upto : Nat} {ecc : EccFinds}
    (h : Keeps s₀ s) : Keeps s₀ (s.stoVerify x upto ecc) := by
  unfold State.stoVerify
  repeat' with_reducible first
    | assumption | apply State.tallyRefused_keeps | apply State.satInc_keeps | apply State.eccFinds_keeps
    | apply State.tallyProgress_keeps | apply State.tallyDone_keeps | apply Keeps.ite | intro _

theorem State.rekeyBegins_keeps {s₀ s : State} (h : Keeps s₀ s) : Keeps s₀ s.rekeyBegins := by
  unfold State.rekeyBegins
  repeat' with_reducible first
    | assumption | apply State.drawNewKey_keeps | apply Keeps.ite | intro _ | apply Keeps.foldl

theorem State.rekeyMoves_keeps {s₀ s : State} {upto : Nat} (h : Keeps s₀ s) : Keeps s₀ (s.rekeyMoves upto) := by
  unfold State.rekeyMoves
  repeat' with_reducible first
    | assumption | apply State.squash_keeps | apply Keeps.ite | intro _ | apply Keeps.foldl | (apply Keeps.snd; assumption)
    | (apply Keeps.fst; assumption) | fail_if_no_progress apply Keeps.rest

theorem State.rekeyDone_keeps {s₀ s : State} (h : Keeps s₀ s) : Keeps s₀ s.rekeyDone := by
  unfold State.rekeyDone
  repeat' with_reducible first
    | assumption | apply Keeps.ite | intro _ | apply Keeps.foldl | (apply Keeps.snd; assumption) | (apply Keeps.fst; assumption)
    | fail_if_no_progress apply Keeps.rest

theorem State.rekeyStops_keeps {s₀ s : State} (h : Keeps s₀ s) : Keeps s₀ s.rekeyStops := by
  unfold State.rekeyStops
  repeat' with_reducible first
    | assumption | apply State.setFv_keeps | apply State.rekeyBegins_keeps

theorem State.stoStart_keeps {s₀ s : State} (h : Keeps s₀ s) : Keeps s₀ s.stoStart := by
  unfold State.stoStart
  repeat' with_reducible first
    | assumption | apply State.setFb_keeps | apply State.spareShow_keeps | apply Keeps.ite | intro _ | apply Keeps.foldl
    | (apply Keeps.snd; assumption) | (apply Keeps.fst; assumption) | fail_if_no_progress apply Keeps.rest

theorem execScrubPassEnd_keeps (t : Nat) (ecc : EccFinds) (s : State) : KeepsNext s (execScrubPassEnd t ecc s) := by
  unfold execScrubPassEnd
  repeat' with_reducible first
    | exact State.at_keeps (Keeps.refl _) | apply KeepsNext.next | assumption | apply State.eccFinds_keeps | apply State.irq_keeps
    | apply State.scrubSet_keeps | apply KeepsNext.ite | apply Keeps.ite | intro _

theorem execRowSpare_keeps (t : Nat) (shelf : Fin 16) (ecc : EccFinds) (s : State) : KeepsNext s (execRowSpare t shelf ecc s) := by
  unfold execRowSpare
  repeat' with_reducible first
    | exact State.at_keeps (Keeps.refl _) | apply KeepsNext.next | assumption | apply State.eccFinds_keeps
    | apply State.spareShow_keeps | apply KeepsNext.ite | apply Keeps.ite | intro _ | apply Keeps.foldl
    | (apply Keeps.snd; assumption) | (apply Keeps.fst; assumption) | fail_if_no_progress apply Keeps.rest | apply Keeps.idOf
    | extract_lets | split

theorem execWearMove_keeps (t wear : Nat) (s : State) : KeepsNext s (execWearMove t wear s) := by
  unfold execWearMove
  repeat' with_reducible first
    | exact State.at_keeps (Keeps.refl _) | apply KeepsNext.next | assumption | apply State.setFv_keeps | apply KeepsNext.ite
    | apply Keeps.ite | intro _

theorem execNoticeClear_keeps (t : Nat) (s : State) : KeepsNext s (execNoticeClear t s) := by
  unfold execNoticeClear
  repeat' with_reducible first
    | exact State.at_keeps (Keeps.refl _) | apply KeepsNext.next | assumption | apply State.setFv_keeps | apply KeepsNext.ite
    | apply Keeps.ite | intro _

theorem execStoCopy_keeps (t tally upto : Nat) (ecc : EccFinds) (s : State) : KeepsNext s (execStoCopy t tally upto ecc s) := by
  unfold execStoCopy
  repeat' with_reducible first
    | exact State.at_keeps (Keeps.refl _) | apply KeepsNext.next | assumption | apply State.stoCopy_keeps | apply State.eccFinds_keeps
    | apply State.lateStop_keeps | apply KeepsNext.ite | apply Keeps.ite | intro _ | apply Keeps.foldl | (apply Keeps.snd; assumption)
    | (apply Keeps.fst; assumption) | fail_if_no_progress apply Keeps.rest | apply Keeps.idOf | extract_lets | split

theorem execStoFill_keeps (t tally upto : Nat) (s : State) : KeepsNext s (execStoFill t tally upto s) := by
  unfold execStoFill
  repeat' with_reducible first
    | exact State.at_keeps (Keeps.refl _) | apply KeepsNext.next | assumption | apply State.stoFill_keeps | apply State.lateStop_keeps
    | apply KeepsNext.ite | apply Keeps.ite | intro _ | apply Keeps.foldl | (apply Keeps.snd; assumption)
    | (apply Keeps.fst; assumption) | fail_if_no_progress apply Keeps.rest | apply Keeps.idOf | extract_lets | split

theorem execStoVerify_keeps (t tally upto : Nat) (ecc : EccFinds) (s : State) : KeepsNext s (execStoVerify t tally upto ecc s) := by
  unfold execStoVerify
  repeat' with_reducible first
    | exact State.at_keeps (Keeps.refl _) | apply KeepsNext.next | assumption | apply State.stoVerify_keeps
    | apply State.lateStop_keeps | apply KeepsNext.ite | apply Keeps.ite | intro _ | apply Keeps.foldl | (apply Keeps.snd; assumption)
    | (apply Keeps.fst; assumption) | fail_if_no_progress apply Keeps.rest | apply Keeps.idOf | extract_lets | split

theorem execStoRekey_keeps (t tally upto : Nat) (ecc : EccFinds) (s : State) : KeepsNext s (execStoRekey t tally upto ecc s) := by
  unfold execStoRekey
  repeat' with_reducible first
    | exact State.at_keeps (Keeps.refl _) | apply KeepsNext.next | assumption | apply State.tallyProgress_keeps
    | apply State.rekeyMoves_keeps | apply State.rekeyBegins_keeps | apply State.eccFinds_keeps | apply State.wrapInc_keeps
    | apply State.rekeyDone_keeps | apply State.irq_keeps | apply State.setFv_keeps | apply State.tallyDone_keeps
    | apply State.lateStop_keeps | apply State.rekeyStops_keeps | apply KeepsNext.ite | apply Keeps.ite | intro _ | apply Keeps.foldl
    | fail_if_no_progress apply Keeps.rest | apply Keeps.idOf | extract_lets | split

end Sys2Proof.Machine
end

