-- ==== Sys2Proof/Laws/KeepsDyn.lean ====
section
/-! SUPPORT. What the operations of Machine/Dyn.lean keep (Laws/Keeps.lean). -/

namespace Sys2Proof.Machine

open Sys2Proof

theorem State.dynShow_keeps {s₀ s : State} {ch : Nat} (h : Keeps s₀ s) : Keeps s₀ (s.dynShow ch) := by
  unfold State.dynShow
  repeat' with_reducible first
    | assumption | apply State.irqIf_keeps | apply State.setFv_keeps | apply State.planesFollow_keeps
    | apply State.sourceQuality_keeps | apply State.setDch_keeps

theorem State.speedShow_keeps {s₀ s : State} {ch : Nat} (h : Keeps s₀ s) : Keeps s₀ (s.speedShow ch) := by
  unfold State.speedShow
  repeat' with_reducible first
    | assumption | apply State.planesFollow_keeps | apply State.sourceQuality_keeps

theorem State.dynSettle_keeps {s₀ s : State} {ch : Nat} (h : Keeps s₀ s) : Keeps s₀ (s.dynSettle ch) := by
  unfold State.dynSettle
  repeat' with_reducible first
    | assumption | apply State.setDch_keeps | apply State.setFv_keeps

theorem State.dynFaults_keeps {s₀ s : State} {ch mask bits : Nat} (h : Keeps s₀ s) : Keeps s₀ (s.dynFaults ch mask bits) := by
  unfold State.dynFaults
  repeat' with_reducible first
    | assumption | apply State.setFv_keeps | apply State.irqIf_keeps | apply State.setDch_keeps | apply State.dynSettle_keeps
    | apply Keeps.ite | intro _

theorem State.dynAvdd_keeps {s₀ s : State} {ch : Nat} (h : Keeps s₀ s) : Keeps s₀ (s.dynAvdd ch) := by
  unfold State.dynAvdd
  repeat' with_reducible first
    | assumption | apply State.dynFaults_keeps | apply Keeps.ite | intro _

theorem State.dynDisc_keeps {s₀ s : State} {ch : Nat} (h : Keeps s₀ s) : Keeps s₀ (s.dynDisc ch) := by
  unfold State.dynDisc
  repeat' with_reducible first
    | assumption | apply State.setDch_keeps | apply State.setFv_keeps | apply State.speedShow_keeps | apply State.dynFaults_keeps
    | apply Keeps.ite | intro _

theorem State.levelSample_keeps {s₀ s : State} {ch : Nat} {code : Int} {disc inv : Bool}
    (h : Keeps s₀ s) : Keeps s₀ (s.levelSample ch code disc inv) := by
  unfold State.levelSample
  repeat' with_reducible first
    | assumption | apply State.setDch_keeps | apply Keeps.ite | intro _

theorem State.edgeSample_keeps {s₀ s : State} {ch : Nat} {code : Int} (h : Keeps s₀ s) : Keeps s₀ (s.edgeSample ch code) := by
  unfold State.edgeSample
  repeat' with_reducible first
    | assumption | apply State.setDch_keeps | apply Keeps.ite | intro _ | apply Keeps.foldl | (apply Keeps.snd; assumption)
    | (apply Keeps.fst; assumption) | fail_if_no_progress apply Keeps.rest | apply Keeps.idOf | extract_lets | split

theorem State.storeSample_keeps {s₀ s : State} {ch : Nat} {disc : Bool} {x : DynCh} {w : Nat}
    (h : Keeps s₀ s) : Keeps s₀ (s.storeSample ch disc x w) := by
  unfold State.storeSample
  repeat' with_reducible first
    | assumption | apply State.setStamp_keeps | apply State.setFv_keeps | apply State.setDch_keeps | apply State.setPlane_keeps
    | apply State.nodeWriteLe_keeps | apply State.setFb_keeps | apply State.wrapInc_keeps | apply Keeps.ite | intro _

theorem State.judgeSample_keeps {s₀ s : State} {ch : Nat} {clip cm : Bool} (h : Keeps s₀ s) :
    Keeps s₀ (s.judgeSample ch clip cm) :=
  State.dynFaults_keeps (State.dynAvdd_keeps (Keeps.ite (fun _ => State.satInc_keeps (State.setDch_keeps h)) (fun _ => h)))

theorem State.mergeSample_keeps {s₀ s : State} {ch : Nat} {v0 v30 : Int} {gerr oerr : Q} {over30 clip : Bool} (h : Keeps s₀ s) :
    Keeps s₀ (s.mergeSample ch v0 v30 gerr oerr over30 clip) :=
  State.dynShow_keeps (State.zoomSample_keeps (State.edgeSample_keeps (State.levelSample_keeps (State.setFv_keeps
    (State.storeSample_keeps h)))))

theorem State.tachoEnter_keeps {s₀ s : State} {ch st : Nat} (h : Keeps s₀ s) : Keeps s₀ (s.tachoEnter ch st) := by
  unfold State.tachoEnter
  repeat' with_reducible first
    | assumption | apply State.setFv_keeps | apply State.setDch_keeps | apply State.irqIf_keeps | apply State.speedShow_keeps
    | apply State.dynFaults_keeps | apply Keeps.ite | intro _

theorem State.tachoInterval_keeps {s₀ s : State} {ch e i : Nat} (h : Keeps s₀ s) : Keeps s₀ (s.tachoInterval ch e i) := by
  unfold State.tachoInterval
  repeat' with_reducible first
    | assumption | apply State.setDch_keeps | apply State.setFv_keeps | apply State.tachoEnter_keeps | apply State.sourceWrite_keeps
    | apply Keeps.ite | intro _

theorem State.tachoLost_keeps {s₀ s : State} {ch : Nat} (h : Keeps s₀ s) : Keeps s₀ (s.tachoLost ch) := by
  unfold State.tachoLost
  repeat' with_reducible first
    | assumption | apply State.tachoEnter_keeps | apply State.setDch_keeps

theorem State.dynIdlePoints_keeps {s₀ s : State} {ch : Nat} (h : Keeps s₀ s) : Keeps s₀ (s.dynIdlePoints ch) := by
  unfold State.dynIdlePoints
  repeat' with_reducible first
    | assumption | apply State.dynShow_keeps | apply State.sourceWrite_keeps | apply State.speedShow_keeps | apply Keeps.ite | intro _

theorem State.dynEnters_keeps {s₀ s : State} {ch : Nat} (h : Keeps s₀ s) : Keeps s₀ (s.dynEnters ch) := by
  unfold State.dynEnters
  repeat' with_reducible first
    | assumption | apply State.dynFaults_keeps | apply Keeps.ite | intro _

theorem State.dynPowered_keeps {s₀ s : State} {held speed : Bool} (h : Keeps s₀ s) : Keeps s₀ (s.dynPowered held speed) := by
  unfold State.dynPowered
  repeat' with_reducible first
    | assumption | apply State.lapse_keeps | apply State.setFb_keeps | apply State.setDch_keeps | apply State.setFv_keeps
    | apply State.dynSettle_keeps | apply State.dynEnters_keeps | apply State.dynIdlePoints_keeps | apply Keeps.ite | intro _
    | apply Keeps.foldl

theorem State.dynStopped_keeps {s₀ s : State} (h : Keeps s₀ s) : Keeps s₀ s.dynStopped := by
  unfold State.dynStopped
  repeat' with_reducible first
    | assumption | apply State.setDch_keeps | apply State.sourceQuality_keeps | apply Keeps.ite | intro _ | apply Keeps.foldl

theorem State.dynOff_keeps {s₀ s : State} (h : Keeps s₀ s) : Keeps s₀ s.dynOff := by
  unfold State.dynOff
  repeat' with_reducible first
    | assumption | apply State.dynIdlePoints_keeps | apply State.dynStopped_keeps | apply Keeps.ite | intro _ | apply Keeps.foldl

theorem State.dynAvddLost_keeps {s₀ s : State} (h : Keeps s₀ s) : Keeps s₀ s.dynAvddLost := by
  unfold State.dynAvddLost
  repeat' with_reducible first
    | assumption | apply State.irq_keeps | apply State.setFb_keeps | apply State.dynShow_keeps | apply State.dynFaults_keeps
    | apply Keeps.ite | intro _ | apply Keeps.foldl

theorem State.dynAvddBack_keeps {s₀ s : State} (h : Keeps s₀ s) : Keeps s₀ s.dynAvddBack := by
  unfold State.dynAvddBack
  repeat' with_reducible first
    | assumption | apply State.dynShow_keeps | apply State.dynDisc_keeps | apply State.setFb_keeps | apply Keeps.ite | intro _
    | apply Keeps.foldl

theorem State.dynChCommitted_keeps {s₀ s : State} {old : State} {ch : Nat} (h : Keeps s₀ s) : Keeps s₀ (s.dynChCommitted old ch) := by
  unfold State.dynChCommitted
  repeat' with_reducible first
    | assumption | apply State.setFv_keeps | apply State.setDch_keeps | apply State.dynEnters_keeps | apply State.dynDisc_keeps
    | apply State.dynSettle_keeps | apply State.dynIdlePoints_keeps | apply Keeps.ite | intro _

theorem State.dynCommitted_keeps {s₀ s : State} {old : State} {ch : Nat} (h : Keeps s₀ s) : Keeps s₀ (s.dynCommitted old ch) := by
  unfold State.dynCommitted
  repeat' with_reducible first
    | assumption | apply State.dynChCommitted_keeps | apply State.dynPowered_keeps | apply State.dynOff_keeps | apply Keeps.ite
    | intro _

theorem execChannelSettled_keeps (t : Nat) (ch : Fin 16) (s : State) : KeepsNext s (execChannelSettled t ch s) := by
  unfold execChannelSettled
  repeat' with_reducible first
    | exact State.at_keeps (Keeps.refl _) | apply KeepsNext.next | assumption | apply State.dynShow_keeps | apply State.dynAvdd_keeps
    | apply State.setFv_keeps | apply State.setDch_keeps | apply KeepsNext.ite | apply Keeps.ite | intro _ | apply Keeps.foldl
    | fail_if_no_progress apply Keeps.rest | apply Keeps.idOf | extract_lets | split

theorem execBiasMonitor_keeps (t : Nat) (ch : Fin 16) (volts vsx : Q) (compliance : Bool) (s : State) :
    KeepsNext s (execBiasMonitor t ch volts vsx compliance s) := by
  unfold execBiasMonitor
  repeat' with_reducible first
    | exact State.at_keeps (Keeps.refl _) | apply KeepsNext.next | assumption | apply State.setFv_keeps | apply State.setFb_keeps
    | apply State.dynShow_keeps | apply State.dynFaults_keeps | apply KeepsNext.ite | apply Keeps.ite | intro _

theorem execDynSample_keeps (t : Nat) (ch : Fin 16) (v0 v30 : Int) (gerr oerr : Q) (over30 clip cm : Bool) (s : State) :
    KeepsNext s (execDynSample t ch v0 v30 gerr oerr over30 clip cm s) := by
  unfold execDynSample
  repeat' with_reducible first
    | exact State.at_keeps (Keeps.refl _) | apply KeepsNext.next | assumption | apply State.mergeSample_keeps
    | apply State.judgeSample_keeps | apply KeepsNext.ite | apply Keeps.ite | intro _

theorem execOverallLevel_keeps (t : Nat) (ch : Fin 16) (s : State) : KeepsNext s (execOverallLevel t ch s) := by
  unfold execOverallLevel
  repeat' with_reducible first
    | exact State.at_keeps (Keeps.refl _) | apply KeepsNext.next | assumption | apply State.setDch_keeps | apply State.dynShow_keeps
    | apply State.setFv_keeps | apply State.dynFaults_keeps | apply State.sourceWrite_keeps | apply KeepsNext.ite | apply Keeps.ite
    | intro _

theorem execOverallStale_keeps (t : Nat) (ch : Fin 16) (s : State) : KeepsNext s (execOverallStale t ch s) := by
  unfold execOverallStale
  repeat' with_reducible first
    | exact State.at_keeps (Keeps.refl _) | apply KeepsNext.next | assumption | apply State.dynShow_keeps
    | apply State.dynFaults_keeps | apply KeepsNext.ite | apply Keeps.ite | intro _ | apply Keeps.foldl
    | fail_if_no_progress apply Keeps.rest | apply Keeps.idOf | extract_lets | split

theorem execTachoEdge_keeps (t : Nat) (ch : Fin 16) (s : State) : KeepsNext s (execTachoEdge t ch s) := by
  unfold execTachoEdge
  repeat' with_reducible first
    | exact State.at_keeps (Keeps.refl _) | apply KeepsNext.next | assumption | apply State.nodeWrite_keeps | apply State.setDch_keeps
    | apply State.wrapInc_keeps | apply State.tachoLost_keeps | apply State.tachoInterval_keeps | apply KeepsNext.ite
    | apply Keeps.ite | intro _ | apply Keeps.foldl | (apply Keeps.snd; assumption) | (apply Keeps.fst; assumption)
    | fail_if_no_progress apply Keeps.rest | apply Keeps.idOf | extract_lets | split

theorem execTachoDeadline_keeps (t : Nat) (ch : Fin 16) (s : State) : KeepsNext s (execTachoDeadline t ch s) := by
  unfold execTachoDeadline
  repeat' with_reducible first
    | exact State.at_keeps (Keeps.refl _) | apply KeepsNext.next | assumption | apply State.tachoLost_keeps | apply KeepsNext.ite
    | apply Keeps.ite | intro _

end Sys2Proof.Machine
end

