-- ==== Sys2Proof/Laws/KeepsSpx.lean ====
section
/-! SUPPORT. What the operations of Machine/Spx.lean keep (Laws/Keeps.lean). -/

namespace Sys2Proof.Machine

open Sys2Proof

theorem State.planeCfgShow_keeps {s₀ s : State} {i : Nat} (h : Keeps s₀ s) : Keeps s₀ (s.planeCfgShow i) := by
  unfold State.planeCfgShow
  repeat' with_reducible first
    | assumption | apply State.setFv_keeps

theorem State.planeDrop_keeps {s₀ s : State} {i : Nat} (h : Keeps s₀ s) : Keeps s₀ (s.planeDrop i) := by
  unfold State.planeDrop
  repeat' with_reducible first
    | assumption | apply State.irq_keeps | apply State.satInc_keeps

theorem State.hotRate_keeps {s₀ s : State} (h : Keeps s₀ s) : Keeps s₀ s.hotRate := by
  unfold State.hotRate
  repeat' with_reducible first
    | assumption | apply State.allPlanesShow_keeps | apply State.irq_keeps | apply State.setFb_keeps | apply Keeps.ite | intro _

theorem State.beginBuild_keeps {s₀ s : State} {i stamp : Nat} {rpm : Q} {input : SpxInput}
    (h : Keeps s₀ s) : Keeps s₀ (s.beginBuild i stamp rpm input) := by
  unfold State.beginBuild
  repeat' with_reducible first
    | assumption | apply State.setPlane_keeps

theorem State.recordBuild_keeps {s₀ s : State} {i : Nat} {words : List (Nat × Nat)}
    (h : Keeps s₀ s) : Keeps s₀ (s.recordBuild i words) := by
  unfold State.recordBuild
  repeat' with_reducible first
    | assumption | apply State.beginBuild_keeps | apply Keeps.ite | intro _ | apply Keeps.foldl | (apply Keeps.snd; assumption)
    | (apply Keeps.fst; assumption) | fail_if_no_progress apply Keeps.rest | apply Keeps.idOf | extract_lets | split

theorem State.writeHalf_keeps {s₀ s : State} {i half : Nat} {codes : List (Nat × Nat)} (h : Keeps s₀ s) :
    Keeps s₀ (s.writeHalf i half codes) := by
  unfold State.writeHalf
  exact Keeps.foldl (fun t x ht => State.wrLe_keeps ht) _ (Keeps.setMem (Memory.wf_dropRange _ _ _) (State.curePoison_keeps h))

theorem State.learnPoint_keeps {s₀ s : State} {p x : Nat} (h : Keeps s₀ s) : Keeps s₀ (s.learnPoint p x) := by
  unfold State.learnPoint
  repeat' with_reducible first
    | assumption | apply State.nodeWrite_keeps | apply Keeps.ite | intro _

theorem State.learnEnds_keeps {s₀ s : State} {x : Tally} (h : Keeps s₀ s) : Keeps s₀ (s.learnEnds x) := by
  unfold State.learnEnds
  repeat' with_reducible first
    | assumption | apply State.tallyProgress_keeps | apply State.tallyDone_keeps | apply Keeps.ite | intro _

theorem State.learnStep_keeps {s₀ s : State} {i first last : Nat} (h : Keeps s₀ s) : Keeps s₀ (s.learnStep i first last) := by
  unfold State.learnStep
  repeat' with_reducible first
    | assumption | apply State.tallyEnds_keeps | apply State.setTally_keeps | apply State.learnEnds_keeps | apply Keeps.ite | intro _
    | apply Keeps.foldl

theorem State.learnLaunch_keeps {s₀ s : State} {n : Nat} (h : Keeps s₀ s) : Keeps s₀ (s.learnLaunch n) := by
  unfold State.learnLaunch
  repeat' with_reducible first
    | assumption | apply State.curePoison_keeps | apply State.setTally_keeps | apply Keeps.ite | intro _ | apply Keeps.foldl
    | (apply Keeps.snd; assumption) | (apply Keeps.fst; assumption) | fail_if_no_progress apply Keeps.rest | apply Keeps.idOf
    | extract_lets | split | (refine Keeps.setMem (Memory.wf_dropRange _ _ _) ?_)

theorem State.commitBuild_keeps {s₀ s : State} {i : Nat} {b : SpxBuild} {errs : List (Nat × Q)}
    (h : Keeps s₀ s) : Keeps s₀ (s.commitBuild i b errs) := by
  unfold State.commitBuild
  repeat' with_reducible first
    | assumption | apply State.writeHalf_keeps | apply State.drawKey_keeps | apply State.setPlane_keeps | apply State.learnStep_keeps
    | apply State.learnPoint_keeps | apply State.wrapInc_keeps | apply State.setFv_keeps | apply State.setStamp_keeps
    | apply State.setFb_keeps | apply State.irq_keeps | apply State.satInc_keeps | apply State.planeShow_keeps
    | apply State.squash_keeps | apply Keeps.ite | intro _ | apply Keeps.foldl

theorem State.planeUnlatched_keeps {s₀ s : State} {i : Nat} (h : Keeps s₀ s) : Keeps s₀ (s.planeUnlatched i) := by
  unfold State.planeUnlatched
  repeat' with_reducible first
    | assumption | apply State.commitBuild_keeps | apply State.setPlane_keeps | apply Keeps.ite | intro _ | apply Keeps.foldl
    | (apply Keeps.snd; assumption) | (apply Keeps.fst; assumption) | fail_if_no_progress apply Keeps.rest | apply Keeps.idOf
    | extract_lets | split

theorem State.abandonBuilds_keeps {s₀ s : State} {i : Nat} (h : Keeps s₀ s) : Keeps s₀ (s.abandonBuilds i) := by
  unfold State.abandonBuilds
  repeat' with_reducible first
    | assumption | apply State.setPlane_keeps

theorem State.planeCtrl_keeps {s₀ s : State} {i : Nat} {v : Word} (h : Keeps s₀ s) : Keeps s₀ (s.planeCtrl i v) := by
  unfold State.planeCtrl
  repeat' with_reducible first
    | assumption | apply State.setPlane_keeps | apply Keeps.ite | intro _

theorem State.streamAgain_keeps {s₀ s : State} {i : Nat} (h : Keeps s₀ s) : Keeps s₀ (s.streamAgain i) := by
  unfold State.streamAgain
  repeat' with_reducible first
    | assumption | apply State.setPlane_keeps

theorem State.spxPowered_keeps {s₀ s : State} (h : Keeps s₀ s) : Keeps s₀ s.spxPowered := by
  unfold State.spxPowered
  repeat' with_reducible first
    | assumption | apply State.lapse_keeps | apply State.allPlanesShow_keeps | apply State.streamAgain_keeps
    | apply State.abandonBuilds_keeps | apply State.planeCfgShow_keeps | apply Keeps.ite | intro _ | apply Keeps.foldl

theorem State.spxStopped_keeps {s₀ s : State} (h : Keeps s₀ s) : Keeps s₀ s.spxStopped := by
  unfold State.spxStopped
  repeat' with_reducible first
    | assumption | apply State.allPlanesShow_keeps | apply State.abandonBuilds_keeps | apply Keeps.ite | intro _ | apply Keeps.foldl

theorem State.spxCommitted_keeps {s₀ s : State} {old : State} (h : Keeps s₀ s) : Keeps s₀ (s.spxCommitted old) := by
  unfold State.spxCommitted
  repeat' with_reducible first
    | assumption | apply State.spxPowered_keeps | apply State.spxStopped_keeps | apply State.hotRate_keeps
    | apply State.allPlanesShow_keeps | apply Keeps.ite | intro _

theorem State.planeCommitted_keeps {s₀ s : State} {old : State} {i : Nat} (h : Keeps s₀ s) : Keeps s₀ (s.planeCommitted old i) := by
  unfold State.planeCommitted
  repeat' with_reducible first
    | assumption | apply State.setPlane_keeps | apply State.abandonBuilds_keeps | apply State.streamAgain_keeps
    | apply State.planeShow_keeps | apply State.planeCfgShow_keeps | apply Keeps.ite | intro _

theorem State.planesOfChannel_keeps {s₀ s : State} {ch : Nat} (h : Keeps s₀ s) : Keeps s₀ (s.planesOfChannel ch) := by
  unfold State.planesOfChannel
  repeat' with_reducible first
    | assumption | apply State.planesFollow_keeps | apply State.planeCfgShow_keeps | apply Keeps.ite | intro _ | apply Keeps.foldl

theorem execRecordEnd_keeps (t : Nat) (ch : Fin 16) (ecc : EccFinds) (s : State) : KeepsNext s (execRecordEnd t ch ecc s) := by
  unfold execRecordEnd
  repeat' with_reducible first
    | exact State.at_keeps (Keeps.refl _) | apply KeepsNext.next | assumption | apply State.eccFinds_keeps | apply State.setDch_keeps
    | apply State.planeDrop_keeps | apply State.recordBuild_keeps | apply KeepsNext.ite | apply Keeps.ite | intro _
    | apply Keeps.foldl

theorem execZoomRecordEnd_keeps (t : Nat) (ch : Fin 16) (s : State) : KeepsNext s (execZoomRecordEnd t ch s) := by
  unfold execZoomRecordEnd
  repeat' with_reducible first
    | exact State.at_keeps (Keeps.refl _) | apply KeepsNext.next | assumption | apply State.setPlane_keeps
    | apply State.planeDrop_keeps | apply State.beginBuild_keeps | apply KeepsNext.ite | apply Keeps.ite | intro _

theorem execBaseLearn_keeps (t tally : Nat) (s : State) : KeepsNext s (execBaseLearn t tally s) := by
  unfold execBaseLearn
  repeat' with_reducible first
    | exact State.at_keeps (Keeps.refl _) | apply KeepsNext.next | assumption | apply State.lateStop_keeps
    | apply State.tallyRefused_keeps | apply State.learnEnds_keeps | apply KeepsNext.ite | apply Keeps.ite | intro _
    | apply Keeps.foldl | (apply Keeps.snd; assumption) | (apply Keeps.fst; assumption) | fail_if_no_progress apply Keeps.rest
    | apply Keeps.idOf | extract_lets | split

theorem execLimDerive_keeps (t tally : Nat) (ecc : EccFinds) (s : State) : KeepsNext s (execLimDerive t tally ecc s) := by
  unfold execLimDerive
  repeat' with_reducible first
    | exact State.at_keeps (Keeps.refl _) | apply KeepsNext.next | assumption | apply State.lateStop_keeps
    | apply State.eccFinds_keeps | apply State.tallyEnds_keeps | apply State.nodeWrite_keeps | apply State.tallyDone_keeps
    | apply State.squash_keeps | apply KeepsNext.ite | apply Keeps.ite | intro _ | apply Keeps.foldl | (apply Keeps.snd; assumption)
    | (apply Keeps.fst; assumption) | fail_if_no_progress apply Keeps.rest | apply Keeps.idOf | extract_lets | split

theorem execPlaneCommit_keeps (t : Nat) (plane : Fin 64) (errs : List (Nat × Q)) (ecc : EccFinds) (s : State) :
    KeepsNext s (execPlaneCommit t plane errs ecc s) := by
  unfold execPlaneCommit
  repeat' with_reducible first
    | exact State.at_keeps (Keeps.refl _) | apply KeepsNext.next | assumption | apply State.setPlane_keeps
    | apply State.eccFinds_keeps | apply State.planeDrop_keeps | apply State.commitBuild_keeps | apply KeepsNext.ite | apply Keeps.ite
    | intro _ | apply Keeps.foldl | fail_if_no_progress apply Keeps.rest | apply Keeps.idOf | extract_lets | split

theorem execPlaneStale_keeps (t : Nat) (plane : Fin 64) (s : State) : KeepsNext s (execPlaneStale t plane s) := by
  unfold execPlaneStale
  repeat' with_reducible first
    | exact State.at_keeps (Keeps.refl _) | apply KeepsNext.next | assumption | apply State.planeShow_keeps

theorem execPlaneCommitOverdue_keeps (t : Nat) (plane : Fin 64) (s : State) : KeepsNext s (execPlaneCommitOverdue t plane s) := by
  unfold execPlaneCommitOverdue
  repeat' with_reducible first
    | exact State.at_keeps (Keeps.refl _) | apply KeepsNext.next | assumption | apply State.planeShow_keeps

end Sys2Proof.Machine
end

