-- ==== Sys2Proof/Laws/KeepsAlhCall.lean ====
section
/-! SUPPORT. What the operations of Machine/AlhCall.lean keep (Laws/Keeps.lean). -/

namespace Sys2Proof.Machine

open Sys2Proof

theorem State.alhSend_keeps {s₀ s : State} {o : Nat} {f : CanFrame} (h : Keeps s₀ s) : Keeps s₀ (s.alhSend o f) := by
  unfold State.alhSend
  repeat' with_reducible first
    | assumption | apply State.satInc_keeps | apply State.sendWakes_keeps | apply State.setTxBuf_keeps | apply State.queueFrame_keeps
    | apply Keeps.ite | intro _

theorem State.callFrames_keeps {s₀ s : State} {l : Nat} {ended : Bool} (h : Keeps s₀ s) : Keeps s₀ (s.callFrames l ended) := by
  unfold State.callFrames
  repeat' with_reducible first
    | assumption | apply State.alhSend_keeps | apply Keeps.ite | intro _ | apply Keeps.foldl

theorem State.setCall_keeps {s₀ s : State} {l : Nat} {c : Call} (h : Keeps s₀ s) : Keeps s₀ (s.setCall l c) := by
  unfold State.setCall
  repeat' with_reducible first
    | assumption | apply Keeps.ite | intro _ | apply Keeps.foldl | (apply Keeps.snd; assumption) | (apply Keeps.fst; assumption)
    | fail_if_no_progress apply Keeps.rest

theorem State.callChanged_keeps {s₀ s : State} {l : Nat} (h : Keeps s₀ s) : Keeps s₀ (s.callChanged l) := by
  unfold State.callChanged
  repeat' with_reducible first
    | assumption | apply State.setCall_keeps | apply State.setFv_keeps | apply State.callFrames_keeps

theorem State.toRung_keeps {s₀ : State} {l base : Nat} (k : Nat) :
    ∀ {s : State} {r : Nat}, Keeps s₀ s → Keeps s₀ (s.toRung l base k r) := by
  induction k with
  | zero => exact fun h => h
  | succ k ih =>
    intro s r h
    refine Keeps.ite (fun _ => State.setStamp_keeps (State.setFv_keeps h)) (fun _ => ?_)
    refine Keeps.ite (fun _ => ih (State.satInc_keeps (State.irq_keeps h))) (fun _ => ?_)
    exact State.irq_keeps (State.irq_keeps (State.setFv_keeps (State.setStamp_keeps (State.setFv_keeps (State.irq_keeps h)))))

theorem State.callEnd_keeps {s₀ s : State} {l : Nat} (h : Keeps s₀ s) : Keeps s₀ (s.callEnd l) := by
  unfold State.callEnd
  repeat' with_reducible first
    | assumption | apply State.callFrames_keeps | apply State.setStamp_keeps | apply State.setReg_keeps | apply State.irq_keeps
    | apply Keeps.ite | intro _ | apply Keeps.foldl | (apply Keeps.snd; assumption) | (apply Keeps.fst; assumption)
    | fail_if_no_progress apply Keeps.rest

theorem State.callLeave_keeps {s₀ s : State} {e : Nat} (h : Keeps s₀ s) : Keeps s₀ (s.callLeave e) := by
  unfold State.callLeave
  repeat' with_reducible first
    | assumption | apply State.setEntry_keeps | apply State.callEnd_keeps | apply State.callChanged_keeps | apply Keeps.ite | intro _
    | apply Keeps.foldl | (apply Keeps.snd; assumption) | (apply Keeps.fst; assumption) | fail_if_no_progress apply Keeps.rest
    | apply Keeps.idOf | extract_lets | split

theorem State.callJoin_keeps {s₀ s : State} {e : Nat} (h : Keeps s₀ s) : Keeps s₀ (s.callJoin e) := by
  unfold State.callJoin
  repeat' with_reducible first
    | assumption | apply State.callLeave_keeps | apply State.wrapInc_keeps | apply State.setEntry_keeps | apply State.setCall_keeps
    | apply State.setFv_keeps | apply State.setReg_keeps | apply State.irq_keeps | apply State.satInc_keeps | apply State.toRung_keeps
    | apply State.callChanged_keeps | apply Keeps.ite | intro _ | apply Keeps.foldl | (apply Keeps.snd; assumption)
    | (apply Keeps.fst; assumption) | fail_if_no_progress apply Keeps.rest | apply Keeps.idOf | extract_lets | split

theorem State.callFollow_keeps {s₀ s : State} {old : State} {e : Nat} (h : Keeps s₀ s) : Keeps s₀ (s.callFollow old e) := by
  unfold State.callFollow
  repeat' with_reducible first
    | assumption | apply State.callChanged_keeps | apply State.setCall_keeps | apply Keeps.ite | intro _ | apply Keeps.foldl
    | (apply Keeps.snd; assumption) | (apply Keeps.fst; assumption) | fail_if_no_progress apply Keeps.rest | apply Keeps.idOf
    | extract_lets | split

theorem State.callsStop_keeps {s₀ s : State} (h : Keeps s₀ s) : Keeps s₀ s.callsStop := by
  unfold State.callsStop
  repeat' with_reducible first
    | assumption | apply State.callEnd_keeps | apply State.setEntry_keeps | apply Keeps.ite | intro _ | apply Keeps.foldl

theorem State.rungMove_keeps {s₀ s : State} {l : Nat} (h : Keeps s₀ s) : Keeps s₀ (s.rungMove l) := by
  unfold State.rungMove
  repeat' with_reducible first
    | assumption | apply State.setCall_keeps | apply State.irq_keeps | apply State.toRung_keeps | apply State.satInc_keeps
    | apply State.setStamp_keeps | apply State.setFv_keeps | apply State.callChanged_keeps | apply Keeps.ite | intro _

theorem State.rungsBefore_keeps {s₀ : State} {l stamp : Nat} (k : Nat) :
    ∀ {s : State}, Keeps s₀ s → Keeps s₀ (s.rungsBefore l stamp k) := by
  induction k with
  | zero => exact fun h => h
  | succ k ih => exact fun h => Keeps.ite (fun _ => ih (State.rungMove_keeps h)) (fun _ => h)

theorem State.rungUnmove_keeps {s₀ s : State} {l stamp : Nat} (h : Keeps s₀ s) : Keeps s₀ (s.rungUnmove l stamp) := by
  unfold State.rungUnmove
  repeat' with_reducible first
    | assumption | apply State.setFv_keeps | apply State.setFb_keeps | apply Keeps.ite | intro _ | apply Keeps.foldl
    | (apply Keeps.snd; assumption) | (apply Keeps.fst; assumption) | fail_if_no_progress apply Keeps.rest | apply Keeps.idOf
    | extract_lets | split

theorem State.callAccept_keeps {s₀ s : State} {l stamp : Nat} (h : Keeps s₀ s) : Keeps s₀ (s.callAccept l stamp).1 := by
  unfold State.callAccept
  repeat' with_reducible first
    | assumption | apply State.rungsBefore_keeps | apply State.rungUnmove_keeps | apply State.irq_keeps | apply State.setStamp_keeps
    | apply State.setFv_keeps | apply State.callChanged_keeps | apply Keeps.ite | intro _ | apply Keeps.foldl
    | (apply Keeps.snd; assumption) | (apply Keeps.fst; assumption) | fail_if_no_progress apply Keeps.rest | apply Keeps.idOf
    | extract_lets | split

theorem execCallRepeat_keeps (t : Nat) (ladder : Fin 8) (s : State) : KeepsNext s (execCallRepeat t ladder s) := by
  unfold execCallRepeat
  repeat' with_reducible first
    | exact State.at_keeps (Keeps.refl _) | apply KeepsNext.next | assumption | apply State.callChanged_keeps | apply KeepsNext.ite
    | apply Keeps.ite | intro _

theorem execStatusFrame_keeps (t : Nat) (s : State) : KeepsNext s (execStatusFrame t s) := by
  unfold execStatusFrame
  repeat' with_reducible first
    | exact State.at_keeps (Keeps.refl _) | apply KeepsNext.next | assumption | apply State.alhSend_keeps | apply KeepsNext.ite
    | apply Keeps.ite | intro _ | apply Keeps.foldl | (apply Keeps.snd; assumption) | (apply Keeps.fst; assumption)
    | fail_if_no_progress apply Keeps.rest

end Sys2Proof.Machine
end

