-- ==== Sys2Proof/Laws/KeepsAlh.lean ====
section
/-! SUPPORT. What the operations of Machine/Alh.lean keep (Laws/Keeps.lean). -/

namespace Sys2Proof.Machine

open Sys2Proof

theorem State.rateRoll_keeps {s₀ s : State} (h : Keeps s₀ s) : Keeps s₀ s.rateRoll := by
  unfold State.rateRoll
  repeat' with_reducible first
    | assumption | apply State.setReg_keeps | apply Keeps.ite | intro _ | apply Keeps.foldl | (apply Keeps.snd; assumption)
    | (apply Keeps.fst; assumption) | fail_if_no_progress apply Keeps.rest

theorem State.alhClear_keeps {s₀ s : State} (h : Keeps s₀ s) : Keeps s₀ s.alhClear := by
  unfold State.alhClear
  repeat' with_reducible first
    | assumption | apply State.setReg_keeps | apply State.setFv_keeps | apply State.rateRoll_keeps

theorem State.alhLog_keeps {s₀ s : State} {e before reason src node : Nat}
    (h : Keeps s₀ s) : Keeps s₀ (s.alhLog e before reason src node) := by
  unfold State.alhLog
  repeat' with_reducible first
    | assumption | apply State.nodeWrite_keeps | apply State.wrapInc_keeps

theorem State.mirrorPoint_keeps {s₀ s : State} {e p : Nat} (h : Keeps s₀ s) : Keeps s₀ (s.mirrorPoint e p) := by
  unfold State.mirrorPoint
  repeat' with_reducible first
    | assumption | apply State.writeRecord_keeps | apply Keeps.ite | intro _

theorem State.alhApply_keeps {s₀ s : State} {e : Nat} {y : Entry} {announced : Bool} {stamp reason src node : Nat}
    (h : Keeps s₀ s) : Keeps s₀ (s.alhApply e y announced stamp reason src node) := by
  unfold State.alhApply
  repeat' with_reducible first
    | assumption | apply State.setEntry_keeps | apply State.callLeave_keeps | apply State.irqIf_keeps | apply State.callJoin_keeps
    | apply State.callFollow_keeps | apply State.alhLog_keeps | apply State.trigger_keeps | apply State.mirrorPoint_keeps
    | apply State.tripCheck_keeps | apply Keeps.ite | intro _ | apply Keeps.foldl | (apply Keeps.snd; assumption)
    | (apply Keeps.fst; assumption) | fail_if_no_progress apply Keeps.rest

theorem State.alhOverlay_keeps {s₀ s : State} {e : Nat} {y : Entry} {stamp reason src node : Nat}
    (h : Keeps s₀ s) : Keeps s₀ (s.alhOverlay e y stamp reason src node) := by
  unfold State.alhOverlay
  repeat' with_reducible first
    | assumption | apply State.alhApply_keeps | apply Keeps.ite | intro _

theorem State.alhRegrade_keeps {s₀ s : State} {e : Nat} (h : Keeps s₀ s) : Keeps s₀ (s.alhRegrade e) := by
  unfold State.alhRegrade
  repeat' with_reducible first
    | assumption | apply State.alhOverlay_keeps | apply Keeps.ite | intro _

theorem State.alhJudge_keeps {s₀ s : State} {q reason : Nat} (h : Keeps s₀ s) : Keeps s₀ (s.alhJudge q reason) := by
  unfold State.alhJudge
  repeat' with_reducible first
    | assumption | apply State.alhOverlay_keeps | apply Keeps.ite | intro _ | apply Keeps.foldl | (apply Keeps.snd; assumption)
    | (apply Keeps.fst; assumption) | fail_if_no_progress apply Keeps.rest | apply Keeps.idOf | extract_lets | split

theorem State.judgeFrom_keeps {s₀ s : State} {c : Nat} (h : Keeps s₀ s) : Keeps s₀ (s.judgeFrom c) := by
  unfold State.judgeFrom
  repeat' with_reducible first
    | assumption | apply State.alhJudge_keeps | apply Keeps.ite | intro _ | apply Keeps.foldl

theorem State.foFinal_keeps {s₀ s : State} {g : Nat} (h : Keeps s₀ s) : Keeps s₀ (s.foFinal g) := by
  unfold State.foFinal
  repeat' with_reducible first
    | assumption | apply State.setGroup_keeps | apply Keeps.ite | intro _

theorem State.groupRise_keeps {s₀ s : State} {g e onset : Nat} (h : Keeps s₀ s) : Keeps s₀ (s.groupRise g e onset) := by
  unfold State.groupRise
  repeat' with_reducible first
    | assumption | apply State.foFinal_keeps | apply State.setGroup_keeps | apply Keeps.ite | intro _

theorem State.groupArm_keeps {s₀ s : State} {g : Nat} (h : Keeps s₀ s) : Keeps s₀ (s.groupArm g) := by
  unfold State.groupArm
  repeat' with_reducible first
    | assumption | apply State.setGroup_keeps

theorem State.groupClear_keeps {s₀ s : State} {g : Nat} (h : Keeps s₀ s) : Keeps s₀ (s.groupClear g) := by
  unfold State.groupClear
  repeat' with_reducible first
    | assumption | apply State.foFinal_keeps | apply State.groupArm_keeps | apply Keeps.ite | intro _

theorem State.alhEffects_keeps {s₀ s : State} {e old new stamp : Nat} (h : Keeps s₀ s) : Keeps s₀ (s.alhEffects e old new stamp) := by
  unfold State.alhEffects
  repeat' with_reducible first
    | assumption | apply State.rmpDemands_keeps | apply State.fbeTrigger_keeps | apply Keeps.ite | intro _

theorem State.alhUpdate_keeps {s₀ s : State} {e stamp onset reason : Nat} {fl : Option ChangeFlags}
    (h : Keeps s₀ s) : Keeps s₀ (s.alhUpdate e stamp onset reason fl) := by
  unfold State.alhUpdate
  repeat' with_reducible first
    | assumption | apply State.alhEffects_keeps | apply State.alhOverlay_keeps | apply State.groupRise_keeps
    | apply State.alhApply_keeps | apply State.groupClear_keeps | apply State.judgeFrom_keeps | apply Keeps.ite | intro _
    | apply Keeps.foldl | (apply Keeps.snd; assumption) | (apply Keeps.fst; assumption) | fail_if_no_progress apply Keeps.rest

theorem State.countPoint_keeps {s₀ s : State} {c : Contrib} {add : Bool} (h : Keeps s₀ s) : Keeps s₀ (s.countPoint c add) := by
  unfold State.countPoint
  repeat' with_reducible first
    | assumption | apply State.setEntry_keeps | apply Keeps.ite | intro _

theorem State.setContrib_keeps {s₀ s : State} {p : Nat} {c : Contrib} (h : Keeps s₀ s) : Keeps s₀ (s.setContrib p c) := by
  unfold State.setContrib
  repeat' with_reducible first
    | assumption | apply State.countPoint_keeps | apply Keeps.ite | intro _ | apply Keeps.foldl | (apply Keeps.snd; assumption)
    | (apply Keeps.fst; assumption) | fail_if_no_progress apply Keeps.rest | apply Keeps.idOf | extract_lets | split

theorem State.alhChange_keeps {s₀ s : State} {ch : Change} (h : Keeps s₀ s) : Keeps s₀ (s.alhChange ch) := by
  unfold State.alhChange
  repeat' with_reducible first
    | assumption | apply State.rateRoll_keeps | apply State.setContrib_keeps | apply State.mirrorPoint_keeps
    | apply State.alhUpdate_keeps | apply Keeps.ite | intro _ | apply Keeps.foldl | (apply Keeps.snd; assumption)
    | (apply Keeps.fst; assumption) | fail_if_no_progress apply Keeps.rest

theorem State.takeChange_keeps {s₀ s : State} (h : Keeps s₀ s) : Keeps s₀ s.takeChange := by
  unfold State.takeChange
  repeat' with_reducible first
    | assumption | apply State.alhChange_keeps | apply State.setFb_keeps | apply Keeps.ite | intro _ | apply Keeps.foldl
    | (apply Keeps.snd; assumption) | (apply Keeps.fst; assumption) | fail_if_no_progress apply Keeps.rest | apply Keeps.idOf
    | extract_lets | split

theorem State.unshelve_keeps {s₀ s : State} {e src node : Nat} (h : Keeps s₀ s) : Keeps s₀ (s.unshelve e src node) := by
  unfold State.unshelve
  repeat' with_reducible first
    | assumption | apply State.alhOverlay_keeps | apply Keeps.ite | intro _ | apply Keeps.foldl | (apply Keeps.snd; assumption)
    | (apply Keeps.fst; assumption) | fail_if_no_progress apply Keeps.rest

theorem execSupModeRelease_keeps (t : Nat) (entry : Fin 16384) (s : State) : KeepsNext s (execSupModeRelease t entry s) := by
  unfold execSupModeRelease
  repeat' with_reducible first
    | exact State.at_keeps (Keeps.refl _) | apply KeepsNext.next | assumption | apply State.unlessWaits_keeps
    | apply State.alhOverlay_keeps | apply KeepsNext.ite | apply Keeps.ite | intro _ | apply Keeps.foldl
    | fail_if_no_progress apply Keeps.rest | apply Keeps.idOf | extract_lets | split

theorem execShelveExpiry_keeps (t : Nat) (slot : Fin 1024) (s : State) : KeepsNext s (execShelveExpiry t slot s) := by
  unfold execShelveExpiry
  repeat' with_reducible first
    | exact State.at_keeps (Keeps.refl _) | apply KeepsNext.next | assumption | apply State.unlessWaits_keeps | apply State.irq_keeps
    | apply State.unshelve_keeps | apply KeepsNext.ite | apply Keeps.ite | intro _ | apply Keeps.foldl
    | fail_if_no_progress apply Keeps.rest | apply Keeps.idOf | extract_lets | split

theorem execSuppressionHoldEnd_keeps (t : Nat) (entry : Fin 16384) (s : State) : KeepsNext s (execSuppressionHoldEnd t entry s) := by
  unfold execSuppressionHoldEnd
  repeat' with_reducible first
    | exact State.at_keeps (Keeps.refl _) | apply KeepsNext.next | assumption | apply State.unlessWaits_keeps
    | apply State.judgeFrom_keeps | apply State.alhJudge_keeps | apply KeepsNext.ite | apply Keeps.ite | intro _

theorem execPendingDecided_keeps (t : Nat) (entry : Fin 16384) (s : State) : KeepsNext s (execPendingDecided t entry s) := by
  unfold execPendingDecided
  repeat' with_reducible first
    | exact State.at_keeps (Keeps.refl _) | apply KeepsNext.next | assumption | apply State.unlessWaits_keeps
    | apply State.alhOverlay_keeps | apply KeepsNext.ite | apply Keeps.ite | intro _ | apply Keeps.foldl
    | fail_if_no_progress apply Keeps.rest | apply Keeps.idOf | extract_lets | split

theorem execFirstOutFinal_keeps (t : Nat) (group : Fin 1024) (s : State) : KeepsNext s (execFirstOutFinal t group s) := by
  unfold execFirstOutFinal
  repeat' with_reducible first
    | exact State.at_keeps (Keeps.refl _) | apply KeepsNext.next | assumption | apply State.foFinal_keeps | apply KeepsNext.ite
    | apply Keeps.ite | intro _

end Sys2Proof.Machine
end

