-- ==== Sys2Proof/Laws/KeepsAlhCmd.lean ====
section
/-! SUPPORT. What the operations of Machine/AlhCmd.lean keep (Laws/Keeps.lean). -/

namespace Sys2Proof.Machine

open Sys2Proof

theorem State.alhAck_keeps {s₀ s : State} {es : List Nat} {src node stamp : Nat} (h : Keeps s₀ s) :
    Keeps s₀ (s.alhAck es src node stamp).1 := by
  unfold State.alhAck
  refine Keeps.foldlFst (fun r e hr => ?_) _ h
  dsimp only
  split
  · exact State.alhApply_keeps hr
  · exact hr

theorem State.alhReset_keeps {s₀ s : State} {e src node stamp : Nat} (h : Keeps s₀ s) : Keeps s₀ (s.alhReset e src node stamp).1 := by
  unfold State.alhReset
  repeat' with_reducible first
    | assumption | apply State.alhApply_keeps | apply State.releasePoint_keeps | apply Keeps.ite | intro _ | apply Keeps.foldl
    | (apply Keeps.snd; assumption) | (apply Keeps.fst; assumption) | fail_if_no_progress apply Keeps.rest | apply Keeps.idOf
    | extract_lets | split

theorem State.alhShelve_keeps {s₀ s : State} {e arg src node stamp : Nat} (h : Keeps s₀ s) :
    Keeps s₀ (s.alhShelve e arg src node stamp).1 := by
  unfold State.alhShelve
  dsimp only
  split
  · exact h
  · split
    · exact h
    · exact State.alhOverlay_keeps (State.curePoison_keeps (Keeps.rest h))

theorem State.alhUnshelve_keeps {s₀ s : State} {e src node : Nat} (h : Keeps s₀ s) : Keeps s₀ (s.alhUnshelve e src node).1 := by
  unfold State.alhUnshelve
  repeat' with_reducible first
    | assumption | apply State.unshelve_keeps | apply Keeps.ite | intro _ | apply Keeps.foldl | (apply Keeps.snd; assumption)
    | (apply Keeps.fst; assumption) | fail_if_no_progress apply Keeps.rest | apply Keeps.idOf | extract_lets | split

theorem State.alhService_keeps {s₀ s : State} {e : Nat} {out : Bool} {src node stamp : Nat}
    (h : Keeps s₀ s) : Keeps s₀ (s.alhService e out src node stamp).1 := by
  unfold State.alhService
  repeat' with_reducible first
    | assumption | apply State.alhOverlay_keeps | apply State.judgeFrom_keeps | apply State.alhEffects_keeps | apply Keeps.ite
    | intro _ | apply Keeps.foldl | (apply Keeps.snd; assumption) | (apply Keeps.fst; assumption)
    | fail_if_no_progress apply Keeps.rest | apply Keeps.idOf | extract_lets | split

theorem State.alhDo_keeps {s₀ s : State} {op idx arg src node stamp : Nat} {may : Bool}
    (h : Keeps s₀ s) : Keeps s₀ (s.alhDo op idx arg src node stamp may).1 := by
  unfold State.alhDo
  repeat' with_reducible first
    | assumption | apply State.alhAck_keeps | apply State.alhReset_keeps | apply State.alhShelve_keeps | apply State.alhUnshelve_keeps
    | apply State.alhService_keeps | apply State.callAccept_keeps | apply State.groupArm_keeps | apply Keeps.ite | intro _
    | apply Keeps.foldl | (apply Keeps.snd; assumption) | (apply Keeps.fst; assumption) | fail_if_no_progress apply Keeps.rest
    | apply Keeps.idOf | extract_lets | split

theorem State.alhOp_keeps {s₀ s : State} {op idx arg src node stamp : Nat} {may : Bool}
    (h : Keeps s₀ s) : Keeps s₀ (s.alhOp op idx arg src node stamp may).1 := by
  unfold State.alhOp
  repeat' with_reducible first
    | assumption | apply State.alhDo_keeps | apply Keeps.ite | intro _ | apply Keeps.foldl | (apply Keeps.snd; assumption)
    | (apply Keeps.fst; assumption) | fail_if_no_progress apply Keeps.rest | apply Keeps.idOf | extract_lets | split

theorem State.setDuty_keeps {s₀ s : State} {n src : Nat} (h : Keeps s₀ s) : Keeps s₀ (s.setDuty n src) := by
  unfold State.setDuty
  repeat' with_reducible first
    | assumption | apply State.setFv_keeps

theorem State.staleAnswer_keeps {s₀ s : State} (h : Keeps s₀ s) : Keeps s₀ s.staleAnswer := by
  unfold State.staleAnswer
  repeat' with_reducible first
    | assumption | apply State.irq_keeps | apply State.satInc_keeps

theorem State.answerReceived_keeps {s₀ s : State} {stamp : Nat} {d : List Byte}
    (h : Keeps s₀ s) : Keeps s₀ (s.answerReceived stamp d) := by
  unfold State.answerReceived
  repeat' with_reducible first
    | assumption | apply State.staleAnswer_keeps | apply Keeps.ite | intro _ | apply Keeps.foldl | (apply Keeps.snd; assumption)
    | (apply Keeps.fst; assumption) | fail_if_no_progress apply Keeps.rest

theorem State.answerDo_keeps {s₀ s : State} {stamp node k w b : Nat} (h : Keeps s₀ s) : Keeps s₀ (s.answerDo stamp node k w b).1 := by
  unfold State.answerDo
  repeat' with_reducible first
    | assumption | apply State.callAccept_keeps | apply State.alhOp_keeps | apply State.alhAck_keeps | apply State.setDuty_keeps
    | apply Keeps.ite | intro _ | apply Keeps.foldl | (apply Keeps.snd; assumption) | (apply Keeps.fst; assumption)
    | fail_if_no_progress apply Keeps.rest | apply Keeps.idOf | extract_lets | split

theorem State.takeAnswer_keeps {s₀ s : State} (h : Keeps s₀ s) : Keeps s₀ s.takeAnswer := by
  unfold State.takeAnswer
  repeat' with_reducible first
    | assumption | apply State.answerDo_keeps | apply State.staleAnswer_keeps | apply Keeps.ite | intro _ | apply Keeps.foldl
    | (apply Keeps.snd; assumption) | (apply Keeps.fst; assumption) | fail_if_no_progress apply Keeps.rest | apply Keeps.idOf
    | extract_lets | split

theorem State.alhDrain_keeps {s₀ : State} {stamp : Nat} (n : Nat) :
    ∀ {s : State}, Keeps s₀ s → Keeps s₀ (s.alhDrain stamp n) := by
  induction n with
  | zero => exact fun h => h
  | succ n ih =>
    intro s h
    unfold State.alhDrain
    have hc := ih (State.takeChange_keeps h)
    dsimp only
    split
    · exact Keeps.ite (fun _ => ih (State.takeAnswer_keeps h)) (fun _ => Keeps.ite (fun _ => hc) (fun _ => h))
    · exact Keeps.ite (fun _ => hc) (fun _ => h)

theorem State.alhUpTo_keeps {s₀ s : State} {stamp : Nat} (h : Keeps s₀ s) : Keeps s₀ (s.alhUpTo stamp) := by
  unfold State.alhUpTo
  repeat' with_reducible first
    | assumption | apply State.alhDrain_keeps | apply Keeps.ite | intro _

theorem State.alhCmd_keeps {s₀ s : State} {op idx arg src node stamp : Nat} {may : Bool}
    (h : Keeps s₀ s) : Keeps s₀ (s.alhCmd op idx arg src node stamp may).1 := by
  unfold State.alhCmd
  repeat' with_reducible first
    | assumption | apply State.alhOp_keeps | apply State.alhUpTo_keeps

theorem State.answer_keeps {s₀ s : State} {k : Nat} (h : Keeps s₀ s) : Keeps s₀ (s.answer k) := by
  unfold State.answer
  repeat' with_reducible first
    | assumption | apply State.unlessWaits_keeps | apply State.alhUpTo_keeps | apply Keeps.ite | intro _ | apply Keeps.foldl
    | (apply Keeps.snd; assumption) | (apply Keeps.fst; assumption) | fail_if_no_progress apply Keeps.rest | apply Keeps.idOf
    | extract_lets | split

theorem State.hostCmd_keeps {s₀ s : State} {op idx arg src stamp : Nat} {may : Bool}
    (h : Keeps s₀ s) : Keeps s₀ (s.hostCmd op idx arg src stamp may) := by
  unfold State.hostCmd
  repeat' with_reducible first
    | assumption | apply State.alhCmd_keeps | apply State.wrapInc_keeps | apply State.setFv_keeps

theorem State.ackInput_keeps {s₀ s : State} {ch stamp : Nat} (h : Keeps s₀ s) : Keeps s₀ (s.ackInput ch stamp) := by
  unfold State.ackInput
  repeat' with_reducible first
    | assumption | apply State.alhCmd_keeps | apply State.callAccept_keeps | apply Keeps.ite | intro _ | apply Keeps.foldl

theorem State.alhMode_keeps {s₀ s : State} {m src : Nat} (h : Keeps s₀ s) : Keeps s₀ (s.alhMode m src) := by
  unfold State.alhMode
  repeat' with_reducible first
    | assumption | apply State.alhUpTo_keeps | apply State.setFv_keeps | apply State.irq_keeps | apply State.setEntry_keeps
    | apply State.alhOverlay_keeps | apply Keeps.ite | intro _ | apply Keeps.foldl

theorem State.alhDuty_keeps {s₀ s : State} {n src : Nat} (h : Keeps s₀ s) : Keeps s₀ (s.alhDuty n src) := by
  unfold State.alhDuty
  repeat' with_reducible first
    | assumption | apply State.setDuty_keeps | apply State.alhUpTo_keeps

theorem State.alhTakeWord_keeps {s₀ s : State} {x1 : AlhWord} (h : Keeps s₀ s) : Keeps s₀ (s.alhTakeWord x1) := by
  unfold State.alhTakeWord
  repeat' with_reducible first
    | assumption | apply State.hostCmd_keeps | apply State.alhMode_keeps | apply State.setFv_keeps | apply State.alhDuty_keeps
    | apply Keeps.ite | intro _ | apply Keeps.foldl | (apply Keeps.snd; assumption) | (apply Keeps.fst; assumption)
    | fail_if_no_progress apply Keeps.rest | apply Keeps.idOf | extract_lets | split

theorem State.alhWord_keeps {s₀ s : State} {w : AlhWord} (h : Keeps s₀ s) : Keeps s₀ (s.alhWord w) := by
  unfold State.alhWord
  repeat' with_reducible first
    | assumption | apply State.alhTakeWord_keeps | apply Keeps.ite | intro _ | apply Keeps.foldl | (apply Keeps.snd; assumption)
    | (apply Keeps.fst; assumption) | fail_if_no_progress apply Keeps.rest

theorem State.alhWords_keeps {s₀ s : State} (h : Keeps s₀ s) : Keeps s₀ s.alhWords := by
  unfold State.alhWords
  repeat' with_reducible first
    | assumption | apply State.alhTakeWord_keeps | apply Keeps.ite | intro _ | apply Keeps.foldl | (apply Keeps.snd; assumption)
    | (apply Keeps.fst; assumption) | fail_if_no_progress apply Keeps.rest

theorem State.alhCmdWrite_keeps {s₀ s : State} {p : Port} {v : Word} (h : Keeps s₀ s) : Keeps s₀ (s.alhCmdWrite p v) := by
  unfold State.alhCmdWrite
  repeat' with_reducible first
    | assumption | apply State.alhWord_keeps

theorem State.alhUnused_keeps {s₀ s : State} {e : Nat} (h : Keeps s₀ s) : Keeps s₀ (s.alhUnused e) := by
  unfold State.alhUnused
  repeat' with_reducible first
    | assumption | apply State.alhApply_keeps | apply Keeps.ite | intro _ | apply Keeps.foldl | (apply Keeps.snd; assumption)
    | (apply Keeps.fst; assumption) | fail_if_no_progress apply Keeps.rest

theorem State.modeJudge_keeps {s₀ s : State} {e : Nat} (h : Keeps s₀ s) : Keeps s₀ (s.modeJudge e) := by
  unfold State.modeJudge
  repeat' with_reducible first
    | assumption | apply State.setEntry_keeps | apply State.alhOverlay_keeps | apply Keeps.ite | intro _

theorem State.changesRemapped_keeps {s₀ s : State} (h : Keeps s₀ s) : Keeps s₀ s.changesRemapped := by
  unfold State.changesRemapped
  repeat' with_reducible first
    | assumption | apply Keeps.ite | intro _ | apply Keeps.foldl | (apply Keeps.snd; assumption) | (apply Keeps.fst; assumption)
    | fail_if_no_progress apply Keeps.rest

theorem State.tablesCured_keeps {s₀ s : State} (h : Keeps s₀ s) : Keeps s₀ s.tablesCured := by
  unfold State.tablesCured
  repeat' with_reducible first
    | assumption | apply State.curePoison_keeps

theorem State.alhLoad_keeps {s₀ s : State} {a : AlarmTable} {id : Nat} (h : Keeps s₀ s) : Keeps s₀ (s.alhLoad a id) := by
  unfold State.alhLoad
  repeat' with_reducible first
    | assumption | apply State.changesRemapped_keeps | apply State.tablesCured_keeps | apply State.setGroup_keeps
    | apply State.setEntry_keeps | apply State.setFv_keeps | apply State.alhUnused_keeps | apply State.curePoison_keeps
    | apply State.alhUpdate_keeps | apply State.modeJudge_keeps | apply State.alhJudge_keeps | apply State.safShow_keeps
    | apply State.groupClear_keeps | apply Keeps.ite | intro _ | apply Keeps.foldl | (apply Keeps.snd; assumption)
    | (apply Keeps.fst; assumption) | fail_if_no_progress apply Keeps.rest

theorem State.alhRecount_keeps {s₀ s : State} (h : Keeps s₀ s) : Keeps s₀ s.alhRecount := by
  unfold State.alhRecount
  repeat' with_reducible first
    | assumption | apply State.setContrib_keeps | apply State.mirrorPoint_keeps | apply State.alhUpdate_keeps
    | apply State.setEntry_keeps | apply Keeps.ite | intro _ | apply Keeps.foldl | (apply Keeps.snd; assumption)
    | (apply Keeps.fst; assumption) | fail_if_no_progress apply Keeps.rest

theorem State.alhShift_keeps {s₀ s : State} {n : Nat} (h : Keeps s₀ s) : Keeps s₀ (s.alhShift n) := by
  unfold State.alhShift
  repeat' with_reducible first
    | assumption | apply State.setStamp_keeps | apply Keeps.ite | intro _ | apply Keeps.foldl | (apply Keeps.snd; assumption)
    | (apply Keeps.fst; assumption) | fail_if_no_progress apply Keeps.rest

theorem State.alhStart_keeps {s₀ s : State} (h : Keeps s₀ s) : Keeps s₀ s.alhStart := by
  unfold State.alhStart
  repeat' with_reducible first
    | assumption | apply Keeps.ite | intro _ | apply Keeps.foldl | (apply Keeps.snd; assumption) | (apply Keeps.fst; assumption)
    | fail_if_no_progress apply Keeps.rest

theorem State.alhRegraded_keeps {s₀ s : State} (h : Keeps s₀ s) : Keeps s₀ s.alhRegraded := by
  unfold State.alhRegraded
  repeat' with_reducible first
    | assumption | apply State.alhRegrade_keeps | apply Keeps.ite | intro _ | apply Keeps.foldl

theorem State.alhCommitted_keeps {s₀ s : State} (h : Keeps s₀ s) : Keeps s₀ s.alhCommitted := by
  unfold State.alhCommitted
  repeat' with_reducible first
    | assumption | apply State.alhObjects_keeps | apply State.alhRegraded_keeps | apply State.callsStop_keeps | apply Keeps.ite
    | intro _

theorem State.alhResumes_keeps {s₀ s : State} (h : Keeps s₀ s) : Keeps s₀ s.alhResumes := by
  unfold State.alhResumes
  repeat' with_reducible first
    | assumption | apply State.alhWords_keeps | apply State.alhCommitted_keeps

theorem execPointChange_keeps (t : Nat) (ecc : EccFinds) (s : State) : KeepsNext s (execPointChange t ecc s) := by
  unfold execPointChange
  repeat' with_reducible first
    | exact State.at_keeps (Keeps.refl _) | apply KeepsNext.next | assumption | apply State.unlessWaits_keeps
    | apply State.takeChange_keeps | apply State.alhUpTo_keeps | apply State.eccFinds_keeps | apply KeepsNext.ite | apply Keeps.ite
    | intro _ | apply Keeps.foldl | fail_if_no_progress apply Keeps.rest | apply Keeps.idOf | extract_lets | split

theorem execRungDeadline_keeps (t : Nat) (ladder : Fin 8) (s : State) : KeepsNext s (execRungDeadline t ladder s) := by
  unfold execRungDeadline
  repeat' with_reducible first
    | exact State.at_keeps (Keeps.refl _) | apply KeepsNext.next | assumption | apply State.alhUpTo_keeps | apply State.rungMove_keeps
    | apply KeepsNext.ite | apply Keeps.ite | intro _

theorem execAnswerAccept_keeps (t : Nat) (s : State) : KeepsNext s (execAnswerAccept t s) := by
  unfold execAnswerAccept
  repeat' with_reducible first
    | exact State.at_keeps (Keeps.refl _) | apply KeepsNext.next | assumption | apply State.answer_keeps

theorem execAnswerAckEntry_keeps (t : Nat) (s : State) : KeepsNext s (execAnswerAckEntry t s) := by
  unfold execAnswerAckEntry
  repeat' with_reducible first
    | exact State.at_keeps (Keeps.refl _) | apply KeepsNext.next | assumption | apply State.answer_keeps

theorem execAnswerAckGroup_keeps (t : Nat) (s : State) : KeepsNext s (execAnswerAckGroup t s) := by
  unfold execAnswerAckGroup
  repeat' with_reducible first
    | exact State.at_keeps (Keeps.refl _) | apply KeepsNext.next | assumption | apply State.answer_keeps

theorem execAnswerAckCall_keeps (t : Nat) (s : State) : KeepsNext s (execAnswerAckCall t s) := by
  unfold execAnswerAckCall
  repeat' with_reducible first
    | exact State.at_keeps (Keeps.refl _) | apply KeepsNext.next | assumption | apply State.answer_keeps

theorem execAnswerTakeDuty_keeps (t : Nat) (s : State) : KeepsNext s (execAnswerTakeDuty t s) := by
  unfold execAnswerTakeDuty
  repeat' with_reducible first
    | exact State.at_keeps (Keeps.refl _) | apply KeepsNext.next | assumption | apply State.answer_keeps

theorem execAnswerResetEntry_keeps (t : Nat) (s : State) : KeepsNext s (execAnswerResetEntry t s) := by
  unfold execAnswerResetEntry
  repeat' with_reducible first
    | exact State.at_keeps (Keeps.refl _) | apply KeepsNext.next | assumption | apply State.answer_keeps

end Sys2Proof.Machine
end

