-- ==== Sys2Proof/Laws/KeepsTbs.lean ====
section
/-! SUPPORT. What the operations of Machine/Tbs.lean keep (Laws/Keeps.lean). -/

namespace Sys2Proof.Machine

open Sys2Proof

theorem State.fireAlarm_keeps {s₀ s : State} {b skipped late : Bool} (h : Keeps s₀ s) : Keeps s₀ (s.fireAlarm b skipped late) := by
  unfold State.fireAlarm
  repeat' with_reducible first
    | assumption | apply State.irq_keeps | apply State.setFv_keeps | apply State.wakeSource_keeps | apply Keeps.ite | intro _

theorem State.setHalted_keeps {s₀ s : State} (h : Keeps s₀ s) : Keeps s₀ s.setHalted := by
  unfold State.setHalted
  repeat' with_reducible first
    | assumption | apply State.setFb_keeps

theorem State.secReached_keeps {s₀ s : State} (h : Keeps s₀ s) : Keeps s₀ s.secReached := by
  unfold State.secReached
  repeat' with_reducible first
    | assumption | apply Keeps.ite | intro _ | apply Keeps.foldl | (apply Keeps.snd; assumption) | (apply Keeps.fst; assumption)
    | fail_if_no_progress apply Keeps.rest

theorem State.alarmFire_keeps {s₀ s : State} {b : Bool} (h : Keeps s₀ s) : Keeps s₀ (s.alarmFire b) := by
  unfold State.alarmFire
  repeat' with_reducible first
    | assumption | apply State.fireAlarm_keeps | apply Keeps.ite | intro _ | apply Keeps.foldl | (apply Keeps.snd; assumption)
    | (apply Keeps.fst; assumption) | fail_if_no_progress apply Keeps.rest

theorem State.dayReached_keeps {s₀ s : State} (h : Keeps s₀ s) : Keeps s₀ s.dayReached := by
  unfold State.dayReached
  repeat' with_reducible first
    | assumption | apply Keeps.ite | intro _ | apply Keeps.foldl | (apply Keeps.snd; assumption) | (apply Keeps.fst; assumption)
    | fail_if_no_progress apply Keeps.rest

theorem State.applyTimeWrite_keeps {s₀ s : State} {w : TimeWrite} (h : Keeps s₀ s) : Keeps s₀ (s.applyTimeWrite w) := by
  unfold State.applyTimeWrite
  repeat' with_reducible first
    | assumption | apply State.clampAt_keeps | apply State.setHalted_keeps | apply State.setFv_keeps | apply State.dayReached_keeps
    | apply State.irq_keeps | apply State.setFb_keeps | apply State.fireAlarm_keeps | apply Keeps.ite | intro _ | apply Keeps.foldl
    | (apply Keeps.snd; assumption) | (apply Keeps.fst; assumption) | fail_if_no_progress apply Keeps.rest

theorem State.tbsCtrl_keeps {s₀ s : State} {v : Word} (h : Keeps s₀ s) : Keeps s₀ (s.tbsCtrl v) := by
  have h1 := State.setHalted_keeps h
  unfold State.tbsCtrl
  dsimp only
  split
  · exact Keeps.rest h1
  · exact h1
  · exact Keeps.foldl (fun t x ht => State.clampAt_keeps ht) _ h1

theorem State.applyTimeWrites_keeps {s₀ s : State} (h : Keeps s₀ s) : Keeps s₀ s.applyTimeWrites := by
  unfold State.applyTimeWrites
  repeat' with_reducible first
    | assumption | apply State.applyTimeWrite_keeps | apply Keeps.ite | intro _ | apply Keeps.foldl | (apply Keeps.snd; assumption)
    | (apply Keeps.fst; assumption) | fail_if_no_progress apply Keeps.rest

theorem State.tbsCommitted_keeps {s₀ s : State} {old : State} (h : Keeps s₀ s) : Keeps s₀ (s.tbsCommitted old) := by
  unfold State.tbsCommitted
  repeat' with_reducible first
    | assumption | apply State.secReached_keeps | apply Keeps.ite | intro _ | apply Keeps.foldl | (apply Keeps.snd; assumption)
    | (apply Keeps.fst; assumption) | fail_if_no_progress apply Keeps.rest

theorem State.recordTimebase_keeps {s₀ s : State} (h : Keeps s₀ s) : Keeps s₀ s.recordTimebase := by
  unfold State.recordTimebase
  repeat' with_reducible first
    | assumption | apply Keeps.ite | intro _ | apply Keeps.foldl | (apply Keeps.snd; assumption) | (apply Keeps.fst; assumption)
    | fail_if_no_progress apply Keeps.rest

theorem State.coldClocks_keeps {s₀ s : State} (h : Keeps s₀ s) : Keeps s₀ s.coldClocks := by
  unfold State.coldClocks
  repeat' with_reducible first
    | assumption | apply State.setFv_keeps | apply State.secReached_keeps | apply State.setFb_keeps | apply Keeps.ite | intro _
    | apply Keeps.foldl | (apply Keeps.snd; assumption) | (apply Keeps.fst; assumption) | fail_if_no_progress apply Keeps.rest

theorem State.renumber_keeps {s₀ s : State} {n : Nat} (hn : s₀.now ≤ n) (h : Keeps s₀ s) : Keeps s₀ (s.renumber n) :=
  Keeps.renumber hn h

theorem State.startClocks_keeps {s₀ s : State} (hn : s₀.now ≤ s.clockFloor) (h : Keeps s₀ s) : Keeps s₀ s.startClocks := by
  have hi : ∀ {c : Prop} [Decidable c] {t u : State}, Keeps s₀ t → Keeps s₀ u → Keeps s₀ (if c then t else u) :=
    fun a b => Keeps.ite (fun _ => a) (fun _ => b)
  unfold State.startClocks
  extract_lets lost broken resumed noCount s1 s2 s3 s4
  have h1 : Keeps s₀ s1 := State.renumber_keeps (Nat.le_trans hn (Nat.le_max_left _ _)) h
  clear_value s1
  have h2 : Keeps s₀ s2 := hi (State.recordTimebase_keeps h1) h1
  have h3 : Keeps s₀ s3 := hi (State.setFv_keeps h2) h2
  have h4 : Keeps s₀ s4 := hi (State.dayReached_keeps (State.coldClocks_keeps h3)) h3
  exact Keeps.rest h4

theorem State.clocksShow_keeps {s₀ s : State} (h : Keeps s₀ s) : Keeps s₀ s.clocksShow := by
  unfold State.clocksShow
  repeat' with_reducible first
    | assumption | apply State.setFb_keeps | apply State.fireAlarm_keeps | apply Keeps.ite | intro _ | apply Keeps.foldl
    | (apply Keeps.snd; assumption) | (apply Keeps.fst; assumption) | fail_if_no_progress apply Keeps.rest

theorem execAlarmFire_keeps (t : Nat) (b : Bool) (s : State) : KeepsNext s (execAlarmFire t b s) := by
  unfold execAlarmFire
  repeat' with_reducible first
    | exact State.at_keeps (Keeps.refl _) | apply KeepsNext.next | assumption | apply State.alarmFire_keeps

theorem execTimeWriteApply_keeps (t : Nat) (s : State) : KeepsNext s (execTimeWriteApply t s) := by
  unfold execTimeWriteApply
  repeat' with_reducible first
    | exact State.at_keeps (Keeps.refl _) | apply KeepsNext.next | assumption | apply State.applyTimeWrites_keeps
    | apply KeepsNext.ite | apply Keeps.ite | intro _

theorem execPeriodicEvent_keeps (t : Nat) (s : State) : KeepsNext s (execPeriodicEvent t s) := by
  unfold execPeriodicEvent
  repeat' with_reducible first
    | exact State.at_keeps (Keeps.refl _) | apply KeepsNext.next | assumption | apply State.irq_keeps | apply State.wrapInc_keeps
    | apply KeepsNext.ite | apply Keeps.ite | intro _ | apply Keeps.foldl | (apply Keeps.snd; assumption)
    | (apply Keeps.fst; assumption) | fail_if_no_progress apply Keeps.rest

theorem execWeekdayAdvance_keeps (t : Nat) (s : State) : KeepsNext s (execWeekdayAdvance t s) := by
  unfold execWeekdayAdvance
  repeat' with_reducible first
    | exact State.at_keeps (Keeps.refl _) | apply KeepsNext.next | assumption | apply State.setFv_keeps | apply KeepsNext.ite
    | apply Keeps.ite | intro _ | apply Keeps.foldl | (apply Keeps.snd; assumption) | (apply Keeps.fst; assumption)
    | fail_if_no_progress apply Keeps.rest

theorem execTcompUpdate_keeps (t : Nat) (temp : Q) (s : State) : KeepsNext s (execTcompUpdate t temp s) := by
  unfold execTcompUpdate
  repeat' with_reducible first
    | exact State.at_keeps (Keeps.refl _) | apply KeepsNext.next | assumption | apply State.setFv_keeps | apply KeepsNext.ite
    | apply Keeps.ite | intro _ | apply Keeps.foldl | (apply Keeps.snd; assumption) | (apply Keeps.fst; assumption)
    | fail_if_no_progress apply Keeps.rest

theorem execCalendarTop_keeps (t : Nat) (s : State) : KeepsNext s (execCalendarTop t s) := by
  unfold execCalendarTop
  repeat' with_reducible first
    | exact State.at_keeps (Keeps.refl _) | apply KeepsNext.next | assumption | apply State.setFv_keeps | apply KeepsNext.ite
    | apply Keeps.ite | intro _

theorem execTimebaseRecord_keeps (t : Nat) (xratio : Int) (s : State) : KeepsNext s (execTimebaseRecord t xratio s) := by
  unfold execTimebaseRecord
  repeat' with_reducible first
    | exact State.at_keeps (Keeps.refl _) | apply KeepsNext.next | assumption | apply State.setFv_keeps
    | apply State.recordTimebase_keeps | apply KeepsNext.ite | apply Keeps.ite | intro _

theorem execReferenceStopped_keeps (t : Nat) (s : State) : KeepsNext s (execReferenceStopped t s) := by
  unfold execReferenceStopped
  repeat' with_reducible first
    | exact State.at_keeps (Keeps.refl _) | apply KeepsNext.next | assumption | apply KeepsNext.ite | apply Keeps.ite | intro _
    | apply Keeps.foldl | (apply Keeps.snd; assumption) | (apply Keeps.fst; assumption) | fail_if_no_progress apply Keeps.rest

theorem execReferenceReturn_keeps (t : Nat) (s : State) : KeepsNext s (execReferenceReturn t s) := by
  unfold execReferenceReturn
  repeat' with_reducible first
    | exact State.at_keeps (Keeps.refl _) | apply KeepsNext.next | assumption | apply State.failsUntil_keeps | apply KeepsNext.ite
    | apply Keeps.ite | intro _ | apply Keeps.foldl | (apply Keeps.snd; assumption) | (apply Keeps.fst; assumption)
    | fail_if_no_progress apply Keeps.rest

theorem execOscStop_keeps (t : Nat) (s : State) : KeepsNext s (execOscStop t s) := by
  unfold execOscStop
  repeat' with_reducible first
    | exact State.at_keeps (Keeps.refl _) | apply KeepsNext.next | assumption | apply State.setFv_keeps | apply State.irq_keeps
    | apply KeepsNext.ite | apply Keeps.ite | intro _ | apply Keeps.foldl | (apply Keeps.snd; assumption)
    | (apply Keeps.fst; assumption) | fail_if_no_progress apply Keeps.rest

theorem execX32Restart_keeps (t : Nat) (s : State) : KeepsNext s (execX32Restart t s) := by
  unfold execX32Restart
  repeat' with_reducible first
    | exact State.at_keeps (Keeps.refl _) | apply KeepsNext.next | assumption | apply State.setFv_keeps | apply KeepsNext.ite
    | apply Keeps.ite | intro _ | apply Keeps.foldl | (apply Keeps.snd; assumption) | (apply Keeps.fst; assumption)
    | fail_if_no_progress apply Keeps.rest

end Sys2Proof.Machine
end

