-- ==== Sys2Proof/Laws/KeepsPnl.lean ====
section
/-! SUPPORT. What the operations of Machine/Pnl.lean keep (Laws/Keeps.lean). -/

namespace Sys2Proof.Machine

open Sys2Proof

theorem State.beginPass_keeps {s₀ s : State} {kind : Nat} {front : SMap Byte} {lines : List Nat}
    (h : Keeps s₀ s) : Keeps s₀ (s.beginPass kind front lines) := by
  unfold State.beginPass
  repeat' with_reducible first
    | assumption | apply State.wrapInc_keeps | apply State.setFb_keeps | apply State.setFv_keeps | apply Keeps.ite | intro _
    | apply Keeps.foldl | (apply Keeps.snd; assumption) | (apply Keeps.fst; assumption) | fail_if_no_progress apply Keeps.rest

theorem State.beginBand_keeps {s₀ s : State} (h : Keeps s₀ s) : Keeps s₀ s.beginBand := by
  unfold State.beginBand
  repeat' with_reducible first
    | assumption | apply State.beginPass_keeps | apply Keeps.ite | intro _ | apply Keeps.foldl | (apply Keeps.snd; assumption)
    | (apply Keeps.fst; assumption) | fail_if_no_progress apply Keeps.rest

theorem State.bandPass_keeps {s₀ s : State} (h : Keeps s₀ s) : Keeps s₀ s.bandPass := by
  unfold State.bandPass
  repeat' with_reducible first
    | assumption | apply State.beginBand_keeps | apply Keeps.ite | intro _ | apply Keeps.foldl | (apply Keeps.snd; assumption)
    | (apply Keeps.fst; assumption) | fail_if_no_progress apply Keeps.rest

theorem State.hostPass_keeps {s₀ s : State} (h : Keeps s₀ s) : Keeps s₀ s.hostPass := by
  unfold State.hostPass
  repeat' with_reducible first
    | assumption | apply State.beginPass_keeps | apply State.setFv_keeps | apply Keeps.ite | intro _ | apply Keeps.foldl
    | (apply Keeps.snd; assumption) | (apply Keeps.fst; assumption) | fail_if_no_progress apply Keeps.rest

theorem State.crcMismatch_keeps {s₀ s : State} (h : Keeps s₀ s) : Keeps s₀ s.crcMismatch := by
  unfold State.crcMismatch
  repeat' with_reducible first
    | assumption | apply State.irq_keeps | apply State.satInc_keeps | apply State.setFb_keeps | apply Keeps.ite | intro _
    | apply Keeps.foldl | (apply Keeps.snd; assumption) | (apply Keeps.fst; assumption) | fail_if_no_progress apply Keeps.rest

theorem State.rewritePass_keeps {s₀ s : State} (h : Keeps s₀ s) : Keeps s₀ s.rewritePass := by
  unfold State.rewritePass
  repeat' with_reducible first
    | assumption | apply State.beginPass_keeps

theorem State.rewriteEnd_keeps {s₀ s : State} (h : Keeps s₀ s) : Keeps s₀ s.rewriteEnd := by
  unfold State.rewriteEnd
  repeat' with_reducible first
    | assumption | apply State.setFb_keeps | apply State.crcMismatch_keeps | apply State.rewritePass_keeps | apply Keeps.ite | intro _
    | apply Keeps.foldl | (apply Keeps.snd; assumption) | (apply Keeps.fst; assumption) | fail_if_no_progress apply Keeps.rest

theorem State.fullPassEnd_keeps {s₀ s : State} {kind : Nat} (h : Keeps s₀ s) : Keeps s₀ (s.fullPassEnd kind) := by
  unfold State.fullPassEnd
  repeat' with_reducible first
    | assumption | apply State.rewriteEnd_keeps | apply State.crcMismatch_keeps | apply State.setFb_keeps | apply Keeps.ite | intro _
    | apply Keeps.foldl | (apply Keeps.snd; assumption) | (apply Keeps.fst; assumption) | fail_if_no_progress apply Keeps.rest

theorem State.cleared_keeps {s₀ s : State} (h : Keeps s₀ s) : Keeps s₀ s.cleared := by
  unfold State.cleared
  repeat' with_reducible first
    | assumption | apply Keeps.ite | intro _ | apply Keeps.foldl | (apply Keeps.snd; assumption) | (apply Keeps.fst; assumption)
    | fail_if_no_progress apply Keeps.rest

theorem State.passLine_keeps {s₀ s : State} (h : Keeps s₀ s) : Keeps s₀ s.passLine := by
  unfold State.passLine
  repeat' with_reducible first
    | assumption | apply State.setFv_keeps | apply State.beginBand_keeps | apply State.irq_keeps | apply State.setFb_keeps
    | apply State.fullPassEnd_keeps | apply Keeps.ite | intro _ | apply Keeps.foldl | (apply Keeps.snd; assumption)
    | (apply Keeps.fst; assumption) | fail_if_no_progress apply Keeps.rest | apply Keeps.idOf | extract_lets | split

theorem State.lineWritten_keeps {s₀ s : State} (h : Keeps s₀ s) : Keeps s₀ s.lineWritten := by
  unfold State.lineWritten
  repeat' with_reducible first
    | assumption | apply State.cleared_keeps | apply State.passLine_keeps | apply Keeps.ite | intro _

theorem State.bandRest_keeps {s₀ s : State} (h : Keeps s₀ s) : Keeps s₀ s.bandRest := by
  unfold State.bandRest
  repeat' with_reducible first
    | assumption | apply State.bandPass_keeps | apply Keeps.ite | intro _ | apply Keeps.foldl | (apply Keeps.snd; assumption)
    | (apply Keeps.fst; assumption) | fail_if_no_progress apply Keeps.rest

theorem State.pnlPut_keeps {s₀ s : State} (h : Keeps s₀ s) : Keeps s₀ s.pnlPut := by
  unfold State.pnlPut
  repeat' with_reducible first
    | assumption | apply Keeps.ite | intro _ | apply Keeps.foldl | (apply Keeps.snd; assumption) | (apply Keeps.fst; assumption)
    | fail_if_no_progress apply Keeps.rest

theorem State.pnlUpdate_keeps {s₀ s : State} (h : Keeps s₀ s) : Keeps s₀ s.pnlUpdate := by
  unfold State.pnlUpdate
  repeat' with_reducible first
    | assumption | apply State.setFb_keeps | apply Keeps.ite | intro _ | apply Keeps.foldl | (apply Keeps.snd; assumption)
    | (apply Keeps.fst; assumption) | fail_if_no_progress apply Keeps.rest

theorem State.pnlFull_keeps {s₀ s : State} (h : Keeps s₀ s) : Keeps s₀ s.pnlFull := by
  unfold State.pnlFull
  repeat' with_reducible first
    | assumption | apply Keeps.ite | intro _ | apply Keeps.foldl | (apply Keeps.snd; assumption) | (apply Keeps.fst; assumption)
    | fail_if_no_progress apply Keeps.rest

theorem State.pnlCopyFront_keeps {s₀ s : State} (h : Keeps s₀ s) : Keeps s₀ s.pnlCopyFront := by
  unfold State.pnlCopyFront
  repeat' with_reducible first
    | assumption | apply Keeps.ite | intro _ | apply Keeps.foldl | (apply Keeps.snd; assumption) | (apply Keeps.fst; assumption)
    | fail_if_no_progress apply Keeps.rest

theorem State.pnlCtrl_keeps {s₀ s : State} {v : Word} (h : Keeps s₀ s) : Keeps s₀ (s.pnlCtrl v) := by
  unfold State.pnlCtrl
  repeat' with_reducible first
    | assumption | apply State.pnlPut_keeps | apply State.pnlUpdate_keeps | apply State.pnlFull_keeps | apply State.pnlCopyFront_keeps
    | apply Keeps.ite | intro _

theorem State.tempBand_keeps {s₀ s : State} (h : Keeps s₀ s) : Keeps s₀ s.tempBand := by
  unfold State.tempBand
  repeat' with_reducible first
    | assumption | apply State.setFb_keeps | apply State.irqIf_keeps | apply State.setFv_keeps | apply Keeps.ite | intro _

theorem State.pnlClear_keeps {s₀ s : State} (h : Keeps s₀ s) : Keeps s₀ s.pnlClear := by
  unfold State.pnlClear
  repeat' with_reducible first
    | assumption | apply State.setFb_keeps | apply Keeps.ite | intro _ | apply Keeps.foldl | (apply Keeps.snd; assumption)
    | (apply Keeps.fst; assumption) | fail_if_no_progress apply Keeps.rest

theorem State.pvenRises_keeps {s₀ s : State} (h : Keeps s₀ s) : Keeps s₀ s.pvenRises := by
  unfold State.pvenRises
  repeat' with_reducible first
    | assumption | apply Keeps.ite | intro _ | apply Keeps.foldl | (apply Keeps.snd; assumption) | (apply Keeps.fst; assumption)
    | fail_if_no_progress apply Keeps.rest

theorem State.pnlPower_keeps {s₀ s : State} (h : Keeps s₀ s) : Keeps s₀ s.pnlPower := by
  unfold State.pnlPower
  repeat' with_reducible first
    | assumption | apply State.pvenRises_keeps | apply State.setFb_keeps | apply Keeps.ite | intro _ | apply Keeps.foldl
    | (apply Keeps.snd; assumption) | (apply Keeps.fst; assumption) | fail_if_no_progress apply Keeps.rest

theorem State.blinkCommitted_keeps {s₀ s : State} (h : Keeps s₀ s) : Keeps s₀ s.blinkCommitted := by
  unfold State.blinkCommitted
  repeat' with_reducible first
    | assumption | apply State.bandPass_keeps | apply Keeps.ite | intro _ | apply Keeps.foldl | (apply Keeps.snd; assumption)
    | (apply Keeps.fst; assumption) | fail_if_no_progress apply Keeps.rest

theorem State.pnlCommitted_keeps {s₀ s : State} {old : State} (h : Keeps s₀ s) : Keeps s₀ (s.pnlCommitted old) := by
  unfold State.pnlCommitted
  repeat' with_reducible first
    | assumption | apply State.pnlClear_keeps | apply State.blinkCommitted_keeps | apply State.pnlPower_keeps | apply Keeps.ite
    | intro _ | apply Keeps.foldl | (apply Keeps.snd; assumption) | (apply Keeps.fst; assumption)
    | fail_if_no_progress apply Keeps.rest

theorem State.pnlStop_keeps {s₀ s : State} (h : Keeps s₀ s) : Keeps s₀ s.pnlStop := by
  unfold State.pnlStop
  repeat' with_reducible first
    | assumption | apply State.lineWritten_keeps | apply Keeps.ite | intro _ | apply Keeps.foldl | (apply Keeps.snd; assumption)
    | (apply Keeps.fst; assumption) | fail_if_no_progress apply Keeps.rest

theorem State.pnlOff_keeps {s₀ s : State} (h : Keeps s₀ s) : Keeps s₀ s.pnlOff := by
  unfold State.pnlOff
  repeat' with_reducible first
    | assumption | apply Keeps.ite | intro _ | apply Keeps.foldl | (apply Keeps.snd; assumption) | (apply Keeps.fst; assumption)
    | fail_if_no_progress apply Keeps.rest

theorem State.pnlStart_keeps {s₀ s : State} (h : Keeps s₀ s) : Keeps s₀ s.pnlStart := by
  unfold State.pnlStart
  repeat' with_reducible first
    | assumption | apply State.setFv_keeps | apply State.setFb_keeps | apply State.satInc_keeps | apply State.pvenRises_keeps
    | apply Keeps.ite | intro _ | apply Keeps.foldl | (apply Keeps.snd; assumption) | (apply Keeps.fst; assumption)
    | fail_if_no_progress apply Keeps.rest | apply Keeps.idOf | extract_lets | split

theorem execPassStart_keeps (t : Nat) (s : State) : KeepsNext s (execPassStart t s) := by
  unfold execPassStart
  repeat' with_reducible first
    | exact State.at_keeps (Keeps.refl _) | apply KeepsNext.next | assumption | apply State.beginBand_keeps
    | apply State.hostPass_keeps | apply KeepsNext.ite | apply Keeps.ite | intro _

theorem execLineWritten_keeps (t : Nat) (s : State) : KeepsNext s (execLineWritten t s) := by
  unfold execLineWritten
  repeat' with_reducible first
    | exact State.at_keeps (Keeps.refl _) | apply KeepsNext.next | assumption | apply State.lineWritten_keeps | apply KeepsNext.ite
    | apply Keeps.ite | intro _

theorem execBandPass_keeps (t : Nat) (s : State) : KeepsNext s (execBandPass t s) := by
  unfold execBandPass
  repeat' with_reducible first
    | exact State.at_keeps (Keeps.refl _) | apply KeepsNext.next | assumption | apply State.bandPass_keeps | apply KeepsNext.ite
    | apply Keeps.ite | intro _

theorem execBlink_keeps (t : Nat) (s : State) : KeepsNext s (execBlink t s) := by
  unfold execBlink
  repeat' with_reducible first
    | exact State.at_keeps (Keeps.refl _) | apply KeepsNext.next | assumption | apply State.bandPass_keeps | apply KeepsNext.ite
    | apply Keeps.ite | intro _ | apply Keeps.foldl | (apply Keeps.snd; assumption) | (apply Keeps.fst; assumption)
    | fail_if_no_progress apply Keeps.rest

theorem execIdleCrcCheck_keeps (t : Nat) (upsets shadowUpsets : List (Nat × Byte)) (s : State) :
    KeepsNext s (execIdleCrcCheck t upsets shadowUpsets s) := by
  unfold execIdleCrcCheck
  repeat' with_reducible first
    | exact State.at_keeps (Keeps.refl _) | apply KeepsNext.next | assumption | apply State.crcMismatch_keeps | apply KeepsNext.ite
    | apply Keeps.ite | intro _ | apply Keeps.foldl | (apply Keeps.snd; assumption) | (apply Keeps.fst; assumption)
    | fail_if_no_progress apply Keeps.rest

theorem execPanelRewrite_keeps (t : Nat) (upsets : List (Nat × Byte)) (s : State) : KeepsNext s (execPanelRewrite t upsets s) := by
  unfold execPanelRewrite
  repeat' with_reducible first
    | exact State.at_keeps (Keeps.refl _) | apply KeepsNext.next | assumption | apply State.rewritePass_keeps | apply KeepsNext.ite
    | apply Keeps.ite | intro _ | apply Keeps.foldl | (apply Keeps.snd; assumption) | (apply Keeps.fst; assumption)
    | fail_if_no_progress apply Keeps.rest

theorem execPcomEdge_keeps (t : Nat) (s : State) : KeepsNext s (execPcomEdge t s) := by
  unfold execPcomEdge
  repeat' with_reducible first
    | exact State.at_keeps (Keeps.refl _) | apply KeepsNext.next | assumption | apply KeepsNext.ite | apply Keeps.ite | intro _
    | apply Keeps.foldl | (apply Keeps.snd; assumption) | (apply Keeps.fst; assumption) | fail_if_no_progress apply Keeps.rest

end Sys2Proof.Machine
end

