-- ==== Sys2Proof/Laws/KeepsPte.lean ====
section
/-! SUPPORT. What the operations of Machine/Pte.lean keep (Laws/Keeps.lean). -/

namespace Sys2Proof.Machine

open Sys2Proof

theorem State.sysPoint_keeps {s₀ s : State} {n : Nat} {v lo hi : Q} (h : Keeps s₀ s) : Keeps s₀ (s.sysPoint n v lo hi) := by
  unfold State.sysPoint
  repeat' with_reducible first
    | assumption | apply State.sourceWrite_keeps

theorem State.renewPoints_keeps {s₀ s : State} {vmain avdd vsx vbackup temp power : Q}
    (h : Keeps s₀ s) : Keeps s₀ (s.renewPoints vmain avdd vsx vbackup temp power) := by
  unfold State.renewPoints
  repeat' with_reducible first
    | assumption | apply State.sysPoint_keeps | apply State.sourceWrite_keeps | apply Keeps.ite | intro _ | apply Keeps.foldl

theorem State.laneEval_keeps {s₀ : State} {now : Nat} (l : List (Nat × Shadow)) :
    ∀ {s : State}, Keeps s₀ s → Keeps s₀ (s.laneEval now l).1 := by
  induction l with
  | nil => exact fun h => h
  | cons n l ih =>
    intro s h
    unfold State.laneEval
    dsimp only
    split
    · exact State.irq_keeps h
    · exact ih (State.scalarEval_keeps h)

theorem State.laneGo_keeps {s₀ s : State} {reev : Nat} (h : Keeps s₀ s) : Keeps s₀ (s.laneGo reev) := by
  unfold State.laneGo
  repeat' with_reducible first
    | assumption | apply State.laneEval_keeps | apply State.classEvents_keeps | apply State.setFb_keeps | apply State.setFv_keeps
    | apply State.wrapInc_keeps | apply Keeps.ite | intro _ | apply Keeps.foldl | (apply Keeps.snd; assumption)
    | (apply Keeps.fst; assumption) | fail_if_no_progress apply Keeps.rest | apply Keeps.idOf | extract_lets | split

theorem State.lanePass_keeps {s₀ s : State} {reev : Nat} (h : Keeps s₀ s) : Keeps s₀ (s.lanePass reev) := by
  unfold State.lanePass
  repeat' with_reducible first
    | assumption | apply State.wrapInc_keeps | apply State.setStamp_keeps | apply State.draw_keeps | apply State.setFv_keeps
    | apply State.setFb_keeps | apply State.irq_keeps | apply State.satInc_keeps | apply State.laneGo_keeps | apply Keeps.ite
    | intro _ | apply Keeps.foldl | (apply Keeps.snd; assumption) | (apply Keeps.fst; assumption)
    | fail_if_no_progress apply Keeps.rest | apply Keeps.idOf | extract_lets | split

theorem State.frontier_keeps {s₀ s : State} {p : Nat} (h : Keeps s₀ s) : Keeps s₀ (s.frontier p) := by
  unfold State.frontier
  repeat' with_reducible first
    | assumption | apply State.setFv_keeps | apply Keeps.ite | intro _ | apply Keeps.foldl | (apply Keeps.snd; assumption)
    | (apply Keeps.fst; assumption) | fail_if_no_progress apply Keeps.rest

theorem State.enterPlane_keeps {s₀ s : State} {i : Nat} (h : Keeps s₀ s) : Keeps s₀ (s.enterPlane i) := by
  unfold State.enterPlane
  repeat' with_reducible first
    | assumption | apply State.irq_keeps | apply State.setFv_keeps | apply State.satInc_keeps | apply Keeps.ite | intro _
    | apply Keeps.foldl | (apply Keeps.snd; assumption) | (apply Keeps.fst; assumption) | fail_if_no_progress apply Keeps.rest

theorem State.leavePlane_keeps {s₀ s : State} {i : Nat} (h : Keeps s₀ s) : Keeps s₀ (s.leavePlane i) := by
  unfold State.leavePlane
  repeat' with_reducible first
    | assumption | apply State.frontier_keeps | apply State.planeUnlatched_keeps | apply Keeps.ite | intro _ | apply Keeps.foldl
    | (apply Keeps.snd; assumption) | (apply Keeps.fst; assumption) | fail_if_no_progress apply Keeps.rest

theorem State.sweepEval_keeps {s₀ : State} {x : AtPlane} (l : List Nat) :
    ∀ {s : State}, Keeps s₀ s → Keeps s₀ (s.sweepEval x l) := by
  induction l with
  | nil => exact fun h => State.leavePlane_keeps h
  | cons p l ih =>
    exact fun h => Keeps.ite (fun _ => State.irq_keeps (State.frontier_keeps h)) (fun _ => ih (State.specEval_keeps h))

theorem State.sweepShift_keeps {s₀ s : State} {n : Nat} (h : Keeps s₀ s) : Keeps s₀ (s.sweepShift n) := by
  unfold State.sweepShift
  repeat' with_reducible first
    | assumption | apply Keeps.ite | intro _ | apply Keeps.foldl | (apply Keeps.snd; assumption) | (apply Keeps.fst; assumption)
    | fail_if_no_progress apply Keeps.rest

theorem State.runsShift_keeps {s₀ s : State} {n : Nat} (h : Keeps s₀ s) : Keeps s₀ (s.runsShift n) := by
  unfold State.runsShift
  repeat' with_reducible first
    | assumption | apply Keeps.ite | intro _ | apply Keeps.foldl | (apply Keeps.snd; assumption) | (apply Keeps.fst; assumption)
    | fail_if_no_progress apply Keeps.rest

theorem execScalarPass_keeps (t : Nat) (vmain avdd vsx vbackup temp power : Q) (reev : Nat) (ecc : EccFinds) (s : State) :
    KeepsNext s (execScalarPass t vmain avdd vsx vbackup temp power reev ecc s) := by
  unfold execScalarPass
  repeat' with_reducible first
    | exact State.at_keeps (Keeps.refl _) | apply KeepsNext.next | assumption | apply State.hotRate_keeps
    | apply State.renewPoints_keeps | apply State.eccFinds_keeps | apply State.laneGo_keeps | apply State.lanePass_keeps
    | apply State.irqIf_keeps | apply State.safShow_keeps | apply State.tempBand_keeps | apply KeepsNext.ite | apply Keeps.ite
    | intro _

theorem execSweepStart_keeps (t : Nat) (s : State) : KeepsNext s (execSweepStart t s) := by
  unfold execSweepStart
  repeat' with_reducible first
    | exact State.at_keeps (Keeps.refl _) | apply KeepsNext.next | assumption | apply State.setStamp_keeps | apply State.wrapInc_keeps
    | apply State.setFv_keeps | apply State.frontier_keeps | apply KeepsNext.ite | apply Keeps.ite | intro _ | apply Keeps.foldl
    | (apply Keeps.snd; assumption) | (apply Keeps.fst; assumption) | fail_if_no_progress apply Keeps.rest

theorem execPlaneEvaluation_keeps (t reev : Nat) (ecc : EccFinds) (s : State) : KeepsNext s (execPlaneEvaluation t reev ecc s) := by
  unfold execPlaneEvaluation
  repeat' with_reducible first
    | exact State.at_keeps (Keeps.refl _) | apply KeepsNext.next | assumption | apply State.irqIf_keeps | apply State.frontier_keeps
    | apply State.leavePlane_keeps | apply State.eccFinds_keeps | apply State.enterPlane_keeps | apply State.safShow_keeps
    | apply State.classEvents_keeps | apply State.sweepEval_keeps | apply State.wrapInc_keeps | apply KeepsNext.ite | apply Keeps.ite
    | intro _ | apply Keeps.foldl | fail_if_no_progress apply Keeps.rest | apply Keeps.idOf | extract_lets | split

theorem execSweepEnd_keeps (t conflict shelf : Nat) (s : State) : KeepsNext s (execSweepEnd t conflict shelf s) := by
  unfold execSweepEnd
  repeat' with_reducible first
    | exact State.at_keeps (Keeps.refl _) | apply KeepsNext.next | assumption | apply State.setFv_keeps | apply State.setFb_keeps
    | apply State.irq_keeps | apply State.satInc_keeps | apply State.stoSweep_keeps | apply KeepsNext.ite | apply Keeps.ite | intro _

end Sys2Proof.Machine
end

