-- ==== Sys2Proof/Laws/KeepsAge.lean ====
section
/-! SUPPORT. What the operations of Machine/Age.lean keep (Laws/Keeps.lean). -/

namespace Sys2Proof.Machine

open Sys2Proof

theorem State.ageCount_keeps {s₀ s : State} {run op : Bool} (h : Keeps s₀ s) : Keeps s₀ (s.ageCount run op) := by
  unfold State.ageCount
  repeat' with_reducible first
    | assumption | apply Keeps.ite | intro _ | apply Keeps.foldl | (apply Keeps.snd; assumption) | (apply Keeps.fst; assumption)
    | fail_if_no_progress apply Keeps.rest

theorem State.showMargin_keeps {s₀ s : State} {d : Nat} (h : Keeps s₀ s) : Keeps s₀ (s.showMargin d) := by
  unfold State.showMargin
  repeat' with_reducible first
    | assumption | apply State.setFv_keeps | apply State.sourceWrite_keeps | apply State.irqIf_keeps | apply Keeps.ite | intro _
    | apply Keeps.foldl | (apply Keeps.snd; assumption) | (apply Keeps.fst; assumption) | fail_if_no_progress apply Keeps.rest

theorem State.showLowest_keeps {s₀ s : State} (h : Keeps s₀ s) : Keeps s₀ s.showLowest := by
  unfold State.showLowest
  repeat' with_reducible first
    | assumption | apply State.setFb_keeps | apply State.setFv_keeps

theorem State.keepDay_keeps {s₀ s : State} {d : Nat} (h : Keeps s₀ s) : Keeps s₀ (s.keepDay d) := by
  unfold State.keepDay
  repeat' with_reducible first
    | assumption | apply Keeps.ite | intro _ | apply Keeps.foldl | (apply Keeps.snd; assumption) | (apply Keeps.fst; assumption)
    | fail_if_no_progress apply Keeps.rest

theorem State.measureDomain_keeps {s₀ s : State} {m : MonitorInput} {d : Nat} (h : Keeps s₀ s) : Keeps s₀ (s.measureDomain m d) := by
  unfold State.measureDomain
  repeat' with_reducible first
    | assumption | apply State.setFv_keeps | apply State.showMargin_keeps | apply State.keepDay_keeps | apply Keeps.ite | intro _
    | apply Keeps.foldl | (apply Keeps.snd; assumption) | (apply Keeps.fst; assumption) | fail_if_no_progress apply Keeps.rest

theorem State.watchRelax_keeps {s₀ s : State} {m : MonitorInput} (h : Keeps s₀ s) : Keeps s₀ (s.watchRelax m) := by
  unfold State.watchRelax
  repeat' with_reducible first
    | assumption | apply Keeps.ite | intro _ | apply Keeps.foldl | (apply Keeps.snd; assumption) | (apply Keeps.fst; assumption)
    | fail_if_no_progress apply Keeps.rest

theorem State.plannedShow_keeps {s₀ s : State} (h : Keeps s₀ s) : Keeps s₀ s.plannedShow := by
  unfold State.plannedShow
  repeat' with_reducible first
    | assumption | apply State.setFv_keeps | apply Keeps.ite | intro _ | apply Keeps.foldl

theorem State.setPlan_keeps {s₀ s : State} {p : Option AgePlan} (h : Keeps s₀ s) : Keeps s₀ (s.setPlan p) := by
  unfold State.setPlan
  repeat' with_reducible first
    | assumption | apply Keeps.ite | intro _ | apply Keeps.foldl | (apply Keeps.snd; assumption) | (apply Keeps.fst; assumption)
    | fail_if_no_progress apply Keeps.rest

theorem State.raiseOffset_keeps {s₀ s : State} {p : AgePlan} {d : Nat} (h : Keeps s₀ s) : Keeps s₀ (s.raiseOffset p d) := by
  unfold State.raiseOffset
  repeat' with_reducible first
    | assumption | apply State.setPlan_keeps | apply State.setFv_keeps | apply Keeps.ite | intro _

theorem State.raiseOffsets_keeps {s₀ s : State} (h : Keeps s₀ s) : Keeps s₀ s.raiseOffsets := by
  unfold State.raiseOffsets
  repeat' with_reducible first
    | assumption | apply State.raiseOffset_keeps | apply State.setPlan_keeps | apply Keeps.ite | intro _ | apply Keeps.foldl
    | (apply Keeps.snd; assumption) | (apply Keeps.fst; assumption) | fail_if_no_progress apply Keeps.rest | apply Keeps.idOf
    | extract_lets | split

theorem State.lowerOffsets_keeps {s₀ s : State} {p : AgePlan} (h : Keeps s₀ s) : Keeps s₀ (s.lowerOffsets p) := by
  unfold State.lowerOffsets
  repeat' with_reducible first
    | assumption | apply State.setFv_keeps | apply Keeps.ite | intro _ | apply Keeps.foldl

theorem State.planCaps_keeps {s₀ s : State} (h : Keeps s₀ s) : Keeps s₀ s.planCaps := by
  unfold State.planCaps
  repeat' with_reducible first
    | assumption | apply State.setFv_keeps | apply State.rowDue_keeps | apply Keeps.ite | intro _ | apply Keeps.foldl
    | (apply Keeps.snd; assumption) | (apply Keeps.fst; assumption) | fail_if_no_progress apply Keeps.rest

theorem State.planEnds_keeps {s₀ s : State} {p : AgePlan} (h : Keeps s₀ s) : Keeps s₀ (s.planEnds p) := by
  unfold State.planEnds
  repeat' with_reducible first
    | assumption | apply State.planCaps_keeps | apply State.lowerOffsets_keeps | apply State.plannedShow_keeps
    | apply State.sysTrigger_keeps | apply State.satInc_keeps | apply State.setFv_keeps | apply State.irq_keeps
    | apply State.irqIf_keeps | apply State.setPlan_keeps | apply State.showLowest_keeps | apply State.tallyDone_keeps
    | apply Keeps.ite | intro _ | apply Keeps.foldl

theorem State.planGoes_keeps {s₀ s : State} (h : Keeps s₀ s) : Keeps s₀ s.planGoes := by
  unfold State.planGoes
  repeat' with_reducible first
    | assumption | apply State.raiseOffsets_keeps | apply State.planEnds_keeps | apply Keeps.ite | intro _ | apply Keeps.foldl
    | (apply Keeps.snd; assumption) | (apply Keeps.fst; assumption) | fail_if_no_progress apply Keeps.rest | apply Keeps.idOf
    | extract_lets | split

theorem State.planStarts_keeps {s₀ s : State} {src tally : Nat} {apply : Bool}
    (h : Keeps s₀ s) : Keeps s₀ (s.planStarts src tally apply) := by
  unfold State.planStarts
  repeat' with_reducible first
    | assumption | apply State.wrapInc_keeps | apply State.setFv_keeps | apply State.setPlan_keeps | apply State.setStamp_keeps
    | apply State.planGoes_keeps | apply State.irqIf_keeps

theorem State.planStops_keeps {s₀ s : State} (h : Keeps s₀ s) : Keeps s₀ s.planStops := by
  unfold State.planStops
  repeat' with_reducible first
    | assumption | apply State.setFv_keeps | apply State.setPlan_keeps

theorem State.planTallyStops_keeps {s₀ s : State} {n : Nat} (h : Keeps s₀ s) : Keeps s₀ (s.planTallyStops n) := by
  unfold State.planTallyStops
  repeat' with_reducible first
    | assumption | apply State.planStops_keeps | apply Keeps.ite | intro _ | apply Keeps.foldl | (apply Keeps.snd; assumption)
    | (apply Keeps.fst; assumption) | fail_if_no_progress apply Keeps.rest | apply Keeps.idOf | extract_lets | split

theorem State.planLate_keeps {s₀ s : State} (h : Keeps s₀ s) : Keeps s₀ s.planLate := by
  unfold State.planLate
  repeat' with_reducible first
    | assumption | apply State.lateStop_keeps | apply State.planTallyStops_keeps | apply Keeps.ite | intro _ | apply Keeps.foldl
    | (apply Keeps.snd; assumption) | (apply Keeps.fst; assumption) | fail_if_no_progress apply Keeps.rest | apply Keeps.idOf
    | extract_lets | split

theorem State.ageCtrl_keeps {s₀ s : State} {p : Port} {v : Word} (h : Keeps s₀ s) : Keeps s₀ (s.ageCtrl p v) := by
  unfold State.ageCtrl
  repeat' with_reducible first
    | assumption | apply State.clampAt_keeps | apply State.setFv_keeps | apply State.plannedShow_keeps | apply State.setReg_keeps
    | apply Keeps.ite | intro _ | apply Keeps.foldl

theorem execMonitorPass_keeps (t : Nat) (m : MonitorInput) (s : State) : KeepsNext s (execMonitorPass t m s) := by
  unfold execMonitorPass
  repeat' with_reducible first
    | exact State.at_keeps (Keeps.refl _) | apply KeepsNext.next | assumption | apply State.watchRelax_keeps
    | apply State.measureDomain_keeps | apply State.setFv_keeps | apply State.showLowest_keeps | apply KeepsNext.ite | apply Keeps.ite
    | intro _ | apply Keeps.foldl | (apply Keeps.snd; assumption) | (apply Keeps.fst; assumption)
    | fail_if_no_progress apply Keeps.rest

theorem execPlanDue_keeps (t : Nat) (s : State) : KeepsNext s (execPlanDue t s) := by
  unfold execPlanDue
  repeat' with_reducible first
    | exact State.at_keeps (Keeps.refl _) | apply KeepsNext.next | assumption | apply KeepsNext.ite | apply Keeps.ite | intro _
    | apply Keeps.foldl | (apply Keeps.snd; assumption) | (apply Keeps.fst; assumption) | fail_if_no_progress apply Keeps.rest

theorem execPlan_keeps (t : Nat) (s : State) : KeepsNext s (execPlan t s) := by
  unfold execPlan
  repeat' with_reducible first
    | exact State.at_keeps (Keeps.refl _) | apply KeepsNext.next | assumption | apply State.planStarts_keeps | apply KeepsNext.ite
    | apply Keeps.ite | intro _ | apply Keeps.foldl | (apply Keeps.snd; assumption) | (apply Keeps.fst; assumption)
    | fail_if_no_progress apply Keeps.rest | apply Keeps.idOf | extract_lets | split

theorem execMarginPlan_keeps (t tally : Nat) (s : State) : KeepsNext s (execMarginPlan t tally s) := by
  unfold execMarginPlan
  repeat' with_reducible first
    | exact State.at_keeps (Keeps.refl _) | apply KeepsNext.next | assumption | apply State.planStarts_keeps
    | apply State.lateStop_keeps | apply State.planTallyStops_keeps | apply KeepsNext.ite | apply Keeps.ite | intro _
    | apply Keeps.foldl | fail_if_no_progress apply Keeps.rest | apply Keeps.idOf | extract_lets | split

theorem execOffsetStepSettled_keeps (t : Nat) (completion : Q) (s : State) : KeepsNext s (execOffsetStepSettled t completion s) := by
  unfold execOffsetStepSettled
  repeat' with_reducible first
    | exact State.at_keeps (Keeps.refl _) | apply KeepsNext.next | assumption | apply State.planLate_keeps
    | apply State.planGoes_keeps | apply State.setPlan_keeps | apply State.showMargin_keeps | apply State.raiseOffset_keeps
    | apply KeepsNext.ite | apply Keeps.ite | intro _ | apply Keeps.foldl | (apply Keeps.snd; assumption)
    | (apply Keeps.fst; assumption) | fail_if_no_progress apply Keeps.rest | apply Keeps.idOf | extract_lets | split

end Sys2Proof.Machine
end

