-- ==== Sys2Proof/Laws/KeepsEvents.lean ====
section
/-! SUPPORT. What the operations of Machine/Events.lean keep (Laws/Keeps.lean). -/

namespace Sys2Proof.Machine

open Sys2Proof

theorem State.conv4Fails_keeps {s₀ s : State} {k : Nat} (h : Keeps s₀ s) : Keeps s₀ (s.conv4Fails k) := by
  unfold State.conv4Fails
  repeat' with_reducible first
    | assumption | apply State.scShow_keeps | apply State.scFaults_keeps | apply State.termShow_keeps | apply Keeps.ite | intro _
    | apply Keeps.foldl | (apply Keeps.snd; assumption) | (apply Keeps.fst; assumption) | fail_if_no_progress apply Keeps.rest

theorem State.conv4Clears_keeps {s₀ s : State} {k : Nat} (h : Keeps s₀ s) : Keeps s₀ (s.conv4Clears k) := by
  unfold State.conv4Clears
  repeat' with_reducible first
    | assumption | apply State.scShow_keeps | apply State.scFaults_keeps | apply State.sourceQuality_keeps | apply Keeps.ite | intro _
    | apply Keeps.foldl | (apply Keeps.snd; assumption) | (apply Keeps.fst; assumption) | fail_if_no_progress apply Keeps.rest

theorem State.diagnosticFails_keeps {s₀ s : State} {code detail : Nat} (h : Keeps s₀ s) : Keeps s₀ (s.diagnosticFails code detail) := by
  unfold State.diagnosticFails
  repeat' with_reducible first
    | assumption | apply State.conv4Fails_keeps | apply State.setFv_keeps | apply State.safShow_keeps | apply State.diagFail_keeps
    | apply Keeps.ite | intro _

theorem State.inputEdge_keeps {s₀ s : State} {ch : Nat} {on : Bool} {stamp : Nat}
    (h : Keeps s₀ s) : Keeps s₀ (s.inputEdge ch on stamp) := by
  unfold State.inputEdge
  repeat' with_reducible first
    | assumption | apply State.ackInput_keeps | apply State.fbeTrigger_keeps | apply State.wakeSource_keeps | apply Keeps.ite
    | intro _ | apply Keeps.foldl

theorem execDiagnosticFail_keeps (t code detail : Nat) (s : State) : KeepsNext s (execDiagnosticFail t code detail s) := by
  unfold execDiagnosticFail
  repeat' with_reducible first
    | exact State.at_keeps (Keeps.refl _) | apply KeepsNext.next | assumption | apply State.diagnosticFails_keeps

theorem execDiagnosticClear_keeps (t code detail : Nat) (s : State) : KeepsNext s (execDiagnosticClear t code detail s) := by
  unfold execDiagnosticClear
  repeat' with_reducible first
    | exact State.at_keeps (Keeps.refl _) | apply KeepsNext.next | assumption | apply State.conv4Clears_keeps
    | apply State.diagClear_keeps | apply KeepsNext.ite | apply Keeps.ite | intro _

theorem execSelftest_keeps (t tally failed : Nat) (s : State) : KeepsNext s (execSelftest t tally failed s) := by
  unfold execSelftest
  repeat' with_reducible first
    | exact State.at_keeps (Keeps.refl _) | apply KeepsNext.next | assumption | apply State.selftestEnds_keeps
    | apply State.tallyDone_keeps | apply State.lateStop_keeps | apply KeepsNext.ite | apply Keeps.ite | intro _ | apply Keeps.foldl
    | (apply Keeps.snd; assumption) | (apply Keeps.fst; assumption) | fail_if_no_progress apply Keeps.rest | apply Keeps.idOf
    | extract_lets | split

theorem execUpFrameA_keeps (t : Nat) (ok : Bool) (seq rb : Nat) (s : State) : KeepsNext s (execUpFrameA t ok seq rb s) := by
  unfold execUpFrameA
  repeat' with_reducible first
    | exact State.at_keeps (Keeps.refl _) | apply KeepsNext.next | assumption | apply State.upFrameSent_keeps
    | apply State.upFrameSeen_keeps | apply State.upFrameBad_keeps | apply State.upFrameA_keeps | apply State.failsUntil_keeps
    | apply State.inputEdge_keeps | apply KeepsNext.ite | apply Keeps.ite | intro _ | apply Keeps.foldl

theorem execCanFrameReceived_keeps (t : Nat) (port : Fin 2) (stamp : Nat) (frame : CanFrame) (s : State) :
    KeepsNext s (execCanFrameReceived t port stamp frame s) := by
  unfold execCanFrameReceived
  repeat' with_reducible first
    | exact State.at_keeps (Keeps.refl _) | apply KeepsNext.next | assumption | apply State.canReceive_keeps
    | apply State.answerReceived_keeps | apply State.fbeTrigger_keeps | apply KeepsNext.ite | apply Keeps.ite | intro _
    | apply Keeps.foldl | fail_if_no_progress apply Keeps.rest | apply Keeps.idOf | extract_lets | split

theorem execAvddLost_keeps (t : Nat) (s : State) : KeepsNext s (execAvddLost t s) := by
  unfold execAvddLost
  repeat' with_reducible first
    | exact State.at_keeps (Keeps.refl _) | apply KeepsNext.next | assumption | apply State.dynAvddLost_keeps
    | apply State.sacAvddLost_keeps | apply KeepsNext.ite | apply Keeps.ite | intro _ | apply Keeps.foldl
    | (apply Keeps.snd; assumption) | (apply Keeps.fst; assumption) | fail_if_no_progress apply Keeps.rest

theorem execAvddRestored_keeps (t : Nat) (s : State) : KeepsNext s (execAvddRestored t s) := by
  unfold execAvddRestored
  repeat' with_reducible first
    | exact State.at_keeps (Keeps.refl _) | apply KeepsNext.next | assumption | apply State.dynAvddBack_keeps
    | apply State.sacAvddBack_keeps | apply KeepsNext.ite | apply Keeps.ite | intro _ | apply Keeps.foldl
    | (apply Keeps.snd; assumption) | (apply Keeps.fst; assumption) | fail_if_no_progress apply Keeps.rest

end Sys2Proof.Machine
end

