-- ==== Sys2Proof/Laws/KeepsFbe.lean ====
section
/-! SUPPORT. What the operations of Machine/Fbe.lean keep (Laws/Keeps.lean). -/

namespace Sys2Proof.Machine

open Sys2Proof

theorem State.fbeShow_keeps {s₀ s : State} (h : Keeps s₀ s) : Keeps s₀ s.fbeShow := by
  unfold State.fbeShow
  repeat' with_reducible first
    | assumption | apply State.setFv_keeps

theorem State.taskShow_keeps {s₀ s : State} (h : Keeps s₀ s) : Keeps s₀ s.taskShow := by
  unfold State.taskShow
  repeat' with_reducible first
    | assumption | apply State.setFv_keeps | apply Keeps.ite | intro _ | apply Keeps.foldl

theorem State.taskOverrun_keeps {s₀ s : State} {n : Nat} (h : Keeps s₀ s) : Keeps s₀ (s.taskOverrun n) := by
  unfold State.taskOverrun
  repeat' with_reducible first
    | assumption | apply State.setTask_keeps | apply State.irq_keeps | apply State.satInc_keeps | apply State.diagFail_keeps
    | apply Keeps.ite | intro _ | apply Keeps.foldl | (apply Keeps.snd; assumption) | (apply Keeps.fst; assumption)
    | fail_if_no_progress apply Keeps.rest

theorem State.releaseTask_keeps {s₀ s : State} {n stamp : Nat} (h : Keeps s₀ s) : Keeps s₀ (s.releaseTask n stamp) := by
  unfold State.releaseTask
  repeat' with_reducible first
    | assumption | apply State.taskShow_keeps | apply State.setTask_keeps | apply State.taskSeen_keeps

theorem State.evTrig_keeps {s₀ s : State} {v : Word} (h : Keeps s₀ s) : Keeps s₀ (s.evTrig v) := by
  unfold State.evTrig
  repeat' with_reducible first
    | assumption | apply State.fbeTrigger_keeps | apply Keeps.ite | intro _ | apply Keeps.foldl

theorem State.fbeEnabled_keeps {s₀ s : State} {old : State} (h : Keeps s₀ s) : Keeps s₀ (s.fbeEnabled old) := by
  unfold State.fbeEnabled
  repeat' with_reducible first
    | assumption | apply State.fbeShow_keeps | apply State.setTask_keeps | apply Keeps.ite | intro _ | apply Keeps.foldl

theorem State.debugStep_keeps {s₀ s : State} {n : Nat} (h : Keeps s₀ s) : Keeps s₀ (s.debugStep n) := by
  unfold State.debugStep
  repeat' with_reducible first
    | assumption | apply State.releaseTask_keeps | apply State.setTask_keeps | apply Keeps.ite | intro _ | apply Keeps.foldl
    | (apply Keeps.snd; assumption) | (apply Keeps.fst; assumption) | fail_if_no_progress apply Keeps.rest | apply Keeps.idOf
    | extract_lets | split

theorem State.forceShow_keeps {s₀ s : State} (h : Keeps s₀ s) : Keeps s₀ s.forceShow := by
  unfold State.forceShow
  repeat' with_reducible first
    | assumption | apply State.setLoop_keeps | apply State.rmpReplan_keeps | apply Keeps.ite | intro _ | apply Keeps.foldl
    | (apply Keeps.snd; assumption) | (apply Keeps.fst; assumption) | fail_if_no_progress apply Keeps.rest

theorem State.forcesChanged_keeps {s₀ s : State} (h : Keeps s₀ s) : Keeps s₀ s.forcesChanged := by
  unfold State.forcesChanged
  repeat' with_reducible first
    | assumption | apply State.forceShow_keeps | apply State.setFb_keeps | apply State.setFv_keeps | apply State.sysTrigger_keeps
    | apply State.irq_keeps | apply State.sourceWrite_keeps | apply Keeps.ite | intro _

theorem State.setForce_keeps {s₀ s : State} {slot : Nat} {f : Force} (h : Keeps s₀ s) : Keeps s₀ (s.setForce slot f) := by
  unfold State.setForce
  repeat' with_reducible first
    | assumption | apply Keeps.ite | intro _ | apply Keeps.foldl | (apply Keeps.snd; assumption) | (apply Keeps.fst; assumption)
    | fail_if_no_progress apply Keeps.rest

theorem State.applyOutput_keeps {s₀ s : State} {b : ProgBinding} {i : Nat} {v : Word}
    (h : Keeps s₀ s) : Keeps s₀ (s.applyOutput b i v) := by
  unfold State.applyOutput
  repeat' with_reducible first
    | assumption | apply State.fbeDo_keeps | apply State.fbeLoop_keeps | apply State.rmpFbe_keeps | apply Keeps.ite | intro _
    | apply Keeps.foldl | (apply Keeps.snd; assumption) | (apply Keeps.fst; assumption) | fail_if_no_progress apply Keeps.rest
    | apply Keeps.idOf | extract_lets | split

theorem State.leaveForce_keeps {s₀ s : State} {f : Force} (h : Keeps s₀ s) : Keeps s₀ (s.leaveForce f) := by
  unfold State.leaveForce
  repeat' with_reducible first
    | assumption | apply State.nodeWrite_keeps | apply State.applyOutput_keeps | apply State.setTask_keeps | apply Keeps.ite | intro _
    | apply Keeps.foldl | (apply Keeps.snd; assumption) | (apply Keeps.fst; assumption) | fail_if_no_progress apply Keeps.rest
    | apply Keeps.idOf | extract_lets | split

theorem State.forceMoves_keeps {s₀ s : State} {slot : Nat} {f : Force} (h : Keeps s₀ s) : Keeps s₀ (s.forceMoves slot f) := by
  unfold State.forceMoves
  repeat' with_reducible first
    | assumption | apply State.setForce_keeps | apply State.leaveForce_keeps | apply Keeps.ite | intro _

theorem State.forcesAt_keeps {s₀ s : State} {n : Nat} (h : Keeps s₀ s) : Keeps s₀ (s.forcesAt n) := by
  unfold State.forcesAt
  repeat' with_reducible first
    | assumption | apply State.forcesChanged_keeps | apply State.forceMoves_keeps | apply Keeps.ite | intro _ | apply Keeps.foldl

theorem State.forceSet_keeps {s₀ s : State} {slot : Nat} {may : Bool} (h : Keeps s₀ s) : Keeps s₀ (s.forceSet slot may) := by
  unfold State.forceSet
  repeat' with_reducible first
    | assumption | apply State.setFv_keeps | apply State.forcesChanged_keeps | apply State.forceMoves_keeps | apply Keeps.ite
    | intro _ | apply Keeps.foldl | (apply Keeps.snd; assumption) | (apply Keeps.fst; assumption)
    | fail_if_no_progress apply Keeps.rest | apply Keeps.idOf | extract_lets | split

theorem State.forceRelease_keeps {s₀ s : State} {slot : Nat} (h : Keeps s₀ s) : Keeps s₀ (s.forceRelease slot) := by
  unfold State.forceRelease
  repeat' with_reducible first
    | assumption | apply State.forcesChanged_keeps | apply State.forceMoves_keeps | apply Keeps.ite | intro _ | apply Keeps.foldl
    | (apply Keeps.snd; assumption) | (apply Keeps.fst; assumption) | fail_if_no_progress apply Keeps.rest | apply Keeps.idOf
    | extract_lets | split

theorem State.frcCtrl_keeps {s₀ s : State} {p : Port} {v : Word} (h : Keeps s₀ s) : Keeps s₀ (s.frcCtrl p v) := by
  unfold State.frcCtrl
  repeat' with_reducible first
    | assumption | apply State.forceSet_keeps | apply State.forceRelease_keeps | apply Keeps.ite | intro _ | apply Keeps.foldl

theorem State.startCycle_keeps {s₀ s : State} {p : Program} {n stamp : Nat} (h : Keeps s₀ s) : Keeps s₀ (s.startCycle p n stamp) := by
  unfold State.startCycle
  repeat' with_reducible first
    | assumption | apply State.forcesAt_keeps | apply State.taskShow_keeps | apply State.setTask_keeps

theorem State.cycleCmd_keeps {s₀ s : State} {n : Nat} {c : FbeCmd} (h : Keeps s₀ s) : Keeps s₀ (s.cycleCmd n c) := by
  unfold State.cycleCmd
  repeat' with_reducible first
    | assumption | apply State.alhCmd_keeps | apply State.alhMode_keeps | apply State.alhDuty_keeps | apply State.fbeTrigger_keeps
    | apply State.setPageBytes_keeps | apply State.queueFrame_keeps | apply State.fbeLoop_keeps | apply State.rmpFbe_keeps
    | apply Keeps.ite | intro _ | apply Keeps.foldl | (apply Keeps.snd; assumption) | (apply Keeps.fst; assumption)
    | fail_if_no_progress apply Keeps.rest | apply Keeps.idOf | extract_lets | split

theorem State.applyPoint_keeps {s₀ s : State} {p : Program} {n point : Nat} (h : Keeps s₀ s) : Keeps s₀ (s.applyPoint p n point) := by
  unfold State.applyPoint
  repeat' with_reducible first
    | assumption | apply State.sourceWrite_keeps | apply Keeps.ite | intro _ | apply Keeps.foldl | (apply Keeps.snd; assumption)
    | (apply Keeps.fst; assumption) | fail_if_no_progress apply Keeps.rest | apply Keeps.idOf | extract_lets | split

theorem State.applyOutputs_keeps {s₀ s : State} {p : Program} {n : Nat} (h : Keeps s₀ s) : Keeps s₀ (s.applyOutputs p n) := by
  unfold State.applyOutputs
  repeat' with_reducible first
    | assumption | apply State.applyPoint_keeps | apply State.applyOutput_keeps | apply Keeps.ite | intro _ | apply Keeps.foldl
    | (apply Keeps.snd; assumption) | (apply Keeps.fst; assumption) | fail_if_no_progress apply Keeps.rest | apply Keeps.idOf
    | extract_lets | split

theorem State.commitCycle_keeps {s₀ s : State} {p : Program} {n : Nat} {c : Cycle} (h : Keeps s₀ s) : Keeps s₀ (s.commitCycle p n c) := by
  unfold State.commitCycle
  repeat' with_reducible first
    | assumption | apply State.nodeWrite_keeps | apply State.setTask_keeps | apply State.taskSeen_keeps | apply State.cycleCmd_keeps
    | apply State.setStamp_keeps | apply State.wrapInc_keeps | apply State.setFv_keeps | apply State.setFb_keeps
    | apply State.satInc_keeps | apply State.irqIf_keeps | apply State.taskShow_keeps | apply State.applyOutputs_keeps
    | apply Keeps.ite | intro _ | apply Keeps.foldl

theorem State.fbeClr_keeps {s₀ s : State} (h : Keeps s₀ s) : Keeps s₀ s.fbeClr := by
  unfold State.fbeClr
  repeat' with_reducible first
    | assumption | apply State.setReg_keeps | apply State.setFv_keeps | apply Keeps.ite | intro _ | apply Keeps.foldl
    | (apply Keeps.snd; assumption) | (apply Keeps.fst; assumption) | fail_if_no_progress apply Keeps.rest

theorem State.carryVars_keeps {s₀ s : State} {old : Option Program} {new : Program} {h' k : Nat}
    (h : Keeps s₀ s) : Keeps s₀ (s.carryVars old new h' k) := by
  unfold State.carryVars
  repeat' with_reducible first
    | assumption | apply State.wrBytes_keeps | apply Keeps.ite | intro _ | apply Keeps.foldl | (apply Keeps.snd; assumption)
    | (apply Keeps.fst; assumption) | fail_if_no_progress apply Keeps.rest | apply Keeps.idOf | extract_lets | split

theorem State.buildHalf_keeps {s₀ s : State} {old : Option Program} {new : Program} {half k : Nat} (h : Keeps s₀ s) :
    Keeps s₀ (s.buildHalf old new half k) := by
  unfold State.buildHalf
  refine State.carryVars_keeps (Keeps.foldl (fun t x ht => State.wrBytes_keeps (State.wrBytes_keeps ht)) _ ?_)
  exact Keeps.setPoisoned (fun hp a ha => hp a (List.mem_filter.1 ha).1) (Keeps.setMem (Memory.wf_dropRange _ _ _) h)

theorem State.olcAbandon_keeps {s₀ s : State} (h : Keeps s₀ s) : Keeps s₀ s.olcAbandon := by
  unfold State.olcAbandon
  repeat' with_reducible first
    | assumption | apply State.setFv_keeps | apply Keeps.ite | intro _ | apply Keeps.foldl | (apply Keeps.snd; assumption)
    | (apply Keeps.fst; assumption) | fail_if_no_progress apply Keeps.rest

theorem State.olcLate_keeps {s₀ s : State} (h : Keeps s₀ s) : Keeps s₀ s.olcLate := by
  unfold State.olcLate
  repeat' with_reducible first
    | assumption | apply State.lateStop_keeps | apply State.olcAbandon_keeps | apply Keeps.ite | intro _ | apply Keeps.foldl
    | (apply Keeps.snd; assumption) | (apply Keeps.fst; assumption) | fail_if_no_progress apply Keeps.rest | apply Keeps.idOf
    | extract_lets | split

theorem State.showProgram_keeps {s₀ s : State} {p : Program} (h : Keeps s₀ s) : Keeps s₀ (s.showProgram p) := by
  unfold State.showProgram
  repeat' with_reducible first
    | assumption | apply State.setFv_keeps | apply Keeps.ite | intro _ | apply Keeps.foldl

theorem State.forcesSettle_keeps {s₀ s : State} (h : Keeps s₀ s) : Keeps s₀ s.forcesSettle := by
  unfold State.forcesSettle
  repeat' with_reducible first
    | assumption | apply State.forceMoves_keeps | apply Keeps.ite | intro _ | apply Keeps.foldl

theorem State.seam_keeps {s₀ s : State} {new : Program} (h : Keeps s₀ s) : Keeps s₀ (s.seam new) := by
  unfold State.seam
  dsimp only
  split <;> repeat' with_reducible first
    | assumption | apply State.tallyDone_keeps | apply State.taskShow_keeps | apply State.fbeShow_keeps | apply State.squash_keeps
    | apply State.irq_keeps | apply State.forcesChanged_keeps | apply State.forcesSettle_keeps | apply Keeps.foldl | intro _
    | apply State.wrBytes_keeps | apply State.setFv_keeps | apply State.setStamp_keeps | apply State.showProgram_keeps
    | apply State.setFb_keeps | apply State.buildHalf_keeps | fail_if_no_progress apply Keeps.rest

theorem State.cyclesCut_keeps {s₀ s : State} (h : Keeps s₀ s) : Keeps s₀ s.cyclesCut := by
  unfold State.cyclesCut
  repeat' with_reducible first
    | assumption | apply State.taskShow_keeps | apply Keeps.ite | intro _ | apply Keeps.foldl | (apply Keeps.snd; assumption)
    | (apply Keeps.fst; assumption) | fail_if_no_progress apply Keeps.rest

theorem State.seenStart_keeps {s₀ s : State} (h : Keeps s₀ s) : Keeps s₀ s.seenStart := by
  unfold State.seenStart
  repeat' with_reducible first
    | assumption | apply Keeps.ite | intro _ | apply Keeps.foldl | (apply Keeps.snd; assumption) | (apply Keeps.fst; assumption)
    | fail_if_no_progress apply Keeps.rest

theorem State.shiftBlocks_keeps {s₀ s : State} {p : Program} {n : Nat} (h : Keeps s₀ s) : Keeps s₀ (s.shiftBlocks p n) := by
  unfold State.shiftBlocks
  repeat' with_reducible first
    | assumption | apply State.nodeWriteLe_keeps | apply Keeps.ite | intro _ | apply Keeps.foldl

theorem State.fbeShift_keeps {s₀ s : State} {n : Nat} (h : Keeps s₀ s) : Keeps s₀ (s.fbeShift n) := by
  unfold State.fbeShift
  repeat' with_reducible first
    | assumption | apply State.shiftBlocks_keeps | apply State.fbeShow_keeps | apply Keeps.ite | intro _ | apply Keeps.foldl
    | (apply Keeps.snd; assumption) | (apply Keeps.fst; assumption) | fail_if_no_progress apply Keeps.rest | apply Keeps.idOf
    | extract_lets | split

theorem execCyclicRelease_keeps (t : Nat) (task : Fin 8) (s : State) : KeepsNext s (execCyclicRelease t task s) := by
  unfold execCyclicRelease
  repeat' with_reducible first
    | exact State.at_keeps (Keeps.refl _) | apply KeepsNext.next | assumption | apply State.setTask_keeps
    | apply State.taskOverrun_keeps | apply State.releaseTask_keeps | apply KeepsNext.ite | apply Keeps.ite | intro _
    | apply Keeps.foldl | fail_if_no_progress apply Keeps.rest | apply Keeps.idOf | extract_lets | split

theorem execEventRelease_keeps (t : Nat) (task : Fin 8) (s : State) : KeepsNext s (execEventRelease t task s) := by
  unfold execEventRelease
  repeat' with_reducible first
    | exact State.at_keeps (Keeps.refl _) | apply KeepsNext.next | assumption | apply State.releaseTask_keeps
    | apply State.setTask_keeps | apply KeepsNext.ite | apply Keeps.ite | intro _ | apply Keeps.foldl
    | fail_if_no_progress apply Keeps.rest | apply Keeps.idOf | extract_lets | split

theorem execCycleStart_keeps (t : Nat) (ecc : EccFinds) (s : State) : KeepsNext s (execCycleStart t ecc s) := by
  unfold execCycleStart
  repeat' with_reducible first
    | exact State.at_keeps (Keeps.refl _) | apply KeepsNext.next | assumption | apply State.startCycle_keeps
    | apply State.eccFinds_keeps | apply KeepsNext.ite | apply Keeps.ite | intro _ | apply Keeps.foldl
    | fail_if_no_progress apply Keeps.rest | apply Keeps.idOf | extract_lets | split

theorem execCycleCommit_keeps (t : Nat) (s : State) : KeepsNext s (execCycleCommit t s) := by
  unfold execCycleCommit
  repeat' with_reducible first
    | exact State.at_keeps (Keeps.refl _) | apply KeepsNext.next | assumption | apply State.unlessWaits_keeps
    | apply State.commitCycle_keeps | apply KeepsNext.ite | apply Keeps.ite | intro _ | apply Keeps.foldl
    | fail_if_no_progress apply Keeps.rest | apply Keeps.idOf | extract_lets | split

theorem execOlc_keeps (t tally : Nat) (s : State) : KeepsNext s (execOlc t tally s) := by
  unfold execOlc
  repeat' with_reducible first
    | exact State.at_keeps (Keeps.refl _) | apply KeepsNext.next | assumption | apply State.lateStop_keeps
    | apply State.olcAbandon_keeps | apply State.tallyRefused_keeps | apply State.setFv_keeps | apply KeepsNext.ite | apply Keeps.ite
    | intro _ | apply Keeps.foldl | (apply Keeps.snd; assumption) | (apply Keeps.fst; assumption)
    | fail_if_no_progress apply Keeps.rest | apply Keeps.idOf | extract_lets | split

theorem execOlcPrepared_keeps (t : Nat) (s : State) : KeepsNext s (execOlcPrepared t s) := by
  unfold execOlcPrepared
  repeat' with_reducible first
    | exact State.at_keeps (Keeps.refl _) | apply KeepsNext.next | assumption | apply State.olcLate_keeps | apply State.setFv_keeps
    | apply State.buildHalf_keeps | apply KeepsNext.ite | apply Keeps.ite | intro _ | apply Keeps.foldl
    | fail_if_no_progress apply Keeps.rest | apply Keeps.idOf | extract_lets | split

theorem execSeam_keeps (t : Nat) (s : State) : KeepsNext s (execSeam t s) := by
  unfold execSeam
  repeat' with_reducible first
    | exact State.at_keeps (Keeps.refl _) | apply KeepsNext.next | assumption | apply State.olcLate_keeps | apply State.seam_keeps
    | apply KeepsNext.ite | apply Keeps.ite | intro _ | apply Keeps.foldl | fail_if_no_progress apply Keeps.rest | apply Keeps.idOf
    | extract_lets | split

end Sys2Proof.Machine
end

