-- ==== Sys2Proof/Laws/KeepsSec.lean ====
section
/-! SUPPORT. What the operations of Machine/Sec.lean keep (Laws/Keeps.lean). -/

namespace Sys2Proof.Machine

open Sys2Proof

theorem State.secEvent_keeps {s₀ s : State} {bit : Nat} (h : Keeps s₀ s) : Keeps s₀ (s.secEvent bit) := by
  unfold State.secEvent
  repeat' with_reducible first
    | assumption | apply State.setFv_keeps | apply State.irq_keeps

theorem State.setSecPort_keeps {s₀ s : State} {p : Port} {x : SecPort} (h : Keeps s₀ s) : Keeps s₀ (s.setSecPort p x) := by
  unfold State.setSecPort
  repeat' with_reducible first
    | assumption | apply Keeps.ite | intro _ | apply Keeps.foldl | (apply Keeps.snd; assumption) | (apply Keeps.fst; assumption)
    | fail_if_no_progress apply Keeps.rest | apply Keeps.idOf | extract_lets | split

theorem State.relock_keeps {s₀ s : State} (h : Keeps s₀ s) : Keeps s₀ s.relock := by
  unfold State.relock
  repeat' with_reducible first
    | assumption | apply State.setFv_keeps | apply Keeps.ite | intro _ | apply Keeps.foldl

theorem State.closeSession_keeps {s₀ s : State} {p : Port} (h : Keeps s₀ s) : Keeps s₀ (s.closeSession p) := by
  unfold State.closeSession
  repeat' with_reducible first
    | assumption | apply State.irq_keeps | apply State.relock_keeps | apply State.setFv_keeps | apply Keeps.ite | intro _
    | apply Keeps.foldl | (apply Keeps.snd; assumption) | (apply Keeps.fst; assumption) | fail_if_no_progress apply Keeps.rest
    | apply Keeps.idOf | extract_lets | split

theorem State.closeSessions_keeps {s₀ s : State} (h : Keeps s₀ s) : Keeps s₀ s.closeSessions := by
  unfold State.closeSessions
  repeat' with_reducible first
    | assumption | apply State.closeSession_keeps

theorem State.keysShow_keeps {s₀ s : State} (h : Keeps s₀ s) : Keeps s₀ s.keysShow := by
  unfold State.keysShow
  repeat' with_reducible first
    | assumption | apply State.setFb_keeps | apply State.setFv_keeps

theorem State.challenge_keeps {s₀ s : State} {p : Port} (h : Keeps s₀ s) : Keeps s₀ (s.challenge p) := by
  unfold State.challenge
  repeat' with_reducible first
    | assumption | apply State.draw_keeps | apply State.setSecPort_keeps

theorem State.openSession_keeps {s₀ s : State} {p : Port} {level : Nat} (h : Keeps s₀ s) : Keeps s₀ (s.openSession p level) := by
  unfold State.openSession
  repeat' with_reducible first
    | assumption | apply State.clampAt_keeps | apply State.setSecPort_keeps | apply Keeps.ite | intro _ | apply Keeps.foldl
    | (apply Keeps.snd; assumption) | (apply Keeps.fst; assumption) | fail_if_no_progress apply Keeps.rest

theorem State.expireSession_keeps {s₀ s : State} {p : Port} (h : Keeps s₀ s) : Keeps s₀ (s.expireSession p) := by
  unfold State.expireSession
  repeat' with_reducible first
    | assumption | apply State.closeSession_keeps | apply Keeps.ite | intro _

theorem State.expireNonce_keeps {s₀ s : State} {p : Port} (h : Keeps s₀ s) : Keeps s₀ (s.expireNonce p) := by
  unfold State.expireNonce
  repeat' with_reducible first
    | assumption | apply State.setSecPort_keeps | apply Keeps.ite | intro _

theorem State.secCtrl_keeps {s₀ s : State} {p : Port} {v : Word} (h : Keeps s₀ s) : Keeps s₀ (s.secCtrl p v) := by
  unfold State.secCtrl
  repeat' with_reducible first
    | assumption | apply State.challenge_keeps | apply State.openSession_keeps | apply State.closeSession_keeps
    | apply State.setFv_keeps | apply State.clampAt_keeps | apply Keeps.ite | intro _

theorem State.secResp_keeps {s₀ s : State} {p : Port} {n : Nat} {v : Word} (h : Keeps s₀ s) : Keeps s₀ (s.secResp p n v) := by
  unfold State.secResp
  repeat' with_reducible first
    | assumption | apply State.setSecPort_keeps

theorem State.eraseAes_keeps {s₀ s : State} (h : Keeps s₀ s) : Keeps s₀ s.eraseAes := by
  unfold State.eraseAes
  repeat' with_reducible first
    | assumption | apply State.keysShow_keeps | apply Keeps.ite | intro _ | apply Keeps.foldl | (apply Keeps.snd; assumption)
    | (apply Keeps.fst; assumption) | fail_if_no_progress apply Keeps.rest

theorem State.tamper_keeps {s₀ s : State} {i : Nat} (h : Keeps s₀ s) : Keeps s₀ (s.tamper i) := by
  unfold State.tamper
  repeat' with_reducible first
    | assumption | apply State.setFv_keeps | apply State.setStamp_keeps | apply State.closeSessions_keeps | apply State.eraseAes_keeps
    | apply State.secEvent_keeps | apply Keeps.ite | intro _ | apply Keeps.foldl | (apply Keeps.snd; assumption)
    | (apply Keeps.fst; assumption) | fail_if_no_progress apply Keeps.rest

theorem State.secStart_keeps {s₀ s : State} (h : Keeps s₀ s) : Keeps s₀ s.secStart := by
  unfold State.secStart
  repeat' with_reducible first
    | assumption | apply State.closeSessions_keeps | apply State.secEvent_keeps | apply Keeps.ite | intro _ | apply Keeps.foldl
    | (apply Keeps.snd; assumption) | (apply Keeps.fst; assumption) | fail_if_no_progress apply Keeps.rest

theorem execSessionDecision_keeps (t : Nat) (s : State) : KeepsNext s (execSessionDecision t s) := by
  unfold execSessionDecision
  repeat' with_reducible first
    | exact State.at_keeps (Keeps.refl _) | apply KeepsNext.next | assumption | apply State.setSecPort_keeps | apply State.setFv_keeps
    | apply State.irq_keeps | apply State.closeSession_keeps | apply State.satInc_keeps | apply State.secEvent_keeps
    | apply KeepsNext.ite | apply Keeps.ite | intro _ | apply Keeps.foldl | (apply Keeps.snd; assumption)
    | (apply Keeps.fst; assumption) | fail_if_no_progress apply Keeps.rest | apply Keeps.idOf | extract_lets | split

theorem execSessionExpiry_keeps (t : Nat) (s : State) : KeepsNext s (execSessionExpiry t s) := by
  unfold execSessionExpiry
  repeat' with_reducible first
    | exact State.at_keeps (Keeps.refl _) | apply KeepsNext.next | assumption | apply State.expireSession_keeps | apply KeepsNext.ite
    | apply Keeps.ite | intro _

theorem execLockoutEnd_keeps (t : Nat) (s : State) : KeepsNext s (execLockoutEnd t s) := by
  unfold execLockoutEnd
  repeat' with_reducible first
    | exact State.at_keeps (Keeps.refl _) | apply KeepsNext.next | assumption | apply State.setFv_keeps | apply KeepsNext.ite
    | apply Keeps.ite | intro _

theorem execNonceExpiry_keeps (t : Nat) (s : State) : KeepsNext s (execNonceExpiry t s) := by
  unfold execNonceExpiry
  repeat' with_reducible first
    | exact State.at_keeps (Keeps.refl _) | apply KeepsNext.next | assumption | apply State.expireNonce_keeps

theorem execTrapdoorSessionEnd_keeps (t : Nat) (s : State) : KeepsNext s (execTrapdoorSessionEnd t s) := by
  unfold execTrapdoorSessionEnd
  repeat' with_reducible first
    | exact State.at_keeps (Keeps.refl _) | apply KeepsNext.next | assumption | apply State.closeSession_keeps | apply KeepsNext.ite
    | apply Keeps.ite | intro _

end Sys2Proof.Machine
end

