-- ==== Sys2Proof/Laws/KeepsLnk.lean ====
section
/-! SUPPORT. What the operations of Machine/Lnk.lean keep (Laws/Keeps.lean). -/

namespace Sys2Proof.Machine

open Sys2Proof

theorem State.setLnkRun_keeps {s₀ s : State} {c : LnkRun} (h : Keeps s₀ s) : Keeps s₀ (s.setLnkRun c) := by
  unfold State.setLnkRun
  repeat' with_reducible first
    | assumption | apply State.setStamp_keeps | apply State.setFv_keeps | apply State.irq_keeps | apply State.irqIf_keeps
    | apply Keeps.ite | intro _ | apply Keeps.foldl | (apply Keeps.snd; assumption) | (apply Keeps.fst; assumption)
    | fail_if_no_progress apply Keeps.rest

theorem State.lnkCarry_keeps {s₀ s : State} {sent : Nat} {flips : List Nat} (h : Keeps s₀ s) : Keeps s₀ (s.lnkCarry sent flips) := by
  unfold State.lnkCarry
  repeat' with_reducible first
    | assumption | apply State.setLnkRun_keeps | apply Keeps.ite | intro _

theorem State.hbufTake_keeps {s₀ s : State} {l : List Byte} (h : Keeps s₀ s) : Keeps s₀ (s.hbufTake l) := by
  unfold State.hbufTake
  repeat' with_reducible first
    | assumption | apply State.setLnkRun_keeps | apply Keeps.ite | intro _

theorem State.hbufGive_keeps {s₀ s : State} {n : Nat} (h : Keeps s₀ s) : Keeps s₀ (s.hbufGive n).2 := by
  unfold State.hbufGive
  repeat' with_reducible first
    | assumption | apply State.setLnkRun_keeps | apply Keeps.ite | intro _ | apply Keeps.foldl | (apply Keeps.snd; assumption)
    | (apply Keeps.fst; assumption) | fail_if_no_progress apply Keeps.rest | apply Keeps.idOf | extract_lets | split

theorem State.lnkClear_keeps {s₀ s : State} (h : Keeps s₀ s) : Keeps s₀ s.lnkClear := by
  unfold State.lnkClear
  repeat' with_reducible first
    | assumption | apply State.setStamp_keeps | apply State.setFv_keeps | apply Keeps.ite | intro _ | apply Keeps.foldl
    | (apply Keeps.snd; assumption) | (apply Keeps.fst; assumption) | fail_if_no_progress apply Keeps.rest

theorem State.linkGo_keeps {s₀ s : State} {p : Port} (h : Keeps s₀ s) : Keeps s₀ (s.linkGo p) := by
  unfold State.linkGo
  repeat' with_reducible first
    | assumption | apply State.clampAt_keeps | apply State.setFv_keeps | apply State.lnkClear_keeps | apply Keeps.ite | intro _
    | apply Keeps.foldl | (apply Keeps.snd; assumption) | (apply Keeps.fst; assumption) | fail_if_no_progress apply Keeps.rest
    | apply Keeps.idOf | extract_lets | split

theorem State.buildsDropped_keeps {s₀ s : State} {i : Nat} (h : Keeps s₀ s) : Keeps s₀ (s.buildsDropped i) := by
  unfold State.buildsDropped
  repeat' with_reducible first
    | assumption | apply State.planeDrop_keeps | apply State.abandonBuilds_keeps | apply Keeps.ite | intro _

theorem State.portTaken_keeps {s₀ s : State} {p : Nat} (h : Keeps s₀ s) : Keeps s₀ (s.portTaken p) := by
  unfold State.portTaken
  repeat' with_reducible first
    | assumption | apply State.canTxEnded_keeps | apply State.setObj_keeps | apply Keeps.ite | intro _ | apply Keeps.foldl
    | (apply Keeps.snd; assumption) | (apply Keeps.fst; assumption) | fail_if_no_progress apply Keeps.rest | apply Keeps.idOf
    | extract_lets | split

theorem State.linkTaken_keeps {s₀ s : State} {link : Nat} (h : Keeps s₀ s) : Keeps s₀ (s.linkTaken link) := by
  unfold State.linkTaken
  repeat' with_reducible first
    | assumption | apply State.portTaken_keeps | apply State.scanStops_keeps | apply State.buildsDropped_keeps
    | apply State.rmpTaken_keeps | apply Keeps.ite | intro _ | apply Keeps.foldl | (apply Keeps.snd; assumption)
    | (apply Keeps.fst; assumption) | fail_if_no_progress apply Keeps.rest | apply Keeps.idOf | extract_lets | split

theorem State.linkBack_keeps {s₀ s : State} {link : Nat} (h : Keeps s₀ s) : Keeps s₀ (s.linkBack link) := by
  unfold State.linkBack
  repeat' with_reducible first
    | assumption | apply State.scanResumes_keeps | apply State.dynDisc_keeps | apply State.rmpReplan_keeps | apply Keeps.ite | intro _
    | apply Keeps.foldl | (apply Keeps.snd; assumption) | (apply Keeps.fst; assumption) | fail_if_no_progress apply Keeps.rest
    | apply Keeps.idOf | extract_lets | split

theorem State.linkEnds_keeps {s₀ s : State} {status reason : Nat} (h : Keeps s₀ s) : Keeps s₀ (s.linkEnds status reason) := by
  unfold State.linkEnds
  repeat' with_reducible first
    | assumption | apply State.setFv_keeps | apply State.irq_keeps | apply State.linkBack_keeps | apply Keeps.ite | intro _

theorem State.lnkCtrl_keeps {s₀ s : State} {p : Port} {v : Word} {sent : Nat} {flips : List Nat}
    (h : Keeps s₀ s) : Keeps s₀ (s.lnkCtrl p v sent flips) := by
  unfold State.lnkCtrl
  repeat' with_reducible first
    | assumption | apply State.lnkCarry_keeps | apply State.linkGo_keeps | apply State.linkEnds_keeps | apply State.lnkClear_keeps
    | apply Keeps.ite | intro _ | apply Keeps.foldl | (apply Keeps.snd; assumption) | (apply Keeps.fst; assumption)
    | fail_if_no_progress apply Keeps.rest

theorem State.linksLosePower_keeps {s₀ s : State} (h : Keeps s₀ s) : Keeps s₀ s.linksLosePower := by
  unfold State.linksLosePower
  repeat' with_reducible first
    | assumption | apply State.linkEnds_keeps | apply Keeps.ite | intro _

theorem State.linkCut_keeps {s₀ s : State} (h : Keeps s₀ s) : Keeps s₀ s.linkCut := by
  unfold State.linkCut
  repeat' with_reducible first
    | assumption | apply State.setFv_keeps | apply Keeps.ite | intro _ | apply Keeps.foldl | (apply Keeps.snd; assumption)
    | (apply Keeps.fst; assumption) | fail_if_no_progress apply Keeps.rest

theorem State.lnkStart_keeps {s₀ s : State} (h : Keeps s₀ s) : Keeps s₀ s.lnkStart := by
  unfold State.lnkStart
  repeat' with_reducible first
    | assumption | apply State.irq_keeps | apply State.setFv_keeps | apply Keeps.ite | intro _ | apply Keeps.foldl
    | (apply Keeps.snd; assumption) | (apply Keeps.fst; assumption) | fail_if_no_progress apply Keeps.rest | apply Keeps.idOf
    | extract_lets | split

theorem execLinkTestStart_keeps (t : Nat) (s : State) : KeepsNext s (execLinkTestStart t s) := by
  unfold execLinkTestStart
  repeat' with_reducible first
    | exact State.at_keeps (Keeps.refl _) | apply KeepsNext.next | assumption | apply State.draw_keeps | apply State.setStamp_keeps
    | apply State.setFv_keeps | apply State.linkTaken_keeps | apply KeepsNext.ite | apply Keeps.ite | intro _ | apply Keeps.foldl
    | (apply Keeps.snd; assumption) | (apply Keeps.fst; assumption) | fail_if_no_progress apply Keeps.rest

theorem execLinkTestEnd_keeps (t sent : Nat) (flips : List Nat) (s : State) : KeepsNext s (execLinkTestEnd t sent flips s) := by
  unfold execLinkTestEnd
  repeat' with_reducible first
    | exact State.at_keeps (Keeps.refl _) | apply KeepsNext.next | assumption | apply State.linkEnds_keeps
    | apply State.lnkCarry_keeps | apply KeepsNext.ite | apply Keeps.ite | intro _

end Sys2Proof.Machine
end

