-- ==== Sys2Proof/Laws/KeepsEvr.lean ====
section
/-! SUPPORT. What the operations of Machine/Evr.lean keep (Laws/Keeps.lean). -/

namespace Sys2Proof.Machine

open Sys2Proof

theorem State.closeMarker_keeps {s₀ s : State} (h : Keeps s₀ s) : Keeps s₀ s.closeMarker := by
  unfold State.closeMarker
  repeat' with_reducible first
    | assumption | apply Keeps.ite | intro _ | apply Keeps.foldl | (apply Keeps.snd; assumption) | (apply Keeps.fst; assumption)
    | fail_if_no_progress apply Keeps.rest | apply Keeps.idOf | extract_lets | split

theorem State.captureTrigger_keeps {s₀ s : State} {g : Trigger} (h : Keeps s₀ s) : Keeps s₀ (s.captureTrigger g) := by
  unfold State.captureTrigger
  repeat' with_reducible first
    | assumption | apply State.foldOrRefuse_keeps | apply State.closeMarker_keeps | apply Keeps.ite | intro _ | apply Keeps.foldl
    | (apply Keeps.snd; assumption) | (apply Keeps.fst; assumption) | fail_if_no_progress apply Keeps.rest

theorem State.putCrate_keeps {s₀ s : State} {i : Nat} {c : Crate} (h : Keeps s₀ s) : Keeps s₀ (s.putCrate i c) := by
  unfold State.putCrate
  repeat' with_reducible first
    | assumption | apply State.nodeWrite_keeps | apply State.irq_keeps | apply State.setFv_keeps | apply State.irqIf_keeps
    | apply Keeps.ite | intro _

theorem State.writeCrate_keeps {s₀ s : State} (h : Keeps s₀ s) : Keeps s₀ s.writeCrate := by
  unfold State.writeCrate
  repeat' with_reducible first
    | assumption | apply State.putCrate_keeps | apply Keeps.ite | intro _ | apply Keeps.foldl | (apply Keeps.snd; assumption)
    | (apply Keeps.fst; assumption) | fail_if_no_progress apply Keeps.rest | apply Keeps.idOf | extract_lets | split

theorem State.writeStaged_keeps {s₀ s : State} (h : Keeps s₀ s) : Keeps s₀ s.writeStaged := by
  unfold State.writeStaged
  repeat' with_reducible first
    | assumption | apply State.putCrate_keeps | apply State.writeCrate_keeps | apply Keeps.ite | intro _ | apply Keeps.foldl
    | (apply Keeps.snd; assumption) | (apply Keeps.fst; assumption) | fail_if_no_progress apply Keeps.rest | apply Keeps.idOf
    | extract_lets | split

theorem State.writeFullMarker_keeps {s₀ s : State} (h : Keeps s₀ s) : Keeps s₀ s.writeFullMarker := by
  unfold State.writeFullMarker
  repeat' with_reducible first
    | assumption | apply State.putCrate_keeps | apply Keeps.ite | intro _ | apply Keeps.foldl | (apply Keeps.snd; assumption)
    | (apply Keeps.fst; assumption) | fail_if_no_progress apply Keeps.rest | apply Keeps.idOf | extract_lets | split

theorem State.writeLossMarker_keeps {s₀ s : State} {l : Nat × Nat × Nat} (h : Keeps s₀ s) : Keeps s₀ (s.writeLossMarker l) := by
  unfold State.writeLossMarker
  repeat' with_reducible first
    | assumption | apply State.putCrate_keeps | apply Keeps.ite | intro _ | apply Keeps.foldl | (apply Keeps.snd; assumption)
    | (apply Keeps.fst; assumption) | fail_if_no_progress apply Keeps.rest

theorem State.foldQueue_keeps {s₀ s : State} (h : Keeps s₀ s) : Keeps s₀ s.foldQueue := by
  unfold State.foldQueue
  exact Keeps.foldl (fun t x ht => State.foldOrRefuse_keeps ht) _ (Keeps.setTriggers (fun _ => Nat.zero_le _) h)

theorem State.flushLarder_keeps {s₀ s : State} (h : Keeps s₀ s) : Keeps s₀ s.flushLarder := by
  unfold State.flushLarder
  repeat' with_reducible first
    | assumption | apply State.writeLossMarker_keeps | apply State.foldQueue_keeps | apply State.writeStaged_keeps | apply Keeps.ite
    | intro _ | apply Keeps.foldl | (apply Keeps.snd; assumption) | (apply Keeps.fst; assumption)
    | fail_if_no_progress apply Keeps.rest | apply Keeps.idOf | extract_lets | split

theorem State.flushMarker_keeps {s₀ s : State} (h : Keeps s₀ s) : Keeps s₀ s.flushMarker := by
  unfold State.flushMarker
  repeat' with_reducible first
    | assumption | apply State.foldQueue_keeps | apply State.writeFullMarker_keeps | apply State.writeStaged_keeps
    | apply State.closeMarker_keeps | apply Keeps.ite | intro _ | apply Keeps.foldl | (apply Keeps.snd; assumption)
    | (apply Keeps.fst; assumption) | fail_if_no_progress apply Keeps.rest

theorem State.evrStops_keeps {s₀ s : State} (h : Keeps s₀ s) : Keeps s₀ s.evrStops :=
  Keeps.setTriggers (fun _ => Nat.zero_le _) h

theorem State.evrLost_keeps {s₀ s : State} (h : Keeps s₀ s) : Keeps s₀ s.evrLost := by
  unfold State.evrLost
  repeat' with_reducible first
    | assumption | apply State.evrStops_keeps | apply Keeps.ite | intro _ | apply Keeps.foldl | (apply Keeps.snd; assumption)
    | (apply Keeps.fst; assumption) | fail_if_no_progress apply Keeps.rest

theorem State.evrStart_keeps {s₀ s : State} {clean cellarLost : Bool} (h : Keeps s₀ s) : Keeps s₀ (s.evrStart clean cellarLost) := by
  unfold State.evrStart
  repeat' with_reducible first
    | assumption | apply State.satInc_keeps | apply State.irq_keeps | apply Keeps.ite | intro _ | apply Keeps.foldl
    | (apply Keeps.snd; assumption) | (apply Keeps.fst; assumption) | fail_if_no_progress apply Keeps.rest

theorem State.evrErase_keeps {s₀ s : State} {x : Tally} {upto : Nat} (h : Keeps s₀ s) : Keeps s₀ (s.evrErase x upto) := by
  have hi : ∀ {c : Prop} [Decidable c] {t u : State}, Keeps s₀ t → Keeps s₀ u → Keeps s₀ (if c then t else u) :=
    fun a b => Keeps.ite (fun _ => a) (fun _ => b)
  unfold State.evrErase
  extract_lets first count top widx pause upto' lo a n s1 e s2 s3 s4 s5
  have h2 : Keeps s₀ s2 := Keeps.rest (Keeps.setMem (Memory.wf_dropRange _ _ _) (State.curePoison_keeps h))
  have h4 : Keeps s₀ s4 := hi (hi (State.setFv_keeps (State.setFv_keeps h2)) (State.setFv_keeps h2)) h2
  have h5 : Keeps s₀ s5 := State.tallyProgress_keeps h4
  exact hi (State.tallyDone_keeps (Keeps.rest h5)) h5

theorem State.evrTrigGo_keeps {s₀ s : State} {v : Word} (h : Keeps s₀ s) : Keeps s₀ (s.evrTrigGo v) := by
  unfold State.evrTrigGo
  repeat' with_reducible first
    | assumption | apply State.trigger_keeps | apply Keeps.ite | intro _

theorem State.evrClr_keeps {s₀ s : State} {v : Word} (h : Keeps s₀ s) : Keeps s₀ (s.evrClr v) := by
  unfold State.evrClr
  repeat' with_reducible first
    | assumption | apply State.setReg_keeps | apply Keeps.ite | intro _

theorem State.evrCommitLists_keeps {s₀ s : State} (h : Keeps s₀ s) : Keeps s₀ s.evrCommitLists.1 := by
  unfold State.evrCommitLists
  repeat' with_reducible first
    | assumption | apply Keeps.ite | intro _ | apply Keeps.foldl | (apply Keeps.snd; assumption) | (apply Keeps.fst; assumption)
    | fail_if_no_progress apply Keeps.rest

theorem execCrateCapture_keeps (t : Nat) (ecc : EccFinds) (s : State) : KeepsNext s (execCrateCapture t ecc s) := by
  unfold execCrateCapture
  extract_lets s1
  have h1 : Keeps s s1 := State.at_keeps (Keeps.refl s)
  split
  · exact KeepsNext.next h1
  · rename_i g rest hq
    refine KeepsNext.ite (fun _ => KeepsNext.next h1) (fun _ => KeepsNext.next (State.captureTrigger_keeps (State.eccFinds_keeps ?_)))
    refine Keeps.setTriggers (fun hl => ?_) h1
    rw [hq] at hl
    exact Nat.le_of_succ_le hl

theorem execCrateWrite_keeps (t : Nat) (s : State) : KeepsNext s (execCrateWrite t s) := by
  unfold execCrateWrite
  repeat' with_reducible first
    | exact State.at_keeps (Keeps.refl _) | apply KeepsNext.next | assumption | apply State.writeStaged_keeps
    | apply State.writeFullMarker_keeps | apply KeepsNext.ite | apply Keeps.ite | intro _

theorem execLossMarker_keeps (t : Nat) (s : State) : KeepsNext s (execLossMarker t s) := by
  unfold execLossMarker
  repeat' with_reducible first
    | exact State.at_keeps (Keeps.refl _) | apply KeepsNext.next | assumption | apply State.writeLossMarker_keeps
    | apply KeepsNext.ite | apply Keeps.ite | intro _ | apply Keeps.foldl | fail_if_no_progress apply Keeps.rest | apply Keeps.idOf
    | extract_lets | split

theorem execEvrErase_keeps (t tally crates : Nat) (s : State) : KeepsNext s (execEvrErase t tally crates s) := by
  unfold execEvrErase
  repeat' with_reducible first
    | exact State.at_keeps (Keeps.refl _) | apply KeepsNext.next | assumption | apply State.evrErase_keeps
    | apply State.tallyRefused_keeps | apply State.lateStop_keeps | apply KeepsNext.ite | apply Keeps.ite | intro _
    | apply Keeps.foldl | (apply Keeps.snd; assumption) | (apply Keeps.fst; assumption) | fail_if_no_progress apply Keeps.rest
    | apply Keeps.idOf | extract_lets | split

end Sys2Proof.Machine
end

