-- ==== Sys2Proof/Laws/KeepsTally.lean ====
section
/-! SUPPORT. What the operations of Machine/Tally.lean keep (Laws/Keeps.lean). -/

namespace Sys2Proof.Machine

open Sys2Proof

theorem State.argClamps_keeps {s₀ s : State} {a a' : List Nat} (h : Keeps s₀ s) : Keeps s₀ (s.argClamps a a') := by
  unfold State.argClamps
  repeat' with_reducible first
    | assumption | apply State.clampAt_keeps | apply State.setReg_keeps | apply Keeps.ite | intro _ | apply Keeps.foldl

/-- Clamping the arguments leaves the tallies alone. -/
theorem State.argClamps_tly (s : State) (a a' : List Nat) : (s.argClamps a a').tly = s.tly := by
  unfold State.argClamps
  generalize List.range 8 = l
  induction l generalizing s with
  | nil => rfl
  | cons i l ih =>
    rw [List.foldl_cons, ih]
    dsimp only
    split <;> rfl

theorem State.tlyGo_keeps {s₀ s : State} {p : Port} (h : Keeps s₀ s) : Keeps s₀ (s.tlyGo p).2 := by
  unfold State.tlyGo
  extract_lets op a a' n tmo s1 s2 x y s3 olc
  split
  · exact State.irq_keeps h
  · rename_i hf
    have h1 : Keeps s₀ s1 := State.setFv_keeps (State.argClamps_keeps h)
    have h2 : Keeps s₀ s2 := Keeps.ite (fun _ => State.setFv_keeps h1) (fun _ => h1)
    have e1 : s1.tly = s.tly := State.argClamps_tly s a a'
    have e2 : s2.tly = s.tly := by
      show (if op = 3 then s1.setFv P.STO R.STO_VERIFY_CNT_corr 0 else s1).tly = s.tly
      split
      · exact e1
      · exact e1
    have h3 : Keeps s₀ s3 := by
      refine State.learnLaunch_keeps (Keeps.setTly (fun _ => ?_) h2)
      simp only [State.tallyFull, Bool.or_eq_true, decide_eq_true_eq, not_or, Nat.not_le] at hf
      have ey : y = s.tly := e2
      simp only [List.length_append, List.length_cons, List.length_nil, e2, ey]
      omega
    split
    · exact State.tallyRefused_keeps h3
    · exact h3

theorem State.tallyStops_keeps {s₀ s : State} {x : Tally} {status : Nat} (h : Keeps s₀ s) : Keeps s₀ (s.tallyStops x status) := by
  unfold State.tallyStops
  repeat' with_reducible first
    | assumption | apply State.rekeyStops_keeps | apply State.calTallyStops_keeps | apply State.planTallyStops_keeps
    | apply State.olcAbandon_keeps | apply State.tallyEnds_keeps | apply Keeps.ite | intro _ | apply Keeps.foldl
    | (apply Keeps.snd; assumption) | (apply Keeps.fst; assumption) | fail_if_no_progress apply Keeps.rest

/-- A completion enters the queue for a tally that leaves. -/
theorem State.queueCompletion_keeps {s₀ s : State} {x : Tally} (hx : x ∈ s.tly.out) (h : Keeps s₀ s) : Keeps s₀ (s.queueCompletion x) := by
  unfold State.queueCompletion
  split
  · exact h
  · refine State.irqIf_keeps (State.irq_keeps (Keeps.setTly (fun hb => ?_) h))
    have hlt : (s.tly.out.filter (fun y => decide (y.num ≠ x.num))).length < s.tly.out.length :=
      List.length_filter_lt_length_iff_exists.2 ⟨x, hx, by simp⟩
    have hb1 := hb.1
    have hb2 := hb.2
    simp only [List.length_append, List.length_cons, List.length_nil]
    omega

theorem State.tlyCancel_keeps {s₀ s : State} {n : Nat} (h : Keeps s₀ s) : Keeps s₀ (s.tlyCancel n) := by
  unfold State.tlyCancel
  repeat' with_reducible first
    | assumption | apply State.setFv_keeps | apply State.tallyStops_keeps | apply Keeps.ite | intro _ | apply Keeps.foldl
    | (apply Keeps.snd; assumption) | (apply Keeps.fst; assumption) | fail_if_no_progress apply Keeps.rest | apply Keeps.idOf
    | extract_lets | split

theorem State.cqPop_keeps {s₀ s : State} {v : Word} (h : Keeps s₀ s) : Keeps s₀ (s.cqPop v) := by
  refine Keeps.ite (fun _ => Keeps.setTly (fun hb => ⟨hb.1, ?_⟩) h) (fun _ => h)
  have hb2 := hb.2
  simp only [List.length_drop]
  omega

theorem State.talliesEnd_keeps {s₀ s : State} (h : Keeps s₀ s) : Keeps s₀ s.talliesEnd := by
  unfold State.talliesEnd
  repeat' with_reducible first
    | assumption | apply State.tallyStops_keeps | apply Keeps.ite | intro _ | apply Keeps.foldl

/-- A completion that enters the queue changes registers and the tallies: nothing where the tally has no outcome yet. -/
theorem State.queueCompletion_shape (s : State) (x : Tally) : ∃ r y, s.queueCompletion x = { s with regs := r, tly := y } ∧
    (SMap.rising 0 s.regs = true → SMap.rising 0 r = true) ∧
    ((x.outcome = none ∧ y = s.tly) ∨
      (x.outcome ≠ none ∧ y.out = s.tly.out.filter (fun z => decide (z.num ≠ x.num)) ∧ y.cq.length = s.tly.cq.length + 1)) := by
  unfold State.queueCompletion
  split
  · rename_i e
    exact ⟨s.regs, s.tly, rfl, id, .inl ⟨e, rfl⟩⟩
  · rename_i e
    extract_lets c s1
    have hr : ∀ (u : State), SMap.rising 0 u.regs = true → SMap.rising 0 (u.irqIf (decide (u.tly.cq.length = 192)) P.TLY 1).regs = true := by
      intro u hu
      unfold State.irqIf
      split
      · exact SMap.rising_insert _ _ _ _ (Nat.zero_le _) hu
      · exact hu
    refine ⟨((s1.irq P.TLY 0).irqIf (decide ((s1.irq P.TLY 0).tly.cq.length = 192)) P.TLY 1).regs, s1.tly, ?_,
      fun h => hr _ (SMap.rising_insert _ (P.TLY + 0x20) _ _ (Nat.zero_le _) h),
      .inr ⟨by rw [e]; exact Option.some_ne_none _, rfl, List.length_append⟩⟩
    change (s1.irq P.TLY 0).irqIf (decide ((s1.irq P.TLY 0).tly.cq.length = 192)) P.TLY 1 = _
    generalize decide ((s1.irq P.TLY 0).tly.cq.length = 192) = d
    cases d <;> rfl

/-- The tallies that have ended leave in turn; those that remain and the queued completions number no more than before. -/
theorem State.queueCompletions_shape (l : List Tally) : ∀ (s : State), ∃ r y,
    l.foldl (fun (s : State) x => s.queueCompletion x) s = { s with regs := r, tly := y } ∧
    (SMap.rising 0 s.regs = true → SMap.rising 0 r = true) ∧ y.out.length ≤ s.tly.out.length ∧
    ((∀ x ∈ s.tly.out, x.outcome ≠ none → x ∈ l) →
      y.out.length + y.cq.length ≤
        (s.tly.out.filter (fun x => x.outcome.isNone)).length + (l.filter (fun x => x.outcome.isSome)).length + s.tly.cq.length) := by
  induction l with
  | nil =>
    intro s
    refine ⟨s.regs, s.tly, rfl, id, Nat.le_refl _, fun h => ?_⟩
    have : s.tly.out.filter (fun x => x.outcome.isNone) = s.tly.out := by
      refine List.filter_eq_self.2 (fun x hx => ?_)
      by_contra hn
      exact List.not_mem_nil (h x hx (fun e => hn (by rw [e]; rfl)))
    rw [this]
    simp
  | cons x l ih =>
    intro s
    obtain ⟨r1, y1, e1, hr1, h1⟩ := State.queueCompletion_shape s x
    obtain ⟨r, y, e, hr, hl, hc⟩ := ih { s with regs := r1, tly := y1 }
    refine ⟨r, y, by rw [List.foldl_cons, e1, e], hr ∘ hr1, ?_, fun h => ?_⟩
    · rcases h1 with ⟨_, rfl⟩ | ⟨_, ho, _⟩
      · exact hl
      · exact Nat.le_trans hl (by simp only [ho]; exact List.length_filter_le _ _)
    · rcases h1 with ⟨hx, rfl⟩ | ⟨hx, ho, hq⟩
      · have := hc (fun z hz hn => by
          rcases List.mem_cons.1 (h z hz hn) with rfl | hm
          · exact absurd hx hn
          · exact hm)
        simpa [hx] using this
      · have h2 := hc (fun z hz hn => by
          simp only [ho, List.mem_filter, decide_eq_true_eq] at hz
          rcases List.mem_cons.1 (h z hz.1 hn) with rfl | hm
          · exact absurd rfl hz.2
          · exact hm)
        have h3 : (y1.out.filter (fun x => x.outcome.isNone)).length ≤ (s.tly.out.filter (fun x => x.outcome.isNone)).length := by
          rw [ho]
          exact (List.Sublist.filter _ List.filter_sublist).length_le
        have h4 : ((x :: l).filter (fun x => x.outcome.isSome)).length = (l.filter (fun x => x.outcome.isSome)).length + 1 := by
          rw [List.filter_cons_of_pos (by rw [Option.isSome_iff_ne_none]; exact hx), List.length_cons]
        dsimp only at h2
        omega

theorem State.tallyStart_keeps {s₀ s : State} (h : Keeps s₀ s) : Keeps s₀ s.tallyStart := by
  obtain ⟨r, y, e, hr, hl, hc⟩ := State.queueCompletions_shape s.tly.out s
  unfold State.tallyStart
  rw [e]
  refine h.trans ⟨id, hr, id, id, id, id, fun hb => ⟨Nat.le_trans hl hb.1, ?_⟩, id, id, Nat.le_refl _, rfl⟩
  have h1 := hc (fun x hx _ => hx)
  have h2 := hb.2
  have h3 : (s.tly.out.filter (fun x => x.outcome.isNone)).length + (s.tly.out.filter (fun x => x.outcome.isSome)).length =
      s.tly.out.length := by
    have := List.length_eq_length_filter_add (l := s.tly.out) (fun x => x.outcome.isNone)
    simpa [Option.not_isNone, Nat.add_comm] using this.symm
  dsimp only
  omega

theorem State.tallyShift_keeps {s₀ s : State} {n : Nat} (h : Keeps s₀ s) : Keeps s₀ (s.tallyShift n) := by
  refine Keeps.setTly (fun hb => ?_) h
  simp only [List.length_map]
  exact hb

theorem execTallyStart_keeps (t tally : Nat) (s : State) : KeepsNext s (execTallyStart t tally s) := by
  unfold execTallyStart
  repeat' with_reducible first
    | exact State.at_keeps (Keeps.refl _) | apply KeepsNext.next | assumption | apply State.setTally_keeps | apply State.setFv_keeps
    | apply KeepsNext.ite | apply Keeps.ite | intro _ | apply Keeps.foldl | fail_if_no_progress apply Keeps.rest | apply Keeps.idOf
    | extract_lets | split

theorem execNop_keeps (t tally : Nat) (s : State) : KeepsNext s (execNop t tally s) := by
  unfold execNop
  repeat' with_reducible first
    | exact State.at_keeps (Keeps.refl _) | apply KeepsNext.next | assumption | apply State.tallyDone_keeps
    | apply State.lateStop_keeps | apply KeepsNext.ite | apply Keeps.ite | intro _ | apply Keeps.foldl | (apply Keeps.snd; assumption)
    | (apply Keeps.fst; assumption) | fail_if_no_progress apply Keeps.rest | apply Keeps.idOf

theorem execUndefinedOperation_keeps (t tally : Nat) (s : State) : KeepsNext s (execUndefinedOperation t tally s) := by
  unfold execUndefinedOperation
  repeat' with_reducible first
    | exact State.at_keeps (Keeps.refl _) | apply KeepsNext.next | assumption | apply State.tallyRefused_keeps
    | apply State.lateStop_keeps | apply KeepsNext.ite | apply Keeps.ite | intro _ | apply Keeps.foldl | (apply Keeps.snd; assumption)
    | (apply Keeps.fst; assumption) | fail_if_no_progress apply Keeps.rest | apply Keeps.idOf

theorem execTallyCompletion_keeps (t tally : Nat) (s : State) : KeepsNext s (execTallyCompletion t tally s) := by
  unfold execTallyCompletion
  extract_lets s1
  have h1 : Keeps s s1 := State.at_keeps (Keeps.refl s)
  split
  · rename_i x hx
    exact KeepsNext.next (Keeps.ite (fun _ => State.queueCompletion_keeps (List.mem_of_find?_eq_some hx) h1) (fun _ => h1))
  · exact KeepsNext.next h1

theorem execTallyTimeout_keeps (t tally : Nat) (s : State) : KeepsNext s (execTallyTimeout t tally s) := by
  unfold execTallyTimeout
  repeat' with_reducible first
    | exact State.at_keeps (Keeps.refl _) | apply KeepsNext.next | assumption | apply State.tallyStops_keeps | apply KeepsNext.ite
    | apply Keeps.ite | intro _ | apply Keeps.foldl | fail_if_no_progress apply Keeps.rest | apply Keeps.idOf | extract_lets | split

end Sys2Proof.Machine
end

