-- ==== Sys2Proof/Laws/KeepsKeys.lean ====
section
/-! SUPPORT. What the operations of Machine/Keys.lean keep (Laws/Keeps.lean). -/

namespace Sys2Proof.Machine

open Sys2Proof

theorem State.keyDenied_keeps {s₀ s : State} {n : Nat} (h : Keeps s₀ s) : Keeps s₀ (s.keyDenied n) := by
  unfold State.keyDenied
  repeat' with_reducible first
    | assumption | apply State.tallyRefused_keeps

theorem State.keyBad_keeps {s₀ s : State} {n : Nat} (h : Keeps s₀ s) : Keeps s₀ (s.keyBad n) := by
  unfold State.keyBad
  repeat' with_reducible first
    | assumption | apply State.tallyRefused_keeps

theorem State.keyDone_keeps {s₀ s : State} {n r0 : Nat} (h : Keeps s₀ s) : Keeps s₀ (s.keyDone n r0) := by
  unfold State.keyDone
  repeat' with_reducible first
    | assumption | apply State.keysShow_keeps | apply State.tallyDone_keeps

theorem State.pointFreed_keeps {s₀ s : State} {p : Nat} (h : Keeps s₀ s) : Keeps s₀ (s.pointFreed p) := by
  unfold State.pointFreed
  repeat' with_reducible first
    | assumption | apply State.writeRecord_keeps | apply State.windowFollows_keeps | apply Keeps.ite | intro _

theorem State.simsEnd_keeps {s₀ s : State} (h : Keeps s₀ s) : Keeps s₀ s.simsEnd := by
  unfold State.simsEnd
  repeat' with_reducible first
    | assumption | apply State.squashPoint_keeps | apply State.queueChange_keeps | apply Keeps.ite | intro _ | apply Keeps.foldl
    | (apply Keeps.snd; assumption) | (apply Keeps.fst; assumption) | fail_if_no_progress apply Keeps.rest

theorem State.pointsFreed_keeps {s₀ s : State} (h : Keeps s₀ s) : Keeps s₀ s.pointsFreed := by
  unfold State.pointsFreed
  repeat' with_reducible first
    | assumption | apply State.simsEnd_keeps | apply State.pointFreed_keeps | apply Keeps.ite | intro _ | apply Keeps.foldl

theorem State.slotsFreed_keeps {s₀ s : State} (h : Keeps s₀ s) : Keeps s₀ s.slotsFreed := by
  unfold State.slotsFreed
  repeat' with_reducible first
    | assumption | apply State.forcesChanged_keeps | apply State.setForce_keeps | apply State.leaveForce_keeps | apply Keeps.ite
    | intro _ | apply Keeps.foldl

theorem State.changeCancelled_keeps {s₀ s : State} (h : Keeps s₀ s) : Keeps s₀ s.changeCancelled := by
  unfold State.changeCancelled
  repeat' with_reducible first
    | assumption | apply State.tallyEnds_keeps | apply State.olcAbandon_keeps | apply Keeps.ite | intro _ | apply Keeps.foldl
    | (apply Keeps.snd; assumption) | (apply Keeps.fst; assumption) | fail_if_no_progress apply Keeps.rest | apply Keeps.idOf
    | extract_lets | split

theorem State.callsEnd_keeps {s₀ s : State} (h : Keeps s₀ s) : Keeps s₀ s.callsEnd := by
  unfold State.callsEnd
  repeat' with_reducible first
    | assumption | apply State.callLeave_keeps | apply Keeps.ite | intro _ | apply Keeps.foldl

theorem State.advanceTo_keeps {s₀ s : State} {target : Nat} (h : Keeps s₀ s) : Keeps s₀ (s.advanceTo target) := by
  unfold State.advanceTo
  repeat' with_reducible first
    | assumption | apply State.setFv_keeps | apply State.closeSessions_keeps | apply State.pointsFreed_keeps
    | apply State.keysShow_keeps | apply State.changeCancelled_keeps | apply State.slotsFreed_keeps | apply State.linkEnds_keeps
    | apply State.safShow_keeps | apply State.callsEnd_keeps | apply State.fbeShow_keeps | apply State.safCause_keeps
    | apply Keeps.ite | intro _ | apply Keeps.foldl | (apply Keeps.snd; assumption) | (apply Keeps.fst; assumption)
    | fail_if_no_progress apply Keeps.rest

theorem execInstall_keeps (t tally : Nat) (ecc : EccFinds) (s : State) : KeepsNext s (execInstall t tally ecc s) := by
  unfold execInstall
  repeat' with_reducible first
    | exact State.at_keeps (Keeps.refl _) | apply KeepsNext.next | assumption | apply State.lateStop_keeps | apply State.keyBad_keeps
    | apply State.keyDenied_keeps | apply State.eccFinds_keeps | apply State.tallyEnds_keeps | apply State.keyDone_keeps
    | apply State.secEvent_keeps | apply KeepsNext.ite | apply Keeps.ite | intro _ | apply Keeps.foldl | (apply Keeps.snd; assumption)
    | (apply Keeps.fst; assumption) | fail_if_no_progress apply Keeps.rest | apply Keeps.idOf | extract_lets | split

theorem execRevoke_keeps (t tally : Nat) (s : State) : KeepsNext s (execRevoke t tally s) := by
  unfold execRevoke
  repeat' with_reducible first
    | exact State.at_keeps (Keeps.refl _) | apply KeepsNext.next | assumption | apply State.lateStop_keeps | apply State.keyBad_keeps
    | apply State.keyDenied_keeps | apply State.keyDone_keeps | apply State.secEvent_keeps | apply KeepsNext.ite | apply Keeps.ite
    | intro _ | apply Keeps.foldl | (apply Keeps.snd; assumption) | (apply Keeps.fst; assumption)
    | fail_if_no_progress apply Keeps.rest | apply Keeps.idOf | extract_lets | split

theorem execAes_keeps (t tally : Nat) (ecc : EccFinds) (s : State) : KeepsNext s (execAes t tally ecc s) := by
  unfold execAes
  repeat' with_reducible first
    | exact State.at_keeps (Keeps.refl _) | apply KeepsNext.next | assumption | apply State.lateStop_keeps | apply State.keyBad_keeps
    | apply State.keyDenied_keeps | apply State.eccFinds_keeps | apply State.tallyEnds_keeps | apply State.wrBytes_keeps
    | apply State.keyDone_keeps | apply KeepsNext.ite | apply Keeps.ite | intro _ | apply Keeps.foldl | (apply Keeps.snd; assumption)
    | (apply Keeps.fst; assumption) | fail_if_no_progress apply Keeps.rest | apply Keeps.idOf | extract_lets | split

theorem execAdvance_keeps (t tally : Nat) (s : State) : KeepsNext s (execAdvance t tally s) := by
  unfold execAdvance
  repeat' with_reducible first
    | exact State.at_keeps (Keeps.refl _) | apply KeepsNext.next | assumption | apply State.lateStop_keeps | apply State.keyBad_keeps
    | apply State.keyDenied_keeps | apply State.keyDone_keeps | apply State.secEvent_keeps | apply State.advanceTo_keeps
    | apply KeepsNext.ite | apply Keeps.ite | intro _ | apply Keeps.foldl | (apply Keeps.snd; assumption)
    | (apply Keeps.fst; assumption) | fail_if_no_progress apply Keeps.rest | apply Keeps.idOf | extract_lets | split

end Sys2Proof.Machine
end

