-- ==== Sys2Proof/Laws/KeepsModes.lean ====
section
/-! SUPPORT. What the operations of Machine/Modes.lean keep (Laws/Keeps.lean). -/

namespace Sys2Proof.Machine

open Sys2Proof

theorem State.pstateChanged_keeps {s₀ s : State} (h : Keeps s₀ s) : Keeps s₀ s.pstateChanged := by
  unfold State.pstateChanged
  repeat' with_reducible first
    | assumption | apply State.irq_keeps | apply State.fbeShow_keeps | apply State.safShow_keeps

theorem State.dynSpxPowered_keeps {s₀ s : State} {woken : Bool} (h : Keeps s₀ s) : Keeps s₀ (s.dynSpxPowered woken) := by
  unfold State.dynSpxPowered
  repeat' with_reducible first
    | assumption | apply State.dynPowered_keeps | apply State.dynOff_keeps | apply State.dynStopped_keeps
    | apply State.spxPowered_keeps | apply State.spxStopped_keeps | apply Keeps.ite | intro _

theorem State.toLean_keeps {s₀ s : State} (h : Keeps s₀ s) : Keeps s₀ s.toLean := by
  unfold State.toLean
  repeat' with_reducible first
    | assumption | apply State.pstateChanged_keeps | apply State.linksLosePower_keeps | apply State.spxStopped_keeps
    | apply State.dynStopped_keeps | apply State.setFv_keeps

theorem State.toRun_keeps {s₀ s : State} (h : Keeps s₀ s) : Keeps s₀ s.toRun := by
  unfold State.toRun
  repeat' with_reducible first
    | assumption | apply State.pstateChanged_keeps | apply State.dynSpxPowered_keeps | apply State.setFv_keeps

theorem State.powerRequest_keeps {s₀ s : State} {req : Nat} (h : Keeps s₀ s) : Keeps s₀ (s.powerRequest req) := by
  unfold State.powerRequest
  repeat' with_reducible first
    | assumption | apply State.wakeSource_keeps | apply State.toRun_keeps | apply State.toLean_keeps | apply Keeps.ite | intro _
    | apply Keeps.foldl | (apply Keeps.snd; assumption) | (apply Keeps.fst; assumption) | fail_if_no_progress apply Keeps.rest

theorem State.heldRequest_keeps {s₀ s : State} (h : Keeps s₀ s) : Keeps s₀ s.heldRequest := by
  unfold State.heldRequest
  repeat' with_reducible first
    | assumption | apply State.powerRequest_keeps | apply State.setFv_keeps | apply Keeps.ite | intro _ | apply Keeps.foldl
    | (apply Keeps.snd; assumption) | (apply Keeps.fst; assumption) | fail_if_no_progress apply Keeps.rest | apply Keeps.idOf
    | extract_lets | split

theorem State.portBOff_keeps {s₀ s : State} (h : Keeps s₀ s) : Keeps s₀ s.portBOff := by
  unfold State.portBOff
  repeat' with_reducible first
    | assumption | apply State.setPort_keeps | apply State.setCanState_keeps

theorem State.shiftAll_keeps {s₀ s : State} {n : Nat} (h : Keeps s₀ s) : Keeps s₀ (s.shiftAll n) := by
  unfold State.shiftAll
  repeat' with_reducible first
    | assumption | apply State.tallyShift_keeps | apply State.runsShift_keeps | apply State.sweepShift_keeps
    | apply State.fbeShift_keeps | apply State.alhShift_keeps

theorem State.resumePte_keeps {s₀ s : State} (h : Keeps s₀ s) : Keeps s₀ s.resumePte := by
  unfold State.resumePte
  repeat' with_reducible first
    | assumption | apply State.lapse_keeps | apply State.taskShow_keeps | apply State.shiftAll_keeps

theorem State.awaken_keeps {s₀ s : State} (h : Keeps s₀ s) : Keeps s₀ s.awaken := by
  unfold State.awaken
  repeat' with_reducible first
    | assumption | apply State.resumePte_keeps | apply State.sacPowered_keeps | apply State.alhResumes_keeps
    | apply State.ageCount_keeps | apply State.calCounting_keeps | apply State.dynSpxPowered_keeps | apply Keeps.ite | intro _

theorem execDormantEntry_keeps (t : Nat) (s : State) : KeepsNext s (execDormantEntry t s) := by
  unfold execDormantEntry
  repeat' with_reducible first
    | exact State.at_keeps (Keeps.refl _) | apply KeepsNext.next | assumption | apply State.bandRest_keeps
    | apply State.portBOff_keeps | apply State.canSleep_keeps | apply State.termShow_keeps | apply State.setFv_keeps
    | apply State.sacStop_keeps | apply State.ageCount_keeps | apply State.calCounting_keeps | apply State.spxStopped_keeps
    | apply State.dynStopped_keeps | apply State.pstateChanged_keeps | apply State.rmpReplan_keeps | apply State.linksLosePower_keeps
    | apply State.wakeStamp_keeps | apply State.heldRequest_keeps | apply KeepsNext.ite | apply Keeps.ite | intro _
    | apply Keeps.foldl | (apply Keeps.snd; assumption) | (apply Keeps.fst; assumption) | fail_if_no_progress apply Keeps.rest
    | apply Keeps.idOf | extract_lets | split

theorem execWakeFromDormant_keeps (t : Nat) (s : State) : KeepsNext s (execWakeFromDormant t s) := by
  unfold execWakeFromDormant
  repeat' with_reducible first
    | exact State.at_keeps (Keeps.refl _) | apply KeepsNext.next | assumption | apply State.setFv_keeps | apply State.awaken_keeps
    | apply State.canWakeUp_keeps | apply State.rmpReplan_keeps | apply State.canStart_keeps | apply State.heldRequest_keeps
    | apply State.pstateChanged_keeps | apply KeepsNext.ite | apply Keeps.ite | intro _ | apply Keeps.foldl
    | (apply Keeps.snd; assumption) | (apply Keeps.fst; assumption) | fail_if_no_progress apply Keeps.rest | apply Keeps.idOf
    | extract_lets | split

end Sys2Proof.Machine
end

