-- ==== Sys2Proof/Laws/KeepsFabric.lean ====
section
/-! SUPPORT. What the operations of Machine/Fabric.lean keep (Laws/Keeps.lean). -/

namespace Sys2Proof.Machine

open Sys2Proof

theorem State.trapRefused_keeps {s₀ s : State} {p : Port} (h : Keeps s₀ s) : Keeps s₀ (s.trapRefused p) := by
  unfold State.trapRefused
  repeat' with_reducible first
    | assumption | apply State.irq_keeps | apply State.satInc_keeps | apply Keeps.ite | intro _ | apply Keeps.foldl
    | (apply Keeps.snd; assumption) | (apply Keeps.fst; assumption) | fail_if_no_progress apply Keeps.rest | apply Keeps.idOf
    | extract_lets | split

theorem State.stage_keeps {s₀ s : State} {b off : Nat} {f : Field} {w : Nat} (h : Keeps s₀ s) : Keeps s₀ (s.stage b off f w) := by
  unfold State.stage
  refine State.setFv_keeps (Keeps.ite (fun _ => Keeps.rest h) (fun _ => Keeps.setStaged ?_ h))
  exact SMap.rising_insert _ _ _ _ (Nat.zero_le _)

theorem State.storeField_keeps {s₀ s : State} {p : Port} {k : Kind} {b off : Nat} {may : Bool} {now v : Word} {f : Field}
    (h : Keeps s₀ s) : Keeps s₀ (s.storeField p k b off may now v f) := by
  unfold State.storeField
  repeat' with_reducible first
    | assumption | apply State.clampAt_keeps | apply State.setFv_keeps | apply State.stage_keeps | apply Keeps.ite | intro _
    | apply Keeps.foldl | (apply Keeps.snd; assumption) | (apply Keeps.fst; assumption) | fail_if_no_progress apply Keeps.rest
    | apply Keeps.idOf | extract_lets | split

theorem State.storeWord_keeps {s₀ s : State} {p : Port} {k : Kind} {i b off : Nat} {may : Bool} {v : Word}
    (h : Keeps s₀ s) : Keeps s₀ (s.storeWord p k i b off may v) := by
  unfold State.storeWord
  repeat' with_reducible first
    | assumption | apply State.clampAt_keeps | apply State.storeField_keeps | apply Keeps.ite | intro _ | apply Keeps.foldl
    | (apply Keeps.snd; assumption) | (apply Keeps.fst; assumption) | fail_if_no_progress apply Keeps.rest | apply Keeps.idOf
    | extract_lets | split

theorem State.storeCommit_keeps {s₀ s : State} {k : Kind} {i b : Nat} (h : Keeps s₀ s) : Keeps s₀ (s.storeCommit k i b) := by
  unfold State.storeCommit
  repeat' with_reducible first
    | assumption | apply State.clampAt_keeps | apply State.setReg_keeps | apply State.evrCommitLists_keeps | apply Keeps.ite | intro _
    | apply Keeps.foldl | (apply Keeps.snd; assumption) | (apply Keeps.fst; assumption) | fail_if_no_progress apply Keeps.rest
    | apply Keeps.idOf | extract_lets | split

theorem State.storePage_keeps {s₀ s : State} {b : Nat} (h : Keeps s₀ s) : Keeps s₀ (s.storePage b) := by
  unfold State.storePage
  split
  · exact h
  · refine State.setStamp_keeps (State.setFv_keeps (State.setFv_keeps (Keeps.setStaged ?_ (State.storeCommit_keeps h))))
    exact SMap.rising_filter _ _ _

theorem State.committed_keeps {s₀ s : State} {old : State} {b : Nat} (h : Keeps s₀ s) : Keeps s₀ (s.committed old b) := by
  unfold State.committed
  repeat' with_reducible first
    | assumption | apply State.sacCommitted_keeps | apply State.cvCommitted_keeps | apply State.scCommitted_keeps
    | apply State.planesOfChannel_keeps | apply State.dynCommitted_keeps | apply State.spxCommitted_keeps
    | apply State.planeCommitted_keeps | apply State.plannedShow_keeps | apply State.scrubSet_keeps | apply State.classDue_keeps
    | apply State.squash_keeps | apply State.safShow_keeps | apply State.alhCommitted_keeps | apply State.fbeEnabled_keeps
    | apply State.objCommitted_keeps | apply State.pnlCommitted_keeps | apply State.dioCommitted_keeps
    | apply State.loopCommitted_keeps | apply State.rmpReplan_keeps | apply State.tbsCommitted_keeps | apply Keeps.ite | intro _
    | apply Keeps.foldl | (apply Keeps.snd; assumption) | (apply Keeps.fst; assumption) | fail_if_no_progress apply Keeps.rest
    | apply Keeps.idOf | extract_lets | split

theorem State.commitPage_keeps {s₀ s : State} {b : Nat} (h : Keeps s₀ s) : Keeps s₀ (s.commitPage b) := by
  have h1 : Keeps s₀ { s with group := s.group.filter (fun x => decide (x ≠ b)) } :=
    Keeps.setGroup (fun hg => Nat.le_trans (List.length_filter_le _ _) hg) h
  exact Keeps.ite (fun _ => State.committed_keeps (State.storePage_keeps h1)) (fun _ => h1)

theorem State.discardPage_keeps {s₀ s : State} {b : Nat} (h : Keeps s₀ s) : Keeps s₀ (s.discardPage b) := by
  have h1 : Keeps s₀ { s with group := s.group.filter (fun x => decide (x ≠ b)), staged := SMap.dropRange s.staged b (b + 0x1000) } :=
    Keeps.setStaged (SMap.rising_filter _ _ _) (Keeps.setGroup (fun hg => Nat.le_trans (List.length_filter_le _ _) hg) h)
  exact State.setFv_keeps (Keeps.ite (fun _ => Keeps.rest h1) (fun _ => h1))

theorem State.commitAll_keeps {s₀ s : State} {pages : List Nat} (h : Keeps s₀ s) : Keeps s₀ (s.commitAll pages) := by
  unfold State.commitAll
  repeat' with_reducible first
    | assumption | apply State.storePage_keeps | apply State.committed_keeps | apply Keeps.ite | intro _ | apply Keeps.foldl

theorem State.groupCommit_keeps {s₀ s : State} (h : Keeps s₀ s) : Keeps s₀ s.groupCommit := by
  refine Keeps.ite (fun _ => h) (fun _ => State.irq_keeps (State.wrapInc_keeps (State.commitAll_keeps ?_)))
  exact Keeps.setGroup (fun _ => Nat.zero_le _) h

theorem State.joinPage_keeps {s₀ s : State} {b : Nat} (h : Keeps s₀ s) : Keeps s₀ (s.joinPage b) := by
  refine Keeps.ite (fun _ => h) (fun _ => Keeps.ite (fun _ => State.clampAt_keeps h) (fun hl => Keeps.setGroup (fun _ => ?_) h))
  simp only [List.length_append, List.length_cons, List.length_nil]
  omega

theorem State.pgCtrl_keeps {s₀ s : State} {p : Port} {b : Nat} {v : Word} (h : Keeps s₀ s) : Keeps s₀ (s.pgCtrl p b v) := by
  unfold State.pgCtrl
  repeat' with_reducible first
    | assumption | apply State.clampAt_keeps | apply State.setFv_keeps | apply State.commitPage_keeps | apply State.discardPage_keeps
    | apply State.joinPage_keeps | apply Keeps.ite | intro _ | apply Keeps.foldl | (apply Keeps.snd; assumption)
    | (apply Keeps.fst; assumption) | fail_if_no_progress apply Keeps.rest | apply Keeps.idOf | extract_lets | split

theorem State.clampNext_keeps {s₀ s : State} {b : Nat} {v : Word} (h : Keeps s₀ s) : Keeps s₀ (s.clampNext b v) := by
  refine Keeps.ite (fun _ => State.setRing_keeps (fun _ => Nat.zero_le _) h) (fun _ => Keeps.ite (fun _ => ?_) (fun _ => h))
  refine State.setRing_keeps (fun hb => ?_) h
  have hl := State.ring_bounded s b hb
  simp only [List.length_drop]
  omega

theorem State.tbsFields_keeps {s₀ s : State} {off : Nat} {v : Word} (h : Keeps s₀ s) : Keeps s₀ (s.tbsFields off v) := by
  unfold State.tbsFields
  repeat' with_reducible first
    | assumption | apply Keeps.ite | intro _ | apply Keeps.foldl | (apply Keeps.snd; assumption) | (apply Keeps.fst; assumption)
    | fail_if_no_progress apply Keeps.rest

theorem State.pageAction_keeps {s₀ s : State} {old : State} {p : Port} {k : Kind} {i b off : Nat} {v : Word} {may : Bool} {sent : Nat} {flips : List Nat}
    (h : Keeps s₀ s) : Keeps s₀ (s.pageAction old p k i b off v may sent flips) := by
  unfold State.pageAction
  repeat' with_reducible first
    | assumption | apply State.powerRequest_keeps | apply State.setReg_keeps | apply State.groupCommit_keeps | apply State.cqPop_keeps
    | apply State.tlyCancel_keeps | apply State.tbsCtrl_keeps | apply State.tbsFields_keeps | apply State.secReached_keeps
    | apply State.dayReached_keeps | apply State.safCtrl_keeps | apply State.ageCtrl_keeps | apply State.secCtrl_keeps
    | apply State.secResp_keeps | apply State.fbeShow_keeps | apply State.debugStep_keeps | apply State.clampAt_keeps
    | apply State.lnkCtrl_keeps | apply State.hbufTake_keeps | apply State.calHold_keeps | apply State.scCtrl_keeps
    | apply State.planeCtrl_keeps | apply State.stoCtrl_keeps | apply State.pteClr_keeps | apply State.simWrite_keeps
    | apply State.simValue_keeps | apply State.classRelease_keeps | apply State.alhWord_keeps | apply State.alhCmdWrite_keeps
    | apply State.alhClear_keeps | apply State.frcCtrl_keeps | apply State.evTrig_keeps | apply State.fbeClr_keeps
    | apply State.evrTrigGo_keeps | apply State.evrClr_keeps | apply State.dioCtrl_keeps | apply State.doSet_keeps
    | apply State.lpoClr_keeps | apply State.loopSet_keeps | apply State.loopCtrl_keeps | apply State.canCtrl_keeps
    | apply State.pmbRelease_keeps | apply State.objCtrl_keeps | apply State.pnlCtrl_keeps | apply State.rmpReplan_keeps
    | apply State.rmpCtrl_keeps | apply Keeps.ite | intro _ | apply Keeps.foldl | (apply Keeps.snd; assumption)
    | (apply Keeps.fst; assumption) | fail_if_no_progress apply Keeps.rest | apply Keeps.idOf | extract_lets | split
    | (refine Keeps.setGroup (fun _ => by decide) ?_)

theorem State.refuseWord_keeps {s₀ s : State} {p : Port} {b off : Nat} {v : Word}
    (h : Keeps s₀ s) : Keeps s₀ (s.refuseWord p b off v) := by
  unfold State.refuseWord
  repeat' with_reducible first
    | assumption | apply State.clampAt_keeps | apply State.trapRefused_keeps | apply Keeps.ite | intro _

theorem State.takeWord_keeps {s₀ s : State} {p : Port} {a : Nat} {v : Word} {sent : Nat} {flips : List Nat}
    (h : Keeps s₀ s) : Keeps s₀ (s.takeWord p a v sent flips) := by
  unfold State.takeWord
  repeat' with_reducible first
    | assumption | apply State.storeWord_keeps | apply State.pgCtrl_keeps | apply State.clampNext_keeps | apply State.setReg_keeps
    | apply State.pageAction_keeps | apply Keeps.ite | intro _ | apply Keeps.foldl | (apply Keeps.snd; assumption)
    | (apply Keeps.fst; assumption) | fail_if_no_progress apply Keeps.rest | apply Keeps.idOf | extract_lets | split

theorem State.writeWord_keeps {s₀ s : State} {p : Port} {a : Nat} {v : Word} {sent : Nat} {flips : List Nat}
    (h : Keeps s₀ s) : Keeps s₀ (s.writeWord p a v sent flips) := by
  unfold State.writeWord
  repeat' with_reducible first
    | assumption | apply State.takeWord_keeps | apply State.refuseWord_keeps | apply Keeps.ite | intro _ | apply Keeps.foldl
    | (apply Keeps.snd; assumption) | (apply Keeps.fst; assumption) | fail_if_no_progress apply Keeps.rest | apply Keeps.idOf
    | extract_lets | split

end Sys2Proof.Machine
end

