-- ==== Sys2Proof/Laws/KeepsImage.lean ====
section
/-! SUPPORT. What the operations of Machine/Image.lean keep (Laws/Keeps.lean). -/

namespace Sys2Proof.Machine

open Sys2Proof

theorem State.imageShow_keeps {s₀ s : State} {target : Nat} {sig dec : Bool} {slot id : Nat}
    (h : Keeps s₀ s) : Keeps s₀ (s.imageShow target sig dec slot id) := by
  unfold State.imageShow
  repeat' with_reducible first
    | assumption | apply State.setFb_keeps | apply State.setFv_keeps

theorem State.imageFails_keeps {s₀ s : State} {n id r1 : Nat} (h : Keeps s₀ s) : Keeps s₀ (s.imageFails n id r1) := by
  unfold State.imageFails
  repeat' with_reducible first
    | assumption | apply State.tallyEnds_keeps | apply State.secEvent_keeps

theorem State.standbyInvalid_keeps {s₀ s : State} (h : Keeps s₀ s) : Keeps s₀ s.standbyInvalid := by
  unfold State.standbyInvalid
  repeat' with_reducible first
    | assumption | apply State.setFv_keeps | apply Keeps.ite | intro _ | apply Keeps.foldl | (apply Keeps.snd; assumption)
    | (apply Keeps.fst; assumption) | fail_if_no_progress apply Keeps.rest

theorem State.formFails_keeps {s₀ s : State} {x : Tally} {id r1 : Nat} (h : Keeps s₀ s) : Keeps s₀ (s.formFails x id r1) := by
  unfold State.formFails
  repeat' with_reducible first
    | assumption | apply State.tallyEnds_keeps | apply State.standbyInvalid_keeps | apply Keeps.ite | intro _

theorem State.checkImage_keeps {s₀ s : State} {x : Tally} {ecc : EccFinds} (h : Keeps s₀ s) : Keeps s₀ (s.checkImage x ecc).1 := by
  unfold State.checkImage
  repeat' with_reducible first
    | assumption | apply State.tallyRefused_keeps | apply State.eccFinds_keeps | apply State.tallyEnds_keeps
    | apply State.imageShow_keeps | apply State.formFails_keeps | apply State.imageFails_keeps | apply Keeps.ite | intro _
    | apply Keeps.foldl | (apply Keeps.snd; assumption) | (apply Keeps.fst; assumption) | fail_if_no_progress apply Keeps.rest
    | apply Keeps.idOf | extract_lets | split

theorem State.imageConfig_keeps {s₀ s : State} {p : Port} {body : List Byte} (h : Keeps s₀ s) : Keeps s₀ (s.imageConfig p body) := by
  have h1 : Keeps s₀ ((imageRecords body).foldl (fun (s : State) r => s.takeWord p r.1 r.2.2 0 []) s) :=
    Keeps.foldl (fun t x ht => State.takeWord_keeps ht) _ h
  refine Keeps.ite (fun _ => h1) (fun _ => State.irq_keeps (State.wrapInc_keeps (State.commitAll_keeps ?_)))
  exact Keeps.setGroup (fun hg => Nat.le_trans (List.length_filter_le _ _) hg) h1

theorem execImgLoadProgram_keeps (t tally : Nat) (ecc : EccFinds) (s : State) : KeepsNext s (execImgLoadProgram t tally ecc s) := by
  unfold execImgLoadProgram
  repeat' with_reducible first
    | exact State.at_keeps (Keeps.refl _) | apply KeepsNext.next | assumption | apply State.lateStop_keeps
    | apply State.checkImage_keeps | apply State.formFails_keeps | apply State.nodeWrite_keeps | apply State.setFv_keeps
    | apply State.tallyDone_keeps | apply KeepsNext.ite | apply Keeps.ite | intro _ | apply Keeps.foldl
    | (apply Keeps.snd; assumption) | (apply Keeps.fst; assumption) | fail_if_no_progress apply Keeps.rest | apply Keeps.idOf
    | extract_lets | split

theorem execImgLoadConfig_keeps (t tally : Nat) (ecc : EccFinds) (s : State) : KeepsNext s (execImgLoadConfig t tally ecc s) := by
  unfold execImgLoadConfig
  repeat' with_reducible first
    | exact State.at_keeps (Keeps.refl _) | apply KeepsNext.next | assumption | apply State.lateStop_keeps
    | apply State.checkImage_keeps | apply State.tallyEnds_keeps | apply State.tallyDone_keeps | apply State.imageConfig_keeps
    | apply KeepsNext.ite | apply Keeps.ite | intro _ | apply Keeps.foldl | (apply Keeps.snd; assumption)
    | (apply Keeps.fst; assumption) | fail_if_no_progress apply Keeps.rest | apply Keeps.idOf | extract_lets | split

theorem execImgLoadAlarmTable_keeps (t tally : Nat) (ecc : EccFinds) (s : State) : KeepsNext s (execImgLoadAlarmTable t tally ecc s) := by
  unfold execImgLoadAlarmTable
  repeat' with_reducible first
    | exact State.at_keeps (Keeps.refl _) | apply KeepsNext.next | assumption | apply State.lateStop_keeps
    | apply State.checkImage_keeps | apply State.tallyEnds_keeps | apply State.unlessWaits_keeps | apply State.tallyDone_keeps
    | apply State.alhRecount_keeps | apply State.alhLoad_keeps | apply KeepsNext.ite | apply Keeps.ite | intro _ | apply Keeps.foldl
    | (apply Keeps.snd; assumption) | (apply Keeps.fst; assumption) | fail_if_no_progress apply Keeps.rest | apply Keeps.idOf
    | extract_lets | split

end Sys2Proof.Machine
end

