-- ==== Sys2Proof/Laws/KeepsHostPort.lean ====
section
/-! SUPPORT. What the operations of Machine/HostPort.lean keep (Laws/Keeps.lean). -/

namespace Sys2Proof.Machine

open Sys2Proof

theorem State.setPortState_keeps {s₀ s : State} {p : Port} {x : PortState} (h : Keeps s₀ s) : Keeps s₀ (s.setPortState p x) := by
  unfold State.setPortState
  repeat' with_reducible first
    | assumption | apply Keeps.ite | intro _ | apply Keeps.foldl | (apply Keeps.snd; assumption) | (apply Keeps.fst; assumption)
    | fail_if_no_progress apply Keeps.rest | apply Keeps.idOf | extract_lets | split

theorem State.frameEnd_keeps {s₀ s : State} {p : Port} (h : Keeps s₀ s) : Keeps s₀ (s.frameEnd p) := by
  unfold State.frameEnd
  repeat' with_reducible first
    | assumption | apply State.setFv_keeps | apply Keeps.ite | intro _ | apply Keeps.foldl | (apply Keeps.snd; assumption)
    | (apply Keeps.fst; assumption) | fail_if_no_progress apply Keeps.rest | apply Keeps.idOf | extract_lets | split

theorem State.answers_keeps {s₀ s : State} {p : Port} {status : Byte} {data : List Byte}
    (h : Keeps s₀ s) : Keeps s₀ (s.answers p status data) := by
  unfold State.answers
  repeat' with_reducible first
    | assumption | apply State.setPortState_keeps

theorem State.dropRead_keeps {s₀ s : State} {p : Port} (h : Keeps s₀ s) : Keeps s₀ (s.dropRead p) := by
  unfold State.dropRead
  repeat' with_reducible first
    | assumption | apply State.setPortState_keeps

theorem State.writeLost_keeps {s₀ s : State} {p : Port} (h : Keeps s₀ s) : Keeps s₀ (s.writeLost p) := by
  unfold State.writeLost
  repeat' with_reducible first
    | assumption | apply State.irq_keeps | apply State.setPortState_keeps

theorem State.badAddr_keeps {s₀ s : State} (h : Keeps s₀ s) : Keeps s₀ s.badAddr := by
  unfold State.badAddr
  repeat' with_reducible first
    | assumption | apply State.irq_keeps | apply State.satInc_keeps

theorem State.burstWord_keeps {s₀ s : State} {p : Port} {a : Nat} (h : Keeps s₀ s) : Keeps s₀ (s.burstWord p a).2 := by
  unfold State.burstWord
  repeat' with_reducible first
    | assumption | apply State.hbufGive_keeps | apply Keeps.ite | intro _ | apply Keeps.foldl | (apply Keeps.snd; assumption)
    | (apply Keeps.fst; assumption) | fail_if_no_progress apply Keeps.rest | apply Keeps.idOf | extract_lets | split

theorem State.burstWords_keeps {s₀ : State} {p : Port} (n : Nat) :
    ∀ {s : State} {a : Nat}, Keeps s₀ s → Keeps s₀ (s.burstWords p a n).2 := by
  induction n with
  | zero => exact fun h => h
  | succ n ih => exact fun h => ih (State.burstWord_keeps h)

theorem State.readNow_keeps {s₀ s : State} {p : Port} {a base n : Nat} (h : Keeps s₀ s) : Keeps s₀ (s.readNow p a base n).2.2 := by
  unfold State.readNow
  repeat' with_reducible first
    | assumption | apply State.burstWords_keeps | apply Keeps.ite | intro _ | apply Keeps.foldl | (apply Keeps.snd; assumption)
    | (apply Keeps.fst; assumption) | fail_if_no_progress apply Keeps.rest | apply Keeps.idOf | extract_lets | split

theorem State.countRead_keeps {s₀ s : State} {p : Port} {a base n : Nat} (h : Keeps s₀ s) : Keeps s₀ (s.countRead p a base n) := by
  unfold State.countRead
  repeat' with_reducible first
    | assumption | apply State.satInc_keeps | apply State.badAddr_keeps | apply State.trapRefused_keeps | apply Keeps.ite | intro _

theorem State.answerRead_keeps {s₀ s : State} {p : Port} {a base n ok : Nat} {l : List Byte}
    (h : Keeps s₀ s) : Keeps s₀ (s.answerRead p a base n ok l) := by
  unfold State.answerRead
  repeat' with_reducible first
    | assumption | apply State.dropRead_keeps | apply State.countRead_keeps | apply State.answers_keeps

theorem State.holdRead_keeps {s₀ s : State} {p : Port} {a n : Nat} (h : Keeps s₀ s) : Keeps s₀ (s.holdRead p a n) := by
  unfold State.holdRead
  repeat' with_reducible first
    | assumption | apply State.setPortState_keeps | apply State.answers_keeps

theorem State.readFrame_keeps {s₀ s : State} {p : Port} {lanes a n hz ns : Nat} {ecc : EccFinds}
    (h : Keeps s₀ s) : Keeps s₀ (s.readFrame p lanes a n hz ns ecc) := by
  unfold State.readFrame
  repeat' with_reducible first
    | assumption | apply State.answers_keeps | apply State.dropRead_keeps | apply State.tlyGo_keeps | apply State.satInc_keeps
    | apply State.eccFinds_keeps | apply State.readNow_keeps | apply State.answerRead_keeps | apply State.holdRead_keeps
    | apply Keeps.ite | intro _ | apply Keeps.foldl | (apply Keeps.snd; assumption) | (apply Keeps.fst; assumption)
    | fail_if_no_progress apply Keeps.rest | apply Keeps.idOf | extract_lets | split

theorem State.frameDone_keeps {s₀ s : State} (h : Keeps s₀ s) : Keeps s₀ s.frameDone := by
  refine h.trans ⟨id, id, id, id, fun hq => ?_, id, id, id, id, Nat.le_refl _, rfl⟩
  simp only [State.frameDone, List.length_drop]
  omega

theorem State.aperWrite_keeps {s₀ s : State} {f : Frame} (h : Keeps s₀ s) : Keeps s₀ (s.aperWrite f) := by
  unfold State.aperWrite
  repeat' with_reducible first
    | assumption | apply State.nodeWrite_keeps | apply State.trapRefused_keeps | apply State.writeLost_keeps | apply Keeps.ite
    | intro _ | apply Keeps.foldl

theorem State.drainAper_keeps {s₀ : State} (k : Nat) : ∀ {s : State}, Keeps s₀ s → Keeps s₀ (s.drainAper k) := by
  induction k with
  | zero => exact fun h => h
  | succ k ih =>
    intro s h
    unfold State.drainAper
    split
    · exact h
    · exact Keeps.ite (fun _ => h) (fun _ => ih (State.frameDone_keeps (State.aperWrite_keeps h)))

/-- What a read of the storeroom finds by its code leaves the write queue alone. -/
theorem State.eccFinds_queue (s : State) (e : EccFinds) : (s.eccFinds e).queue = s.queue := by
  have hr : ∀ (t : State) (x : Nat × Nat), (t.rowDue x).queue = t.queue := by
    intro t x
    unfold State.rowDue
    split <;> rfl
  have hu : ∀ (t : State) (a : Nat), (t.uncorrectable a).queue = t.queue := by
    intro t a
    unfold State.uncorrectable
    dsimp only
    split
    · rfl
    · split
      · exact hr _ _
      · exact hr _ _
  have hc : ∀ (t : State) (a : Nat), (t.corrected a).queue = t.queue := by
    intro t a
    unfold State.corrected
    dsimp only
    split
    · rfl
    · split
      · exact hr _ _
      · rfl
  unfold State.eccFinds
  have hl : ∀ (l : List Nat) (t : State),
      (l.foldl (fun s a => if a < 0x100000000 then s.uncorrectable a else s) t).queue = t.queue := by
    intro l
    induction l with
    | nil => exact fun _ => rfl
    | cons a l ih =>
      intro t
      rw [List.foldl_cons, ih]
      split
      · exact hu t a
      · rfl
  have hk : ∀ (l : List Nat) (t : State), (l.foldl (fun (s : State) a => s.corrected a) t).queue = t.queue := by
    intro l
    induction l with
    | nil => exact fun _ => rfl
    | cons a l ih =>
      intro t
      rw [List.foldl_cons, ih]
      exact hc t a
  exact (hl _ _).trans (hk _ _)

theorem State.dropRead_queue (s : State) (p : Port) : (s.dropRead p).queue = s.queue := by cases p <;> rfl

theorem State.writeFrame_keeps {s₀ s : State} {p : Port} {a : Nat} {l : List Byte} {ecc : EccFinds} (h : Keeps s₀ s) :
    Keeps s₀ (s.writeFrame p a l ecc) := by
  have h1 : Keeps s₀ (s.dropRead p) := State.dropRead_keeps h
  unfold State.writeFrame
  extract_lets a' s1 l' s2 f
  refine Keeps.ite (fun _ => h) (fun _ => Keeps.ite (fun _ => State.writeLost_keeps h1) (fun _ => ?_))
  refine Keeps.ite (fun _ => State.writeLost_keeps (State.badAddr_keeps h1)) (fun _ => Keeps.ite (fun _ => h1) (fun _ => ?_))
  refine Keeps.ite (fun _ => State.writeLost_keeps (State.satInc_keeps h1)) (fun hq => State.drainAper_keeps _ ?_)
  have h2 : Keeps s₀ s2 := Keeps.ite (fun _ => State.eccFinds_keeps h1) (fun _ => h1)
  have e2 : s2.queue = s1.queue := by
    show (if windowBottom ≤ a' then s1.eccFinds ecc else s1).queue = s1.queue
    split
    · exact State.eccFinds_queue s1 ecc
    · rfl
  refine Keeps.setQueue (fun _ => ?_) h2
  rw [e2]
  simp only [List.length_append, List.length_cons, List.length_nil]
  omega

theorem execRd1_keeps (t : Nat) (port : Port) (addr n sckHz fabricNs : Nat) (ecc : EccFinds) (s : State) :
    KeepsNext s (execRd1 t port addr n sckHz fabricNs ecc s) := by
  unfold execRd1
  repeat' with_reducible first
    | exact State.at_keeps (Keeps.refl _) | apply KeepsNext.next | assumption | apply State.frameEnd_keeps
    | apply State.readFrame_keeps | apply KeepsNext.ite | apply Keeps.ite | intro _

theorem execRd4_keeps (t addr n sckHz fabricNs : Nat) (ecc : EccFinds) (s : State) :
    KeepsNext s (execRd4 t addr n sckHz fabricNs ecc s) := by
  unfold execRd4
  repeat' with_reducible first
    | exact State.at_keeps (Keeps.refl _) | apply KeepsNext.next | assumption | apply State.readFrame_keeps

theorem execTlyGo_keeps (t : Nat) (port : Port) (s : State) : KeepsNext s (execTlyGo t port s) := by
  unfold execTlyGo
  repeat' with_reducible first
    | exact State.at_keeps (Keeps.refl _) | apply KeepsNext.next | assumption | apply State.frameEnd_keeps
    | apply State.readFrame_keeps | apply KeepsNext.ite | apply Keeps.ite | intro _

theorem execHbufRead_keeps (t : Nat) (port : Port) (addr n : Nat) (s : State) : KeepsNext s (execHbufRead t port addr n s) := by
  unfold execHbufRead
  repeat' with_reducible first
    | exact State.at_keeps (Keeps.refl _) | apply KeepsNext.next | assumption | apply State.frameEnd_keeps
    | apply State.readFrame_keeps | apply KeepsNext.ite | apply Keeps.ite | intro _

theorem execHeldReadComplete_keeps (t : Nat) (port : Port) (ecc : EccFinds) (s : State) :
    KeepsNext s (execHeldReadComplete t port ecc s) := by
  unfold execHeldReadComplete
  repeat' with_reducible first
    | exact State.at_keeps (Keeps.refl _) | apply KeepsNext.next | assumption | apply State.eccFinds_keeps | apply State.readNow_keeps
    | apply State.setPortState_keeps | apply KeepsNext.ite | apply Keeps.ite | intro _ | apply Keeps.foldl
    | fail_if_no_progress apply Keeps.rest | apply Keeps.idOf | extract_lets | split

theorem execTallyLaunch_keeps (t : Nat) (port : Port) (s : State) : KeepsNext s (execTallyLaunch t port s) := by
  unfold execTallyLaunch
  repeat' with_reducible first
    | exact State.at_keeps (Keeps.refl _) | apply KeepsNext.next | assumption | apply State.tlyGo_keeps
    | apply State.setPortState_keeps | apply KeepsNext.ite | apply Keeps.ite | intro _ | apply Keeps.foldl
    | fail_if_no_progress apply Keeps.rest | apply Keeps.idOf | extract_lets | split

theorem execWr1_keeps (t : Nat) (port : Port) (addr : Nat) (data : List Byte) (ecc : EccFinds) (s : State) :
    KeepsNext s (execWr1 t port addr data ecc s) := by
  unfold execWr1
  repeat' with_reducible first
    | exact State.at_keeps (Keeps.refl _) | apply KeepsNext.next | assumption | apply State.frameEnd_keeps
    | apply State.writeFrame_keeps | apply KeepsNext.ite | apply Keeps.ite | intro _

theorem execWr4_keeps (t addr : Nat) (data : List Byte) (ecc : EccFinds) (s : State) : KeepsNext s (execWr4 t addr data ecc s) := by
  unfold execWr4
  repeat' with_reducible first
    | exact State.at_keeps (Keeps.refl _) | apply KeepsNext.next | assumption | apply State.writeFrame_keeps

theorem execFrameAbort_keeps (t : Nat) (port : Port) (addr : Nat) (data : List Byte) (ecc : EccFinds) (s : State) :
    KeepsNext s (execFrameAbort t port addr data ecc s) := by
  unfold execFrameAbort
  repeat' with_reducible first
    | exact State.at_keeps (Keeps.refl _) | apply KeepsNext.next | assumption | apply State.frameEnd_keeps
    | apply State.writeFrame_keeps | apply KeepsNext.ite | apply Keeps.ite | intro _

theorem execStat_keeps (t : Nat) (port : Port) (s : State) : KeepsNext s (execStat t port s) := by
  unfold execStat
  repeat' with_reducible first
    | exact State.at_keeps (Keeps.refl _) | apply KeepsNext.next | assumption | apply State.frameEnd_keeps | apply State.answers_keeps
    | apply State.setPortState_keeps | apply KeepsNext.ite | apply Keeps.ite | intro _

theorem execHrst_keeps (t : Nat) (s : State) : KeepsNext s (execHrst t s) := by
  unfold execHrst
  repeat' with_reducible first
    | exact State.at_keeps (Keeps.refl _) | apply KeepsNext.next | assumption | apply State.dropRead_keeps | apply KeepsNext.ite
    | apply Keeps.ite | intro _

theorem execUndefinedOpcode_keeps (t : Nat) (port : Port) (opcode : Byte) (s : State) :
    KeepsNext s (execUndefinedOpcode t port opcode s) := by
  unfold execUndefinedOpcode
  repeat' with_reducible first
    | exact State.at_keeps (Keeps.refl _) | apply KeepsNext.next | assumption | apply State.frameEnd_keeps | apply State.irq_keeps
    | apply State.satInc_keeps | apply KeepsNext.ite | apply Keeps.ite | intro _

end Sys2Proof.Machine
end

