-- ==== Sys2Proof/Laws/KeepsWrites.lean ====
section
/-! SUPPORT. What the operations of Machine/Writes.lean keep (Laws/Keeps.lean). -/

namespace Sys2Proof.Machine

open Sys2Proof

theorem State.popWord_keeps {s₀ s : State} (h : Keeps s₀ s) : Keeps s₀ s.popWord := by
  unfold State.popWord
  split
  · exact h
  · rename_i f rest hq
    refine Keeps.ite (fun _ => State.drainAper_keeps _ (State.frameDone_keeps h)) (fun _ => Keeps.setQueue (fun hl => ?_) h)
    rw [hq] at hl
    exact hl

theorem State.takeFrontNow_keeps {s₀ s : State} {is : Nat → Word → Bool} {sent : Nat} {flips : List Nat}
    (h : Keeps s₀ s) : Keeps s₀ (s.takeFrontNow is sent flips) := by
  unfold State.takeFrontNow
  repeat' with_reducible first
    | assumption | apply State.popWord_keeps | apply State.writeWord_keeps | apply Keeps.ite | intro _ | apply Keeps.foldl
    | (apply Keeps.snd; assumption) | (apply Keeps.fst; assumption) | fail_if_no_progress apply Keeps.rest | apply Keeps.idOf
    | extract_lets | split

theorem State.takeFront_keeps {s₀ s : State} {is : Nat → Word → Bool} {sent : Nat} {flips : List Nat}
    (h : Keeps s₀ s) : Keeps s₀ (s.takeFront is sent flips) := by
  unfold State.takeFront
  repeat' with_reducible first
    | assumption | apply State.unlessWaits_keeps | apply State.takeFrontNow_keeps

theorem State.takeRow_keeps {s₀ s : State} {r : WriteRow} {sent : Nat} {flips : List Nat}
    (h : Keeps s₀ s) : Keeps s₀ (s.takeRow r sent flips) := by
  unfold State.takeRow
  repeat' with_reducible first
    | assumption | apply State.takeFront_keeps

theorem State.takeWindow_keeps {s₀ s : State} {is : Frame → Bool} (h : Keeps s₀ s) : Keeps s₀ (s.takeWindow is) := by
  have hw : ∀ {p : Port} {base a : Nat} {l : List Byte} {t : State}, s.windowWrite p base a l = some t → Keeps s₀ t := by
    intro p base a l t e
    unfold State.windowWrite at e
    dsimp only at e
    split at e
    · cases e
    · cases e
      exact State.safShow_keeps (State.classEvents_keeps (Keeps.foldl (fun t x ht => State.windowBytes_keeps _ ht) _ h))
  unfold State.takeWindow
  split
  · exact h
  · refine Keeps.ite (fun _ => h) (fun _ => ?_)
    repeat' with_reducible first
      | assumption | apply State.drainAper_keeps | apply State.frameDone_keeps | apply State.writeLost_keeps
      | apply State.trapRefused_keeps | (apply hw; assumption) | split

theorem State.takeOpenWindow_keeps {s₀ s : State} {is : Frame → Bool} (h : Keeps s₀ s) : Keeps s₀ (s.takeOpenWindow is) := by
  unfold State.takeOpenWindow
  repeat' with_reducible first
    | assumption | apply State.takeWindow_keeps

theorem State.drainQueue_keeps {s₀ : State} (k : Nat) : ∀ {s : State}, Keeps s₀ s → Keeps s₀ (s.drainQueue k) := by
  induction k with
  | zero => exact fun h => h
  | succ k ih =>
    intro s h
    unfold State.drainQueue
    split
    · exact h
    · exact ih (State.drainAper_keeps _ (State.takeWindow_keeps (State.takeFrontNow_keeps h)))

theorem execRegisterWrite_keeps (t : Nat) (s : State) : KeepsNext s (execRegisterWrite t s) := by
  unfold execRegisterWrite
  repeat' with_reducible first
    | exact State.at_keeps (Keeps.refl _) | apply KeepsNext.next | assumption | apply State.takeFront_keeps

theorem execPointWindowWrite_keeps (t : Nat) (s : State) : KeepsNext s (execPointWindowWrite t s) := by
  unfold execPointWindowWrite
  repeat' with_reducible first
    | exact State.at_keeps (Keeps.refl _) | apply KeepsNext.next | assumption | apply State.takeOpenWindow_keeps

theorem execPointForce_keeps (t : Nat) (s : State) : KeepsNext s (execPointForce t s) := by
  unfold execPointForce
  repeat' with_reducible first
    | exact State.at_keeps (Keeps.refl _) | apply KeepsNext.next | assumption | apply State.takeOpenWindow_keeps

theorem execPointForceRelease_keeps (t : Nat) (s : State) : KeepsNext s (execPointForceRelease t s) := by
  unfold execPointForceRelease
  repeat' with_reducible first
    | exact State.at_keeps (Keeps.refl _) | apply KeepsNext.next | assumption | apply State.takeOpenWindow_keeps

theorem execLatchRelease_keeps (t : Nat) (s : State) : KeepsNext s (execLatchRelease t s) := by
  unfold execLatchRelease
  repeat' with_reducible first
    | exact State.at_keeps (Keeps.refl _) | apply KeepsNext.next | assumption | apply State.takeOpenWindow_keeps

theorem execPointSimulate_keeps (t : Nat) (s : State) : KeepsNext s (execPointSimulate t s) := by
  unfold execPointSimulate
  repeat' with_reducible first
    | exact State.at_keeps (Keeps.refl _) | apply KeepsNext.next | assumption | apply State.takeOpenWindow_keeps

theorem execSimulationEnd_keeps (t : Nat) (s : State) : KeepsNext s (execSimulationEnd t s) := by
  unfold execSimulationEnd
  repeat' with_reducible first
    | exact State.at_keeps (Keeps.refl _) | apply KeepsNext.next | assumption | apply State.takeOpenWindow_keeps

end Sys2Proof.Machine
end

