-- ==== Sys2Proof/Laws/KeepsPower.lean ====
section
/-! SUPPORT. What the operations of Machine/Power.lean keep (Laws/Keeps.lean). -/

namespace Sys2Proof.Machine

open Sys2Proof

theorem State.corReset_keeps {s₀ s : State} (h : Keeps s₀ s) : Keeps s₀ s.corReset := by
  have h1 : Keeps s₀ (s.lapse (fun _ _ => true)) := State.lapse_keeps h
  exact h1.trans ⟨id, SMap.rising_filter _ _ _, id, fun _ _ hr => (List.not_mem_nil hr).elim, fun _ => Nat.zero_le _, id, id, id, id,
    Nat.le_refl _, rfl⟩

theorem State.fieldAtStart_keeps {s₀ s : State} {vf18 : Bool} (h : Keeps s₀ s) : Keeps s₀ (s.fieldAtStart vf18) := by
  unfold State.fieldAtStart
  repeat' with_reducible first
    | assumption | apply State.draw_keeps | apply State.setField_keeps | apply Keeps.ite | intro _

theorem State.startCor_keeps {s₀ s : State} {cause : Nat} {vf18 : Bool} (hn : s₀.now ≤ s.clockFloor) (h : Keeps s₀ s) :
    Keeps s₀ (s.startCor cause vf18) := by
  unfold State.startCor
  have h1 : Keeps s₀ s.startClocks := State.startClocks_keeps hn h
  repeat' with_reducible first
    | assumption | apply State.seenStart_keeps | apply State.canStart_keeps | apply State.rmpStart_keeps | apply State.lpoStart_keeps
    | apply State.dioStart_keeps | apply State.fieldAtStart_keeps | apply State.pnlStart_keeps | apply State.stoStart_keeps
    | apply State.lnkStart_keeps | apply State.setFb_keeps | apply State.secStart_keeps | apply State.setFv_keeps
    | apply State.clocksShow_keeps | apply State.corReset_keeps | fail_if_no_progress apply Keeps.rest

theorem State.startReady_keeps {s₀ s : State} {cold : Bool} (h : Keeps s₀ s) : Keeps s₀ (s.startReady cold) := by
  unfold State.startReady
  extract_lets clean s1 src s2 s3 s4 s5 s6 s7
  have h2 : Keeps s₀ s2 := Keeps.rest (State.setFv_keeps h)
  clear_value s2
  have h3 : Keeps s₀ s3 := State.awaken_keeps h2
  clear_value s3
  have h4 : Keeps s₀ s4 := State.alhStart_keeps h3
  clear_value s4
  have h5 : Keeps s₀ s5 := State.plannedShow_keeps (State.tallyStart_keeps (State.evrStart_keeps h4))
  clear_value s5
  exact State.setFv_keeps (State.fbeShow_keeps (State.safShow_keeps (State.setFv_keeps h5)))

theorem State.startHolds_keeps {s₀ s : State} (h : Keeps s₀ s) : Keeps s₀ s.startHolds := by
  unfold State.startHolds
  repeat' with_reducible first
    | assumption | apply State.setFv_keeps

theorem State.startFails_keeps {s₀ s : State} {fails : List (Nat × Nat)} (h : Keeps s₀ s) : Keeps s₀ (s.startFails fails) := by
  unfold State.startFails
  repeat' with_reducible first
    | assumption | apply State.diagnosticFails_keeps | apply Keeps.ite | intro _ | apply Keeps.foldl

theorem State.workStops_keeps {s₀ s : State} (h : Keeps s₀ s) : Keeps s₀ s.workStops := by
  unfold State.workStops
  extract_lets s1 s2 stopAt
  have h1 : Keeps s₀ s1 := State.rmpHalt_keeps (State.planStops_keeps (State.linkCut_keeps (State.cyclesCut_keeps (State.talliesEnd_keeps h))))
  have h2 : Keeps s₀ s2 := State.ageCount_keeps (State.calCounting_keeps (State.sacStop_keeps h1))
  clear_value s2
  exact h2.trans ⟨id, id, id, id, fun _ => Nat.zero_le _, id, id, id, id, Nat.le_refl _, rfl⟩

theorem State.lostUnwarned_keeps {s₀ s : State} (h : Keeps s₀ s) : Keeps s₀ s.lostUnwarned := by
  unfold State.lostUnwarned
  repeat' with_reducible first
    | assumption | apply Keeps.ite | intro _ | apply Keeps.foldl | (apply Keeps.snd; assumption) | (apply Keeps.fst; assumption)
    | fail_if_no_progress apply Keeps.rest

theorem State.tdenRises_keeps {s₀ s : State} (h : Keeps s₀ s) : Keeps s₀ s.tdenRises := by
  have h1 : ∀ {t : State}, Keeps s₀ t → Keeps s₀ ({ t with sec := { t.sec with tdenLow := none } } : State) := fun h => Keeps.rest h
  exact State.irq_keeps (State.setFv_keeps (h1 (State.expireSession_keeps h)))

theorem State.at_clockFloor (s : State) (t : Nat) (h : s.pwr.mode ≠ .locked) : (s.at t).clockFloor = s.clockFloor := by
  have e1 : (s.at t).pwr = s.pwr := by unfold State.at; split <;> rfl
  have e2 : (s.at t).tbs.record = s.tbs.record := by unfold State.at; split <;> rfl
  simp only [State.clockFloor, e1, e2, h, if_false]

/-- A start-up: the clauses are kept, and the timebase resumes where it stopped or later. -/
theorem execStartUp_keeps (t ready : Nat) (tmode pfwLow vf18 : Bool) (fails : List (Nat × Nat)) (s : State) :
    KeepsNext { s with now := s.timeFloor (.startUp t ready tmode pfwLow vf18 fails) } (execStartUp t ready tmode pfwLow vf18 fails s) := by
  have e1 : (s.at t).pwr = s.pwr := by unfold State.at; split <;> rfl
  have hf : s.timeFloor (.startUp t ready tmode pfwLow vf18 fails) ≤ s.now := by
    simp only [State.timeFloor]
    split
    · exact Nat.min_le_left _ _
    · exact Nat.le_refl _
  have h1 : Keeps { s with now := s.timeFloor (.startUp t ready tmode pfwLow vf18 fails) } (s.at t) :=
    Keeps.earlier hf (State.at_keeps (Keeps.refl s))
  have go : s.pwr.mode = .off ∨ s.pwr.mode = .backup → s.pwr.mode ≠ .locked → s.timeFloor (.startUp t ready tmode pfwLow vf18 fails) ≤ (s.at t).pnlOff.clockFloor := by
    intro hm hl
    have e : (s.at t).pnlOff.clockFloor = (s.at t).clockFloor := rfl
    rw [e, State.at_clockFloor s t hl]
    simp only [State.timeFloor, if_pos hm]
    exact Nat.min_le_right _ _
  unfold execStartUp
  dsimp only
  split
  case' h_1 hm => have hx : s.pwr.mode = .off ∨ s.pwr.mode = .backup := .inl (by rw [← e1]; exact hm)
  case' h_1 hm => have hy : s.pwr.mode ≠ .locked := by rw [← e1, hm]; decide
  case' h_2 hm => have hx : s.pwr.mode = .off ∨ s.pwr.mode = .backup := .inr (by rw [← e1]; exact hm)
  case' h_2 hm => have hy : s.pwr.mode ≠ .locked := by rw [← e1, hm]; decide
  case h_3 => exact KeepsNext.next h1
  all_goals
    refine KeepsNext.ite (fun _ => KeepsNext.next (Keeps.rest h1)) (fun _ => ?_)
    have h2 := State.startCor_keeps (cause := if (s.at t).pwr.cellarLost then 0 else 1) (vf18 := vf18) (go hx hy) (State.pnlOff_keeps h1)
    exact KeepsNext.ite (fun _ => KeepsNext.next (State.startHolds_keeps (State.startFails_keeps (Keeps.rest h2))))
      (fun _ => KeepsNext.next (State.startReady_keeps (State.at_keeps (State.startFails_keeps (Keeps.rest h2)))))

theorem execPfwHoldRelease_keeps (t : Nat) (s : State) : KeepsNext s (execPfwHoldRelease t s) := by
  unfold execPfwHoldRelease
  repeat' with_reducible first
    | exact State.at_keeps (Keeps.refl _) | apply KeepsNext.next | assumption | apply State.startReady_keeps | apply KeepsNext.ite
    | apply Keeps.ite | intro _

theorem execPfwWithdrawn_keeps (t : Nat) (fails : List (Nat × Nat)) (s : State) : KeepsNext s (execPfwWithdrawn t fails s) := by
  unfold execPfwWithdrawn
  extract_lets s1 vf18
  have h1 : Keeps s s1 := State.at_keeps (Keeps.refl s)
  refine KeepsNext.ite (fun hm => KeepsNext.next ?_) (fun _ => KeepsNext.next h1)
  refine State.startReady_keeps (State.startFails_keeps (State.startCor_keeps ?_ h1))
  rw [State.clockFloor, if_pos hm]
  exact h1.now

theorem execPowerFailWarning_keeps (t lock : Nat) (s : State) : KeepsNext s (execPowerFailWarning t lock s) := by
  unfold execPowerFailWarning
  repeat' with_reducible first
    | exact State.at_keeps (Keeps.refl _) | apply KeepsNext.next | assumption | apply State.drainQueue_keeps
    | apply State.pnlStop_keeps | apply State.flushLarder_keeps | apply State.workStops_keeps | apply State.recordTimebase_keeps
    | apply State.flushMarker_keeps | apply State.setFv_keeps | apply KeepsNext.ite | apply Keeps.ite | intro _ | apply Keeps.foldl
    | (apply Keeps.snd; assumption) | (apply Keeps.fst; assumption) | fail_if_no_progress apply Keeps.rest

theorem execUnwarnedLoss_keeps (t : Nat) (s : State) : KeepsNext s (execUnwarnedLoss t s) := by
  unfold execUnwarnedLoss
  repeat' with_reducible first
    | exact State.at_keeps (Keeps.refl _) | apply KeepsNext.next | assumption | apply State.lostUnwarned_keeps
    | apply State.pnlOff_keeps | apply State.workStops_keeps | apply State.evrLost_keeps | apply KeepsNext.ite | apply Keeps.ite
    | intro _ | apply Keeps.foldl | (apply Keeps.snd; assumption) | (apply Keeps.fst; assumption)
    | fail_if_no_progress apply Keeps.rest | apply Keeps.idOf | extract_lets | split | (refine Keeps.setQueue (fun _ => by decide) ?_)

theorem execCellarStop_keeps (t : Nat) (s : State) : KeepsNext s (execCellarStop t s) := by
  unfold execCellarStop
  repeat' with_reducible first
    | exact State.at_keeps (Keeps.refl _) | apply KeepsNext.next | assumption | apply KeepsNext.ite | apply Keeps.ite | intro _
    | apply Keeps.foldl | (apply Keeps.snd; assumption) | (apply Keeps.fst; assumption) | fail_if_no_progress apply Keeps.rest

theorem execTamperEvent_keeps (t : Nat) (input : Fin 2) (live : Nat) (s : State) : KeepsNext s (execTamperEvent t input live s) := by
  unfold execTamperEvent
  repeat' with_reducible first
    | exact State.at_keeps (Keeps.refl _) | apply KeepsNext.next | assumption | apply State.setFv_keeps | apply State.wakeSource_keeps
    | apply State.tamper_keeps | apply KeepsNext.ite | apply Keeps.ite | intro _

theorem execTdenRising_keeps (t : Nat) (s : State) : KeepsNext s (execTdenRising t s) := by
  unfold execTdenRising
  repeat' with_reducible first
    | exact State.at_keeps (Keeps.refl _) | apply KeepsNext.next | assumption | apply State.wakeSource_keeps
    | apply State.tdenRises_keeps | apply KeepsNext.ite | apply Keeps.ite | intro _

end Sys2Proof.Machine
end

