-- ==== Sys2Proof/Laws/Moves.lean ====
section
/-! SUPPORT. What every operation leaves as it was: `Moves m s t` says that only parts whose bits are set in `m` differ (bit n is the n-th
constructor of `Part`), with one lemma for each operation in the files Laws/Moves…. -/

namespace Sys2Proof.Machine

open Sys2Proof

set_option linter.all false

/-- The place of a part in a mask. -/
def Part.bit : Part → Nat
  | .now => 0
  | .pending => 1
  | .free => 2
  | .regs => 3
  | .staged => 4
  | .group => 5
  | .rings => 6
  | .sealedPages => 7
  | .queue => 8
  | .host => 9
  | .trap => 10
  | .mem => 11
  | .poisoned => 12
  | .pwr => 13
  | .tly => 14
  | .sac => 15
  | .dyn => 16
  | .spx => 17
  | .sto => 18
  | .pte => 19
  | .alh => 20
  | .fbe => 21
  | .evr => 22
  | .tbs => 23
  | .dio => 24
  | .lpo => 25
  | .can => 26
  | .pnl => 27
  | .rmp => 28
  | .saf => 29
  | .age => 30
  | .sec => 31
  | .lnk => 32

/-- From `s` to `t` only parts of the mask differ. -/
def Moves (m : Nat) (s t : State) : Prop := ∀ p : Part, m.testBit p.bit = false → s.same t p

theorem Moves.refl (m : Nat) (s : State) : Moves m s s := fun p _ => by cases p <;> rfl

theorem Moves.trans {m : Nat} {s t u : State} (h : Moves m s t) (g : Moves m t u) : Moves m s u := fun p hp => by
  have a := h p hp
  have b := g p hp
  cases p <;> exact Eq.trans b a

theorem Moves.weaken {k m : Nat} {s t : State} (hm : Nat.land k m = k) (h : Moves k s t) : Moves m s t := fun p hp => h p (by
  have e : (Nat.land k m).testBit p.bit = (k.testBit p.bit && m.testBit p.bit) := Nat.testBit_and _ _ _
  rw [hm, hp, Bool.and_false] at e
  exact e)

/-- An operation of a smaller mask after what moves parts of `m`. -/
theorem Moves.via {k m : Nat} {s t u : State} (h : Moves k t u) (hm : Nat.land k m = k) (g : Moves m s t) : Moves m s u :=
  g.trans (h.weaken hm)

theorem Moves.ite {m : Nat} {c : Prop} [Decidable c] {s t u : State} (h : c → Moves m s t) (g : ¬c → Moves m s u) :
    Moves m s (if c then t else u) := by
  split
  · exact h ‹_›
  · exact g ‹_›

theorem Moves.foldl {α : Type} {m : Nat} {f : State → α → State} {s : State} (hf : ∀ t x, Moves m t (f t x)) :
    ∀ (l : List α) {t : State}, Moves m s t → Moves m s (l.foldl f t)
  | [], _, h => h
  | x :: l, t, h => Moves.foldl hf l (h.trans (hf t x))

theorem Moves.foldlFst {α β : Type} {m : Nat} {f : State × β → α → State × β} {s : State} (hf : ∀ r x, Moves m r.1 (f r x).1) :
    ∀ (l : List α) {r : State × β}, Moves m s r.1 → Moves m s (l.foldl f r).1
  | [], _, h => h
  | x :: l, r, h => Moves.foldlFst hf l (h.trans (hf r x))

theorem Moves.snd {α : Type} {m : Nat} {s t : State} {p : α × State} {a : α} (e : p = (a, t)) (h : Moves m s p.2) : Moves m s t := by
  rw [e] at h
  exact h

theorem Moves.fst {α : Type} {m : Nat} {s t : State} {p : State × α} {a : α} (e : p = (t, a)) (h : Moves m s p.1) : Moves m s t := by
  rw [e] at h
  exact h

theorem Moves.idOf {m : Nat} {s t : State} (h : Moves m s t) : Moves m s (id t) := h

/-! Updates of one field. -/

theorem Moves.now {m : Nat} {s t : State} {x : Nat} (hm : m.testBit 0 = true) (h : Moves m s t) :
    Moves m s { t with now := x } := h.trans fun p hp => by
  cases p <;> first | rfl | exact absurd (hp.symm.trans hm) Bool.false_ne_true

theorem Moves.pending {m : Nat} {s t : State} {x : List Instr} (hm : m.testBit 1 = true) (h : Moves m s t) :
    Moves m s { t with pending := x } := h.trans fun p hp => by
  cases p <;> first | rfl | exact absurd (hp.symm.trans hm) Bool.false_ne_true

theorem Moves.free {m : Nat} {s t : State} {x : Nat} (hm : m.testBit 2 = true) (h : Moves m s t) :
    Moves m s { t with free := x } := h.trans fun p hp => by
  cases p <;> first | rfl | exact absurd (hp.symm.trans hm) Bool.false_ne_true

theorem Moves.regs {m : Nat} {s t : State} {x : SMap Word} (hm : m.testBit 3 = true) (h : Moves m s t) :
    Moves m s { t with regs := x } := h.trans fun p hp => by
  cases p <;> first | rfl | exact absurd (hp.symm.trans hm) Bool.false_ne_true

theorem Moves.staged {m : Nat} {s t : State} {x : SMap Word} (hm : m.testBit 4 = true) (h : Moves m s t) :
    Moves m s { t with staged := x } := h.trans fun p hp => by
  cases p <;> first | rfl | exact absurd (hp.symm.trans hm) Bool.false_ne_true

theorem Moves.group {m : Nat} {s t : State} {x : List Nat} (hm : m.testBit 5 = true) (h : Moves m s t) :
    Moves m s { t with group := x } := h.trans fun p hp => by
  cases p <;> first | rfl | exact absurd (hp.symm.trans hm) Bool.false_ne_true

theorem Moves.rings {m : Nat} {s t : State} {x : List ClampRing} (hm : m.testBit 6 = true) (h : Moves m s t) :
    Moves m s { t with rings := x } := h.trans fun p hp => by
  cases p <;> first | rfl | exact absurd (hp.symm.trans hm) Bool.false_ne_true

theorem Moves.sealedPages {m : Nat} {s t : State} {x : List Nat} (hm : m.testBit 7 = true) (h : Moves m s t) :
    Moves m s { t with sealedPages := x } := h.trans fun p hp => by
  cases p <;> first | rfl | exact absurd (hp.symm.trans hm) Bool.false_ne_true

theorem Moves.queue {m : Nat} {s t : State} {x : List Frame} (hm : m.testBit 8 = true) (h : Moves m s t) :
    Moves m s { t with queue := x } := h.trans fun p hp => by
  cases p <;> first | rfl | exact absurd (hp.symm.trans hm) Bool.false_ne_true

theorem Moves.host {m : Nat} {s t : State} {x : PortState} (hm : m.testBit 9 = true) (h : Moves m s t) :
    Moves m s { t with host := x } := h.trans fun p hp => by
  cases p <;> first | rfl | exact absurd (hp.symm.trans hm) Bool.false_ne_true

theorem Moves.trap {m : Nat} {s t : State} {x : PortState} (hm : m.testBit 10 = true) (h : Moves m s t) :
    Moves m s { t with trap := x } := h.trans fun p hp => by
  cases p <;> first | rfl | exact absurd (hp.symm.trans hm) Bool.false_ne_true

theorem Moves.mem {m : Nat} {s t : State} {x : SMap Byte} (hm : m.testBit 11 = true) (h : Moves m s t) :
    Moves m s { t with mem := x } := h.trans fun p hp => by
  cases p <;> first | rfl | exact absurd (hp.symm.trans hm) Bool.false_ne_true

theorem Moves.poisoned {m : Nat} {s t : State} {x : List Nat} (hm : m.testBit 12 = true) (h : Moves m s t) :
    Moves m s { t with poisoned := x } := h.trans fun p hp => by
  cases p <;> first | rfl | exact absurd (hp.symm.trans hm) Bool.false_ne_true

theorem Moves.pwr {m : Nat} {s t : State} {x : Pwr} (hm : m.testBit 13 = true) (h : Moves m s t) :
    Moves m s { t with pwr := x } := h.trans fun p hp => by
  cases p <;> first | rfl | exact absurd (hp.symm.trans hm) Bool.false_ne_true

theorem Moves.tly {m : Nat} {s t : State} {x : Tly} (hm : m.testBit 14 = true) (h : Moves m s t) :
    Moves m s { t with tly := x } := h.trans fun p hp => by
  cases p <;> first | rfl | exact absurd (hp.symm.trans hm) Bool.false_ne_true

theorem Moves.sac {m : Nat} {s t : State} {x : Sac} (hm : m.testBit 15 = true) (h : Moves m s t) :
    Moves m s { t with sac := x } := h.trans fun p hp => by
  cases p <;> first | rfl | exact absurd (hp.symm.trans hm) Bool.false_ne_true

theorem Moves.dyn {m : Nat} {s t : State} {x : List DynCh} (hm : m.testBit 16 = true) (h : Moves m s t) :
    Moves m s { t with dyn := x } := h.trans fun p hp => by
  cases p <;> first | rfl | exact absurd (hp.symm.trans hm) Bool.false_ne_true

theorem Moves.spx {m : Nat} {s t : State} {x : List SpxPl} (hm : m.testBit 17 = true) (h : Moves m s t) :
    Moves m s { t with spx := x } := h.trans fun p hp => by
  cases p <;> first | rfl | exact absurd (hp.symm.trans hm) Bool.false_ne_true

theorem Moves.sto {m : Nat} {s t : State} {x : Sto} (hm : m.testBit 18 = true) (h : Moves m s t) :
    Moves m s { t with sto := x } := h.trans fun p hp => by
  cases p <;> first | rfl | exact absurd (hp.symm.trans hm) Bool.false_ne_true

theorem Moves.pte {m : Nat} {s t : State} {x : Pte} (hm : m.testBit 19 = true) (h : Moves m s t) :
    Moves m s { t with pte := x } := h.trans fun p hp => by
  cases p <;> first | rfl | exact absurd (hp.symm.trans hm) Bool.false_ne_true

theorem Moves.alh {m : Nat} {s t : State} {x : Alh} (hm : m.testBit 20 = true) (h : Moves m s t) :
    Moves m s { t with alh := x } := h.trans fun p hp => by
  cases p <;> first | rfl | exact absurd (hp.symm.trans hm) Bool.false_ne_true

theorem Moves.fbe {m : Nat} {s t : State} {x : Fbe} (hm : m.testBit 21 = true) (h : Moves m s t) :
    Moves m s { t with fbe := x } := h.trans fun p hp => by
  cases p <;> first | rfl | exact absurd (hp.symm.trans hm) Bool.false_ne_true

theorem Moves.evr {m : Nat} {s t : State} {x : Evr} (hm : m.testBit 22 = true) (h : Moves m s t) :
    Moves m s { t with evr := x } := h.trans fun p hp => by
  cases p <;> first | rfl | exact absurd (hp.symm.trans hm) Bool.false_ne_true

theorem Moves.tbs {m : Nat} {s t : State} {x : Tbs} (hm : m.testBit 23 = true) (h : Moves m s t) :
    Moves m s { t with tbs := x } := h.trans fun p hp => by
  cases p <;> first | rfl | exact absurd (hp.symm.trans hm) Bool.false_ne_true

theorem Moves.dio {m : Nat} {s t : State} {x : Dio} (hm : m.testBit 24 = true) (h : Moves m s t) :
    Moves m s { t with dio := x } := h.trans fun p hp => by
  cases p <;> first | rfl | exact absurd (hp.symm.trans hm) Bool.false_ne_true

theorem Moves.lpo {m : Nat} {s t : State} {x : Lpo} (hm : m.testBit 25 = true) (h : Moves m s t) :
    Moves m s { t with lpo := x } := h.trans fun p hp => by
  cases p <;> first | rfl | exact absurd (hp.symm.trans hm) Bool.false_ne_true

theorem Moves.can {m : Nat} {s t : State} {x : Can} (hm : m.testBit 26 = true) (h : Moves m s t) :
    Moves m s { t with can := x } := h.trans fun p hp => by
  cases p <;> first | rfl | exact absurd (hp.symm.trans hm) Bool.false_ne_true

theorem Moves.pnl {m : Nat} {s t : State} {x : Pnl} (hm : m.testBit 27 = true) (h : Moves m s t) :
    Moves m s { t with pnl := x } := h.trans fun p hp => by
  cases p <;> first | rfl | exact absurd (hp.symm.trans hm) Bool.false_ne_true

theorem Moves.rmp {m : Nat} {s t : State} {x : Rmp} (hm : m.testBit 28 = true) (h : Moves m s t) :
    Moves m s { t with rmp := x } := h.trans fun p hp => by
  cases p <;> first | rfl | exact absurd (hp.symm.trans hm) Bool.false_ne_true

theorem Moves.saf {m : Nat} {s t : State} {x : Saf} (hm : m.testBit 29 = true) (h : Moves m s t) :
    Moves m s { t with saf := x } := h.trans fun p hp => by
  cases p <;> first | rfl | exact absurd (hp.symm.trans hm) Bool.false_ne_true

theorem Moves.age {m : Nat} {s t : State} {x : Age} (hm : m.testBit 30 = true) (h : Moves m s t) :
    Moves m s { t with age := x } := h.trans fun p hp => by
  cases p <;> first | rfl | exact absurd (hp.symm.trans hm) Bool.false_ne_true

theorem Moves.sec {m : Nat} {s t : State} {x : Sec} (hm : m.testBit 31 = true) (h : Moves m s t) :
    Moves m s { t with sec := x } := h.trans fun p hp => by
  cases p <;> first | rfl | exact absurd (hp.symm.trans hm) Bool.false_ne_true

theorem Moves.lnk {m : Nat} {s t : State} {x : Lnk} (hm : m.testBit 32 = true) (h : Moves m s t) :
    Moves m s { t with lnk := x } := h.trans fun p hp => by
  cases p <;> first | rfl | exact absurd (hp.symm.trans hm) Bool.false_ne_true

theorem Moves.host_trap {m : Nat} {s t : State} {x0 : PortState} {x1 : PortState}
    (hm : Nat.land 0x600 m = 0x600) (h : Moves m s t) : Moves m s { t with host := x0, trap := x1 } :=
  h.trans (Moves.weaken hm fun p hp => by cases p <;> first | rfl | exact absurd hp (by decide))

theorem Moves.mem_evr {m : Nat} {s t : State} {x0 : SMap Byte} {x1 : Evr}
    (hm : Nat.land 0x400800 m = 0x400800) (h : Moves m s t) : Moves m s { t with mem := x0, evr := x1 } :=
  h.trans (Moves.weaken hm fun p hp => by cases p <;> first | rfl | exact absurd hp (by decide))

theorem Moves.mem_poisoned {m : Nat} {s t : State} {x0 : SMap Byte} {x1 : List Nat}
    (hm : Nat.land 0x1800 m = 0x1800) (h : Moves m s t) : Moves m s { t with mem := x0, poisoned := x1 } :=
  h.trans (Moves.weaken hm fun p hp => by cases p <;> first | rfl | exact absurd hp (by decide))

theorem Moves.queue_host_trap {m : Nat} {s t : State} {x0 : List Frame} {x1 : PortState} {x2 : PortState}
    (hm : Nat.land 0x700 m = 0x700) (h : Moves m s t) : Moves m s { t with queue := x0, host := x1, trap := x2 } :=
  h.trans (Moves.weaken hm fun p hp => by cases p <;> first | rfl | exact absurd hp (by decide))

theorem Moves.queue_host_trap_pwr {m : Nat} {s t : State} {x0 : List Frame} {x1 : PortState} {x2 : PortState} {x3 : Pwr}
    (hm : Nat.land 0x2700 m = 0x2700) (h : Moves m s t) : Moves m s { t with queue := x0, host := x1, trap := x2, pwr := x3 } :=
  h.trans (Moves.weaken hm fun p hp => by cases p <;> first | rfl | exact absurd hp (by decide))

theorem Moves.regs_rings_queue_host_trap {m : Nat} {s t : State} {x0 : SMap Word} {x1 : List ClampRing} {x2 : List Frame} {x3 : PortState} {x4 : PortState}
    (hm : Nat.land 0x748 m = 0x748) (h : Moves m s t) : Moves m s { t with regs := x0, rings := x1, queue := x2, host := x3, trap := x4 } :=
  h.trans (Moves.weaken hm fun p hp => by cases p <;> first | rfl | exact absurd hp (by decide))

theorem Moves.staged_group {m : Nat} {s t : State} {x0 : SMap Word} {x1 : List Nat}
    (hm : Nat.land 0x30 m = 0x30) (h : Moves m s t) : Moves m s { t with staged := x0, group := x1 } :=
  h.trans (Moves.weaken hm fun p hp => by cases p <;> first | rfl | exact absurd hp (by decide))

theorem Moves.tbs_age {m : Nat} {s t : State} {x0 : Tbs} {x1 : Age}
    (hm : Nat.land 0x40800000 m = 0x40800000) (h : Moves m s t) : Moves m s { t with tbs := x0, age := x1 } :=
  h.trans (Moves.weaken hm fun p hp => by cases p <;> first | rfl | exact absurd hp (by decide))

theorem Moves.now_tbs {m : Nat} {s t : State} {x0 : Nat} {x1 : Tbs}
    (hm : Nat.land 0x800001 m = 0x800001) (h : Moves m s t) : Moves m s { t with now := x0, tbs := x1 } :=
  h.trans (Moves.weaken hm fun p hp => by cases p <;> first | rfl | exact absurd hp (by decide))


/-- A command answers a next state, and moves only parts of the mask. -/
def MovesNext (m : Nat) (s : State) (o : Host.Outcome State Fault Refusal) : Prop := ∃ t, o = .next t ∧ Moves m s t

theorem MovesNext.next {m : Nat} {s t : State} (h : Moves m s t) : MovesNext m s (.next t) := ⟨t, rfl, h⟩

theorem MovesNext.ite {m : Nat} {c : Prop} [Decidable c] {s : State} {a b : Host.Outcome State Fault Refusal} (ha : c → MovesNext m s a)
    (hb : ¬c → MovesNext m s b) : MovesNext m s (if c then a else b) := by
  split
  · exact ha ‹_›
  · exact hb ‹_›

/-- Every part whose bit is set in the mask is listed. -/
def Part.covers (m : Nat) (ps : List Part) : Bool :=
  [.now, .pending, .free, .regs, .staged, .group, .rings, .sealedPages, .queue, .host, .trap, .mem, .poisoned, .pwr, .tly, .sac,
    .dyn, .spx, .sto, .pte, .alh, .fbe, .evr, .tbs, .dio, .lpo, .can, .pnl, .rmp, .saf, .age, .sec, .lnk].all fun p =>
    !m.testBit p.bit || ps.contains p

theorem MovesNext.only {m : Nat} {s : State} {o : Host.Outcome State Fault Refusal} {ps : List Part} (h : MovesNext m s o)
    (hp : Part.covers m ps = true) : s.movesOnly ps o := by
  obtain ⟨t, e, g⟩ := h
  refine ⟨t, e, fun p hn => g p ?_⟩
  have hx := List.all_eq_true.1 hp p (by cases p <;> decide)
  cases hb : m.testBit p.bit with
  | false => rfl
  | true =>
    rw [hb] at hx
    exact absurd (List.contains_iff_mem.1 hx) hn

/-! ### Shared operations -/

theorem State.setReg_moves {s : State} {a : Nat} {w : Word} : Moves 0x8 s (s.setReg a w) := by
  unfold State.setReg
  repeat' with_reducible first
    | apply Moves.refl | apply Moves.ite | intro _ | apply Moves.foldl | (apply Moves.snd; assumption) | (apply Moves.fst; assumption)
    | apply Moves.idOf | fail_if_no_progress (apply Moves.regs; decide) | extract_lets | split

theorem State.setFv_moves {s : State} {b : Nat} {f : Field} {v : Nat} : Moves 0x8 s (s.setFv b f v) := by
  unfold State.setFv
  repeat' with_reducible first
    | apply Moves.refl | (apply Moves.via State.setReg_moves; decide) | apply Moves.ite | intro _ | apply Moves.foldl
    | (apply Moves.snd; assumption) | (apply Moves.fst; assumption) | apply Moves.idOf | extract_lets | split

theorem State.setFb_moves {s : State} {b : Nat} {f : Field} {v : Bool} : Moves 0x8 s (s.setFb b f v) := by
  unfold State.setFb
  repeat' with_reducible first
    | apply Moves.refl | (apply Moves.via State.setFv_moves; decide) | apply Moves.ite | intro _ | apply Moves.foldl
    | (apply Moves.snd; assumption) | (apply Moves.fst; assumption) | apply Moves.idOf | extract_lets | split

theorem State.satInc_moves {s : State} {b : Nat} {f : Field} {n : Nat} : Moves 0x8 s (s.satInc b f n) := by
  unfold State.satInc
  repeat' with_reducible first
    | apply Moves.refl | (apply Moves.via State.setFv_moves; decide) | apply Moves.ite | intro _ | apply Moves.foldl
    | (apply Moves.snd; assumption) | (apply Moves.fst; assumption) | apply Moves.idOf | extract_lets | split

theorem State.wrapInc_moves {s : State} {b : Nat} {f : Field} {n : Nat} : Moves 0x8 s (s.wrapInc b f n) := by
  unfold State.wrapInc
  repeat' with_reducible first
    | apply Moves.refl | (apply Moves.via State.setFv_moves; decide) | apply Moves.ite | intro _ | apply Moves.foldl
    | (apply Moves.snd; assumption) | (apply Moves.fst; assumption) | apply Moves.idOf | extract_lets | split

theorem State.setStamp_moves {s : State} {b : Nat} {lo hi : Field} {t : Nat} : Moves 0x8 s (s.setStamp b lo hi t) := by
  unfold State.setStamp
  repeat' with_reducible first
    | apply Moves.refl | (apply Moves.via State.setFv_moves; decide) | apply Moves.ite | intro _ | apply Moves.foldl
    | (apply Moves.snd; assumption) | (apply Moves.fst; assumption) | apply Moves.idOf | extract_lets | split

theorem State.irq_moves {s : State} {b n : Nat} : Moves 0x8 s (s.irq b n) := by
  unfold State.irq
  repeat' with_reducible first
    | apply Moves.refl | (apply Moves.via State.setReg_moves; decide) | apply Moves.ite | intro _ | apply Moves.foldl
    | (apply Moves.snd; assumption) | (apply Moves.fst; assumption) | apply Moves.idOf | extract_lets | split

theorem State.irqIf_moves {s : State} {c : Bool} {b n : Nat} : Moves 0x8 s (s.irqIf c b n) := by
  unfold State.irqIf
  repeat' with_reducible first
    | apply Moves.refl | (apply Moves.via State.irq_moves; decide) | apply Moves.ite | intro _ | apply Moves.foldl
    | (apply Moves.snd; assumption) | (apply Moves.fst; assumption) | apply Moves.idOf | extract_lets | split

theorem State.setRing_moves {s : State} {r : ClampRing} : Moves 0x40 s (s.setRing r) := by
  unfold State.setRing
  repeat' with_reducible first
    | apply Moves.refl | apply Moves.ite | intro _ | apply Moves.foldl | (apply Moves.snd; assumption) | (apply Moves.fst; assumption)
    | apply Moves.idOf | fail_if_no_progress (apply Moves.rings; decide) | extract_lets | split

theorem State.clampAt_moves {s : State} {b off lsb : Nat} {src : Bool} {wr st : Nat} : Moves 0x648 s (s.clampAt b off lsb src wr st) := by
  unfold State.clampAt
  repeat' with_reducible first
    | apply Moves.refl | (apply Moves.via State.irq_moves; decide) | (apply Moves.via State.setRing_moves; decide) | apply Moves.ite
    | intro _ | apply Moves.foldl | (apply Moves.snd; assumption) | (apply Moves.fst; assumption) | apply Moves.idOf
    | fail_if_no_progress (apply Moves.host_trap; decide) | extract_lets | split

theorem State.wr8_moves {s : State} {a : Nat} {b : Byte} : Moves 0x800 s (s.wr8 a b) := by
  unfold State.wr8
  repeat' with_reducible first
    | apply Moves.refl | apply Moves.ite | intro _ | apply Moves.foldl | (apply Moves.snd; assumption) | (apply Moves.fst; assumption)
    | apply Moves.idOf | fail_if_no_progress (apply Moves.mem; decide) | extract_lets | split

theorem State.wrBytes_moves {l : List Byte} : ∀ {s : State} {a : Nat}, Moves 0x800 s (s.wrBytes a l) := by
  induction l with
  | nil => exact Moves.refl _ _
  | cons b l ih => exact Moves.trans State.wr8_moves ih

theorem State.wrLe_moves {s : State} {a n v : Nat} : Moves 0x800 s (s.wrLe a n v) := by
  unfold State.wrLe
  repeat' with_reducible first
    | apply Moves.refl | (apply Moves.via State.wrBytes_moves; decide) | apply Moves.ite | intro _ | apply Moves.foldl
    | (apply Moves.snd; assumption) | (apply Moves.fst; assumption) | apply Moves.idOf | extract_lets | split

theorem State.curePoison_moves {s : State} {a n : Nat} : Moves 0x1000 s (s.curePoison a n) := by
  unfold State.curePoison
  repeat' with_reducible first
    | apply Moves.refl | apply Moves.ite | intro _ | apply Moves.foldl | (apply Moves.snd; assumption) | (apply Moves.fst; assumption)
    | apply Moves.idOf | fail_if_no_progress (apply Moves.poisoned; decide) | extract_lets | split

theorem State.nodeWrite_moves {s : State} {a : Nat} {l : List Byte} : Moves 0x1800 s (s.nodeWrite a l) := by
  unfold State.nodeWrite
  repeat' with_reducible first
    | apply Moves.refl | (apply Moves.via State.wrBytes_moves; decide) | (apply Moves.via State.curePoison_moves; decide)
    | apply Moves.ite | intro _ | apply Moves.foldl | (apply Moves.snd; assumption) | (apply Moves.fst; assumption) | apply Moves.idOf
    | extract_lets | split

theorem State.nodeWriteLe_moves {s : State} {a n v : Nat} : Moves 0x1800 s (s.nodeWriteLe a n v) := by
  unfold State.nodeWriteLe
  repeat' with_reducible first
    | apply Moves.refl | (apply Moves.via State.nodeWrite_moves; decide) | apply Moves.ite | intro _ | apply Moves.foldl
    | (apply Moves.snd; assumption) | (apply Moves.fst; assumption) | apply Moves.idOf | extract_lets | split

theorem State.rowDue_moves {s : State} {r : Nat × Nat} : Moves 0x40000 s (s.rowDue r) := by
  unfold State.rowDue
  repeat' with_reducible first
    | apply Moves.refl | apply Moves.ite | intro _ | apply Moves.foldl | (apply Moves.snd; assumption) | (apply Moves.fst; assumption)
    | apply Moves.idOf | fail_if_no_progress (apply Moves.sto; decide) | extract_lets | split

theorem State.uncorrectable_moves {s : State} {a : Nat} : Moves 0x41008 s (s.uncorrectable a) := by
  unfold State.uncorrectable
  repeat' with_reducible first
    | apply Moves.refl | (apply Moves.via State.rowDue_moves; decide) | (apply Moves.via State.satInc_moves; decide)
    | (apply Moves.via State.setFv_moves; decide) | (apply Moves.via State.irq_moves; decide) | apply Moves.ite | intro _
    | apply Moves.foldl | (apply Moves.snd; assumption) | (apply Moves.fst; assumption) | apply Moves.idOf
    | fail_if_no_progress (apply Moves.poisoned; decide) | extract_lets | split

theorem State.draw_moves {s : State} : Moves 0x4 s s.draw.2 := by
  unfold State.draw
  repeat' with_reducible first
    | apply Moves.refl | apply Moves.ite | intro _ | apply Moves.foldl | (apply Moves.snd; assumption) | (apply Moves.fst; assumption)
    | apply Moves.idOf | fail_if_no_progress (apply Moves.free; decide) | extract_lets | split

theorem State.drawKey_moves {s : State} {i : Nat} : Moves 0x40004 s (s.drawKey i) := by
  unfold State.drawKey
  repeat' with_reducible first
    | apply Moves.refl | (apply Moves.via State.draw_moves; decide) | apply Moves.ite | intro _ | apply Moves.foldl
    | (apply Moves.snd; assumption) | (apply Moves.fst; assumption) | apply Moves.idOf | fail_if_no_progress (apply Moves.sto; decide)
    | extract_lets | split

theorem State.drawNewKey_moves {s : State} {i : Nat} : Moves 0x40004 s (s.drawNewKey i) := by
  unfold State.drawNewKey
  repeat' with_reducible first
    | apply Moves.refl | (apply Moves.via State.draw_moves; decide) | apply Moves.ite | intro _ | apply Moves.foldl
    | (apply Moves.snd; assumption) | (apply Moves.fst; assumption) | apply Moves.idOf | fail_if_no_progress (apply Moves.sto; decide)
    | extract_lets | split

theorem State.countPulses_moves {s : State} {n : Nat} : Moves 0x800000 s (s.countPulses n) := by
  unfold State.countPulses
  repeat' with_reducible first
    | apply Moves.refl | apply Moves.ite | intro _ | apply Moves.foldl | (apply Moves.snd; assumption) | (apply Moves.fst; assumption)
    | apply Moves.idOf | fail_if_no_progress (apply Moves.tbs; decide) | extract_lets | split

theorem State.at_moves {s : State} {t : Nat} : Moves 0x800001 s (s.at t) := by
  unfold State.at
  repeat' with_reducible first
    | apply Moves.refl | (apply Moves.via State.countPulses_moves; decide) | apply Moves.ite | intro _ | apply Moves.foldl
    | (apply Moves.snd; assumption) | (apply Moves.fst; assumption) | apply Moves.idOf | fail_if_no_progress (apply Moves.now; decide)
    | extract_lets | split

end Sys2Proof.Machine
end

