-- ==== Sys2Proof/Laws/MovesOps.lean ====
section
/-! SUPPORT. What the operations of Machine/Ops.lean leave as it was (Laws/Moves.lean). -/

namespace Sys2Proof.Machine

open Sys2Proof

theorem State.corrected_moves {s : State} {a : Nat} : Moves 0x40008 s (s.corrected a) := by
  unfold State.corrected
  repeat' with_reducible first
    | apply Moves.refl | (apply Moves.via State.satInc_moves; decide) | (apply Moves.via State.rowDue_moves; decide) | apply Moves.ite
    | intro _ | apply Moves.foldl | (apply Moves.snd; assumption) | (apply Moves.fst; assumption) | apply Moves.idOf
    | fail_if_no_progress (apply Moves.sto; decide)

theorem State.eccFinds_moves {s : State} {e : EccFinds} : Moves 0x41008 s (s.eccFinds e) := by
  unfold State.eccFinds
  repeat' with_reducible first
    | apply Moves.refl | (apply Moves.via State.uncorrectable_moves; decide) | (apply Moves.via State.corrected_moves; decide)
    | apply Moves.ite | intro _ | apply Moves.foldl

theorem State.failsUntil_moves {s : State} {code : Nat} {bad : Bool} : Moves 0x20000000 s (s.failsUntil code bad) := by
  unfold State.failsUntil
  repeat' with_reducible first
    | apply Moves.refl | apply Moves.ite | intro _ | apply Moves.foldl | (apply Moves.snd; assumption) | (apply Moves.fst; assumption)
    | apply Moves.idOf | fail_if_no_progress (apply Moves.saf; decide)

theorem State.lapse_moves {s : State} {p : Kind → Nat → Bool} : Moves 0x8 s (s.lapse p) := by
  unfold State.lapse
  repeat' with_reducible first
    | apply Moves.refl | (apply Moves.via State.setReg_moves; decide) | apply Moves.ite | intro _ | apply Moves.foldl
    | (apply Moves.snd; assumption) | (apply Moves.fst; assumption) | apply Moves.idOf | extract_lets | split

theorem State.wakeStamp_moves {s : State} {stamp bit : Nat} : Moves 0x8 s (s.wakeStamp stamp bit) := by
  unfold State.wakeStamp
  repeat' with_reducible first
    | apply Moves.refl | (apply Moves.via State.lapse_moves; decide) | (apply Moves.via State.setFv_moves; decide)
    | (apply Moves.via State.setStamp_moves; decide) | (apply Moves.via State.irq_moves; decide)
    | (apply Moves.via State.satInc_moves; decide)

theorem State.wakeSource_moves {s : State} {bit : Nat} : Moves 0x2008 s (s.wakeSource bit) := by
  unfold State.wakeSource
  repeat' with_reducible first
    | apply Moves.refl | (apply Moves.via State.wakeStamp_moves; decide) | apply Moves.ite | intro _ | apply Moves.foldl
    | (apply Moves.snd; assumption) | (apply Moves.fst; assumption) | apply Moves.idOf | fail_if_no_progress (apply Moves.pwr; decide)

theorem State.setValue_moves {s : State} {n : Nat} {v : Word} {src stamp : Nat} : Moves 0x1800 s (s.setValue n v src stamp) := by
  unfold State.setValue
  repeat' with_reducible first
    | apply Moves.refl | (apply Moves.via State.nodeWrite_moves; decide)

end Sys2Proof.Machine
end

