-- ==== Sys2Proof/Laws/MovesPoints.lean ====
section
/-! SUPPORT. What the operations of Machine/Points.lean leave as it was (Laws/Moves.lean). -/

namespace Sys2Proof.Machine

open Sys2Proof

theorem State.holdReported_moves {s : State} {p q : Nat} : Moves 0x80000 s (s.holdReported p q) := by
  unfold State.holdReported
  repeat' with_reducible first
    | apply Moves.refl | apply Moves.ite | intro _ | apply Moves.foldl | (apply Moves.snd; assumption) | (apply Moves.fst; assumption)
    | apply Moves.idOf | fail_if_no_progress (apply Moves.pte; decide)

theorem State.dropReported_moves {s : State} {p : Nat} : Moves 0x80000 s (s.dropReported p) := by
  unfold State.dropReported
  repeat' with_reducible first
    | apply Moves.refl | apply Moves.ite | intro _ | apply Moves.foldl | (apply Moves.snd; assumption) | (apply Moves.fst; assumption)
    | apply Moves.idOf | fail_if_no_progress (apply Moves.pte; decide)

theorem State.setEntry_moves {s : State} {e : Nat} {x : Entry} : Moves 0x100000 s (s.setEntry e x) := by
  unfold State.setEntry
  repeat' with_reducible first
    | apply Moves.refl | apply Moves.ite | intro _ | apply Moves.foldl | (apply Moves.snd; assumption) | (apply Moves.fst; assumption)
    | apply Moves.idOf | fail_if_no_progress (apply Moves.alh; decide)

theorem State.squashed_moves {s : State} {code p : Nat} : Moves 0x80008 s (s.squashed code p) := by
  unfold State.squashed
  repeat' with_reducible first
    | apply Moves.refl | (apply Moves.via State.setFv_moves; decide) | (apply Moves.via State.wrapInc_moves; decide)
    | (apply Moves.via State.setReg_moves; decide) | apply Moves.ite | intro _ | apply Moves.foldl | (apply Moves.snd; assumption)
    | (apply Moves.fst; assumption) | apply Moves.idOf | fail_if_no_progress (apply Moves.pte; decide)

theorem State.squash_moves {s : State} {code : Nat} {hits : Nat → Bool} : Moves 0x8000C s (s.squash code hits) := by
  unfold State.squash
  repeat' with_reducible first
    | apply Moves.refl | (apply Moves.via State.draw_moves; decide) | (apply Moves.via State.squashed_moves; decide) | apply Moves.ite
    | intro _ | apply Moves.foldl

theorem State.squashPoint_moves {s : State} {code p : Nat} : Moves 0x8000C s (s.squashPoint code p) := by
  unfold State.squashPoint
  repeat' with_reducible first
    | apply Moves.refl | (apply Moves.via State.squash_moves; decide)

theorem State.unlessWaits_moves {m : Nat} {s₀ s t : State} (h : Moves m s₀ s) (ht : Moves m s₀ t) : Moves m s₀ (s.unlessWaits t) :=
  Moves.ite (fun _ => h) (fun _ => ht)

theorem State.makeDue_moves {s : State} {n : Nat} : Moves 0x80000 s (s.makeDue n) := by
  unfold State.makeDue
  repeat' with_reducible first
    | apply Moves.refl | apply Moves.ite | intro _ | apply Moves.foldl | (apply Moves.snd; assumption) | (apply Moves.fst; assumption)
    | apply Moves.idOf | fail_if_no_progress (apply Moves.pte; decide)

theorem State.putRecord_moves {s : State} {p off : Nat} {l : List Byte} : Moves 0x81800 s (s.putRecord p off l) := by
  unfold State.putRecord
  repeat' with_reducible first
    | apply Moves.refl | (apply Moves.via State.nodeWrite_moves; decide) | (apply Moves.via State.makeDue_moves; decide)
    | apply Moves.ite | intro _

theorem State.writeRecord_moves {s : State} {p off : Nat} {l : List Byte} : Moves 0x8180C s (s.writeRecord p off l) := by
  unfold State.writeRecord
  repeat' with_reducible first
    | apply Moves.refl | (apply Moves.via State.squashPoint_moves; decide) | (apply Moves.via State.putRecord_moves; decide)

theorem State.unlatch_moves {s : State} {p : Nat} : Moves 0x81800 s (s.unlatch p) := by
  unfold State.unlatch
  repeat' with_reducible first
    | apply Moves.refl | (apply Moves.via State.putRecord_moves; decide) | apply Moves.ite | intro _ | apply Moves.foldl
    | (apply Moves.snd; assumption) | (apply Moves.fst; assumption) | apply Moves.idOf | fail_if_no_progress (apply Moves.pte; decide)

theorem State.releasePoint_moves {s : State} {p : Nat} : Moves 0x8180C s (s.releasePoint p) := by
  unfold State.releasePoint
  repeat' with_reducible first
    | apply Moves.refl | (apply Moves.via State.squashPoint_moves; decide) | (apply Moves.via State.unlatch_moves; decide)
    | apply Moves.ite | intro _

theorem State.setRun_moves {s : State} {k : Nat} {r : Option Run} : Moves 0x80000 s (s.setRun k r) := by
  unfold State.setRun
  repeat' with_reducible first
    | apply Moves.refl | apply Moves.ite | intro _ | apply Moves.foldl | (apply Moves.snd; assumption) | (apply Moves.fst; assumption)
    | apply Moves.idOf | fail_if_no_progress (apply Moves.pte; decide)

theorem State.dropRuns_moves {s : State} {n : Nat} : Moves 0x80000 s (s.dropRuns n) := by
  unfold State.dropRuns
  repeat' with_reducible first
    | apply Moves.refl | (apply Moves.via State.setRun_moves; decide) | apply Moves.ite | intro _ | apply Moves.foldl

theorem State.mapRuns_moves {s : State} {n : Nat} {f : Run → Run} : Moves 0x80000 s (s.mapRuns n f) := by
  unfold State.mapRuns
  repeat' with_reducible first
    | apply Moves.refl | (apply Moves.via State.setRun_moves; decide) | apply Moves.ite | intro _ | apply Moves.foldl
    | (apply Moves.snd; assumption) | (apply Moves.fst; assumption) | apply Moves.idOf | extract_lets | split

theorem State.freezeRuns_moves {s : State} {n stamp : Nat} : Moves 0x80000 s (s.freezeRuns n stamp) := by
  unfold State.freezeRuns
  repeat' with_reducible first
    | apply Moves.refl | (apply Moves.via State.mapRuns_moves; decide)

theorem State.setQuality_moves {s : State} {n quality stamp : Nat} : Moves 0x80000 s (s.setQuality n quality stamp) := by
  unfold State.setQuality
  repeat' with_reducible first
    | apply Moves.refl | (apply Moves.via State.freezeRuns_moves; decide) | (apply Moves.via State.mapRuns_moves; decide)
    | apply Moves.ite | intro _ | apply Moves.foldl | (apply Moves.snd; assumption) | (apply Moves.fst; assumption) | apply Moves.idOf
    | fail_if_no_progress (apply Moves.pte; decide)

theorem State.recordQuality_moves {s : State} {n quality : Nat} : Moves 0x81800 s (s.recordQuality n quality) := by
  unfold State.recordQuality
  repeat' with_reducible first
    | apply Moves.refl | (apply Moves.via State.nodeWrite_moves; decide) | (apply Moves.via State.holdReported_moves; decide)
    | apply Moves.ite | intro _

theorem State.channelSquash_moves {s : State} {n : Nat} : Moves 0x8000C s (s.channelSquash n) := by
  unfold State.channelSquash
  repeat' with_reducible first
    | apply Moves.refl | (apply Moves.via State.squashPoint_moves; decide) | apply Moves.ite | intro _

theorem State.sourceWrite_moves {s : State} {n : Nat} {v : Word} {quality src stamp : Nat} :
    Moves 0x8180C s (s.sourceWrite n v quality src stamp) := by
  unfold State.sourceWrite
  repeat' with_reducible first
    | apply Moves.refl | (apply Moves.via State.channelSquash_moves; decide) | (apply Moves.via State.makeDue_moves; decide)
    | (apply Moves.via State.setValue_moves; decide) | (apply Moves.via State.recordQuality_moves; decide)
    | (apply Moves.via State.setQuality_moves; decide) | apply Moves.ite | intro _ | apply Moves.foldl | (apply Moves.snd; assumption)
    | (apply Moves.fst; assumption) | apply Moves.idOf | fail_if_no_progress (apply Moves.pte; decide)

theorem State.sourceQuality_moves {s : State} {n quality : Nat} : Moves 0x8180C s (s.sourceQuality n quality) := by
  unfold State.sourceQuality
  repeat' with_reducible first
    | apply Moves.refl | (apply Moves.via State.makeDue_moves; decide) | (apply Moves.via State.recordQuality_moves; decide)
    | (apply Moves.via State.setQuality_moves; decide) | (apply Moves.via State.channelSquash_moves; decide) | apply Moves.ite
    | intro _ | apply Moves.foldl | (apply Moves.snd; assumption) | (apply Moves.fst; assumption) | apply Moves.idOf
    | fail_if_no_progress (apply Moves.pte; decide)

end Sys2Proof.Machine
end

