-- ==== Sys2Proof/Laws/MovesEvrQueue.lean ====
section
/-! SUPPORT. What the operations of Machine/EvrQueue.lean leave as it was (Laws/Moves.lean). -/

namespace Sys2Proof.Machine

open Sys2Proof

theorem State.foldTrigger_moves {s : State} {g : Trigger} {queueFull : Bool} : Moves 0x400008 s (s.foldTrigger g queueFull) := by
  unfold State.foldTrigger
  repeat' with_reducible first
    | apply Moves.refl | (apply Moves.via State.irq_moves; decide) | (apply Moves.via State.satInc_moves; decide) | apply Moves.ite
    | intro _ | apply Moves.foldl | (apply Moves.snd; assumption) | (apply Moves.fst; assumption) | apply Moves.idOf
    | fail_if_no_progress (apply Moves.evr; decide)

theorem State.refuseTrigger_moves {s : State} {g : Trigger} {queueFull : Bool} : Moves 0x400008 s (s.refuseTrigger g queueFull) := by
  unfold State.refuseTrigger
  repeat' with_reducible first
    | apply Moves.refl | (apply Moves.via State.foldTrigger_moves; decide) | (apply Moves.via State.satInc_moves; decide)
    | apply Moves.ite | intro _ | apply Moves.foldl | (apply Moves.snd; assumption) | (apply Moves.fst; assumption) | apply Moves.idOf
    | fail_if_no_progress (apply Moves.evr; decide)

theorem State.foldOrRefuse_moves {s : State} {g : Trigger} : Moves 0x400008 s (s.foldOrRefuse g) := by
  unfold State.foldOrRefuse
  repeat' with_reducible first
    | apply Moves.refl | (apply Moves.via State.satInc_moves; decide) | (apply Moves.via State.refuseTrigger_moves; decide)
    | (apply Moves.via State.foldTrigger_moves; decide) | apply Moves.ite | intro _

theorem State.trigger_moves {s : State} {g : Trigger} : Moves 0x400008 s (s.trigger g) := by
  unfold State.trigger
  repeat' with_reducible first
    | apply Moves.refl | (apply Moves.via State.wrapInc_moves; decide) | (apply Moves.via State.satInc_moves; decide)
    | (apply Moves.via State.foldTrigger_moves; decide) | apply Moves.ite | intro _ | apply Moves.foldl
    | (apply Moves.snd; assumption) | (apply Moves.fst; assumption) | apply Moves.idOf | fail_if_no_progress (apply Moves.evr; decide)

theorem State.sysTrigger_moves {s : State} {source arg : Nat} : Moves 0x400008 s (s.sysTrigger source arg) := by
  unfold State.sysTrigger
  repeat' with_reducible first
    | apply Moves.refl | (apply Moves.via State.trigger_moves; decide)

end Sys2Proof.Machine
end

