-- ==== Sys2Proof/Laws/MovesRmp.lean ====
section
/-! SUPPORT. What the operations of Machine/Rmp.lean leave as it was (Laws/Moves.lean). -/

namespace Sys2Proof.Machine

open Sys2Proof

theorem State.setRmpPos_moves {s : State} {p : Int} : Moves 0x8 s (s.setRmpPos p) := by
  unfold State.setRmpPos
  repeat' with_reducible first
    | apply Moves.refl | (apply Moves.via State.setFv_moves; decide)

theorem State.rmpFold_moves {s : State} : Moves 0x10000008 s s.rmpFold := by
  unfold State.rmpFold
  repeat' with_reducible first
    | apply Moves.refl | (apply Moves.via State.setRmpPos_moves; decide) | apply Moves.ite | intro _ | apply Moves.foldl
    | (apply Moves.snd; assumption) | (apply Moves.fst; assumption) | apply Moves.idOf | fail_if_no_progress (apply Moves.rmp; decide)

theorem State.rmpHalt_moves {s : State} : Moves 0x10000008 s s.rmpHalt := by
  unfold State.rmpHalt
  repeat' with_reducible first
    | apply Moves.refl | (apply Moves.via State.rmpFold_moves; decide) | apply Moves.ite | intro _ | apply Moves.foldl
    | (apply Moves.snd; assumption) | (apply Moves.fst; assumption) | apply Moves.idOf | fail_if_no_progress (apply Moves.rmp; decide)

theorem State.rmpStand_moves {s : State} {x : Q} : Moves 0x10000000 s (s.rmpStand x) := by
  unfold State.rmpStand
  repeat' with_reducible first
    | apply Moves.refl | apply Moves.ite | intro _ | apply Moves.foldl | (apply Moves.snd; assumption) | (apply Moves.fst; assumption)
    | apply Moves.idOf | fail_if_no_progress (apply Moves.rmp; decide)

theorem State.rmpShow_moves {s : State} : Moves 0x8 s s.rmpShow := by
  unfold State.rmpShow
  repeat' with_reducible first
    | apply Moves.refl | (apply Moves.via State.setFv_moves; decide) | (apply Moves.via State.setFb_moves; decide)

theorem State.rmpDrop_moves {s : State} : Moves 0x10000008 s s.rmpDrop := by
  unfold State.rmpDrop
  repeat' with_reducible first
    | apply Moves.refl | (apply Moves.via State.rmpHalt_moves; decide) | (apply Moves.via State.rmpStand_moves; decide)
    | (apply Moves.via State.setFv_moves; decide) | (apply Moves.via State.rmpShow_moves; decide)
    | (apply Moves.via State.irqIf_moves; decide) | apply Moves.ite | intro _ | apply Moves.foldl | (apply Moves.snd; assumption)
    | (apply Moves.fst; assumption) | apply Moves.idOf | fail_if_no_progress (apply Moves.rmp; decide)

theorem State.rmpEnable_moves {s : State} : Moves 0x10000008 s s.rmpEnable := by
  unfold State.rmpEnable
  repeat' with_reducible first
    | apply Moves.refl | (apply Moves.via State.setFv_moves; decide) | (apply Moves.via State.rmpHalt_moves; decide)
    | (apply Moves.via State.rmpShow_moves; decide) | (apply Moves.via State.rmpStand_moves; decide)
    | (apply Moves.via State.setRmpPos_moves; decide) | apply Moves.ite | intro _

theorem State.rmpLimitPlan_moves {s : State} {jm : Q} : Moves 0x10000648 s (s.rmpLimitPlan jm) := by
  unfold State.rmpLimitPlan
  repeat' with_reducible first
    | apply Moves.refl | (apply Moves.via State.clampAt_moves; decide) | (apply Moves.via State.irq_moves; decide)
    | (apply Moves.via State.satInc_moves; decide) | (apply Moves.via State.setFv_moves; decide) | apply Moves.ite | intro _
    | apply Moves.foldl | (apply Moves.snd; assumption) | (apply Moves.fst; assumption) | apply Moves.idOf
    | fail_if_no_progress (apply Moves.rmp; decide)

theorem State.rmpPlanNow_moves {s : State} {jm : Q} : Moves 0x10000648 s (s.rmpPlanNow jm) := by
  unfold State.rmpPlanNow
  repeat' with_reducible first
    | apply Moves.refl | (apply Moves.via State.rmpLimitPlan_moves; decide) | (apply Moves.via State.setFb_moves; decide)
    | apply Moves.ite | intro _ | apply Moves.foldl | (apply Moves.snd; assumption) | (apply Moves.fst; assumption) | apply Moves.idOf
    | fail_if_no_progress (apply Moves.rmp; decide)

theorem State.rmpTaken_moves {s : State} : Moves 0x10000008 s s.rmpTaken := by
  unfold State.rmpTaken
  repeat' with_reducible first
    | apply Moves.refl | (apply Moves.via State.rmpHalt_moves; decide) | (apply Moves.via State.rmpStand_moves; decide)
    | (apply Moves.via State.rmpShow_moves; decide) | (apply Moves.via State.irqIf_moves; decide)
    | (apply Moves.via State.setFv_moves; decide) | apply Moves.ite | intro _ | apply Moves.foldl | (apply Moves.snd; assumption)
    | (apply Moves.fst; assumption) | apply Moves.idOf | fail_if_no_progress (apply Moves.rmp; decide)

theorem State.rmpReplan_moves {s : State} : Moves 0x10000648 s s.rmpReplan := by
  unfold State.rmpReplan
  repeat' with_reducible first
    | apply Moves.refl | (apply Moves.via State.setFv_moves; decide) | (apply Moves.via State.setFb_moves; decide)
    | (apply Moves.via State.irq_moves; decide) | (apply Moves.via State.satInc_moves; decide)
    | (apply Moves.via State.rmpShow_moves; decide) | (apply Moves.via State.rmpDrop_moves; decide)
    | (apply Moves.via State.rmpEnable_moves; decide) | (apply Moves.via State.rmpPlanNow_moves; decide) | apply Moves.ite | intro _
    | apply Moves.foldl | (apply Moves.snd; assumption) | (apply Moves.fst; assumption) | apply Moves.idOf
    | fail_if_no_progress (apply Moves.rmp; decide)

theorem State.rmpPlace_moves {pt : Nat → RmpPt} {up : Bool} {hi : Nat} {k : Nat} :
    ∀ {c : Nat} {s : State}, Moves 0x10000008 s (State.rmpPlace pt up hi k c s) := by
  induction k with
  | zero => exact Moves.refl _ _
  | succ k ih =>
    intro c s
    have h1 : ∀ {w : Nat}, Moves 0x10000008 s (s.setFv P.RMP R.RMP_STAT_w w) := State.setFv_moves.weaken (by decide)
    exact Moves.ite (fun _ => h1) (fun _ => Moves.trans (Moves.rmp (by decide) h1) ih)

theorem State.rmpPulses_moves {s : State} {pt : Nat → RmpPt} : Moves 0x10000008 s (s.rmpPulses pt) := by
  unfold State.rmpPulses
  repeat' with_reducible first
    | apply Moves.refl | (apply Moves.via State.rmpPlace_moves; decide) | apply Moves.ite | intro _ | apply Moves.foldl
    | (apply Moves.snd; assumption) | (apply Moves.fst; assumption) | apply Moves.idOf | fail_if_no_progress (apply Moves.rmp; decide)

theorem State.rmpAtRest_moves {s : State} {moved : Bool} : Moves 0x10000648 s (s.rmpAtRest moved) := by
  unfold State.rmpAtRest
  repeat' with_reducible first
    | apply Moves.refl | (apply Moves.via State.irqIf_moves; decide) | (apply Moves.via State.setFv_moves; decide)
    | (apply Moves.via State.rmpPlanNow_moves; decide) | apply Moves.ite | intro _ | apply Moves.foldl | (apply Moves.snd; assumption)
    | (apply Moves.fst; assumption) | apply Moves.idOf | fail_if_no_progress (apply Moves.rmp; decide)

theorem State.rmpAdvance_moves {s : State} : Moves 0x10000648 s s.rmpAdvance := by
  unfold State.rmpAdvance
  repeat' with_reducible first
    | apply Moves.refl | (apply Moves.via State.rmpFold_moves; decide) | (apply Moves.via State.rmpShow_moves; decide)
    | (apply Moves.via State.rmpPulses_moves; decide) | (apply Moves.via State.rmpStand_moves; decide)
    | (apply Moves.via State.rmpAtRest_moves; decide) | (apply Moves.via State.rmpPlanNow_moves; decide) | apply Moves.ite | intro _
    | apply Moves.foldl | (apply Moves.snd; assumption) | (apply Moves.fst; assumption) | apply Moves.idOf
    | fail_if_no_progress (apply Moves.rmp; decide)

theorem State.rmpDemands_moves {s : State} {l : List (Nat × Nat)} : Moves 0x10000008 s (s.rmpDemands l) := by
  unfold State.rmpDemands
  repeat' with_reducible first
    | apply Moves.refl | (apply Moves.via State.setFv_moves; decide) | apply Moves.ite | intro _ | apply Moves.foldl
    | (apply Moves.snd; assumption) | (apply Moves.fst; assumption) | apply Moves.idOf | fail_if_no_progress (apply Moves.rmp; decide)

theorem State.rmpFbe_moves {s : State} {v : Word} : Moves 0x10000648 s (s.rmpFbe v) := by
  unfold State.rmpFbe
  repeat' with_reducible first
    | apply Moves.refl | (apply Moves.via State.rmpReplan_moves; decide) | apply Moves.ite | intro _ | apply Moves.foldl
    | (apply Moves.snd; assumption) | (apply Moves.fst; assumption) | apply Moves.idOf | fail_if_no_progress (apply Moves.rmp; decide)

theorem State.rmpCtrl_moves {s : State} {v : Word} : Moves 0x10000008 s (s.rmpCtrl v) := by
  unfold State.rmpCtrl
  repeat' with_reducible first
    | apply Moves.refl | (apply Moves.via State.setFv_moves; decide) | (apply Moves.via State.rmpStand_moves; decide)
    | (apply Moves.via State.setRmpPos_moves; decide) | (apply Moves.via State.rmpHalt_moves; decide) | apply Moves.ite | intro _
    | apply Moves.foldl | (apply Moves.snd; assumption) | (apply Moves.fst; assumption) | apply Moves.idOf
    | fail_if_no_progress (apply Moves.rmp; decide)

theorem State.rmpStart_moves {s : State} : Moves 0x10000648 s s.rmpStart := by
  unfold State.rmpStart
  repeat' with_reducible first
    | apply Moves.refl | (apply Moves.via State.setFv_moves; decide) | (apply Moves.via State.rmpStand_moves; decide)
    | (apply Moves.via State.setRmpPos_moves; decide) | (apply Moves.via State.rmpReplan_moves; decide) | apply Moves.ite | intro _
    | apply Moves.foldl | (apply Moves.snd; assumption) | (apply Moves.fst; assumption) | apply Moves.idOf
    | fail_if_no_progress (apply Moves.rmp; decide)

theorem execRampAdvance_moves {t : Nat} {s : State} : MovesNext 0x10800649 s (execRampAdvance t s) := by
  unfold execRampAdvance
  repeat' with_reducible first
    | apply Moves.refl | (apply Moves.via State.at_moves; decide) | apply MovesNext.next
    | (apply Moves.via State.rmpAdvance_moves; decide) | apply MovesNext.ite | apply Moves.ite | intro _ | apply Moves.foldl
    | (apply Moves.snd; assumption) | (apply Moves.fst; assumption) | apply Moves.idOf | fail_if_no_progress (apply Moves.rmp; decide)

theorem execDemandReplan_moves {t : Nat} {s : State} : MovesNext 0x10800649 s (execDemandReplan t s) := by
  unfold execDemandReplan
  repeat' with_reducible first
    | apply Moves.refl | (apply Moves.via State.at_moves; decide) | apply MovesNext.next
    | (apply Moves.via State.rmpReplan_moves; decide) | apply MovesNext.ite | apply Moves.ite | intro _

theorem execDriverFault_moves {t : Nat} {s : State} : MovesNext 0x10800009 s (execDriverFault t s) := by
  unfold execDriverFault
  repeat' with_reducible first
    | apply Moves.refl | (apply Moves.via State.at_moves; decide) | apply MovesNext.next | (apply Moves.via State.irq_moves; decide)
    | (apply Moves.via State.rmpDrop_moves; decide) | (apply Moves.via State.rmpShow_moves; decide) | apply MovesNext.ite
    | apply Moves.ite | intro _ | apply Moves.foldl | (apply Moves.snd; assumption) | (apply Moves.fst; assumption) | apply Moves.idOf
    | fail_if_no_progress (apply Moves.rmp; decide)

theorem execDfltRelease_moves {t : Nat} {s : State} : MovesNext 0x10800649 s (execDfltRelease t s) := by
  unfold execDfltRelease
  repeat' with_reducible first
    | apply Moves.refl | (apply Moves.via State.at_moves; decide) | apply MovesNext.next
    | (apply Moves.via State.rmpReplan_moves; decide) | apply MovesNext.ite | apply Moves.ite | intro _ | apply Moves.foldl
    | (apply Moves.snd; assumption) | (apply Moves.fst; assumption) | apply Moves.idOf | fail_if_no_progress (apply Moves.rmp; decide)

theorem execDriverStop_moves {t : Nat} {s : State} : MovesNext 0x10800649 s (execDriverStop t s) := by
  unfold execDriverStop
  repeat' with_reducible first
    | apply Moves.refl | (apply Moves.via State.at_moves; decide) | apply MovesNext.next | (apply Moves.via State.irq_moves; decide)
    | (apply Moves.via State.rmpReplan_moves; decide) | apply MovesNext.ite | apply Moves.ite | intro _ | apply Moves.foldl
    | (apply Moves.snd; assumption) | (apply Moves.fst; assumption) | apply Moves.idOf | fail_if_no_progress (apply Moves.rmp; decide)

theorem execDstopRelease_moves {t : Nat} {s : State} : MovesNext 0x10800649 s (execDstopRelease t s) := by
  unfold execDstopRelease
  repeat' with_reducible first
    | apply Moves.refl | (apply Moves.via State.at_moves; decide) | apply MovesNext.next
    | (apply Moves.via State.rmpReplan_moves; decide) | apply MovesNext.ite | apply Moves.ite | intro _ | apply Moves.foldl
    | (apply Moves.snd; assumption) | (apply Moves.fst; assumption) | apply Moves.idOf | fail_if_no_progress (apply Moves.rmp; decide)

theorem execStpiEdge_moves {t : Nat} {dirHigh : Bool} {s : State} : MovesNext 0x10800649 s (execStpiEdge t dirHigh s) := by
  unfold execStpiEdge
  repeat' with_reducible first
    | apply Moves.refl | (apply Moves.via State.at_moves; decide) | apply MovesNext.next
    | (apply Moves.via State.rmpReplan_moves; decide) | apply MovesNext.ite | apply Moves.ite | intro _ | apply Moves.foldl
    | (apply Moves.snd; assumption) | (apply Moves.fst; assumption) | apply Moves.idOf | fail_if_no_progress (apply Moves.rmp; decide)

theorem execPositionCommit_moves {t : Nat} {s : State} : MovesNext 0x10800001 s (execPositionCommit t s) := by
  unfold execPositionCommit
  repeat' with_reducible first
    | apply Moves.refl | (apply Moves.via State.at_moves; decide) | apply MovesNext.next | apply MovesNext.ite | apply Moves.ite
    | intro _ | apply Moves.foldl | (apply Moves.snd; assumption) | (apply Moves.fst; assumption) | apply Moves.idOf
    | fail_if_no_progress (apply Moves.rmp; decide)

end Sys2Proof.Machine
end

