-- ==== Sys2Proof/Laws/MovesSaf.lean ====
section
/-! SUPPORT. What the operations of Machine/Saf.lean leave as it was (Laws/Moves.lean). -/

namespace Sys2Proof.Machine

open Sys2Proof

theorem State.safShow_moves {s : State} : Moves 0x8 s s.safShow := by
  unfold State.safShow
  repeat' with_reducible first
    | apply Moves.refl | (apply Moves.via State.setFb_moves; decide) | (apply Moves.via State.irqIf_moves; decide)

theorem State.releaseUndone_moves {s : State} {was : Bool × Bool} : Moves 0x30000648 s (s.releaseUndone was) := by
  unfold State.releaseUndone
  repeat' with_reducible first
    | apply Moves.refl | (apply Moves.via State.setFb_moves; decide) | (apply Moves.via State.setFv_moves; decide)
    | (apply Moves.via State.setReg_moves; decide) | (apply Moves.via State.rmpReplan_moves; decide)
    | (apply Moves.via State.clampAt_moves; decide) | apply Moves.ite | intro _ | apply Moves.foldl | (apply Moves.snd; assumption)
    | (apply Moves.fst; assumption) | apply Moves.idOf | fail_if_no_progress (apply Moves.saf; decide)

theorem State.safCause_moves {s : State} {act : Bool} {kind code detail : Nat} :
    Moves 0x30400648 s (s.safCause act kind code detail) := by
  unfold State.safCause
  repeat' with_reducible first
    | apply Moves.refl | (apply Moves.via State.releaseUndone_moves; decide) | (apply Moves.via State.setFv_moves; decide)
    | (apply Moves.via State.setStamp_moves; decide) | (apply Moves.via State.setReg_moves; decide)
    | (apply Moves.via State.satInc_moves; decide) | (apply Moves.via State.irq_moves; decide)
    | (apply Moves.via State.rmpReplan_moves; decide) | (apply Moves.via State.sysTrigger_moves; decide) | apply Moves.ite | intro _
    | apply Moves.foldl | (apply Moves.snd; assumption) | (apply Moves.fst; assumption) | apply Moves.idOf | extract_lets | split

theorem State.tripCheck_moves {s : State} {e old new : Nat} : Moves 0x30400648 s (s.tripCheck e old new) := by
  unfold State.tripCheck
  repeat' with_reducible first
    | apply Moves.refl | (apply Moves.via State.setFb_moves; decide) | (apply Moves.via State.safCause_moves; decide)
    | (apply Moves.via State.irq_moves; decide) | apply Moves.ite | intro _

theorem State.diagFail_moves {s : State} {code detail : Nat} : Moves 0x30400648 s (s.diagFail code detail) := by
  unfold State.diagFail
  repeat' with_reducible first
    | apply Moves.refl | (apply Moves.via State.setReg_moves; decide) | (apply Moves.via State.irq_moves; decide)
    | (apply Moves.via State.safCause_moves; decide) | apply Moves.ite | intro _ | apply Moves.foldl | (apply Moves.snd; assumption)
    | (apply Moves.fst; assumption) | apply Moves.idOf | fail_if_no_progress (apply Moves.saf; decide)

theorem State.diagClear_moves {s : State} {code : Nat} : Moves 0x8 s (s.diagClear code) := by
  unfold State.diagClear
  repeat' with_reducible first
    | apply Moves.refl | (apply Moves.via State.setReg_moves; decide)

theorem State.safCtrl_moves {s : State} {v : Word} : Moves 0x30400648 s (s.safCtrl v) := by
  unfold State.safCtrl
  repeat' with_reducible first
    | apply Moves.refl | (apply Moves.via State.clampAt_moves; decide) | (apply Moves.via State.safCause_moves; decide)
    | (apply Moves.via State.setFv_moves; decide) | (apply Moves.via State.rmpReplan_moves; decide)
    | (apply Moves.via State.irqIf_moves; decide) | apply Moves.ite | intro _ | apply Moves.foldl | (apply Moves.snd; assumption)
    | (apply Moves.fst; assumption) | apply Moves.idOf | fail_if_no_progress (apply Moves.saf; decide)

theorem State.fullSelftestPassed_moves {s : State} : Moves 0x20000008 s s.fullSelftestPassed := by
  unfold State.fullSelftestPassed
  repeat' with_reducible first
    | apply Moves.refl | (apply Moves.via State.safShow_moves; decide) | (apply Moves.via State.diagClear_moves; decide)
    | (apply Moves.via State.setFv_moves; decide) | apply Moves.ite | intro _ | apply Moves.foldl | (apply Moves.snd; assumption)
    | (apply Moves.fst; assumption) | apply Moves.idOf | fail_if_no_progress (apply Moves.saf; decide)

theorem State.selftestEnds_moves {s : State} {mask failed : Nat} : Moves 0x30400648 s (s.selftestEnds mask failed) := by
  unfold State.selftestEnds
  repeat' with_reducible first
    | apply Moves.refl | (apply Moves.via State.diagFail_moves; decide) | (apply Moves.via State.fullSelftestPassed_moves; decide)
    | apply Moves.ite | intro _

theorem execSafetyDemand_moves {t low : Nat} {s : State} : MovesNext 0x30C00649 s (execSafetyDemand t low s) := by
  unfold execSafetyDemand
  repeat' with_reducible first
    | apply Moves.refl | (apply Moves.via State.at_moves; decide) | apply MovesNext.next | (apply Moves.via State.irq_moves; decide)
    | (apply Moves.via State.satInc_moves; decide) | (apply Moves.via State.setFv_moves; decide)
    | (apply Moves.via State.safCause_moves; decide) | apply MovesNext.ite | apply Moves.ite | intro _ | apply Moves.foldl
    | (apply Moves.snd; assumption) | (apply Moves.fst; assumption) | apply Moves.idOf | fail_if_no_progress (apply Moves.saf; decide)

theorem execDemandClear_moves {t high : Nat} {s : State} : MovesNext 0x20800009 s (execDemandClear t high s) := by
  unfold execDemandClear
  repeat' with_reducible first
    | apply Moves.refl | (apply Moves.via State.at_moves; decide) | apply MovesNext.next | (apply Moves.via State.setFv_moves; decide)
    | apply MovesNext.ite | apply Moves.ite | intro _ | apply Moves.foldl | (apply Moves.snd; assumption)
    | (apply Moves.fst; assumption) | apply Moves.idOf | fail_if_no_progress (apply Moves.saf; decide)

theorem execStDue_moves {t : Nat} {s : State} : MovesNext 0x800009 s (execStDue t s) := by
  unfold execStDue
  repeat' with_reducible first
    | apply Moves.refl | (apply Moves.via State.at_moves; decide) | apply MovesNext.next
    | (apply Moves.via State.safShow_moves; decide) | (apply Moves.via State.irq_moves; decide)
    | (apply Moves.via State.setFv_moves; decide) | apply MovesNext.ite | apply Moves.ite | intro _

theorem execAutoSelftest_moves {t failed : Nat} {s : State} : MovesNext 0x30C00649 s (execAutoSelftest t failed s) := by
  unfold execAutoSelftest
  repeat' with_reducible first
    | apply Moves.refl | (apply Moves.via State.at_moves; decide) | apply MovesNext.next
    | (apply Moves.via State.selftestEnds_moves; decide) | apply MovesNext.ite | apply Moves.ite | intro _ | apply Moves.foldl
    | (apply Moves.snd; assumption) | (apply Moves.fst; assumption) | apply Moves.idOf | fail_if_no_progress (apply Moves.saf; decide)

end Sys2Proof.Machine
end

