-- ==== Sys2Proof/Laws/MovesTallyQueue.lean ====
section
/-! SUPPORT. What the operations of Machine/TallyQueue.lean leave as it was (Laws/Moves.lean). -/

namespace Sys2Proof.Machine

open Sys2Proof

theorem State.setTally_moves {s : State} {x : Tally} : Moves 0x4000 s (s.setTally x) := by
  unfold State.setTally
  repeat' with_reducible first
    | apply Moves.refl | apply Moves.ite | intro _ | apply Moves.foldl | (apply Moves.snd; assumption) | (apply Moves.fst; assumption)
    | apply Moves.idOf | fail_if_no_progress (apply Moves.tly; decide)

theorem State.tallyEnds_moves {s : State} {n status reason r0 r1 : Nat} : Moves 0x4000 s (s.tallyEnds n status reason r0 r1) := by
  unfold State.tallyEnds
  repeat' with_reducible first
    | apply Moves.refl | (apply Moves.via State.setTally_moves; decide) | apply Moves.ite | intro _ | apply Moves.foldl
    | (apply Moves.snd; assumption) | (apply Moves.fst; assumption) | apply Moves.idOf | extract_lets | split

theorem State.tallyDone_moves {s : State} {n r0 r1 : Nat} : Moves 0x4000 s (s.tallyDone n r0 r1) := by
  unfold State.tallyDone
  repeat' with_reducible first
    | apply Moves.refl | (apply Moves.via State.tallyEnds_moves; decide)

theorem State.tallyRefused_moves {s : State} {n reason r0 r1 : Nat} : Moves 0x4000 s (s.tallyRefused n reason r0 r1) := by
  unfold State.tallyRefused
  repeat' with_reducible first
    | apply Moves.refl | (apply Moves.via State.tallyEnds_moves; decide)

theorem State.lateStop_moves {m : Nat} {s₀ s : State} {n op : Nat} {stop : State → State}
    (hm : Nat.land 0x4000 m = 0x4000) (hs : Moves m s (stop s)) (g : Moves m s₀ s) : Moves m s₀ (s.lateStop n op stop) := by
  unfold State.lateStop
  split
  · exact Moves.ite (fun _ => (g.trans hs).trans (Moves.weaken hm (State.tallyEnds_moves.weaken (by decide)))) (fun _ => g)
  · exact g

theorem State.tallyProgress_moves {s : State} {n done total aux : Nat} : Moves 0x4000 s (s.tallyProgress n done total aux) := by
  unfold State.tallyProgress
  repeat' with_reducible first
    | apply Moves.refl | (apply Moves.via State.setTally_moves; decide) | apply Moves.ite | intro _ | apply Moves.foldl
    | (apply Moves.snd; assumption) | (apply Moves.fst; assumption) | apply Moves.idOf | extract_lets | split

end Sys2Proof.Machine
end

