-- ==== Sys2Proof/Laws/MovesSac.lean ====
section
/-! SUPPORT. What the operations of Machine/Sac.lean leave as it was (Laws/Moves.lean). -/

namespace Sys2Proof.Machine

open Sys2Proof

theorem State.setSc_moves {s : State} {ch : Nat} {c : ScCh} : Moves 0x8000 s (s.setSc ch c) := by
  unfold State.setSc
  repeat' with_reducible first
    | apply Moves.refl | apply Moves.ite | intro _ | apply Moves.foldl | (apply Moves.snd; assumption) | (apply Moves.fst; assumption)
    | apply Moves.idOf | fail_if_no_progress (apply Moves.sac; decide)

theorem State.setCv_moves {s : State} {k : Nat} {c : CvSt} : Moves 0x8000 s (s.setCv k c) := by
  unfold State.setCv
  repeat' with_reducible first
    | apply Moves.refl | apply Moves.ite | intro _ | apply Moves.foldl | (apply Moves.snd; assumption) | (apply Moves.fst; assumption)
    | apply Moves.idOf | fail_if_no_progress (apply Moves.sac; decide)

theorem State.cvShow_moves {s : State} {k : Nat} : Moves 0x8 s (s.cvShow k) := by
  unfold State.cvShow
  repeat' with_reducible first
    | apply Moves.refl | (apply Moves.via State.setFv_moves; decide)

theorem State.scShowOne_moves {s : State} {ch : Nat} : Moves 0x8180C s (s.scShowOne ch) := by
  unfold State.scShowOne
  repeat' with_reducible first
    | apply Moves.refl | (apply Moves.via State.setFv_moves; decide) | (apply Moves.via State.irqIf_moves; decide)
    | (apply Moves.via State.sourceQuality_moves; decide)

theorem State.scShow_moves {s : State} {ch : Nat} : Moves 0x8180C s (s.scShow ch) := by
  unfold State.scShow
  repeat' with_reducible first
    | apply Moves.refl | (apply Moves.via State.scShowOne_moves; decide) | apply Moves.ite | intro _ | apply Moves.foldl

theorem State.scPut_moves {s : State} {ch : Nat} {v : Word} : Moves 0x8180C s (s.scPut ch v) := by
  unfold State.scPut
  repeat' with_reducible first
    | apply Moves.refl | (apply Moves.via State.sourceWrite_moves; decide) | (apply Moves.via State.scShow_moves; decide)
    | apply Moves.ite | intro _

theorem State.scSettle_moves {s : State} {ch : Nat} : Moves 0x8008 s (s.scSettle ch) := by
  unfold State.scSettle
  repeat' with_reducible first
    | apply Moves.refl | (apply Moves.via State.setSc_moves; decide) | (apply Moves.via State.setFv_moves; decide) | apply Moves.ite
    | intro _

theorem State.scFaults_moves {s : State} {ch mask bits : Nat} : Moves 0x8008 s (s.scFaults ch mask bits) := by
  unfold State.scFaults
  repeat' with_reducible first
    | apply Moves.refl | (apply Moves.via State.setFv_moves; decide) | (apply Moves.via State.irqIf_moves; decide)
    | (apply Moves.via State.scSettle_moves; decide) | apply Moves.ite | intro _

theorem State.startSlot_moves {s : State} {k kind ch start : Nat} : Moves 0x8980C s (s.startSlot k kind ch start) := by
  unfold State.startSlot
  repeat' with_reducible first
    | apply Moves.refl | (apply Moves.via State.scShow_moves; decide) | (apply Moves.via State.scSettle_moves; decide)
    | (apply Moves.via State.setSc_moves; decide) | (apply Moves.via State.setCv_moves; decide) | apply Moves.ite | intro _

theorem State.newCycle_moves {s : State} {k : Nat} : Moves 0x8980C s (s.newCycle k) := by
  unfold State.newCycle
  repeat' with_reducible first
    | apply Moves.refl | (apply Moves.via State.setSc_moves; decide) | (apply Moves.via State.startSlot_moves; decide)
    | apply Moves.ite | intro _ | apply Moves.foldl | (apply Moves.snd; assumption) | (apply Moves.fst; assumption) | apply Moves.idOf
    | extract_lets | split

theorem State.slotsFrom_moves {s : State} {k c : Nat} : Moves 0x8980C s (s.slotsFrom k c) := by
  unfold State.slotsFrom
  repeat' with_reducible first
    | apply Moves.refl | (apply Moves.via State.startSlot_moves; decide) | (apply Moves.via State.setCv_moves; decide)
    | (apply Moves.via State.newCycle_moves; decide) | apply Moves.ite | intro _ | apply Moves.foldl | (apply Moves.snd; assumption)
    | (apply Moves.fst; assumption) | apply Moves.idOf | extract_lets | split

theorem State.nextSlot_moves {s : State} {k : Nat} : Moves 0x8980C s (s.nextSlot k) := by
  unfold State.nextSlot
  repeat' with_reducible first
    | apply Moves.refl | (apply Moves.via State.newCycle_moves; decide) | (apply Moves.via State.startSlot_moves; decide)
    | (apply Moves.via State.setCv_moves; decide) | (apply Moves.via State.slotsFrom_moves; decide) | apply Moves.ite | intro _
    | apply Moves.foldl | (apply Moves.snd; assumption) | (apply Moves.fst; assumption) | apply Moves.idOf | extract_lets | split

theorem State.abandonSlot_moves {s : State} {k : Nat} : Moves 0x8980C s (s.abandonSlot k) := by
  unfold State.abandonSlot
  repeat' with_reducible first
    | apply Moves.refl | (apply Moves.via State.nextSlot_moves; decide) | (apply Moves.via State.satInc_moves; decide)
    | apply Moves.ite | intro _

theorem State.abandonOf_moves {s : State} {ch : Nat} : Moves 0x8980C s (s.abandonOf ch) := by
  unfold State.abandonOf
  repeat' with_reducible first
    | apply Moves.refl | (apply Moves.via State.abandonSlot_moves; decide) | apply Moves.ite | intro _ | apply Moves.foldl
    | (apply Moves.snd; assumption) | (apply Moves.fst; assumption) | apply Moves.idOf | extract_lets | split

theorem State.excChange_moves {s : State} {ch : Nat} : Moves 0x8980C s (s.excChange ch) := by
  unfold State.excChange
  repeat' with_reducible first
    | apply Moves.refl | (apply Moves.via State.scShow_moves; decide) | (apply Moves.via State.scSettle_moves; decide)
    | (apply Moves.via State.abandonOf_moves; decide)

theorem State.rangeChange_moves {s : State} {ch r : Nat} : Moves 0x8980C s (s.rangeChange ch r) := by
  unfold State.rangeChange
  repeat' with_reducible first
    | apply Moves.refl | (apply Moves.via State.scShow_moves; decide) | (apply Moves.via State.scSettle_moves; decide)
    | (apply Moves.via State.irq_moves; decide) | (apply Moves.via State.setFv_moves; decide)

theorem State.scEnter_moves {s : State} {ch : Nat} {raw : Q} : Moves 0x8980C s (s.scEnter ch raw) := by
  unfold State.scEnter
  repeat' with_reducible first
    | apply Moves.refl | (apply Moves.via State.setSc_moves; decide) | (apply Moves.via State.scShow_moves; decide)
    | (apply Moves.via State.setFv_moves; decide) | (apply Moves.via State.scFaults_moves; decide)
    | (apply Moves.via State.setStamp_moves; decide) | (apply Moves.via State.scPut_moves; decide) | apply Moves.ite | intro _
    | apply Moves.foldl | (apply Moves.snd; assumption) | (apply Moves.fst; assumption) | apply Moves.idOf | extract_lets | split

theorem State.dueShow_moves {s : State} {k : Nat} : Moves 0x8 s (s.dueShow k) := by
  unfold State.dueShow
  repeat' with_reducible first
    | apply Moves.refl | (apply Moves.via State.setFv_moves; decide) | apply Moves.ite | intro _

theorem State.calFallsDue_moves {s : State} {k trigger : Nat} : Moves 0x8008 s (s.calFallsDue k trigger) := by
  unfold State.calFallsDue
  repeat' with_reducible first
    | apply Moves.refl | (apply Moves.via State.dueShow_moves; decide) | (apply Moves.via State.setCv_moves; decide) | apply Moves.ite
    | intro _

theorem State.cvTemp_moves {s : State} {k : Nat} {temp : Q} : Moves 0x8008 s (s.cvTemp k temp) := by
  unfold State.cvTemp
  repeat' with_reducible first
    | apply Moves.refl | (apply Moves.via State.setFv_moves; decide) | (apply Moves.via State.calFallsDue_moves; decide)
    | apply Moves.ite | intro _

theorem State.slotDone_moves {s : State} {k : Nat} : Moves 0x8 s (s.slotDone k) := by
  unfold State.slotDone
  repeat' with_reducible first
    | apply Moves.refl | (apply Moves.via State.wrapInc_moves; decide)

theorem State.cvFault_moves {s : State} {k : Nat} {bad : Bool} : Moves 0x8008 s (s.cvFault k bad) := by
  unfold State.cvFault
  repeat' with_reducible first
    | apply Moves.refl | (apply Moves.via State.irqIf_moves; decide) | (apply Moves.via State.setCv_moves; decide)

theorem State.scAvdd_moves {s : State} {ch : Nat} : Moves 0x8008 s (s.scAvdd ch) := by
  unfold State.scAvdd
  repeat' with_reducible first
    | apply Moves.refl | (apply Moves.via State.scFaults_moves; decide) | apply Moves.ite | intro _

theorem State.sacVsx_moves {s : State} {vsx : Q} : Moves 0x8 s (s.sacVsx vsx) := by
  unfold State.sacVsx
  repeat' with_reducible first
    | apply Moves.refl | (apply Moves.via State.setFb_moves; decide)

theorem State.slotShared_moves {s : State} {ch : Nat} {m : SlotInput} : Moves 0x8008 s (s.slotShared ch m) := by
  unfold State.slotShared
  repeat' with_reducible first
    | apply Moves.refl | (apply Moves.via State.cvTemp_moves; decide) | (apply Moves.via State.cvFault_moves; decide)
    | (apply Moves.via State.sacVsx_moves; decide) | (apply Moves.via State.slotDone_moves; decide)
    | (apply Moves.via State.setFv_moves; decide) | (apply Moves.via State.scAvdd_moves; decide)
    | (apply Moves.via State.scFaults_moves; decide) | apply Moves.ite | intro _

theorem State.scDiscard_moves {s : State} {ch : Nat} : Moves 0x8980C s (s.scDiscard ch) := by
  unfold State.scDiscard
  repeat' with_reducible first
    | apply Moves.refl | (apply Moves.via State.scShow_moves; decide) | (apply Moves.via State.setSc_moves; decide)

theorem State.scResult_moves {s : State} {ch : Nat} {raw : Q} : Moves 0x8980C s (s.scResult ch raw) := by
  unfold State.scResult
  repeat' with_reducible first
    | apply Moves.refl | (apply Moves.via State.setFv_moves; decide) | (apply Moves.via State.scEnter_moves; decide)
    | (apply Moves.via State.setSc_moves; decide) | (apply Moves.via State.scShow_moves; decide) | apply Moves.ite | intro _
    | apply Moves.foldl | (apply Moves.snd; assumption) | (apply Moves.fst; assumption) | apply Moves.idOf | extract_lets | split

theorem State.scMeasure_moves {s : State} {ch : Nat} {m : SlotInput} : Moves 0x8980C s (s.scMeasure ch m) := by
  unfold State.scMeasure
  repeat' with_reducible first
    | apply Moves.refl | (apply Moves.via State.setSc_moves; decide) | (apply Moves.via State.scFaults_moves; decide)
    | (apply Moves.via State.rangeChange_moves; decide) | (apply Moves.via State.scDiscard_moves; decide)
    | (apply Moves.via State.scShow_moves; decide) | (apply Moves.via State.scResult_moves; decide) | apply Moves.ite | intro _

theorem State.scSense_moves {s : State} {ch : Nat} {m : SlotInput} : Moves 0x8980C s (s.scSense ch m) := by
  unfold State.scSense
  repeat' with_reducible first
    | apply Moves.refl | (apply Moves.via State.setSc_moves; decide) | (apply Moves.via State.scFaults_moves; decide)
    | (apply Moves.via State.scShow_moves; decide) | (apply Moves.via State.scDiscard_moves; decide)
    | (apply Moves.via State.scResult_moves; decide) | apply Moves.ite | intro _ | apply Moves.foldl | (apply Moves.snd; assumption)
    | (apply Moves.fst; assumption) | apply Moves.idOf | extract_lets | split

theorem State.scLead_moves {s : State} {ch : Nat} {vl : Q} {m : SlotInput} : Moves 0x8980C s (s.scLead ch vl m) := by
  unfold State.scLead
  repeat' with_reducible first
    | apply Moves.refl | (apply Moves.via State.setSc_moves; decide) | (apply Moves.via State.scFaults_moves; decide)
    | (apply Moves.via State.scShow_moves; decide) | (apply Moves.via State.setFv_moves; decide) | apply Moves.ite | intro _

theorem State.scTested_moves {s : State} {ch : Nat} {sexc dvm : Q} {m : SlotInput} : Moves 0x8980C s (s.scTested ch sexc dvm m) := by
  unfold State.scTested
  repeat' with_reducible first
    | apply Moves.refl | (apply Moves.via State.setSc_moves; decide) | (apply Moves.via State.scFaults_moves; decide)
    | (apply Moves.via State.scShow_moves; decide) | (apply Moves.via State.scSettle_moves; decide) | apply Moves.ite | intro _

theorem State.termShow_moves {s : State} : Moves 0x8180C s s.termShow := by
  unfold State.termShow
  repeat' with_reducible first
    | apply Moves.refl | (apply Moves.via State.sourceQuality_moves; decide) | (apply Moves.via State.scShow_moves; decide)
    | apply Moves.ite | intro _ | apply Moves.foldl

theorem State.termRead_moves {s : State} {k : Nat} {term : Q} : Moves 0x8980C s (s.termRead k term) := by
  unfold State.termRead
  repeat' with_reducible first
    | apply Moves.refl | (apply Moves.via State.termShow_moves; decide) | (apply Moves.via State.sourceWrite_moves; decide)
    | (apply Moves.via State.setFv_moves; decide) | (apply Moves.via State.scShow_moves; decide) | apply Moves.ite | intro _
    | apply Moves.foldl | (apply Moves.snd; assumption) | (apply Moves.fst; assumption) | apply Moves.idOf
    | fail_if_no_progress (apply Moves.sac; decide)

theorem State.scCtrl_moves {s : State} {ch : Nat} {v : Word} : Moves 0x8000 s (s.scCtrl ch v) := by
  unfold State.scCtrl
  repeat' with_reducible first
    | apply Moves.refl | (apply Moves.via State.setSc_moves; decide)

theorem State.scBegin_moves {s : State} {ch : Nat} : Moves 0x8008 s (s.scBegin ch) := by
  unfold State.scBegin
  repeat' with_reducible first
    | apply Moves.refl | (apply Moves.via State.setSc_moves; decide) | (apply Moves.via State.setFv_moves; decide)
    | (apply Moves.via State.scSettle_moves; decide)

theorem State.scBeginShow_moves {s : State} {ch : Nat} : Moves 0x8180C s (s.scBeginShow ch) := by
  unfold State.scBeginShow
  repeat' with_reducible first
    | apply Moves.refl | (apply Moves.via State.scShow_moves; decide) | (apply Moves.via State.sourceWrite_moves; decide)
    | apply Moves.ite | intro _

theorem State.cvEnable_moves {s : State} {k : Nat} : Moves 0x8980C s (s.cvEnable k) := by
  unfold State.cvEnable
  repeat' with_reducible first
    | apply Moves.refl | (apply Moves.via State.scBegin_moves; decide) | (apply Moves.via State.scFaults_moves; decide)
    | (apply Moves.via State.scBeginShow_moves; decide) | (apply Moves.via State.cvShow_moves; decide) | apply Moves.ite | intro _
    | apply Moves.foldl

theorem State.cvDisable_moves {s : State} {k : Nat} : Moves 0x8980C s (s.cvDisable k) := by
  unfold State.cvDisable
  repeat' with_reducible first
    | apply Moves.refl | (apply Moves.via State.setCv_moves; decide) | (apply Moves.via State.scBeginShow_moves; decide)
    | (apply Moves.via State.setFv_moves; decide) | (apply Moves.via State.setSc_moves; decide) | apply Moves.ite | intro _
    | apply Moves.foldl

theorem State.sacPowered_moves {s : State} : Moves 0x8980C s s.sacPowered := by
  unfold State.sacPowered
  repeat' with_reducible first
    | apply Moves.refl | (apply Moves.via State.lapse_moves; decide) | (apply Moves.via State.setFb_moves; decide)
    | (apply Moves.via State.dueShow_moves; decide) | (apply Moves.via State.cvShow_moves; decide)
    | (apply Moves.via State.setCv_moves; decide) | (apply Moves.via State.cvEnable_moves; decide)
    | (apply Moves.via State.cvDisable_moves; decide) | (apply Moves.via State.termShow_moves; decide) | apply Moves.ite | intro _
    | apply Moves.foldl | (apply Moves.snd; assumption) | (apply Moves.fst; assumption) | apply Moves.idOf
    | fail_if_no_progress (apply Moves.sac; decide)

theorem State.sacAvddLost_moves {s : State} : Moves 0x8980C s s.sacAvddLost := by
  unfold State.sacAvddLost
  repeat' with_reducible first
    | apply Moves.refl | (apply Moves.via State.irq_moves; decide) | (apply Moves.via State.setFb_moves; decide)
    | (apply Moves.via State.scShow_moves; decide) | (apply Moves.via State.scFaults_moves; decide) | apply Moves.ite | intro _
    | apply Moves.foldl

theorem State.sacAvddBack_moves {s : State} : Moves 0x8 s s.sacAvddBack := by
  unfold State.sacAvddBack
  repeat' with_reducible first
    | apply Moves.refl | (apply Moves.via State.setFb_moves; decide) | apply Moves.ite | intro _

theorem State.scNewMode_moves {s : State} {ch : Nat} : Moves 0x8008 s (s.scNewMode ch) := by
  unfold State.scNewMode
  repeat' with_reducible first
    | apply Moves.refl | (apply Moves.via State.setFv_moves; decide) | (apply Moves.via State.setSc_moves; decide)
    | (apply Moves.via State.scFaults_moves; decide) | apply Moves.ite | intro _

theorem State.scRanged_moves {s : State} {ch : Nat} : Moves 0x8 s (s.scRanged ch) := by
  unfold State.scRanged
  repeat' with_reducible first
    | apply Moves.refl | (apply Moves.via State.irq_moves; decide) | (apply Moves.via State.setFv_moves; decide) | apply Moves.ite
    | intro _

theorem State.scAveraged_moves {s : State} {ch : Nat} : Moves 0x8 s (s.scAveraged ch) := by
  unfold State.scAveraged
  repeat' with_reducible first
    | apply Moves.refl | (apply Moves.via State.setFv_moves; decide) | (apply Moves.via State.setFb_moves; decide)

theorem State.scCommitted_moves {s : State} {old : State} {ch : Nat} : Moves 0x8980C s (s.scCommitted old ch) := by
  unfold State.scCommitted
  repeat' with_reducible first
    | apply Moves.refl | (apply Moves.via State.cvShow_moves; decide) | (apply Moves.via State.scBeginShow_moves; decide)
    | (apply Moves.via State.setSc_moves; decide) | (apply Moves.via State.scNewMode_moves; decide)
    | (apply Moves.via State.abandonOf_moves; decide) | (apply Moves.via State.scRanged_moves; decide)
    | (apply Moves.via State.scSettle_moves; decide) | (apply Moves.via State.excChange_moves; decide)
    | (apply Moves.via State.scAveraged_moves; decide) | (apply Moves.via State.newCycle_moves; decide)
    | (apply Moves.via State.scShow_moves; decide) | apply Moves.ite | intro _

theorem State.cvCommitted_moves {s : State} {old : State} {k : Nat} : Moves 0x8980C s (s.cvCommitted old k) := by
  unfold State.cvCommitted
  repeat' with_reducible first
    | apply Moves.refl | (apply Moves.via State.cvShow_moves; decide) | (apply Moves.via State.abandonSlot_moves; decide)
    | (apply Moves.via State.scShow_moves; decide) | (apply Moves.via State.scSettle_moves; decide) | apply Moves.ite | intro _
    | apply Moves.foldl

theorem State.copyUserTables_moves {s : State} : Moves 0x1800 s s.copyUserTables := by
  unfold State.copyUserTables
  repeat' with_reducible first
    | apply Moves.refl | (apply Moves.via State.curePoison_moves; decide) | (apply Moves.via State.wrBytes_moves; decide)
    | apply Moves.ite | intro _ | apply Moves.foldl | (apply Moves.snd; assumption) | (apply Moves.fst; assumption) | apply Moves.idOf
    | fail_if_no_progress (apply Moves.mem; decide)

theorem execMeasurementSlot_moves {t : Nat} {ch : Fin 32} {m : SlotInput} {s : State} :
    MovesNext 0x88980D s (execMeasurementSlot t ch m s) := by
  unfold execMeasurementSlot
  repeat' with_reducible first
    | apply Moves.refl | (apply Moves.via State.at_moves; decide) | apply MovesNext.next
    | (apply Moves.via State.slotShared_moves; decide) | (apply Moves.via State.nextSlot_moves; decide)
    | (apply Moves.via State.scSense_moves; decide) | (apply Moves.via State.scMeasure_moves; decide) | apply MovesNext.ite
    | apply Moves.ite | intro _ | apply Moves.foldl | apply Moves.idOf | extract_lets | split

theorem execLeadSlot_moves {t : Nat} {ch : Fin 32} {vl : Q} {m : SlotInput} {s : State} :
    MovesNext 0x88980D s (execLeadSlot t ch vl m s) := by
  unfold execLeadSlot
  repeat' with_reducible first
    | apply Moves.refl | (apply Moves.via State.at_moves; decide) | apply MovesNext.next
    | (apply Moves.via State.nextSlot_moves; decide) | (apply Moves.via State.scLead_moves; decide)
    | (apply Moves.via State.slotShared_moves; decide) | apply MovesNext.ite | apply Moves.ite | intro _ | apply Moves.foldl
    | apply Moves.idOf | extract_lets | split

theorem execExcitationTestSlot_moves {t : Nat} {ch : Fin 32} {sexc dvm : Q} {m : SlotInput} {s : State} :
    MovesNext 0x88980D s (execExcitationTestSlot t ch sexc dvm m s) := by
  unfold execExcitationTestSlot
  repeat' with_reducible first
    | apply Moves.refl | (apply Moves.via State.at_moves; decide) | apply MovesNext.next
    | (apply Moves.via State.nextSlot_moves; decide) | (apply Moves.via State.scTested_moves; decide)
    | (apply Moves.via State.slotShared_moves; decide) | apply MovesNext.ite | apply Moves.ite | intro _ | apply Moves.foldl
    | apply Moves.idOf | extract_lets | split

theorem execSupervisorCheckSlot_moves {t : Nat} {k : Fin 8} {safref term temp : Q} {s : State} :
    MovesNext 0x2088980D s (execSupervisorCheckSlot t k safref term temp s) := by
  unfold execSupervisorCheckSlot
  repeat' with_reducible first
    | apply Moves.refl | (apply Moves.via State.at_moves; decide) | apply MovesNext.next
    | (apply Moves.via State.cvTemp_moves; decide) | (apply Moves.via State.slotDone_moves; decide)
    | (apply Moves.via State.termRead_moves; decide) | (apply Moves.via State.nextSlot_moves; decide) | apply MovesNext.ite
    | apply Moves.ite | intro _ | apply Moves.foldl | (apply Moves.snd; assumption) | (apply Moves.fst; assumption) | apply Moves.idOf
    | fail_if_no_progress (apply Moves.saf; decide)

theorem execStaleFault_moves {t : Nat} {ch : Fin 32} {s : State} : MovesNext 0x88980D s (execStaleFault t ch s) := by
  unfold execStaleFault
  repeat' with_reducible first
    | apply Moves.refl | (apply Moves.via State.at_moves; decide) | apply MovesNext.next
    | (apply Moves.via State.scShow_moves; decide) | (apply Moves.via State.scFaults_moves; decide) | apply MovesNext.ite
    | apply Moves.ite | intro _

theorem execConverterStart_moves {t : Nat} {k : Fin 8} {s : State} : MovesNext 0x88980D s (execConverterStart t k s) := by
  unfold execConverterStart
  repeat' with_reducible first
    | apply Moves.refl | (apply Moves.via State.at_moves; decide) | apply MovesNext.next
    | (apply Moves.via State.newCycle_moves; decide) | apply MovesNext.ite | apply Moves.ite | intro _

end Sys2Proof.Machine
end

