-- ==== Sys2Proof/Laws/MovesCal.lean ====
section
/-! SUPPORT. What the operations of Machine/Cal.lean leave as it was (Laws/Moves.lean). -/

namespace Sys2Proof.Machine

open Sys2Proof

theorem State.calCounting_moves {s : State} {on : Bool} : Moves 0x8000 s (s.calCounting on) := by
  unfold State.calCounting
  repeat' with_reducible first
    | apply Moves.refl | (apply Moves.via State.setCv_moves; decide) | apply Moves.ite | intro _ | apply Moves.foldl

theorem State.calHold_moves {s : State} : Moves 0x8 s s.calHold := by
  unfold State.calHold
  repeat' with_reducible first
    | apply Moves.refl | (apply Moves.via State.dueShow_moves; decide) | apply Moves.ite | intro _ | apply Moves.foldl

theorem State.calTallyStep_moves {s : State} {n k : Nat} {ok : Bool} : Moves 0x4000 s (s.calTallyStep n k ok) := by
  unfold State.calTallyStep
  repeat' with_reducible first
    | apply Moves.refl | (apply State.lateStop_moves; decide) | (apply Moves.via State.tallyProgress_moves; decide)
    | (apply Moves.via State.tallyDone_moves; decide) | apply Moves.ite | intro _ | apply Moves.foldl | (apply Moves.snd; assumption)
    | (apply Moves.fst; assumption) | apply Moves.idOf | extract_lets | split

theorem State.scanStops_moves {s : State} {k : Nat} : Moves 0x8980C s (s.scanStops k) := by
  unfold State.scanStops
  repeat' with_reducible first
    | apply Moves.refl | (apply Moves.via State.setCv_moves; decide) | (apply Moves.via State.setSc_moves; decide)
    | (apply Moves.via State.scShow_moves; decide) | apply Moves.ite | intro _ | apply Moves.foldl

theorem State.calCount_moves {s : State} {k : Nat} : Moves 0x8 s (s.calCount k) := by
  unfold State.calCount
  repeat' with_reducible first
    | apply Moves.refl | (apply Moves.via State.wrapInc_moves; decide) | apply Moves.ite | intro _ | apply Moves.foldl
    | (apply Moves.snd; assumption) | (apply Moves.fst; assumption) | apply Moves.idOf | extract_lets | split

theorem State.calRun_moves {s : State} {k kind trigger : Nat} {first : Option CalFigures} {tally : Option Nat} :
    Moves 0x8980C s (s.calRun k kind trigger first tally) := by
  unfold State.calRun
  repeat' with_reducible first
    | apply Moves.refl | (apply Moves.via State.scanStops_moves; decide) | (apply Moves.via State.calCount_moves; decide)
    | (apply Moves.via State.setFv_moves; decide) | (apply Moves.via State.setCv_moves; decide)

theorem State.scanResumes_moves {s : State} {k : Nat} : Moves 0x8980C s (s.scanResumes k) := by
  unfold State.scanResumes
  repeat' with_reducible first
    | apply Moves.refl | (apply Moves.via State.scNewMode_moves; decide) | (apply Moves.via State.scRanged_moves; decide)
    | (apply Moves.via State.setSc_moves; decide) | (apply Moves.via State.scBeginShow_moves; decide)
    | (apply Moves.via State.scShow_moves; decide) | (apply Moves.via State.scSettle_moves; decide)
    | (apply Moves.via State.cvShow_moves; decide) | (apply Moves.via State.newCycle_moves; decide) | apply Moves.ite | intro _
    | apply Moves.foldl

theorem State.calLeaves_moves {s : State} {k : Nat} : Moves 0x8980C s (s.calLeaves k) := by
  unfold State.calLeaves
  repeat' with_reducible first
    | apply Moves.refl | (apply Moves.via State.calCount_moves; decide) | (apply Moves.via State.scanResumes_moves; decide)
    | (apply Moves.via State.setFv_moves; decide) | (apply Moves.via State.setCv_moves; decide)

theorem State.calHistory_moves {s : State} {k kind reason trigger : Nat} {dr2 dr20 dg vref : Q} :
    Moves 0x9800 s (s.calHistory k kind reason trigger dr2 dr20 dg vref) := by
  unfold State.calHistory
  repeat' with_reducible first
    | apply Moves.refl | (apply Moves.via State.setCv_moves; decide) | (apply Moves.via State.nodeWrite_moves; decide)

theorem State.calInterval_moves {s : State} {k : Nat} {d : Q} : Moves 0x8008 s (s.calInterval k d) := by
  unfold State.calInterval
  repeat' with_reducible first
    | apply Moves.refl | (apply Moves.via State.setFv_moves; decide) | (apply Moves.via State.setCv_moves; decide) | apply Moves.ite
    | intro _

theorem State.refChecked_moves {s : State} {vref : Q} : Moves 0x8008 s (s.refChecked vref) := by
  unfold State.refChecked
  repeat' with_reducible first
    | apply Moves.refl | (apply Moves.via State.irqIf_moves; decide) | (apply Moves.via State.setFb_moves; decide)
    | (apply Moves.via State.setFv_moves; decide) | apply Moves.ite | intro _ | apply Moves.foldl | (apply Moves.snd; assumption)
    | (apply Moves.fst; assumption) | apply Moves.idOf | fail_if_no_progress (apply Moves.sac; decide)

theorem State.refUnseen_moves {s : State} {run : CalRun} : Moves 0x800C s (s.refUnseen run) := by
  unfold State.refUnseen
  repeat' with_reducible first
    | apply Moves.refl | (apply Moves.via State.draw_moves; decide) | (apply Moves.via State.refChecked_moves; decide)
    | apply Moves.ite | intro _

theorem State.calFails_moves {s : State} {k : Nat} {run : CalRun} {reason : Nat} {dr2 dr20 dg vref : Q} :
    Moves 0x9808 s (s.calFails k run reason dr2 dr20 dg vref) := by
  unfold State.calFails
  repeat' with_reducible first
    | apply Moves.refl | (apply Moves.via State.setFv_moves; decide) | (apply Moves.via State.calHistory_moves; decide)
    | (apply Moves.via State.irq_moves; decide)

theorem State.calSucceeds_moves {s : State} {k : Nat} {run : CalRun} {m : CalFigures} {dr2 dr20 dg vref : Q} {jump : Bool} :
    Moves 0x9808 s (s.calSucceeds k run m dr2 dr20 dg vref jump) := by
  unfold State.calSucceeds
  repeat' with_reducible first
    | apply Moves.refl | (apply Moves.via State.nodeWrite_moves; decide) | (apply Moves.via State.setCv_moves; decide)
    | (apply Moves.via State.calInterval_moves; decide) | (apply Moves.via State.setFv_moves; decide)
    | (apply Moves.via State.wrapInc_moves; decide) | (apply Moves.via State.setStamp_moves; decide)
    | (apply Moves.via State.calHistory_moves; decide) | (apply Moves.via State.irq_moves; decide) | apply Moves.ite | intro _

theorem State.calEnded_moves {s : State} {k : Nat} {run : CalRun} {ok : Bool} : Moves 0x8D80C s (s.calEnded k run ok) := by
  unfold State.calEnded
  repeat' with_reducible first
    | apply Moves.refl | (apply Moves.via State.setCv_moves; decide) | (apply Moves.via State.calLeaves_moves; decide)
    | (apply Moves.via State.calTallyStep_moves; decide) | apply Moves.ite | intro _ | apply Moves.foldl
    | (apply Moves.snd; assumption) | (apply Moves.fst; assumption) | apply Moves.idOf | extract_lets | split

theorem State.calAbandon_moves {s : State} {k : Nat} : Moves 0x8D80C s (s.calAbandon k) := by
  unfold State.calAbandon
  repeat' with_reducible first
    | apply Moves.refl | (apply Moves.via State.setFv_moves; decide) | (apply Moves.via State.refUnseen_moves; decide)
    | (apply Moves.via State.calEnded_moves; decide) | (apply Moves.via State.calHistory_moves; decide) | apply Moves.ite | intro _
    | apply Moves.foldl | (apply Moves.snd; assumption) | (apply Moves.fst; assumption) | apply Moves.idOf | extract_lets | split

theorem State.calTallyStops_moves {s : State} {n : Nat} : Moves 0x8D80C s (s.calTallyStops n) := by
  unfold State.calTallyStops
  repeat' with_reducible first
    | apply Moves.refl | (apply Moves.via State.setTally_moves; decide) | (apply Moves.via State.calAbandon_moves; decide)
    | (apply Moves.via State.setCv_moves; decide) | apply Moves.ite | intro _ | apply Moves.foldl | (apply Moves.snd; assumption)
    | (apply Moves.fst; assumption) | apply Moves.idOf | extract_lets | split

theorem State.sacStop_moves {s : State} : Moves 0x8D80C s s.sacStop := by
  unfold State.sacStop
  repeat' with_reducible first
    | apply Moves.refl | (apply Moves.via State.calAbandon_moves; decide) | (apply Moves.via State.setCv_moves; decide)
    | apply Moves.ite | intro _ | apply Moves.foldl

theorem State.sacCommitted_moves {s : State} {old : State} : Moves 0x8D80C s (s.sacCommitted old) := by
  unfold State.sacCommitted
  repeat' with_reducible first
    | apply Moves.refl | (apply Moves.via State.copyUserTables_moves; decide) | (apply Moves.via State.setFv_moves; decide)
    | (apply Moves.via State.sacPowered_moves; decide) | (apply Moves.via State.termShow_moves; decide)
    | (apply Moves.via State.cvEnable_moves; decide) | (apply Moves.via State.cvDisable_moves; decide)
    | (apply Moves.via State.calAbandon_moves; decide) | apply Moves.ite | intro _ | apply Moves.foldl

theorem execCalDue_moves {t : Nat} {k : Fin 8} {temp : Q} {s : State} : MovesNext 0x808009 s (execCalDue t k temp s) := by
  unfold execCalDue
  repeat' with_reducible first
    | apply Moves.refl | (apply Moves.via State.at_moves; decide) | apply MovesNext.next | (apply Moves.via State.setFv_moves; decide)
    | (apply Moves.via State.calFallsDue_moves; decide) | apply MovesNext.ite | apply Moves.ite | intro _

theorem execCalOverdue_moves {t : Nat} {k : Fin 8} {s : State} : MovesNext 0x800009 s (execCalOverdue t k s) := by
  unfold execCalOverdue
  repeat' with_reducible first
    | apply Moves.refl | (apply Moves.via State.at_moves; decide) | apply MovesNext.next | (apply Moves.via State.setFv_moves; decide)
    | apply MovesNext.ite | apply Moves.ite | intro _ | apply Moves.foldl | apply Moves.idOf | extract_lets | split

theorem execCalibrationStart_moves {t : Nat} {k : Fin 8} {s : State} : MovesNext 0x88980D s (execCalibrationStart t k s) := by
  unfold execCalibrationStart
  repeat' with_reducible first
    | apply Moves.refl | (apply Moves.via State.at_moves; decide) | apply MovesNext.next
    | (apply Moves.via State.calRun_moves; decide) | apply MovesNext.ite | apply Moves.ite | intro _ | apply Moves.foldl
    | apply Moves.idOf | extract_lets | split

theorem execCalibrationComplete_moves {t : Nat} {k : Fin 8} {m : CalInput} {s : State} :
    MovesNext 0x88D80D s (execCalibrationComplete t k m s) := by
  unfold execCalibrationComplete
  repeat' with_reducible first
    | apply Moves.refl | (apply Moves.via State.at_moves; decide) | apply MovesNext.next
    | (apply Moves.via State.calEnded_moves; decide) | (apply Moves.via State.calFails_moves; decide)
    | (apply Moves.via State.refUnseen_moves; decide) | (apply Moves.via State.setFv_moves; decide)
    | (apply Moves.via State.refChecked_moves; decide) | (apply Moves.via State.calSucceeds_moves; decide)
    | (apply Moves.via State.calRun_moves; decide) | apply MovesNext.ite | apply Moves.ite | intro _ | apply Moves.foldl
    | apply Moves.idOf | extract_lets | split

theorem execCalibrationTimeout_moves {t : Nat} {k : Fin 8} {s : State} : MovesNext 0x88D80D s (execCalibrationTimeout t k s) := by
  unfold execCalibrationTimeout
  repeat' with_reducible first
    | apply Moves.refl | (apply Moves.via State.at_moves; decide) | apply MovesNext.next
    | (apply Moves.via State.calEnded_moves; decide) | (apply Moves.via State.calFails_moves; decide)
    | (apply Moves.via State.refUnseen_moves; decide) | apply MovesNext.ite | apply Moves.ite | intro _ | apply Moves.foldl
    | apply Moves.idOf | extract_lets | split

theorem execCal_moves {t tally : Nat} {s : State} : MovesNext 0x88D80D s (execCal t tally s) := by
  unfold execCal
  repeat' with_reducible first
    | apply Moves.refl | (apply Moves.via State.at_moves; decide) | apply MovesNext.next | (apply State.lateStop_moves; decide)
    | (apply Moves.via State.calTallyStops_moves; decide) | (apply Moves.via State.tallyDone_moves; decide)
    | (apply Moves.via State.tallyProgress_moves; decide) | apply MovesNext.ite | apply Moves.ite | intro _ | apply Moves.foldl
    | apply Moves.idOf | extract_lets | split

end Sys2Proof.Machine
end

