-- ==== Sys2Proof/Laws/MovesSpxPlane.lean ====
section
/-! SUPPORT. What the operations of Machine/SpxPlane.lean leave as it was (Laws/Moves.lean). -/

namespace Sys2Proof.Machine

open Sys2Proof

theorem State.setPlane_moves {s : State} {i : Nat} {x : SpxPl} : Moves 0x20000 s (s.setPlane i x) := by
  unfold State.setPlane
  repeat' with_reducible first
    | apply Moves.refl | apply Moves.ite | intro _ | apply Moves.foldl | (apply Moves.snd; assumption) | (apply Moves.fst; assumption)
    | apply Moves.idOf | fail_if_no_progress (apply Moves.spx; decide)

theorem State.setDch_moves {s : State} {ch : Nat} {c : DynCh} : Moves 0x10000 s (s.setDch ch c) := by
  unfold State.setDch
  repeat' with_reducible first
    | apply Moves.refl | apply Moves.ite | intro _ | apply Moves.foldl | (apply Moves.snd; assumption) | (apply Moves.fst; assumption)
    | apply Moves.idOf | fail_if_no_progress (apply Moves.dyn; decide)

theorem State.planeShow_moves {s : State} {i : Nat} : Moves 0x8000C s (s.planeShow i) := by
  unfold State.planeShow
  repeat' with_reducible first
    | apply Moves.refl | (apply Moves.via State.setFv_moves; decide) | (apply Moves.via State.irqIf_moves; decide)
    | (apply Moves.via State.squash_moves; decide) | apply Moves.ite | intro _

theorem State.planesFollow_moves {s : State} {ch : Nat} : Moves 0x8000C s (s.planesFollow ch) := by
  unfold State.planesFollow
  repeat' with_reducible first
    | apply Moves.refl | (apply Moves.via State.planeShow_moves; decide) | apply Moves.ite | intro _ | apply Moves.foldl

theorem State.allPlanesShow_moves {s : State} : Moves 0x8000C s s.allPlanesShow := by
  unfold State.allPlanesShow
  repeat' with_reducible first
    | apply Moves.refl | (apply Moves.via State.planeShow_moves; decide) | apply Moves.ite | intro _ | apply Moves.foldl

theorem State.zoomSample_moves {s : State} {ch : Nat} : Moves 0x20000 s (s.zoomSample ch) := by
  unfold State.zoomSample
  repeat' with_reducible first
    | apply Moves.refl | (apply Moves.via State.setPlane_moves; decide) | apply Moves.ite | intro _

end Sys2Proof.Machine
end

