-- ==== Sys2Proof/Laws/MovesPteEval.lean ====
section
/-! SUPPORT. What the operations of Machine/PteEval.lean leave as it was (Laws/Moves.lean). -/

namespace Sys2Proof.Machine

open Sys2Proof

theorem State.queueChange_moves {s : State} {c : Change} : Moves 0x80000 s (s.queueChange c) := by
  unfold State.queueChange
  repeat' with_reducible first
    | apply Moves.refl | apply Moves.ite | intro _ | apply Moves.foldl | (apply Moves.snd; assumption) | (apply Moves.fst; assumption)
    | apply Moves.idOf | fail_if_no_progress (apply Moves.pte; decide)

theorem State.poisonFound_moves {s : State} {p : Nat} : Moves 0x80008 s (s.poisonFound p) := by
  unfold State.poisonFound
  repeat' with_reducible first
    | apply Moves.refl | (apply Moves.via State.irq_moves; decide) | (apply Moves.via State.satInc_moves; decide) | apply Moves.ite
    | intro _ | apply Moves.foldl | (apply Moves.snd; assumption) | (apply Moves.fst; assumption) | apply Moves.idOf
    | fail_if_no_progress (apply Moves.pte; decide)

theorem State.reportPoison_moves {s : State} {p : Nat} {forced simulated : Bool} {stamp : Nat} :
    Moves 0x80008 s (s.reportPoison p forced simulated stamp) := by
  unfold State.reportPoison
  repeat' with_reducible first
    | apply Moves.refl | (apply Moves.via State.queueChange_moves; decide) | (apply Moves.via State.holdReported_moves; decide)
    | (apply Moves.via State.poisonFound_moves; decide) | apply Moves.ite | intro _

theorem State.poisonGone_moves {s : State} {p : Nat} : Moves 0x80000 s (s.poisonGone p) := by
  unfold State.poisonGone
  repeat' with_reducible first
    | apply Moves.refl | apply Moves.ite | intro _ | apply Moves.foldl | (apply Moves.snd; assumption) | (apply Moves.fst; assumption)
    | apply Moves.idOf | fail_if_no_progress (apply Moves.pte; decide)

theorem State.setHeld_moves {s : State} {n : Nat} {l : List Nat} : Moves 0x80000 s (s.setHeld n l) := by
  unfold State.setHeld
  repeat' with_reducible first
    | apply Moves.refl | apply Moves.ite | intro _ | apply Moves.foldl | (apply Moves.snd; assumption) | (apply Moves.fst; assumption)
    | apply Moves.idOf | fail_if_no_progress (apply Moves.pte; decide)

theorem State.scalarCommit_moves {s : State} {n b1 q : Nat} {steps : List (Nat × Nat × Nat)} {ts : Nat} {poison : Bool} :
    Moves 0x81800 s (s.scalarCommit n b1 q steps ts poison) := by
  unfold State.scalarCommit
  have hf : ∀ {c : Nat → Nat → Nat → Nat → Nat → Nat → Change} {q' : Nat} {r : State × Nat × Nat}, Moves 0x81800 s r.1 →
      Moves 0x81800 s (steps.foldl (fun (r : State × Nat × Nat) x =>
        if x.1 = r.2.1 then r else (r.1.queueChange (c r.2.1 x.1 r.2.2 q x.2.1 x.2.2), x.1, q')) r).1 := fun hr => by
    refine Moves.foldlFst (fun r x => ?_) _ hr
    split
    · exact Moves.refl _ _
    · exact State.queueChange_moves.weaken (by decide)
  have hw : ∀ {a : Nat} {l : List Byte}, Moves 0x81800 s ((s.dropReported (scalarPoint n)).nodeWrite a l) :=
    Moves.via State.nodeWrite_moves (by decide) (State.dropReported_moves.weaken (by decide))
  refine Moves.ite (fun _ => ?_) (fun _ => Moves.via State.queueChange_moves (by decide) ?_)
  · exact hf (c := fun a b d e f g => mkChange (scalarPoint n) (s.entryOf (scalarPoint n)) a b d e _ _ false f g) hw
  · exact hf (c := fun a b d e f g => mkChange (scalarPoint n) (s.entryOf (scalarPoint n)) a b d e _ _ false f g) hw

theorem State.scalarEval_moves {s : State} {n now : Nat} {x : Shadow} : Moves 0x81808 s (s.scalarEval n now x) := by
  unfold State.scalarEval
  repeat' with_reducible first
    | apply Moves.refl | (apply Moves.via State.irqIf_moves; decide) | (apply Moves.via State.reportPoison_moves; decide)
    | (apply Moves.via State.dropRuns_moves; decide) | (apply Moves.via State.poisonFound_moves; decide)
    | (apply Moves.via State.poisonGone_moves; decide) | (apply Moves.via State.scalarCommit_moves; decide)
    | (apply Moves.via State.freezeRuns_moves; decide) | (apply Moves.via State.setHeld_moves; decide)
    | (apply Moves.via State.setRun_moves; decide) | apply Moves.ite | intro _ | apply Moves.foldl | (apply Moves.snd; assumption)
    | (apply Moves.fst; assumption) | apply Moves.idOf | fail_if_no_progress (apply Moves.pte; decide)

theorem State.specEval_moves {s : State} {x : AtPlane} {p : Nat} : Moves 0x81808 s (s.specEval x p) := by
  unfold State.specEval
  repeat' with_reducible first
    | apply Moves.refl | (apply Moves.via State.irqIf_moves; decide) | (apply Moves.via State.reportPoison_moves; decide)
    | (apply Moves.via State.dropReported_moves; decide) | (apply Moves.via State.poisonFound_moves; decide)
    | (apply Moves.via State.poisonGone_moves; decide) | (apply Moves.via State.nodeWrite_moves; decide)
    | (apply Moves.via State.queueChange_moves; decide) | apply Moves.ite | intro _ | apply Moves.foldl
    | (apply Moves.snd; assumption) | (apply Moves.fst; assumption) | apply Moves.idOf | fail_if_no_progress (apply Moves.pte; decide)

theorem State.classEvents_moves {s : State} {old : State} : Moves 0x8 s (s.classEvents old) := by
  unfold State.classEvents
  repeat' with_reducible first
    | apply Moves.refl | (apply Moves.via State.irqIf_moves; decide) | apply Moves.ite | intro _ | apply Moves.foldl

theorem State.classDue_moves {s : State} {c : Nat} : Moves 0x80000 s (s.classDue c) := by
  unfold State.classDue
  repeat' with_reducible first
    | apply Moves.refl | apply Moves.ite | intro _ | apply Moves.foldl | (apply Moves.snd; assumption) | (apply Moves.fst; assumption)
    | apply Moves.idOf | fail_if_no_progress (apply Moves.pte; decide)

theorem State.classRelease_moves {s : State} {c : Nat} : Moves 0x8180C s (s.classRelease c) := by
  unfold State.classRelease
  repeat' with_reducible first
    | apply Moves.refl | (apply Moves.via State.unlatch_moves; decide) | (apply Moves.via State.queueChange_moves; decide)
    | (apply Moves.via State.classDue_moves; decide) | (apply Moves.via State.squash_moves; decide) | apply Moves.ite | intro _
    | apply Moves.foldl

theorem State.windowClamps_moves {s : State} {p : Nat} {old w new : List Byte} {m : Nat → Bool} :
    Moves 0x648 s (s.windowClamps p old w new m) := by
  unfold State.windowClamps
  repeat' with_reducible first
    | apply Moves.refl | (apply Moves.via State.clampAt_moves; decide) | (apply Moves.via State.setFv_moves; decide) | apply Moves.ite
    | intro _ | apply Moves.foldl

theorem State.simSwitch_moves {s : State} {n : Nat} {on : Bool} {quality : Nat} : Moves 0x81800 s (s.simSwitch n on quality) := by
  unfold State.simSwitch
  repeat' with_reducible first
    | apply Moves.refl | (apply Moves.via State.setQuality_moves; decide) | (apply Moves.via State.dropRuns_moves; decide)
    | (apply Moves.via State.setValue_moves; decide) | apply Moves.ite | intro _ | apply Moves.foldl | (apply Moves.snd; assumption)
    | (apply Moves.fst; assumption) | apply Moves.idOf | fail_if_no_progress (apply Moves.pte; decide)

theorem State.windowFollows_moves {s : State} {old : State} {p : Nat} {quality : Bool} :
    Moves 0x8180C s (s.windowFollows old p quality) := by
  unfold State.windowFollows
  repeat' with_reducible first
    | apply Moves.refl | (apply Moves.via State.squashPoint_moves; decide) | (apply Moves.via State.dropRuns_moves; decide)
    | (apply Moves.via State.dropReported_moves; decide) | (apply Moves.via State.simSwitch_moves; decide)
    | (apply Moves.via State.setQuality_moves; decide) | (apply Moves.via State.makeDue_moves; decide)
    | (apply Moves.via State.queueChange_moves; decide) | apply Moves.ite | intro _ | apply Moves.foldl
    | (apply Moves.snd; assumption) | (apply Moves.fst; assumption) | apply Moves.idOf | fail_if_no_progress (apply Moves.pte; decide)

theorem State.windowOne_moves {s : State} {kind p base start : Nat} {l : List Byte} {size : Nat} {may : Bool} :
    Moves 0x81E4C s (s.windowOne kind p base start l size may) := by
  unfold State.windowOne
  repeat' with_reducible first
    | apply Moves.refl | (apply Moves.via State.nodeWrite_moves; decide) | (apply Moves.via State.wrBytes_moves; decide)
    | (apply Moves.via State.curePoison_moves; decide) | (apply Moves.via State.windowClamps_moves; decide)
    | (apply Moves.via State.makeDue_moves; decide) | (apply Moves.via State.windowFollows_moves; decide) | apply Moves.ite | intro _

theorem State.windowBytes_moves {may : Bool} {k : Nat} :
    ∀ {s : State} {a : Nat} {l : List Byte}, Moves 0x81E4C s (s.windowBytes may k a l) := by
  induction k with
  | zero => intro s a l; cases l <;> exact Moves.refl _ _
  | succ k ih =>
    intro s a l
    cases l with
    | nil => exact Moves.refl _ _
    | cons b l => exact (State.windowOne_moves.weaken (by decide)).trans ih

theorem State.simWrite_moves {s : State} {p : Port} {point : Nat} {active : Bool} : Moves 0x8000C s (s.simWrite p point active).1 := by
  unfold State.simWrite
  repeat' with_reducible first
    | apply Moves.refl | (apply Moves.via State.squashPoint_moves; decide) | (apply Moves.via State.queueChange_moves; decide)
    | (apply Moves.via State.safShow_moves; decide) | apply Moves.ite | intro _ | apply Moves.foldl | (apply Moves.snd; assumption)
    | (apply Moves.fst; assumption) | apply Moves.idOf | fail_if_no_progress (apply Moves.pte; decide)

theorem State.simValue_moves {s : State} {code : Nat} : Moves 0x8000C s (s.simValue code) := by
  unfold State.simValue
  repeat' with_reducible first
    | apply Moves.refl | (apply Moves.via State.squashPoint_moves; decide) | apply Moves.ite | intro _ | apply Moves.foldl
    | (apply Moves.snd; assumption) | (apply Moves.fst; assumption) | apply Moves.idOf | fail_if_no_progress (apply Moves.pte; decide)

theorem State.pteClr_moves {s : State} : Moves 0x8 s s.pteClr := by
  unfold State.pteClr
  repeat' with_reducible first
    | apply Moves.refl | (apply Moves.via State.setFv_moves; decide) | (apply Moves.via State.setReg_moves; decide)

end Sys2Proof.Machine
end

