-- ==== Sys2Proof/Laws/MovesDio.lean ====
section
/-! SUPPORT. What the operations of Machine/Dio.lean leave as it was (Laws/Moves.lean). -/

namespace Sys2Proof.Machine

open Sys2Proof

theorem State.fbeDo_moves {s : State} {line : Nat} {b : Bool} : Moves 0x1000000 s (s.fbeDo line b) := by
  unfold State.fbeDo
  repeat' with_reducible first
    | apply Moves.refl | apply Moves.ite | intro _ | apply Moves.foldl | (apply Moves.snd; assumption) | (apply Moves.fst; assumption)
    | apply Moves.idOf | fail_if_no_progress (apply Moves.dio; decide)

theorem State.doSet_moves {s : State} {v : Nat} : Moves 0x1000648 s (s.doSet v) := by
  unfold State.doSet
  repeat' with_reducible first
    | apply Moves.refl | (apply Moves.via State.clampAt_moves; decide) | (apply Moves.via State.setFv_moves; decide) | apply Moves.ite
    | intro _ | apply Moves.foldl | (apply Moves.snd; assumption) | (apply Moves.fst; assumption) | apply Moves.idOf
    | fail_if_no_progress (apply Moves.dio; decide)

theorem State.judgeInput_moves {s : State} {ch : Nat} : Moves 0x1000000 s (s.judgeInput ch) := by
  unfold State.judgeInput
  repeat' with_reducible first
    | apply Moves.refl | apply Moves.ite | intro _ | apply Moves.foldl | (apply Moves.snd; assumption) | (apply Moves.fst; assumption)
    | apply Moves.idOf | fail_if_no_progress (apply Moves.dio; decide)

theorem State.compareInputs_moves {s : State} : Moves 0x1000000 s s.compareInputs := by
  unfold State.compareInputs
  repeat' with_reducible first
    | apply Moves.refl | (apply Moves.via State.judgeInput_moves; decide) | apply Moves.ite | intro _ | apply Moves.foldl
    | (apply Moves.snd; assumption) | (apply Moves.fst; assumption) | apply Moves.idOf | fail_if_no_progress (apply Moves.dio; decide)

theorem State.currentsTimed_moves {s : State} : Moves 0x1000000 s s.currentsTimed := by
  unfold State.currentsTimed
  repeat' with_reducible first
    | apply Moves.refl | apply Moves.ite | intro _ | apply Moves.foldl | (apply Moves.snd; assumption) | (apply Moves.fst; assumption)
    | apply Moves.idOf | fail_if_no_progress (apply Moves.dio; decide)

theorem State.inputsFollow_moves {s : State} : Moves 0x1000000 s s.inputsFollow := by
  unfold State.inputsFollow
  repeat' with_reducible first
    | apply Moves.refl | (apply Moves.via State.currentsTimed_moves; decide) | (apply Moves.via State.compareInputs_moves; decide)

theorem State.outputsTimed_moves {s : State} : Moves 0x1000000 s s.outputsTimed := by
  unfold State.outputsTimed
  repeat' with_reducible first
    | apply Moves.refl | apply Moves.ite | intro _ | apply Moves.foldl | (apply Moves.snd; assumption) | (apply Moves.fst; assumption)
    | apply Moves.idOf | fail_if_no_progress (apply Moves.dio; decide)

theorem State.islandDisarm_moves {s : State} : Moves 0x1000000 s s.islandDisarm := by
  unfold State.islandDisarm
  repeat' with_reducible first
    | apply Moves.refl | (apply Moves.via State.inputsFollow_moves; decide) | (apply Moves.via State.outputsTimed_moves; decide)
    | apply Moves.ite | intro _ | apply Moves.foldl | (apply Moves.snd; assumption) | (apply Moves.fst; assumption) | apply Moves.idOf
    | fail_if_no_progress (apply Moves.dio; decide)

theorem State.islandArm_moves {s : State} : Moves 0x1000000 s s.islandArm := by
  unfold State.islandArm
  repeat' with_reducible first
    | apply Moves.refl | (apply Moves.via State.inputsFollow_moves; decide) | (apply Moves.via State.outputsTimed_moves; decide)
    | apply Moves.ite | intro _ | apply Moves.foldl | (apply Moves.snd; assumption) | (apply Moves.fst; assumption) | apply Moves.idOf
    | fail_if_no_progress (apply Moves.dio; decide)

theorem State.setField_moves {s : State} {mV : Nat} : Moves 0x1000000 s (s.setField mV) := by
  unfold State.setField
  repeat' with_reducible first
    | apply Moves.refl | (apply Moves.via State.islandDisarm_moves; decide) | (apply Moves.via State.inputsFollow_moves; decide)
    | apply Moves.ite | intro _ | apply Moves.foldl | (apply Moves.snd; assumption) | (apply Moves.fst; assumption) | apply Moves.idOf
    | fail_if_no_progress (apply Moves.dio; decide)

theorem State.showRearm_moves {s : State} : Moves 0x8 s s.showRearm := by
  unfold State.showRearm
  repeat' with_reducible first
    | apply Moves.refl | (apply Moves.via State.irqIf_moves; decide) | (apply Moves.via State.setFb_moves; decide)

theorem State.showThr_moves {s : State} : Moves 0x8 s s.showThr := by
  unfold State.showThr
  repeat' with_reducible first
    | apply Moves.refl | (apply Moves.via State.setFb_moves; decide)

theorem State.dioCtrl_moves {s : State} {v : Word} : Moves 0x1000648 s (s.dioCtrl v) := by
  unfold State.dioCtrl
  repeat' with_reducible first
    | apply Moves.refl | (apply Moves.via State.inputsFollow_moves; decide) | (apply Moves.via State.showThr_moves; decide)
    | (apply Moves.via State.clampAt_moves; decide) | apply Moves.ite | intro _ | apply Moves.foldl | (apply Moves.snd; assumption)
    | (apply Moves.fst; assumption) | apply Moves.idOf | fail_if_no_progress (apply Moves.dio; decide)

theorem State.islandTakes_moves {s : State} : Moves 0x1000000 s s.islandTakes := by
  unfold State.islandTakes
  repeat' with_reducible first
    | apply Moves.refl | (apply Moves.via State.outputsTimed_moves; decide) | (apply Moves.via State.islandArm_moves; decide)
    | apply Moves.ite | intro _ | apply Moves.foldl | (apply Moves.snd; assumption) | (apply Moves.fst; assumption) | apply Moves.idOf
    | fail_if_no_progress (apply Moves.dio; decide)

theorem State.dioCommitted_moves {s : State} {old : State} : Moves 0x1000000 s (s.dioCommitted old) := by
  unfold State.dioCommitted
  repeat' with_reducible first
    | apply Moves.refl | (apply Moves.via State.inputsFollow_moves; decide) | apply Moves.ite | intro _ | apply Moves.foldl
    | (apply Moves.snd; assumption) | (apply Moves.fst; assumption) | apply Moves.idOf | fail_if_no_progress (apply Moves.dio; decide)

theorem State.upFrameSent_moves {s : State} {seq rb : Nat} : Moves 0x1000000 s (s.upFrameSent seq rb).1 := by
  unfold State.upFrameSent
  repeat' with_reducible first
    | apply Moves.refl | apply Moves.ite | intro _ | apply Moves.foldl | (apply Moves.snd; assumption) | (apply Moves.fst; assumption)
    | apply Moves.idOf | fail_if_no_progress (apply Moves.dio; decide)

theorem State.upFrameA_moves {s : State} {seq rb : Nat} {edges : List (Nat × Nat)} {lost : Nat} :
    Moves 0x1000008 s (s.upFrameA seq rb edges lost).1 := by
  unfold State.upFrameA
  repeat' with_reducible first
    | apply Moves.refl | (apply Moves.via State.inputsFollow_moves; decide) | (apply Moves.via State.irq_moves; decide)
    | (apply Moves.via State.setFv_moves; decide) | (apply Moves.via State.setFb_moves; decide)
    | (apply Moves.via State.irqIf_moves; decide) | (apply Moves.via State.setStamp_moves; decide)
    | (apply Moves.via State.satInc_moves; decide) | (apply Moves.via State.showThr_moves; decide)
    | (apply Moves.via State.showRearm_moves; decide) | apply Moves.ite | intro _ | apply Moves.foldl | (apply Moves.snd; assumption)
    | (apply Moves.fst; assumption) | apply Moves.idOf | fail_if_no_progress (apply Moves.dio; decide)

theorem State.upFrameSeen_moves {s : State} {ok : Bool} {seq : Nat} : Moves 0x1000008 s (s.upFrameSeen ok seq) := by
  unfold State.upFrameSeen
  repeat' with_reducible first
    | apply Moves.refl | (apply Moves.via State.satInc_moves; decide) | apply Moves.ite | intro _ | apply Moves.foldl
    | (apply Moves.snd; assumption) | (apply Moves.fst; assumption) | apply Moves.idOf | fail_if_no_progress (apply Moves.dio; decide)

theorem State.upFrameBad_moves {s : State} : Moves 0x1000008 s s.upFrameBad := by
  unfold State.upFrameBad
  repeat' with_reducible first
    | apply Moves.refl | (apply Moves.via State.satInc_moves; decide) | apply Moves.ite | intro _ | apply Moves.foldl
    | (apply Moves.snd; assumption) | (apply Moves.fst; assumption) | apply Moves.idOf | fail_if_no_progress (apply Moves.dio; decide)

theorem State.dioStart_moves {s : State} {lastEff : Nat} : Moves 0x108180C s (s.dioStart lastEff) := by
  unfold State.dioStart
  repeat' with_reducible first
    | apply Moves.refl | (apply Moves.via State.sourceQuality_moves; decide) | (apply Moves.via State.showThr_moves; decide)
    | (apply Moves.via State.showRearm_moves; decide) | (apply Moves.via State.inputsFollow_moves; decide)
    | (apply Moves.via State.outputsTimed_moves; decide) | apply Moves.ite | intro _ | apply Moves.foldl
    | (apply Moves.snd; assumption) | (apply Moves.fst; assumption) | apply Moves.idOf | fail_if_no_progress (apply Moves.dio; decide)

theorem execDownFrameA_moves {t : Nat} {ok : Bool} {s : State} : MovesNext 0x1800001 s (execDownFrameA t ok s) := by
  unfold execDownFrameA
  repeat' with_reducible first
    | apply Moves.refl | (apply Moves.via State.at_moves; decide) | apply MovesNext.next
    | (apply Moves.via State.islandTakes_moves; decide) | apply MovesNext.ite | apply Moves.ite | intro _ | apply Moves.foldl
    | (apply Moves.snd; assumption) | (apply Moves.fst; assumption) | apply Moves.idOf | fail_if_no_progress (apply Moves.dio; decide)

theorem execIslandADisarm_moves {t : Nat} {s : State} : MovesNext 0x1800001 s (execIslandADisarm t s) := by
  unfold execIslandADisarm
  repeat' with_reducible first
    | apply Moves.refl | (apply Moves.via State.at_moves; decide) | apply MovesNext.next
    | (apply Moves.via State.islandDisarm_moves; decide) | apply MovesNext.ite | apply Moves.ite | intro _ | apply Moves.foldl
    | (apply Moves.snd; assumption) | (apply Moves.fst; assumption) | apply Moves.idOf | fail_if_no_progress (apply Moves.dio; decide)

theorem execVfieldWarn_moves {t mV : Nat} {s : State} : MovesNext 0x1800001 s (execVfieldWarn t mV s) := by
  unfold execVfieldWarn
  repeat' with_reducible first
    | apply Moves.refl | (apply Moves.via State.at_moves; decide) | apply MovesNext.next
    | (apply Moves.via State.setField_moves; decide)

theorem execVfieldOff_moves {t mV : Nat} {s : State} : MovesNext 0x1800001 s (execVfieldOff t mV s) := by
  unfold execVfieldOff
  repeat' with_reducible first
    | apply Moves.refl | (apply Moves.via State.at_moves; decide) | apply MovesNext.next
    | (apply Moves.via State.setField_moves; decide)

theorem execVfieldRise_moves {t mV : Nat} {s : State} : MovesNext 0x1800001 s (execVfieldRise t mV s) := by
  unfold execVfieldRise
  repeat' with_reducible first
    | apply Moves.refl | (apply Moves.via State.at_moves; decide) | apply MovesNext.next
    | (apply Moves.via State.setField_moves; decide)

theorem execVf18_moves {t mV : Nat} {s : State} : MovesNext 0x1800001 s (execVf18 t mV s) := by
  unfold execVf18
  repeat' with_reducible first
    | apply Moves.refl | (apply Moves.via State.at_moves; decide) | apply MovesNext.next
    | (apply Moves.via State.setField_moves; decide) | (apply Moves.via State.islandArm_moves; decide) | apply MovesNext.ite
    | apply Moves.ite | intro _ | apply Moves.foldl | (apply Moves.snd; assumption) | (apply Moves.fst; assumption) | apply Moves.idOf
    | fail_if_no_progress (apply Moves.dio; decide) | extract_lets | split

theorem execOutputTrip_moves {t : Nat} {line : Fin 8} {s : State} : MovesNext 0x1800001 s (execOutputTrip t line s) := by
  unfold execOutputTrip
  repeat' with_reducible first
    | apply Moves.refl | (apply Moves.via State.at_moves; decide) | apply MovesNext.next
    | (apply Moves.via State.outputsTimed_moves; decide) | apply MovesNext.ite | apply Moves.ite | intro _ | apply Moves.foldl
    | (apply Moves.snd; assumption) | (apply Moves.fst; assumption) | apply Moves.idOf | fail_if_no_progress (apply Moves.dio; decide)

theorem execIslandSelfCheckFail_moves {t : Nat} {s : State} : MovesNext 0x1800001 s (execIslandSelfCheckFail t s) := by
  unfold execIslandSelfCheckFail
  repeat' with_reducible first
    | apply Moves.refl | (apply Moves.via State.at_moves; decide) | apply MovesNext.next
    | (apply Moves.via State.islandDisarm_moves; decide) | apply MovesNext.ite | apply Moves.ite | intro _ | apply Moves.foldl
    | (apply Moves.snd; assumption) | (apply Moves.fst; assumption) | apply Moves.idOf | fail_if_no_progress (apply Moves.dio; decide)

theorem execDiInputChange_moves {t : Nat} {ch : Fin 16} {mV rise fall : Int} {s : State} :
    MovesNext 0x1800001 s (execDiInputChange t ch mV rise fall s) := by
  unfold execDiInputChange
  repeat' with_reducible first
    | apply Moves.refl | (apply Moves.via State.at_moves; decide) | apply MovesNext.next
    | (apply Moves.via State.inputsFollow_moves; decide) | apply MovesNext.ite | apply Moves.ite | intro _ | apply Moves.foldl
    | (apply Moves.snd; assumption) | (apply Moves.fst; assumption) | apply Moves.idOf | fail_if_no_progress (apply Moves.dio; decide)

theorem execDebouncedEdge_moves {t : Nat} {ch : Fin 16} {s : State} : MovesNext 0x1800001 s (execDebouncedEdge t ch s) := by
  unfold execDebouncedEdge
  repeat' with_reducible first
    | apply Moves.refl | (apply Moves.via State.at_moves; decide) | apply MovesNext.next | apply MovesNext.ite | apply Moves.ite
    | intro _ | apply Moves.foldl | (apply Moves.snd; assumption) | (apply Moves.fst; assumption) | apply Moves.idOf
    | fail_if_no_progress (apply Moves.dio; decide)

theorem execWireBreak_moves {t : Nat} {ch : Fin 16} {s : State} : MovesNext 0x1800001 s (execWireBreak t ch s) := by
  unfold execWireBreak
  repeat' with_reducible first
    | apply Moves.refl | (apply Moves.via State.at_moves; decide) | apply MovesNext.next | apply MovesNext.ite | apply Moves.ite
    | intro _ | apply Moves.foldl | (apply Moves.snd; assumption) | (apply Moves.fst; assumption) | apply Moves.idOf
    | fail_if_no_progress (apply Moves.dio; decide)

theorem execLinkALost_moves {t : Nat} {s : State} : MovesNext 0x188180D s (execLinkALost t s) := by
  unfold execLinkALost
  repeat' with_reducible first
    | apply Moves.refl | (apply Moves.via State.at_moves; decide) | apply MovesNext.next | (apply Moves.via State.setFv_moves; decide)
    | (apply Moves.via State.showThr_moves; decide) | (apply Moves.via State.showRearm_moves; decide)
    | (apply Moves.via State.irq_moves; decide) | (apply Moves.via State.sourceQuality_moves; decide) | apply MovesNext.ite
    | apply Moves.ite | intro _ | apply Moves.foldl | (apply Moves.snd; assumption) | (apply Moves.fst; assumption) | apply Moves.idOf
    | fail_if_no_progress (apply Moves.dio; decide)

end Sys2Proof.Machine
end

