-- ==== Sys2Proof/Laws/MovesLpo.lean ====
section
/-! SUPPORT. What the operations of Machine/Lpo.lean leave as it was (Laws/Moves.lean). -/

namespace Sys2Proof.Machine

open Sys2Proof

theorem State.setLoop_moves {s : State} {ch : Nat} {c : LoopCh} : Moves 0x2000000 s (s.setLoop ch c) := by
  unfold State.setLoop
  repeat' with_reducible first
    | apply Moves.refl | apply Moves.ite | intro _ | apply Moves.foldl | (apply Moves.snd; assumption) | (apply Moves.fst; assumption)
    | apply Moves.idOf | fail_if_no_progress (apply Moves.lpo; decide)

theorem State.loopStep_moves {s : State} {ch dt : Nat} : Moves 0x2000008 s (s.loopStep ch dt) := by
  unfold State.loopStep
  repeat' with_reducible first
    | apply Moves.refl | (apply Moves.via State.setLoop_moves; decide) | (apply Moves.via State.setFb_moves; decide)
    | (apply Moves.via State.setFv_moves; decide)

theorem State.loopCeil_moves {s : State} {ch dt : Nat} : Moves 0x2000008 s (s.loopCeil ch dt) := by
  unfold State.loopCeil
  repeat' with_reducible first
    | apply Moves.refl | (apply Moves.via State.setLoop_moves; decide) | (apply Moves.via State.irqIf_moves; decide)
    | (apply Moves.via State.setFb_moves; decide)

theorem State.loopRegulate_moves {s : State} {ch : Nat} : Moves 0x22000000 s (s.loopRegulate ch) := by
  unfold State.loopRegulate
  repeat' with_reducible first
    | apply Moves.refl | (apply Moves.via State.failsUntil_moves; decide) | (apply Moves.via State.setLoop_moves; decide)

theorem State.clrComp_moves {s : State} {ch : Nat} : Moves 0x2000008 s (s.clrComp ch) := by
  unfold State.clrComp
  repeat' with_reducible first
    | apply Moves.refl | (apply Moves.via State.setFv_moves; decide) | (apply Moves.via State.setLoop_moves; decide)

theorem State.loopSet_moves {s : State} {ch : Nat} {v : Word} : Moves 0x2000648 s (s.loopSet ch v) := by
  unfold State.loopSet
  repeat' with_reducible first
    | apply Moves.refl | (apply Moves.via State.clampAt_moves; decide) | (apply Moves.via State.setReg_moves; decide)
    | (apply Moves.via State.setLoop_moves; decide) | apply Moves.ite | intro _

theorem State.fbeLoop_moves {s : State} {ch : Nat} {v : Word} : Moves 0x2000000 s (s.fbeLoop ch v) := by
  unfold State.fbeLoop
  repeat' with_reducible first
    | apply Moves.refl | (apply Moves.via State.setLoop_moves; decide) | apply Moves.ite | intro _

theorem State.islandBTakes_moves {s : State} : Moves 0x2000000 s s.islandBTakes := by
  unfold State.islandBTakes
  repeat' with_reducible first
    | apply Moves.refl | (apply Moves.via State.setLoop_moves; decide) | apply Moves.ite | intro _ | apply Moves.foldl
    | (apply Moves.snd; assumption) | (apply Moves.fst; assumption) | apply Moves.idOf | fail_if_no_progress (apply Moves.lpo; decide)

theorem State.islandSupply_moves {s : State} {mV : Nat} {term : Bool} : Moves 0x2000000 s (s.islandSupply mV term) := by
  unfold State.islandSupply
  repeat' with_reducible first
    | apply Moves.refl | apply Moves.ite | intro _ | apply Moves.foldl | (apply Moves.snd; assumption) | (apply Moves.fst; assumption)
    | apply Moves.idOf | fail_if_no_progress (apply Moves.lpo; decide)

theorem State.carriers_moves {s : State} {bits : Nat} : Moves 0x2002008 s (s.carriers bits) := by
  unfold State.carriers
  repeat' with_reducible first
    | apply Moves.refl | (apply Moves.via State.setFb_moves; decide) | (apply Moves.via State.setLoop_moves; decide)
    | (apply Moves.via State.wakeSource_moves; decide) | apply Moves.ite | intro _ | apply Moves.foldl

theorem State.txFail_moves {s : State} {ch : Nat} : Moves 0x2000008 s (s.txFail ch) := by
  unfold State.txFail
  repeat' with_reducible first
    | apply Moves.refl | (apply Moves.via State.irq_moves; decide) | (apply Moves.via State.setFv_moves; decide)
    | (apply Moves.via State.setLoop_moves; decide) | apply Moves.ite | intro _

theorem State.setPageBytes_moves {s : State} {b off : Nat} {l : List Byte} : Moves 0x8 s (s.setPageBytes b off l) := by
  unfold State.setPageBytes
  repeat' with_reducible first
    | apply Moves.refl | (apply Moves.via State.setReg_moves; decide) | apply Moves.ite | intro _ | apply Moves.foldl

theorem State.txGo_moves {s : State} {ch : Nat} : Moves 0x648 s (s.txGo ch) := by
  unfold State.txGo
  repeat' with_reducible first
    | apply Moves.refl | (apply Moves.via State.clampAt_moves; decide) | (apply Moves.via State.setFv_moves; decide) | apply Moves.ite
    | intro _

theorem State.loopCtrl_moves {s : State} {ch : Nat} {v : Word} : Moves 0x2000648 s (s.loopCtrl ch v) := by
  unfold State.loopCtrl
  repeat' with_reducible first
    | apply Moves.refl | (apply Moves.via State.clrComp_moves; decide) | (apply Moves.via State.txFail_moves; decide)
    | (apply Moves.via State.txGo_moves; decide) | (apply Moves.via State.setFv_moves; decide) | apply Moves.ite | intro _

theorem State.loopCommitted_moves {s : State} {old : State} {ch : Nat} : Moves 0x2000008 s (s.loopCommitted old ch) := by
  unfold State.loopCommitted
  repeat' with_reducible first
    | apply Moves.refl | (apply Moves.via State.txFail_moves; decide) | (apply Moves.via State.setFv_moves; decide)
    | (apply Moves.via State.islandSupply_moves; decide) | apply Moves.ite | intro _

theorem State.lpoClr_moves {s : State} : Moves 0x8 s s.lpoClr := by
  unfold State.lpoClr
  repeat' with_reducible first
    | apply Moves.refl | (apply Moves.via State.setFv_moves; decide) | apply Moves.ite | intro _ | apply Moves.foldl

theorem State.lpoStart_moves {s : State} : Moves 0x2000008 s s.lpoStart := by
  unfold State.lpoStart
  repeat' with_reducible first
    | apply Moves.refl | (apply Moves.via State.setLoop_moves; decide) | (apply Moves.via State.setPageBytes_moves; decide)
    | apply Moves.ite | intro _ | apply Moves.foldl | (apply Moves.snd; assumption) | (apply Moves.fst; assumption) | apply Moves.idOf
    | fail_if_no_progress (apply Moves.lpo; decide)

theorem execRegulationStep_moves {t : Nat} {s : State} : MovesNext 0x22800009 s (execRegulationStep t s) := by
  unfold execRegulationStep
  repeat' with_reducible first
    | apply Moves.refl | (apply Moves.via State.at_moves; decide) | apply MovesNext.next
    | (apply Moves.via State.loopRegulate_moves; decide) | (apply Moves.via State.loopCeil_moves; decide)
    | (apply Moves.via State.loopStep_moves; decide) | (apply Moves.via State.irqIf_moves; decide)
    | (apply Moves.via State.setFb_moves; decide) | apply MovesNext.ite | apply Moves.ite | intro _ | apply Moves.foldl
    | (apply Moves.snd; assumption) | (apply Moves.fst; assumption) | apply Moves.idOf | fail_if_no_progress (apply Moves.lpo; decide)

theorem execComplianceSet_moves {t : Nat} {ch : Fin 4} {s : State} : MovesNext 0x800009 s (execComplianceSet t ch s) := by
  unfold execComplianceSet
  repeat' with_reducible first
    | apply Moves.refl | (apply Moves.via State.at_moves; decide) | apply MovesNext.next | (apply Moves.via State.irq_moves; decide)
    | (apply Moves.via State.setFv_moves; decide) | apply MovesNext.ite | apply Moves.ite | intro _ | apply Moves.foldl
    | apply Moves.idOf | extract_lets | split

theorem execComplianceClear_moves {t : Nat} {ch : Fin 4} {s : State} : MovesNext 0x800009 s (execComplianceClear t ch s) := by
  unfold execComplianceClear
  repeat' with_reducible first
    | apply Moves.refl | (apply Moves.via State.at_moves; decide) | apply MovesNext.next | (apply Moves.via State.setFv_moves; decide)
    | apply MovesNext.ite | apply Moves.ite | intro _ | apply Moves.foldl | apply Moves.idOf | extract_lets | split

theorem execDownFrameB_moves {t : Nat} {ok : Bool} {s : State} : MovesNext 0x2800001 s (execDownFrameB t ok s) := by
  unfold execDownFrameB
  repeat' with_reducible first
    | apply Moves.refl | (apply Moves.via State.at_moves; decide) | apply MovesNext.next
    | (apply Moves.via State.islandBTakes_moves; decide) | apply MovesNext.ite | apply Moves.ite | intro _ | apply Moves.foldl
    | (apply Moves.snd; assumption) | (apply Moves.fst; assumption) | apply Moves.idOf | fail_if_no_progress (apply Moves.lpo; decide)

theorem execIslandBFail_moves {t : Nat} {s : State} : MovesNext 0x2800009 s (execIslandBFail t s) := by
  unfold execIslandBFail
  repeat' with_reducible first
    | apply Moves.refl | (apply Moves.via State.at_moves; decide) | apply MovesNext.next
    | (apply Moves.via State.loopStep_moves; decide) | apply MovesNext.ite | apply Moves.ite | intro _ | apply Moves.foldl
    | (apply Moves.snd; assumption) | (apply Moves.fst; assumption) | apply Moves.idOf | fail_if_no_progress (apply Moves.lpo; decide)

theorem execLoopPowerChange_moves {t mV : Nat} {carries : Bool} {s : State} :
    MovesNext 0x22800001 s (execLoopPowerChange t mV carries s) := by
  unfold execLoopPowerChange
  repeat' with_reducible first
    | apply Moves.refl | (apply Moves.via State.at_moves; decide) | apply MovesNext.next
    | (apply Moves.via State.islandSupply_moves; decide) | (apply Moves.via State.loopRegulate_moves; decide) | apply MovesNext.ite
    | apply Moves.ite | intro _ | apply Moves.foldl

theorem execUpFrameB_moves {t : Nat} {ok : Bool} {seq carrier : Nat} {temp : Q} {rb hr : List Q} {s : State} :
    MovesNext 0x22802009 s (execUpFrameB t ok seq carrier temp rb hr s) := by
  unfold execUpFrameB
  repeat' with_reducible first
    | apply Moves.refl | (apply Moves.via State.at_moves; decide) | apply MovesNext.next
    | (apply Moves.via State.satInc_moves; decide) | (apply Moves.via State.failsUntil_moves; decide)
    | (apply Moves.via State.irq_moves; decide) | (apply Moves.via State.setFv_moves; decide)
    | (apply Moves.via State.irqIf_moves; decide) | (apply Moves.via State.setFb_moves; decide)
    | (apply Moves.via State.carriers_moves; decide) | apply MovesNext.ite | apply Moves.ite | intro _ | apply Moves.foldl
    | (apply Moves.snd; assumption) | (apply Moves.fst; assumption) | apply Moves.idOf | fail_if_no_progress (apply Moves.lpo; decide)

theorem execLinkBLost_moves {t : Nat} {s : State} : MovesNext 0x288180D s (execLinkBLost t s) := by
  unfold execLinkBLost
  repeat' with_reducible first
    | apply Moves.refl | (apply Moves.via State.at_moves; decide) | apply MovesNext.next | (apply Moves.via State.irq_moves; decide)
    | (apply Moves.via State.setFv_moves; decide) | (apply Moves.via State.loopStep_moves; decide)
    | (apply Moves.via State.txFail_moves; decide) | (apply Moves.via State.sourceQuality_moves; decide) | apply MovesNext.ite
    | apply Moves.ite | intro _ | apply Moves.foldl | (apply Moves.snd; assumption) | (apply Moves.fst; assumption) | apply Moves.idOf
    | fail_if_no_progress (apply Moves.lpo; decide)

theorem execFskTxStart_moves {t : Nat} {ch : Fin 4} {s : State} : MovesNext 0x2800001 s (execFskTxStart t ch s) := by
  unfold execFskTxStart
  repeat' with_reducible first
    | apply Moves.refl | (apply Moves.via State.at_moves; decide) | apply MovesNext.next
    | (apply Moves.via State.setLoop_moves; decide) | apply MovesNext.ite | apply Moves.ite | intro _

theorem execTxDone_moves {t : Nat} {ch : Fin 4} {s : State} : MovesNext 0x2800009 s (execTxDone t ch s) := by
  unfold execTxDone
  repeat' with_reducible first
    | apply Moves.refl | (apply Moves.via State.at_moves; decide) | apply MovesNext.next | (apply Moves.via State.irq_moves; decide)
    | (apply Moves.via State.setFv_moves; decide) | (apply Moves.via State.setLoop_moves; decide) | apply MovesNext.ite
    | apply Moves.ite | intro _

theorem execRxFrame_moves {t : Nat} {ch : Fin 4} {stamp : Nat} {chars : List (Byte × Bool)} {s : State} :
    MovesNext 0x2802009 s (execRxFrame t ch stamp chars s) := by
  unfold execRxFrame
  repeat' with_reducible first
    | apply Moves.refl | (apply Moves.via State.at_moves; decide) | apply MovesNext.next
    | (apply Moves.via State.setLoop_moves; decide) | (apply Moves.via State.setFv_moves; decide)
    | (apply Moves.via State.wakeSource_moves; decide) | (apply Moves.via State.satInc_moves; decide)
    | (apply Moves.via State.setStamp_moves; decide) | (apply Moves.via State.setPageBytes_moves; decide)
    | (apply Moves.via State.irqIf_moves; decide) | apply MovesNext.ite | apply Moves.ite | intro _

end Sys2Proof.Machine
end

