-- ==== Sys2Proof/Laws/MovesCan.lean ====
section
/-! SUPPORT. What the operations of Machine/Can.lean leave as it was (Laws/Moves.lean). -/

namespace Sys2Proof.Machine

open Sys2Proof

theorem State.setPort_moves {s : State} {p : Nat} {x : CanPort} : Moves 0x4000000 s (s.setPort p x) := by
  unfold State.setPort
  repeat' with_reducible first
    | apply Moves.refl | apply Moves.ite | intro _ | apply Moves.foldl | (apply Moves.snd; assumption) | (apply Moves.fst; assumption)
    | apply Moves.idOf | fail_if_no_progress (apply Moves.can; decide)

theorem State.setObj_moves {s : State} {p o : Nat} {f : Field} {v : Nat} : Moves 0x8 s (s.setObj p o f v) := by
  unfold State.setObj
  repeat' with_reducible first
    | apply Moves.refl | (apply Moves.via State.setFv_moves; decide)

theorem State.objEvent_moves {s : State} {p o n : Nat} : Moves 0x8 s (s.objEvent p o n) := by
  unfold State.objEvent
  repeat' with_reducible first
    | apply Moves.refl | (apply Moves.via State.irq_moves; decide) | (apply Moves.via State.setReg_moves; decide) | apply Moves.ite
    | intro _

theorem State.setCanState_moves {s : State} {p n : Nat} : Moves 0x8 s (s.setCanState p n) := by
  unfold State.setCanState
  repeat' with_reducible first
    | apply Moves.refl | (apply Moves.via State.setFv_moves; decide)

theorem State.canShow_moves {s : State} {p : Nat} : Moves 0x8 s (s.canShow p) := by
  unfold State.canShow
  repeat' with_reducible first
    | apply Moves.refl | (apply Moves.via State.setFv_moves; decide) | (apply Moves.via State.setFb_moves; decide)
    | (apply Moves.via State.irqIf_moves; decide) | (apply Moves.via State.irq_moves; decide)
    | (apply Moves.via State.satInc_moves; decide) | (apply Moves.via State.setCanState_moves; decide) | apply Moves.ite | intro _

theorem State.canGood_moves {s : State} {p : Nat} {tx : Bool} : Moves 0x400000C s (s.canGood p tx) := by
  unfold State.canGood
  repeat' with_reducible first
    | apply Moves.refl | (apply Moves.via State.canShow_moves; decide) | (apply Moves.via State.setPort_moves; decide)
    | (apply Moves.via State.draw_moves; decide) | apply Moves.ite | intro _

theorem State.setTxBuf_moves {s : State} {p o : Nat} {x : TxBuf} : Moves 0x4000000 s (s.setTxBuf p o x) := by
  unfold State.setTxBuf
  repeat' with_reducible first
    | apply Moves.refl | (apply Moves.via State.setPort_moves; decide)

theorem State.canWakeUp_moves {s : State} : Moves 0x8 s s.canWakeUp := by
  unfold State.canWakeUp
  repeat' with_reducible first
    | apply Moves.refl | (apply Moves.via State.setFv_moves; decide) | (apply Moves.via State.setCanState_moves; decide)
    | apply Moves.ite | intro _

theorem State.sendWakes_moves {s : State} {p : Nat} : Moves 0x8 s (s.sendWakes p) := by
  unfold State.sendWakes
  repeat' with_reducible first
    | apply Moves.refl | (apply Moves.via State.canWakeUp_moves; decide) | apply Moves.ite | intro _

theorem State.queueFrame_moves {s : State} {p o : Nat} {f : CanFrame} : Moves 0x4000008 s (s.queueFrame p o f) := by
  unfold State.queueFrame
  repeat' with_reducible first
    | apply Moves.refl | (apply Moves.via State.setTxBuf_moves; decide) | (apply Moves.via State.setObj_moves; decide)
    | (apply Moves.via State.sendWakes_moves; decide) | apply Moves.ite | intro _

theorem State.cancelled_moves {s : State} {p o : Nat} : Moves 0x4000008 s (s.cancelled p o) := by
  unfold State.cancelled
  repeat' with_reducible first
    | apply Moves.refl | (apply Moves.via State.setObj_moves; decide) | (apply Moves.via State.setTxBuf_moves; decide)

theorem State.cancelObj_moves {s : State} {p o : Nat} : Moves 0x4000008 s (s.cancelObj p o) := by
  unfold State.cancelObj
  repeat' with_reducible first
    | apply Moves.refl | (apply Moves.via State.cancelled_moves; decide) | (apply Moves.via State.setObj_moves; decide)
    | (apply Moves.via State.setTxBuf_moves; decide) | apply Moves.ite | intro _ | apply Moves.foldl | (apply Moves.snd; assumption)
    | (apply Moves.fst; assumption) | apply Moves.idOf | extract_lets | split

theorem State.releaseObj_moves {s : State} {p o : Nat} : Moves 0x8 s (s.releaseObj p o) := by
  unfold State.releaseObj
  repeat' with_reducible first
    | apply Moves.refl | (apply Moves.via State.setObj_moves; decide) | apply Moves.ite | intro _

theorem State.objCtrl_moves {s : State} {p o : Nat} {v : Word} : Moves 0x4000648 s (s.objCtrl p o v) := by
  unfold State.objCtrl
  repeat' with_reducible first
    | apply Moves.refl | (apply Moves.via State.queueFrame_moves; decide) | (apply Moves.via State.clampAt_moves; decide)
    | (apply Moves.via State.cancelObj_moves; decide) | (apply Moves.via State.releaseObj_moves; decide)
    | (apply Moves.via State.setObj_moves; decide) | apply Moves.ite | intro _

theorem State.canSleep_moves {s : State} : Moves 0x4000008 s s.canSleep := by
  unfold State.canSleep
  repeat' with_reducible first
    | apply Moves.refl | (apply Moves.via State.cancelled_moves; decide) | (apply Moves.via State.setFv_moves; decide)
    | (apply Moves.via State.setCanState_moves; decide) | apply Moves.ite | intro _ | apply Moves.foldl

theorem State.objChanged_moves {s : State} {old : State} {p o : Nat} : Moves 0x4000008 s (s.objChanged old p o) := by
  unfold State.objChanged
  repeat' with_reducible first
    | apply Moves.refl | (apply Moves.via State.cancelObj_moves; decide) | (apply Moves.via State.setObj_moves; decide)
    | (apply Moves.via State.setPort_moves; decide) | apply Moves.ite | intro _

theorem State.setHeader_moves {s : State} {p o : Nat} {l : List Word} : Moves 0x8 s (s.setHeader p o l) := by
  unfold State.setHeader
  repeat' with_reducible first
    | apply Moves.refl | (apply Moves.via State.setReg_moves; decide) | apply Moves.ite | intro _ | apply Moves.foldl

theorem State.objCommitted_moves {s : State} {p o : Nat} {old : State} : Moves 0x4000008 s (s.objCommitted p o old) := by
  unfold State.objCommitted
  repeat' with_reducible first
    | apply Moves.refl | (apply Moves.via State.setPort_moves; decide) | (apply Moves.via State.cancelObj_moves; decide)
    | (apply Moves.via State.setHeader_moves; decide) | (apply Moves.via State.objChanged_moves; decide) | apply Moves.ite | intro _

theorem State.objFreed_moves {s : State} {p o : Nat} : Moves 0x4000008 s (s.objFreed p o) := by
  unfold State.objFreed
  repeat' with_reducible first
    | apply Moves.refl | (apply Moves.via State.setTxBuf_moves; decide) | (apply Moves.via State.setPort_moves; decide)
    | (apply Moves.via State.objChanged_moves; decide) | (apply Moves.via State.setHeader_moves; decide)
    | (apply Moves.via State.setObj_moves; decide) | apply Moves.ite | intro _ | apply Moves.foldl | (apply Moves.snd; assumption)
    | (apply Moves.fst; assumption) | apply Moves.idOf | extract_lets | split

theorem State.canTxEnded_moves {s : State} {p o : Nat} : Moves 0x4000008 s (s.canTxEnded p o) := by
  unfold State.canTxEnded
  repeat' with_reducible first
    | apply Moves.refl | (apply Moves.via State.setPort_moves; decide) | (apply Moves.via State.objFreed_moves; decide)
    | (apply Moves.via State.canSleep_moves; decide) | apply Moves.ite | intro _

theorem State.objError_moves {s : State} {p o : Nat} {collision : Bool} : Moves 0x4000008 s (s.objError p o collision) := by
  unfold State.objError
  repeat' with_reducible first
    | apply Moves.refl | (apply Moves.via State.setObj_moves; decide) | (apply Moves.via State.irq_moves; decide)
    | (apply Moves.via State.setFv_moves; decide) | (apply Moves.via State.satInc_moves; decide)
    | (apply Moves.via State.setTxBuf_moves; decide) | (apply Moves.via State.objEvent_moves; decide)
    | (apply Moves.via State.canTxEnded_moves; decide) | apply Moves.ite | intro _

theorem State.canErr_moves {s : State} {p lec : Nat} {dphase : Bool} {field : Nat} {free : Bool} {extra : Nat} :
    Moves 0x4000008 s (s.canErr p lec dphase field free extra) := by
  unfold State.canErr
  extract_lets b s1 src s2 tx x s3
  have h2 : Moves 0x4000008 s s2 := by
    repeat' with_reducible first
      | (apply Moves.via State.setFv_moves; decide) | (apply Moves.via State.irq_moves; decide)
      | (apply Moves.via State.setFb_moves; decide) | (apply Moves.via State.setPort_moves; decide) | apply Moves.refl
  clear_value s2
  have h3 : Moves 0x4000008 s s3 := Moves.ite (fun _ => Moves.via State.setCanState_moves (by decide) h2)
    (fun _ => Moves.via State.canShow_moves (by decide) (Moves.via State.setPort_moves (by decide) h2))
  clear_value s3 tx
  cases tx
  · exact h3
  · exact Moves.via State.objError_moves (by decide) h3

theorem State.storeFrame_moves {s : State} {p o stamp : Nat} {f : CanFrame} : Moves 0x8 s (s.storeFrame p o stamp f) := by
  unfold State.storeFrame
  repeat' with_reducible first
    | apply Moves.refl | (apply Moves.via State.setObj_moves; decide) | (apply Moves.via State.setPageBytes_moves; decide)
    | (apply Moves.via State.setReg_moves; decide) | (apply Moves.via State.setStamp_moves; decide)
    | (apply Moves.via State.objEvent_moves; decide) | apply Moves.ite | intro _

theorem State.pmbTake_moves {s : State} {p n stamp : Nat} {f : CanFrame} : Moves 0x8 s (s.pmbTake p n stamp f) := by
  unfold State.pmbTake
  repeat' with_reducible first
    | apply Moves.refl | (apply Moves.via State.satInc_moves; decide) | (apply Moves.via State.setPageBytes_moves; decide)
    | (apply Moves.via State.setReg_moves; decide) | (apply Moves.via State.setFb_moves; decide)
    | (apply Moves.via State.setFv_moves; decide) | (apply Moves.via State.setStamp_moves; decide)
    | (apply Moves.via State.wrapInc_moves; decide) | (apply Moves.via State.irq_moves; decide) | apply Moves.ite | intro _

theorem State.replyOk_moves {s : State} {p robj stamp : Nat} : Moves 0x4000008 s (s.replyOk p robj stamp) := by
  unfold State.replyOk
  repeat' with_reducible first
    | apply Moves.refl | (apply Moves.via State.objEvent_moves; decide) | (apply Moves.via State.setObj_moves; decide)
    | (apply Moves.via State.setPort_moves; decide) | apply Moves.ite | intro _ | apply Moves.foldl

theorem State.canReceive_moves {s : State} {p stamp : Nat} {f : CanFrame} : Moves 0x400000C s (s.canReceive p stamp f).1 := by
  unfold State.canReceive
  repeat' with_reducible first
    | apply Moves.refl | (apply Moves.via State.setCanState_moves; decide) | (apply Moves.via State.setPort_moves; decide)
    | (apply Moves.via State.canErr_moves; decide) | (apply Moves.via State.canGood_moves; decide)
    | (apply Moves.via State.pmbTake_moves; decide) | (apply Moves.via State.setObj_moves; decide)
    | (apply Moves.via State.replyOk_moves; decide) | (apply Moves.via State.storeFrame_moves; decide)
    | (apply Moves.via State.satInc_moves; decide) | apply Moves.ite | intro _ | apply Moves.foldl | (apply Moves.snd; assumption)
    | (apply Moves.fst; assumption) | apply Moves.idOf | extract_lets | split

theorem State.pmbRelease_moves {s : State} {p n : Nat} : Moves 0x8 s (s.pmbRelease p n) := by
  unfold State.pmbRelease
  repeat' with_reducible first
    | apply Moves.refl | (apply Moves.via State.setFv_moves; decide)

theorem State.timingApply_moves {s : State} {p : Nat} : Moves 0x4000008 s (s.timingApply p) := by
  unfold State.timingApply
  repeat' with_reducible first
    | apply Moves.refl | (apply Moves.via State.setPort_moves; decide) | (apply Moves.via State.setCanState_moves; decide)
    | apply Moves.ite | intro _

theorem State.canWoken_moves {s : State} {cause : Nat} : Moves 0x2008 s (s.canWoken cause) := by
  unfold State.canWoken
  repeat' with_reducible first
    | apply Moves.refl | (apply Moves.via State.irq_moves; decide) | (apply Moves.via State.setFv_moves; decide)
    | (apply Moves.via State.wakeSource_moves; decide) | (apply Moves.via State.canWakeUp_moves; decide) | apply Moves.ite | intro _

theorem State.canCtrl_moves {s : State} {p : Nat} {v : Word} {before : Bool} : Moves 0x4000648 s (s.canCtrl p v before) := by
  unfold State.canCtrl
  repeat' with_reducible first
    | apply Moves.refl | (apply Moves.via State.setCanState_moves; decide) | (apply Moves.via State.clampAt_moves; decide)
    | (apply Moves.via State.setFv_moves; decide) | (apply Moves.via State.canSleep_moves; decide)
    | (apply Moves.via State.canWakeUp_moves; decide) | apply Moves.ite | intro _

theorem State.alhHeaders_moves {s : State} : Moves 0x8 s s.alhHeaders := by
  unfold State.alhHeaders
  repeat' with_reducible first
    | apply Moves.refl | (apply Moves.via State.setReg_moves; decide) | (apply Moves.via State.setObj_moves; decide) | apply Moves.ite
    | intro _ | apply Moves.foldl

theorem State.alhObjects_moves {s : State} : Moves 0x4000008 s s.alhObjects := by
  unfold State.alhObjects
  repeat' with_reducible first
    | apply Moves.refl | (apply Moves.via State.objCommitted_moves; decide) | (apply Moves.via State.alhHeaders_moves; decide)
    | apply Moves.ite | intro _ | apply Moves.foldl

theorem State.canStart_moves {s : State} {p : Nat} {off : Bool} : Moves 0x4000008 s (s.canStart p off) := by
  unfold State.canStart
  repeat' with_reducible first
    | apply Moves.refl | (apply Moves.via State.setPort_moves; decide) | (apply Moves.via State.setObj_moves; decide)
    | (apply Moves.via State.setFb_moves; decide) | (apply Moves.via State.setCanState_moves; decide) | apply Moves.ite | intro _
    | apply Moves.foldl

theorem execCanTxStart_moves {t : Nat} {port : Fin 2} {tdcv : Nat} {s : State} :
    MovesNext 0x4800009 s (execCanTxStart t port tdcv s) := by
  unfold execCanTxStart
  repeat' with_reducible first
    | apply Moves.refl | (apply Moves.via State.at_moves; decide) | apply MovesNext.next
    | (apply Moves.via State.setPort_moves; decide) | (apply Moves.via State.setObj_moves; decide)
    | (apply Moves.via State.setTxBuf_moves; decide) | (apply Moves.via State.setFv_moves; decide) | apply MovesNext.ite
    | apply Moves.ite | intro _ | apply Moves.foldl | apply Moves.idOf | extract_lets | split

theorem execCanTxSuccess_moves {t : Nat} {port : Fin 2} {s : State} : MovesNext 0x480000D s (execCanTxSuccess t port s) := by
  unfold execCanTxSuccess
  repeat' with_reducible first
    | apply Moves.refl | (apply Moves.via State.at_moves; decide) | apply MovesNext.next
    | (apply Moves.via State.setStamp_moves; decide) | (apply Moves.via State.setObj_moves; decide)
    | (apply Moves.via State.canGood_moves; decide) | (apply Moves.via State.objEvent_moves; decide)
    | (apply Moves.via State.setPort_moves; decide) | (apply Moves.via State.canTxEnded_moves; decide) | apply MovesNext.ite
    | apply Moves.ite | intro _ | apply Moves.foldl | apply Moves.idOf | extract_lets | split

theorem execArbitrationLost_moves {t : Nat} {port : Fin 2} {s : State} : MovesNext 0x4800009 s (execArbitrationLost t port s) := by
  unfold execArbitrationLost
  repeat' with_reducible first
    | apply Moves.refl | (apply Moves.via State.at_moves; decide) | apply MovesNext.next
    | (apply Moves.via State.setTxBuf_moves; decide) | (apply Moves.via State.cancelled_moves; decide)
    | (apply Moves.via State.setObj_moves; decide) | (apply Moves.via State.canTxEnded_moves; decide) | apply MovesNext.ite
    | apply Moves.ite | intro _ | apply Moves.foldl | apply Moves.idOf | extract_lets | split

theorem execCanError_moves {t : Nat} {port : Fin 2} {lec : Nat} {dphase : Bool} {field : Nat} {free : Bool} {extra : Nat} {s : State} :
    MovesNext 0x4800009 s (execCanError t port lec dphase field free extra s) := by
  unfold execCanError
  repeat' with_reducible first
    | apply Moves.refl | (apply Moves.via State.at_moves; decide) | apply MovesNext.next
    | (apply Moves.via State.canErr_moves; decide) | apply MovesNext.ite | apply Moves.ite | intro _

theorem execDominantTimeout_moves {t : Nat} {port : Fin 2} {s : State} : MovesNext 0x4800009 s (execDominantTimeout t port s) := by
  unfold execDominantTimeout
  repeat' with_reducible first
    | apply Moves.refl | (apply Moves.via State.at_moves; decide) | apply MovesNext.next
    | (apply Moves.via State.canErr_moves; decide) | apply MovesNext.ite | apply Moves.ite | intro _

theorem execRecoveryComplete_moves {t : Nat} {port : Fin 2} {s : State} : MovesNext 0x4800009 s (execRecoveryComplete t port s) := by
  unfold execRecoveryComplete
  repeat' with_reducible first
    | apply Moves.refl | (apply Moves.via State.at_moves; decide) | apply MovesNext.next
    | (apply Moves.via State.canShow_moves; decide) | (apply Moves.via State.setPort_moves; decide)
    | (apply Moves.via State.setCanState_moves; decide) | apply MovesNext.ite | apply Moves.ite | intro _

theorem execReplyTimeout_moves {t : Nat} {port : Fin 2} {object : Fin 128} {s : State} :
    MovesNext 0x4800009 s (execReplyTimeout t port object s) := by
  unfold execReplyTimeout
  repeat' with_reducible first
    | apply Moves.refl | (apply Moves.via State.at_moves; decide) | apply MovesNext.next
    | (apply Moves.via State.objEvent_moves; decide) | (apply Moves.via State.setObj_moves; decide)
    | (apply Moves.via State.setPort_moves; decide) | apply MovesNext.ite | apply Moves.ite | intro _ | apply Moves.foldl
    | apply Moves.idOf | extract_lets | split

theorem execTimingApply_moves {t : Nat} {port : Fin 2} {s : State} : MovesNext 0x4800009 s (execTimingApply t port s) := by
  unfold execTimingApply
  repeat' with_reducible first
    | apply Moves.refl | (apply Moves.via State.at_moves; decide) | apply MovesNext.next
    | (apply Moves.via State.timingApply_moves; decide) | apply MovesNext.ite | apply Moves.ite | intro _

theorem execIntegrationComplete_moves {t : Nat} {port : Fin 2} {s : State} : MovesNext 0x800009 s (execIntegrationComplete t port s) := by
  unfold execIntegrationComplete
  repeat' with_reducible first
    | apply Moves.refl | (apply Moves.via State.at_moves; decide) | apply MovesNext.next
    | (apply Moves.via State.canShow_moves; decide) | (apply Moves.via State.setCanState_moves; decide) | apply MovesNext.ite
    | apply Moves.ite | intro _

theorem execCanWake_moves {t : Nat} {sign : WakeSign} {s : State} : MovesNext 0x802009 s (execCanWake t sign s) := by
  unfold execCanWake
  repeat' with_reducible first
    | apply Moves.refl | (apply Moves.via State.at_moves; decide) | apply MovesNext.next
    | (apply Moves.via State.canWoken_moves; decide) | (apply Moves.via State.setFv_moves; decide) | apply MovesNext.ite
    | apply Moves.ite | intro _ | apply Moves.foldl | apply Moves.idOf | extract_lets | split

end Sys2Proof.Machine
end

