-- ==== Sys2Proof/Laws/MovesFbeQueue.lean ====
section
/-! SUPPORT. What the operations of Machine/FbeQueue.lean leave as it was (Laws/Moves.lean). -/

namespace Sys2Proof.Machine

open Sys2Proof

theorem State.setTask_moves {s : State} {n : Nat} {x : Task} : Moves 0x200000 s (s.setTask n x) := by
  unfold State.setTask
  repeat' with_reducible first
    | apply Moves.refl | apply Moves.ite | intro _ | apply Moves.foldl | (apply Moves.snd; assumption) | (apply Moves.fst; assumption)
    | apply Moves.idOf | fail_if_no_progress (apply Moves.fbe; decide)

theorem State.taskSeen_moves {s : State} {n : Nat} : Moves 0x20000000 s (s.taskSeen n) := by
  unfold State.taskSeen
  repeat' with_reducible first
    | apply Moves.refl | (apply Moves.via State.failsUntil_moves; decide)

theorem State.fbeTrigger_moves {s : State} {n stamp : Nat} : Moves 0x200008 s (s.fbeTrigger n stamp) := by
  unfold State.fbeTrigger
  repeat' with_reducible first
    | apply Moves.refl | (apply Moves.via State.irq_moves; decide) | (apply Moves.via State.satInc_moves; decide)
    | (apply Moves.via State.setFv_moves; decide) | (apply Moves.via State.setTask_moves; decide) | apply Moves.ite | intro _

end Sys2Proof.Machine
end

