-- ==== Sys2Proof/Laws/MovesAlhView.lean ====
section
/-! SUPPORT. What the operations of Machine/AlhView.lean leave as it was (Laws/Moves.lean). -/

namespace Sys2Proof.Machine

open Sys2Proof

theorem State.setGroup_moves {s : State} {g : Nat} {x : Group} : Moves 0x100000 s (s.setGroup g x) := by
  unfold State.setGroup
  repeat' with_reducible first
    | apply Moves.refl | apply Moves.ite | intro _ | apply Moves.foldl | (apply Moves.snd; assumption) | (apply Moves.fst; assumption)
    | apply Moves.idOf | fail_if_no_progress (apply Moves.alh; decide)

end Sys2Proof.Machine
end

