-- ==== Sys2Proof/Laws/MovesSto.lean ====
section
/-! SUPPORT. What the operations of Machine/Sto.lean leave as it was (Laws/Moves.lean). -/

namespace Sys2Proof.Machine

open Sys2Proof

theorem State.scrubSet_moves {s : State} {on : Bool} : Moves 0x40008 s (s.scrubSet on) := by
  unfold State.scrubSet
  repeat' with_reducible first
    | apply Moves.refl | (apply Moves.via State.setFb_moves; decide) | apply Moves.ite | intro _ | apply Moves.foldl
    | (apply Moves.snd; assumption) | (apply Moves.fst; assumption) | apply Moves.idOf | fail_if_no_progress (apply Moves.sto; decide)

theorem State.stoCtrl_moves {s : State} {v : Word} : Moves 0x40008 s (s.stoCtrl v) := by
  unfold State.stoCtrl
  repeat' with_reducible first
    | apply Moves.refl | (apply Moves.via State.setFv_moves; decide) | (apply Moves.via State.setReg_moves; decide)
    | (apply Moves.via State.scrubSet_moves; decide) | apply Moves.ite | intro _

theorem State.spareShow_moves {s : State} : Moves 0x8 s s.spareShow := by
  unfold State.spareShow
  repeat' with_reducible first
    | apply Moves.refl | (apply Moves.via State.setFv_moves; decide) | (apply Moves.via State.irqIf_moves; decide)
    | (apply Moves.via State.setFb_moves; decide)

theorem State.stoSweep_moves {s : State} {len conflict shelf : Nat} : Moves 0x4C180C s (s.stoSweep len conflict shelf) := by
  unfold State.stoSweep
  repeat' with_reducible first
    | apply Moves.refl | (apply Moves.via State.setFv_moves; decide) | (apply Moves.via State.sourceWrite_moves; decide)
    | (apply Moves.via State.sysTrigger_moves; decide) | (apply Moves.via State.irq_moves; decide) | apply Moves.ite | intro _
    | apply Moves.foldl | (apply Moves.snd; assumption) | (apply Moves.fst; assumption) | apply Moves.idOf
    | fail_if_no_progress (apply Moves.sto; decide)

theorem State.stoCopy_moves {s : State} {x : Tally} {upto : Nat} : Moves 0x5800 s (s.stoCopy x upto) := by
  unfold State.stoCopy
  repeat' with_reducible first
    | apply Moves.refl | (apply Moves.via State.tallyRefused_moves; decide) | (apply Moves.via State.wrBytes_moves; decide)
    | (apply Moves.via State.curePoison_moves; decide) | (apply Moves.via State.tallyEnds_moves; decide)
    | (apply Moves.via State.tallyProgress_moves; decide) | (apply Moves.via State.tallyDone_moves; decide) | apply Moves.ite
    | intro _ | apply Moves.foldl | (apply Moves.snd; assumption) | (apply Moves.fst; assumption) | apply Moves.idOf | extract_lets
    | split

theorem State.stoFill_moves {s : State} {x : Tally} {upto : Nat} : Moves 0x5800 s (s.stoFill x upto) := by
  unfold State.stoFill
  repeat' with_reducible first
    | apply Moves.refl | (apply Moves.via State.tallyRefused_moves; decide) | (apply Moves.via State.wrBytes_moves; decide)
    | (apply Moves.via State.curePoison_moves; decide) | (apply Moves.via State.tallyProgress_moves; decide)
    | (apply Moves.via State.tallyDone_moves; decide) | apply Moves.ite | intro _

theorem State.stoVerify_moves {s : State} {x : Tally} {upto : Nat} {ecc : EccFinds} : Moves 0x45008 s (s.stoVerify x upto ecc) := by
  unfold State.stoVerify
  repeat' with_reducible first
    | apply Moves.refl | (apply Moves.via State.tallyRefused_moves; decide) | (apply Moves.via State.satInc_moves; decide)
    | (apply Moves.via State.eccFinds_moves; decide) | (apply Moves.via State.tallyProgress_moves; decide)
    | (apply Moves.via State.tallyDone_moves; decide) | apply Moves.ite | intro _

theorem State.rekeyBegins_moves {s : State} : Moves 0x40004 s s.rekeyBegins := by
  unfold State.rekeyBegins
  repeat' with_reducible first
    | apply Moves.refl | (apply Moves.via State.drawNewKey_moves; decide) | apply Moves.ite | intro _ | apply Moves.foldl

theorem State.rekeyMoves_moves {s : State} {upto : Nat} : Moves 0xC000C s (s.rekeyMoves upto) := by
  unfold State.rekeyMoves
  repeat' with_reducible first
    | apply Moves.refl | (apply Moves.via State.squash_moves; decide) | apply Moves.ite | intro _ | apply Moves.foldl
    | (apply Moves.snd; assumption) | (apply Moves.fst; assumption) | apply Moves.idOf | fail_if_no_progress (apply Moves.sto; decide)

theorem State.rekeyDone_moves {s : State} : Moves 0x40000 s s.rekeyDone := by
  unfold State.rekeyDone
  repeat' with_reducible first
    | apply Moves.refl | apply Moves.ite | intro _ | apply Moves.foldl | (apply Moves.snd; assumption) | (apply Moves.fst; assumption)
    | apply Moves.idOf | fail_if_no_progress (apply Moves.sto; decide)

theorem State.rekeyStops_moves {s : State} : Moves 0x4000C s s.rekeyStops := by
  unfold State.rekeyStops
  repeat' with_reducible first
    | apply Moves.refl | (apply Moves.via State.setFv_moves; decide) | (apply Moves.via State.rekeyBegins_moves; decide)

theorem State.stoStart_moves {s : State} : Moves 0x40008 s s.stoStart := by
  unfold State.stoStart
  repeat' with_reducible first
    | apply Moves.refl | (apply Moves.via State.setFb_moves; decide) | (apply Moves.via State.spareShow_moves; decide)
    | apply Moves.ite | intro _ | apply Moves.foldl | (apply Moves.snd; assumption) | (apply Moves.fst; assumption) | apply Moves.idOf
    | fail_if_no_progress (apply Moves.sto; decide)

theorem execScrubPassEnd_moves {t : Nat} {ecc : EccFinds} {s : State} : MovesNext 0x841009 s (execScrubPassEnd t ecc s) := by
  unfold execScrubPassEnd
  repeat' with_reducible first
    | apply Moves.refl | (apply Moves.via State.at_moves; decide) | apply MovesNext.next
    | (apply Moves.via State.eccFinds_moves; decide) | (apply Moves.via State.irq_moves; decide)
    | (apply Moves.via State.scrubSet_moves; decide) | apply MovesNext.ite | apply Moves.ite | intro _

theorem execRowSpare_moves {t : Nat} {shelf : Fin 16} {ecc : EccFinds} {s : State} :
    MovesNext 0x841009 s (execRowSpare t shelf ecc s) := by
  unfold execRowSpare
  repeat' with_reducible first
    | apply Moves.refl | (apply Moves.via State.at_moves; decide) | apply MovesNext.next
    | (apply Moves.via State.eccFinds_moves; decide) | (apply Moves.via State.spareShow_moves; decide) | apply MovesNext.ite
    | apply Moves.ite | intro _ | apply Moves.foldl | (apply Moves.snd; assumption) | (apply Moves.fst; assumption) | apply Moves.idOf
    | fail_if_no_progress (apply Moves.sto; decide) | extract_lets | split

theorem execWearMove_moves {t wear : Nat} {s : State} : MovesNext 0x800009 s (execWearMove t wear s) := by
  unfold execWearMove
  repeat' with_reducible first
    | apply Moves.refl | (apply Moves.via State.at_moves; decide) | apply MovesNext.next | (apply Moves.via State.setFv_moves; decide)
    | apply MovesNext.ite | apply Moves.ite | intro _

theorem execNoticeClear_moves {t : Nat} {s : State} : MovesNext 0x800009 s (execNoticeClear t s) := by
  unfold execNoticeClear
  repeat' with_reducible first
    | apply Moves.refl | (apply Moves.via State.at_moves; decide) | apply MovesNext.next | (apply Moves.via State.setFv_moves; decide)
    | apply MovesNext.ite | apply Moves.ite | intro _

theorem execStoCopy_moves {t tally upto : Nat} {ecc : EccFinds} {s : State} : MovesNext 0x845809 s (execStoCopy t tally upto ecc s) := by
  unfold execStoCopy
  repeat' with_reducible first
    | apply Moves.refl | (apply Moves.via State.at_moves; decide) | apply MovesNext.next
    | (apply Moves.via State.stoCopy_moves; decide) | (apply Moves.via State.eccFinds_moves; decide)
    | (apply State.lateStop_moves; decide) | apply MovesNext.ite | apply Moves.ite | intro _ | apply Moves.foldl
    | (apply Moves.snd; assumption) | (apply Moves.fst; assumption) | apply Moves.idOf | extract_lets | split

theorem execStoFill_moves {t tally upto : Nat} {s : State} : MovesNext 0x805801 s (execStoFill t tally upto s) := by
  unfold execStoFill
  repeat' with_reducible first
    | apply Moves.refl | (apply Moves.via State.at_moves; decide) | apply MovesNext.next
    | (apply Moves.via State.stoFill_moves; decide) | (apply State.lateStop_moves; decide) | apply MovesNext.ite | apply Moves.ite
    | intro _ | apply Moves.foldl | (apply Moves.snd; assumption) | (apply Moves.fst; assumption) | apply Moves.idOf | extract_lets
    | split

theorem execStoVerify_moves {t tally upto : Nat} {ecc : EccFinds} {s : State} :
    MovesNext 0x845009 s (execStoVerify t tally upto ecc s) := by
  unfold execStoVerify
  repeat' with_reducible first
    | apply Moves.refl | (apply Moves.via State.at_moves; decide) | apply MovesNext.next
    | (apply Moves.via State.stoVerify_moves; decide) | (apply State.lateStop_moves; decide) | apply MovesNext.ite | apply Moves.ite
    | intro _ | apply Moves.foldl | (apply Moves.snd; assumption) | (apply Moves.fst; assumption) | apply Moves.idOf | extract_lets
    | split

theorem execStoRekey_moves {t tally upto : Nat} {ecc : EccFinds} {s : State} :
    MovesNext 0x8C500D s (execStoRekey t tally upto ecc s) := by
  unfold execStoRekey
  repeat' with_reducible first
    | apply Moves.refl | (apply Moves.via State.at_moves; decide) | apply MovesNext.next
    | (apply Moves.via State.tallyProgress_moves; decide) | (apply Moves.via State.rekeyMoves_moves; decide)
    | (apply Moves.via State.rekeyBegins_moves; decide) | (apply Moves.via State.eccFinds_moves; decide)
    | (apply Moves.via State.wrapInc_moves; decide) | (apply Moves.via State.rekeyDone_moves; decide)
    | (apply Moves.via State.irq_moves; decide) | (apply Moves.via State.setFv_moves; decide)
    | (apply Moves.via State.tallyDone_moves; decide) | (apply State.lateStop_moves; decide)
    | (apply Moves.via State.rekeyStops_moves; decide) | apply MovesNext.ite | apply Moves.ite | intro _ | apply Moves.foldl
    | apply Moves.idOf | extract_lets | split

end Sys2Proof.Machine
end

