-- ==== Sys2Proof/Laws/MovesDyn.lean ====
section
/-! SUPPORT. What the operations of Machine/Dyn.lean leave as it was (Laws/Moves.lean). -/

namespace Sys2Proof.Machine

open Sys2Proof

theorem State.dynShow_moves {s : State} {ch : Nat} : Moves 0x9180C s (s.dynShow ch) := by
  unfold State.dynShow
  repeat' with_reducible first
    | apply Moves.refl | (apply Moves.via State.irqIf_moves; decide) | (apply Moves.via State.setFv_moves; decide)
    | (apply Moves.via State.planesFollow_moves; decide) | (apply Moves.via State.sourceQuality_moves; decide)
    | (apply Moves.via State.setDch_moves; decide)

theorem State.speedShow_moves {s : State} {ch : Nat} : Moves 0x8180C s (s.speedShow ch) := by
  unfold State.speedShow
  repeat' with_reducible first
    | apply Moves.refl | (apply Moves.via State.planesFollow_moves; decide) | (apply Moves.via State.sourceQuality_moves; decide)

theorem State.dynSettle_moves {s : State} {ch : Nat} : Moves 0x10008 s (s.dynSettle ch) := by
  unfold State.dynSettle
  repeat' with_reducible first
    | apply Moves.refl | (apply Moves.via State.setDch_moves; decide) | (apply Moves.via State.setFv_moves; decide)

theorem State.dynFaults_moves {s : State} {ch mask bits : Nat} : Moves 0x10008 s (s.dynFaults ch mask bits) := by
  unfold State.dynFaults
  repeat' with_reducible first
    | apply Moves.refl | (apply Moves.via State.setFv_moves; decide) | (apply Moves.via State.irqIf_moves; decide)
    | (apply Moves.via State.setDch_moves; decide) | (apply Moves.via State.dynSettle_moves; decide) | apply Moves.ite | intro _

theorem State.dynAvdd_moves {s : State} {ch : Nat} : Moves 0x10008 s (s.dynAvdd ch) := by
  unfold State.dynAvdd
  repeat' with_reducible first
    | apply Moves.refl | (apply Moves.via State.dynFaults_moves; decide) | apply Moves.ite | intro _

theorem State.dynDisc_moves {s : State} {ch : Nat} : Moves 0x9180C s (s.dynDisc ch) := by
  unfold State.dynDisc
  repeat' with_reducible first
    | apply Moves.refl | (apply Moves.via State.setDch_moves; decide) | (apply Moves.via State.setFv_moves; decide)
    | (apply Moves.via State.speedShow_moves; decide) | (apply Moves.via State.dynFaults_moves; decide) | apply Moves.ite | intro _

theorem State.levelSample_moves {s : State} {ch : Nat} {code : Int} {disc inv : Bool} :
    Moves 0x10000 s (s.levelSample ch code disc inv) := by
  unfold State.levelSample
  repeat' with_reducible first
    | apply Moves.refl | (apply Moves.via State.setDch_moves; decide) | apply Moves.ite | intro _

theorem State.edgeSample_moves {s : State} {ch : Nat} {code : Int} : Moves 0x10000 s (s.edgeSample ch code) := by
  unfold State.edgeSample
  repeat' with_reducible first
    | apply Moves.refl | (apply Moves.via State.setDch_moves; decide) | apply Moves.ite | intro _ | apply Moves.foldl
    | (apply Moves.snd; assumption) | (apply Moves.fst; assumption) | apply Moves.idOf | extract_lets | split

theorem State.storeSample_moves {s : State} {ch : Nat} {disc : Bool} {x : DynCh} {w : Nat} :
    Moves 0x31808 s (s.storeSample ch disc x w) := by
  unfold State.storeSample
  repeat' with_reducible first
    | apply Moves.refl | (apply Moves.via State.setStamp_moves; decide) | (apply Moves.via State.setFv_moves; decide)
    | (apply Moves.via State.setDch_moves; decide) | (apply Moves.via State.setPlane_moves; decide)
    | (apply Moves.via State.nodeWriteLe_moves; decide) | (apply Moves.via State.setFb_moves; decide)
    | (apply Moves.via State.wrapInc_moves; decide) | apply Moves.ite | intro _

theorem State.judgeSample_moves {s : State} {ch : Nat} {clip cm : Bool} : Moves 0x10008 s (s.judgeSample ch clip cm) := by
  unfold State.judgeSample
  repeat' with_reducible first
    | apply Moves.refl | (apply Moves.via State.satInc_moves; decide) | (apply Moves.via State.setDch_moves; decide)
    | (apply Moves.via State.dynAvdd_moves; decide) | (apply Moves.via State.dynFaults_moves; decide) | apply Moves.ite | intro _

theorem State.mergeSample_moves {s : State} {ch : Nat} {v0 v30 : Int} {gerr oerr : Q} {over30 clip : Bool} :
    Moves 0xB180C s (s.mergeSample ch v0 v30 gerr oerr over30 clip) := by
  unfold State.mergeSample
  repeat' with_reducible first
    | apply Moves.refl | (apply Moves.via State.setFv_moves; decide) | (apply Moves.via State.storeSample_moves; decide)
    | (apply Moves.via State.dynShow_moves; decide) | (apply Moves.via State.zoomSample_moves; decide)
    | (apply Moves.via State.edgeSample_moves; decide) | (apply Moves.via State.levelSample_moves; decide)

theorem State.tachoEnter_moves {s : State} {ch st : Nat} : Moves 0x9180C s (s.tachoEnter ch st) := by
  unfold State.tachoEnter
  repeat' with_reducible first
    | apply Moves.refl | (apply Moves.via State.setFv_moves; decide) | (apply Moves.via State.setDch_moves; decide)
    | (apply Moves.via State.irqIf_moves; decide) | (apply Moves.via State.speedShow_moves; decide)
    | (apply Moves.via State.dynFaults_moves; decide) | apply Moves.ite | intro _

theorem State.tachoInterval_moves {s : State} {ch e i : Nat} : Moves 0x9180C s (s.tachoInterval ch e i) := by
  unfold State.tachoInterval
  repeat' with_reducible first
    | apply Moves.refl | (apply Moves.via State.setDch_moves; decide) | (apply Moves.via State.setFv_moves; decide)
    | (apply Moves.via State.tachoEnter_moves; decide) | (apply Moves.via State.sourceWrite_moves; decide) | apply Moves.ite | intro _

theorem State.tachoLost_moves {s : State} {ch : Nat} : Moves 0x9180C s (s.tachoLost ch) := by
  unfold State.tachoLost
  repeat' with_reducible first
    | apply Moves.refl | (apply Moves.via State.tachoEnter_moves; decide) | (apply Moves.via State.setDch_moves; decide)

theorem State.dynIdlePoints_moves {s : State} {ch : Nat} : Moves 0x9180C s (s.dynIdlePoints ch) := by
  unfold State.dynIdlePoints
  repeat' with_reducible first
    | apply Moves.refl | (apply Moves.via State.dynShow_moves; decide) | (apply Moves.via State.sourceWrite_moves; decide)
    | (apply Moves.via State.speedShow_moves; decide) | apply Moves.ite | intro _

theorem State.dynEnters_moves {s : State} {ch : Nat} : Moves 0x10008 s (s.dynEnters ch) := by
  unfold State.dynEnters
  repeat' with_reducible first
    | apply Moves.refl | (apply Moves.via State.dynFaults_moves; decide) | apply Moves.ite | intro _

theorem State.dynPowered_moves {s : State} {held speed : Bool} : Moves 0x9180C s (s.dynPowered held speed) := by
  unfold State.dynPowered
  repeat' with_reducible first
    | apply Moves.refl | (apply Moves.via State.lapse_moves; decide) | (apply Moves.via State.setFb_moves; decide)
    | (apply Moves.via State.setDch_moves; decide) | (apply Moves.via State.setFv_moves; decide)
    | (apply Moves.via State.dynSettle_moves; decide) | (apply Moves.via State.dynEnters_moves; decide)
    | (apply Moves.via State.dynIdlePoints_moves; decide) | apply Moves.ite | intro _ | apply Moves.foldl

theorem State.dynStopped_moves {s : State} : Moves 0x9180C s s.dynStopped := by
  unfold State.dynStopped
  repeat' with_reducible first
    | apply Moves.refl | (apply Moves.via State.setDch_moves; decide) | (apply Moves.via State.sourceQuality_moves; decide)
    | apply Moves.ite | intro _ | apply Moves.foldl

theorem State.dynOff_moves {s : State} : Moves 0x9180C s s.dynOff := by
  unfold State.dynOff
  repeat' with_reducible first
    | apply Moves.refl | (apply Moves.via State.dynIdlePoints_moves; decide) | (apply Moves.via State.dynStopped_moves; decide)
    | apply Moves.ite | intro _ | apply Moves.foldl

theorem State.dynAvddLost_moves {s : State} : Moves 0x9180C s s.dynAvddLost := by
  unfold State.dynAvddLost
  repeat' with_reducible first
    | apply Moves.refl | (apply Moves.via State.irq_moves; decide) | (apply Moves.via State.setFb_moves; decide)
    | (apply Moves.via State.dynShow_moves; decide) | (apply Moves.via State.dynFaults_moves; decide) | apply Moves.ite | intro _
    | apply Moves.foldl

theorem State.dynAvddBack_moves {s : State} : Moves 0x9180C s s.dynAvddBack := by
  unfold State.dynAvddBack
  repeat' with_reducible first
    | apply Moves.refl | (apply Moves.via State.dynShow_moves; decide) | (apply Moves.via State.dynDisc_moves; decide)
    | (apply Moves.via State.setFb_moves; decide) | apply Moves.ite | intro _ | apply Moves.foldl

theorem State.dynChCommitted_moves {s : State} {old : State} {ch : Nat} : Moves 0x9180C s (s.dynChCommitted old ch) := by
  unfold State.dynChCommitted
  repeat' with_reducible first
    | apply Moves.refl | (apply Moves.via State.setFv_moves; decide) | (apply Moves.via State.setDch_moves; decide)
    | (apply Moves.via State.dynEnters_moves; decide) | (apply Moves.via State.dynDisc_moves; decide)
    | (apply Moves.via State.dynSettle_moves; decide) | (apply Moves.via State.dynIdlePoints_moves; decide) | apply Moves.ite
    | intro _

theorem State.dynCommitted_moves {s : State} {old : State} {ch : Nat} : Moves 0x9180C s (s.dynCommitted old ch) := by
  unfold State.dynCommitted
  repeat' with_reducible first
    | apply Moves.refl | (apply Moves.via State.dynChCommitted_moves; decide) | (apply Moves.via State.dynPowered_moves; decide)
    | (apply Moves.via State.dynOff_moves; decide) | apply Moves.ite | intro _

theorem execChannelSettled_moves {t : Nat} {ch : Fin 16} {s : State} : MovesNext 0x89180D s (execChannelSettled t ch s) := by
  unfold execChannelSettled
  repeat' with_reducible first
    | apply Moves.refl | (apply Moves.via State.at_moves; decide) | apply MovesNext.next
    | (apply Moves.via State.dynShow_moves; decide) | (apply Moves.via State.dynAvdd_moves; decide)
    | (apply Moves.via State.setFv_moves; decide) | (apply Moves.via State.setDch_moves; decide) | apply MovesNext.ite
    | apply Moves.ite | intro _ | apply Moves.foldl | apply Moves.idOf | extract_lets | split

theorem execBiasMonitor_moves {t : Nat} {ch : Fin 16} {volts vsx : Q} {compliance : Bool} {s : State} :
    MovesNext 0x89180D s (execBiasMonitor t ch volts vsx compliance s) := by
  unfold execBiasMonitor
  repeat' with_reducible first
    | apply Moves.refl | (apply Moves.via State.at_moves; decide) | apply MovesNext.next | (apply Moves.via State.setFv_moves; decide)
    | (apply Moves.via State.setFb_moves; decide) | (apply Moves.via State.dynShow_moves; decide)
    | (apply Moves.via State.dynFaults_moves; decide) | apply MovesNext.ite | apply Moves.ite | intro _

theorem execDynSample_moves {t : Nat} {ch : Fin 16} {v0 v30 : Int} {gerr oerr : Q} {over30 clip cm : Bool} {s : State} :
    MovesNext 0x8B180D s (execDynSample t ch v0 v30 gerr oerr over30 clip cm s) := by
  unfold execDynSample
  repeat' with_reducible first
    | apply Moves.refl | (apply Moves.via State.at_moves; decide) | apply MovesNext.next
    | (apply Moves.via State.mergeSample_moves; decide) | (apply Moves.via State.judgeSample_moves; decide) | apply MovesNext.ite
    | apply Moves.ite | intro _

theorem execOverallLevel_moves {t : Nat} {ch : Fin 16} {s : State} : MovesNext 0x89180D s (execOverallLevel t ch s) := by
  unfold execOverallLevel
  repeat' with_reducible first
    | apply Moves.refl | (apply Moves.via State.at_moves; decide) | apply MovesNext.next
    | (apply Moves.via State.setDch_moves; decide) | (apply Moves.via State.dynShow_moves; decide)
    | (apply Moves.via State.setFv_moves; decide) | (apply Moves.via State.dynFaults_moves; decide)
    | (apply Moves.via State.sourceWrite_moves; decide) | apply MovesNext.ite | apply Moves.ite | intro _

theorem execOverallStale_moves {t : Nat} {ch : Fin 16} {s : State} : MovesNext 0x89180D s (execOverallStale t ch s) := by
  unfold execOverallStale
  repeat' with_reducible first
    | apply Moves.refl | (apply Moves.via State.at_moves; decide) | apply MovesNext.next
    | (apply Moves.via State.dynShow_moves; decide) | (apply Moves.via State.dynFaults_moves; decide) | apply MovesNext.ite
    | apply Moves.ite | intro _ | apply Moves.foldl | apply Moves.idOf | extract_lets | split

theorem execTachoEdge_moves {t : Nat} {ch : Fin 16} {s : State} : MovesNext 0x89180D s (execTachoEdge t ch s) := by
  unfold execTachoEdge
  repeat' with_reducible first
    | apply Moves.refl | (apply Moves.via State.at_moves; decide) | apply MovesNext.next
    | (apply Moves.via State.nodeWrite_moves; decide) | (apply Moves.via State.setDch_moves; decide)
    | (apply Moves.via State.wrapInc_moves; decide) | (apply Moves.via State.tachoLost_moves; decide)
    | (apply Moves.via State.tachoInterval_moves; decide) | apply MovesNext.ite | apply Moves.ite | intro _ | apply Moves.foldl
    | (apply Moves.snd; assumption) | (apply Moves.fst; assumption) | apply Moves.idOf | extract_lets | split

theorem execTachoDeadline_moves {t : Nat} {ch : Fin 16} {s : State} : MovesNext 0x89180D s (execTachoDeadline t ch s) := by
  unfold execTachoDeadline
  repeat' with_reducible first
    | apply Moves.refl | (apply Moves.via State.at_moves; decide) | apply MovesNext.next
    | (apply Moves.via State.tachoLost_moves; decide) | apply MovesNext.ite | apply Moves.ite | intro _

end Sys2Proof.Machine
end

