-- ==== Sys2Proof/Laws/MovesSpx.lean ====
section
/-! SUPPORT. What the operations of Machine/Spx.lean leave as it was (Laws/Moves.lean). -/

namespace Sys2Proof.Machine

open Sys2Proof

theorem State.planeCfgShow_moves {s : State} {i : Nat} : Moves 0x8 s (s.planeCfgShow i) := by
  unfold State.planeCfgShow
  repeat' with_reducible first
    | apply Moves.refl | (apply Moves.via State.setFv_moves; decide)

theorem State.planeDrop_moves {s : State} {i : Nat} : Moves 0x8 s (s.planeDrop i) := by
  unfold State.planeDrop
  repeat' with_reducible first
    | apply Moves.refl | (apply Moves.via State.irq_moves; decide) | (apply Moves.via State.satInc_moves; decide)

theorem State.hotRate_moves {s : State} : Moves 0x8000C s s.hotRate := by
  unfold State.hotRate
  repeat' with_reducible first
    | apply Moves.refl | (apply Moves.via State.allPlanesShow_moves; decide) | (apply Moves.via State.irq_moves; decide)
    | (apply Moves.via State.setFb_moves; decide) | apply Moves.ite | intro _

theorem State.beginBuild_moves {s : State} {i stamp : Nat} {rpm : Q} {input : SpxInput} :
    Moves 0x20000 s (s.beginBuild i stamp rpm input) := by
  unfold State.beginBuild
  repeat' with_reducible first
    | apply Moves.refl | (apply Moves.via State.setPlane_moves; decide)

theorem State.recordBuild_moves {s : State} {i : Nat} {words : List (Nat × Nat)} : Moves 0x20000 s (s.recordBuild i words) := by
  unfold State.recordBuild
  repeat' with_reducible first
    | apply Moves.refl | (apply Moves.via State.beginBuild_moves; decide) | apply Moves.ite | intro _ | apply Moves.foldl
    | (apply Moves.snd; assumption) | (apply Moves.fst; assumption) | apply Moves.idOf | extract_lets | split

theorem State.writeHalf_moves {s : State} {i h' : Nat} {codes : List (Nat × Nat)} : Moves 0x1800 s (s.writeHalf i h' codes) := by
  unfold State.writeHalf
  repeat' with_reducible first
    | apply Moves.refl | (apply Moves.via State.curePoison_moves; decide) | (apply Moves.via State.wrLe_moves; decide)
    | apply Moves.ite | intro _ | apply Moves.foldl | (apply Moves.snd; assumption) | (apply Moves.fst; assumption) | apply Moves.idOf
    | fail_if_no_progress (apply Moves.mem; decide)

theorem State.learnPoint_moves {s : State} {p x : Nat} : Moves 0x1800 s (s.learnPoint p x) := by
  unfold State.learnPoint
  repeat' with_reducible first
    | apply Moves.refl | (apply Moves.via State.nodeWrite_moves; decide) | apply Moves.ite | intro _

theorem State.learnEnds_moves {s : State} {x : Tally} : Moves 0x4000 s (s.learnEnds x) := by
  unfold State.learnEnds
  repeat' with_reducible first
    | apply Moves.refl | (apply Moves.via State.tallyProgress_moves; decide) | (apply Moves.via State.tallyDone_moves; decide)
    | apply Moves.ite | intro _

theorem State.learnStep_moves {s : State} {i first last : Nat} : Moves 0x4000 s (s.learnStep i first last) := by
  unfold State.learnStep
  repeat' with_reducible first
    | apply Moves.refl | (apply Moves.via State.tallyEnds_moves; decide) | (apply Moves.via State.setTally_moves; decide)
    | (apply Moves.via State.learnEnds_moves; decide) | apply Moves.ite | intro _ | apply Moves.foldl

theorem State.learnLaunch_moves {s : State} {n : Nat} : Moves 0x5800 s (s.learnLaunch n) := by
  unfold State.learnLaunch
  repeat' with_reducible first
    | apply Moves.refl | (apply Moves.via State.curePoison_moves; decide) | (apply Moves.via State.setTally_moves; decide)
    | apply Moves.ite | intro _ | apply Moves.foldl | (apply Moves.snd; assumption) | (apply Moves.fst; assumption) | apply Moves.idOf
    | fail_if_no_progress (apply Moves.mem; decide) | extract_lets | split

theorem State.commitBuild_moves {s : State} {i : Nat} {b : SpxBuild} {errs : List (Nat × Q)} :
    Moves 0xE580C s (s.commitBuild i b errs) := by
  unfold State.commitBuild
  repeat' with_reducible first
    | apply Moves.refl | (apply Moves.via State.writeHalf_moves; decide) | (apply Moves.via State.drawKey_moves; decide)
    | (apply Moves.via State.setPlane_moves; decide) | (apply Moves.via State.learnStep_moves; decide)
    | (apply Moves.via State.learnPoint_moves; decide) | (apply Moves.via State.wrapInc_moves; decide)
    | (apply Moves.via State.setFv_moves; decide) | (apply Moves.via State.setStamp_moves; decide)
    | (apply Moves.via State.setFb_moves; decide) | (apply Moves.via State.irq_moves; decide)
    | (apply Moves.via State.satInc_moves; decide) | (apply Moves.via State.planeShow_moves; decide)
    | (apply Moves.via State.squash_moves; decide) | apply Moves.ite | intro _ | apply Moves.foldl

theorem State.planeUnlatched_moves {s : State} {i : Nat} : Moves 0xE580C s (s.planeUnlatched i) := by
  unfold State.planeUnlatched
  repeat' with_reducible first
    | apply Moves.refl | (apply Moves.via State.commitBuild_moves; decide) | (apply Moves.via State.setPlane_moves; decide)
    | apply Moves.ite | intro _ | apply Moves.foldl | (apply Moves.snd; assumption) | (apply Moves.fst; assumption) | apply Moves.idOf
    | extract_lets | split

theorem State.abandonBuilds_moves {s : State} {i : Nat} : Moves 0x20000 s (s.abandonBuilds i) := by
  unfold State.abandonBuilds
  repeat' with_reducible first
    | apply Moves.refl | (apply Moves.via State.setPlane_moves; decide)

theorem State.planeCtrl_moves {s : State} {i : Nat} {v : Word} : Moves 0x20000 s (s.planeCtrl i v) := by
  unfold State.planeCtrl
  repeat' with_reducible first
    | apply Moves.refl | (apply Moves.via State.setPlane_moves; decide) | apply Moves.ite | intro _

theorem State.streamAgain_moves {s : State} {i : Nat} : Moves 0x20000 s (s.streamAgain i) := by
  unfold State.streamAgain
  repeat' with_reducible first
    | apply Moves.refl | (apply Moves.via State.setPlane_moves; decide)

theorem State.spxPowered_moves {s : State} : Moves 0xA000C s s.spxPowered := by
  unfold State.spxPowered
  repeat' with_reducible first
    | apply Moves.refl | (apply Moves.via State.lapse_moves; decide) | (apply Moves.via State.allPlanesShow_moves; decide)
    | (apply Moves.via State.streamAgain_moves; decide) | (apply Moves.via State.abandonBuilds_moves; decide)
    | (apply Moves.via State.planeCfgShow_moves; decide) | apply Moves.ite | intro _ | apply Moves.foldl

theorem State.spxStopped_moves {s : State} : Moves 0xA000C s s.spxStopped := by
  unfold State.spxStopped
  repeat' with_reducible first
    | apply Moves.refl | (apply Moves.via State.allPlanesShow_moves; decide) | (apply Moves.via State.abandonBuilds_moves; decide)
    | apply Moves.ite | intro _ | apply Moves.foldl

theorem State.spxCommitted_moves {s : State} {old : State} : Moves 0xA000C s (s.spxCommitted old) := by
  unfold State.spxCommitted
  repeat' with_reducible first
    | apply Moves.refl | (apply Moves.via State.spxPowered_moves; decide) | (apply Moves.via State.spxStopped_moves; decide)
    | (apply Moves.via State.hotRate_moves; decide) | (apply Moves.via State.allPlanesShow_moves; decide) | apply Moves.ite | intro _

theorem State.planeCommitted_moves {s : State} {old : State} {i : Nat} : Moves 0xA000C s (s.planeCommitted old i) := by
  unfold State.planeCommitted
  repeat' with_reducible first
    | apply Moves.refl | (apply Moves.via State.setPlane_moves; decide) | (apply Moves.via State.abandonBuilds_moves; decide)
    | (apply Moves.via State.streamAgain_moves; decide) | (apply Moves.via State.planeShow_moves; decide)
    | (apply Moves.via State.planeCfgShow_moves; decide) | apply Moves.ite | intro _

theorem State.planesOfChannel_moves {s : State} {ch : Nat} : Moves 0x8000C s (s.planesOfChannel ch) := by
  unfold State.planesOfChannel
  repeat' with_reducible first
    | apply Moves.refl | (apply Moves.via State.planesFollow_moves; decide) | (apply Moves.via State.planeCfgShow_moves; decide)
    | apply Moves.ite | intro _ | apply Moves.foldl

theorem execRecordEnd_moves {t : Nat} {ch : Fin 16} {ecc : EccFinds} {s : State} : MovesNext 0x871009 s (execRecordEnd t ch ecc s) := by
  unfold execRecordEnd
  repeat' with_reducible first
    | apply Moves.refl | (apply Moves.via State.at_moves; decide) | apply MovesNext.next
    | (apply Moves.via State.eccFinds_moves; decide) | (apply Moves.via State.setDch_moves; decide)
    | (apply Moves.via State.planeDrop_moves; decide) | (apply Moves.via State.recordBuild_moves; decide) | apply MovesNext.ite
    | apply Moves.ite | intro _ | apply Moves.foldl

theorem execZoomRecordEnd_moves {t : Nat} {ch : Fin 16} {s : State} : MovesNext 0x820009 s (execZoomRecordEnd t ch s) := by
  unfold execZoomRecordEnd
  repeat' with_reducible first
    | apply Moves.refl | (apply Moves.via State.at_moves; decide) | apply MovesNext.next
    | (apply Moves.via State.setPlane_moves; decide) | (apply Moves.via State.planeDrop_moves; decide)
    | (apply Moves.via State.beginBuild_moves; decide) | apply MovesNext.ite | apply Moves.ite | intro _

theorem execBaseLearn_moves {t tally : Nat} {s : State} : MovesNext 0x804001 s (execBaseLearn t tally s) := by
  unfold execBaseLearn
  repeat' with_reducible first
    | apply Moves.refl | (apply Moves.via State.at_moves; decide) | apply MovesNext.next | (apply State.lateStop_moves; decide)
    | (apply Moves.via State.tallyRefused_moves; decide) | (apply Moves.via State.learnEnds_moves; decide) | apply MovesNext.ite
    | apply Moves.ite | intro _ | apply Moves.foldl | (apply Moves.snd; assumption) | (apply Moves.fst; assumption) | apply Moves.idOf
    | extract_lets | split

theorem execLimDerive_moves {t tally : Nat} {ecc : EccFinds} {s : State} : MovesNext 0x8C580D s (execLimDerive t tally ecc s) := by
  unfold execLimDerive
  repeat' with_reducible first
    | apply Moves.refl | (apply Moves.via State.at_moves; decide) | apply MovesNext.next | (apply State.lateStop_moves; decide)
    | (apply Moves.via State.eccFinds_moves; decide) | (apply Moves.via State.tallyEnds_moves; decide)
    | (apply Moves.via State.nodeWrite_moves; decide) | (apply Moves.via State.tallyDone_moves; decide)
    | (apply Moves.via State.squash_moves; decide) | apply MovesNext.ite | apply Moves.ite | intro _ | apply Moves.foldl
    | (apply Moves.snd; assumption) | (apply Moves.fst; assumption) | apply Moves.idOf | extract_lets | split

theorem execPlaneCommit_moves {t : Nat} {plane : Fin 64} {errs : List (Nat × Q)} {ecc : EccFinds} {s : State} :
    MovesNext 0x8E580D s (execPlaneCommit t plane errs ecc s) := by
  unfold execPlaneCommit
  repeat' with_reducible first
    | apply Moves.refl | (apply Moves.via State.at_moves; decide) | apply MovesNext.next
    | (apply Moves.via State.setPlane_moves; decide) | (apply Moves.via State.eccFinds_moves; decide)
    | (apply Moves.via State.planeDrop_moves; decide) | (apply Moves.via State.commitBuild_moves; decide) | apply MovesNext.ite
    | apply Moves.ite | intro _ | apply Moves.foldl | apply Moves.idOf | extract_lets | split

theorem execPlaneStale_moves {t : Nat} {plane : Fin 64} {s : State} : MovesNext 0x88000D s (execPlaneStale t plane s) := by
  unfold execPlaneStale
  repeat' with_reducible first
    | apply Moves.refl | (apply Moves.via State.at_moves; decide) | apply MovesNext.next
    | (apply Moves.via State.planeShow_moves; decide)

theorem execPlaneCommitOverdue_moves {t : Nat} {plane : Fin 64} {s : State} :
    MovesNext 0x88000D s (execPlaneCommitOverdue t plane s) := by
  unfold execPlaneCommitOverdue
  repeat' with_reducible first
    | apply Moves.refl | (apply Moves.via State.at_moves; decide) | apply MovesNext.next
    | (apply Moves.via State.planeShow_moves; decide)

end Sys2Proof.Machine
end

