-- ==== Sys2Proof/Laws/MovesAlhCall.lean ====
section
/-! SUPPORT. What the operations of Machine/AlhCall.lean leave as it was (Laws/Moves.lean). -/

namespace Sys2Proof.Machine

open Sys2Proof

theorem State.alhSend_moves {s : State} {o : Nat} {f : CanFrame} : Moves 0x4000008 s (s.alhSend o f) := by
  unfold State.alhSend
  repeat' with_reducible first
    | apply Moves.refl | (apply Moves.via State.satInc_moves; decide) | (apply Moves.via State.sendWakes_moves; decide)
    | (apply Moves.via State.setTxBuf_moves; decide) | (apply Moves.via State.queueFrame_moves; decide) | apply Moves.ite | intro _

theorem State.callFrames_moves {s : State} {l : Nat} {ended : Bool} : Moves 0x4000008 s (s.callFrames l ended) := by
  unfold State.callFrames
  repeat' with_reducible first
    | apply Moves.refl | (apply Moves.via State.alhSend_moves; decide) | apply Moves.ite | intro _ | apply Moves.foldl

theorem State.setCall_moves {s : State} {l : Nat} {c : Call} : Moves 0x100000 s (s.setCall l c) := by
  unfold State.setCall
  repeat' with_reducible first
    | apply Moves.refl | apply Moves.ite | intro _ | apply Moves.foldl | (apply Moves.snd; assumption) | (apply Moves.fst; assumption)
    | apply Moves.idOf | fail_if_no_progress (apply Moves.alh; decide)

theorem State.callChanged_moves {s : State} {l : Nat} : Moves 0x4100008 s (s.callChanged l) := by
  unfold State.callChanged
  repeat' with_reducible first
    | apply Moves.refl | (apply Moves.via State.setCall_moves; decide) | (apply Moves.via State.setFv_moves; decide)
    | (apply Moves.via State.callFrames_moves; decide)

theorem State.toRung_moves {l base : Nat} {k : Nat} : ∀ {s : State} {r : Nat}, Moves 0x8 s (s.toRung l base k r) := by
  induction k with
  | zero => exact Moves.refl _ _
  | succ k ih =>
    intro s r
    have h : Moves 0x8 s s := Moves.refl _ _
    refine Moves.ite (fun _ => Moves.via State.setStamp_moves (by decide) (State.setFv_moves.weaken (by decide))) (fun _ => ?_)
    refine Moves.ite (fun _ => Moves.trans (Moves.via State.satInc_moves (by decide) (State.irq_moves.weaken (by decide))) ih) (fun _ => ?_)
    exact Moves.via State.irq_moves (by decide) (Moves.via State.irq_moves (by decide) (Moves.via State.setFv_moves (by decide)
      (Moves.via State.setStamp_moves (by decide) (Moves.via State.setFv_moves (by decide) (State.irq_moves.weaken (by decide))))))

theorem State.callEnd_moves {s : State} {l : Nat} : Moves 0x4100008 s (s.callEnd l) := by
  unfold State.callEnd
  repeat' with_reducible first
    | apply Moves.refl | (apply Moves.via State.callFrames_moves; decide) | (apply Moves.via State.setStamp_moves; decide)
    | (apply Moves.via State.setReg_moves; decide) | (apply Moves.via State.irq_moves; decide) | apply Moves.ite | intro _
    | apply Moves.foldl | (apply Moves.snd; assumption) | (apply Moves.fst; assumption) | apply Moves.idOf
    | fail_if_no_progress (apply Moves.alh; decide)

theorem State.callLeave_moves {s : State} {e : Nat} : Moves 0x4100008 s (s.callLeave e) := by
  unfold State.callLeave
  repeat' with_reducible first
    | apply Moves.refl | (apply Moves.via State.setEntry_moves; decide) | (apply Moves.via State.callEnd_moves; decide)
    | (apply Moves.via State.callChanged_moves; decide) | apply Moves.ite | intro _ | apply Moves.foldl
    | (apply Moves.snd; assumption) | (apply Moves.fst; assumption) | apply Moves.idOf | extract_lets | split

theorem State.callJoin_moves {s : State} {e : Nat} : Moves 0x4100008 s (s.callJoin e) := by
  unfold State.callJoin
  repeat' with_reducible first
    | apply Moves.refl | (apply Moves.via State.callLeave_moves; decide) | (apply Moves.via State.wrapInc_moves; decide)
    | (apply Moves.via State.setEntry_moves; decide) | (apply Moves.via State.setCall_moves; decide)
    | (apply Moves.via State.setFv_moves; decide) | (apply Moves.via State.setReg_moves; decide)
    | (apply Moves.via State.irq_moves; decide) | (apply Moves.via State.satInc_moves; decide)
    | (apply Moves.via State.toRung_moves; decide) | (apply Moves.via State.callChanged_moves; decide) | apply Moves.ite | intro _
    | apply Moves.foldl | (apply Moves.snd; assumption) | (apply Moves.fst; assumption) | apply Moves.idOf | extract_lets | split

theorem State.callFollow_moves {s : State} {old : State} {e : Nat} : Moves 0x4100008 s (s.callFollow old e) := by
  unfold State.callFollow
  repeat' with_reducible first
    | apply Moves.refl | (apply Moves.via State.callChanged_moves; decide) | (apply Moves.via State.setCall_moves; decide)
    | apply Moves.ite | intro _ | apply Moves.foldl | (apply Moves.snd; assumption) | (apply Moves.fst; assumption) | apply Moves.idOf
    | extract_lets | split

theorem State.callsStop_moves {s : State} : Moves 0x4100008 s s.callsStop := by
  unfold State.callsStop
  repeat' with_reducible first
    | apply Moves.refl | (apply Moves.via State.callEnd_moves; decide) | (apply Moves.via State.setEntry_moves; decide)
    | apply Moves.ite | intro _ | apply Moves.foldl

theorem State.rungMove_moves {s : State} {l : Nat} : Moves 0x4100008 s (s.rungMove l) := by
  unfold State.rungMove
  repeat' with_reducible first
    | apply Moves.refl | (apply Moves.via State.setCall_moves; decide) | (apply Moves.via State.irq_moves; decide)
    | (apply Moves.via State.toRung_moves; decide) | (apply Moves.via State.satInc_moves; decide)
    | (apply Moves.via State.setStamp_moves; decide) | (apply Moves.via State.setFv_moves; decide)
    | (apply Moves.via State.callChanged_moves; decide) | apply Moves.ite | intro _

theorem State.rungsBefore_moves {l stamp k : Nat} : ∀ {s : State}, Moves 0x4100008 s (s.rungsBefore l stamp k) := by
  induction k with
  | zero => exact Moves.refl _ _
  | succ k ih => exact Moves.ite (fun _ => (State.rungMove_moves.weaken (by decide)).trans ih) (fun _ => Moves.refl _ _)

theorem State.rungUnmove_moves {s : State} {l stamp : Nat} : Moves 0x8 s (s.rungUnmove l stamp) := by
  unfold State.rungUnmove
  repeat' with_reducible first
    | apply Moves.refl | (apply Moves.via State.setFv_moves; decide) | (apply Moves.via State.setFb_moves; decide) | apply Moves.ite
    | intro _ | apply Moves.foldl | (apply Moves.snd; assumption) | (apply Moves.fst; assumption) | apply Moves.idOf | extract_lets
    | split

theorem State.callAccept_moves {s : State} {l stamp : Nat} : Moves 0x4100008 s (s.callAccept l stamp).1 := by
  unfold State.callAccept
  repeat' with_reducible first
    | apply Moves.refl | (apply Moves.via State.rungsBefore_moves; decide) | (apply Moves.via State.rungUnmove_moves; decide)
    | (apply Moves.via State.irq_moves; decide) | (apply Moves.via State.setStamp_moves; decide)
    | (apply Moves.via State.setFv_moves; decide) | (apply Moves.via State.callChanged_moves; decide) | apply Moves.ite | intro _
    | apply Moves.foldl | (apply Moves.snd; assumption) | (apply Moves.fst; assumption) | apply Moves.idOf | extract_lets | split

theorem execCallRepeat_moves {t : Nat} {ladder : Fin 8} {s : State} : MovesNext 0x4900009 s (execCallRepeat t ladder s) := by
  unfold execCallRepeat
  repeat' with_reducible first
    | apply Moves.refl | (apply Moves.via State.at_moves; decide) | apply MovesNext.next
    | (apply Moves.via State.callChanged_moves; decide) | apply MovesNext.ite | apply Moves.ite | intro _

theorem execStatusFrame_moves {t : Nat} {s : State} : MovesNext 0x4900009 s (execStatusFrame t s) := by
  unfold execStatusFrame
  repeat' with_reducible first
    | apply Moves.refl | (apply Moves.via State.at_moves; decide) | apply MovesNext.next
    | (apply Moves.via State.alhSend_moves; decide) | apply MovesNext.ite | apply Moves.ite | intro _ | apply Moves.foldl
    | (apply Moves.snd; assumption) | (apply Moves.fst; assumption) | apply Moves.idOf | fail_if_no_progress (apply Moves.alh; decide)

end Sys2Proof.Machine
end

