-- ==== Sys2Proof/Laws/MovesAlh.lean ====
section
/-! SUPPORT. What the operations of Machine/Alh.lean leave as it was (Laws/Moves.lean). -/

namespace Sys2Proof.Machine

open Sys2Proof

theorem State.rateRoll_moves {s : State} : Moves 0x100008 s s.rateRoll := by
  unfold State.rateRoll
  repeat' with_reducible first
    | apply Moves.refl | (apply Moves.via State.setReg_moves; decide) | apply Moves.ite | intro _ | apply Moves.foldl
    | (apply Moves.snd; assumption) | (apply Moves.fst; assumption) | apply Moves.idOf | fail_if_no_progress (apply Moves.alh; decide)

theorem State.alhClear_moves {s : State} : Moves 0x100008 s s.alhClear := by
  unfold State.alhClear
  repeat' with_reducible first
    | apply Moves.refl | (apply Moves.via State.setReg_moves; decide) | (apply Moves.via State.setFv_moves; decide)
    | (apply Moves.via State.rateRoll_moves; decide)

theorem State.alhLog_moves {s : State} {e before reason src node : Nat} : Moves 0x1808 s (s.alhLog e before reason src node) := by
  unfold State.alhLog
  repeat' with_reducible first
    | apply Moves.refl | (apply Moves.via State.nodeWrite_moves; decide) | (apply Moves.via State.wrapInc_moves; decide)

theorem State.mirrorPoint_moves {s : State} {e p : Nat} : Moves 0x8180C s (s.mirrorPoint e p) := by
  unfold State.mirrorPoint
  repeat' with_reducible first
    | apply Moves.refl | (apply Moves.via State.writeRecord_moves; decide) | apply Moves.ite | intro _

theorem State.alhApply_moves {s : State} {e : Nat} {y : Entry} {announced : Bool} {stamp reason src node : Nat} :
    Moves 0x34581E4C s (s.alhApply e y announced stamp reason src node) := by
  unfold State.alhApply
  repeat' with_reducible first
    | apply Moves.refl | (apply Moves.via State.setEntry_moves; decide) | (apply Moves.via State.callLeave_moves; decide)
    | (apply Moves.via State.irqIf_moves; decide) | (apply Moves.via State.callJoin_moves; decide)
    | (apply Moves.via State.callFollow_moves; decide) | (apply Moves.via State.alhLog_moves; decide)
    | (apply Moves.via State.trigger_moves; decide) | (apply Moves.via State.mirrorPoint_moves; decide)
    | (apply Moves.via State.tripCheck_moves; decide) | apply Moves.ite | intro _ | apply Moves.foldl | (apply Moves.snd; assumption)
    | (apply Moves.fst; assumption) | apply Moves.idOf | fail_if_no_progress (apply Moves.alh; decide)

theorem State.alhOverlay_moves {s : State} {e : Nat} {y : Entry} {stamp reason src node : Nat} :
    Moves 0x34581E4C s (s.alhOverlay e y stamp reason src node) := by
  unfold State.alhOverlay
  repeat' with_reducible first
    | apply Moves.refl | (apply Moves.via State.alhApply_moves; decide) | apply Moves.ite | intro _

theorem State.alhRegrade_moves {s : State} {e : Nat} : Moves 0x34581E4C s (s.alhRegrade e) := by
  unfold State.alhRegrade
  repeat' with_reducible first
    | apply Moves.refl | (apply Moves.via State.alhOverlay_moves; decide) | apply Moves.ite | intro _

theorem State.alhJudge_moves {s : State} {q reason : Nat} : Moves 0x34581E4C s (s.alhJudge q reason) := by
  unfold State.alhJudge
  repeat' with_reducible first
    | apply Moves.refl | (apply Moves.via State.alhOverlay_moves; decide) | apply Moves.ite | intro _ | apply Moves.foldl
    | (apply Moves.snd; assumption) | (apply Moves.fst; assumption) | apply Moves.idOf | extract_lets | split

theorem State.judgeFrom_moves {s : State} {c : Nat} : Moves 0x34581E4C s (s.judgeFrom c) := by
  unfold State.judgeFrom
  repeat' with_reducible first
    | apply Moves.refl | (apply Moves.via State.alhJudge_moves; decide) | apply Moves.ite | intro _ | apply Moves.foldl

theorem State.foFinal_moves {s : State} {g : Nat} : Moves 0x100000 s (s.foFinal g) := by
  unfold State.foFinal
  repeat' with_reducible first
    | apply Moves.refl | (apply Moves.via State.setGroup_moves; decide) | apply Moves.ite | intro _

theorem State.groupRise_moves {s : State} {g e onset : Nat} : Moves 0x100000 s (s.groupRise g e onset) := by
  unfold State.groupRise
  repeat' with_reducible first
    | apply Moves.refl | (apply Moves.via State.foFinal_moves; decide) | (apply Moves.via State.setGroup_moves; decide)
    | apply Moves.ite | intro _

theorem State.groupArm_moves {s : State} {g : Nat} : Moves 0x100000 s (s.groupArm g) := by
  unfold State.groupArm
  repeat' with_reducible first
    | apply Moves.refl | (apply Moves.via State.setGroup_moves; decide)

theorem State.groupClear_moves {s : State} {g : Nat} : Moves 0x100000 s (s.groupClear g) := by
  unfold State.groupClear
  repeat' with_reducible first
    | apply Moves.refl | (apply Moves.via State.foFinal_moves; decide) | (apply Moves.via State.groupArm_moves; decide)
    | apply Moves.ite | intro _

theorem State.alhEffects_moves {s : State} {e old new stamp : Nat} : Moves 0x10200008 s (s.alhEffects e old new stamp) := by
  unfold State.alhEffects
  repeat' with_reducible first
    | apply Moves.refl | (apply Moves.via State.rmpDemands_moves; decide) | (apply Moves.via State.fbeTrigger_moves; decide)
    | apply Moves.ite | intro _

theorem State.alhUpdate_moves {s : State} {e stamp onset reason : Nat} {fl : Option ChangeFlags} :
    Moves 0x34781E4C s (s.alhUpdate e stamp onset reason fl) := by
  unfold State.alhUpdate
  repeat' with_reducible first
    | apply Moves.refl | (apply Moves.via State.alhEffects_moves; decide) | (apply Moves.via State.alhOverlay_moves; decide)
    | (apply Moves.via State.groupRise_moves; decide) | (apply Moves.via State.alhApply_moves; decide)
    | (apply Moves.via State.groupClear_moves; decide) | (apply Moves.via State.judgeFrom_moves; decide) | apply Moves.ite | intro _
    | apply Moves.foldl | (apply Moves.snd; assumption) | (apply Moves.fst; assumption) | apply Moves.idOf
    | fail_if_no_progress (apply Moves.alh; decide)

theorem State.countPoint_moves {s : State} {c : Contrib} {add : Bool} : Moves 0x100000 s (s.countPoint c add) := by
  unfold State.countPoint
  repeat' with_reducible first
    | apply Moves.refl | (apply Moves.via State.setEntry_moves; decide) | apply Moves.ite | intro _

theorem State.setContrib_moves {s : State} {p : Nat} {c : Contrib} : Moves 0x100000 s (s.setContrib p c) := by
  unfold State.setContrib
  repeat' with_reducible first
    | apply Moves.refl | (apply Moves.via State.countPoint_moves; decide) | apply Moves.ite | intro _ | apply Moves.foldl
    | (apply Moves.snd; assumption) | (apply Moves.fst; assumption) | apply Moves.idOf | fail_if_no_progress (apply Moves.alh; decide)
    | extract_lets | split

theorem State.alhChange_moves {s : State} {ch : Change} : Moves 0x34781E4C s (s.alhChange ch) := by
  unfold State.alhChange
  repeat' with_reducible first
    | apply Moves.refl | (apply Moves.via State.rateRoll_moves; decide) | (apply Moves.via State.setContrib_moves; decide)
    | (apply Moves.via State.mirrorPoint_moves; decide) | (apply Moves.via State.alhUpdate_moves; decide) | apply Moves.ite | intro _
    | apply Moves.foldl | (apply Moves.snd; assumption) | (apply Moves.fst; assumption) | apply Moves.idOf
    | fail_if_no_progress (apply Moves.alh; decide)

theorem State.takeChange_moves {s : State} : Moves 0x34781E4C s s.takeChange := by
  unfold State.takeChange
  repeat' with_reducible first
    | apply Moves.refl | (apply Moves.via State.alhChange_moves; decide) | (apply Moves.via State.setFb_moves; decide)
    | apply Moves.ite | intro _ | apply Moves.foldl | (apply Moves.snd; assumption) | (apply Moves.fst; assumption) | apply Moves.idOf
    | fail_if_no_progress (apply Moves.pte; decide) | extract_lets | split

theorem State.unshelve_moves {s : State} {e src node : Nat} : Moves 0x34581E4C s (s.unshelve e src node) := by
  unfold State.unshelve
  repeat' with_reducible first
    | apply Moves.refl | (apply Moves.via State.alhOverlay_moves; decide) | apply Moves.ite | intro _ | apply Moves.foldl
    | (apply Moves.snd; assumption) | (apply Moves.fst; assumption) | apply Moves.idOf | fail_if_no_progress (apply Moves.alh; decide)

theorem execSupModeRelease_moves {t : Nat} {entry : Fin 16384} {s : State} : MovesNext 0x34D81E4D s (execSupModeRelease t entry s) := by
  unfold execSupModeRelease
  repeat' with_reducible first
    | apply Moves.refl | (apply Moves.via State.at_moves; decide) | apply MovesNext.next | apply State.unlessWaits_moves
    | (apply Moves.via State.alhOverlay_moves; decide) | apply MovesNext.ite | apply Moves.ite | intro _ | apply Moves.foldl
    | apply Moves.idOf | extract_lets | split

theorem execShelveExpiry_moves {t : Nat} {slot : Fin 1024} {s : State} : MovesNext 0x34D81E4D s (execShelveExpiry t slot s) := by
  unfold execShelveExpiry
  repeat' with_reducible first
    | apply Moves.refl | (apply Moves.via State.at_moves; decide) | apply MovesNext.next | apply State.unlessWaits_moves
    | (apply Moves.via State.irq_moves; decide) | (apply Moves.via State.unshelve_moves; decide) | apply MovesNext.ite
    | apply Moves.ite | intro _ | apply Moves.foldl | apply Moves.idOf | extract_lets | split

theorem execSuppressionHoldEnd_moves {t : Nat} {entry : Fin 16384} {s : State} :
    MovesNext 0x34D81E4D s (execSuppressionHoldEnd t entry s) := by
  unfold execSuppressionHoldEnd
  repeat' with_reducible first
    | apply Moves.refl | (apply Moves.via State.at_moves; decide) | apply MovesNext.next | apply State.unlessWaits_moves
    | (apply Moves.via State.judgeFrom_moves; decide) | (apply Moves.via State.alhJudge_moves; decide) | apply MovesNext.ite
    | apply Moves.ite | intro _

theorem execPendingDecided_moves {t : Nat} {entry : Fin 16384} {s : State} : MovesNext 0x34D81E4D s (execPendingDecided t entry s) := by
  unfold execPendingDecided
  repeat' with_reducible first
    | apply Moves.refl | (apply Moves.via State.at_moves; decide) | apply MovesNext.next | apply State.unlessWaits_moves
    | (apply Moves.via State.alhOverlay_moves; decide) | apply MovesNext.ite | apply Moves.ite | intro _ | apply Moves.foldl
    | apply Moves.idOf | extract_lets | split

theorem execFirstOutFinal_moves {t : Nat} {group : Fin 1024} {s : State} : MovesNext 0x900001 s (execFirstOutFinal t group s) := by
  unfold execFirstOutFinal
  repeat' with_reducible first
    | apply Moves.refl | (apply Moves.via State.at_moves; decide) | apply MovesNext.next
    | (apply Moves.via State.foFinal_moves; decide) | apply MovesNext.ite | apply Moves.ite | intro _

end Sys2Proof.Machine
end

