-- ==== Sys2Proof/Laws/MovesAlhCmd.lean ====
section
/-! SUPPORT. What the operations of Machine/AlhCmd.lean leave as it was (Laws/Moves.lean). -/

namespace Sys2Proof.Machine

open Sys2Proof

theorem State.alhAck_moves {s : State} {es : List Nat} {src node stamp : Nat} : Moves 0x34581E4C s (s.alhAck es src node stamp).1 := by
  unfold State.alhAck
  refine Moves.foldlFst (fun r e => ?_) _ (Moves.refl _ _)
  dsimp only
  split
  · exact State.alhApply_moves.weaken (by decide)
  · exact Moves.refl _ _

theorem State.alhReset_moves {s : State} {e src node stamp : Nat} : Moves 0x34581E4C s (s.alhReset e src node stamp).1 := by
  unfold State.alhReset
  repeat' with_reducible first
    | apply Moves.refl | (apply Moves.via State.alhApply_moves; decide) | (apply Moves.via State.releasePoint_moves; decide)
    | apply Moves.ite | intro _ | apply Moves.foldl | (apply Moves.snd; assumption) | (apply Moves.fst; assumption) | apply Moves.idOf
    | extract_lets | split

theorem State.alhShelve_moves {s : State} {e arg src node stamp : Nat} : Moves 0x34581E4C s (s.alhShelve e arg src node stamp).1 := by
  unfold State.alhShelve
  dsimp only
  split
  · exact Moves.refl _ _
  · split
    · exact Moves.refl _ _
    · exact Moves.via State.alhOverlay_moves (by decide) (Moves.via State.curePoison_moves (by decide)
        (Moves.alh (by decide) (Moves.refl _ _)))

theorem State.alhUnshelve_moves {s : State} {e src node : Nat} : Moves 0x34581E4C s (s.alhUnshelve e src node).1 := by
  unfold State.alhUnshelve
  repeat' with_reducible first
    | apply Moves.refl | (apply Moves.via State.unshelve_moves; decide) | apply Moves.ite | intro _ | apply Moves.foldl
    | (apply Moves.snd; assumption) | (apply Moves.fst; assumption) | apply Moves.idOf | extract_lets | split

theorem State.alhService_moves {s : State} {e : Nat} {out : Bool} {src node stamp : Nat} :
    Moves 0x34781E4C s (s.alhService e out src node stamp).1 := by
  unfold State.alhService
  repeat' with_reducible first
    | apply Moves.refl | (apply Moves.via State.alhOverlay_moves; decide) | (apply Moves.via State.judgeFrom_moves; decide)
    | (apply Moves.via State.alhEffects_moves; decide) | apply Moves.ite | intro _ | apply Moves.foldl | (apply Moves.snd; assumption)
    | (apply Moves.fst; assumption) | apply Moves.idOf | extract_lets | split

theorem State.alhDo_moves {s : State} {op idx arg src node stamp : Nat} {may : Bool} :
    Moves 0x34781E4C s (s.alhDo op idx arg src node stamp may).1 := by
  unfold State.alhDo
  repeat' with_reducible first
    | apply Moves.refl | (apply Moves.via State.alhAck_moves; decide) | (apply Moves.via State.alhReset_moves; decide)
    | (apply Moves.via State.alhShelve_moves; decide) | (apply Moves.via State.alhUnshelve_moves; decide)
    | (apply Moves.via State.alhService_moves; decide) | (apply Moves.via State.callAccept_moves; decide)
    | (apply Moves.via State.groupArm_moves; decide) | apply Moves.ite | intro _ | apply Moves.foldl | (apply Moves.snd; assumption)
    | (apply Moves.fst; assumption) | apply Moves.idOf | extract_lets | split

theorem State.alhOp_moves {s : State} {op idx arg src node stamp : Nat} {may : Bool} :
    Moves 0x34781E4C s (s.alhOp op idx arg src node stamp may).1 := by
  unfold State.alhOp
  repeat' with_reducible first
    | apply Moves.refl | (apply Moves.via State.alhDo_moves; decide) | apply Moves.ite | intro _ | apply Moves.foldl
    | (apply Moves.snd; assumption) | (apply Moves.fst; assumption) | apply Moves.idOf | extract_lets | split

theorem State.setDuty_moves {s : State} {n src : Nat} : Moves 0x8 s (s.setDuty n src) := by
  unfold State.setDuty
  repeat' with_reducible first
    | apply Moves.refl | (apply Moves.via State.setFv_moves; decide)

theorem State.staleAnswer_moves {s : State} : Moves 0x8 s s.staleAnswer := by
  unfold State.staleAnswer
  repeat' with_reducible first
    | apply Moves.refl | (apply Moves.via State.irq_moves; decide) | (apply Moves.via State.satInc_moves; decide)

theorem State.answerReceived_moves {s : State} {stamp : Nat} {d : List Byte} : Moves 0x100008 s (s.answerReceived stamp d) := by
  unfold State.answerReceived
  repeat' with_reducible first
    | apply Moves.refl | (apply Moves.via State.staleAnswer_moves; decide) | apply Moves.ite | intro _ | apply Moves.foldl
    | (apply Moves.snd; assumption) | (apply Moves.fst; assumption) | apply Moves.idOf | fail_if_no_progress (apply Moves.alh; decide)

theorem State.answerDo_moves {s : State} {stamp node k w b : Nat} : Moves 0x34781E4C s (s.answerDo stamp node k w b).1 := by
  unfold State.answerDo
  repeat' with_reducible first
    | apply Moves.refl | (apply Moves.via State.callAccept_moves; decide) | (apply Moves.via State.alhOp_moves; decide)
    | (apply Moves.via State.alhAck_moves; decide) | (apply Moves.via State.setDuty_moves; decide) | apply Moves.ite | intro _
    | apply Moves.foldl | (apply Moves.snd; assumption) | (apply Moves.fst; assumption) | apply Moves.idOf | extract_lets | split

theorem State.takeAnswer_moves {s : State} : Moves 0x34781E4C s s.takeAnswer := by
  unfold State.takeAnswer
  repeat' with_reducible first
    | apply Moves.refl | (apply Moves.via State.answerDo_moves; decide) | (apply Moves.via State.staleAnswer_moves; decide)
    | apply Moves.ite | intro _ | apply Moves.foldl | (apply Moves.snd; assumption) | (apply Moves.fst; assumption) | apply Moves.idOf
    | fail_if_no_progress (apply Moves.alh; decide) | extract_lets | split

theorem State.alhDrain_moves {stamp : Nat} {n : Nat} : ∀ {s : State}, Moves 0x34781E4C s (s.alhDrain stamp n) := by
  induction n with
  | zero => exact Moves.refl _ _
  | succ n ih =>
    intro s
    unfold State.alhDrain
    dsimp only
    have hc : Moves 0x34781E4C s (s.takeChange.alhDrain stamp n) := (State.takeChange_moves.weaken (by decide)).trans ih
    split
    · exact Moves.ite (fun _ => (State.takeAnswer_moves.weaken (by decide)).trans ih)
        (fun _ => Moves.ite (fun _ => hc) (fun _ => Moves.refl _ _))
    · exact Moves.ite (fun _ => hc) (fun _ => Moves.refl _ _)

theorem State.alhUpTo_moves {s : State} {stamp : Nat} : Moves 0x34781E4C s (s.alhUpTo stamp) := by
  unfold State.alhUpTo
  repeat' with_reducible first
    | apply Moves.refl | (apply Moves.via State.alhDrain_moves; decide) | apply Moves.ite | intro _

theorem State.alhCmd_moves {s : State} {op idx arg src node stamp : Nat} {may : Bool} :
    Moves 0x34781E4C s (s.alhCmd op idx arg src node stamp may).1 := by
  unfold State.alhCmd
  repeat' with_reducible first
    | apply Moves.refl | (apply Moves.via State.alhOp_moves; decide) | (apply Moves.via State.alhUpTo_moves; decide)

theorem State.answer_moves {s : State} {k : Nat} : Moves 0x34781E4C s (s.answer k) := by
  unfold State.answer
  repeat' with_reducible first
    | apply Moves.refl | apply State.unlessWaits_moves | (apply Moves.via State.alhUpTo_moves; decide) | apply Moves.ite | intro _
    | apply Moves.foldl | (apply Moves.snd; assumption) | (apply Moves.fst; assumption) | apply Moves.idOf | extract_lets | split

theorem State.hostCmd_moves {s : State} {op idx arg src stamp : Nat} {may : Bool} :
    Moves 0x34781E4C s (s.hostCmd op idx arg src stamp may) := by
  unfold State.hostCmd
  repeat' with_reducible first
    | apply Moves.refl | (apply Moves.via State.alhCmd_moves; decide) | (apply Moves.via State.wrapInc_moves; decide)
    | (apply Moves.via State.setFv_moves; decide)

theorem State.ackInput_moves {s : State} {ch stamp : Nat} : Moves 0x34781E4C s (s.ackInput ch stamp) := by
  unfold State.ackInput
  repeat' with_reducible first
    | apply Moves.refl | (apply Moves.via State.alhCmd_moves; decide) | (apply Moves.via State.callAccept_moves; decide)
    | apply Moves.ite | intro _ | apply Moves.foldl

theorem State.alhMode_moves {s : State} {m src : Nat} : Moves 0x34781E4C s (s.alhMode m src) := by
  unfold State.alhMode
  repeat' with_reducible first
    | apply Moves.refl | (apply Moves.via State.alhUpTo_moves; decide) | (apply Moves.via State.setFv_moves; decide)
    | (apply Moves.via State.irq_moves; decide) | (apply Moves.via State.setEntry_moves; decide)
    | (apply Moves.via State.alhOverlay_moves; decide) | apply Moves.ite | intro _ | apply Moves.foldl

theorem State.alhDuty_moves {s : State} {n src : Nat} : Moves 0x34781E4C s (s.alhDuty n src) := by
  unfold State.alhDuty
  repeat' with_reducible first
    | apply Moves.refl | (apply Moves.via State.setDuty_moves; decide) | (apply Moves.via State.alhUpTo_moves; decide)

theorem State.alhTakeWord_moves {s : State} {x1 : AlhWord} : Moves 0x34781E4C s (s.alhTakeWord x1) := by
  unfold State.alhTakeWord
  repeat' with_reducible first
    | apply Moves.refl | (apply Moves.via State.hostCmd_moves; decide) | (apply Moves.via State.alhMode_moves; decide)
    | (apply Moves.via State.setFv_moves; decide) | (apply Moves.via State.alhDuty_moves; decide) | apply Moves.ite | intro _
    | apply Moves.foldl | (apply Moves.snd; assumption) | (apply Moves.fst; assumption) | apply Moves.idOf | extract_lets | split

theorem State.alhWord_moves {s : State} {w : AlhWord} : Moves 0x34781E4C s (s.alhWord w) := by
  unfold State.alhWord
  repeat' with_reducible first
    | apply Moves.refl | (apply Moves.via State.alhTakeWord_moves; decide) | apply Moves.ite | intro _ | apply Moves.foldl
    | (apply Moves.snd; assumption) | (apply Moves.fst; assumption) | apply Moves.idOf | fail_if_no_progress (apply Moves.alh; decide)

theorem State.alhWords_moves {s : State} : Moves 0x34781E4C s s.alhWords := by
  unfold State.alhWords
  repeat' with_reducible first
    | apply Moves.refl | (apply Moves.via State.alhTakeWord_moves; decide) | apply Moves.ite | intro _ | apply Moves.foldl
    | (apply Moves.snd; assumption) | (apply Moves.fst; assumption) | apply Moves.idOf | fail_if_no_progress (apply Moves.alh; decide)

theorem State.alhCmdWrite_moves {s : State} {p : Port} {v : Word} : Moves 0x34781E4C s (s.alhCmdWrite p v) := by
  unfold State.alhCmdWrite
  repeat' with_reducible first
    | apply Moves.refl | (apply Moves.via State.alhWord_moves; decide)

theorem State.alhUnused_moves {s : State} {e : Nat} : Moves 0x34581E4C s (s.alhUnused e) := by
  unfold State.alhUnused
  repeat' with_reducible first
    | apply Moves.refl | (apply Moves.via State.alhApply_moves; decide) | apply Moves.ite | intro _ | apply Moves.foldl
    | (apply Moves.snd; assumption) | (apply Moves.fst; assumption) | apply Moves.idOf | fail_if_no_progress (apply Moves.alh; decide)

theorem State.modeJudge_moves {s : State} {e : Nat} : Moves 0x34581E4C s (s.modeJudge e) := by
  unfold State.modeJudge
  repeat' with_reducible first
    | apply Moves.refl | (apply Moves.via State.setEntry_moves; decide) | (apply Moves.via State.alhOverlay_moves; decide)
    | apply Moves.ite | intro _

theorem State.changesRemapped_moves {s : State} : Moves 0x80000 s s.changesRemapped := by
  unfold State.changesRemapped
  repeat' with_reducible first
    | apply Moves.refl | apply Moves.ite | intro _ | apply Moves.foldl | (apply Moves.snd; assumption) | (apply Moves.fst; assumption)
    | apply Moves.idOf | fail_if_no_progress (apply Moves.pte; decide)

theorem State.tablesCured_moves {s : State} : Moves 0x1000 s s.tablesCured := by
  unfold State.tablesCured
  repeat' with_reducible first
    | apply Moves.refl | (apply Moves.via State.curePoison_moves; decide)

theorem State.alhLoad_moves {s : State} {a : AlarmTable} {id : Nat} : Moves 0x34781E4C s (s.alhLoad a id) := by
  unfold State.alhLoad
  repeat' with_reducible first
    | apply Moves.refl | (apply Moves.via State.changesRemapped_moves; decide) | (apply Moves.via State.tablesCured_moves; decide)
    | (apply Moves.via State.setGroup_moves; decide) | (apply Moves.via State.setEntry_moves; decide)
    | (apply Moves.via State.setFv_moves; decide) | (apply Moves.via State.alhUnused_moves; decide)
    | (apply Moves.via State.curePoison_moves; decide) | (apply Moves.via State.alhUpdate_moves; decide)
    | (apply Moves.via State.modeJudge_moves; decide) | (apply Moves.via State.alhJudge_moves; decide)
    | (apply Moves.via State.safShow_moves; decide) | (apply Moves.via State.groupClear_moves; decide) | apply Moves.ite | intro _
    | apply Moves.foldl | (apply Moves.snd; assumption) | (apply Moves.fst; assumption) | apply Moves.idOf
    | fail_if_no_progress (apply Moves.alh; decide)

theorem State.alhRecount_moves {s : State} : Moves 0x34781E4C s s.alhRecount := by
  unfold State.alhRecount
  repeat' with_reducible first
    | apply Moves.refl | (apply Moves.via State.setContrib_moves; decide) | (apply Moves.via State.mirrorPoint_moves; decide)
    | (apply Moves.via State.alhUpdate_moves; decide) | (apply Moves.via State.setEntry_moves; decide) | apply Moves.ite | intro _
    | apply Moves.foldl | (apply Moves.snd; assumption) | (apply Moves.fst; assumption) | apply Moves.idOf
    | fail_if_no_progress (apply Moves.alh; decide)

theorem State.alhShift_moves {s : State} {n : Nat} : Moves 0x100008 s (s.alhShift n) := by
  unfold State.alhShift
  repeat' with_reducible first
    | apply Moves.refl | (apply Moves.via State.setStamp_moves; decide) | apply Moves.ite | intro _ | apply Moves.foldl
    | (apply Moves.snd; assumption) | (apply Moves.fst; assumption) | apply Moves.idOf | fail_if_no_progress (apply Moves.alh; decide)

theorem State.alhStart_moves {s : State} : Moves 0x100000 s s.alhStart := by
  unfold State.alhStart
  repeat' with_reducible first
    | apply Moves.refl | apply Moves.ite | intro _ | apply Moves.foldl | (apply Moves.snd; assumption) | (apply Moves.fst; assumption)
    | apply Moves.idOf | fail_if_no_progress (apply Moves.alh; decide)

theorem State.alhRegraded_moves {s : State} : Moves 0x34581E4C s s.alhRegraded := by
  unfold State.alhRegraded
  repeat' with_reducible first
    | apply Moves.refl | (apply Moves.via State.alhRegrade_moves; decide) | apply Moves.ite | intro _ | apply Moves.foldl

theorem State.alhCommitted_moves {s : State} : Moves 0x34581E4C s s.alhCommitted := by
  unfold State.alhCommitted
  repeat' with_reducible first
    | apply Moves.refl | (apply Moves.via State.alhObjects_moves; decide) | (apply Moves.via State.alhRegraded_moves; decide)
    | (apply Moves.via State.callsStop_moves; decide) | apply Moves.ite | intro _

theorem State.alhResumes_moves {s : State} : Moves 0x34781E4C s s.alhResumes := by
  unfold State.alhResumes
  repeat' with_reducible first
    | apply Moves.refl | (apply Moves.via State.alhWords_moves; decide) | (apply Moves.via State.alhCommitted_moves; decide)

theorem execPointChange_moves {t : Nat} {ecc : EccFinds} {s : State} : MovesNext 0x34FC1E4D s (execPointChange t ecc s) := by
  unfold execPointChange
  repeat' with_reducible first
    | apply Moves.refl | (apply Moves.via State.at_moves; decide) | apply MovesNext.next | apply State.unlessWaits_moves
    | (apply Moves.via State.takeChange_moves; decide) | (apply Moves.via State.alhUpTo_moves; decide)
    | (apply Moves.via State.eccFinds_moves; decide) | apply MovesNext.ite | apply Moves.ite | intro _ | apply Moves.foldl
    | apply Moves.idOf | extract_lets | split

theorem execRungDeadline_moves {t : Nat} {ladder : Fin 8} {s : State} : MovesNext 0x34F81E4D s (execRungDeadline t ladder s) := by
  unfold execRungDeadline
  repeat' with_reducible first
    | apply Moves.refl | (apply Moves.via State.at_moves; decide) | apply MovesNext.next
    | (apply Moves.via State.alhUpTo_moves; decide) | (apply Moves.via State.rungMove_moves; decide) | apply MovesNext.ite
    | apply Moves.ite | intro _

theorem execAnswerAccept_moves {t : Nat} {s : State} : MovesNext 0x34F81E4D s (execAnswerAccept t s) := by
  unfold execAnswerAccept
  repeat' with_reducible first
    | apply Moves.refl | (apply Moves.via State.at_moves; decide) | apply MovesNext.next
    | (apply Moves.via State.answer_moves; decide)

theorem execAnswerAckEntry_moves {t : Nat} {s : State} : MovesNext 0x34F81E4D s (execAnswerAckEntry t s) := by
  unfold execAnswerAckEntry
  repeat' with_reducible first
    | apply Moves.refl | (apply Moves.via State.at_moves; decide) | apply MovesNext.next
    | (apply Moves.via State.answer_moves; decide)

theorem execAnswerAckGroup_moves {t : Nat} {s : State} : MovesNext 0x34F81E4D s (execAnswerAckGroup t s) := by
  unfold execAnswerAckGroup
  repeat' with_reducible first
    | apply Moves.refl | (apply Moves.via State.at_moves; decide) | apply MovesNext.next
    | (apply Moves.via State.answer_moves; decide)

theorem execAnswerAckCall_moves {t : Nat} {s : State} : MovesNext 0x34F81E4D s (execAnswerAckCall t s) := by
  unfold execAnswerAckCall
  repeat' with_reducible first
    | apply Moves.refl | (apply Moves.via State.at_moves; decide) | apply MovesNext.next
    | (apply Moves.via State.answer_moves; decide)

theorem execAnswerTakeDuty_moves {t : Nat} {s : State} : MovesNext 0x34F81E4D s (execAnswerTakeDuty t s) := by
  unfold execAnswerTakeDuty
  repeat' with_reducible first
    | apply Moves.refl | (apply Moves.via State.at_moves; decide) | apply MovesNext.next
    | (apply Moves.via State.answer_moves; decide)

theorem execAnswerResetEntry_moves {t : Nat} {s : State} : MovesNext 0x34F81E4D s (execAnswerResetEntry t s) := by
  unfold execAnswerResetEntry
  repeat' with_reducible first
    | apply Moves.refl | (apply Moves.via State.at_moves; decide) | apply MovesNext.next
    | (apply Moves.via State.answer_moves; decide)

end Sys2Proof.Machine
end

