-- ==== Sys2Proof/Laws/MovesTbs.lean ====
section
/-! SUPPORT. What the operations of Machine/Tbs.lean leave as it was (Laws/Moves.lean). -/

namespace Sys2Proof.Machine

open Sys2Proof

theorem State.fireAlarm_moves {s : State} {b skipped late : Bool} : Moves 0x2008 s (s.fireAlarm b skipped late) := by
  unfold State.fireAlarm
  repeat' with_reducible first
    | apply Moves.refl | (apply Moves.via State.irq_moves; decide) | (apply Moves.via State.setFv_moves; decide)
    | (apply Moves.via State.wakeSource_moves; decide) | apply Moves.ite | intro _

theorem State.setHalted_moves {s : State} : Moves 0x8 s s.setHalted := by
  unfold State.setHalted
  repeat' with_reducible first
    | apply Moves.refl | (apply Moves.via State.setFb_moves; decide)

theorem State.secReached_moves {s : State} : Moves 0x800000 s s.secReached := by
  unfold State.secReached
  repeat' with_reducible first
    | apply Moves.refl | apply Moves.ite | intro _ | apply Moves.foldl | (apply Moves.snd; assumption) | (apply Moves.fst; assumption)
    | apply Moves.idOf | fail_if_no_progress (apply Moves.tbs; decide)

theorem State.alarmFire_moves {s : State} {b : Bool} : Moves 0x802008 s (s.alarmFire b) := by
  unfold State.alarmFire
  repeat' with_reducible first
    | apply Moves.refl | (apply Moves.via State.fireAlarm_moves; decide) | apply Moves.ite | intro _ | apply Moves.foldl
    | (apply Moves.snd; assumption) | (apply Moves.fst; assumption) | apply Moves.idOf | fail_if_no_progress (apply Moves.tbs; decide)

theorem State.dayReached_moves {s : State} : Moves 0x800000 s s.dayReached := by
  unfold State.dayReached
  repeat' with_reducible first
    | apply Moves.refl | apply Moves.ite | intro _ | apply Moves.foldl | (apply Moves.snd; assumption) | (apply Moves.fst; assumption)
    | apply Moves.idOf | fail_if_no_progress (apply Moves.tbs; decide)

theorem State.applyTimeWrite_moves {s : State} {w : TimeWrite} : Moves 0x40802648 s (s.applyTimeWrite w) := by
  unfold State.applyTimeWrite
  repeat' with_reducible first
    | apply Moves.refl | (apply Moves.via State.clampAt_moves; decide) | (apply Moves.via State.setHalted_moves; decide)
    | (apply Moves.via State.setFv_moves; decide) | (apply Moves.via State.dayReached_moves; decide)
    | (apply Moves.via State.irq_moves; decide) | (apply Moves.via State.setFb_moves; decide)
    | (apply Moves.via State.fireAlarm_moves; decide) | apply Moves.ite | intro _ | apply Moves.foldl | (apply Moves.snd; assumption)
    | (apply Moves.fst; assumption) | apply Moves.idOf | fail_if_no_progress (apply Moves.tbs_age; decide)

theorem State.tbsCtrl_moves {s : State} {v : Word} : Moves 0x800648 s (s.tbsCtrl v) := by
  have h1 : Moves 0x800648 s s.setHalted := State.setHalted_moves.weaken (by decide)
  unfold State.tbsCtrl
  dsimp only
  split
  · exact Moves.tbs (by decide) h1
  · exact h1
  · exact Moves.foldl (fun t x => State.clampAt_moves.weaken (by decide)) _ h1

theorem State.applyTimeWrites_moves {s : State} : Moves 0x40802648 s s.applyTimeWrites := by
  unfold State.applyTimeWrites
  repeat' with_reducible first
    | apply Moves.refl | (apply Moves.via State.applyTimeWrite_moves; decide) | apply Moves.ite | intro _ | apply Moves.foldl
    | (apply Moves.snd; assumption) | (apply Moves.fst; assumption) | apply Moves.idOf | fail_if_no_progress (apply Moves.tbs; decide)

theorem State.tbsCommitted_moves {s : State} {old : State} : Moves 0x800000 s (s.tbsCommitted old) := by
  unfold State.tbsCommitted
  repeat' with_reducible first
    | apply Moves.refl | (apply Moves.via State.secReached_moves; decide) | apply Moves.ite | intro _ | apply Moves.foldl
    | (apply Moves.snd; assumption) | (apply Moves.fst; assumption) | apply Moves.idOf | fail_if_no_progress (apply Moves.tbs; decide)

theorem State.recordTimebase_moves {s : State} : Moves 0x800000 s s.recordTimebase := by
  unfold State.recordTimebase
  repeat' with_reducible first
    | apply Moves.refl | apply Moves.ite | intro _ | apply Moves.foldl | (apply Moves.snd; assumption) | (apply Moves.fst; assumption)
    | apply Moves.idOf | fail_if_no_progress (apply Moves.tbs; decide)

theorem State.coldClocks_moves {s : State} : Moves 0x800008 s s.coldClocks := by
  unfold State.coldClocks
  repeat' with_reducible first
    | apply Moves.refl | (apply Moves.via State.setFv_moves; decide) | (apply Moves.via State.secReached_moves; decide)
    | (apply Moves.via State.setFb_moves; decide) | apply Moves.ite | intro _ | apply Moves.foldl | (apply Moves.snd; assumption)
    | (apply Moves.fst; assumption) | apply Moves.idOf | fail_if_no_progress (apply Moves.tbs; decide)

theorem State.renumber_moves {s : State} {n : Nat} : Moves 0x800001 s (s.renumber n) := by
  unfold State.renumber
  repeat' with_reducible first
    | apply Moves.refl | apply Moves.ite | intro _ | apply Moves.foldl | (apply Moves.snd; assumption) | (apply Moves.fst; assumption)
    | apply Moves.idOf | fail_if_no_progress (apply Moves.now_tbs; decide)

theorem State.startClocks_moves {s : State} : Moves 0x800009 s s.startClocks := by
  unfold State.startClocks
  repeat' with_reducible first
    | apply Moves.refl | (apply Moves.via State.renumber_moves; decide) | (apply Moves.via State.recordTimebase_moves; decide)
    | (apply Moves.via State.setFv_moves; decide) | (apply Moves.via State.dayReached_moves; decide)
    | (apply Moves.via State.coldClocks_moves; decide) | apply Moves.ite | intro _ | apply Moves.foldl | (apply Moves.snd; assumption)
    | (apply Moves.fst; assumption) | apply Moves.idOf | fail_if_no_progress (apply Moves.tbs; decide)

theorem State.clocksShow_moves {s : State} : Moves 0x802008 s s.clocksShow := by
  unfold State.clocksShow
  repeat' with_reducible first
    | apply Moves.refl | (apply Moves.via State.setFb_moves; decide) | (apply Moves.via State.fireAlarm_moves; decide)
    | apply Moves.ite | intro _ | apply Moves.foldl | (apply Moves.snd; assumption) | (apply Moves.fst; assumption) | apply Moves.idOf
    | fail_if_no_progress (apply Moves.tbs; decide)

theorem execAlarmFire_moves {t : Nat} {b : Bool} {s : State} : MovesNext 0x802009 s (execAlarmFire t b s) := by
  unfold execAlarmFire
  repeat' with_reducible first
    | apply Moves.refl | (apply Moves.via State.at_moves; decide) | apply MovesNext.next
    | (apply Moves.via State.alarmFire_moves; decide)

theorem execTimeWriteApply_moves {t : Nat} {s : State} : MovesNext 0x40802649 s (execTimeWriteApply t s) := by
  unfold execTimeWriteApply
  repeat' with_reducible first
    | apply Moves.refl | (apply Moves.via State.at_moves; decide) | apply MovesNext.next
    | (apply Moves.via State.applyTimeWrites_moves; decide) | apply MovesNext.ite | apply Moves.ite | intro _

theorem execPeriodicEvent_moves {t : Nat} {s : State} : MovesNext 0x800009 s (execPeriodicEvent t s) := by
  unfold execPeriodicEvent
  repeat' with_reducible first
    | apply Moves.refl | (apply Moves.via State.at_moves; decide) | apply MovesNext.next | (apply Moves.via State.irq_moves; decide)
    | (apply Moves.via State.wrapInc_moves; decide) | apply MovesNext.ite | apply Moves.ite | intro _ | apply Moves.foldl
    | (apply Moves.snd; assumption) | (apply Moves.fst; assumption) | apply Moves.idOf | fail_if_no_progress (apply Moves.tbs; decide)

theorem execWeekdayAdvance_moves {t : Nat} {s : State} : MovesNext 0x800009 s (execWeekdayAdvance t s) := by
  unfold execWeekdayAdvance
  repeat' with_reducible first
    | apply Moves.refl | (apply Moves.via State.at_moves; decide) | apply MovesNext.next | (apply Moves.via State.setFv_moves; decide)
    | apply MovesNext.ite | apply Moves.ite | intro _ | apply Moves.foldl | (apply Moves.snd; assumption)
    | (apply Moves.fst; assumption) | apply Moves.idOf | fail_if_no_progress (apply Moves.tbs; decide)

theorem execTcompUpdate_moves {t : Nat} {temp : Q} {s : State} : MovesNext 0x800009 s (execTcompUpdate t temp s) := by
  unfold execTcompUpdate
  repeat' with_reducible first
    | apply Moves.refl | (apply Moves.via State.at_moves; decide) | apply MovesNext.next | (apply Moves.via State.setFv_moves; decide)
    | apply MovesNext.ite | apply Moves.ite | intro _ | apply Moves.foldl | (apply Moves.snd; assumption)
    | (apply Moves.fst; assumption) | apply Moves.idOf | fail_if_no_progress (apply Moves.tbs; decide)

theorem execCalendarTop_moves {t : Nat} {s : State} : MovesNext 0x800009 s (execCalendarTop t s) := by
  unfold execCalendarTop
  repeat' with_reducible first
    | apply Moves.refl | (apply Moves.via State.at_moves; decide) | apply MovesNext.next | (apply Moves.via State.setFv_moves; decide)
    | apply MovesNext.ite | apply Moves.ite | intro _

theorem execTimebaseRecord_moves {t : Nat} {xratio : Int} {s : State} : MovesNext 0x800009 s (execTimebaseRecord t xratio s) := by
  unfold execTimebaseRecord
  repeat' with_reducible first
    | apply Moves.refl | (apply Moves.via State.at_moves; decide) | apply MovesNext.next | (apply Moves.via State.setFv_moves; decide)
    | (apply Moves.via State.recordTimebase_moves; decide) | apply MovesNext.ite | apply Moves.ite | intro _

theorem execReferenceStopped_moves {t : Nat} {s : State} : MovesNext 0x800001 s (execReferenceStopped t s) := by
  unfold execReferenceStopped
  repeat' with_reducible first
    | apply Moves.refl | (apply Moves.via State.at_moves; decide) | apply MovesNext.next | apply MovesNext.ite | apply Moves.ite
    | intro _ | apply Moves.foldl | (apply Moves.snd; assumption) | (apply Moves.fst; assumption) | apply Moves.idOf
    | fail_if_no_progress (apply Moves.tbs; decide)

theorem execReferenceReturn_moves {t : Nat} {s : State} : MovesNext 0x20800001 s (execReferenceReturn t s) := by
  unfold execReferenceReturn
  repeat' with_reducible first
    | apply Moves.refl | (apply Moves.via State.at_moves; decide) | apply MovesNext.next
    | (apply Moves.via State.failsUntil_moves; decide) | apply MovesNext.ite | apply Moves.ite | intro _ | apply Moves.foldl
    | (apply Moves.snd; assumption) | (apply Moves.fst; assumption) | apply Moves.idOf | fail_if_no_progress (apply Moves.tbs; decide)

theorem execOscStop_moves {t : Nat} {s : State} : MovesNext 0x800009 s (execOscStop t s) := by
  unfold execOscStop
  repeat' with_reducible first
    | apply Moves.refl | (apply Moves.via State.at_moves; decide) | apply MovesNext.next | (apply Moves.via State.setFv_moves; decide)
    | (apply Moves.via State.irq_moves; decide) | apply MovesNext.ite | apply Moves.ite | intro _ | apply Moves.foldl
    | (apply Moves.snd; assumption) | (apply Moves.fst; assumption) | apply Moves.idOf | fail_if_no_progress (apply Moves.tbs; decide)

theorem execX32Restart_moves {t : Nat} {s : State} : MovesNext 0x800009 s (execX32Restart t s) := by
  unfold execX32Restart
  repeat' with_reducible first
    | apply Moves.refl | (apply Moves.via State.at_moves; decide) | apply MovesNext.next | (apply Moves.via State.setFv_moves; decide)
    | apply MovesNext.ite | apply Moves.ite | intro _ | apply Moves.foldl | (apply Moves.snd; assumption)
    | (apply Moves.fst; assumption) | apply Moves.idOf | fail_if_no_progress (apply Moves.tbs; decide)

end Sys2Proof.Machine
end

