-- ==== Sys2Proof/Laws/MovesPnl.lean ====
section
/-! SUPPORT. What the operations of Machine/Pnl.lean leave as it was (Laws/Moves.lean). -/

namespace Sys2Proof.Machine

open Sys2Proof

theorem State.beginPass_moves {s : State} {kind : Nat} {front : SMap Byte} {lines : List Nat} :
    Moves 0x8000008 s (s.beginPass kind front lines) := by
  unfold State.beginPass
  repeat' with_reducible first
    | apply Moves.refl | (apply Moves.via State.wrapInc_moves; decide) | (apply Moves.via State.setFb_moves; decide)
    | (apply Moves.via State.setFv_moves; decide) | apply Moves.ite | intro _ | apply Moves.foldl | (apply Moves.snd; assumption)
    | (apply Moves.fst; assumption) | apply Moves.idOf | fail_if_no_progress (apply Moves.pnl; decide)

theorem State.beginBand_moves {s : State} : Moves 0x8000008 s s.beginBand := by
  unfold State.beginBand
  repeat' with_reducible first
    | apply Moves.refl | (apply Moves.via State.beginPass_moves; decide) | apply Moves.ite | intro _ | apply Moves.foldl
    | (apply Moves.snd; assumption) | (apply Moves.fst; assumption) | apply Moves.idOf | fail_if_no_progress (apply Moves.pnl; decide)

theorem State.bandPass_moves {s : State} : Moves 0x8000008 s s.bandPass := by
  unfold State.bandPass
  repeat' with_reducible first
    | apply Moves.refl | (apply Moves.via State.beginBand_moves; decide) | apply Moves.ite | intro _ | apply Moves.foldl
    | (apply Moves.snd; assumption) | (apply Moves.fst; assumption) | apply Moves.idOf | fail_if_no_progress (apply Moves.pnl; decide)

theorem State.hostPass_moves {s : State} : Moves 0x8000008 s s.hostPass := by
  unfold State.hostPass
  repeat' with_reducible first
    | apply Moves.refl | (apply Moves.via State.beginPass_moves; decide) | (apply Moves.via State.setFv_moves; decide)
    | apply Moves.ite | intro _ | apply Moves.foldl | (apply Moves.snd; assumption) | (apply Moves.fst; assumption) | apply Moves.idOf
    | fail_if_no_progress (apply Moves.pnl; decide)

theorem State.crcMismatch_moves {s : State} : Moves 0x8000008 s s.crcMismatch := by
  unfold State.crcMismatch
  repeat' with_reducible first
    | apply Moves.refl | (apply Moves.via State.irq_moves; decide) | (apply Moves.via State.satInc_moves; decide)
    | (apply Moves.via State.setFb_moves; decide) | apply Moves.ite | intro _ | apply Moves.foldl | (apply Moves.snd; assumption)
    | (apply Moves.fst; assumption) | apply Moves.idOf | fail_if_no_progress (apply Moves.pnl; decide)

theorem State.rewritePass_moves {s : State} : Moves 0x8000008 s s.rewritePass := by
  unfold State.rewritePass
  repeat' with_reducible first
    | apply Moves.refl | (apply Moves.via State.beginPass_moves; decide)

theorem State.rewriteEnd_moves {s : State} : Moves 0x8000008 s s.rewriteEnd := by
  unfold State.rewriteEnd
  repeat' with_reducible first
    | apply Moves.refl | (apply Moves.via State.setFb_moves; decide) | (apply Moves.via State.crcMismatch_moves; decide)
    | (apply Moves.via State.rewritePass_moves; decide) | apply Moves.ite | intro _ | apply Moves.foldl
    | (apply Moves.snd; assumption) | (apply Moves.fst; assumption) | apply Moves.idOf | fail_if_no_progress (apply Moves.pnl; decide)

theorem State.fullPassEnd_moves {s : State} {kind : Nat} : Moves 0x8000008 s (s.fullPassEnd kind) := by
  unfold State.fullPassEnd
  repeat' with_reducible first
    | apply Moves.refl | (apply Moves.via State.rewriteEnd_moves; decide) | (apply Moves.via State.crcMismatch_moves; decide)
    | (apply Moves.via State.setFb_moves; decide) | apply Moves.ite | intro _ | apply Moves.foldl | (apply Moves.snd; assumption)
    | (apply Moves.fst; assumption) | apply Moves.idOf | fail_if_no_progress (apply Moves.pnl; decide)

theorem State.cleared_moves {s : State} : Moves 0x8000000 s s.cleared := by
  unfold State.cleared
  repeat' with_reducible first
    | apply Moves.refl | apply Moves.ite | intro _ | apply Moves.foldl | (apply Moves.snd; assumption) | (apply Moves.fst; assumption)
    | apply Moves.idOf | fail_if_no_progress (apply Moves.pnl; decide)

theorem State.passLine_moves {s : State} : Moves 0x8000008 s s.passLine := by
  unfold State.passLine
  repeat' with_reducible first
    | apply Moves.refl | (apply Moves.via State.setFv_moves; decide) | (apply Moves.via State.beginBand_moves; decide)
    | (apply Moves.via State.irq_moves; decide) | (apply Moves.via State.setFb_moves; decide)
    | (apply Moves.via State.fullPassEnd_moves; decide) | apply Moves.ite | intro _ | apply Moves.foldl
    | (apply Moves.snd; assumption) | (apply Moves.fst; assumption) | apply Moves.idOf | fail_if_no_progress (apply Moves.pnl; decide)
    | extract_lets | split

theorem State.lineWritten_moves {s : State} : Moves 0x8000008 s s.lineWritten := by
  unfold State.lineWritten
  repeat' with_reducible first
    | apply Moves.refl | (apply Moves.via State.cleared_moves; decide) | (apply Moves.via State.passLine_moves; decide)
    | apply Moves.ite | intro _

theorem State.bandRest_moves {s : State} : Moves 0x8000008 s s.bandRest := by
  unfold State.bandRest
  repeat' with_reducible first
    | apply Moves.refl | (apply Moves.via State.bandPass_moves; decide) | apply Moves.ite | intro _ | apply Moves.foldl
    | (apply Moves.snd; assumption) | (apply Moves.fst; assumption) | apply Moves.idOf | fail_if_no_progress (apply Moves.pnl; decide)

theorem State.pnlPut_moves {s : State} : Moves 0x8000000 s s.pnlPut := by
  unfold State.pnlPut
  repeat' with_reducible first
    | apply Moves.refl | apply Moves.ite | intro _ | apply Moves.foldl | (apply Moves.snd; assumption) | (apply Moves.fst; assumption)
    | apply Moves.idOf | fail_if_no_progress (apply Moves.pnl; decide)

theorem State.pnlUpdate_moves {s : State} : Moves 0x8000008 s s.pnlUpdate := by
  unfold State.pnlUpdate
  repeat' with_reducible first
    | apply Moves.refl | (apply Moves.via State.setFb_moves; decide) | apply Moves.ite | intro _ | apply Moves.foldl
    | (apply Moves.snd; assumption) | (apply Moves.fst; assumption) | apply Moves.idOf | fail_if_no_progress (apply Moves.pnl; decide)

theorem State.pnlFull_moves {s : State} : Moves 0x8000000 s s.pnlFull := by
  unfold State.pnlFull
  repeat' with_reducible first
    | apply Moves.refl | apply Moves.ite | intro _ | apply Moves.foldl | (apply Moves.snd; assumption) | (apply Moves.fst; assumption)
    | apply Moves.idOf | fail_if_no_progress (apply Moves.pnl; decide)

theorem State.pnlCopyFront_moves {s : State} : Moves 0x8000000 s s.pnlCopyFront := by
  unfold State.pnlCopyFront
  repeat' with_reducible first
    | apply Moves.refl | apply Moves.ite | intro _ | apply Moves.foldl | (apply Moves.snd; assumption) | (apply Moves.fst; assumption)
    | apply Moves.idOf | fail_if_no_progress (apply Moves.pnl; decide)

theorem State.pnlCtrl_moves {s : State} {v : Word} : Moves 0x8000008 s (s.pnlCtrl v) := by
  unfold State.pnlCtrl
  repeat' with_reducible first
    | apply Moves.refl | (apply Moves.via State.pnlPut_moves; decide) | (apply Moves.via State.pnlUpdate_moves; decide)
    | (apply Moves.via State.pnlFull_moves; decide) | (apply Moves.via State.pnlCopyFront_moves; decide) | apply Moves.ite | intro _

theorem State.tempBand_moves {s : State} : Moves 0x8 s s.tempBand := by
  unfold State.tempBand
  repeat' with_reducible first
    | apply Moves.refl | (apply Moves.via State.setFb_moves; decide) | (apply Moves.via State.irqIf_moves; decide)
    | (apply Moves.via State.setFv_moves; decide) | apply Moves.ite | intro _

theorem State.pnlClear_moves {s : State} : Moves 0x8000008 s s.pnlClear := by
  unfold State.pnlClear
  repeat' with_reducible first
    | apply Moves.refl | (apply Moves.via State.setFb_moves; decide) | apply Moves.ite | intro _ | apply Moves.foldl
    | (apply Moves.snd; assumption) | (apply Moves.fst; assumption) | apply Moves.idOf | fail_if_no_progress (apply Moves.pnl; decide)

theorem State.pvenRises_moves {s : State} : Moves 0x8000000 s s.pvenRises := by
  unfold State.pvenRises
  repeat' with_reducible first
    | apply Moves.refl | apply Moves.ite | intro _ | apply Moves.foldl | (apply Moves.snd; assumption) | (apply Moves.fst; assumption)
    | apply Moves.idOf | fail_if_no_progress (apply Moves.pnl; decide)

theorem State.pnlPower_moves {s : State} : Moves 0x8000008 s s.pnlPower := by
  unfold State.pnlPower
  repeat' with_reducible first
    | apply Moves.refl | (apply Moves.via State.pvenRises_moves; decide) | (apply Moves.via State.setFb_moves; decide)
    | apply Moves.ite | intro _ | apply Moves.foldl | (apply Moves.snd; assumption) | (apply Moves.fst; assumption) | apply Moves.idOf
    | fail_if_no_progress (apply Moves.pnl; decide)

theorem State.blinkCommitted_moves {s : State} : Moves 0x8000008 s s.blinkCommitted := by
  unfold State.blinkCommitted
  repeat' with_reducible first
    | apply Moves.refl | (apply Moves.via State.bandPass_moves; decide) | apply Moves.ite | intro _ | apply Moves.foldl
    | (apply Moves.snd; assumption) | (apply Moves.fst; assumption) | apply Moves.idOf | fail_if_no_progress (apply Moves.pnl; decide)

theorem State.pnlCommitted_moves {s : State} {old : State} : Moves 0x8000008 s (s.pnlCommitted old) := by
  unfold State.pnlCommitted
  repeat' with_reducible first
    | apply Moves.refl | (apply Moves.via State.pnlClear_moves; decide) | (apply Moves.via State.blinkCommitted_moves; decide)
    | (apply Moves.via State.pnlPower_moves; decide) | apply Moves.ite | intro _ | apply Moves.foldl | (apply Moves.snd; assumption)
    | (apply Moves.fst; assumption) | apply Moves.idOf | fail_if_no_progress (apply Moves.pnl; decide)

theorem State.pnlStop_moves {s : State} : Moves 0x8000008 s s.pnlStop := by
  unfold State.pnlStop
  repeat' with_reducible first
    | apply Moves.refl | (apply Moves.via State.lineWritten_moves; decide) | apply Moves.ite | intro _ | apply Moves.foldl
    | (apply Moves.snd; assumption) | (apply Moves.fst; assumption) | apply Moves.idOf | fail_if_no_progress (apply Moves.pnl; decide)

theorem State.pnlOff_moves {s : State} : Moves 0x8000000 s s.pnlOff := by
  unfold State.pnlOff
  repeat' with_reducible first
    | apply Moves.refl | apply Moves.ite | intro _ | apply Moves.foldl | (apply Moves.snd; assumption) | (apply Moves.fst; assumption)
    | apply Moves.idOf | fail_if_no_progress (apply Moves.pnl; decide)

theorem State.pnlStart_moves {s : State} : Moves 0x8000008 s s.pnlStart := by
  unfold State.pnlStart
  repeat' with_reducible first
    | apply Moves.refl | (apply Moves.via State.setFv_moves; decide) | (apply Moves.via State.setFb_moves; decide)
    | (apply Moves.via State.satInc_moves; decide) | (apply Moves.via State.pvenRises_moves; decide) | apply Moves.ite | intro _
    | apply Moves.foldl | (apply Moves.snd; assumption) | (apply Moves.fst; assumption) | apply Moves.idOf
    | fail_if_no_progress (apply Moves.pnl; decide) | extract_lets | split

theorem execPassStart_moves {t : Nat} {s : State} : MovesNext 0x8800009 s (execPassStart t s) := by
  unfold execPassStart
  repeat' with_reducible first
    | apply Moves.refl | (apply Moves.via State.at_moves; decide) | apply MovesNext.next
    | (apply Moves.via State.beginBand_moves; decide) | (apply Moves.via State.hostPass_moves; decide) | apply MovesNext.ite
    | apply Moves.ite | intro _

theorem execLineWritten_moves {t : Nat} {s : State} : MovesNext 0x8800009 s (execLineWritten t s) := by
  unfold execLineWritten
  repeat' with_reducible first
    | apply Moves.refl | (apply Moves.via State.at_moves; decide) | apply MovesNext.next
    | (apply Moves.via State.lineWritten_moves; decide) | apply MovesNext.ite | apply Moves.ite | intro _

theorem execBandPass_moves {t : Nat} {s : State} : MovesNext 0x8800009 s (execBandPass t s) := by
  unfold execBandPass
  repeat' with_reducible first
    | apply Moves.refl | (apply Moves.via State.at_moves; decide) | apply MovesNext.next
    | (apply Moves.via State.bandPass_moves; decide) | apply MovesNext.ite | apply Moves.ite | intro _

theorem execBlink_moves {t : Nat} {s : State} : MovesNext 0x8800009 s (execBlink t s) := by
  unfold execBlink
  repeat' with_reducible first
    | apply Moves.refl | (apply Moves.via State.at_moves; decide) | apply MovesNext.next
    | (apply Moves.via State.bandPass_moves; decide) | apply MovesNext.ite | apply Moves.ite | intro _ | apply Moves.foldl
    | (apply Moves.snd; assumption) | (apply Moves.fst; assumption) | apply Moves.idOf | fail_if_no_progress (apply Moves.pnl; decide)

theorem execIdleCrcCheck_moves {t : Nat} {upsets shadowUpsets : List (Nat × Byte)} {s : State} :
    MovesNext 0x8800009 s (execIdleCrcCheck t upsets shadowUpsets s) := by
  unfold execIdleCrcCheck
  repeat' with_reducible first
    | apply Moves.refl | (apply Moves.via State.at_moves; decide) | apply MovesNext.next
    | (apply Moves.via State.crcMismatch_moves; decide) | apply MovesNext.ite | apply Moves.ite | intro _ | apply Moves.foldl
    | (apply Moves.snd; assumption) | (apply Moves.fst; assumption) | apply Moves.idOf | fail_if_no_progress (apply Moves.pnl; decide)

theorem execPanelRewrite_moves {t : Nat} {upsets : List (Nat × Byte)} {s : State} :
    MovesNext 0x8800009 s (execPanelRewrite t upsets s) := by
  unfold execPanelRewrite
  repeat' with_reducible first
    | apply Moves.refl | (apply Moves.via State.at_moves; decide) | apply MovesNext.next
    | (apply Moves.via State.rewritePass_moves; decide) | apply MovesNext.ite | apply Moves.ite | intro _ | apply Moves.foldl
    | (apply Moves.snd; assumption) | (apply Moves.fst; assumption) | apply Moves.idOf | fail_if_no_progress (apply Moves.pnl; decide)

theorem execPcomEdge_moves {t : Nat} {s : State} : MovesNext 0x8800001 s (execPcomEdge t s) := by
  unfold execPcomEdge
  repeat' with_reducible first
    | apply Moves.refl | (apply Moves.via State.at_moves; decide) | apply MovesNext.next | apply MovesNext.ite | apply Moves.ite
    | intro _ | apply Moves.foldl | (apply Moves.snd; assumption) | (apply Moves.fst; assumption) | apply Moves.idOf
    | fail_if_no_progress (apply Moves.pnl; decide)

end Sys2Proof.Machine
end

