-- ==== Sys2Proof/Laws/MovesPte.lean ====
section
/-! SUPPORT. What the operations of Machine/Pte.lean leave as it was (Laws/Moves.lean). -/

namespace Sys2Proof.Machine

open Sys2Proof

theorem State.sysPoint_moves {s : State} {n : Nat} {v lo hi : Q} : Moves 0x8180C s (s.sysPoint n v lo hi) := by
  unfold State.sysPoint
  repeat' with_reducible first
    | apply Moves.refl | (apply Moves.via State.sourceWrite_moves; decide)

theorem State.renewPoints_moves {s : State} {vmain avdd vsx vbackup temp power : Q} :
    Moves 0x8180C s (s.renewPoints vmain avdd vsx vbackup temp power) := by
  unfold State.renewPoints
  repeat' with_reducible first
    | apply Moves.refl | (apply Moves.via State.sysPoint_moves; decide) | (apply Moves.via State.sourceWrite_moves; decide)
    | apply Moves.ite | intro _ | apply Moves.foldl

theorem State.laneEval_moves {now : Nat} {l : List (Nat × Shadow)} : ∀ {s : State}, Moves 0x81808 s (s.laneEval now l).1 := by
  induction l with
  | nil => exact Moves.refl _ _
  | cons n l ih =>
    intro s
    unfold State.laneEval
    dsimp only
    split
    · exact State.irq_moves.weaken (by decide)
    · exact (State.scalarEval_moves.weaken (by decide)).trans ih

theorem State.laneGo_moves {s : State} {reev : Nat} : Moves 0x81808 s (s.laneGo reev) := by
  unfold State.laneGo
  repeat' with_reducible first
    | apply Moves.refl | (apply Moves.via State.laneEval_moves; decide) | (apply Moves.via State.classEvents_moves; decide)
    | (apply Moves.via State.setFb_moves; decide) | (apply Moves.via State.setFv_moves; decide)
    | (apply Moves.via State.wrapInc_moves; decide) | apply Moves.ite | intro _ | apply Moves.foldl | (apply Moves.snd; assumption)
    | (apply Moves.fst; assumption) | apply Moves.idOf | fail_if_no_progress (apply Moves.pte; decide) | extract_lets | split

theorem State.lanePass_moves {s : State} {reev : Nat} : Moves 0x8180C s (s.lanePass reev) := by
  unfold State.lanePass
  repeat' with_reducible first
    | apply Moves.refl | (apply Moves.via State.wrapInc_moves; decide) | (apply Moves.via State.setStamp_moves; decide)
    | (apply Moves.via State.draw_moves; decide) | (apply Moves.via State.setFv_moves; decide)
    | (apply Moves.via State.setFb_moves; decide) | (apply Moves.via State.irq_moves; decide)
    | (apply Moves.via State.satInc_moves; decide) | (apply Moves.via State.laneGo_moves; decide) | apply Moves.ite | intro _
    | apply Moves.foldl | (apply Moves.snd; assumption) | (apply Moves.fst; assumption) | apply Moves.idOf
    | fail_if_no_progress (apply Moves.pte; decide) | extract_lets | split

theorem State.frontier_moves {s : State} {p : Nat} : Moves 0x80008 s (s.frontier p) := by
  unfold State.frontier
  repeat' with_reducible first
    | apply Moves.refl | (apply Moves.via State.setFv_moves; decide) | apply Moves.ite | intro _ | apply Moves.foldl
    | (apply Moves.snd; assumption) | (apply Moves.fst; assumption) | apply Moves.idOf | fail_if_no_progress (apply Moves.pte; decide)

theorem State.enterPlane_moves {s : State} {i : Nat} : Moves 0x80008 s (s.enterPlane i) := by
  unfold State.enterPlane
  repeat' with_reducible first
    | apply Moves.refl | (apply Moves.via State.irq_moves; decide) | (apply Moves.via State.setFv_moves; decide)
    | (apply Moves.via State.satInc_moves; decide) | apply Moves.ite | intro _ | apply Moves.foldl | (apply Moves.snd; assumption)
    | (apply Moves.fst; assumption) | apply Moves.idOf | fail_if_no_progress (apply Moves.pte; decide)

theorem State.leavePlane_moves {s : State} {i : Nat} : Moves 0xE580C s (s.leavePlane i) := by
  unfold State.leavePlane
  repeat' with_reducible first
    | apply Moves.refl | (apply Moves.via State.frontier_moves; decide) | (apply Moves.via State.planeUnlatched_moves; decide)
    | apply Moves.ite | intro _ | apply Moves.foldl | (apply Moves.snd; assumption) | (apply Moves.fst; assumption) | apply Moves.idOf
    | fail_if_no_progress (apply Moves.pte; decide)

theorem State.sweepEval_moves {x : AtPlane} {l : List Nat} : ∀ {s : State}, Moves 0xE580C s (s.sweepEval x l) := by
  induction l with
  | nil => exact State.leavePlane_moves.weaken (by decide)
  | cons p l ih =>
    exact Moves.ite (fun _ => Moves.via State.irq_moves (by decide) (State.frontier_moves.weaken (by decide)))
      (fun _ => (State.specEval_moves.weaken (by decide)).trans ih)

theorem State.sweepShift_moves {s : State} {n : Nat} : Moves 0x80000 s (s.sweepShift n) := by
  unfold State.sweepShift
  repeat' with_reducible first
    | apply Moves.refl | apply Moves.ite | intro _ | apply Moves.foldl | (apply Moves.snd; assumption) | (apply Moves.fst; assumption)
    | apply Moves.idOf | fail_if_no_progress (apply Moves.pte; decide)

theorem State.runsShift_moves {s : State} {n : Nat} : Moves 0x80000 s (s.runsShift n) := by
  unfold State.runsShift
  repeat' with_reducible first
    | apply Moves.refl | apply Moves.ite | intro _ | apply Moves.foldl | (apply Moves.snd; assumption) | (apply Moves.fst; assumption)
    | apply Moves.idOf | fail_if_no_progress (apply Moves.pte; decide)

theorem execScalarPass_moves {t : Nat} {vmain avdd vsx vbackup temp power : Q} {reev : Nat} {ecc : EccFinds} {s : State} :
    MovesNext 0x8C180D s (execScalarPass t vmain avdd vsx vbackup temp power reev ecc s) := by
  unfold execScalarPass
  repeat' with_reducible first
    | apply Moves.refl | (apply Moves.via State.at_moves; decide) | apply MovesNext.next
    | (apply Moves.via State.hotRate_moves; decide) | (apply Moves.via State.renewPoints_moves; decide)
    | (apply Moves.via State.eccFinds_moves; decide) | (apply Moves.via State.laneGo_moves; decide)
    | (apply Moves.via State.lanePass_moves; decide) | (apply Moves.via State.irqIf_moves; decide)
    | (apply Moves.via State.safShow_moves; decide) | (apply Moves.via State.tempBand_moves; decide) | apply MovesNext.ite
    | apply Moves.ite | intro _

theorem execSweepStart_moves {t : Nat} {s : State} : MovesNext 0x880009 s (execSweepStart t s) := by
  unfold execSweepStart
  repeat' with_reducible first
    | apply Moves.refl | (apply Moves.via State.at_moves; decide) | apply MovesNext.next
    | (apply Moves.via State.setStamp_moves; decide) | (apply Moves.via State.wrapInc_moves; decide)
    | (apply Moves.via State.setFv_moves; decide) | (apply Moves.via State.frontier_moves; decide) | apply MovesNext.ite
    | apply Moves.ite | intro _ | apply Moves.foldl | (apply Moves.snd; assumption) | (apply Moves.fst; assumption) | apply Moves.idOf
    | fail_if_no_progress (apply Moves.pte; decide)

theorem execPlaneEvaluation_moves {t reev : Nat} {ecc : EccFinds} {s : State} :
    MovesNext 0x8E580D s (execPlaneEvaluation t reev ecc s) := by
  unfold execPlaneEvaluation
  repeat' with_reducible first
    | apply Moves.refl | (apply Moves.via State.at_moves; decide) | apply MovesNext.next | (apply Moves.via State.irqIf_moves; decide)
    | (apply Moves.via State.frontier_moves; decide) | (apply Moves.via State.leavePlane_moves; decide)
    | (apply Moves.via State.eccFinds_moves; decide) | (apply Moves.via State.enterPlane_moves; decide)
    | (apply Moves.via State.safShow_moves; decide) | (apply Moves.via State.classEvents_moves; decide)
    | (apply Moves.via State.sweepEval_moves; decide) | (apply Moves.via State.wrapInc_moves; decide) | apply MovesNext.ite
    | apply Moves.ite | intro _ | apply Moves.foldl | apply Moves.idOf | extract_lets | split

theorem execSweepEnd_moves {t conflict shelf : Nat} {s : State} : MovesNext 0xCC180D s (execSweepEnd t conflict shelf s) := by
  unfold execSweepEnd
  repeat' with_reducible first
    | apply Moves.refl | (apply Moves.via State.at_moves; decide) | apply MovesNext.next | (apply Moves.via State.setFv_moves; decide)
    | (apply Moves.via State.setFb_moves; decide) | (apply Moves.via State.irq_moves; decide)
    | (apply Moves.via State.satInc_moves; decide) | (apply Moves.via State.stoSweep_moves; decide) | apply MovesNext.ite
    | apply Moves.ite | intro _

end Sys2Proof.Machine
end

