-- ==== Sys2Proof/Laws/MovesAge.lean ====
section
/-! SUPPORT. What the operations of Machine/Age.lean leave as it was (Laws/Moves.lean). -/

namespace Sys2Proof.Machine

open Sys2Proof

theorem State.ageCount_moves {s : State} {run op : Bool} : Moves 0x40000000 s (s.ageCount run op) := by
  unfold State.ageCount
  repeat' with_reducible first
    | apply Moves.refl | apply Moves.ite | intro _ | apply Moves.foldl | (apply Moves.snd; assumption) | (apply Moves.fst; assumption)
    | apply Moves.idOf | fail_if_no_progress (apply Moves.age; decide)

theorem State.showMargin_moves {s : State} {d : Nat} : Moves 0x4008180C s (s.showMargin d) := by
  unfold State.showMargin
  repeat' with_reducible first
    | apply Moves.refl | (apply Moves.via State.setFv_moves; decide) | (apply Moves.via State.sourceWrite_moves; decide)
    | (apply Moves.via State.irqIf_moves; decide) | apply Moves.ite | intro _ | apply Moves.foldl | (apply Moves.snd; assumption)
    | (apply Moves.fst; assumption) | apply Moves.idOf | fail_if_no_progress (apply Moves.age; decide)

theorem State.showLowest_moves {s : State} : Moves 0x8 s s.showLowest := by
  unfold State.showLowest
  repeat' with_reducible first
    | apply Moves.refl | (apply Moves.via State.setFb_moves; decide) | (apply Moves.via State.setFv_moves; decide)

theorem State.keepDay_moves {s : State} {d : Nat} : Moves 0x40000000 s (s.keepDay d) := by
  unfold State.keepDay
  repeat' with_reducible first
    | apply Moves.refl | apply Moves.ite | intro _ | apply Moves.foldl | (apply Moves.snd; assumption) | (apply Moves.fst; assumption)
    | apply Moves.idOf | fail_if_no_progress (apply Moves.age; decide)

theorem State.measureDomain_moves {s : State} {m : MonitorInput} {d : Nat} : Moves 0x4008180C s (s.measureDomain m d) := by
  unfold State.measureDomain
  repeat' with_reducible first
    | apply Moves.refl | (apply Moves.via State.setFv_moves; decide) | (apply Moves.via State.showMargin_moves; decide)
    | (apply Moves.via State.keepDay_moves; decide) | apply Moves.ite | intro _ | apply Moves.foldl | (apply Moves.snd; assumption)
    | (apply Moves.fst; assumption) | apply Moves.idOf | fail_if_no_progress (apply Moves.age; decide)

theorem State.watchRelax_moves {s : State} {m : MonitorInput} : Moves 0x40000000 s (s.watchRelax m) := by
  unfold State.watchRelax
  repeat' with_reducible first
    | apply Moves.refl | apply Moves.ite | intro _ | apply Moves.foldl | (apply Moves.snd; assumption) | (apply Moves.fst; assumption)
    | apply Moves.idOf | fail_if_no_progress (apply Moves.age; decide)

theorem State.plannedShow_moves {s : State} : Moves 0x8 s s.plannedShow := by
  unfold State.plannedShow
  repeat' with_reducible first
    | apply Moves.refl | (apply Moves.via State.setFv_moves; decide) | apply Moves.ite | intro _ | apply Moves.foldl

theorem State.setPlan_moves {s : State} {p : Option AgePlan} : Moves 0x40000000 s (s.setPlan p) := by
  unfold State.setPlan
  repeat' with_reducible first
    | apply Moves.refl | apply Moves.ite | intro _ | apply Moves.foldl | (apply Moves.snd; assumption) | (apply Moves.fst; assumption)
    | apply Moves.idOf | fail_if_no_progress (apply Moves.age; decide)

theorem State.raiseOffset_moves {s : State} {p : AgePlan} {d : Nat} : Moves 0x40000008 s (s.raiseOffset p d) := by
  unfold State.raiseOffset
  repeat' with_reducible first
    | apply Moves.refl | (apply Moves.via State.setPlan_moves; decide) | (apply Moves.via State.setFv_moves; decide) | apply Moves.ite
    | intro _

theorem State.raiseOffsets_moves {s : State} : Moves 0x40000008 s s.raiseOffsets := by
  unfold State.raiseOffsets
  repeat' with_reducible first
    | apply Moves.refl | (apply Moves.via State.raiseOffset_moves; decide) | (apply Moves.via State.setPlan_moves; decide)
    | apply Moves.ite | intro _ | apply Moves.foldl | (apply Moves.snd; assumption) | (apply Moves.fst; assumption) | apply Moves.idOf
    | extract_lets | split

theorem State.lowerOffsets_moves {s : State} {p : AgePlan} : Moves 0x8 s (s.lowerOffsets p) := by
  unfold State.lowerOffsets
  repeat' with_reducible first
    | apply Moves.refl | (apply Moves.via State.setFv_moves; decide) | apply Moves.ite | intro _ | apply Moves.foldl

theorem State.planCaps_moves {s : State} : Moves 0x40040008 s s.planCaps := by
  unfold State.planCaps
  repeat' with_reducible first
    | apply Moves.refl | (apply Moves.via State.setFv_moves; decide) | (apply Moves.via State.rowDue_moves; decide) | apply Moves.ite
    | intro _ | apply Moves.foldl | (apply Moves.snd; assumption) | (apply Moves.fst; assumption) | apply Moves.idOf
    | fail_if_no_progress (apply Moves.age; decide)

theorem State.planEnds_moves {s : State} {p : AgePlan} : Moves 0x40444008 s (s.planEnds p) := by
  unfold State.planEnds
  repeat' with_reducible first
    | apply Moves.refl | (apply Moves.via State.planCaps_moves; decide) | (apply Moves.via State.lowerOffsets_moves; decide)
    | (apply Moves.via State.plannedShow_moves; decide) | (apply Moves.via State.sysTrigger_moves; decide)
    | (apply Moves.via State.satInc_moves; decide) | (apply Moves.via State.setFv_moves; decide)
    | (apply Moves.via State.irq_moves; decide) | (apply Moves.via State.irqIf_moves; decide)
    | (apply Moves.via State.setPlan_moves; decide) | (apply Moves.via State.showLowest_moves; decide)
    | (apply Moves.via State.tallyDone_moves; decide) | apply Moves.ite | intro _ | apply Moves.foldl

theorem State.planGoes_moves {s : State} : Moves 0x40444008 s s.planGoes := by
  unfold State.planGoes
  repeat' with_reducible first
    | apply Moves.refl | (apply Moves.via State.raiseOffsets_moves; decide) | (apply Moves.via State.planEnds_moves; decide)
    | apply Moves.ite | intro _ | apply Moves.foldl | (apply Moves.snd; assumption) | (apply Moves.fst; assumption) | apply Moves.idOf
    | extract_lets | split

theorem State.planStarts_moves {s : State} {src tally : Nat} {apply : Bool} : Moves 0x40444008 s (s.planStarts src tally apply) := by
  unfold State.planStarts
  repeat' with_reducible first
    | apply Moves.refl | (apply Moves.via State.wrapInc_moves; decide) | (apply Moves.via State.setFv_moves; decide)
    | (apply Moves.via State.setPlan_moves; decide) | (apply Moves.via State.setStamp_moves; decide)
    | (apply Moves.via State.planGoes_moves; decide) | (apply Moves.via State.irqIf_moves; decide)

theorem State.planStops_moves {s : State} : Moves 0x40000008 s s.planStops := by
  unfold State.planStops
  repeat' with_reducible first
    | apply Moves.refl | (apply Moves.via State.setFv_moves; decide) | (apply Moves.via State.setPlan_moves; decide)

theorem State.planTallyStops_moves {s : State} {n : Nat} : Moves 0x40000008 s (s.planTallyStops n) := by
  unfold State.planTallyStops
  repeat' with_reducible first
    | apply Moves.refl | (apply Moves.via State.planStops_moves; decide) | apply Moves.ite | intro _ | apply Moves.foldl
    | (apply Moves.snd; assumption) | (apply Moves.fst; assumption) | apply Moves.idOf | extract_lets | split

theorem State.planLate_moves {s : State} : Moves 0x40004008 s s.planLate := by
  unfold State.planLate
  repeat' with_reducible first
    | apply Moves.refl | (apply State.lateStop_moves; decide) | (apply Moves.via State.planTallyStops_moves; decide) | apply Moves.ite
    | intro _ | apply Moves.foldl | (apply Moves.snd; assumption) | (apply Moves.fst; assumption) | apply Moves.idOf | extract_lets
    | split

theorem State.ageCtrl_moves {s : State} {p : Port} {v : Word} : Moves 0x648 s (s.ageCtrl p v) := by
  unfold State.ageCtrl
  repeat' with_reducible first
    | apply Moves.refl | (apply Moves.via State.clampAt_moves; decide) | (apply Moves.via State.setFv_moves; decide)
    | (apply Moves.via State.plannedShow_moves; decide) | (apply Moves.via State.setReg_moves; decide) | apply Moves.ite | intro _
    | apply Moves.foldl

theorem execMonitorPass_moves {t : Nat} {m : MonitorInput} {s : State} : MovesNext 0x4088180D s (execMonitorPass t m s) := by
  unfold execMonitorPass
  repeat' with_reducible first
    | apply Moves.refl | (apply Moves.via State.at_moves; decide) | apply MovesNext.next
    | (apply Moves.via State.watchRelax_moves; decide) | (apply Moves.via State.measureDomain_moves; decide)
    | (apply Moves.via State.setFv_moves; decide) | (apply Moves.via State.showLowest_moves; decide) | apply MovesNext.ite
    | apply Moves.ite | intro _ | apply Moves.foldl | (apply Moves.snd; assumption) | (apply Moves.fst; assumption) | apply Moves.idOf
    | fail_if_no_progress (apply Moves.age; decide)

theorem execPlanDue_moves {t : Nat} {s : State} : MovesNext 0x40800001 s (execPlanDue t s) := by
  unfold execPlanDue
  repeat' with_reducible first
    | apply Moves.refl | (apply Moves.via State.at_moves; decide) | apply MovesNext.next | apply MovesNext.ite | apply Moves.ite
    | intro _ | apply Moves.foldl | (apply Moves.snd; assumption) | (apply Moves.fst; assumption) | apply Moves.idOf
    | fail_if_no_progress (apply Moves.age; decide)

theorem execPlan_moves {t : Nat} {s : State} : MovesNext 0x40C44009 s (execPlan t s) := by
  unfold execPlan
  repeat' with_reducible first
    | apply Moves.refl | (apply Moves.via State.at_moves; decide) | apply MovesNext.next
    | (apply Moves.via State.planStarts_moves; decide) | apply MovesNext.ite | apply Moves.ite | intro _ | apply Moves.foldl
    | (apply Moves.snd; assumption) | (apply Moves.fst; assumption) | apply Moves.idOf | fail_if_no_progress (apply Moves.age; decide)
    | extract_lets | split

theorem execMarginPlan_moves {t tally : Nat} {s : State} : MovesNext 0x40C44009 s (execMarginPlan t tally s) := by
  unfold execMarginPlan
  repeat' with_reducible first
    | apply Moves.refl | (apply Moves.via State.at_moves; decide) | apply MovesNext.next
    | (apply Moves.via State.planStarts_moves; decide) | (apply State.lateStop_moves; decide)
    | (apply Moves.via State.planTallyStops_moves; decide) | apply MovesNext.ite | apply Moves.ite | intro _ | apply Moves.foldl
    | apply Moves.idOf | extract_lets | split

theorem execOffsetStepSettled_moves {t : Nat} {completion : Q} {s : State} :
    MovesNext 0x40CC580D s (execOffsetStepSettled t completion s) := by
  unfold execOffsetStepSettled
  repeat' with_reducible first
    | apply Moves.refl | (apply Moves.via State.at_moves; decide) | apply MovesNext.next
    | (apply Moves.via State.planLate_moves; decide) | (apply Moves.via State.planGoes_moves; decide)
    | (apply Moves.via State.setPlan_moves; decide) | (apply Moves.via State.showMargin_moves; decide)
    | (apply Moves.via State.raiseOffset_moves; decide) | apply MovesNext.ite | apply Moves.ite | intro _ | apply Moves.foldl
    | (apply Moves.snd; assumption) | (apply Moves.fst; assumption) | apply Moves.idOf | fail_if_no_progress (apply Moves.age; decide)
    | extract_lets | split

end Sys2Proof.Machine
end

