-- ==== Sys2Proof/Laws/MovesEvents.lean ====
section
/-! SUPPORT. What the operations of Machine/Events.lean leave as it was (Laws/Moves.lean). -/

namespace Sys2Proof.Machine

open Sys2Proof

theorem State.conv4Fails_moves {s : State} {k : Nat} : Moves 0x2008980C s (s.conv4Fails k) := by
  unfold State.conv4Fails
  repeat' with_reducible first
    | apply Moves.refl | (apply Moves.via State.scShow_moves; decide) | (apply Moves.via State.scFaults_moves; decide)
    | (apply Moves.via State.termShow_moves; decide) | apply Moves.ite | intro _ | apply Moves.foldl | (apply Moves.snd; assumption)
    | (apply Moves.fst; assumption) | apply Moves.idOf | fail_if_no_progress (apply Moves.saf; decide)

theorem State.conv4Clears_moves {s : State} {k : Nat} : Moves 0x2008980C s (s.conv4Clears k) := by
  unfold State.conv4Clears
  repeat' with_reducible first
    | apply Moves.refl | (apply Moves.via State.scShow_moves; decide) | (apply Moves.via State.scFaults_moves; decide)
    | (apply Moves.via State.sourceQuality_moves; decide) | apply Moves.ite | intro _ | apply Moves.foldl
    | (apply Moves.snd; assumption) | (apply Moves.fst; assumption) | apply Moves.idOf | fail_if_no_progress (apply Moves.saf; decide)

theorem State.diagnosticFails_moves {s : State} {code detail : Nat} : Moves 0x30489E4C s (s.diagnosticFails code detail) := by
  unfold State.diagnosticFails
  repeat' with_reducible first
    | apply Moves.refl | (apply Moves.via State.conv4Fails_moves; decide) | (apply Moves.via State.setFv_moves; decide)
    | (apply Moves.via State.safShow_moves; decide) | (apply Moves.via State.diagFail_moves; decide) | apply Moves.ite | intro _

theorem State.inputEdge_moves {s : State} {ch : Nat} {on : Bool} {stamp : Nat} : Moves 0x34783E4C s (s.inputEdge ch on stamp) := by
  unfold State.inputEdge
  repeat' with_reducible first
    | apply Moves.refl | (apply Moves.via State.ackInput_moves; decide) | (apply Moves.via State.fbeTrigger_moves; decide)
    | (apply Moves.via State.wakeSource_moves; decide) | apply Moves.ite | intro _ | apply Moves.foldl

theorem execDiagnosticFail_moves {t code detail : Nat} {s : State} : MovesNext 0x30C89E4D s (execDiagnosticFail t code detail s) := by
  unfold execDiagnosticFail
  repeat' with_reducible first
    | apply Moves.refl | (apply Moves.via State.at_moves; decide) | apply MovesNext.next
    | (apply Moves.via State.diagnosticFails_moves; decide)

theorem execDiagnosticClear_moves {t code detail : Nat} {s : State} : MovesNext 0x2088980D s (execDiagnosticClear t code detail s) := by
  unfold execDiagnosticClear
  repeat' with_reducible first
    | apply Moves.refl | (apply Moves.via State.at_moves; decide) | apply MovesNext.next
    | (apply Moves.via State.conv4Clears_moves; decide) | (apply Moves.via State.diagClear_moves; decide) | apply MovesNext.ite
    | apply Moves.ite | intro _

theorem execSelftest_moves {t tally failed : Nat} {s : State} : MovesNext 0x30C04649 s (execSelftest t tally failed s) := by
  unfold execSelftest
  repeat' with_reducible first
    | apply Moves.refl | (apply Moves.via State.at_moves; decide) | apply MovesNext.next
    | (apply Moves.via State.selftestEnds_moves; decide) | (apply Moves.via State.tallyDone_moves; decide)
    | (apply State.lateStop_moves; decide) | apply MovesNext.ite | apply Moves.ite | intro _ | apply Moves.foldl
    | (apply Moves.snd; assumption) | (apply Moves.fst; assumption) | apply Moves.idOf | extract_lets | split

theorem execUpFrameA_moves {t : Nat} {ok : Bool} {seq rb : Nat} {s : State} : MovesNext 0x35F83E4D s (execUpFrameA t ok seq rb s) := by
  unfold execUpFrameA
  repeat' with_reducible first
    | apply Moves.refl | (apply Moves.via State.at_moves; decide) | apply MovesNext.next
    | (apply Moves.via State.upFrameSent_moves; decide) | (apply Moves.via State.upFrameSeen_moves; decide)
    | (apply Moves.via State.upFrameBad_moves; decide) | (apply Moves.via State.upFrameA_moves; decide)
    | (apply Moves.via State.failsUntil_moves; decide) | (apply Moves.via State.inputEdge_moves; decide) | apply MovesNext.ite
    | apply Moves.ite | intro _ | apply Moves.foldl

theorem execCanFrameReceived_moves {t : Nat} {port : Fin 2} {stamp : Nat} {frame : CanFrame} {s : State} :
    MovesNext 0x4B0000D s (execCanFrameReceived t port stamp frame s) := by
  unfold execCanFrameReceived
  repeat' with_reducible first
    | apply Moves.refl | (apply Moves.via State.at_moves; decide) | apply MovesNext.next
    | (apply Moves.via State.canReceive_moves; decide) | (apply Moves.via State.answerReceived_moves; decide)
    | (apply Moves.via State.fbeTrigger_moves; decide) | apply MovesNext.ite | apply Moves.ite | intro _ | apply Moves.foldl
    | apply Moves.idOf | extract_lets | split

theorem execAvddLost_moves {t : Nat} {s : State} : MovesNext 0x89B80D s (execAvddLost t s) := by
  unfold execAvddLost
  repeat' with_reducible first
    | apply Moves.refl | (apply Moves.via State.at_moves; decide) | apply MovesNext.next
    | (apply Moves.via State.dynAvddLost_moves; decide) | (apply Moves.via State.sacAvddLost_moves; decide) | apply MovesNext.ite
    | apply Moves.ite | intro _ | apply Moves.foldl | (apply Moves.snd; assumption) | (apply Moves.fst; assumption) | apply Moves.idOf
    | fail_if_no_progress (apply Moves.pwr; decide)

theorem execAvddRestored_moves {t : Nat} {s : State} : MovesNext 0x89380D s (execAvddRestored t s) := by
  unfold execAvddRestored
  repeat' with_reducible first
    | apply Moves.refl | (apply Moves.via State.at_moves; decide) | apply MovesNext.next
    | (apply Moves.via State.dynAvddBack_moves; decide) | (apply Moves.via State.sacAvddBack_moves; decide) | apply MovesNext.ite
    | apply Moves.ite | intro _ | apply Moves.foldl | (apply Moves.snd; assumption) | (apply Moves.fst; assumption) | apply Moves.idOf
    | fail_if_no_progress (apply Moves.pwr; decide)

end Sys2Proof.Machine
end

