-- ==== Sys2Proof/Laws/MovesFbe.lean ====
section
/-! SUPPORT. What the operations of Machine/Fbe.lean leave as it was (Laws/Moves.lean). -/

namespace Sys2Proof.Machine

open Sys2Proof

theorem State.fbeShow_moves {s : State} : Moves 0x8 s s.fbeShow := by
  unfold State.fbeShow
  repeat' with_reducible first
    | apply Moves.refl | (apply Moves.via State.setFv_moves; decide)

theorem State.taskShow_moves {s : State} : Moves 0x8 s s.taskShow := by
  unfold State.taskShow
  repeat' with_reducible first
    | apply Moves.refl | (apply Moves.via State.setFv_moves; decide) | apply Moves.ite | intro _ | apply Moves.foldl

theorem State.taskOverrun_moves {s : State} {n : Nat} : Moves 0x30600648 s (s.taskOverrun n) := by
  unfold State.taskOverrun
  repeat' with_reducible first
    | apply Moves.refl | (apply Moves.via State.setTask_moves; decide) | (apply Moves.via State.irq_moves; decide)
    | (apply Moves.via State.satInc_moves; decide) | (apply Moves.via State.diagFail_moves; decide) | apply Moves.ite | intro _
    | apply Moves.foldl | (apply Moves.snd; assumption) | (apply Moves.fst; assumption) | apply Moves.idOf
    | fail_if_no_progress (apply Moves.fbe; decide)

theorem State.releaseTask_moves {s : State} {n stamp : Nat} : Moves 0x20200008 s (s.releaseTask n stamp) := by
  unfold State.releaseTask
  repeat' with_reducible first
    | apply Moves.refl | (apply Moves.via State.taskShow_moves; decide) | (apply Moves.via State.setTask_moves; decide)
    | (apply Moves.via State.taskSeen_moves; decide)

theorem State.evTrig_moves {s : State} {v : Word} : Moves 0x200008 s (s.evTrig v) := by
  unfold State.evTrig
  repeat' with_reducible first
    | apply Moves.refl | (apply Moves.via State.fbeTrigger_moves; decide) | apply Moves.ite | intro _ | apply Moves.foldl

theorem State.fbeEnabled_moves {s : State} {old : State} : Moves 0x200008 s (s.fbeEnabled old) := by
  unfold State.fbeEnabled
  repeat' with_reducible first
    | apply Moves.refl | (apply Moves.via State.fbeShow_moves; decide) | (apply Moves.via State.setTask_moves; decide)
    | apply Moves.ite | intro _ | apply Moves.foldl

theorem State.debugStep_moves {s : State} {n : Nat} : Moves 0x20200008 s (s.debugStep n) := by
  unfold State.debugStep
  repeat' with_reducible first
    | apply Moves.refl | (apply Moves.via State.releaseTask_moves; decide) | (apply Moves.via State.setTask_moves; decide)
    | apply Moves.ite | intro _ | apply Moves.foldl | (apply Moves.snd; assumption) | (apply Moves.fst; assumption) | apply Moves.idOf
    | extract_lets | split

theorem State.forceShow_moves {s : State} : Moves 0x13000648 s s.forceShow := by
  unfold State.forceShow
  repeat' with_reducible first
    | apply Moves.refl | (apply Moves.via State.setLoop_moves; decide) | (apply Moves.via State.rmpReplan_moves; decide)
    | apply Moves.ite | intro _ | apply Moves.foldl | (apply Moves.snd; assumption) | (apply Moves.fst; assumption) | apply Moves.idOf
    | fail_if_no_progress (apply Moves.dio; decide) | fail_if_no_progress (apply Moves.rmp; decide)

theorem State.forcesChanged_moves {s : State} : Moves 0x13481E4C s s.forcesChanged := by
  unfold State.forcesChanged
  repeat' with_reducible first
    | apply Moves.refl | (apply Moves.via State.forceShow_moves; decide) | (apply Moves.via State.setFb_moves; decide)
    | (apply Moves.via State.setFv_moves; decide) | (apply Moves.via State.sysTrigger_moves; decide)
    | (apply Moves.via State.irq_moves; decide) | (apply Moves.via State.sourceWrite_moves; decide) | apply Moves.ite | intro _

theorem State.setForce_moves {s : State} {slot : Nat} {f : Force} : Moves 0x200000 s (s.setForce slot f) := by
  unfold State.setForce
  repeat' with_reducible first
    | apply Moves.refl | apply Moves.ite | intro _ | apply Moves.foldl | (apply Moves.snd; assumption) | (apply Moves.fst; assumption)
    | apply Moves.idOf | fail_if_no_progress (apply Moves.fbe; decide)

theorem State.applyOutput_moves {s : State} {b : ProgBinding} {i : Nat} {v : Word} : Moves 0x13200648 s (s.applyOutput b i v) := by
  unfold State.applyOutput
  repeat' with_reducible first
    | apply Moves.refl | (apply Moves.via State.fbeDo_moves; decide) | (apply Moves.via State.fbeLoop_moves; decide)
    | (apply Moves.via State.rmpFbe_moves; decide) | apply Moves.ite | intro _ | apply Moves.foldl | (apply Moves.snd; assumption)
    | (apply Moves.fst; assumption) | apply Moves.idOf | fail_if_no_progress (apply Moves.fbe; decide) | extract_lets | split

theorem State.leaveForce_moves {s : State} {f : Force} : Moves 0x13201E48 s (s.leaveForce f) := by
  unfold State.leaveForce
  repeat' with_reducible first
    | apply Moves.refl | (apply Moves.via State.nodeWrite_moves; decide) | (apply Moves.via State.applyOutput_moves; decide)
    | (apply Moves.via State.setTask_moves; decide) | apply Moves.ite | intro _ | apply Moves.foldl | (apply Moves.snd; assumption)
    | (apply Moves.fst; assumption) | apply Moves.idOf | fail_if_no_progress (apply Moves.fbe; decide) | extract_lets | split

theorem State.forceMoves_moves {s : State} {slot : Nat} {f : Force} : Moves 0x13201E48 s (s.forceMoves slot f) := by
  unfold State.forceMoves
  repeat' with_reducible first
    | apply Moves.refl | (apply Moves.via State.setForce_moves; decide) | (apply Moves.via State.leaveForce_moves; decide)
    | apply Moves.ite | intro _

theorem State.forcesAt_moves {s : State} {n : Nat} : Moves 0x13681E4C s (s.forcesAt n) := by
  unfold State.forcesAt
  repeat' with_reducible first
    | apply Moves.refl | (apply Moves.via State.forcesChanged_moves; decide) | (apply Moves.via State.forceMoves_moves; decide)
    | apply Moves.ite | intro _ | apply Moves.foldl

theorem State.forceSet_moves {s : State} {slot : Nat} {may : Bool} : Moves 0x13681E4C s (s.forceSet slot may) := by
  unfold State.forceSet
  repeat' with_reducible first
    | apply Moves.refl | (apply Moves.via State.setFv_moves; decide) | (apply Moves.via State.forcesChanged_moves; decide)
    | (apply Moves.via State.forceMoves_moves; decide) | apply Moves.ite | intro _ | apply Moves.foldl | (apply Moves.snd; assumption)
    | (apply Moves.fst; assumption) | apply Moves.idOf | extract_lets | split

theorem State.forceRelease_moves {s : State} {slot : Nat} : Moves 0x13681E4C s (s.forceRelease slot) := by
  unfold State.forceRelease
  repeat' with_reducible first
    | apply Moves.refl | (apply Moves.via State.forcesChanged_moves; decide) | (apply Moves.via State.forceMoves_moves; decide)
    | apply Moves.ite | intro _ | apply Moves.foldl | (apply Moves.snd; assumption) | (apply Moves.fst; assumption) | apply Moves.idOf
    | extract_lets | split

theorem State.frcCtrl_moves {s : State} {p : Port} {v : Word} : Moves 0x13681E4C s (s.frcCtrl p v) := by
  unfold State.frcCtrl
  repeat' with_reducible first
    | apply Moves.refl | (apply Moves.via State.forceSet_moves; decide) | (apply Moves.via State.forceRelease_moves; decide)
    | apply Moves.ite | intro _ | apply Moves.foldl

theorem State.startCycle_moves {s : State} {p : Program} {n stamp : Nat} : Moves 0x13681E4C s (s.startCycle p n stamp) := by
  unfold State.startCycle
  repeat' with_reducible first
    | apply Moves.refl | (apply Moves.via State.forcesAt_moves; decide) | (apply Moves.via State.taskShow_moves; decide)
    | (apply Moves.via State.setTask_moves; decide)

theorem State.cycleCmd_moves {s : State} {n : Nat} {c : FbeCmd} : Moves 0x36781E4C s (s.cycleCmd n c) := by
  unfold State.cycleCmd
  repeat' with_reducible first
    | apply Moves.refl | (apply Moves.via State.alhCmd_moves; decide) | (apply Moves.via State.alhMode_moves; decide)
    | (apply Moves.via State.alhDuty_moves; decide) | (apply Moves.via State.fbeTrigger_moves; decide)
    | (apply Moves.via State.setPageBytes_moves; decide) | (apply Moves.via State.queueFrame_moves; decide)
    | (apply Moves.via State.fbeLoop_moves; decide) | (apply Moves.via State.rmpFbe_moves; decide) | apply Moves.ite | intro _
    | apply Moves.foldl | (apply Moves.snd; assumption) | (apply Moves.fst; assumption) | apply Moves.idOf
    | fail_if_no_progress (apply Moves.fbe; decide) | extract_lets | split

theorem State.applyPoint_moves {s : State} {p : Program} {n point : Nat} : Moves 0x8180C s (s.applyPoint p n point) := by
  unfold State.applyPoint
  repeat' with_reducible first
    | apply Moves.refl | (apply Moves.via State.sourceWrite_moves; decide) | apply Moves.ite | intro _ | apply Moves.foldl
    | (apply Moves.snd; assumption) | (apply Moves.fst; assumption) | apply Moves.idOf | extract_lets | split

theorem State.applyOutputs_moves {s : State} {p : Program} {n : Nat} : Moves 0x13281E4C s (s.applyOutputs p n) := by
  unfold State.applyOutputs
  repeat' with_reducible first
    | apply Moves.refl | (apply Moves.via State.applyPoint_moves; decide) | (apply Moves.via State.applyOutput_moves; decide)
    | apply Moves.ite | intro _ | apply Moves.foldl | (apply Moves.snd; assumption) | (apply Moves.fst; assumption) | apply Moves.idOf
    | extract_lets | split

theorem State.commitCycle_moves {s : State} {p : Program} {n : Nat} {c : Cycle} : Moves 0x37781E4C s (s.commitCycle p n c) := by
  unfold State.commitCycle
  repeat' with_reducible first
    | apply Moves.refl | (apply Moves.via State.nodeWrite_moves; decide) | (apply Moves.via State.setTask_moves; decide)
    | (apply Moves.via State.taskSeen_moves; decide) | (apply Moves.via State.cycleCmd_moves; decide)
    | (apply Moves.via State.setStamp_moves; decide) | (apply Moves.via State.wrapInc_moves; decide)
    | (apply Moves.via State.setFv_moves; decide) | (apply Moves.via State.setFb_moves; decide)
    | (apply Moves.via State.satInc_moves; decide) | (apply Moves.via State.irqIf_moves; decide)
    | (apply Moves.via State.taskShow_moves; decide) | (apply Moves.via State.applyOutputs_moves; decide) | apply Moves.ite | intro _
    | apply Moves.foldl

theorem State.fbeClr_moves {s : State} : Moves 0x200008 s s.fbeClr := by
  unfold State.fbeClr
  repeat' with_reducible first
    | apply Moves.refl | (apply Moves.via State.setReg_moves; decide) | (apply Moves.via State.setFv_moves; decide) | apply Moves.ite
    | intro _ | apply Moves.foldl | (apply Moves.snd; assumption) | (apply Moves.fst; assumption) | apply Moves.idOf
    | fail_if_no_progress (apply Moves.fbe; decide)

theorem State.carryVars_moves {s : State} {old : Option Program} {new : Program} {h' k : Nat} :
    Moves 0x800 s (s.carryVars old new h' k) := by
  unfold State.carryVars
  repeat' with_reducible first
    | apply Moves.refl | (apply Moves.via State.wrBytes_moves; decide) | apply Moves.ite | intro _ | apply Moves.foldl
    | (apply Moves.snd; assumption) | (apply Moves.fst; assumption) | apply Moves.idOf | extract_lets | split

theorem State.buildHalf_moves {s : State} {old : Option Program} {new : Program} {h' k : Nat} :
    Moves 0x1800 s (s.buildHalf old new h' k) := by
  unfold State.buildHalf
  repeat' with_reducible first
    | apply Moves.refl | (apply Moves.via State.wrBytes_moves; decide) | (apply Moves.via State.carryVars_moves; decide)
    | apply Moves.ite | intro _ | apply Moves.foldl | (apply Moves.snd; assumption) | (apply Moves.fst; assumption) | apply Moves.idOf
    | fail_if_no_progress (apply Moves.mem_poisoned; decide)

theorem State.olcAbandon_moves {s : State} : Moves 0x200008 s s.olcAbandon := by
  unfold State.olcAbandon
  repeat' with_reducible first
    | apply Moves.refl | (apply Moves.via State.setFv_moves; decide) | apply Moves.ite | intro _ | apply Moves.foldl
    | (apply Moves.snd; assumption) | (apply Moves.fst; assumption) | apply Moves.idOf | fail_if_no_progress (apply Moves.fbe; decide)

theorem State.olcLate_moves {s : State} : Moves 0x204008 s s.olcLate := by
  unfold State.olcLate
  repeat' with_reducible first
    | apply Moves.refl | (apply State.lateStop_moves; decide) | (apply Moves.via State.olcAbandon_moves; decide) | apply Moves.ite
    | intro _ | apply Moves.foldl | (apply Moves.snd; assumption) | (apply Moves.fst; assumption) | apply Moves.idOf | extract_lets
    | split

theorem State.showProgram_moves {s : State} {p : Program} : Moves 0x8 s (s.showProgram p) := by
  unfold State.showProgram
  repeat' with_reducible first
    | apply Moves.refl | (apply Moves.via State.setFv_moves; decide) | apply Moves.ite | intro _ | apply Moves.foldl

theorem State.forcesSettle_moves {s : State} : Moves 0x13201E48 s s.forcesSettle := by
  unfold State.forcesSettle
  repeat' with_reducible first
    | apply Moves.refl | (apply Moves.via State.forceMoves_moves; decide) | apply Moves.ite | intro _ | apply Moves.foldl

theorem State.seam_moves {s : State} {new : Program} : Moves 0x13685E4C s (s.seam new) := by
  unfold State.seam
  dsimp only
  split <;> repeat' with_reducible first
    | (apply Moves.via State.tallyDone_moves; decide) | (apply Moves.via State.taskShow_moves; decide)
    | (apply Moves.via State.fbeShow_moves; decide) | (apply Moves.via State.squash_moves; decide)
    | (apply Moves.via State.irq_moves; decide) | (apply Moves.via State.forcesChanged_moves; decide) | (apply Moves.via State.forcesSettle_moves; decide) | apply Moves.foldl | intro _
    | (apply Moves.via State.wrBytes_moves; decide) | (apply Moves.via State.setFv_moves; decide)
    | (apply Moves.via State.setStamp_moves; decide) | (apply Moves.via State.showProgram_moves; decide)
    | (apply Moves.via State.setFb_moves; decide) | (apply Moves.via State.buildHalf_moves; decide) | apply Moves.refl
    | fail_if_no_progress (apply Moves.fbe; decide)

theorem State.cyclesCut_moves {s : State} : Moves 0x200008 s s.cyclesCut := by
  unfold State.cyclesCut
  repeat' with_reducible first
    | apply Moves.refl | (apply Moves.via State.taskShow_moves; decide) | apply Moves.ite | intro _ | apply Moves.foldl
    | (apply Moves.snd; assumption) | (apply Moves.fst; assumption) | apply Moves.idOf | fail_if_no_progress (apply Moves.fbe; decide)

theorem State.seenStart_moves {s : State} : Moves 0x200000 s s.seenStart := by
  unfold State.seenStart
  repeat' with_reducible first
    | apply Moves.refl | apply Moves.ite | intro _ | apply Moves.foldl | (apply Moves.snd; assumption) | (apply Moves.fst; assumption)
    | apply Moves.idOf | fail_if_no_progress (apply Moves.fbe; decide)

theorem State.shiftBlocks_moves {s : State} {p : Program} {n : Nat} : Moves 0x1800 s (s.shiftBlocks p n) := by
  unfold State.shiftBlocks
  repeat' with_reducible first
    | apply Moves.refl | (apply Moves.via State.nodeWriteLe_moves; decide) | apply Moves.ite | intro _ | apply Moves.foldl

theorem State.fbeShift_moves {s : State} {n : Nat} : Moves 0x201808 s (s.fbeShift n) := by
  unfold State.fbeShift
  repeat' with_reducible first
    | apply Moves.refl | (apply Moves.via State.shiftBlocks_moves; decide) | (apply Moves.via State.fbeShow_moves; decide)
    | apply Moves.ite | intro _ | apply Moves.foldl | (apply Moves.snd; assumption) | (apply Moves.fst; assumption) | apply Moves.idOf
    | fail_if_no_progress (apply Moves.fbe; decide) | extract_lets | split

theorem execCyclicRelease_moves {t : Nat} {task : Fin 8} {s : State} : MovesNext 0x30E00649 s (execCyclicRelease t task s) := by
  unfold execCyclicRelease
  repeat' with_reducible first
    | apply Moves.refl | (apply Moves.via State.at_moves; decide) | apply MovesNext.next
    | (apply Moves.via State.setTask_moves; decide) | (apply Moves.via State.taskOverrun_moves; decide)
    | (apply Moves.via State.releaseTask_moves; decide) | apply MovesNext.ite | apply Moves.ite | intro _ | apply Moves.foldl
    | apply Moves.idOf | extract_lets | split

theorem execEventRelease_moves {t : Nat} {task : Fin 8} {s : State} : MovesNext 0x20A00009 s (execEventRelease t task s) := by
  unfold execEventRelease
  repeat' with_reducible first
    | apply Moves.refl | (apply Moves.via State.at_moves; decide) | apply MovesNext.next
    | (apply Moves.via State.releaseTask_moves; decide) | (apply Moves.via State.setTask_moves; decide) | apply MovesNext.ite
    | apply Moves.ite | intro _ | apply Moves.foldl | apply Moves.idOf | extract_lets | split

theorem execCycleStart_moves {t : Nat} {ecc : EccFinds} {s : State} : MovesNext 0x13EC1E4D s (execCycleStart t ecc s) := by
  unfold execCycleStart
  repeat' with_reducible first
    | apply Moves.refl | (apply Moves.via State.at_moves; decide) | apply MovesNext.next
    | (apply Moves.via State.startCycle_moves; decide) | (apply Moves.via State.eccFinds_moves; decide) | apply MovesNext.ite
    | apply Moves.ite | intro _ | apply Moves.foldl | apply Moves.idOf | extract_lets | split

theorem execCycleCommit_moves {t : Nat} {s : State} : MovesNext 0x37F81E4D s (execCycleCommit t s) := by
  unfold execCycleCommit
  repeat' with_reducible first
    | apply Moves.refl | (apply Moves.via State.at_moves; decide) | apply MovesNext.next | apply State.unlessWaits_moves
    | (apply Moves.via State.commitCycle_moves; decide) | apply MovesNext.ite | apply Moves.ite | intro _ | apply Moves.foldl
    | apply Moves.idOf | extract_lets | split

theorem execOlc_moves {t tally : Nat} {s : State} : MovesNext 0xA04009 s (execOlc t tally s) := by
  unfold execOlc
  repeat' with_reducible first
    | apply Moves.refl | (apply Moves.via State.at_moves; decide) | apply MovesNext.next | (apply State.lateStop_moves; decide)
    | (apply Moves.via State.olcAbandon_moves; decide) | (apply Moves.via State.tallyRefused_moves; decide)
    | (apply Moves.via State.setFv_moves; decide) | apply MovesNext.ite | apply Moves.ite | intro _ | apply Moves.foldl
    | (apply Moves.snd; assumption) | (apply Moves.fst; assumption) | apply Moves.idOf | fail_if_no_progress (apply Moves.fbe; decide)
    | extract_lets | split

theorem execOlcPrepared_moves {t : Nat} {s : State} : MovesNext 0xA05809 s (execOlcPrepared t s) := by
  unfold execOlcPrepared
  repeat' with_reducible first
    | apply Moves.refl | (apply Moves.via State.at_moves; decide) | apply MovesNext.next
    | (apply Moves.via State.olcLate_moves; decide) | (apply Moves.via State.setFv_moves; decide)
    | (apply Moves.via State.buildHalf_moves; decide) | apply MovesNext.ite | apply Moves.ite | intro _ | apply Moves.foldl
    | apply Moves.idOf | extract_lets | split

theorem execSeam_moves {t : Nat} {s : State} : MovesNext 0x13E85E4D s (execSeam t s) := by
  unfold execSeam
  repeat' with_reducible first
    | apply Moves.refl | (apply Moves.via State.at_moves; decide) | apply MovesNext.next
    | (apply Moves.via State.olcLate_moves; decide) | (apply Moves.via State.seam_moves; decide) | apply MovesNext.ite
    | apply Moves.ite | intro _ | apply Moves.foldl | apply Moves.idOf | extract_lets | split

end Sys2Proof.Machine
end

