-- ==== Sys2Proof/Laws/MovesSec.lean ====
section
/-! SUPPORT. What the operations of Machine/Sec.lean leave as it was (Laws/Moves.lean). -/

namespace Sys2Proof.Machine

open Sys2Proof

theorem State.secEvent_moves {s : State} {bit : Nat} : Moves 0x8 s (s.secEvent bit) := by
  unfold State.secEvent
  repeat' with_reducible first
    | apply Moves.refl | (apply Moves.via State.setFv_moves; decide) | (apply Moves.via State.irq_moves; decide)

theorem State.setSecPort_moves {s : State} {p : Port} {x : SecPort} : Moves 0x80000000 s (s.setSecPort p x) := by
  unfold State.setSecPort
  repeat' with_reducible first
    | apply Moves.refl | apply Moves.ite | intro _ | apply Moves.foldl | (apply Moves.snd; assumption) | (apply Moves.fst; assumption)
    | apply Moves.idOf | fail_if_no_progress (apply Moves.sec; decide) | extract_lets | split

theorem State.relock_moves {s : State} : Moves 0x8 s s.relock := by
  unfold State.relock
  repeat' with_reducible first
    | apply Moves.refl | (apply Moves.via State.setFv_moves; decide) | apply Moves.ite | intro _ | apply Moves.foldl

theorem State.closeSession_moves {s : State} {p : Port} : Moves 0x8 s (s.closeSession p) := by
  unfold State.closeSession
  repeat' with_reducible first
    | apply Moves.refl | (apply Moves.via State.irq_moves; decide) | (apply Moves.via State.relock_moves; decide)
    | (apply Moves.via State.setFv_moves; decide) | apply Moves.ite | intro _ | apply Moves.foldl | (apply Moves.snd; assumption)
    | (apply Moves.fst; assumption) | apply Moves.idOf | extract_lets | split

theorem State.closeSessions_moves {s : State} : Moves 0x8 s s.closeSessions := by
  unfold State.closeSessions
  repeat' with_reducible first
    | apply Moves.refl | (apply Moves.via State.closeSession_moves; decide)

theorem State.keysShow_moves {s : State} : Moves 0x8 s s.keysShow := by
  unfold State.keysShow
  repeat' with_reducible first
    | apply Moves.refl | (apply Moves.via State.setFb_moves; decide) | (apply Moves.via State.setFv_moves; decide)

theorem State.challenge_moves {s : State} {p : Port} : Moves 0x80000004 s (s.challenge p) := by
  unfold State.challenge
  repeat' with_reducible first
    | apply Moves.refl | (apply Moves.via State.draw_moves; decide) | (apply Moves.via State.setSecPort_moves; decide)

theorem State.openSession_moves {s : State} {p : Port} {level : Nat} : Moves 0x80000648 s (s.openSession p level) := by
  unfold State.openSession
  repeat' with_reducible first
    | apply Moves.refl | (apply Moves.via State.clampAt_moves; decide) | (apply Moves.via State.setSecPort_moves; decide)
    | apply Moves.ite | intro _ | apply Moves.foldl | (apply Moves.snd; assumption) | (apply Moves.fst; assumption) | apply Moves.idOf
    | fail_if_no_progress (apply Moves.sec; decide)

theorem State.expireSession_moves {s : State} {p : Port} : Moves 0x8 s (s.expireSession p) := by
  unfold State.expireSession
  repeat' with_reducible first
    | apply Moves.refl | (apply Moves.via State.closeSession_moves; decide) | apply Moves.ite | intro _

theorem State.expireNonce_moves {s : State} {p : Port} : Moves 0x80000000 s (s.expireNonce p) := by
  unfold State.expireNonce
  repeat' with_reducible first
    | apply Moves.refl | (apply Moves.via State.setSecPort_moves; decide) | apply Moves.ite | intro _

theorem State.secCtrl_moves {s : State} {p : Port} {v : Word} : Moves 0x8000064C s (s.secCtrl p v) := by
  unfold State.secCtrl
  repeat' with_reducible first
    | apply Moves.refl | (apply Moves.via State.challenge_moves; decide) | (apply Moves.via State.openSession_moves; decide)
    | (apply Moves.via State.closeSession_moves; decide) | (apply Moves.via State.setFv_moves; decide)
    | (apply Moves.via State.clampAt_moves; decide) | apply Moves.ite | intro _

theorem State.secResp_moves {s : State} {p : Port} {n : Nat} {v : Word} : Moves 0x80000000 s (s.secResp p n v) := by
  unfold State.secResp
  repeat' with_reducible first
    | apply Moves.refl | (apply Moves.via State.setSecPort_moves; decide)

theorem State.eraseAes_moves {s : State} : Moves 0x80000008 s s.eraseAes := by
  unfold State.eraseAes
  repeat' with_reducible first
    | apply Moves.refl | (apply Moves.via State.keysShow_moves; decide) | apply Moves.ite | intro _ | apply Moves.foldl
    | (apply Moves.snd; assumption) | (apply Moves.fst; assumption) | apply Moves.idOf | fail_if_no_progress (apply Moves.sec; decide)

theorem State.tamper_moves {s : State} {i : Nat} : Moves 0x80000008 s (s.tamper i) := by
  unfold State.tamper
  repeat' with_reducible first
    | apply Moves.refl | (apply Moves.via State.setFv_moves; decide) | (apply Moves.via State.setStamp_moves; decide)
    | (apply Moves.via State.closeSessions_moves; decide) | (apply Moves.via State.eraseAes_moves; decide)
    | (apply Moves.via State.secEvent_moves; decide) | apply Moves.ite | intro _ | apply Moves.foldl | (apply Moves.snd; assumption)
    | (apply Moves.fst; assumption) | apply Moves.idOf | fail_if_no_progress (apply Moves.sec; decide)

theorem State.secStart_moves {s : State} : Moves 0x80000008 s s.secStart := by
  unfold State.secStart
  repeat' with_reducible first
    | apply Moves.refl | (apply Moves.via State.closeSessions_moves; decide) | (apply Moves.via State.secEvent_moves; decide)
    | apply Moves.ite | intro _ | apply Moves.foldl | (apply Moves.snd; assumption) | (apply Moves.fst; assumption) | apply Moves.idOf
    | fail_if_no_progress (apply Moves.sec; decide)

theorem execSessionDecision_moves {t : Nat} {s : State} : MovesNext 0x80800009 s (execSessionDecision t s) := by
  unfold execSessionDecision
  repeat' with_reducible first
    | apply Moves.refl | (apply Moves.via State.at_moves; decide) | apply MovesNext.next
    | (apply Moves.via State.setSecPort_moves; decide) | (apply Moves.via State.setFv_moves; decide)
    | (apply Moves.via State.irq_moves; decide) | (apply Moves.via State.closeSession_moves; decide)
    | (apply Moves.via State.satInc_moves; decide) | (apply Moves.via State.secEvent_moves; decide) | apply MovesNext.ite
    | apply Moves.ite | intro _ | apply Moves.foldl | (apply Moves.snd; assumption) | (apply Moves.fst; assumption) | apply Moves.idOf
    | fail_if_no_progress (apply Moves.sec; decide) | extract_lets | split

theorem execSessionExpiry_moves {t : Nat} {s : State} : MovesNext 0x800009 s (execSessionExpiry t s) := by
  unfold execSessionExpiry
  repeat' with_reducible first
    | apply Moves.refl | (apply Moves.via State.at_moves; decide) | apply MovesNext.next
    | (apply Moves.via State.expireSession_moves; decide) | apply MovesNext.ite | apply Moves.ite | intro _

theorem execLockoutEnd_moves {t : Nat} {s : State} : MovesNext 0x800009 s (execLockoutEnd t s) := by
  unfold execLockoutEnd
  repeat' with_reducible first
    | apply Moves.refl | (apply Moves.via State.at_moves; decide) | apply MovesNext.next | (apply Moves.via State.setFv_moves; decide)
    | apply MovesNext.ite | apply Moves.ite | intro _

theorem execNonceExpiry_moves {t : Nat} {s : State} : MovesNext 0x80800001 s (execNonceExpiry t s) := by
  unfold execNonceExpiry
  repeat' with_reducible first
    | apply Moves.refl | (apply Moves.via State.at_moves; decide) | apply MovesNext.next
    | (apply Moves.via State.expireNonce_moves; decide)

theorem execTrapdoorSessionEnd_moves {t : Nat} {s : State} : MovesNext 0x800009 s (execTrapdoorSessionEnd t s) := by
  unfold execTrapdoorSessionEnd
  repeat' with_reducible first
    | apply Moves.refl | (apply Moves.via State.at_moves; decide) | apply MovesNext.next
    | (apply Moves.via State.closeSession_moves; decide) | apply MovesNext.ite | apply Moves.ite | intro _

end Sys2Proof.Machine
end

