-- ==== Sys2Proof/Laws/MovesLnk.lean ====
section
/-! SUPPORT. What the operations of Machine/Lnk.lean leave as it was (Laws/Moves.lean). -/

namespace Sys2Proof.Machine

open Sys2Proof

theorem State.setLnkRun_moves {s : State} {c : LnkRun} : Moves 0x100000008 s (s.setLnkRun c) := by
  unfold State.setLnkRun
  repeat' with_reducible first
    | apply Moves.refl | (apply Moves.via State.setStamp_moves; decide) | (apply Moves.via State.setFv_moves; decide)
    | (apply Moves.via State.irq_moves; decide) | (apply Moves.via State.irqIf_moves; decide) | apply Moves.ite | intro _
    | apply Moves.foldl | (apply Moves.snd; assumption) | (apply Moves.fst; assumption) | apply Moves.idOf
    | fail_if_no_progress (apply Moves.lnk; decide)

theorem State.lnkCarry_moves {s : State} {sent : Nat} {flips : List Nat} : Moves 0x100000008 s (s.lnkCarry sent flips) := by
  unfold State.lnkCarry
  repeat' with_reducible first
    | apply Moves.refl | (apply Moves.via State.setLnkRun_moves; decide) | apply Moves.ite | intro _

theorem State.hbufTake_moves {s : State} {l : List Byte} : Moves 0x100000008 s (s.hbufTake l) := by
  unfold State.hbufTake
  repeat' with_reducible first
    | apply Moves.refl | (apply Moves.via State.setLnkRun_moves; decide) | apply Moves.ite | intro _

theorem State.hbufGive_moves {s : State} {n : Nat} : Moves 0x100000008 s (s.hbufGive n).2 := by
  unfold State.hbufGive
  repeat' with_reducible first
    | apply Moves.refl | (apply Moves.via State.setLnkRun_moves; decide) | apply Moves.ite | intro _ | apply Moves.foldl
    | (apply Moves.snd; assumption) | (apply Moves.fst; assumption) | apply Moves.idOf | extract_lets | split

theorem State.lnkClear_moves {s : State} : Moves 0x100000008 s s.lnkClear := by
  unfold State.lnkClear
  repeat' with_reducible first
    | apply Moves.refl | (apply Moves.via State.setStamp_moves; decide) | (apply Moves.via State.setFv_moves; decide)
    | apply Moves.ite | intro _ | apply Moves.foldl | (apply Moves.snd; assumption) | (apply Moves.fst; assumption) | apply Moves.idOf
    | fail_if_no_progress (apply Moves.lnk; decide)

theorem State.linkGo_moves {s : State} {p : Port} : Moves 0x100000648 s (s.linkGo p) := by
  unfold State.linkGo
  repeat' with_reducible first
    | apply Moves.refl | (apply Moves.via State.clampAt_moves; decide) | (apply Moves.via State.setFv_moves; decide)
    | (apply Moves.via State.lnkClear_moves; decide) | apply Moves.ite | intro _ | apply Moves.foldl | (apply Moves.snd; assumption)
    | (apply Moves.fst; assumption) | apply Moves.idOf | fail_if_no_progress (apply Moves.lnk; decide) | extract_lets | split

theorem State.buildsDropped_moves {s : State} {i : Nat} : Moves 0x20008 s (s.buildsDropped i) := by
  unfold State.buildsDropped
  repeat' with_reducible first
    | apply Moves.refl | (apply Moves.via State.planeDrop_moves; decide) | (apply Moves.via State.abandonBuilds_moves; decide)
    | apply Moves.ite | intro _

theorem State.portTaken_moves {s : State} {p : Nat} : Moves 0x4000008 s (s.portTaken p) := by
  unfold State.portTaken
  repeat' with_reducible first
    | apply Moves.refl | (apply Moves.via State.canTxEnded_moves; decide) | (apply Moves.via State.setObj_moves; decide)
    | apply Moves.ite | intro _ | apply Moves.foldl | (apply Moves.snd; assumption) | (apply Moves.fst; assumption) | apply Moves.idOf
    | extract_lets | split

theorem State.linkTaken_moves {s : State} {link : Nat} : Moves 0x140A980C s (s.linkTaken link) := by
  unfold State.linkTaken
  repeat' with_reducible first
    | apply Moves.refl | (apply Moves.via State.portTaken_moves; decide) | (apply Moves.via State.scanStops_moves; decide)
    | (apply Moves.via State.buildsDropped_moves; decide) | (apply Moves.via State.rmpTaken_moves; decide) | apply Moves.ite | intro _
    | apply Moves.foldl | (apply Moves.snd; assumption) | (apply Moves.fst; assumption) | apply Moves.idOf | extract_lets | split

theorem State.linkBack_moves {s : State} {link : Nat} : Moves 0x18099E4C s (s.linkBack link) := by
  unfold State.linkBack
  repeat' with_reducible first
    | apply Moves.refl | (apply Moves.via State.scanResumes_moves; decide) | (apply Moves.via State.dynDisc_moves; decide)
    | (apply Moves.via State.rmpReplan_moves; decide) | apply Moves.ite | intro _ | apply Moves.foldl | (apply Moves.snd; assumption)
    | (apply Moves.fst; assumption) | apply Moves.idOf | fail_if_no_progress (apply Moves.pnl; decide) | extract_lets | split

theorem State.linkEnds_moves {s : State} {status reason : Nat} : Moves 0x18099E4C s (s.linkEnds status reason) := by
  unfold State.linkEnds
  repeat' with_reducible first
    | apply Moves.refl | (apply Moves.via State.setFv_moves; decide) | (apply Moves.via State.irq_moves; decide)
    | (apply Moves.via State.linkBack_moves; decide) | apply Moves.ite | intro _

theorem State.lnkCtrl_moves {s : State} {p : Port} {v : Word} {sent : Nat} {flips : List Nat} :
    Moves 0x118099E4C s (s.lnkCtrl p v sent flips) := by
  unfold State.lnkCtrl
  repeat' with_reducible first
    | apply Moves.refl | (apply Moves.via State.lnkCarry_moves; decide) | (apply Moves.via State.linkGo_moves; decide)
    | (apply Moves.via State.linkEnds_moves; decide) | (apply Moves.via State.lnkClear_moves; decide) | apply Moves.ite | intro _
    | apply Moves.foldl | (apply Moves.snd; assumption) | (apply Moves.fst; assumption) | apply Moves.idOf
    | fail_if_no_progress (apply Moves.lnk; decide)

theorem State.linksLosePower_moves {s : State} : Moves 0x18099E4C s s.linksLosePower := by
  unfold State.linksLosePower
  repeat' with_reducible first
    | apply Moves.refl | (apply Moves.via State.linkEnds_moves; decide) | apply Moves.ite | intro _

theorem State.linkCut_moves {s : State} : Moves 0x100000008 s s.linkCut := by
  unfold State.linkCut
  repeat' with_reducible first
    | apply Moves.refl | (apply Moves.via State.setFv_moves; decide) | apply Moves.ite | intro _ | apply Moves.foldl
    | (apply Moves.snd; assumption) | (apply Moves.fst; assumption) | apply Moves.idOf | fail_if_no_progress (apply Moves.lnk; decide)

theorem State.lnkStart_moves {s : State} : Moves 0x100000008 s s.lnkStart := by
  unfold State.lnkStart
  repeat' with_reducible first
    | apply Moves.refl | (apply Moves.via State.irq_moves; decide) | (apply Moves.via State.setFv_moves; decide) | apply Moves.ite
    | intro _ | apply Moves.foldl | (apply Moves.snd; assumption) | (apply Moves.fst; assumption) | apply Moves.idOf
    | fail_if_no_progress (apply Moves.lnk; decide) | extract_lets | split

theorem execLinkTestStart_moves {t : Nat} {s : State} : MovesNext 0x1148A980D s (execLinkTestStart t s) := by
  unfold execLinkTestStart
  repeat' with_reducible first
    | apply Moves.refl | (apply Moves.via State.at_moves; decide) | apply MovesNext.next | (apply Moves.via State.draw_moves; decide)
    | (apply Moves.via State.setStamp_moves; decide) | (apply Moves.via State.setFv_moves; decide)
    | (apply Moves.via State.linkTaken_moves; decide) | apply MovesNext.ite | apply Moves.ite | intro _ | apply Moves.foldl
    | (apply Moves.snd; assumption) | (apply Moves.fst; assumption) | apply Moves.idOf | fail_if_no_progress (apply Moves.lnk; decide)

theorem execLinkTestEnd_moves {t sent : Nat} {flips : List Nat} {s : State} :
    MovesNext 0x118899E4D s (execLinkTestEnd t sent flips s) := by
  unfold execLinkTestEnd
  repeat' with_reducible first
    | apply Moves.refl | (apply Moves.via State.at_moves; decide) | apply MovesNext.next
    | (apply Moves.via State.linkEnds_moves; decide) | (apply Moves.via State.lnkCarry_moves; decide) | apply MovesNext.ite
    | apply Moves.ite | intro _

end Sys2Proof.Machine
end

