-- ==== Sys2Proof/Laws/MovesEvr.lean ====
section
/-! SUPPORT. What the operations of Machine/Evr.lean leave as it was (Laws/Moves.lean). -/

namespace Sys2Proof.Machine

open Sys2Proof

theorem State.closeMarker_moves {s : State} : Moves 0x400000 s s.closeMarker := by
  unfold State.closeMarker
  repeat' with_reducible first
    | apply Moves.refl | apply Moves.ite | intro _ | apply Moves.foldl | (apply Moves.snd; assumption) | (apply Moves.fst; assumption)
    | apply Moves.idOf | fail_if_no_progress (apply Moves.evr; decide) | extract_lets | split

theorem State.captureTrigger_moves {s : State} {g : Trigger} : Moves 0x100400008 s (s.captureTrigger g) := by
  unfold State.captureTrigger
  repeat' with_reducible first
    | apply Moves.refl | (apply Moves.via State.foldOrRefuse_moves; decide) | (apply Moves.via State.closeMarker_moves; decide)
    | apply Moves.ite | intro _ | apply Moves.foldl | (apply Moves.snd; assumption) | (apply Moves.fst; assumption) | apply Moves.idOf
    | fail_if_no_progress (apply Moves.evr; decide)

theorem State.putCrate_moves {s : State} {i : Nat} {c : Crate} : Moves 0x1808 s (s.putCrate i c) := by
  unfold State.putCrate
  repeat' with_reducible first
    | apply Moves.refl | (apply Moves.via State.nodeWrite_moves; decide) | (apply Moves.via State.irq_moves; decide)
    | (apply Moves.via State.setFv_moves; decide) | (apply Moves.via State.irqIf_moves; decide) | apply Moves.ite | intro _

theorem State.writeCrate_moves {s : State} : Moves 0x401808 s s.writeCrate := by
  unfold State.writeCrate
  repeat' with_reducible first
    | apply Moves.refl | (apply Moves.via State.putCrate_moves; decide) | apply Moves.ite | intro _ | apply Moves.foldl
    | (apply Moves.snd; assumption) | (apply Moves.fst; assumption) | apply Moves.idOf | fail_if_no_progress (apply Moves.evr; decide)
    | extract_lets | split

theorem State.writeStaged_moves {s : State} : Moves 0x401808 s s.writeStaged := by
  unfold State.writeStaged
  repeat' with_reducible first
    | apply Moves.refl | (apply Moves.via State.putCrate_moves; decide) | (apply Moves.via State.writeCrate_moves; decide)
    | apply Moves.ite | intro _ | apply Moves.foldl | (apply Moves.snd; assumption) | (apply Moves.fst; assumption) | apply Moves.idOf
    | fail_if_no_progress (apply Moves.evr; decide) | extract_lets | split

theorem State.writeFullMarker_moves {s : State} : Moves 0x401808 s s.writeFullMarker := by
  unfold State.writeFullMarker
  repeat' with_reducible first
    | apply Moves.refl | (apply Moves.via State.putCrate_moves; decide) | apply Moves.ite | intro _ | apply Moves.foldl
    | (apply Moves.snd; assumption) | (apply Moves.fst; assumption) | apply Moves.idOf | fail_if_no_progress (apply Moves.evr; decide)
    | extract_lets | split

theorem State.writeLossMarker_moves {s : State} {l : Nat × Nat × Nat} : Moves 0x401808 s (s.writeLossMarker l) := by
  unfold State.writeLossMarker
  repeat' with_reducible first
    | apply Moves.refl | (apply Moves.via State.putCrate_moves; decide) | apply Moves.ite | intro _ | apply Moves.foldl
    | (apply Moves.snd; assumption) | (apply Moves.fst; assumption) | apply Moves.idOf | fail_if_no_progress (apply Moves.evr; decide)

theorem State.foldQueue_moves {s : State} : Moves 0x400008 s s.foldQueue := by
  unfold State.foldQueue
  repeat' with_reducible first
    | apply Moves.refl | (apply Moves.via State.foldOrRefuse_moves; decide) | apply Moves.ite | intro _ | apply Moves.foldl
    | (apply Moves.snd; assumption) | (apply Moves.fst; assumption) | apply Moves.idOf | fail_if_no_progress (apply Moves.evr; decide)

theorem State.flushLarder_moves {s : State} : Moves 0x401808 s s.flushLarder := by
  unfold State.flushLarder
  repeat' with_reducible first
    | apply Moves.refl | (apply Moves.via State.writeLossMarker_moves; decide) | (apply Moves.via State.foldQueue_moves; decide)
    | (apply Moves.via State.writeStaged_moves; decide) | apply Moves.ite | intro _ | apply Moves.foldl
    | (apply Moves.snd; assumption) | (apply Moves.fst; assumption) | apply Moves.idOf | extract_lets | split

theorem State.flushMarker_moves {s : State} : Moves 0x401808 s s.flushMarker := by
  unfold State.flushMarker
  repeat' with_reducible first
    | apply Moves.refl | (apply Moves.via State.foldQueue_moves; decide) | (apply Moves.via State.writeFullMarker_moves; decide)
    | (apply Moves.via State.writeStaged_moves; decide) | (apply Moves.via State.closeMarker_moves; decide) | apply Moves.ite
    | intro _ | apply Moves.foldl | (apply Moves.snd; assumption) | (apply Moves.fst; assumption) | apply Moves.idOf
    | fail_if_no_progress (apply Moves.evr; decide)

theorem State.evrStops_moves {s : State} : Moves 0x400000 s s.evrStops := by
  unfold State.evrStops
  repeat' with_reducible first
    | apply Moves.refl | apply Moves.ite | intro _ | apply Moves.foldl | (apply Moves.snd; assumption) | (apply Moves.fst; assumption)
    | apply Moves.idOf | fail_if_no_progress (apply Moves.evr; decide)

theorem State.evrLost_moves {s : State} : Moves 0x400000 s s.evrLost := by
  unfold State.evrLost
  repeat' with_reducible first
    | apply Moves.refl | (apply Moves.via State.evrStops_moves; decide) | apply Moves.ite | intro _ | apply Moves.foldl
    | (apply Moves.snd; assumption) | (apply Moves.fst; assumption) | apply Moves.idOf | fail_if_no_progress (apply Moves.evr; decide)

theorem State.evrStart_moves {s : State} {clean cellarLost : Bool} : Moves 0x400008 s (s.evrStart clean cellarLost) := by
  unfold State.evrStart
  repeat' with_reducible first
    | apply Moves.refl | (apply Moves.via State.satInc_moves; decide) | (apply Moves.via State.irq_moves; decide) | apply Moves.ite
    | intro _ | apply Moves.foldl | (apply Moves.snd; assumption) | (apply Moves.fst; assumption) | apply Moves.idOf
    | fail_if_no_progress (apply Moves.evr; decide)

theorem State.evrErase_moves {s : State} {x : Tally} {upto : Nat} : Moves 0x405808 s (s.evrErase x upto) := by
  unfold State.evrErase
  repeat' with_reducible first
    | apply Moves.refl | (apply Moves.via State.curePoison_moves; decide) | (apply Moves.via State.setFv_moves; decide)
    | (apply Moves.via State.tallyProgress_moves; decide) | (apply Moves.via State.tallyDone_moves; decide) | apply Moves.ite
    | intro _ | apply Moves.foldl | (apply Moves.snd; assumption) | (apply Moves.fst; assumption) | apply Moves.idOf
    | fail_if_no_progress (apply Moves.mem_evr; decide)

theorem State.evrTrigGo_moves {s : State} {v : Word} : Moves 0x400008 s (s.evrTrigGo v) := by
  unfold State.evrTrigGo
  repeat' with_reducible first
    | apply Moves.refl | (apply Moves.via State.trigger_moves; decide) | apply Moves.ite | intro _

theorem State.evrClr_moves {s : State} {v : Word} : Moves 0x8 s (s.evrClr v) := by
  unfold State.evrClr
  repeat' with_reducible first
    | apply Moves.refl | (apply Moves.via State.setReg_moves; decide) | apply Moves.ite | intro _

theorem State.evrCommitLists_moves {s : State} : Moves 0x400000 s s.evrCommitLists.1 := by
  unfold State.evrCommitLists
  repeat' with_reducible first
    | apply Moves.refl | apply Moves.ite | intro _ | apply Moves.foldl | (apply Moves.snd; assumption) | (apply Moves.fst; assumption)
    | apply Moves.idOf | fail_if_no_progress (apply Moves.evr; decide)

theorem execCrateCapture_moves {t : Nat} {ecc : EccFinds} {s : State} : MovesNext 0x100C41009 s (execCrateCapture t ecc s) := by
  unfold execCrateCapture
  repeat' with_reducible first
    | apply Moves.refl | (apply Moves.via State.at_moves; decide) | apply MovesNext.next
    | (apply Moves.via State.captureTrigger_moves; decide) | (apply Moves.via State.eccFinds_moves; decide) | apply MovesNext.ite
    | apply Moves.ite | intro _ | apply Moves.foldl | (apply Moves.snd; assumption) | (apply Moves.fst; assumption) | apply Moves.idOf
    | fail_if_no_progress (apply Moves.evr; decide) | extract_lets | split

theorem execCrateWrite_moves {t : Nat} {s : State} : MovesNext 0xC01809 s (execCrateWrite t s) := by
  unfold execCrateWrite
  repeat' with_reducible first
    | apply Moves.refl | (apply Moves.via State.at_moves; decide) | apply MovesNext.next
    | (apply Moves.via State.writeStaged_moves; decide) | (apply Moves.via State.writeFullMarker_moves; decide) | apply MovesNext.ite
    | apply Moves.ite | intro _

theorem execLossMarker_moves {t : Nat} {s : State} : MovesNext 0xC01809 s (execLossMarker t s) := by
  unfold execLossMarker
  repeat' with_reducible first
    | apply Moves.refl | (apply Moves.via State.at_moves; decide) | apply MovesNext.next
    | (apply Moves.via State.writeLossMarker_moves; decide) | apply MovesNext.ite | apply Moves.ite | intro _ | apply Moves.foldl
    | apply Moves.idOf | extract_lets | split

theorem execEvrErase_moves {t tally crates : Nat} {s : State} : MovesNext 0xC05809 s (execEvrErase t tally crates s) := by
  unfold execEvrErase
  repeat' with_reducible first
    | apply Moves.refl | (apply Moves.via State.at_moves; decide) | apply MovesNext.next
    | (apply Moves.via State.evrErase_moves; decide) | (apply Moves.via State.tallyRefused_moves; decide)
    | (apply State.lateStop_moves; decide) | apply MovesNext.ite | apply Moves.ite | intro _ | apply Moves.foldl
    | (apply Moves.snd; assumption) | (apply Moves.fst; assumption) | apply Moves.idOf | fail_if_no_progress (apply Moves.evr; decide)
    | extract_lets | split

end Sys2Proof.Machine
end

