-- ==== Sys2Proof/Laws/MovesTally.lean ====
section
/-! SUPPORT. What the operations of Machine/Tally.lean leave as it was (Laws/Moves.lean). -/

namespace Sys2Proof.Machine

open Sys2Proof

theorem State.argClamps_moves {s : State} {a a' : List Nat} : Moves 0x648 s (s.argClamps a a') := by
  unfold State.argClamps
  repeat' with_reducible first
    | apply Moves.refl | (apply Moves.via State.clampAt_moves; decide) | (apply Moves.via State.setReg_moves; decide)
    | apply Moves.ite | intro _ | apply Moves.foldl

theorem State.tlyGo_moves {s : State} {p : Port} : Moves 0x5E48 s (s.tlyGo p).2 := by
  unfold State.tlyGo
  repeat' with_reducible first
    | apply Moves.refl | (apply Moves.via State.irq_moves; decide) | (apply Moves.via State.setFv_moves; decide)
    | (apply Moves.via State.argClamps_moves; decide) | (apply Moves.via State.learnLaunch_moves; decide)
    | (apply Moves.via State.tallyRefused_moves; decide) | apply Moves.ite | intro _ | apply Moves.foldl
    | (apply Moves.snd; assumption) | (apply Moves.fst; assumption) | apply Moves.idOf | fail_if_no_progress (apply Moves.tly; decide)
    | extract_lets | split

theorem State.tallyStops_moves {s : State} {x : Tally} {status : Nat} : Moves 0x406CD80C s (s.tallyStops x status) := by
  unfold State.tallyStops
  repeat' with_reducible first
    | apply Moves.refl | (apply Moves.via State.rekeyStops_moves; decide) | (apply Moves.via State.calTallyStops_moves; decide)
    | (apply Moves.via State.planTallyStops_moves; decide) | (apply Moves.via State.olcAbandon_moves; decide)
    | (apply Moves.via State.tallyEnds_moves; decide) | apply Moves.ite | intro _ | apply Moves.foldl | (apply Moves.snd; assumption)
    | (apply Moves.fst; assumption) | apply Moves.idOf | fail_if_no_progress (apply Moves.evr; decide)

theorem State.queueCompletion_moves {s : State} {x : Tally} : Moves 0x4008 s (s.queueCompletion x) := by
  unfold State.queueCompletion
  repeat' with_reducible first
    | apply Moves.refl | (apply Moves.via State.irqIf_moves; decide) | (apply Moves.via State.irq_moves; decide) | apply Moves.ite
    | intro _ | apply Moves.foldl | (apply Moves.snd; assumption) | (apply Moves.fst; assumption) | apply Moves.idOf
    | fail_if_no_progress (apply Moves.tly; decide) | extract_lets | split

theorem State.tlyCancel_moves {s : State} {n : Nat} : Moves 0x406CD80C s (s.tlyCancel n) := by
  unfold State.tlyCancel
  repeat' with_reducible first
    | apply Moves.refl | (apply Moves.via State.setFv_moves; decide) | (apply Moves.via State.tallyStops_moves; decide)
    | apply Moves.ite | intro _ | apply Moves.foldl | (apply Moves.snd; assumption) | (apply Moves.fst; assumption) | apply Moves.idOf
    | extract_lets | split

theorem State.cqPop_moves {s : State} {v : Word} : Moves 0x4000 s (s.cqPop v) := by
  unfold State.cqPop
  repeat' with_reducible first
    | apply Moves.refl | apply Moves.ite | intro _ | apply Moves.foldl | (apply Moves.snd; assumption) | (apply Moves.fst; assumption)
    | apply Moves.idOf | fail_if_no_progress (apply Moves.tly; decide)

theorem State.talliesEnd_moves {s : State} : Moves 0x406CD80C s s.talliesEnd := by
  unfold State.talliesEnd
  repeat' with_reducible first
    | apply Moves.refl | (apply Moves.via State.tallyStops_moves; decide) | apply Moves.ite | intro _ | apply Moves.foldl

theorem State.tallyStart_moves {s : State} : Moves 0x4008 s s.tallyStart := by
  unfold State.tallyStart
  repeat' with_reducible first
    | apply Moves.refl | (apply Moves.via State.queueCompletion_moves; decide) | apply Moves.ite | intro _ | apply Moves.foldl

theorem State.tallyShift_moves {s : State} {n : Nat} : Moves 0x4000 s (s.tallyShift n) := by
  unfold State.tallyShift
  repeat' with_reducible first
    | apply Moves.refl | apply Moves.ite | intro _ | apply Moves.foldl | (apply Moves.snd; assumption) | (apply Moves.fst; assumption)
    | apply Moves.idOf | fail_if_no_progress (apply Moves.tly; decide)

theorem execTallyStart_moves {t tally : Nat} {s : State} : MovesNext 0x804009 s (execTallyStart t tally s) := by
  unfold execTallyStart
  repeat' with_reducible first
    | apply Moves.refl | (apply Moves.via State.at_moves; decide) | apply MovesNext.next
    | (apply Moves.via State.setTally_moves; decide) | (apply Moves.via State.setFv_moves; decide) | apply MovesNext.ite
    | apply Moves.ite | intro _ | apply Moves.foldl | apply Moves.idOf | extract_lets | split

theorem execNop_moves {t tally : Nat} {s : State} : MovesNext 0x804001 s (execNop t tally s) := by
  unfold execNop
  repeat' with_reducible first
    | apply Moves.refl | (apply Moves.via State.at_moves; decide) | apply MovesNext.next
    | (apply Moves.via State.tallyDone_moves; decide) | (apply State.lateStop_moves; decide) | apply MovesNext.ite | apply Moves.ite
    | intro _ | apply Moves.foldl | (apply Moves.snd; assumption) | (apply Moves.fst; assumption) | apply Moves.idOf

theorem execUndefinedOperation_moves {t tally : Nat} {s : State} : MovesNext 0x804001 s (execUndefinedOperation t tally s) := by
  unfold execUndefinedOperation
  repeat' with_reducible first
    | apply Moves.refl | (apply Moves.via State.at_moves; decide) | apply MovesNext.next
    | (apply Moves.via State.tallyRefused_moves; decide) | (apply State.lateStop_moves; decide) | apply MovesNext.ite
    | apply Moves.ite | intro _ | apply Moves.foldl | (apply Moves.snd; assumption) | (apply Moves.fst; assumption) | apply Moves.idOf

theorem execTallyCompletion_moves {t tally : Nat} {s : State} : MovesNext 0x804009 s (execTallyCompletion t tally s) := by
  unfold execTallyCompletion
  repeat' with_reducible first
    | apply Moves.refl | (apply Moves.via State.at_moves; decide) | apply MovesNext.next
    | (apply Moves.via State.queueCompletion_moves; decide) | apply MovesNext.ite | apply Moves.ite | intro _ | apply Moves.foldl
    | apply Moves.idOf | extract_lets | split

theorem execTallyTimeout_moves {t tally : Nat} {s : State} : MovesNext 0x40ECD80D s (execTallyTimeout t tally s) := by
  unfold execTallyTimeout
  repeat' with_reducible first
    | apply Moves.refl | (apply Moves.via State.at_moves; decide) | apply MovesNext.next
    | (apply Moves.via State.tallyStops_moves; decide) | apply MovesNext.ite | apply Moves.ite | intro _ | apply Moves.foldl
    | apply Moves.idOf | extract_lets | split

end Sys2Proof.Machine
end

