-- ==== Sys2Proof/Laws/MovesKeys.lean ====
section
/-! SUPPORT. What the operations of Machine/Keys.lean leave as it was (Laws/Moves.lean). -/

namespace Sys2Proof.Machine

open Sys2Proof

theorem State.keyDenied_moves {s : State} {n : Nat} : Moves 0x4000 s (s.keyDenied n) := by
  unfold State.keyDenied
  repeat' with_reducible first
    | apply Moves.refl | (apply Moves.via State.tallyRefused_moves; decide)

theorem State.keyBad_moves {s : State} {n : Nat} : Moves 0x4000 s (s.keyBad n) := by
  unfold State.keyBad
  repeat' with_reducible first
    | apply Moves.refl | (apply Moves.via State.tallyRefused_moves; decide)

theorem State.keyDone_moves {s : State} {n r0 : Nat} : Moves 0x4008 s (s.keyDone n r0) := by
  unfold State.keyDone
  repeat' with_reducible first
    | apply Moves.refl | (apply Moves.via State.keysShow_moves; decide) | (apply Moves.via State.tallyDone_moves; decide)

theorem State.pointFreed_moves {s : State} {p : Nat} : Moves 0x8180C s (s.pointFreed p) := by
  unfold State.pointFreed
  repeat' with_reducible first
    | apply Moves.refl | (apply Moves.via State.writeRecord_moves; decide) | (apply Moves.via State.windowFollows_moves; decide)
    | apply Moves.ite | intro _

theorem State.simsEnd_moves {s : State} : Moves 0x8000C s s.simsEnd := by
  unfold State.simsEnd
  repeat' with_reducible first
    | apply Moves.refl | (apply Moves.via State.squashPoint_moves; decide) | (apply Moves.via State.queueChange_moves; decide)
    | apply Moves.ite | intro _ | apply Moves.foldl | (apply Moves.snd; assumption) | (apply Moves.fst; assumption) | apply Moves.idOf
    | fail_if_no_progress (apply Moves.pte; decide)

theorem State.pointsFreed_moves {s : State} : Moves 0x8180C s s.pointsFreed := by
  unfold State.pointsFreed
  repeat' with_reducible first
    | apply Moves.refl | (apply Moves.via State.simsEnd_moves; decide) | (apply Moves.via State.pointFreed_moves; decide)
    | apply Moves.ite | intro _ | apply Moves.foldl

theorem State.slotsFreed_moves {s : State} : Moves 0x13681E4C s s.slotsFreed := by
  unfold State.slotsFreed
  repeat' with_reducible first
    | apply Moves.refl | (apply Moves.via State.forcesChanged_moves; decide) | (apply Moves.via State.setForce_moves; decide)
    | (apply Moves.via State.leaveForce_moves; decide) | apply Moves.ite | intro _ | apply Moves.foldl

theorem State.changeCancelled_moves {s : State} : Moves 0x204008 s s.changeCancelled := by
  unfold State.changeCancelled
  repeat' with_reducible first
    | apply Moves.refl | (apply Moves.via State.tallyEnds_moves; decide) | (apply Moves.via State.olcAbandon_moves; decide)
    | apply Moves.ite | intro _ | apply Moves.foldl | (apply Moves.snd; assumption) | (apply Moves.fst; assumption) | apply Moves.idOf
    | extract_lets | split

theorem State.callsEnd_moves {s : State} : Moves 0x4100008 s s.callsEnd := by
  unfold State.callsEnd
  repeat' with_reducible first
    | apply Moves.refl | (apply Moves.via State.callLeave_moves; decide) | apply Moves.ite | intro _ | apply Moves.foldl

theorem State.advanceTo_moves {s : State} {target : Nat} : Moves 0xBF79DECC s (s.advanceTo target) := by
  unfold State.advanceTo
  repeat' with_reducible first
    | apply Moves.refl | (apply Moves.via State.setFv_moves; decide) | (apply Moves.via State.closeSessions_moves; decide)
    | (apply Moves.via State.pointsFreed_moves; decide) | (apply Moves.via State.keysShow_moves; decide)
    | (apply Moves.via State.changeCancelled_moves; decide) | (apply Moves.via State.slotsFreed_moves; decide)
    | (apply Moves.via State.linkEnds_moves; decide) | (apply Moves.via State.safShow_moves; decide)
    | (apply Moves.via State.callsEnd_moves; decide) | (apply Moves.via State.fbeShow_moves; decide)
    | (apply Moves.via State.safCause_moves; decide) | apply Moves.ite | intro _ | apply Moves.foldl | (apply Moves.snd; assumption)
    | (apply Moves.fst; assumption) | apply Moves.idOf | fail_if_no_progress (apply Moves.sealedPages; decide)
    | fail_if_no_progress (apply Moves.sec; decide)

theorem execInstall_moves {t tally : Nat} {ecc : EccFinds} {s : State} : MovesNext 0x80845009 s (execInstall t tally ecc s) := by
  unfold execInstall
  repeat' with_reducible first
    | apply Moves.refl | (apply Moves.via State.at_moves; decide) | apply MovesNext.next | (apply State.lateStop_moves; decide)
    | (apply Moves.via State.keyBad_moves; decide) | (apply Moves.via State.keyDenied_moves; decide)
    | (apply Moves.via State.eccFinds_moves; decide) | (apply Moves.via State.tallyEnds_moves; decide)
    | (apply Moves.via State.keyDone_moves; decide) | (apply Moves.via State.secEvent_moves; decide) | apply MovesNext.ite
    | apply Moves.ite | intro _ | apply Moves.foldl | (apply Moves.snd; assumption) | (apply Moves.fst; assumption) | apply Moves.idOf
    | fail_if_no_progress (apply Moves.sec; decide) | extract_lets | split

theorem execRevoke_moves {t tally : Nat} {s : State} : MovesNext 0x80804009 s (execRevoke t tally s) := by
  unfold execRevoke
  repeat' with_reducible first
    | apply Moves.refl | (apply Moves.via State.at_moves; decide) | apply MovesNext.next | (apply State.lateStop_moves; decide)
    | (apply Moves.via State.keyBad_moves; decide) | (apply Moves.via State.keyDenied_moves; decide)
    | (apply Moves.via State.keyDone_moves; decide) | (apply Moves.via State.secEvent_moves; decide) | apply MovesNext.ite
    | apply Moves.ite | intro _ | apply Moves.foldl | (apply Moves.snd; assumption) | (apply Moves.fst; assumption) | apply Moves.idOf
    | fail_if_no_progress (apply Moves.sec; decide) | extract_lets | split

theorem execAes_moves {t tally : Nat} {ecc : EccFinds} {s : State} : MovesNext 0x80845809 s (execAes t tally ecc s) := by
  unfold execAes
  repeat' with_reducible first
    | apply Moves.refl | (apply Moves.via State.at_moves; decide) | apply MovesNext.next | (apply State.lateStop_moves; decide)
    | (apply Moves.via State.keyBad_moves; decide) | (apply Moves.via State.keyDenied_moves; decide)
    | (apply Moves.via State.eccFinds_moves; decide) | (apply Moves.via State.tallyEnds_moves; decide)
    | (apply Moves.via State.wrBytes_moves; decide) | (apply Moves.via State.keyDone_moves; decide) | apply MovesNext.ite
    | apply Moves.ite | intro _ | apply Moves.foldl | (apply Moves.snd; assumption) | (apply Moves.fst; assumption) | apply Moves.idOf
    | fail_if_no_progress (apply Moves.sec; decide) | extract_lets | split

theorem execAdvance_moves {t tally : Nat} {s : State} : MovesNext 0xBFF9DECD s (execAdvance t tally s) := by
  unfold execAdvance
  repeat' with_reducible first
    | apply Moves.refl | (apply Moves.via State.at_moves; decide) | apply MovesNext.next | (apply State.lateStop_moves; decide)
    | (apply Moves.via State.keyBad_moves; decide) | (apply Moves.via State.keyDenied_moves; decide)
    | (apply Moves.via State.keyDone_moves; decide) | (apply Moves.via State.secEvent_moves; decide)
    | (apply Moves.via State.advanceTo_moves; decide) | apply MovesNext.ite | apply Moves.ite | intro _ | apply Moves.foldl
    | (apply Moves.snd; assumption) | (apply Moves.fst; assumption) | apply Moves.idOf | extract_lets | split

end Sys2Proof.Machine
end

