-- ==== Sys2Proof/Laws/MovesModes.lean ====
section
/-! SUPPORT. What the operations of Machine/Modes.lean leave as it was (Laws/Moves.lean). -/

namespace Sys2Proof.Machine

open Sys2Proof

theorem State.pstateChanged_moves {s : State} : Moves 0x8 s s.pstateChanged := by
  unfold State.pstateChanged
  repeat' with_reducible first
    | apply Moves.refl | (apply Moves.via State.irq_moves; decide) | (apply Moves.via State.fbeShow_moves; decide)
    | (apply Moves.via State.safShow_moves; decide)

theorem State.dynSpxPowered_moves {s : State} {woken : Bool} : Moves 0xB180C s (s.dynSpxPowered woken) := by
  unfold State.dynSpxPowered
  repeat' with_reducible first
    | apply Moves.refl | (apply Moves.via State.dynPowered_moves; decide) | (apply Moves.via State.dynOff_moves; decide)
    | (apply Moves.via State.dynStopped_moves; decide) | (apply Moves.via State.spxPowered_moves; decide)
    | (apply Moves.via State.spxStopped_moves; decide) | apply Moves.ite | intro _

theorem State.toLean_moves {s : State} : Moves 0x180B9E4C s s.toLean := by
  unfold State.toLean
  repeat' with_reducible first
    | apply Moves.refl | (apply Moves.via State.pstateChanged_moves; decide) | (apply Moves.via State.linksLosePower_moves; decide)
    | (apply Moves.via State.spxStopped_moves; decide) | (apply Moves.via State.dynStopped_moves; decide)
    | (apply Moves.via State.setFv_moves; decide)

theorem State.toRun_moves {s : State} : Moves 0xB180C s s.toRun := by
  unfold State.toRun
  repeat' with_reducible first
    | apply Moves.refl | (apply Moves.via State.pstateChanged_moves; decide) | (apply Moves.via State.dynSpxPowered_moves; decide)
    | (apply Moves.via State.setFv_moves; decide)

theorem State.powerRequest_moves {s : State} {req : Nat} : Moves 0x180BBE4C s (s.powerRequest req) := by
  unfold State.powerRequest
  repeat' with_reducible first
    | apply Moves.refl | (apply Moves.via State.wakeSource_moves; decide) | (apply Moves.via State.toRun_moves; decide)
    | (apply Moves.via State.toLean_moves; decide) | apply Moves.ite | intro _ | apply Moves.foldl | (apply Moves.snd; assumption)
    | (apply Moves.fst; assumption) | apply Moves.idOf | fail_if_no_progress (apply Moves.pwr; decide)

theorem State.heldRequest_moves {s : State} : Moves 0x180BBE4C s s.heldRequest := by
  unfold State.heldRequest
  repeat' with_reducible first
    | apply Moves.refl | (apply Moves.via State.powerRequest_moves; decide) | (apply Moves.via State.setFv_moves; decide)
    | apply Moves.ite | intro _ | apply Moves.foldl | (apply Moves.snd; assumption) | (apply Moves.fst; assumption) | apply Moves.idOf
    | fail_if_no_progress (apply Moves.pwr; decide) | extract_lets | split

theorem State.portBOff_moves {s : State} : Moves 0x4000008 s s.portBOff := by
  unfold State.portBOff
  repeat' with_reducible first
    | apply Moves.refl | (apply Moves.via State.setPort_moves; decide) | (apply Moves.via State.setCanState_moves; decide)

theorem State.shiftAll_moves {s : State} {n : Nat} : Moves 0x385808 s (s.shiftAll n) := by
  unfold State.shiftAll
  repeat' with_reducible first
    | apply Moves.refl | (apply Moves.via State.tallyShift_moves; decide) | (apply Moves.via State.runsShift_moves; decide)
    | (apply Moves.via State.sweepShift_moves; decide) | (apply Moves.via State.fbeShift_moves; decide)
    | (apply Moves.via State.alhShift_moves; decide)

theorem State.resumePte_moves {s : State} : Moves 0x385808 s s.resumePte := by
  unfold State.resumePte
  repeat' with_reducible first
    | apply Moves.refl | (apply Moves.via State.lapse_moves; decide) | (apply Moves.via State.taskShow_moves; decide)
    | (apply Moves.via State.shiftAll_moves; decide)

theorem State.awaken_moves {s : State} : Moves 0x747BDE4C s s.awaken := by
  unfold State.awaken
  repeat' with_reducible first
    | apply Moves.refl | (apply Moves.via State.resumePte_moves; decide) | (apply Moves.via State.sacPowered_moves; decide)
    | (apply Moves.via State.alhResumes_moves; decide) | (apply Moves.via State.ageCount_moves; decide)
    | (apply Moves.via State.calCounting_moves; decide) | (apply Moves.via State.dynSpxPowered_moves; decide) | apply Moves.ite
    | intro _

theorem execDormantEntry_moves {t : Nat} {s : State} : MovesNext 0x5D8BFE4D s (execDormantEntry t s) := by
  unfold execDormantEntry
  repeat' with_reducible first
    | apply Moves.refl | (apply Moves.via State.at_moves; decide) | apply MovesNext.next
    | (apply Moves.via State.bandRest_moves; decide) | (apply Moves.via State.portBOff_moves; decide)
    | (apply Moves.via State.canSleep_moves; decide) | (apply Moves.via State.termShow_moves; decide)
    | (apply Moves.via State.setFv_moves; decide) | (apply Moves.via State.sacStop_moves; decide)
    | (apply Moves.via State.ageCount_moves; decide) | (apply Moves.via State.calCounting_moves; decide)
    | (apply Moves.via State.spxStopped_moves; decide) | (apply Moves.via State.dynStopped_moves; decide)
    | (apply Moves.via State.pstateChanged_moves; decide) | (apply Moves.via State.rmpReplan_moves; decide)
    | (apply Moves.via State.linksLosePower_moves; decide) | (apply Moves.via State.wakeStamp_moves; decide)
    | (apply Moves.via State.heldRequest_moves; decide) | apply MovesNext.ite | apply Moves.ite | intro _ | apply Moves.foldl
    | (apply Moves.snd; assumption) | (apply Moves.fst; assumption) | apply Moves.idOf | fail_if_no_progress (apply Moves.dio; decide)
    | fail_if_no_progress (apply Moves.pwr; decide) | extract_lets | split

theorem execWakeFromDormant_moves {t : Nat} {s : State} : MovesNext 0x7CFBFE4D s (execWakeFromDormant t s) := by
  unfold execWakeFromDormant
  repeat' with_reducible first
    | apply Moves.refl | (apply Moves.via State.at_moves; decide) | apply MovesNext.next | (apply Moves.via State.setFv_moves; decide)
    | (apply Moves.via State.awaken_moves; decide) | (apply Moves.via State.canWakeUp_moves; decide)
    | (apply Moves.via State.rmpReplan_moves; decide) | (apply Moves.via State.canStart_moves; decide)
    | (apply Moves.via State.heldRequest_moves; decide) | (apply Moves.via State.pstateChanged_moves; decide) | apply MovesNext.ite
    | apply Moves.ite | intro _ | apply Moves.foldl | (apply Moves.snd; assumption) | (apply Moves.fst; assumption) | apply Moves.idOf
    | fail_if_no_progress (apply Moves.pwr; decide) | extract_lets | split

end Sys2Proof.Machine
end

