-- ==== Sys2Proof/Laws/MovesFabric.lean ====
section
/-! SUPPORT. What the operations of Machine/Fabric.lean leave as it was (Laws/Moves.lean). -/

namespace Sys2Proof.Machine

open Sys2Proof

theorem State.trapRefused_moves {s : State} {p : Port} : Moves 0x8 s (s.trapRefused p) := by
  unfold State.trapRefused
  repeat' with_reducible first
    | apply Moves.refl | (apply Moves.via State.irq_moves; decide) | (apply Moves.via State.satInc_moves; decide) | apply Moves.ite
    | intro _ | apply Moves.foldl | (apply Moves.snd; assumption) | (apply Moves.fst; assumption) | apply Moves.idOf | extract_lets
    | split

theorem State.stage_moves {s : State} {b off : Nat} {f : Field} {w : Nat} : Moves 0x400018 s (s.stage b off f w) := by
  unfold State.stage
  repeat' with_reducible first
    | apply Moves.refl | (apply Moves.via State.setFv_moves; decide) | apply Moves.ite | intro _ | apply Moves.foldl
    | (apply Moves.snd; assumption) | (apply Moves.fst; assumption) | apply Moves.idOf | fail_if_no_progress (apply Moves.evr; decide)
    | fail_if_no_progress (apply Moves.staged; decide)

theorem State.storeField_moves {s : State} {p : Port} {k : Kind} {b off : Nat} {may : Bool} {now v : Word} {f : Field} :
    Moves 0x400658 s (s.storeField p k b off may now v f) := by
  unfold State.storeField
  repeat' with_reducible first
    | apply Moves.refl | (apply Moves.via State.clampAt_moves; decide) | (apply Moves.via State.setFv_moves; decide)
    | (apply Moves.via State.stage_moves; decide) | apply Moves.ite | intro _ | apply Moves.foldl | (apply Moves.snd; assumption)
    | (apply Moves.fst; assumption) | apply Moves.idOf | extract_lets | split

theorem State.storeWord_moves {s : State} {p : Port} {k : Kind} {i b off : Nat} {may : Bool} {v : Word} :
    Moves 0x100400658 s (s.storeWord p k i b off may v) := by
  unfold State.storeWord
  repeat' with_reducible first
    | apply Moves.refl | (apply Moves.via State.clampAt_moves; decide) | (apply Moves.via State.storeField_moves; decide)
    | apply Moves.ite | intro _ | apply Moves.foldl | (apply Moves.snd; assumption) | (apply Moves.fst; assumption) | apply Moves.idOf
    | extract_lets | split

theorem State.storeCommit_moves {s : State} {k : Kind} {i b : Nat} : Moves 0x400648 s (s.storeCommit k i b) := by
  unfold State.storeCommit
  repeat' with_reducible first
    | apply Moves.refl | (apply Moves.via State.clampAt_moves; decide) | (apply Moves.via State.setReg_moves; decide)
    | (apply Moves.via State.evrCommitLists_moves; decide) | apply Moves.ite | intro _ | apply Moves.foldl
    | (apply Moves.snd; assumption) | (apply Moves.fst; assumption) | apply Moves.idOf | extract_lets | split

theorem State.storePage_moves {s : State} {b : Nat} : Moves 0x400658 s (s.storePage b) := by
  unfold State.storePage
  repeat' with_reducible first
    | apply Moves.refl | (apply Moves.via State.storeCommit_moves; decide) | (apply Moves.via State.setFv_moves; decide)
    | (apply Moves.via State.setStamp_moves; decide) | apply Moves.ite | intro _ | apply Moves.foldl | (apply Moves.snd; assumption)
    | (apply Moves.fst; assumption) | apply Moves.idOf | fail_if_no_progress (apply Moves.staged; decide) | extract_lets | split

theorem State.committed_moves {s : State} {old : State} {b : Nat} : Moves 0x3FFFDE4C s (s.committed old b) := by
  unfold State.committed
  repeat' with_reducible first
    | apply Moves.refl | (apply Moves.via State.sacCommitted_moves; decide) | (apply Moves.via State.cvCommitted_moves; decide)
    | (apply Moves.via State.scCommitted_moves; decide) | (apply Moves.via State.planesOfChannel_moves; decide)
    | (apply Moves.via State.dynCommitted_moves; decide) | (apply Moves.via State.spxCommitted_moves; decide)
    | (apply Moves.via State.planeCommitted_moves; decide) | (apply Moves.via State.plannedShow_moves; decide)
    | (apply Moves.via State.scrubSet_moves; decide) | (apply Moves.via State.classDue_moves; decide)
    | (apply Moves.via State.squash_moves; decide) | (apply Moves.via State.safShow_moves; decide)
    | (apply Moves.via State.alhCommitted_moves; decide) | (apply Moves.via State.fbeEnabled_moves; decide)
    | (apply Moves.via State.objCommitted_moves; decide) | (apply Moves.via State.pnlCommitted_moves; decide)
    | (apply Moves.via State.dioCommitted_moves; decide) | (apply Moves.via State.loopCommitted_moves; decide)
    | (apply Moves.via State.rmpReplan_moves; decide) | (apply Moves.via State.tbsCommitted_moves; decide) | apply Moves.ite | intro _
    | apply Moves.foldl | (apply Moves.snd; assumption) | (apply Moves.fst; assumption) | apply Moves.idOf | extract_lets | split

theorem State.commitPage_moves {s : State} {b : Nat} : Moves 0x3FFFDE7C s (s.commitPage b) := by
  unfold State.commitPage
  repeat' with_reducible first
    | apply Moves.refl | (apply Moves.via State.committed_moves; decide) | (apply Moves.via State.storePage_moves; decide)
    | apply Moves.ite | intro _ | apply Moves.foldl | (apply Moves.snd; assumption) | (apply Moves.fst; assumption) | apply Moves.idOf
    | fail_if_no_progress (apply Moves.group; decide)

theorem State.discardPage_moves {s : State} {b : Nat} : Moves 0x400038 s (s.discardPage b) := by
  unfold State.discardPage
  repeat' with_reducible first
    | apply Moves.refl | (apply Moves.via State.setFv_moves; decide) | apply Moves.ite | intro _ | apply Moves.foldl
    | (apply Moves.snd; assumption) | (apply Moves.fst; assumption) | apply Moves.idOf
    | fail_if_no_progress (apply Moves.staged_group; decide) | fail_if_no_progress (apply Moves.evr; decide)

theorem State.commitAll_moves {s : State} {pages : List Nat} : Moves 0x3FFFDE5C s (s.commitAll pages) := by
  unfold State.commitAll
  repeat' with_reducible first
    | apply Moves.refl | (apply Moves.via State.storePage_moves; decide) | (apply Moves.via State.committed_moves; decide)
    | apply Moves.ite | intro _ | apply Moves.foldl

theorem State.groupCommit_moves {s : State} : Moves 0x3FFFDE7C s s.groupCommit := by
  unfold State.groupCommit
  repeat' with_reducible first
    | apply Moves.refl | (apply Moves.via State.commitAll_moves; decide) | (apply Moves.via State.irq_moves; decide)
    | (apply Moves.via State.wrapInc_moves; decide) | apply Moves.ite | intro _ | apply Moves.foldl | (apply Moves.snd; assumption)
    | (apply Moves.fst; assumption) | apply Moves.idOf | fail_if_no_progress (apply Moves.group; decide)

theorem State.joinPage_moves {s : State} {b : Nat} : Moves 0x668 s (s.joinPage b) := by
  unfold State.joinPage
  repeat' with_reducible first
    | apply Moves.refl | (apply Moves.via State.clampAt_moves; decide) | apply Moves.ite | intro _ | apply Moves.foldl
    | (apply Moves.snd; assumption) | (apply Moves.fst; assumption) | apply Moves.idOf
    | fail_if_no_progress (apply Moves.group; decide)

theorem State.pgCtrl_moves {s : State} {p : Port} {b : Nat} {v : Word} : Moves 0x3FFFDE7C s (s.pgCtrl p b v) := by
  unfold State.pgCtrl
  repeat' with_reducible first
    | apply Moves.refl | (apply Moves.via State.clampAt_moves; decide) | (apply Moves.via State.setFv_moves; decide)
    | (apply Moves.via State.commitPage_moves; decide) | (apply Moves.via State.discardPage_moves; decide)
    | (apply Moves.via State.joinPage_moves; decide) | apply Moves.ite | intro _ | apply Moves.foldl | (apply Moves.snd; assumption)
    | (apply Moves.fst; assumption) | apply Moves.idOf | extract_lets | split

theorem State.clampNext_moves {s : State} {b : Nat} {v : Word} : Moves 0x40 s (s.clampNext b v) := by
  unfold State.clampNext
  repeat' with_reducible first
    | apply Moves.refl | (apply Moves.via State.setRing_moves; decide) | apply Moves.ite | intro _

theorem State.tbsFields_moves {s : State} {off : Nat} {v : Word} : Moves 0x800000 s (s.tbsFields off v) := by
  unfold State.tbsFields
  repeat' with_reducible first
    | apply Moves.refl | apply Moves.ite | intro _ | apply Moves.foldl | (apply Moves.snd; assumption) | (apply Moves.fst; assumption)
    | apply Moves.idOf | fail_if_no_progress (apply Moves.tbs; decide)

theorem State.pageAction_moves {s : State} {old : State} {p : Port} {k : Kind} {i b off : Nat} {v : Word} {may : Bool} {sent : Nat} {flips : List Nat} :
    Moves 0x1FFFFFE7C s (s.pageAction old p k i b off v may sent flips) := by
  unfold State.pageAction
  repeat' with_reducible first
    | apply Moves.refl | (apply Moves.via State.powerRequest_moves; decide) | (apply Moves.via State.setReg_moves; decide)
    | (apply Moves.via State.groupCommit_moves; decide) | (apply Moves.via State.cqPop_moves; decide)
    | (apply Moves.via State.tlyCancel_moves; decide) | (apply Moves.via State.tbsCtrl_moves; decide)
    | (apply Moves.via State.tbsFields_moves; decide) | (apply Moves.via State.secReached_moves; decide)
    | (apply Moves.via State.dayReached_moves; decide) | (apply Moves.via State.safCtrl_moves; decide)
    | (apply Moves.via State.ageCtrl_moves; decide) | (apply Moves.via State.secCtrl_moves; decide)
    | (apply Moves.via State.secResp_moves; decide) | (apply Moves.via State.fbeShow_moves; decide)
    | (apply Moves.via State.debugStep_moves; decide) | (apply Moves.via State.clampAt_moves; decide)
    | (apply Moves.via State.lnkCtrl_moves; decide) | (apply Moves.via State.hbufTake_moves; decide)
    | (apply Moves.via State.calHold_moves; decide) | (apply Moves.via State.scCtrl_moves; decide)
    | (apply Moves.via State.planeCtrl_moves; decide) | (apply Moves.via State.stoCtrl_moves; decide)
    | (apply Moves.via State.pteClr_moves; decide) | (apply Moves.via State.simWrite_moves; decide)
    | (apply Moves.via State.simValue_moves; decide) | (apply Moves.via State.classRelease_moves; decide)
    | (apply Moves.via State.alhWord_moves; decide) | (apply Moves.via State.alhCmdWrite_moves; decide)
    | (apply Moves.via State.alhClear_moves; decide) | (apply Moves.via State.frcCtrl_moves; decide)
    | (apply Moves.via State.evTrig_moves; decide) | (apply Moves.via State.fbeClr_moves; decide)
    | (apply Moves.via State.evrTrigGo_moves; decide) | (apply Moves.via State.evrClr_moves; decide)
    | (apply Moves.via State.dioCtrl_moves; decide) | (apply Moves.via State.doSet_moves; decide)
    | (apply Moves.via State.lpoClr_moves; decide) | (apply Moves.via State.loopSet_moves; decide)
    | (apply Moves.via State.loopCtrl_moves; decide) | (apply Moves.via State.canCtrl_moves; decide)
    | (apply Moves.via State.pmbRelease_moves; decide) | (apply Moves.via State.objCtrl_moves; decide)
    | (apply Moves.via State.pnlCtrl_moves; decide) | (apply Moves.via State.rmpReplan_moves; decide)
    | (apply Moves.via State.rmpCtrl_moves; decide) | apply Moves.ite | intro _ | apply Moves.foldl | (apply Moves.snd; assumption)
    | (apply Moves.fst; assumption) | apply Moves.idOf | fail_if_no_progress (apply Moves.group; decide)
    | fail_if_no_progress (apply Moves.rmp; decide) | extract_lets | split

theorem State.refuseWord_moves {s : State} {p : Port} {b off : Nat} {v : Word} : Moves 0x100000648 s (s.refuseWord p b off v) := by
  unfold State.refuseWord
  repeat' with_reducible first
    | apply Moves.refl | (apply Moves.via State.clampAt_moves; decide) | (apply Moves.via State.trapRefused_moves; decide)
    | apply Moves.ite | intro _

theorem State.takeWord_moves {s : State} {p : Port} {a : Nat} {v : Word} {sent : Nat} {flips : List Nat} :
    Moves 0x1FFFFFE7C s (s.takeWord p a v sent flips) := by
  unfold State.takeWord
  repeat' with_reducible first
    | apply Moves.refl | (apply Moves.via State.storeWord_moves; decide) | (apply Moves.via State.pgCtrl_moves; decide)
    | (apply Moves.via State.clampNext_moves; decide) | (apply Moves.via State.setReg_moves; decide)
    | (apply Moves.via State.pageAction_moves; decide) | apply Moves.ite | intro _ | apply Moves.foldl | (apply Moves.snd; assumption)
    | (apply Moves.fst; assumption) | apply Moves.idOf | extract_lets | split

theorem State.writeWord_moves {s : State} {p : Port} {a : Nat} {v : Word} {sent : Nat} {flips : List Nat} :
    Moves 0x1FFFFFE7C s (s.writeWord p a v sent flips) := by
  unfold State.writeWord
  repeat' with_reducible first
    | apply Moves.refl | (apply Moves.via State.takeWord_moves; decide) | (apply Moves.via State.refuseWord_moves; decide)
    | apply Moves.ite | intro _ | apply Moves.foldl | (apply Moves.snd; assumption) | (apply Moves.fst; assumption) | apply Moves.idOf
    | extract_lets | split

end Sys2Proof.Machine
end

