-- ==== Sys2Proof/Laws/MovesImage.lean ====
section
/-! SUPPORT. What the operations of Machine/Image.lean leave as it was (Laws/Moves.lean). -/

namespace Sys2Proof.Machine

open Sys2Proof

theorem State.imageShow_moves {s : State} {target : Nat} {sig dec : Bool} {slot id : Nat} :
    Moves 0x8 s (s.imageShow target sig dec slot id) := by
  unfold State.imageShow
  repeat' with_reducible first
    | apply Moves.refl | (apply Moves.via State.setFb_moves; decide) | (apply Moves.via State.setFv_moves; decide)

theorem State.imageFails_moves {s : State} {n id r1 : Nat} : Moves 0x4008 s (s.imageFails n id r1) := by
  unfold State.imageFails
  repeat' with_reducible first
    | apply Moves.refl | (apply Moves.via State.tallyEnds_moves; decide) | (apply Moves.via State.secEvent_moves; decide)

theorem State.standbyInvalid_moves {s : State} : Moves 0x200008 s s.standbyInvalid := by
  unfold State.standbyInvalid
  repeat' with_reducible first
    | apply Moves.refl | (apply Moves.via State.setFv_moves; decide) | apply Moves.ite | intro _ | apply Moves.foldl
    | (apply Moves.snd; assumption) | (apply Moves.fst; assumption) | apply Moves.idOf | fail_if_no_progress (apply Moves.fbe; decide)

theorem State.formFails_moves {s : State} {x : Tally} {id r1 : Nat} : Moves 0x204008 s (s.formFails x id r1) := by
  unfold State.formFails
  repeat' with_reducible first
    | apply Moves.refl | (apply Moves.via State.tallyEnds_moves; decide) | (apply Moves.via State.standbyInvalid_moves; decide)
    | apply Moves.ite | intro _

theorem State.checkImage_moves {s : State} {x : Tally} {ecc : EccFinds} : Moves 0x245008 s (s.checkImage x ecc).1 := by
  unfold State.checkImage
  repeat' with_reducible first
    | apply Moves.refl | (apply Moves.via State.tallyRefused_moves; decide) | (apply Moves.via State.eccFinds_moves; decide)
    | (apply Moves.via State.tallyEnds_moves; decide) | (apply Moves.via State.imageShow_moves; decide)
    | (apply Moves.via State.formFails_moves; decide) | (apply Moves.via State.imageFails_moves; decide) | apply Moves.ite | intro _
    | apply Moves.foldl | (apply Moves.snd; assumption) | (apply Moves.fst; assumption) | apply Moves.idOf | extract_lets | split

theorem State.imageConfig_moves {s : State} {p : Port} {body : List Byte} : Moves 0x1FFFFFE7C s (s.imageConfig p body) := by
  unfold State.imageConfig
  repeat' with_reducible first
    | apply Moves.refl | (apply Moves.via State.takeWord_moves; decide) | (apply Moves.via State.irq_moves; decide)
    | (apply Moves.via State.wrapInc_moves; decide) | (apply Moves.via State.commitAll_moves; decide) | apply Moves.ite | intro _
    | apply Moves.foldl | (apply Moves.snd; assumption) | (apply Moves.fst; assumption) | apply Moves.idOf
    | fail_if_no_progress (apply Moves.group; decide)

theorem execImgLoadProgram_moves {t tally : Nat} {ecc : EccFinds} {s : State} :
    MovesNext 0xA45809 s (execImgLoadProgram t tally ecc s) := by
  unfold execImgLoadProgram
  repeat' with_reducible first
    | apply Moves.refl | (apply Moves.via State.at_moves; decide) | apply MovesNext.next | (apply State.lateStop_moves; decide)
    | (apply Moves.via State.checkImage_moves; decide) | (apply Moves.via State.formFails_moves; decide)
    | (apply Moves.via State.nodeWrite_moves; decide) | (apply Moves.via State.setFv_moves; decide)
    | (apply Moves.via State.tallyDone_moves; decide) | apply MovesNext.ite | apply Moves.ite | intro _ | apply Moves.foldl
    | (apply Moves.snd; assumption) | (apply Moves.fst; assumption) | apply Moves.idOf | fail_if_no_progress (apply Moves.fbe; decide)
    | extract_lets | split

theorem execImgLoadConfig_moves {t tally : Nat} {ecc : EccFinds} {s : State} :
    MovesNext 0x1FFFFFE7D s (execImgLoadConfig t tally ecc s) := by
  unfold execImgLoadConfig
  repeat' with_reducible first
    | apply Moves.refl | (apply Moves.via State.at_moves; decide) | apply MovesNext.next | (apply State.lateStop_moves; decide)
    | (apply Moves.via State.checkImage_moves; decide) | (apply Moves.via State.tallyEnds_moves; decide)
    | (apply Moves.via State.tallyDone_moves; decide) | (apply Moves.via State.imageConfig_moves; decide) | apply MovesNext.ite
    | apply Moves.ite | intro _ | apply Moves.foldl | (apply Moves.snd; assumption) | (apply Moves.fst; assumption) | apply Moves.idOf
    | extract_lets | split

theorem execImgLoadAlarmTable_moves {t tally : Nat} {ecc : EccFinds} {s : State} :
    MovesNext 0x34FC5E4D s (execImgLoadAlarmTable t tally ecc s) := by
  unfold execImgLoadAlarmTable
  repeat' with_reducible first
    | apply Moves.refl | (apply Moves.via State.at_moves; decide) | apply MovesNext.next | (apply State.lateStop_moves; decide)
    | (apply Moves.via State.checkImage_moves; decide) | (apply Moves.via State.tallyEnds_moves; decide)
    | apply State.unlessWaits_moves | (apply Moves.via State.tallyDone_moves; decide)
    | (apply Moves.via State.alhRecount_moves; decide) | (apply Moves.via State.alhLoad_moves; decide) | apply MovesNext.ite
    | apply Moves.ite | intro _ | apply Moves.foldl | (apply Moves.snd; assumption) | (apply Moves.fst; assumption) | apply Moves.idOf
    | extract_lets | split

end Sys2Proof.Machine
end

