-- ==== Sys2Proof/Laws/MovesHostPort.lean ====
section
/-! SUPPORT. What the operations of Machine/HostPort.lean leave as it was (Laws/Moves.lean). -/

namespace Sys2Proof.Machine

open Sys2Proof

theorem State.setPortState_moves {s : State} {p : Port} {x : PortState} : Moves 0x600 s (s.setPortState p x) := by
  unfold State.setPortState
  repeat' with_reducible first
    | apply Moves.refl | apply Moves.ite | intro _ | apply Moves.foldl | (apply Moves.snd; assumption) | (apply Moves.fst; assumption)
    | apply Moves.idOf | fail_if_no_progress (apply Moves.host; decide) | fail_if_no_progress (apply Moves.trap; decide)
    | extract_lets | split

theorem State.frameEnd_moves {s : State} {p : Port} : Moves 0x80000008 s (s.frameEnd p) := by
  unfold State.frameEnd
  repeat' with_reducible first
    | apply Moves.refl | (apply Moves.via State.setFv_moves; decide) | apply Moves.ite | intro _ | apply Moves.foldl
    | (apply Moves.snd; assumption) | (apply Moves.fst; assumption) | apply Moves.idOf | fail_if_no_progress (apply Moves.sec; decide)
    | extract_lets | split

theorem State.answers_moves {s : State} {p : Port} {status : Byte} {data : List Byte} : Moves 0x600 s (s.answers p status data) := by
  unfold State.answers
  repeat' with_reducible first
    | apply Moves.refl | (apply Moves.via State.setPortState_moves; decide)

theorem State.dropRead_moves {s : State} {p : Port} : Moves 0x600 s (s.dropRead p) := by
  unfold State.dropRead
  repeat' with_reducible first
    | apply Moves.refl | (apply Moves.via State.setPortState_moves; decide)

theorem State.writeLost_moves {s : State} {p : Port} : Moves 0x608 s (s.writeLost p) := by
  unfold State.writeLost
  repeat' with_reducible first
    | apply Moves.refl | (apply Moves.via State.irq_moves; decide) | (apply Moves.via State.setPortState_moves; decide)

theorem State.badAddr_moves {s : State} : Moves 0x8 s s.badAddr := by
  unfold State.badAddr
  repeat' with_reducible first
    | apply Moves.refl | (apply Moves.via State.irq_moves; decide) | (apply Moves.via State.satInc_moves; decide)

theorem State.burstWord_moves {s : State} {p : Port} {a : Nat} : Moves 0x100000008 s (s.burstWord p a).2 := by
  unfold State.burstWord
  repeat' with_reducible first
    | apply Moves.refl | (apply Moves.via State.hbufGive_moves; decide) | apply Moves.ite | intro _ | apply Moves.foldl
    | (apply Moves.snd; assumption) | (apply Moves.fst; assumption) | apply Moves.idOf | extract_lets | split

theorem State.burstWords_moves {p : Port} {n : Nat} : ∀ {s : State} {a : Nat}, Moves 0x100000008 s (s.burstWords p a n).2 := by
  induction n with
  | zero => exact Moves.refl _ _
  | succ n ih => exact (State.burstWord_moves.weaken (by decide)).trans ih

theorem State.readNow_moves {s : State} {p : Port} {a base n : Nat} : Moves 0x100000008 s (s.readNow p a base n).2.2 := by
  unfold State.readNow
  extract_lets
  repeat' split
  all_goals dsimp only
  all_goals repeat' with_reducible first
    | apply Moves.refl | (apply Moves.via State.burstWords_moves; decide)

theorem State.countRead_moves {s : State} {p : Port} {a base n : Nat} : Moves 0x8 s (s.countRead p a base n) := by
  unfold State.countRead
  repeat' with_reducible first
    | apply Moves.refl | (apply Moves.via State.satInc_moves; decide) | (apply Moves.via State.badAddr_moves; decide)
    | (apply Moves.via State.trapRefused_moves; decide) | apply Moves.ite | intro _

theorem State.answerRead_moves {s : State} {p : Port} {a base n ok : Nat} {l : List Byte} :
    Moves 0x608 s (s.answerRead p a base n ok l) := by
  unfold State.answerRead
  repeat' with_reducible first
    | apply Moves.refl | (apply Moves.via State.dropRead_moves; decide) | (apply Moves.via State.countRead_moves; decide)
    | (apply Moves.via State.answers_moves; decide)

theorem State.holdRead_moves {s : State} {p : Port} {a n : Nat} : Moves 0x600 s (s.holdRead p a n) := by
  unfold State.holdRead
  repeat' with_reducible first
    | apply Moves.refl | (apply Moves.via State.setPortState_moves; decide) | (apply Moves.via State.answers_moves; decide)

theorem State.readFrame_moves {s : State} {p : Port} {lanes a n hz ns : Nat} {ecc : EccFinds} :
    Moves 0x100045E48 s (s.readFrame p lanes a n hz ns ecc) := by
  unfold State.readFrame
  repeat' with_reducible first
    | apply Moves.refl | (apply Moves.via State.answers_moves; decide) | (apply Moves.via State.dropRead_moves; decide)
    | (apply Moves.via State.tlyGo_moves; decide) | (apply Moves.via State.satInc_moves; decide)
    | (apply Moves.via State.eccFinds_moves; decide) | (apply Moves.via State.readNow_moves; decide)
    | (apply Moves.via State.answerRead_moves; decide) | (apply Moves.via State.holdRead_moves; decide) | apply Moves.ite | intro _
    | apply Moves.foldl | (apply Moves.snd; assumption) | (apply Moves.fst; assumption) | apply Moves.idOf | extract_lets | split

theorem State.frameDone_moves {s : State} : Moves 0x700 s s.frameDone := by
  unfold State.frameDone
  repeat' with_reducible first
    | apply Moves.refl | apply Moves.ite | intro _ | apply Moves.foldl | (apply Moves.snd; assumption) | (apply Moves.fst; assumption)
    | apply Moves.idOf | fail_if_no_progress (apply Moves.queue_host_trap; decide)

theorem State.aperWrite_moves {s : State} {f : Frame} : Moves 0x1E08 s (s.aperWrite f) := by
  unfold State.aperWrite
  repeat' with_reducible first
    | apply Moves.refl | (apply Moves.via State.nodeWrite_moves; decide) | (apply Moves.via State.trapRefused_moves; decide)
    | (apply Moves.via State.writeLost_moves; decide) | apply Moves.ite | intro _ | apply Moves.foldl

theorem State.drainAper_moves {k : Nat} : ∀ {s : State}, Moves 0x1F08 s (s.drainAper k) := by
  induction k with
  | zero => exact Moves.refl _ _
  | succ k ih =>
    intro s
    unfold State.drainAper
    split
    · exact Moves.refl _ _
    · exact Moves.ite (fun _ => Moves.refl _ _)
        (fun _ => Moves.trans (Moves.via State.frameDone_moves (by decide) (State.aperWrite_moves.weaken (by decide))) ih)

theorem State.writeFrame_moves {s : State} {p : Port} {a : Nat} {l : List Byte} {ecc : EccFinds} :
    Moves 0x41F08 s (s.writeFrame p a l ecc) := by
  unfold State.writeFrame
  repeat' with_reducible first
    | apply Moves.refl | (apply Moves.via State.writeLost_moves; decide) | (apply Moves.via State.dropRead_moves; decide)
    | (apply Moves.via State.badAddr_moves; decide) | (apply Moves.via State.satInc_moves; decide)
    | (apply Moves.via State.eccFinds_moves; decide) | (apply Moves.via State.drainAper_moves; decide) | apply Moves.ite | intro _
    | apply Moves.foldl | (apply Moves.snd; assumption) | (apply Moves.fst; assumption) | apply Moves.idOf
    | fail_if_no_progress (apply Moves.queue; decide)

theorem execRd1_moves {t : Nat} {port : Port} {addr n sckHz fabricNs : Nat} {ecc : EccFinds} {s : State} :
    MovesNext 0x180845E49 s (execRd1 t port addr n sckHz fabricNs ecc s) := by
  unfold execRd1
  repeat' with_reducible first
    | apply Moves.refl | (apply Moves.via State.at_moves; decide) | apply MovesNext.next
    | (apply Moves.via State.frameEnd_moves; decide) | (apply Moves.via State.readFrame_moves; decide) | apply MovesNext.ite
    | apply Moves.ite | intro _

theorem execRd4_moves {t addr n sckHz fabricNs : Nat} {ecc : EccFinds} {s : State} :
    MovesNext 0x100845E49 s (execRd4 t addr n sckHz fabricNs ecc s) := by
  unfold execRd4
  repeat' with_reducible first
    | apply Moves.refl | (apply Moves.via State.at_moves; decide) | apply MovesNext.next
    | (apply Moves.via State.readFrame_moves; decide)

theorem execTlyGo_moves {t : Nat} {port : Port} {s : State} : MovesNext 0x180845E49 s (execTlyGo t port s) := by
  unfold execTlyGo
  repeat' with_reducible first
    | apply Moves.refl | (apply Moves.via State.at_moves; decide) | apply MovesNext.next
    | (apply Moves.via State.frameEnd_moves; decide) | (apply Moves.via State.readFrame_moves; decide) | apply MovesNext.ite
    | apply Moves.ite | intro _

theorem execHbufRead_moves {t : Nat} {port : Port} {addr n : Nat} {s : State} :
    MovesNext 0x180845E49 s (execHbufRead t port addr n s) := by
  unfold execHbufRead
  repeat' with_reducible first
    | apply Moves.refl | (apply Moves.via State.at_moves; decide) | apply MovesNext.next
    | (apply Moves.via State.frameEnd_moves; decide) | (apply Moves.via State.readFrame_moves; decide) | apply MovesNext.ite
    | apply Moves.ite | intro _

theorem execHeldReadComplete_moves {t : Nat} {port : Port} {ecc : EccFinds} {s : State} :
    MovesNext 0x100841609 s (execHeldReadComplete t port ecc s) := by
  unfold execHeldReadComplete
  repeat' with_reducible first
    | apply Moves.refl | (apply Moves.via State.at_moves; decide) | apply MovesNext.next
    | (apply Moves.via State.eccFinds_moves; decide) | (apply Moves.via State.readNow_moves; decide)
    | (apply Moves.via State.setPortState_moves; decide) | apply MovesNext.ite | apply Moves.ite | intro _ | apply Moves.foldl
    | apply Moves.idOf | extract_lets | split

theorem execTallyLaunch_moves {t : Nat} {port : Port} {s : State} : MovesNext 0x805E49 s (execTallyLaunch t port s) := by
  unfold execTallyLaunch
  repeat' with_reducible first
    | apply Moves.refl | (apply Moves.via State.at_moves; decide) | apply MovesNext.next | (apply Moves.via State.tlyGo_moves; decide)
    | (apply Moves.via State.setPortState_moves; decide) | apply MovesNext.ite | apply Moves.ite | intro _ | apply Moves.foldl
    | apply Moves.idOf | extract_lets | split

theorem execWr1_moves {t : Nat} {port : Port} {addr : Nat} {data : List Byte} {ecc : EccFinds} {s : State} :
    MovesNext 0x80841F09 s (execWr1 t port addr data ecc s) := by
  unfold execWr1
  repeat' with_reducible first
    | apply Moves.refl | (apply Moves.via State.at_moves; decide) | apply MovesNext.next
    | (apply Moves.via State.frameEnd_moves; decide) | (apply Moves.via State.writeFrame_moves; decide) | apply MovesNext.ite
    | apply Moves.ite | intro _

theorem execWr4_moves {t addr : Nat} {data : List Byte} {ecc : EccFinds} {s : State} :
    MovesNext 0x841F09 s (execWr4 t addr data ecc s) := by
  unfold execWr4
  repeat' with_reducible first
    | apply Moves.refl | (apply Moves.via State.at_moves; decide) | apply MovesNext.next
    | (apply Moves.via State.writeFrame_moves; decide)

theorem execFrameAbort_moves {t : Nat} {port : Port} {addr : Nat} {data : List Byte} {ecc : EccFinds} {s : State} :
    MovesNext 0x80841F09 s (execFrameAbort t port addr data ecc s) := by
  unfold execFrameAbort
  repeat' with_reducible first
    | apply Moves.refl | (apply Moves.via State.at_moves; decide) | apply MovesNext.next
    | (apply Moves.via State.frameEnd_moves; decide) | (apply Moves.via State.writeFrame_moves; decide) | apply MovesNext.ite
    | apply Moves.ite | intro _

theorem execStat_moves {t : Nat} {port : Port} {s : State} : MovesNext 0x80800609 s (execStat t port s) := by
  unfold execStat
  repeat' with_reducible first
    | apply Moves.refl | (apply Moves.via State.at_moves; decide) | apply MovesNext.next
    | (apply Moves.via State.frameEnd_moves; decide) | (apply Moves.via State.answers_moves; decide)
    | (apply Moves.via State.setPortState_moves; decide) | apply MovesNext.ite | apply Moves.ite | intro _

theorem execHrst_moves {t : Nat} {s : State} : MovesNext 0x800601 s (execHrst t s) := by
  unfold execHrst
  repeat' with_reducible first
    | apply Moves.refl | (apply Moves.via State.at_moves; decide) | apply MovesNext.next
    | (apply Moves.via State.dropRead_moves; decide) | apply MovesNext.ite | apply Moves.ite | intro _

theorem execUndefinedOpcode_moves {t : Nat} {port : Port} {opcode : Byte} {s : State} :
    MovesNext 0x80800009 s (execUndefinedOpcode t port opcode s) := by
  unfold execUndefinedOpcode
  repeat' with_reducible first
    | apply Moves.refl | (apply Moves.via State.at_moves; decide) | apply MovesNext.next
    | (apply Moves.via State.frameEnd_moves; decide) | (apply Moves.via State.irq_moves; decide)
    | (apply Moves.via State.satInc_moves; decide) | apply MovesNext.ite | apply Moves.ite | intro _

end Sys2Proof.Machine
end

