-- ==== Sys2Proof/Laws/MovesWrites.lean ====
section
/-! SUPPORT. What the operations of Machine/Writes.lean leave as it was (Laws/Moves.lean). -/

namespace Sys2Proof.Machine

open Sys2Proof

theorem State.popWord_moves {s : State} : Moves 0x1F08 s s.popWord := by
  unfold State.popWord
  repeat' with_reducible first
    | apply Moves.refl | (apply Moves.via State.drainAper_moves; decide) | (apply Moves.via State.frameDone_moves; decide)
    | apply Moves.ite | intro _ | apply Moves.foldl | (apply Moves.snd; assumption) | (apply Moves.fst; assumption) | apply Moves.idOf
    | fail_if_no_progress (apply Moves.queue; decide) | extract_lets | split

theorem State.takeFrontNow_moves {s : State} {is : Nat → Word → Bool} {sent : Nat} {flips : List Nat} :
    Moves 0x1FFFFFF7C s (s.takeFrontNow is sent flips) := by
  unfold State.takeFrontNow
  repeat' with_reducible first
    | apply Moves.refl | (apply Moves.via State.popWord_moves; decide) | (apply Moves.via State.writeWord_moves; decide)
    | apply Moves.ite | intro _ | apply Moves.foldl | (apply Moves.snd; assumption) | (apply Moves.fst; assumption) | apply Moves.idOf
    | extract_lets | split

theorem State.takeFront_moves {s : State} {is : Nat → Word → Bool} {sent : Nat} {flips : List Nat} :
    Moves 0x1FFFFFF7C s (s.takeFront is sent flips) := by
  unfold State.takeFront
  repeat' with_reducible first
    | apply Moves.refl | apply State.unlessWaits_moves | (apply Moves.via State.takeFrontNow_moves; decide)

theorem State.takeRow_moves {s : State} {r : WriteRow} {sent : Nat} {flips : List Nat} :
    Moves 0x1FFFFFF7C s (s.takeRow r sent flips) := by
  unfold State.takeRow
  repeat' with_reducible first
    | apply Moves.refl | (apply Moves.via State.takeFront_moves; decide)

theorem State.takeWindow_moves {s : State} {is : Frame → Bool} : Moves 0x81F4C s (s.takeWindow is) := by
  have hw : ∀ {p : Port} {base a : Nat} {l : List Byte} {t : State}, s.windowWrite p base a l = some t → Moves 0x81F4C s t := by
    intro p base a l t e
    unfold State.windowWrite at e
    dsimp only at e
    split at e
    · cases e
    · cases e
      exact Moves.via State.safShow_moves (by decide) (Moves.via State.classEvents_moves (by decide)
        (Moves.foldl (fun t x => State.windowBytes_moves.weaken (by decide)) _ (Moves.refl _ _)))
  unfold State.takeWindow
  split
  · exact Moves.refl _ _
  · refine Moves.ite (fun _ => Moves.refl _ _) (fun _ => ?_)
    repeat' with_reducible first
      | apply Moves.refl | (apply Moves.via State.drainAper_moves; decide) | (apply Moves.via State.frameDone_moves; decide)
      | (apply Moves.via State.writeLost_moves; decide) | (apply Moves.via State.trapRefused_moves; decide) | (apply hw; assumption) | split

theorem State.takeOpenWindow_moves {s : State} {is : Frame → Bool} : Moves 0x81F4C s (s.takeOpenWindow is) := by
  unfold State.takeOpenWindow
  repeat' with_reducible first
    | apply Moves.refl | (apply Moves.via State.takeWindow_moves; decide)

theorem State.drainQueue_moves {k : Nat} : ∀ {s : State}, Moves 0x1FFFFFF7C s (s.drainQueue k) := by
  induction k with
  | zero => exact Moves.refl _ _
  | succ k ih =>
    intro s
    unfold State.drainQueue
    split
    · exact Moves.refl _ _
    · exact Moves.trans (Moves.via State.drainAper_moves (by decide) (Moves.via State.takeWindow_moves (by decide)
        (State.takeFrontNow_moves.weaken (by decide)))) ih

theorem execRegisterWrite_moves {t : Nat} {s : State} : MovesNext 0x1FFFFFF7D s (execRegisterWrite t s) := by
  unfold execRegisterWrite
  repeat' with_reducible first
    | apply Moves.refl | (apply Moves.via State.at_moves; decide) | apply MovesNext.next
    | (apply Moves.via State.takeFront_moves; decide)

theorem execPointWindowWrite_moves {t : Nat} {s : State} : MovesNext 0x881F4D s (execPointWindowWrite t s) := by
  unfold execPointWindowWrite
  repeat' with_reducible first
    | apply Moves.refl | (apply Moves.via State.at_moves; decide) | apply MovesNext.next
    | (apply Moves.via State.takeOpenWindow_moves; decide)

theorem execPointForce_moves {t : Nat} {s : State} : MovesNext 0x881F4D s (execPointForce t s) := by
  unfold execPointForce
  repeat' with_reducible first
    | apply Moves.refl | (apply Moves.via State.at_moves; decide) | apply MovesNext.next
    | (apply Moves.via State.takeOpenWindow_moves; decide)

theorem execPointForceRelease_moves {t : Nat} {s : State} : MovesNext 0x881F4D s (execPointForceRelease t s) := by
  unfold execPointForceRelease
  repeat' with_reducible first
    | apply Moves.refl | (apply Moves.via State.at_moves; decide) | apply MovesNext.next
    | (apply Moves.via State.takeOpenWindow_moves; decide)

theorem execLatchRelease_moves {t : Nat} {s : State} : MovesNext 0x881F4D s (execLatchRelease t s) := by
  unfold execLatchRelease
  repeat' with_reducible first
    | apply Moves.refl | (apply Moves.via State.at_moves; decide) | apply MovesNext.next
    | (apply Moves.via State.takeOpenWindow_moves; decide)

theorem execPointSimulate_moves {t : Nat} {s : State} : MovesNext 0x881F4D s (execPointSimulate t s) := by
  unfold execPointSimulate
  repeat' with_reducible first
    | apply Moves.refl | (apply Moves.via State.at_moves; decide) | apply MovesNext.next
    | (apply Moves.via State.takeOpenWindow_moves; decide)

theorem execSimulationEnd_moves {t : Nat} {s : State} : MovesNext 0x881F4D s (execSimulationEnd t s) := by
  unfold execSimulationEnd
  repeat' with_reducible first
    | apply Moves.refl | (apply Moves.via State.at_moves; decide) | apply MovesNext.next
    | (apply Moves.via State.takeOpenWindow_moves; decide)

end Sys2Proof.Machine
end

