-- ==== Sys2Proof/Laws/MovesPower.lean ====
section
/-! SUPPORT. What the operations of Machine/Power.lean leave as it was (Laws/Moves.lean). -/

namespace Sys2Proof.Machine

open Sys2Proof

theorem State.corReset_moves {s : State} : Moves 0x748 s s.corReset := by
  unfold State.corReset
  repeat' with_reducible first
    | apply Moves.refl | (apply Moves.via State.lapse_moves; decide) | apply Moves.ite | intro _ | apply Moves.foldl
    | (apply Moves.snd; assumption) | (apply Moves.fst; assumption) | apply Moves.idOf
    | fail_if_no_progress (apply Moves.regs_rings_queue_host_trap; decide)

theorem State.fieldAtStart_moves {s : State} {vf18 : Bool} : Moves 0x1000004 s (s.fieldAtStart vf18) := by
  unfold State.fieldAtStart
  repeat' with_reducible first
    | apply Moves.refl | (apply Moves.via State.draw_moves; decide) | (apply Moves.via State.setField_moves; decide) | apply Moves.ite
    | intro _

theorem State.startCor_moves {s : State} {cause : Nat} {vf18 : Bool} : Moves 0x19FAC3F4D s (s.startCor cause vf18) := by
  unfold State.startCor
  repeat' with_reducible first
    | apply Moves.refl | (apply Moves.via State.startClocks_moves; decide) | (apply Moves.via State.clocksShow_moves; decide)
    | (apply Moves.via State.corReset_moves; decide) | (apply Moves.via State.setFv_moves; decide)
    | (apply Moves.via State.setFb_moves; decide) | (apply Moves.via State.secStart_moves; decide)
    | (apply Moves.via State.pnlStart_moves; decide) | (apply Moves.via State.stoStart_moves; decide)
    | (apply Moves.via State.lnkStart_moves; decide) | (apply Moves.via State.dioStart_moves; decide)
    | (apply Moves.via State.fieldAtStart_moves; decide) | (apply Moves.via State.rmpStart_moves; decide)
    | (apply Moves.via State.lpoStart_moves; decide) | (apply Moves.via State.seenStart_moves; decide)
    | (apply Moves.via State.canStart_moves; decide) | apply Moves.ite | intro _ | apply Moves.foldl | (apply Moves.snd; assumption)
    | (apply Moves.fst; assumption) | apply Moves.idOf | fail_if_no_progress (apply Moves.pwr; decide)

theorem State.startReady_moves {s : State} {cold : Bool} : Moves 0x747BFE4C s (s.startReady cold) := by
  unfold State.startReady
  repeat' with_reducible first
    | apply Moves.refl | (apply Moves.via State.setFv_moves; decide) | (apply Moves.via State.awaken_moves; decide)
    | (apply Moves.via State.alhStart_moves; decide) | (apply Moves.via State.plannedShow_moves; decide)
    | (apply Moves.via State.tallyStart_moves; decide) | (apply Moves.via State.evrStart_moves; decide)
    | (apply Moves.via State.fbeShow_moves; decide) | (apply Moves.via State.safShow_moves; decide) | apply Moves.ite | intro _
    | apply Moves.foldl | (apply Moves.snd; assumption) | (apply Moves.fst; assumption) | apply Moves.idOf
    | fail_if_no_progress (apply Moves.pwr; decide)

theorem State.startHolds_moves {s : State} : Moves 0x8 s s.startHolds := by
  unfold State.startHolds
  repeat' with_reducible first
    | apply Moves.refl | (apply Moves.via State.setFv_moves; decide)

theorem State.startFails_moves {s : State} {fails : List (Nat × Nat)} : Moves 0x30489E4C s (s.startFails fails) := by
  unfold State.startFails
  repeat' with_reducible first
    | apply Moves.refl | (apply Moves.via State.diagnosticFails_moves; decide) | apply Moves.ite | intro _ | apply Moves.foldl

theorem State.workStops_moves {s : State} : Moves 0x1506CFF0C s s.workStops := by
  unfold State.workStops
  repeat' with_reducible first
    | apply Moves.refl | (apply Moves.via State.rmpHalt_moves; decide) | (apply Moves.via State.planStops_moves; decide)
    | (apply Moves.via State.linkCut_moves; decide) | (apply Moves.via State.cyclesCut_moves; decide)
    | (apply Moves.via State.talliesEnd_moves; decide) | (apply Moves.via State.ageCount_moves; decide)
    | (apply Moves.via State.calCounting_moves; decide) | (apply Moves.via State.sacStop_moves; decide) | apply Moves.ite | intro _
    | apply Moves.foldl | (apply Moves.snd; assumption) | (apply Moves.fst; assumption) | apply Moves.idOf
    | fail_if_no_progress (apply Moves.queue_host_trap_pwr; decide)

theorem State.lostUnwarned_moves {s : State} : Moves 0x2000 s s.lostUnwarned := by
  unfold State.lostUnwarned
  repeat' with_reducible first
    | apply Moves.refl | apply Moves.ite | intro _ | apply Moves.foldl | (apply Moves.snd; assumption) | (apply Moves.fst; assumption)
    | apply Moves.idOf | fail_if_no_progress (apply Moves.pwr; decide)

theorem State.tdenRises_moves {s : State} : Moves 0x80000008 s s.tdenRises := by
  unfold State.tdenRises
  repeat' with_reducible first
    | apply Moves.refl | (apply Moves.via State.expireSession_moves; decide) | (apply Moves.via State.irq_moves; decide)
    | (apply Moves.via State.setFv_moves; decide) | apply Moves.ite | intro _ | apply Moves.foldl | (apply Moves.snd; assumption)
    | (apply Moves.fst; assumption) | apply Moves.idOf | fail_if_no_progress (apply Moves.sec; decide)

theorem execStartUp_moves {t ready : Nat} {tmode pfwLow vf18 : Bool} {fails : List (Nat × Nat)} {s : State} :
    MovesNext 0x1FFFFFF4D s (execStartUp t ready tmode pfwLow vf18 fails s) := by
  unfold execStartUp
  repeat' with_reducible first
    | apply Moves.refl | (apply Moves.via State.at_moves; decide) | apply MovesNext.next
    | (apply Moves.via State.startCor_moves; decide) | (apply Moves.via State.pnlOff_moves; decide)
    | (apply Moves.via State.startFails_moves; decide) | (apply Moves.via State.startHolds_moves; decide)
    | (apply Moves.via State.startReady_moves; decide) | apply MovesNext.ite | apply Moves.ite | intro _ | apply Moves.foldl
    | (apply Moves.snd; assumption) | (apply Moves.fst; assumption) | apply Moves.idOf | fail_if_no_progress (apply Moves.pwr; decide)
    | extract_lets | split

theorem execPfwHoldRelease_moves {t : Nat} {s : State} : MovesNext 0x74FBFE4D s (execPfwHoldRelease t s) := by
  unfold execPfwHoldRelease
  repeat' with_reducible first
    | apply Moves.refl | (apply Moves.via State.at_moves; decide) | apply MovesNext.next
    | (apply Moves.via State.startReady_moves; decide) | apply MovesNext.ite | apply Moves.ite | intro _

theorem execPfwWithdrawn_moves {t : Nat} {fails : List (Nat × Nat)} {s : State} :
    MovesNext 0x1FFFFFF4D s (execPfwWithdrawn t fails s) := by
  unfold execPfwWithdrawn
  repeat' with_reducible first
    | apply Moves.refl | (apply Moves.via State.at_moves; decide) | apply MovesNext.next
    | (apply Moves.via State.startReady_moves; decide) | (apply Moves.via State.startFails_moves; decide)
    | (apply Moves.via State.startCor_moves; decide) | apply MovesNext.ite | apply Moves.ite | intro _

theorem execPowerFailWarning_moves {t lock : Nat} {s : State} : MovesNext 0x1FFFFFF7D s (execPowerFailWarning t lock s) := by
  unfold execPowerFailWarning
  repeat' with_reducible first
    | apply Moves.refl | (apply Moves.via State.at_moves; decide) | apply MovesNext.next
    | (apply Moves.via State.drainQueue_moves; decide) | (apply Moves.via State.pnlStop_moves; decide)
    | (apply Moves.via State.flushLarder_moves; decide) | (apply Moves.via State.workStops_moves; decide)
    | (apply Moves.via State.recordTimebase_moves; decide) | (apply Moves.via State.flushMarker_moves; decide)
    | (apply Moves.via State.setFv_moves; decide) | apply MovesNext.ite | apply Moves.ite | intro _ | apply Moves.foldl
    | (apply Moves.snd; assumption) | (apply Moves.fst; assumption) | apply Moves.idOf | fail_if_no_progress (apply Moves.rmp; decide)
    | fail_if_no_progress (apply Moves.evr; decide) | fail_if_no_progress (apply Moves.pwr; decide)

theorem execUnwarnedLoss_moves {t : Nat} {s : State} : MovesNext 0x158ECFF0D s (execUnwarnedLoss t s) := by
  unfold execUnwarnedLoss
  repeat' with_reducible first
    | apply Moves.refl | (apply Moves.via State.at_moves; decide) | apply MovesNext.next
    | (apply Moves.via State.lostUnwarned_moves; decide) | (apply Moves.via State.pnlOff_moves; decide)
    | (apply Moves.via State.workStops_moves; decide) | (apply Moves.via State.evrLost_moves; decide) | apply MovesNext.ite
    | apply Moves.ite | intro _ | apply Moves.foldl | (apply Moves.snd; assumption) | (apply Moves.fst; assumption) | apply Moves.idOf
    | fail_if_no_progress (apply Moves.queue; decide) | fail_if_no_progress (apply Moves.pwr; decide) | extract_lets | split

theorem execCellarStop_moves {t : Nat} {s : State} : MovesNext 0x802001 s (execCellarStop t s) := by
  unfold execCellarStop
  repeat' with_reducible first
    | apply Moves.refl | (apply Moves.via State.at_moves; decide) | apply MovesNext.next | apply MovesNext.ite | apply Moves.ite
    | intro _ | apply Moves.foldl | (apply Moves.snd; assumption) | (apply Moves.fst; assumption) | apply Moves.idOf
    | fail_if_no_progress (apply Moves.pwr; decide)

theorem execTamperEvent_moves {t : Nat} {input : Fin 2} {live : Nat} {s : State} :
    MovesNext 0x80802009 s (execTamperEvent t input live s) := by
  unfold execTamperEvent
  repeat' with_reducible first
    | apply Moves.refl | (apply Moves.via State.at_moves; decide) | apply MovesNext.next | (apply Moves.via State.setFv_moves; decide)
    | (apply Moves.via State.wakeSource_moves; decide) | (apply Moves.via State.tamper_moves; decide) | apply MovesNext.ite
    | apply Moves.ite | intro _

theorem execTdenRising_moves {t : Nat} {s : State} : MovesNext 0x80802009 s (execTdenRising t s) := by
  unfold execTdenRising
  repeat' with_reducible first
    | apply Moves.refl | (apply Moves.via State.at_moves; decide) | apply MovesNext.next
    | (apply Moves.via State.wakeSource_moves; decide) | (apply Moves.via State.tdenRises_moves; decide) | apply MovesNext.ite
    | apply Moves.ite | intro _

end Sys2Proof.Machine
end

