-- ==== Sys2Proof/Laws/MovesRows.lean ====
section
/-! SUPPORT. What a register word at the front of the write queue leaves as it was, by the page that it is for and the row that names it. -/

namespace Sys2Proof.Machine

open Sys2Proof

/-- What the action of a word of a page may move. -/
def Kind.actionMask : Kind → Nat
  | .sys => 0x180BBE4C
  | .hpi => 0x3FFFDE7C
  | .tly => 0x406CD80C
  | .tbs => 0x800648
  | .saf => 0x30400648
  | .age => 0x648
  | .sec => 0x8000064C
  | .dbg => 0x20200648
  | .lnk => 0x118099E4C
  | .sac | .lpo => 0x8
  | .cv | .dyn | .dynCh | .spx | .alhLd | .fbeTk => 0x0
  | .sc => 0x8000
  | .spxPl => 0x20000
  | .sto => 0x40008
  | .pte => 0x8064C
  | .pteCl => 0x8180C
  | .alh => 0x34781E4C
  | .fbe => 0x13681E4C
  | .evr => 0x400008
  | .dio => 0x1000648
  | .lpoCh => 0x2000648
  | .can | .canObj => 0x4000648
  | .pnl => 0x8000008
  | .rmp => 0x10000648

/-- What a row's word may move beyond what storing its fields does. -/
def WriteRow.mask : WriteRow → Nat
  | .commit | .hpiClrErr | .gcGo | .gcAbandon => 0x3FFFDE7C
  | .discard => 0x400038
  | .lock | .unlock | .pgIrqSet | .lpoClr => 0x8
  | .join => 0x668
  | .clampNext | .clampFlush => 0x40
  | .tlyCancel | .tlyCqPop => 0x406CD80C
  | .scTest | .scFlip => 0x8000
  | .restart => 0x20000
  | .scrubNow | .stoClrErr => 0x40008
  | .spectralSimulation | .pteClr => 0x8064C
  | .classRelease => 0x8180C
  | .acknowledgeEntry | .acknowledgeGroup | .acknowledgeAll | .resetEntry | .shelveEntry | .unshelveEntry | .takeOutOfService
  | .returnToService | .acceptCall | .armGroup | .alhCmdNone | .modeChange | .dutyChange | .alhClr => 0x34781E4C
  | .fbeEvTrig | .forceSet | .forceRelease | .forceReleaseAll | .fbeClr => 0x13681E4C
  | .evrTrigGo | .evrClr => 0x400008
  | .tbsSet | .tbsAdjust | .tbsSetCal | .tbsHalt | .trimWrite => 0x800648
  | .rearm | .thrTest | .doSet | .dioClr => 0x1000648
  | .clrComp | .loopSet | .txGo | .txAbort | .rxRel => 0x2000648
  | .send | .cancel | .objRelease | .resume | .recover | .sleep | .canClr | .pmbRelease => 0x4000648
  | .put | .update | .full | .copyFront => 0x8000008
  | .targetWrite | .ackPos | .setpos | .rmpClr => 0x10000648
  | .safRelease | .alertClr | .safEnter => 0x30400648
  | .resetOfs => 0x648
  | .reqRun | .reqLean | .reqDormant => 0x180BBE4C
  | .challenge | .sessionOpen | .sessionClose | .secAlertClr => 0x8000064C
  | .fbeHalt | .debugStep => 0x20200648
  | .linkGo | .linkStop | .ins1 | .lnkClr | .hbufWrite => 0x118099E4C

theorem State.pageAction_moves_kind {s old : State} {p : Port} {k : Kind} {i b off : Nat} {v : Word} {may : Bool} {sent : Nat} {flips : List Nat} :
    Moves k.actionMask s (s.pageAction old p k i b off v may sent flips) := by
  unfold State.pageAction
  cases k
  case sys =>
    dsimp only
    repeat' with_reducible first
        | apply Moves.refl | (apply Moves.via State.powerRequest_moves; decide) | apply Moves.ite | intro _
  case hpi =>
    dsimp only
    repeat' with_reducible first
        | apply Moves.refl | (apply Moves.via State.groupCommit_moves; decide) | (apply Moves.via State.setReg_moves; decide)
        | apply Moves.ite | intro _ | fail_if_no_progress (apply Moves.group; decide)
  case tly =>
    dsimp only
    repeat' with_reducible first
        | apply Moves.refl | (apply Moves.via State.cqPop_moves; decide) | (apply Moves.via State.tlyCancel_moves; decide)
        | apply Moves.ite | intro _
  case tbs =>
    dsimp only
    repeat' with_reducible first
        | apply Moves.refl | (apply Moves.via State.dayReached_moves; decide) | (apply Moves.via State.secReached_moves; decide)
        | (apply Moves.via State.tbsCtrl_moves; decide) | (apply Moves.via State.tbsFields_moves; decide) | apply Moves.ite
        | intro _
  case saf =>
    dsimp only
    repeat' with_reducible first
        | apply Moves.refl | (apply Moves.via State.safCtrl_moves; decide) | apply Moves.ite | intro _
  case age =>
    dsimp only
    repeat' with_reducible first
        | apply Moves.refl | (apply Moves.via State.ageCtrl_moves; decide) | apply Moves.ite | intro _
  case sec =>
    dsimp only
    repeat' with_reducible first
        | apply Moves.refl | (apply Moves.via State.secCtrl_moves; decide) | (apply Moves.via State.secResp_moves; decide)
        | apply Moves.ite | intro _
  case dbg =>
    dsimp only
    repeat' with_reducible first
        | apply Moves.refl | (apply Moves.via State.clampAt_moves; decide) | (apply Moves.via State.debugStep_moves; decide)
        | (apply Moves.via State.fbeShow_moves; decide) | apply Moves.ite | intro _
  case lnk =>
    dsimp only
    repeat' with_reducible first
        | apply Moves.refl | (apply Moves.via State.hbufTake_moves; decide) | (apply Moves.via State.lnkCtrl_moves; decide)
        | apply Moves.ite | intro _
  case sac =>
    dsimp only
    repeat' with_reducible first
        | apply Moves.refl | (apply Moves.via State.calHold_moves; decide) | apply Moves.ite | intro _
  case cv => exact Moves.refl _ _
  case sc =>
    dsimp only
    repeat' with_reducible first
        | apply Moves.refl | (apply Moves.via State.scCtrl_moves; decide) | apply Moves.ite | intro _
  case dyn => exact Moves.refl _ _
  case dynCh => exact Moves.refl _ _
  case spx => exact Moves.refl _ _
  case spxPl =>
    dsimp only
    repeat' with_reducible first
        | apply Moves.refl | (apply Moves.via State.planeCtrl_moves; decide) | apply Moves.ite | intro _
  case sto =>
    dsimp only
    repeat' with_reducible first
        | apply Moves.refl | (apply Moves.via State.stoCtrl_moves; decide) | apply Moves.ite | intro _
  case pte =>
    dsimp only
    repeat' with_reducible first
        | apply Moves.refl | (apply Moves.via State.clampAt_moves; decide) | (apply Moves.via State.pteClr_moves; decide)
        | (apply Moves.via State.simValue_moves; decide) | (apply Moves.via State.simWrite_moves; decide) | apply Moves.ite
        | intro _
  case pteCl =>
    dsimp only
    repeat' with_reducible first
        | apply Moves.refl | (apply Moves.via State.classRelease_moves; decide) | apply Moves.ite | intro _
  case alh =>
    dsimp only
    repeat' with_reducible first
        | apply Moves.refl | (apply Moves.via State.alhClear_moves; decide) | (apply Moves.via State.alhCmdWrite_moves; decide)
        | (apply Moves.via State.alhWord_moves; decide) | apply Moves.ite | intro _
  case alhLd => exact Moves.refl _ _
  case fbe =>
    dsimp only
    repeat' with_reducible first
        | apply Moves.refl | (apply Moves.via State.evTrig_moves; decide) | (apply Moves.via State.fbeClr_moves; decide)
        | (apply Moves.via State.frcCtrl_moves; decide) | apply Moves.ite | intro _
  case fbeTk => exact Moves.refl _ _
  case evr =>
    dsimp only
    repeat' with_reducible first
        | apply Moves.refl | (apply Moves.via State.evrClr_moves; decide) | (apply Moves.via State.evrTrigGo_moves; decide)
        | apply Moves.ite | intro _
  case dio =>
    dsimp only
    repeat' with_reducible first
        | apply Moves.refl | (apply Moves.via State.dioCtrl_moves; decide) | (apply Moves.via State.doSet_moves; decide)
        | (apply Moves.via State.setReg_moves; decide) | apply Moves.ite | intro _
  case lpo =>
    dsimp only
    repeat' with_reducible first
        | apply Moves.refl | (apply Moves.via State.lpoClr_moves; decide) | apply Moves.ite | intro _
  case lpoCh =>
    dsimp only
    repeat' with_reducible first
        | apply Moves.refl | (apply Moves.via State.loopCtrl_moves; decide) | (apply Moves.via State.loopSet_moves; decide)
        | apply Moves.ite | intro _
  case can =>
    dsimp only
    repeat' with_reducible first
        | apply Moves.refl | (apply Moves.via State.canCtrl_moves; decide) | (apply Moves.via State.pmbRelease_moves; decide)
        | apply Moves.ite | intro _
  case canObj =>
    dsimp only
    repeat' with_reducible first
        | apply Moves.refl | (apply Moves.via State.objCtrl_moves; decide) | apply Moves.ite | intro _
  case pnl =>
    dsimp only
    repeat' with_reducible first
        | apply Moves.refl | (apply Moves.via State.pnlCtrl_moves; decide) | apply Moves.ite | intro _
  case rmp =>
    dsimp only
    repeat' with_reducible first
        | apply Moves.refl | (apply Moves.via State.clampAt_moves; decide) | (apply Moves.via State.rmpCtrl_moves; decide)
        | (apply Moves.via State.rmpReplan_moves; decide) | apply Moves.ite | intro _
        | fail_if_no_progress (apply Moves.rmp; decide)

theorem rowsOfHpi_mask {r : WriteRow} {off : Nat} {v : Word} (h : (rowsOfHpi off v).contains r = true) :
    Nat.land 0x3FFFDE7C r.mask = 0x3FFFDE7C := by
  have h1 : r ∈ rowsOfHpi off v := List.contains_iff_mem.1 h
  obtain ⟨x, hx, rfl⟩ := List.mem_map.1 h1
  have hx := (List.mem_filter.1 hx).1
  simp only [List.mem_cons, List.not_mem_nil, or_false] at hx
  rcases hx with rfl | rfl | rfl <;> (dsimp only; decide)

theorem rowsOfTly_mask {r : WriteRow} {off : Nat} {v : Word} (h : (rowsOfTly off v).contains r = true) :
    Nat.land 0x406CD80C r.mask = 0x406CD80C := by
  have h1 : r ∈ rowsOfTly off v := List.contains_iff_mem.1 h
  obtain ⟨x, hx, rfl⟩ := List.mem_map.1 h1
  have hx := (List.mem_filter.1 hx).1
  simp only [List.mem_cons, List.not_mem_nil, or_false] at hx
  rcases hx with rfl | rfl <;> (dsimp only; decide)

theorem rowsOfSc_mask {r : WriteRow} {off : Nat} {v : Word} (h : (rowsOfSc off v).contains r = true) :
    Nat.land 0x8000 r.mask = 0x8000 := by
  have h1 : r ∈ rowsOfSc off v := List.contains_iff_mem.1 h
  obtain ⟨x, hx, rfl⟩ := List.mem_map.1 h1
  have hx := (List.mem_filter.1 hx).1
  simp only [List.mem_cons, List.not_mem_nil, or_false] at hx
  rcases hx with rfl | rfl <;> (dsimp only; decide)

theorem rowsOfSpxPl_mask {r : WriteRow} {off : Nat} {v : Word} (h : (rowsOfSpxPl off v).contains r = true) :
    Nat.land 0x20000 r.mask = 0x20000 := by
  have h1 : r ∈ rowsOfSpxPl off v := List.contains_iff_mem.1 h
  obtain ⟨x, hx, rfl⟩ := List.mem_map.1 h1
  have hx := (List.mem_filter.1 hx).1
  simp only [List.mem_cons, List.not_mem_nil, or_false] at hx
  rcases hx with rfl; (dsimp only; decide)

theorem rowsOfSto_mask {r : WriteRow} {off : Nat} {v : Word} (h : (rowsOfSto off v).contains r = true) :
    Nat.land 0x40008 r.mask = 0x40008 := by
  have h1 : r ∈ rowsOfSto off v := List.contains_iff_mem.1 h
  obtain ⟨x, hx, rfl⟩ := List.mem_map.1 h1
  have hx := (List.mem_filter.1 hx).1
  simp only [List.mem_cons, List.not_mem_nil, or_false] at hx
  rcases hx with rfl | rfl <;> (dsimp only; decide)

theorem rowsOfPte_mask {r : WriteRow} {off : Nat} {v : Word} (h : (rowsOfPte off v).contains r = true) :
    Nat.land 0x8064C r.mask = 0x8064C := by
  have h1 : r ∈ rowsOfPte off v := List.contains_iff_mem.1 h
  obtain ⟨x, hx, rfl⟩ := List.mem_map.1 h1
  have hx := (List.mem_filter.1 hx).1
  simp only [List.mem_cons, List.not_mem_nil, or_false] at hx
  rcases hx with rfl | rfl <;> (dsimp only; decide)

theorem rowsOfPteCl_mask {r : WriteRow} {off : Nat} {v : Word} (h : (rowsOfPteCl off v).contains r = true) :
    Nat.land 0x8180C r.mask = 0x8180C := by
  have h1 : r ∈ rowsOfPteCl off v := List.contains_iff_mem.1 h
  obtain ⟨x, hx, rfl⟩ := List.mem_map.1 h1
  have hx := (List.mem_filter.1 hx).1
  simp only [List.mem_cons, List.not_mem_nil, or_false] at hx
  rcases hx with rfl; (dsimp only; decide)

theorem rowsOfAlh_mask {r : WriteRow} {off : Nat} {v : Word} (h : (rowsOfAlh off v).contains r = true) :
    Nat.land 0x34781E4C r.mask = 0x34781E4C := by
  have h1 : r ∈ rowsOfAlh off v := List.contains_iff_mem.1 h
  obtain ⟨x, hx, rfl⟩ := List.mem_map.1 h1
  have hx := (List.mem_filter.1 hx).1
  simp only [List.mem_cons, List.not_mem_nil, or_false] at hx
  rcases hx with rfl | rfl | rfl | rfl | rfl | rfl | rfl | rfl | rfl | rfl | rfl | rfl | rfl | rfl <;> (dsimp only; decide)

theorem rowsOfFbe_mask {r : WriteRow} {off : Nat} {v : Word} (h : (rowsOfFbe off v).contains r = true) :
    Nat.land 0x13681E4C r.mask = 0x13681E4C := by
  have h1 : r ∈ rowsOfFbe off v := List.contains_iff_mem.1 h
  obtain ⟨x, hx, rfl⟩ := List.mem_map.1 h1
  have hx := (List.mem_filter.1 hx).1
  simp only [List.mem_cons, List.not_mem_nil, or_false] at hx
  rcases hx with rfl | rfl | rfl | rfl | rfl <;> (dsimp only; decide)

theorem rowsOfEvr_mask {r : WriteRow} {off : Nat} {v : Word} (h : (rowsOfEvr off v).contains r = true) :
    Nat.land 0x400008 r.mask = 0x400008 := by
  have h1 : r ∈ rowsOfEvr off v := List.contains_iff_mem.1 h
  obtain ⟨x, hx, rfl⟩ := List.mem_map.1 h1
  have hx := (List.mem_filter.1 hx).1
  simp only [List.mem_cons, List.not_mem_nil, or_false] at hx
  rcases hx with rfl | rfl <;> (dsimp only; decide)

theorem rowsOfTbs_mask {r : WriteRow} {off : Nat} {v : Word} (h : (rowsOfTbs off v).contains r = true) :
    Nat.land 0x800648 r.mask = 0x800648 := by
  have h1 : r ∈ rowsOfTbs off v := List.contains_iff_mem.1 h
  obtain ⟨x, hx, rfl⟩ := List.mem_map.1 h1
  have hx := (List.mem_filter.1 hx).1
  simp only [List.mem_cons, List.not_mem_nil, or_false] at hx
  rcases hx with rfl | rfl | rfl | rfl | rfl <;> (dsimp only; decide)

theorem rowsOfDio_mask {r : WriteRow} {off : Nat} {v : Word} (h : (rowsOfDio off v).contains r = true) :
    Nat.land 0x1000648 r.mask = 0x1000648 := by
  have h1 : r ∈ rowsOfDio off v := List.contains_iff_mem.1 h
  obtain ⟨x, hx, rfl⟩ := List.mem_map.1 h1
  have hx := (List.mem_filter.1 hx).1
  simp only [List.mem_cons, List.not_mem_nil, or_false] at hx
  rcases hx with rfl | rfl | rfl | rfl <;> (dsimp only; decide)

theorem rowsOfLpoCh_mask {r : WriteRow} {off : Nat} {v : Word} (h : (rowsOfLpoCh off v).contains r = true) :
    Nat.land 0x2000648 r.mask = 0x2000648 := by
  have h1 : r ∈ rowsOfLpoCh off v := List.contains_iff_mem.1 h
  obtain ⟨x, hx, rfl⟩ := List.mem_map.1 h1
  have hx := (List.mem_filter.1 hx).1
  simp only [List.mem_cons, List.not_mem_nil, or_false] at hx
  rcases hx with rfl | rfl | rfl | rfl | rfl <;> (dsimp only; decide)

theorem rowsOfLpo_mask {r : WriteRow} {off : Nat} {v : Word} (h : (rowsOfLpo off v).contains r = true) :
    Nat.land 0x8 r.mask = 0x8 := by
  have h1 : r ∈ rowsOfLpo off v := List.contains_iff_mem.1 h
  obtain ⟨x, hx, rfl⟩ := List.mem_map.1 h1
  have hx := (List.mem_filter.1 hx).1
  simp only [List.mem_cons, List.not_mem_nil, or_false] at hx
  rcases hx with rfl; (dsimp only; decide)

theorem rowsOfCanObj_mask {r : WriteRow} {off : Nat} {v : Word} (h : (rowsOfCanObj off v).contains r = true) :
    Nat.land 0x4000648 r.mask = 0x4000648 := by
  have h1 : r ∈ rowsOfCanObj off v := List.contains_iff_mem.1 h
  obtain ⟨x, hx, rfl⟩ := List.mem_map.1 h1
  have hx := (List.mem_filter.1 hx).1
  simp only [List.mem_cons, List.not_mem_nil, or_false] at hx
  rcases hx with rfl | rfl | rfl | rfl <;> (dsimp only; decide)

theorem rowsOfCan_mask {r : WriteRow} {off : Nat} {v : Word} (h : (rowsOfCan off v).contains r = true) :
    Nat.land 0x4000648 r.mask = 0x4000648 := by
  have h1 : r ∈ rowsOfCan off v := List.contains_iff_mem.1 h
  obtain ⟨x, hx, rfl⟩ := List.mem_map.1 h1
  have hx := (List.mem_filter.1 hx).1
  simp only [List.mem_cons, List.not_mem_nil, or_false] at hx
  rcases hx with rfl | rfl | rfl | rfl <;> (dsimp only; decide)

theorem rowsOfPnl_mask {r : WriteRow} {off : Nat} {v : Word} (h : (rowsOfPnl off v).contains r = true) :
    Nat.land 0x8000008 r.mask = 0x8000008 := by
  have h1 : r ∈ rowsOfPnl off v := List.contains_iff_mem.1 h
  obtain ⟨x, hx, rfl⟩ := List.mem_map.1 h1
  have hx := (List.mem_filter.1 hx).1
  simp only [List.mem_cons, List.not_mem_nil, or_false] at hx
  rcases hx with rfl | rfl | rfl | rfl <;> (dsimp only; decide)

theorem rowsOfRmp_mask {r : WriteRow} {off : Nat} {v : Word} (h : (rowsOfRmp off v).contains r = true) :
    Nat.land 0x10000648 r.mask = 0x10000648 := by
  have h1 : r ∈ rowsOfRmp off v := List.contains_iff_mem.1 h
  obtain ⟨x, hx, rfl⟩ := List.mem_map.1 h1
  have hx := (List.mem_filter.1 hx).1
  simp only [List.mem_cons, List.not_mem_nil, or_false] at hx
  rcases hx with rfl | rfl | rfl | rfl <;> (dsimp only; decide)

theorem rowsOfSaf_mask {r : WriteRow} {off : Nat} {v : Word} (h : (rowsOfSaf off v).contains r = true) :
    Nat.land 0x30400648 r.mask = 0x30400648 := by
  have h1 : r ∈ rowsOfSaf off v := List.contains_iff_mem.1 h
  obtain ⟨x, hx, rfl⟩ := List.mem_map.1 h1
  have hx := (List.mem_filter.1 hx).1
  simp only [List.mem_cons, List.not_mem_nil, or_false] at hx
  rcases hx with rfl | rfl | rfl <;> (dsimp only; decide)

theorem rowsOfAge_mask {r : WriteRow} {off : Nat} {v : Word} (h : (rowsOfAge off v).contains r = true) :
    Nat.land 0x648 r.mask = 0x648 := by
  have h1 : r ∈ rowsOfAge off v := List.contains_iff_mem.1 h
  obtain ⟨x, hx, rfl⟩ := List.mem_map.1 h1
  have hx := (List.mem_filter.1 hx).1
  simp only [List.mem_cons, List.not_mem_nil, or_false] at hx
  rcases hx with rfl; (dsimp only; decide)

theorem rowsOfSys_mask {r : WriteRow} {off : Nat} {v : Word} (h : (rowsOfSys off v).contains r = true) :
    Nat.land 0x180BBE4C r.mask = 0x180BBE4C := by
  have h1 : r ∈ rowsOfSys off v := List.contains_iff_mem.1 h
  obtain ⟨x, hx, rfl⟩ := List.mem_map.1 h1
  have hx := (List.mem_filter.1 hx).1
  simp only [List.mem_cons, List.not_mem_nil, or_false] at hx
  rcases hx with rfl | rfl | rfl <;> (dsimp only; decide)

theorem rowsOfSec_mask {r : WriteRow} {off : Nat} {v : Word} (h : (rowsOfSec off v).contains r = true) :
    Nat.land 0x8000064C r.mask = 0x8000064C := by
  have h1 : r ∈ rowsOfSec off v := List.contains_iff_mem.1 h
  obtain ⟨x, hx, rfl⟩ := List.mem_map.1 h1
  have hx := (List.mem_filter.1 hx).1
  simp only [List.mem_cons, List.not_mem_nil, or_false] at hx
  rcases hx with rfl | rfl | rfl | rfl <;> (dsimp only; decide)

theorem rowsOfDbg_mask {r : WriteRow} {off : Nat} {v : Word} (h : (rowsOfDbg off v).contains r = true) :
    Nat.land 0x20200648 r.mask = 0x20200648 := by
  have h1 : r ∈ rowsOfDbg off v := List.contains_iff_mem.1 h
  obtain ⟨x, hx, rfl⟩ := List.mem_map.1 h1
  have hx := (List.mem_filter.1 hx).1
  simp only [List.mem_cons, List.not_mem_nil, or_false] at hx
  rcases hx with rfl | rfl <;> (dsimp only; decide)

theorem rowsOfLnk_mask {r : WriteRow} {off : Nat} {v : Word} (h : (rowsOfLnk off v).contains r = true) :
    Nat.land 0x118099E4C r.mask = 0x118099E4C := by
  have h1 : r ∈ rowsOfLnk off v := List.contains_iff_mem.1 h
  obtain ⟨x, hx, rfl⟩ := List.mem_map.1 h1
  have hx := (List.mem_filter.1 hx).1
  simp only [List.mem_cons, List.not_mem_nil, or_false] at hx
  rcases hx with rfl | rfl | rfl | rfl | rfl <;> (dsimp only; decide)

theorem Nat.land_lor_of_right {a m : Nat} (b : Nat) (h : Nat.land a m = a) : Nat.land a (Nat.lor b m) = a := by
  refine Nat.eq_of_testBit_eq (fun i => ?_)
  have e := congrArg (fun n => n.testBit i) h
  have e1 : (Nat.land a m).testBit i = (a.testBit i && m.testBit i) := Nat.testBit_and a m i
  have e2 : (Nat.land a (Nat.lor b m)).testBit i = (a.testBit i && (b.testBit i || m.testBit i)) :=
    (Nat.testBit_and a _ i).trans (congrArg _ (Nat.testBit_or b m i))
  simp only [e1] at e
  rw [e2]
  cases h1 : a.testBit i <;> cases h2 : m.testBit i <;> simp_all

theorem Nat.land_lor_of_left {a b : Nat} (m : Nat) (h : Nat.land a b = a) : Nat.land a (Nat.lor b m) = a := by
  have e : Nat.lor b m = Nat.lor m b := Nat.or_comm b m
  rw [e]
  exact Nat.land_lor_of_right m h

theorem Nat.land_lor_lor {a b m : Nat} (h : Nat.land a b = a) : Nat.land (Nat.lor a m) (Nat.lor b m) = Nat.lor a m := by
  refine Nat.eq_of_testBit_eq (fun i => ?_)
  have e := congrArg (fun n => n.testBit i) h
  have e1 : (Nat.land a b).testBit i = (a.testBit i && b.testBit i) := Nat.testBit_and a b i
  have e2 : (Nat.land (Nat.lor a m) (Nat.lor b m)).testBit i = ((a.testBit i || m.testBit i) && (b.testBit i || m.testBit i)) :=
    (Nat.testBit_and _ _ i).trans (congrArg₂ _ (Nat.testBit_or a m i) (Nat.testBit_or b m i))
  have e3 : (Nat.lor a m).testBit i = (a.testBit i || m.testBit i) := Nat.testBit_or a m i
  simp only [e1] at e
  rw [e2, e3]
  cases h1 : a.testBit i <;> cases h2 : b.testBit i <;> cases h3 : m.testBit i <;> simp_all

/-- A word of a row moves what storing it moves and what the row does. -/
theorem State.writeWord_moves_row {s : State} {p : Port} {a : Nat} {v : Word} {r : WriteRow} (sent : Nat) (flips : List Nat)
    (h : (rowsOf a v).contains r = true) : Moves (Nat.lor 0x100400658 r.mask) s (s.writeWord p a v sent flips) := by
  have hs : ∀ {k : Kind} {i b off : Nat} {may : Bool}, Moves (Nat.lor 0x100400658 r.mask) s (s.storeWord p k i b off may v) :=
    State.storeWord_moves.weaken (Nat.land_lor_of_left _ rfl)
  have hc : ∀ {m : Nat} {t u : State}, Moves m t u → Nat.land m r.mask = m → Moves (Nat.lor 0x100400658 r.mask) t u :=
    fun g e => g.weaken (Nat.land_lor_of_right _ e)
  have hq : ∀ {t : State} {b off lsb x y : Nat} {src : Bool}, Moves (Nat.lor 0x100400658 r.mask) t (t.clampAt b off lsb src x y) :=
    State.clampAt_moves.weaken (Nat.land_lor_of_left _ rfl)
  unfold State.writeWord
  unfold rowsOf at h
  cases hp : pageAt a with
  | none => exact Moves.refl _ _
  | some ki =>
    obtain ⟨k, i⟩ := ki
    refine Moves.ite (fun _ => ?_) (fun _ => State.refuseWord_moves.weaken (Nat.land_lor_of_left _ rfl))
    unfold State.takeWord
    rw [hp] at h
    simp only [hp]
    dsimp only at h
    by_cases h1 : a % 0x1000 = 0x0C
    · rw [if_pos h1] at h ⊢
      refine Moves.trans (t := s.storeWord p k i (pageBase a) (a % 0x1000) (s.mayStore p (pageBase a)) v) hs ?_
      unfold State.pgCtrl
      split at h <;> rename_i hl
      all_goals first
        | cases h
        | (have e := List.mem_singleton.1 (List.contains_iff_mem.1 h); subst e; simp only [hl])
      · exact Moves.ite (fun _ => hq) (fun _ => hc State.commitPage_moves rfl)
      · exact Moves.ite (fun _ => hq) (fun _ => hc State.discardPage_moves rfl)
      · exact Moves.ite (fun _ => hq) (fun _ => hc State.setFv_moves rfl)
      · exact Moves.ite (fun _ => hq) (fun _ => hc State.setFv_moves rfl)
      · exact Moves.ite (fun _ => hq) (fun _ => hc State.joinPage_moves rfl)
    · rw [if_neg h1] at h ⊢
      by_cases h2 : a % 0x1000 = 0x1C
      · rw [if_pos h2] at h ⊢
        refine Moves.trans (t := s.storeWord p k i (pageBase a) (a % 0x1000) (s.mayStore p (pageBase a)) v) hs (hc State.clampNext_moves ?_)
        obtain ⟨x, hx, rfl⟩ := List.mem_map.1 (List.contains_iff_mem.1 h)
        have hx := (List.mem_filter.1 hx).1
        simp only [List.mem_cons, List.not_mem_nil, or_false] at hx
        rcases hx with rfl | rfl <;> (dsimp only; decide)
      · rw [if_neg h2] at h ⊢
        by_cases h3 : a % 0x1000 = 0x28
        · rw [if_pos h3] at h ⊢
          have e := List.mem_singleton.1 (List.contains_iff_mem.1 h)
          subst e
          exact Moves.trans (t := s.storeWord p k i (pageBase a) (a % 0x1000) (s.mayStore p (pageBase a)) v) hs (hc State.setReg_moves rfl)
        · rw [if_neg h3] at h ⊢
          refine Moves.ite (fun _ => hs) (fun _ => Moves.trans (t := s.storeWord p k i (pageBase a) (a % 0x1000) (s.mayStore p (pageBase a)) v) hs (hc State.pageAction_moves_kind ?_))
          cases k
          case sys => exact rowsOfSys_mask h
          case hpi => exact rowsOfHpi_mask h
          case tly => exact rowsOfTly_mask h
          case tbs => exact rowsOfTbs_mask h
          case saf => exact rowsOfSaf_mask h
          case age => exact rowsOfAge_mask h
          case sec => exact rowsOfSec_mask h
          case dbg => exact rowsOfDbg_mask h
          case lnk => exact rowsOfLnk_mask h
          case sac => exact absurd h Bool.false_ne_true
          case cv => exact absurd h Bool.false_ne_true
          case sc => exact rowsOfSc_mask h
          case dyn => exact absurd h Bool.false_ne_true
          case dynCh => exact absurd h Bool.false_ne_true
          case spx => exact absurd h Bool.false_ne_true
          case spxPl => exact rowsOfSpxPl_mask h
          case sto => exact rowsOfSto_mask h
          case pte => exact rowsOfPte_mask h
          case pteCl => exact rowsOfPteCl_mask h
          case alh => exact rowsOfAlh_mask h
          case alhLd => exact absurd h Bool.false_ne_true
          case fbe => exact rowsOfFbe_mask h
          case fbeTk => exact absurd h Bool.false_ne_true
          case evr => exact rowsOfEvr_mask h
          case dio => exact rowsOfDio_mask h
          case lpo => exact rowsOfLpo_mask h
          case lpoCh => exact rowsOfLpoCh_mask h
          case can => exact rowsOfCan_mask h
          case canObj => exact rowsOfCanObj_mask h
          case pnl => exact rowsOfPnl_mask h
          case rmp => exact rowsOfRmp_mask h

theorem WriteRow.mask_queue (r : WriteRow) : (Nat.lor 0x100400658 r.mask).testBit 8 = false := by cases r <;> decide

/-- A row's command: what storing a word moves, what the row moves, and what the next frames do. -/
theorem State.takeRow_moves_row {s : State} {r : WriteRow} {sent : Nat} {flips : List Nat} :
    Moves (Nat.lor 0x100401F58 r.mask) s (s.takeRow r sent flips) := by
  unfold State.takeRow State.takeFront State.takeFrontNow
  refine State.unlessWaits_moves (Moves.refl _ _) ?_
  split
  · exact Moves.refl _ _
  · refine Moves.ite (fun h => ?_) (fun _ => Moves.refl _ _)
    refine Moves.via State.popWord_moves (Nat.land_lor_of_left _ rfl) (Moves.weaken ?_ (State.writeWord_moves_row sent flips (Bool.and_eq_true_iff.1 h).2))
    exact Nat.land_lor_lor rfl

/-- Where no other frame waits, the word's end moves nothing of the storeroom. -/
theorem State.popWord_moves_lone {s : State} (h : s.queue.length ≤ 1) : Moves 0x700 s s.popWord := by
  unfold State.popWord
  split
  · exact Moves.refl _ _
  · rename_i f rest hq
    have e : rest = [] := by
      rw [hq] at h
      exact List.eq_nil_of_length_eq_zero (Nat.le_zero.1 (Nat.le_of_succ_le_succ h))
    subst e
    refine Moves.ite (fun _ => ?_) (fun _ => Moves.queue (by decide) (Moves.refl _ _))
    have hd : s.frameDone.queue = [] := by simp only [State.frameDone, hq, List.drop_succ_cons, List.drop_nil]
    have : s.frameDone.drainAper 16 = s.frameDone := by
      unfold State.drainAper
      rw [hd]
    rw [this]
    exact State.frameDone_moves.weaken (by decide)

theorem State.takeRow_moves_lone {s : State} {r : WriteRow} {sent : Nat} {flips : List Nat} (hq : s.queue.length ≤ 1) :
    Moves (Nat.lor 0x100400758 r.mask) s (s.takeRow r sent flips) := by
  unfold State.takeRow State.takeFront State.takeFrontNow
  refine State.unlessWaits_moves (Moves.refl _ _) ?_
  split
  · exact Moves.refl _ _
  · rename_i p a v _
    refine Moves.ite (fun h => ?_) (fun _ => Moves.refl _ _)
    have hw := State.writeWord_moves_row (s := s) (p := p) (r := r) sent flips (Bool.and_eq_true_iff.1 h).2
    refine Moves.via (State.popWord_moves_lone ?_) (Nat.land_lor_of_left _ rfl) (Moves.weaken (Nat.land_lor_lor rfl) hw)
    rw [show _ = s.queue from hw .queue r.mask_queue]
    exact hq

end Sys2Proof.Machine
end

