-- ==== Sys2Proof/Laws/Regs.lean ====
section
/-! SUPPORT. The laws of registers and their fields: a field reads as it was set, a set leaves other words and the other bits of its word
as they were; events and clamps touch no field above 0x30 of a page. -/

namespace Sys2Proof.Machine

open Sys2Proof

theorem State.reg_setReg_same (s : State) (a : Nat) (w : Word) : (s.setReg a w).reg a = w := SMap.get_insert_same regDflt s.regs a w

theorem State.reg_setReg_ne (s : State) (a c : Nat) (w : Word) (h : c ≠ a) : (s.setReg a w).reg c = s.reg c :=
  SMap.get_insert_ne regDflt s.regs a c w h

theorem Word.toNat_withBits (w : Word) (lsb width v : Nat) (h : lsb + width ≤ 32) :
    (Word.withBits w lsb width v).toNat = w.toNat - w.toNat / 2 ^ lsb % 2 ^ width * 2 ^ lsb + v % 2 ^ width * 2 ^ lsb := by
  have hw : w.toNat < 2 ^ 32 := w.isLt
  have h1 : w.toNat / 2 ^ lsb % 2 ^ width * 2 ^ lsb ≤ w.toNat :=
    le_trans (Nat.mul_le_mul_right _ (Nat.mod_le _ _)) (Nat.div_mul_le_self _ _)
  -- the three parts of the word: high, field, low
  have hdecomp : w.toNat = w.toNat / 2 ^ (lsb + width) * 2 ^ (lsb + width) + w.toNat / 2 ^ lsb % 2 ^ width * 2 ^ lsb + w.toNat % 2 ^ lsb := by
    have a1 := Nat.div_add_mod w.toNat (2 ^ lsb)
    have a2 := Nat.div_add_mod (w.toNat / 2 ^ lsb) (2 ^ width)
    rw [Nat.div_div_eq_div_mul, ← pow_add] at a2
    have a3 : 2 ^ lsb * (w.toNat / 2 ^ lsb) = 2 ^ lsb * (2 ^ width * (w.toNat / 2 ^ (lsb + width)) + w.toNat / 2 ^ lsb % 2 ^ width) := by rw [a2]
    calc w.toNat = 2 ^ lsb * (w.toNat / 2 ^ lsb) + w.toNat % 2 ^ lsb := a1.symm
      _ = 2 ^ lsb * (2 ^ width * (w.toNat / 2 ^ (lsb + width)) + w.toNat / 2 ^ lsb % 2 ^ width) + w.toNat % 2 ^ lsb := by rw [a3]
      _ = w.toNat / 2 ^ (lsb + width) * 2 ^ (lsb + width) + w.toNat / 2 ^ lsb % 2 ^ width * 2 ^ lsb + w.toNat % 2 ^ lsb := by ring
  have hlow : w.toNat % 2 ^ lsb < 2 ^ lsb := Nat.mod_lt _ (by positivity)
  have hv : v % 2 ^ width < 2 ^ width := Nat.mod_lt _ (by positivity)
  have hhigh : w.toNat / 2 ^ (lsb + width) < 2 ^ (32 - (lsb + width)) := by
    rw [Nat.div_lt_iff_lt_mul (by positivity), ← pow_add]
    have : 32 - (lsb + width) + (lsb + width) = 32 := by omega
    rw [this]; exact hw
  have hfield : v % 2 ^ width * 2 ^ lsb + w.toNat % 2 ^ lsb < 2 ^ (lsb + width) := by
    have : v % 2 ^ width * 2 ^ lsb + 2 ^ lsb ≤ 2 ^ (lsb + width) := by
      calc v % 2 ^ width * 2 ^ lsb + 2 ^ lsb = (v % 2 ^ width + 1) * 2 ^ lsb := by ring
        _ ≤ 2 ^ width * 2 ^ lsb := Nat.mul_le_mul_right _ hv
        _ = 2 ^ (lsb + width) := by rw [Nat.add_comm, pow_add]
    omega
  have hlt : w.toNat - w.toNat / 2 ^ lsb % 2 ^ width * 2 ^ lsb + v % 2 ^ width * 2 ^ lsb < 2 ^ 32 := by
    have e : w.toNat - w.toNat / 2 ^ lsb % 2 ^ width * 2 ^ lsb = w.toNat / 2 ^ (lsb + width) * 2 ^ (lsb + width) + w.toNat % 2 ^ lsb := by omega
    rw [e]
    have : (w.toNat / 2 ^ (lsb + width) + 1) * 2 ^ (lsb + width) ≤ 2 ^ 32 := by
      calc (w.toNat / 2 ^ (lsb + width) + 1) * 2 ^ (lsb + width) ≤ 2 ^ (32 - (lsb + width)) * 2 ^ (lsb + width) := Nat.mul_le_mul_right _ hhigh
        _ = 2 ^ 32 := by rw [← pow_add]; congr 1; omega
    have e2 : (w.toNat / 2 ^ (lsb + width) + 1) * 2 ^ (lsb + width) = w.toNat / 2 ^ (lsb + width) * 2 ^ (lsb + width) + 2 ^ (lsb + width) := by ring
    omega
  simp only [Word.withBits, Word.bits, word, BitVec.toNat_ofNat]
  exact Nat.mod_eq_of_lt hlt

/-- The field of a word reads as it was set. -/
theorem Word.bits_withBits_same (w : Word) (lsb width v : Nat) (h : lsb + width ≤ 32) :
    Word.bits (Word.withBits w lsb width v) lsb width = v % 2 ^ width := by
  have hw := Word.toNat_withBits w lsb width v h
  unfold Word.bits
  rw [hw]
  have h1 : w.toNat / 2 ^ lsb % 2 ^ width * 2 ^ lsb ≤ w.toNat :=
    le_trans (Nat.mul_le_mul_right _ (Nat.mod_le _ _)) (Nat.div_mul_le_self _ _)
  have a1 := Nat.div_add_mod w.toNat (2 ^ lsb)
  have a2 := Nat.div_add_mod (w.toNat / 2 ^ lsb) (2 ^ width)
  have e : w.toNat - w.toNat / 2 ^ lsb % 2 ^ width * 2 ^ lsb + v % 2 ^ width * 2 ^ lsb =
      (2 ^ width * (w.toNat / 2 ^ lsb / 2 ^ width) + v % 2 ^ width) * 2 ^ lsb + w.toNat % 2 ^ lsb := by
    have a3 : 2 ^ lsb * (w.toNat / 2 ^ lsb) = 2 ^ lsb * (2 ^ width * (w.toNat / 2 ^ lsb / 2 ^ width) + w.toNat / 2 ^ lsb % 2 ^ width) := by rw [a2]
    have a4 : w.toNat = (2 ^ width * (w.toNat / 2 ^ lsb / 2 ^ width)) * 2 ^ lsb + w.toNat / 2 ^ lsb % 2 ^ width * 2 ^ lsb + w.toNat % 2 ^ lsb := by
      calc w.toNat = 2 ^ lsb * (w.toNat / 2 ^ lsb) + w.toNat % 2 ^ lsb := a1.symm
        _ = 2 ^ lsb * (2 ^ width * (w.toNat / 2 ^ lsb / 2 ^ width) + w.toNat / 2 ^ lsb % 2 ^ width) + w.toNat % 2 ^ lsb := by rw [a3]
        _ = _ := by ring
    have a5 : (2 ^ width * (w.toNat / 2 ^ lsb / 2 ^ width) + v % 2 ^ width) * 2 ^ lsb =
        (2 ^ width * (w.toNat / 2 ^ lsb / 2 ^ width)) * 2 ^ lsb + v % 2 ^ width * 2 ^ lsb := by ring
    omega
  rw [e]
  have hl : w.toNat % 2 ^ lsb < 2 ^ lsb := Nat.mod_lt _ (by positivity)
  have hd : ((2 ^ width * (w.toNat / 2 ^ lsb / 2 ^ width) + v % 2 ^ width) * 2 ^ lsb + w.toNat % 2 ^ lsb) / 2 ^ lsb =
      2 ^ width * (w.toNat / 2 ^ lsb / 2 ^ width) + v % 2 ^ width := by
    rw [Nat.mul_comm, Nat.mul_add_div (by positivity), Nat.div_eq_of_lt hl, Nat.add_zero]
  rw [hd, Nat.mul_add_mod]
  exact Nat.mod_mod _ _

/-- A field of the same word whose bits lie apart reads as before. -/
theorem Word.bits_withBits_apart (w : Word) (lsb width v l' w' : Nat) (h : lsb + width ≤ 32) (hd : l' + w' ≤ lsb ∨ lsb + width ≤ l') :
    Word.bits (Word.withBits w lsb width v) l' w' = Word.bits w l' w' := by
  have hw := Word.toNat_withBits w lsb width v h
  unfold Word.bits
  rw [hw]
  have a1 := Nat.div_add_mod w.toNat (2 ^ lsb)
  have a2 := Nat.div_add_mod (w.toNat / 2 ^ lsb) (2 ^ width)
  have a4 : w.toNat = (2 ^ width * (w.toNat / 2 ^ lsb / 2 ^ width)) * 2 ^ lsb + w.toNat / 2 ^ lsb % 2 ^ width * 2 ^ lsb + w.toNat % 2 ^ lsb := by
    have a3 : 2 ^ lsb * (w.toNat / 2 ^ lsb) = 2 ^ lsb * (2 ^ width * (w.toNat / 2 ^ lsb / 2 ^ width) + w.toNat / 2 ^ lsb % 2 ^ width) := by rw [a2]
    calc w.toNat = 2 ^ lsb * (w.toNat / 2 ^ lsb) + w.toNat % 2 ^ lsb := a1.symm
      _ = 2 ^ lsb * (2 ^ width * (w.toNat / 2 ^ lsb / 2 ^ width) + w.toNat / 2 ^ lsb % 2 ^ width) + w.toNat % 2 ^ lsb := by rw [a3]
      _ = _ := by ring
  have hl : w.toNat % 2 ^ lsb < 2 ^ lsb := Nat.mod_lt _ (by positivity)
  have hv : v % 2 ^ width < 2 ^ width := Nat.mod_lt _ (by positivity)
  have hf : w.toNat / 2 ^ lsb % 2 ^ width < 2 ^ width := Nat.mod_lt _ (by positivity)
  generalize hH : w.toNat / 2 ^ lsb / 2 ^ width = H at *
  generalize hF : w.toNat / 2 ^ lsb % 2 ^ width = F at *
  generalize hL : w.toNat % 2 ^ lsb = Lo at *
  generalize hV : v % 2 ^ width = V at *
  have e : w.toNat - F * 2 ^ lsb + V * 2 ^ lsb = (2 ^ width * H) * 2 ^ lsb + V * 2 ^ lsb + Lo := by omega
  rw [e]
  rcases hd with hd | hd
  · -- below the field
    have split (x : Nat) : ((2 ^ width * H) * 2 ^ lsb + x * 2 ^ lsb + Lo) / 2 ^ l' % 2 ^ w' = Lo / 2 ^ l' % 2 ^ w' := by
      have hp : 2 ^ lsb = 2 ^ l' * (2 ^ w' * 2 ^ (lsb - l' - w')) := by
        rw [← pow_add, ← pow_add]; congr 1; omega
      have : (2 ^ width * H) * 2 ^ lsb + x * 2 ^ lsb + Lo = 2 ^ l' * (2 ^ w' * (2 ^ (lsb - l' - w') * (2 ^ width * H + x))) + Lo := by
        rw [hp]; ring
      rw [this, Nat.mul_add_div (by positivity), Nat.mul_add_mod]
    rw [split V]
    conv_rhs => rw [a4]
    rw [split F]
  · -- above the field
    have split (x : Nat) (hx : x < 2 ^ width) : ((2 ^ width * H) * 2 ^ lsb + x * 2 ^ lsb + Lo) / 2 ^ l' = H / 2 ^ (l' - lsb - width) := by
      have hp : 2 ^ l' = 2 ^ (lsb + width) * 2 ^ (l' - lsb - width) := by rw [← pow_add]; congr 1; omega
      rw [hp, ← Nat.div_div_eq_div_mul]
      congr 1
      have hlt : x * 2 ^ lsb + Lo < 2 ^ (lsb + width) := by
        have : (x + 1) * 2 ^ lsb ≤ 2 ^ width * 2 ^ lsb := Nat.mul_le_mul_right _ hx
        have e2 : (x + 1) * 2 ^ lsb = x * 2 ^ lsb + 2 ^ lsb := by ring
        have e3 : 2 ^ width * 2 ^ lsb = 2 ^ (lsb + width) := by rw [Nat.add_comm, pow_add]
        omega
      have : (2 ^ width * H) * 2 ^ lsb + x * 2 ^ lsb + Lo = 2 ^ (lsb + width) * H + (x * 2 ^ lsb + Lo) := by rw [pow_add]; ring
      rw [this, Nat.mul_add_div (by positivity), Nat.div_eq_of_lt hlt, Nat.add_zero]
    rw [split V hv]
    conv_rhs => rw [a4]
    rw [split F hf]

/-- A field reads as it was set. -/
theorem State.fv_setFv_same (s : State) (b : Nat) (f : Field) (v : Nat) (h : f.lsb + f.width ≤ 32) :
    (s.setFv b f v).fv b f = v % 2 ^ f.width := by
  simp only [State.fv, State.setFv, State.reg_setReg_same]
  exact Word.bits_withBits_same _ _ _ _ h

/-- A set leaves the fields of other words as they were. -/
theorem State.fv_setFv_ne (s : State) (b c : Nat) (f g : Field) (v : Nat) (h : c + g.off ≠ b + f.off) :
    (s.setFv b f v).fv c g = s.fv c g := by
  simp only [State.fv, State.setFv, State.reg_setReg_ne _ _ _ _ h]

/-- A set leaves the other bits of its word as they were. -/
theorem State.fv_setFv_apart (s : State) (b : Nat) (f g : Field) (v : Nat) (ho : g.off = f.off) (h : f.lsb + f.width ≤ 32)
    (hd : g.lsb + g.width ≤ f.lsb ∨ f.lsb + f.width ≤ g.lsb) : (s.setFv b f v).fv b g = s.fv b g := by
  simp only [State.fv, State.setFv, ho, State.reg_setReg_same]
  exact Word.bits_withBits_apart _ _ _ _ _ _ h hd

theorem State.fv_setReg_ne (s : State) (a c : Nat) (w : Word) (g : Field) (h : c + g.off ≠ a) : (s.setReg a w).fv c g = s.fv c g := by
  simp only [State.fv, State.reg_setReg_ne _ _ _ _ h]

/-- An event touches only PG_IRQ_STAT of its page. -/
theorem State.fv_irq (s : State) (b n c : Nat) (g : Field) (h : c + g.off ≠ b + 0x20) : (s.irq b n).fv c g = s.fv c g :=
  State.fv_setReg_ne s (b + 0x20) c _ g h

/-- An event sets its bit. -/
theorem State.reg_irq (s : State) (b n : Nat) : (s.irq b n).reg (b + 0x20) = s.reg (b + 0x20) ||| word (2 ^ n) :=
  State.reg_setReg_same s (b + 0x20) _

theorem State.fv_satInc_same (s : State) (b : Nat) (f : Field) (n : Nat) (h : f.lsb + f.width ≤ 32) :
    (s.satInc b f n).fv b f = satAdd (2 ^ f.width - 1) (s.fv b f) n % 2 ^ f.width :=
  State.fv_setFv_same s b f _ h

theorem State.fv_satInc_ne (s : State) (b c : Nat) (f g : Field) (n : Nat) (h : c + g.off ≠ b + f.off) :
    (s.satInc b f n).fv c g = s.fv c g :=
  State.fv_setFv_ne s b c f g _ h

/-- A bit reads as it was set. -/
theorem State.fb_setFb_same (s : State) (b : Nat) (f : Field) (v : Bool) (h : f.lsb + f.width ≤ 32) (hw : 1 ≤ f.width) :
    (s.setFb b f v).fb b f = v := by
  have h2 : 1 < 2 ^ f.width := Nat.one_lt_two_pow (by omega)
  have h1 : (s.setFb b f v).fv b f = (if v then 1 else 0) := by
    have h3 : (s.setFb b f v).fv b f = (if v then 1 else 0) % 2 ^ f.width := State.fv_setFv_same s b f _ h
    rw [h3]
    cases v <;> simp [Nat.mod_eq_of_lt h2]
  show decide ((s.setFb b f v).fv b f ≠ 0) = v
  cases v <;> simp [h1]

end Sys2Proof.Machine
end

