-- ==== Sys2Proof/Laws/Words.lean ====
section
/-! SUPPORT. How a register word at the front of the write queue takes effect: the row's commands in terms of what the page does. -/

namespace Sys2Proof.Machine

open Sys2Proof

/-- A word that waits leaves everything as it was; one that does not takes effect. -/
theorem State.unlessWaits_eq {s t : State} (h : s.touchesStalled t = false ∧ s.overfills t = false) : s.unlessWaits t = t := by
  simp only [State.unlessWaits, h.1, h.2, Bool.or_self, Bool.false_eq_true, if_false]

/-- Where PTE waits at no point and the change queue is empty, no word waits. -/
theorem State.goes_of {s : State} {p : Port} {a : Nat} {v : Word} (hs : s.stalled = false) (hc : s.pte.changes = []) : s.goes p a v := by
  intro sent flips
  refine ⟨?_, by simp [State.overfills, hc]⟩
  rw [State.touchesStalled, List.any_eq_false]
  intro x hx
  have hw := (List.mem_filter.1 hx).2
  have h2 := hw
  rw [State.stalledAt, Bool.and_eq_true, Bool.or_eq_true, Bool.and_eq_true, decide_eq_true_eq, decide_eq_true_eq] at h2
  rw [State.stalled, Bool.or_eq_false_iff, Bool.and_eq_false_iff] at hs
  rcases h2.2 with ⟨ha, he⟩ | he
  · rw [ha, he] at hs
    rcases hs.1 with h | h
    · cases h
    · exact absurd (hw.symm.trans h) Bool.noConfusion
  · rw [he] at hs
    exact absurd (hw.symm.trans hs.2) Bool.noConfusion

/-- A row that names the word at the front takes the word and the next one comes to the front. -/
theorem State.takeRow_front {s : State} {p : Port} {a : Nat} {v : Word} {r : WriteRow} (sent : Nat) (flips : List Nat) (hr : s.ready = true)
    (hf : s.frontWord = some (p, a, v)) (h : (rowsOf a v).contains r = true) (hg : s.goes p a v) :
    s.takeRow r sent flips = (s.writeWord p a v sent flips).popWord := by
  simp only [State.takeRow, State.takeFront, State.takeFrontNow, hf, hr, h, Bool.and_self, if_true, State.unlessWaits_eq (hg sent flips)]

/-- Whether or not it waits, a row's word does what its write does, or nothing (R249, R254). -/
theorem State.takeRow_waits {s : State} {p : Port} {a : Nat} {v : Word} {r : WriteRow} (sent : Nat) (flips : List Nat) (hr : s.ready = true)
    (hf : s.frontWord = some (p, a, v)) (h : (rowsOf a v).contains r = true) :
    s.takeRow r sent flips = s.unlessWaits (s.writeWord p a v sent flips).popWord := by
  simp only [State.takeRow, State.takeFront, State.takeFrontNow, hf, hr, h, Bool.and_self, if_true]

/-- A row that does not name the word at the front does nothing. -/
theorem State.takeRow_other {s : State} {p : Port} {a : Nat} {v : Word} {r : WriteRow} (sent : Nat) (flips : List Nat)
    (hf : s.frontWord = some (p, a, v)) (h : (rowsOf a v).contains r = false) : s.takeRow r sent flips = s := by
  simp only [State.takeRow, State.takeFront, State.takeFrontNow, hf, h, Bool.and_false, Bool.false_eq_true, if_false, State.unlessWaits,
    ite_self]

/-- A word at 0x40 or above stores its fields, and its page acts. -/
theorem State.writeWord_page {s : State} {p : Port} {a : Nat} {v : Word} {k : Kind} {i off : Nat} (sent : Nat) (flips : List Nat)
    (h : s.takes p a v k i off) (ho : 0x40 ≤ off) :
    s.writeWord p a v sent flips =
      (s.stored p a v k i).pageAction s p k i (pageBase a) off v (s.mayStore p (pageBase a)) sent flips := by
  obtain ⟨-, -, hp, rfl, hm, -⟩ := h
  have h1 : a % 0x1000 ≠ 0x0C := by omega
  have h2 : a % 0x1000 ≠ 0x1C := by omega
  have h3 : a % 0x1000 ≠ 0x28 := by omega
  have h4 : ¬a % 0x1000 < 0x40 := by omega
  simp only [State.writeWord, State.takeWord, hp, hm, h1, h2, h3, h4, if_true, if_false, State.stored]

/-- PG_CTRL. -/
theorem State.writeWord_ctrl {s : State} {p : Port} {a : Nat} {v : Word} {k : Kind} {i : Nat} (sent : Nat) (flips : List Nat)
    (h : s.takes p a v k i 0x0C) : s.writeWord p a v sent flips = (s.stored p a v k i).pgCtrl p (pageBase a) v := by
  obtain ⟨-, -, hp, ho, hm, -⟩ := h
  simp only [State.writeWord, State.takeWord, hp, hm, ho, if_true, State.stored]

/-- PG_CLAMP_NEXT. -/
theorem State.writeWord_clamp {s : State} {p : Port} {a : Nat} {v : Word} {k : Kind} {i : Nat} (sent : Nat) (flips : List Nat)
    (h : s.takes p a v k i 0x1C) : s.writeWord p a v sent flips = (s.stored p a v k i).clampNext (pageBase a) v := by
  obtain ⟨-, -, hp, ho, hm, -⟩ := h
  simp +decide only [State.writeWord, State.takeWord, hp, hm, ho, if_true, if_false, State.stored]

/-- PG_IRQ_SET. -/
theorem State.writeWord_irq {s : State} {p : Port} {a : Nat} {v : Word} {k : Kind} {i : Nat} (sent : Nat) (flips : List Nat)
    (h : s.takes p a v k i 0x28) :
    s.writeWord p a v sent flips =
      (s.stored p a v k i).setReg (pageBase a + 0x20) ((s.stored p a v k i).reg (pageBase a + 0x20) ||| v) := by
  obtain ⟨-, -, hp, ho, hm, -⟩ := h
  simp +decide only [State.writeWord, State.takeWord, hp, hm, ho, if_true, if_false, State.stored]

/-- A word that its port may not write stores nothing. -/
theorem State.writeWord_refused {s : State} {p : Port} {a : Nat} {v : Word} {k : Kind} {i : Nat} (sent : Nat) (flips : List Nat)
    (h : s.refuses p a v k i) : s.writeWord p a v sent flips = s.refuseWord p (pageBase a) (a % 0x1000) v := by
  obtain ⟨-, -, hp, hm, -⟩ := h
  simp only [State.writeWord, hp, hm, Bool.false_eq_true, if_false]

end Sys2Proof.Machine
end

