-- ==== Sys2Proof/WellFormed.lean ====
section
/-! DEFINITION. What the operands of a command may be, where their type alone does not say it: the width of an address, the number of a
tally, the numbering of frames, the form of a CAN frame. A meaning is total and gives an ill-formed command an outcome too; the world
sends none. -/

namespace Sys2Proof

open Sys2Proof.Machine

/-- A port address has 24 bits (R68), and a read asks for at least one byte. -/
def readWf (addr n : Nat) : Bool := decide (addr < 2 ^ 24) && decide (1 ≤ n)

/-- A write frame carries at least one byte from a 24-bit address (R68). -/
def writeWf (addr : Nat) (data : List Byte) : Bool := decide (addr < 2 ^ 24) && decide (data ≠ [])

/-- A tally number is 1 to 0xFFFF (R95). -/
def tallyWf (n : Nat) : Bool := decide (1 ≤ n) && decide (n ≤ 0xFFFF)

/-- The words in which a read of the storeroom finds errors lie in it, at multiples of 8 (R228). -/
def EccFinds.wf (e : EccFinds) : Bool := (e.corrected ++ e.lost).all (fun a => decide (a % 8 = 0) && decide (a < 2 ^ 32))

/-- The identifier fits its format, a frame with data has as many bytes as its DLC says, an FD frame is no remote frame (R403). -/
def CanFrame.wf (f : CanFrame) : Bool :=
  decide (f.id < 2 ^ (if f.ide then 29 else 11)) && decide (f.dlc ≤ 15) && !(f.fd && f.rtr) && (f.fd || !f.brs) &&
    decide (f.data.length = (if f.rtr then 0 else dlcLen f.fd f.dlc))

/-- Bit positions of a link test lie among the bits sent (R517). -/
def flipsWf (sent : Nat) (flips : List Nat) : Bool := flips.all (fun i => decide (i < sent))

/-- Diagnostics that fail in a start-up have a code of Table 19-1. -/
def failsWf (fails : List (Nat × Nat)) : Bool := fails.all (fun x => decide (x.1 < 14))

/-- The command is well formed. -/
def Instr.wf : Instr → Bool
  | .rd1 _ _ addr n _ _ ecc => readWf addr n && ecc.wf
  | .rd4 _ addr n _ _ ecc => readWf addr n && ecc.wf
  | .hbufRead _ _ addr n => readWf addr n
  | .wr1 _ _ addr data ecc => writeWf addr data && ecc.wf
  | .wr4 _ addr data ecc => writeWf addr data && ecc.wf
  | .frameAbort _ _ addr _ ecc => decide (addr < 2 ^ 24) && ecc.wf
  | .heldReadComplete _ _ ecc => ecc.wf
  | .scrubPassEnd _ ecc => ecc.wf
  | .rowSpare _ _ ecc => ecc.wf
  | .recordEnd _ _ ecc => ecc.wf
  | .pointChange _ ecc => ecc.wf
  | .cycleStart _ ecc => ecc.wf
  | .crateCapture _ ecc => ecc.wf
  | .planeEvaluation _ _ ecc => ecc.wf
  | .planeCommit _ _ errs ecc => errs.all (fun x => decide (x.1 < 0x80000)) && ecc.wf
  | .scalarPass _ _ _ _ _ _ _ _ ecc => ecc.wf
  | .tallyStart _ n => tallyWf n
  | .nop _ n => tallyWf n
  | .stoCopy _ n _ ecc => tallyWf n && ecc.wf
  | .stoFill _ n _ => tallyWf n
  | .stoVerify _ n _ ecc => tallyWf n && ecc.wf
  | .stoRekey _ n _ ecc => tallyWf n && ecc.wf
  | .baseLearn _ n => tallyWf n
  | .limDerive _ n ecc => tallyWf n && ecc.wf
  | .imgLoadProgram _ n ecc => tallyWf n && ecc.wf
  | .imgLoadConfig _ n ecc => tallyWf n && ecc.wf
  | .imgLoadAlarmTable _ n ecc => tallyWf n && ecc.wf
  | .olc _ n => tallyWf n
  | .evrErase _ n _ => tallyWf n
  | .cal _ n => tallyWf n
  | .selftest _ n _ => tallyWf n
  | .install _ n ecc => tallyWf n && ecc.wf
  | .revoke _ n => tallyWf n
  | .aes _ n ecc => tallyWf n && ecc.wf
  | .advance _ n => tallyWf n
  | .marginPlan _ n => tallyWf n
  | .undefinedOperation _ n => tallyWf n
  | .tallyCompletion _ n => tallyWf n
  | .tallyTimeout _ n => tallyWf n
  | .upFrameA _ _ seq rb => decide (seq < 16) && decide (rb < 256)
  | .upFrameB _ _ seq carrier _ rb hr => decide (seq < 16) && decide (carrier < 16) && decide (rb.length = 4) && decide (hr.length = 4)
  | .canFrameReceived _ _ _ f => f.wf
  | .startUp _ _ _ _ _ fails => failsWf fails
  | .pfwWithdrawn _ fails => failsWf fails
  | .calibrationComplete _ _ m => decide (m.gains.length = 8)
  | .canError _ _ lec _ field _ _ => decide (1 ≤ lec) && decide (lec ≤ 6) && decide (field ≤ 3)
  | .diagnosticFail _ code _ => decide (code < 14)
  | .diagnosticClear _ code _ => decide (code < 14)
  | .tamperEvent _ _ live => decide (live < 4)
  | .linkStop _ sent flips => flipsWf sent flips
  | .linkTestEnd _ sent flips => flipsWf sent flips
  | .ins1 _ sent flips => flipsWf sent flips
  | _ => true

end Sys2Proof
end

