-- ==== Sys2Proof/Tests/Slice0.lean ====
section
/-! SUPPORT. Tests: what WellFormed refuses, values that the spec or the standards print, and for every statement with hypotheses
concrete states and operands that meet them, clause by clause. -/

namespace Sys2Proof.Tests

open Sys2Proof Sys2Proof.Machine

-- One theorem after the other: many kernel evaluations at once would take too much memory.
set_option Elab.async false

/-! ### Ill-formed commands -/

def noEcc : EccFinds := { corrected := [], lost := [] }

theorem test_wf_read : (Instr.rd1 0 .host 0xFFFFFF 1 0 0 noEcc).wf = true ∧ (Instr.rd1 0 .host 0x1000000 1 0 0 noEcc).wf = false ∧
    (Instr.rd4 0 0x40 0 0 0 noEcc).wf = false := by decide
theorem test_wf_write : (Instr.wr4 0 0x40 [1#8] noEcc).wf = true ∧ (Instr.wr1 0 .host 0x40 [] noEcc).wf = false ∧
    (Instr.wr1 0 .host 0x1000000 [1#8] noEcc).wf = false := by decide
theorem test_wf_tally : (Instr.nop 0 0xFFFF).wf = true ∧ (Instr.nop 0 0).wf = false ∧ (Instr.stoCopy 0 0x10000 0 noEcc).wf = false := by decide
theorem test_wf_ecc : (Instr.scrubPassEnd 0 { corrected := [], lost := [8] }).wf = true ∧
    (Instr.scrubPassEnd 0 { corrected := [], lost := [4] }).wf = false ∧
    (Instr.pointChange 0 { corrected := [], lost := [0x100000000] }).wf = false := by decide

def canFrame : CanFrame := { ide := false, rtr := false, fd := false, brs := false, id := 0x7FF, dlc := 2, data := [1#8, 2#8] }

theorem test_wf_can : (Instr.canFrameReceived 0 0 0 canFrame).wf = true ∧
    (Instr.canFrameReceived 0 0 0 { canFrame with id := 0x800 }).wf = false ∧
    (Instr.canFrameReceived 0 0 0 { canFrame with fd := true, rtr := true, data := [] }).wf = false ∧
    (Instr.canFrameReceived 0 0 0 { canFrame with data := [1#8] }).wf = false := by decide
theorem test_wf_flips : (Instr.ins1 0 4 [3]).wf = true ∧ (Instr.ins1 0 4 [4]).wf = false := by decide
theorem test_wf_frames : (Instr.upFrameA 0 true 16 0).wf = false ∧ (Instr.upFrameB 0 true 0 0 Q.zero [] []).wf = false ∧
    (Instr.canError 0 0 7 false 0 false 0).wf = false ∧ (Instr.diagnosticFail 0 15 0).wf = false ∧
    (Instr.tamperEvent 0 0 4).wf = false ∧ (Instr.pfwWithdrawn 0 [(14, 0)]).wf = false := by decide

/-! ### Values that the spec and the standards print -/

/-- FIPS 180-4, the digest of "abc". -/
theorem test_sha256 : beNat (sha256 [0x61#8, 0x62#8, 0x63#8]) =
    0xba7816bf8f01cfea414140de5dae2223b00361a396177a9cb410ff61f20015ad := by decide +kernel

/-- RFC 6979 A.2.5, the signature of "sample" with SHA-256. -/
theorem test_ecdsa : ecdsaVerify
    (beBytes 32 0x60FED4BA255A9D31C961EB74C6356D68C049B8923B61FA6CE669622E60F29FB6 ++
      beBytes 32 0x7903FE1008B8BC99A41AE9E95628BC64F2F1B20C2D7E9F5177A3C294D4462299)
    [0x73#8, 0x61#8, 0x6D#8, 0x70#8, 0x6C#8, 0x65#8]
    (beBytes 32 0xEFD48B2AACB6A8FD1140DD9CD45E81D69D2C877B56AAF991C34D0EA84EAF3716 ++
      beBytes 32 0xF7CB1C942D657C41D436C7A1B6E29F65F3E900DBB9AFF4064DC4AB2F843ACDA8) = true := by decide +kernel

/-- SP 800-186, the base point of P-256 is on the curve. -/
theorem test_base_point : onCurve ecG.1 ecG.2 = true := by decide +kernel

/-- The storeroom chapter's example: the record of point 0x110_0220 lies at 0x1900_2200. -/
theorem test_spectral_record : spectralRec 0x1100220 = 0x19002200 := by decide

/-- A thermocouple voltage in µV. -/
def microvolts (curve : Nat) (t : Int) : Int := Q.round (Q.mul (tcVolts curve (Q.ofInt t)) (Q.ofNat 1000000))

/-- IEC 60584-1, the reference tables of types B, E, J, K, N, R, S and T at 100 °C, and at a point of another piece of each. -/
theorem test_thermocouples :
    (List.range 8).map (fun k => microvolts (8 + k) 100) = [33, 6319, 5269, 4096, 2774, 647, 646, 4279] ∧
    [(8, 1800), (9, -100), (10, 1200), (11, -200), (12, -100), (13, 1700), (14, 1700), (15, -100)].map
      (fun x : Nat × Int => microvolts x.1 x.2) = [13591, -5237, 69553, -5891, -2407, 20222, 17947, -3379] := by decide +kernel

/-- IEC 60751, the Pt100 table at -200, 100 and 850 °C: 18.52, 138.51 and 390.48 Ω. -/
theorem test_platinum : [-200, 100, 850].map (fun t : Int => Q.round (Q.make (ptRatio (t * 2 ^ 24)) (10 ^ 12 * 2 ^ 96))) =
    [1852, 13851, 39048] := by decide +kernel

/-- Levels of Table 07-3's form: 0.01 dB steps with 50,000 at 1.0 (an amplitude of 10 by its square, 100). -/
theorem test_level_codes : [Q.one, Q.ofNat 100, Q.frac 1 4, Q.zero].map powerCode = [50000, 52000, 49398, 0] := by decide +kernel

/-- A cosine of amplitude 1000 on line 3 of 64 samples under the flat window: its line gives the square of the amplitude. -/
theorem test_tone :
    let l : Samples := (List.range 64).map (fun i => (i, (cosTurn (3 * i) 64 * 1000 / 2 ^ 40, 0)))
    let p := linePower 3 64 false (windowed 3 1 (transform 64 l) 3)
    Q.round (rootQ p) / 2 ^ 30 = 1000 * 2 ^ 10 := by decide +kernel

/-- Reset column of SYS_ID.part and SYS_ID.rev (Table 01-7). -/
theorem test_sys_id : State.reset.fv P.SYS R.SYS_ID_part = 0x7256 ∧ State.reset.fv P.SYS R.SYS_ID_rev = 0xB2 := by decide +kernel

/-! ### States for the witnesses -/

/-- A node in service, every register at its Reset value. -/
def awake : State :=
  { State.reset with pwr := { Pwr.reset with mode := .active, cellarLost := false, clean := true, avddOk := true } }

/-- Fields in force replaced. -/
def given (s : State) (l : List (Nat × Field × Nat)) : State := l.foldl (fun s x => s.setFv x.1 x.2.1 x.2.2) s

/-- One register word of a port waits. -/
def front (s : State) (p : Port) (a : Nat) (v : Word) : State := { s with queue := [{ port := p, addr := a, base := 0, data := Word.bytes v }] }

/-- A word of the host waits at a node in service with these fields. -/
def word_ (l : List (Nat × Field × Nat)) (a : Nat) (v : Word) : State := (front (given awake l) .host a v).at 0

/-- The clauses of `State.takes` as a value, on a node where PTE waits at no point and the change queue is empty. -/
def taken (s : State) (a : Nat) (v : Word) (k : Kind) (i off : Nat) : Bool :=
  decide (s.ready = true ∧ s.frontWord = some (.host, a, v) ∧ pageAt a = some (k, i) ∧ a % 0x1000 = off ∧ s.mayWrite .host k a = true ∧
    s.stalled = false ∧ s.pte.changes = [])

theorem takes_of_taken {s : State} {a : Nat} {v : Word} {k : Kind} {i off : Nat} (h : taken s a v k i off = true) :
    s.takes .host a v k i off := by
  have c := of_decide_eq_true h
  exact ⟨c.1, c.2.1, c.2.2.1, c.2.2.2.1, c.2.2.2.2.1, State.goes_of c.2.2.2.2.2.1 c.2.2.2.2.2.2⟩

/-- Which of some bits of a word are 1. -/
def bitsIn (l : List Nat) (v : Word) : List Nat := l.filter (fun j => v.getLsbD j)

/-- The word `v` for the word at `off` of a page waits, on a node with these fields, and its page takes it. -/
def goes (l : List (Nat × Field × Nat)) (b off : Nat) (v : Word) (k : Kind) (i : Nat) : Bool := taken (word_ l (b + off) v) (b + off) v k i off

/-- A word of the host at page base `b`, offset `off`, as stored on a node with these fields. -/
def put_ (l : List (Nat × Field × Nat)) (b off : Nat) (v : Word) (k : Kind) (i : Nat) : State :=
  (word_ l (b + off) v).stored .host (b + off) v k i

def tally_ (num op : Nat) (args : List Word) (running : Bool) : Tally :=
  { num := num, op := op, port := .host, args := args, deadline := some (secs 3600), running := running, clamped := false, done := 0, total := 0,
    aux := 0, kept := [], outcome := none }

/-- A node in service with one tally outstanding. -/
def withTally (x : Tally) : State := { awake with tly := { out := [x], cq := [] } }

/-! ### Witnesses: words -/

theorem witness_PageWords :
    (goes [] P.SYS 0x0C 1#32 .sys 0 ∧ bitsIn [0, 1, 2, 3, 4] 1#32 = [0] ∧ (put_ [] P.SYS 0x0C 1#32 .sys 0).mayStore .host P.SYS = true) ∧
    (goes [] P.RMP 0x0C 2#32 .rmp 0 ∧ bitsIn [0, 1, 2, 3, 4] 2#32 = [1]) ∧ (goes [] (P.SPX 63) 0x0C 4#32 .spxPl 63 ∧ bitsIn [0, 1, 2, 3, 4] 4#32 = [2]) ∧
    (goes [] P.SYS 0x0C 0x5A08#32 .sys 0 ∧ bitsIn [0, 1, 2, 3, 4] 0x5A08#32 = [3] ∧ Word.bits 0x5A08#32 8 8 = 0x5A ∧
      (put_ [] P.SYS 0x0C 0x5A08#32 .sys 0).sealedPages.contains P.SYS = false) ∧
    (let s : State := { word_ [] (P.SYS + 0x0C) 0x10#32 with group := List.replicate 63 P.PNL }
     taken s (P.SYS + 0x0C) 0x10#32 .sys 0 0x0C ∧ bitsIn [0, 1, 2, 3, 4] 0x10#32 = [4] ∧
      s.group.contains P.SYS = false ∧ s.group.length < 64) ∧
    goes [] P.SYS 0x1C 1#32 .sys 0 ∧ goes [] P.SYS 0x1C 3#32 .sys 0 ∧ goes [] P.SYS 0x28 0x80000000#32 .sys 0 ∧
    goes [] P.HPI 0x4C 1#32 .hpi 0 ∧ goes [] P.HPI 0x4C 2#32 .hpi 0 ∧ goes [] P.HPI 0x4C 4#32 .hpi 0 := by decide +kernel

theorem witness_MeasurementWords :
    (let s := front (withTally (tally_ 0xFFFF 4 [] false)) .host (P.TLY + 0x84) 0xFFFF#32
     taken s (P.TLY + 0x84) 0xFFFF#32 .tly 0 0x84 ∧ s.mayStore .host P.TLY = true ∧ (s.tally? 0xFFFF).any (fun x => x.outcome.isNone) = true) ∧
    goes [] P.TLY 0x80 1#32 .tly 0 ∧ goes [] (P.SC 31) R.SC_CTRL_test.off 1#32 .sc 31 ∧ goes [] (P.SC 0) R.SC_CTRL_test.off 2#32 .sc 0 ∧
    goes [] (P.SPX 63) R.SPX_PL_CTRL_restart.off 1#32 .spxPl 63 ∧ goes [] P.STO R.STO_CTRL_clr_err.off 1#32 .sto 0 ∧
    goes [] P.STO R.STO_CTRL_clr_err.off 2#32 .sto 0 ∧
    (goes [] P.PTE R.PTE_SIM_PT_point.off 0x81000000#32 .pte 0 ∧
      ((put_ [] P.PTE R.PTE_SIM_PT_point.off 0x81000000#32 .pte 0).simWrite .host 0x1000000 true).2 = true) ∧
    (goes [] P.PTE R.PTE_SIM_PT_point.off 0#32 .pte 0 ∧ ((put_ [] P.PTE R.PTE_SIM_PT_point.off 0#32 .pte 0).simWrite .host 0 false).2 = false) ∧
    goes [] (P.PTECL 15) R.PTE_CL_CTRL_release.off 1#32 .pteCl 15 ∧ goes [] P.PTE R.PTE_CLR_clr.off 1#32 .pte 0 := by decide +kernel

/-- A word of ALH_CMD. -/
def cmdWord (op idx : Nat) : Word := word (op + idx * 256)

theorem witness_AlarmWords :
    (goes [] P.ALH R.ALH_CMD_op.off (cmdWord 1 16383) .alh 0 ∧
      (let w := put_ [] P.ALH R.ALH_CMD_op.off (cmdWord 1 16383) .alh 0
       Word.bits (cmdWord 1 16383) 8 16 = 16383 ∧ actMatches ((w.alhUpTo w.now).entry 16383) (w.fv P.ALH R.ALH_CMD_ARG_arg) 1 = true)) ∧
    (goes [] P.ALH R.ALH_CMD_op.off (cmdWord 2 1023) .alh 0 ∧ Word.bits (cmdWord 2 1023) 8 16 = 1023) ∧
    (goes [] P.ALH R.ALH_CMD_op.off (cmdWord 3 0) .alh 0 ∧ Word.bits (cmdWord 3 0) 0 4 = 3) ∧
    (goes [] P.ALH R.ALH_CMD_op.off (cmdWord 4 0) .alh 0 ∧
      (let w := put_ [] P.ALH R.ALH_CMD_op.off (cmdWord 4 0) .alh 0
       actMatches ((w.alhUpTo w.now).entry 0) (w.fv P.ALH R.ALH_CMD_ARG_arg) 1 = true)) ∧
    goes [] P.ALH R.ALH_CMD_op.off (cmdWord 5 16383) .alh 0 ∧ goes [] P.ALH R.ALH_CMD_op.off (cmdWord 6 16383) .alh 0 ∧
    (goes [] P.ALH R.ALH_CMD_op.off (cmdWord 7 16383) .alh 0 ∧ (put_ [] P.ALH R.ALH_CMD_op.off (cmdWord 7 16383) .alh 0).maintains .host = true) ∧
    (goes [] P.ALH R.ALH_CMD_op.off (cmdWord 8 16383) .alh 0 ∧ (put_ [] P.ALH R.ALH_CMD_op.off (cmdWord 8 16383) .alh 0).maintains .host = true) ∧
    goes [] P.ALH R.ALH_CMD_op.off (cmdWord 9 7) .alh 0 ∧
    (goes [] P.ALH R.ALH_CMD_op.off (cmdWord 10 1023) .alh 0 ∧
      (let s := front { awake with alh := { awake.alh with groups := [(1023, { awake.group_ 1023 with armed := false })] } } .host
         (P.ALH + R.ALH_CMD_op.off) (cmdWord 10 1023)
       taken s (P.ALH + R.ALH_CMD_op.off) (cmdWord 10 1023) .alh 0 R.ALH_CMD_op.off ∧
       (let w := s.stored .host (P.ALH + R.ALH_CMD_op.off) (cmdWord 10 1023) .alh 0
        ((w.alhUpTo w.now).group_ 1023).armed = false))) ∧
    (goes [(P.SYS, R.SYS_STATE_pstate, 2)] P.ALH R.ALH_CMD_op.off (cmdWord 1 16383) .alh 0 ∧
      (put_ [(P.SYS, R.SYS_STATE_pstate, 2)] P.ALH R.ALH_CMD_op.off (cmdWord 1 16383) .alh 0).alhRuns = false ∧
      (put_ [] P.ALH R.ALH_CMD_op.off (cmdWord 1 16383) .alh 0).alhRuns = true) ∧
    (goes [] P.ALH R.ALH_CMD_op.off (cmdWord 0 0) .alh 0 ∧ Word.bits (cmdWord 0 0) 0 4 = 0) ∧
    (goes [] P.ALH R.ALH_CMD_op.off (cmdWord 11 0) .alh 0 ∧ Word.bits (cmdWord 11 0) 0 4 = 11) ∧
    (goes [] P.ALH R.ALH_MODE_mode.off 7#32 .alh 0 ∧ (word_ [] (P.ALH + R.ALH_MODE_mode.off) 7#32).mayStore .host P.ALH = true) ∧
    (goes [] P.ALH R.ALH_DUTY_target.off 31#32 .alh 0 ∧ (word_ [] (P.ALH + R.ALH_DUTY_target.off) 31#32).mayStore .host P.ALH = true) ∧
    goes [] P.ALH R.ALH_CLR_clr.off 1#32 .alh 0 := by decide +kernel

theorem witness_EngineWords :
    goes [] P.FBE R.FBE_EV_TRIG_trig.off 0x80#32 .fbe 0 ∧ goes [] P.FBE R.FBE_FRC_CTRL_set.off 1#32 .fbe 0 ∧
    goes [] P.FBE R.FBE_FRC_CTRL_set.off 2#32 .fbe 0 ∧ goes [] P.FBE R.FBE_FRC_CTRL_set.off 4#32 .fbe 0 ∧
    goes [] P.FBE R.FBE_CLR_clr.off 1#32 .fbe 0 ∧ goes [] P.EVR R.EVR_TRIG_go.off 0xFFFF010F#32 .evr 0 ∧
    goes [] P.EVR R.EVR_CLR_clr.off 1#32 .evr 0 := by decide +kernel

theorem witness_TimeWords :
    (goes [] P.TBS 0x40 2#32 .tbs 0 ∧ bitsIn [1, 2, 3] 2#32 = [1]) ∧ (goes [] P.TBS 0x40 4#32 .tbs 0 ∧ bitsIn [1, 2, 3] 4#32 = [2]) ∧
    (goes [] P.TBS 0x40 8#32 .tbs 0 ∧ bitsIn [1, 2, 3] 8#32 = [3]) ∧ (goes [] P.TBS 0x40 1#32 .tbs 0 ∧ bitsIn [1, 2, 3] 1#32 = []) ∧
    goes [] P.TBS R.TBS_TRIM_trim.off 0#32 .tbs 0 := by decide +kernel

theorem witness_AtticWords :
    goes [] P.DIO R.DIO_CTRL_thr_test.off 1#32 .dio 0 ∧ goes [] P.DIO R.DIO_CTRL_thr_test.off 2#32 .dio 0 ∧
    (goes [] P.DIO R.DIO_DO_SET_set.off 0xFF#32 .dio 0 ∧ (word_ [] (P.DIO + R.DIO_DO_SET_set.off) 0xFF#32).mayStore .host P.DIO = true) ∧
    goes [] P.DIO R.DIO_CLR_clr.off 1#32 .dio 0 ∧ goes [] (P.LPOCH 3) R.LPO_CH_CTRL_clr_comp.off 1#32 .lpoCh 3 ∧
    goes [] (P.LPOCH 3) R.LPO_CH_CTRL_clr_comp.off 2#32 .lpoCh 3 ∧ goes [] (P.LPOCH 0) R.LPO_CH_CTRL_clr_comp.off 4#32 .lpoCh 0 ∧
    goes [] (P.LPOCH 0) R.LPO_CH_CTRL_clr_comp.off 8#32 .lpoCh 0 ∧
    (goes [] (P.LPOCH 3) R.LPO_CH_SET_set.off 0x41A00000#32 .lpoCh 3 ∧
      (word_ [] (P.LPOCH 3 + R.LPO_CH_SET_set.off) 0x41A00000#32).mayStore .host (P.LPOCH 3) = true) ∧
    goes [] P.LPO R.LPO_CLR_clr.off 1#32 .lpo 0 := by decide +kernel

theorem witness_CanWords :
    (let off := R.CAN_OBJ_CTRL_send.off + 31 * 0x20
     R.CAN_OBJ_CTRL_send.coversWord off = true ∧ goes [] (P.CANOBJ 1 3) off 1#32 .canObj 3 ∧ goes [] (P.CANOBJ 1 3) off 2#32 .canObj 3 ∧
      goes [] (P.CANOBJ 1 3) off 4#32 .canObj 3 ∧ goes [] (P.CANOBJ 1 3) off 8#32 .canObj 3) ∧
    (goes [] (P.CAN 0) R.CAN_CTRL_sleep.off 1#32 .can 0 ∧ goes [] (P.CAN 0) R.CAN_CTRL_sleep.off 2#32 .can 0 ∧
      goes [] (P.CAN 1) R.CAN_CTRL_sleep.off 4#32 .can 0 ∧ awake.mayStore .host (P.CAN 0) = true) ∧
    (let off := R.CAN_PMB_CTRL_release.off + (R.CAN_PMB_CTRL_release.cnt - 1) * 0x20
     R.CAN_PMB_CTRL_release.coversWord off = true ∧ goes [] (P.CAN 0) off 1#32 .can 0) := by decide +kernel

theorem witness_PanelAndMotionWords :
    goes [] P.PNL R.PNL_CTRL_put.off 1#32 .pnl 0 ∧ goes [] P.PNL R.PNL_CTRL_put.off 2#32 .pnl 0 ∧ goes [] P.PNL R.PNL_CTRL_put.off 4#32 .pnl 0 ∧
    goes [] P.PNL R.PNL_CTRL_put.off 8#32 .pnl 0 ∧
    (let l := [(P.RMP, R.RMP_CFG_own, 1)]
     goes l P.RMP R.RMP_TGT_tgt.off 0x41A00000#32 .rmp 0 ∧ (put_ l P.RMP R.RMP_TGT_tgt.off 0x41A00000#32 .rmp 0).fv P.RMP R.RMP_CFG_own = 1) ∧
    (goes [] P.RMP R.RMP_TGT_tgt.off 0#32 .rmp 0 ∧ (put_ [] P.RMP R.RMP_TGT_tgt.off 0#32 .rmp 0).fv P.RMP R.RMP_CFG_own ≠ 1) ∧
    goes [] P.RMP R.RMP_CTRL_setpos.off 1#32 .rmp 0 ∧ goes [] P.RMP R.RMP_CTRL_setpos.off 2#32 .rmp 0 ∧
    goes [] P.RMP R.RMP_CTRL_setpos.off 4#32 .rmp 0 := by decide +kernel

theorem witness_SupervisorWords :
    (goes [] P.SAF R.SAF_CTRL_enter.off 0xA501#32 .saf 0 ∧ Word.bits 0xA501#32 8 8 = 0xA5) ∧
    goes [] P.SAF R.SAF_CTRL_enter.off 0xA502#32 .saf 0 ∧ goes [] P.SAF R.SAF_CTRL_enter.off 0xA504#32 .saf 0 ∧
    (goes [] P.AGE R.AGE_CTRL_reset_ofs.off 1#32 .age 0 ∧ (put_ [] P.AGE R.AGE_CTRL_reset_ofs.off 1#32 .age 0).age.plan = none ∧
      (put_ [] P.AGE R.AGE_CTRL_reset_ofs.off 1#32 .age 0).maintains .host = true) := by decide +kernel

theorem witness_PowerWords :
    (goes [] P.SYS R.SYS_PWR_req.off 0#32 .sys 0 ∧ awake.mayStore .host P.SYS = true) ∧ goes [] P.SYS R.SYS_PWR_req.off 1#32 .sys 0 ∧
    goes [] P.SYS R.SYS_PWR_req.off 3#32 .sys 0 := by decide +kernel

theorem witness_SecurityWords :
    goes [] P.SEC R.SEC_CTRL_challenge.off 1#32 .sec 0 ∧ goes [] P.SEC R.SEC_CTRL_challenge.off 0xA#32 .sec 0 ∧
    goes [] P.SEC R.SEC_CTRL_challenge.off 0x10#32 .sec 0 ∧ goes [] P.SEC R.SEC_CTRL_challenge.off 0xA520#32 .sec 0 ∧
    goes [] P.DBG R.DBG_CTRL_fbe_halt.off 1#32 .dbg 0 ∧ goes [] P.DBG R.DBG_CTRL_fbe_halt.off 3#32 .dbg 0 := by decide +kernel

theorem witness_LinkWords :
    goes [] P.LNK R.LNK_CTRL_go.off 1#32 .lnk 0 ∧ goes [] P.LNK R.LNK_CTRL_go.off 2#32 .lnk 0 ∧ goes [] P.LNK R.LNK_CTRL_go.off 4#32 .lnk 0 ∧
    goes [] P.LNK R.LNK_CTRL_go.off 8#32 .lnk 0 ∧
    (let off := R.LNK_HBUF_buf.off + (R.LNK_HBUF_buf.cnt - 1) * R.LNK_HBUF_buf.stride
     R.LNK_HBUF_buf.coversWord off = true ∧ goes [] P.LNK off 0xFFFFFFFF#32 .lnk 0 ∧ awake.mayStore .host P.LNK = true) := by decide +kernel

theorem witness_PlainWords :
    (goes [] P.SYS 0x40 0#32 .sys 0 ∧ rowsOf (P.SYS + 0x40) 0#32 = []) ∧
    (goes [] (P.DYN 15) 0x40 1#32 .dynCh 15 ∧ rowsOf (P.DYN 15 + 0x40) 1#32 = [] ∧
      Kind.dynCh ∈ [Kind.cv, .dyn, .dynCh, .spx, .fbeTk, .alhLd]) := by decide +kernel

/-- SEC_CFG.td_en is 0. -/
def tdShut : State := given awake [(P.SEC, R.SEC_CFG_td_en, 0)]

/-- A node whose scalar lane waits at scalar 0, squashed twice; the point is shown as shelved with its entry 0. -/
def stuck : State :=
  State.wr8 { awake with
    pte := { awake.pte with
      lane := some { now := 0, todo := [(0, { value := 0#32, quality := 0, source := 0, stamp := 0 })] }
      squashed := [(scalarPoint 0, 2)] }
    alh := { awake.alh with
      entries := [(0, { Entry.reset with shelved := true })], contrib := [(scalarPoint 0, { entry := 0, lvl := 0, bad := false })] } }
    (scalarRec 0 + 26) 0x20#8

/-- The trapdoor may not write SYS_PWR while SEC_CFG.td_en is 0; what would change the record of the point at which the lane waits has to wait. -/
theorem witness_RefusedWords :
    ((front tdShut .trapdoor (P.SYS + R.SYS_PWR_req.off) 1#32).refuses .trapdoor (P.SYS + R.SYS_PWR_req.off) 1#32 .sys 0 ∧
      (front tdShut .trapdoor (P.DYN 0 + 0x40) 1#32).refuses .trapdoor (P.DYN 0 + 0x40) 1#32 .dynCh 0) ∧
    (rowsOf (P.SYS + R.SYS_PWR_req.off) 1#32).contains .reqLean = true ∧ rowsOf (P.DYN 0 + 0x40) 1#32 = [] ∧
    (let a := P.ALH + R.ALH_CMD_op.off
     let w := (front stuck .host a (cmdWord 6 0)).at 0
     w.ready = true ∧ w.frontWord = some (.host, a, cmdWord 6 0) ∧ (rowsOf a (cmdWord 6 0)).contains .unshelveEntry = true ∧
       w.touchesStalled ((w.writeWord .host a (cmdWord 6 0) 0 []).popWord) = true) := by
  refine ⟨⟨⟨?_, ?_, ?_, ?_, State.goes_of ?_ ?_⟩, ⟨?_, ?_, ?_, ?_, State.goes_of ?_ ?_⟩⟩, ?_⟩ <;> decide +kernel

/-! ### Witnesses: rules -/

theorem witness_ClampRing :
    (awake.ring P.SYS).entries.length < 8 ∧
    (let s := (List.range 8).foldl (fun (s : State) i => s.clampAt P.SYS 0x40 i true 1 0) awake
     8 ≤ (s.ring P.SYS).entries.length) ∧ P.HPI ≠ P.SYS := by decide +kernel

theorem witness_DiscardDropsStaged : pageAt P.EVR = some (.evr, 0) ∧ P.EVR % 0x1000 = 0 ∧ pageAt (P.FBETK 15) = some (.fbeTk, 15) := by decide

theorem witness_GroupOfPages :
    P.SYS ∈ ({ awake with group := [P.SYS] } : State).group ∧
    (P.SYS ∉ ({ awake with group := List.replicate 63 P.HPI } : State).group ∧
      ({ awake with group := List.replicate 63 P.HPI } : State).group.length < 64) ∧
    (P.SYS ∉ ({ awake with group := List.replicate 64 P.HPI } : State).group ∧
      64 ≤ ({ awake with group := List.replicate 64 P.HPI } : State).group.length) ∧ awake.group = [] := by decide

theorem witness_LockedPage :
    ((given awake [(P.PNL, R.PG_STAT_locked, 1)]).fb P.PNL R.PG_STAT_locked = true ∧ R.PG_IRQ_EN_en.acc = .rw ∧ R.SPX_HOT_en.acc = .rws) ∧
    (bitsIn [0, 1, 2, 3, 4] 1#32 = [0] ∧ bitsIn [0, 1, 2, 3, 4] 0x10#32 = [4]) ∧
    (bitsIn [0, 1, 2, 3, 4] 0x5A08#32 = [3] ∧ Word.bits 0x5A08#32 8 8 = 0x5A ∧ awake.sealedPages.contains P.PNL = false) ∧
    Word.bits 0x5B08#32 8 8 ≠ 0x5A ∧
    (let s : State := given { awake with sealedPages := [P.PNL] } [(P.SYS, R.SYS_STATE_life, 2)]
     s.sealedPages.contains P.PNL = true ∧ s.life = 2 ∧ s.level .host ≠ 2) := by decide +kernel

theorem witness_InterruptLine : SMap.rising 0 awake.regs = true ∧ SMap.rising 0 (awake.irq P.SYS 31).regs = true := by decide +kernel

theorem witness_TallyNumbers :
    64 ≤ (List.replicate 64 (tally_ 1 0 [] false)).length ∧
    256 ≤ (List.replicate 1 (tally_ 1 0 [] false)).length +
      (List.replicate 255 ({ num := 2, status := 0, reason := 0, r0 := 0, r1 := 0, progress := 0 } : Completion)).length ∧
    (let s := withTally (tally_ 1 0 [] false)
     s.tly.out.length < 64 ∧ s.tly.out.length + s.tly.cq.length < 256 ∧ s.tallyUsed (nextTally (s.fv P.TLY R.TLY_LAST_last)) = true) ∧
    awake.tallyUsed (nextTally (awake.fv P.TLY R.TLY_LAST_last)) = false := by decide +kernel

theorem witness_CompletionQueue :
    ({ tally_ 1 0 [] true with outcome := some (0, 0, 0, 0) } : Tally).outcome = some (0, 0, 0, 0) ∧
    (let c : Completion := { num := 0xFFFF, status := 0xFF, reason := 0xFF, r0 := 0, r1 := 0, progress := 0 }
     let s : State := { awake with tly := { out := [], cq := [c] } }
     s.tly.cq = [c] ∧ s.corOn = true ∧ c.num < 0x10000 ∧ c.status < 0x100 ∧ c.reason < 0x100) := by decide +kernel

theorem witness_StoreBytes : Memory.wf awake.mem ∧ Memory.wf (awake.wr8 0xFFFFFFFF 1#8).mem := by decide +kernel

theorem witness_PoisonedWord :
    0xFFFFFFFF < 0x100000000 ∧ awake.isPoisoned 0xFFFFFFFF = false ∧ awake.poisoned = [] ∧ (List.replicate 8 0#8 : List Byte).length = 8 ∧
    ((7 : Nat) < 8 ∧ 0 < ([1#8] : List Byte).length ∧ 7 + ([1#8] : List Byte).length ≤ 8) := by decide +kernel

theorem witness_FillAndCopyStore :
    (let x := tally_ 1 2 [0x30000000#32, 16#32, 1#32, 2#32] true
     let s := withTally x
     (s.at 0).domainOn 7 = true ∧ (s.at 0).runningTally 1 2 = some x ∧ Memory.wf s.mem ∧ inIntegrator 0x30000000 16 = false) ∧
    (let x := tally_ 1 2 [0x50000000#32, 16#32, 1#32, 2#32] true
     x.arg 1 % 8 = 0 ∧ inIntegrator (x.arg 0) (x.arg 1) = true) ∧
    (let x := tally_ 1 1 [0x50000000#32, 0x50000008#32, 16#32] true
     ((withTally x).at 0).runningTally 1 1 = some x) := by decide +kernel

theorem witness_PortsSilent : (State.reset.at 0).portDriven = false := by decide

theorem witness_HaltedCalendar : (given awake [(P.TBS, R.TBS_CTRL_halt, 1)]).fb P.TBS R.TBS_CTRL_halt = true := by decide +kernel

theorem witness_ResetOffsets :
    (1#32).getLsbD 0 = true ∧ awake.age.plan = none ∧ awake.maintains .host = true ∧
    (let s := given awake [(P.SYS, R.SYS_STATE_life, 2)]
     s.life = 2 ∧ s.level .trapdoor ≠ 2) := by decide +kernel

theorem witness_StepKeepsInv : State.reset.Inv ∧ step State.reset = .next State.reset := by
  refine ⟨?_, rfl⟩
  constructor <;> first | decide | (unfold State.ringsBounded; decide) | (unfold State.talliesBounded; decide) | (unfold State.poisonAligned; decide)

theorem witness_EmptyQueueIdles : State.reset.pending = [] := rfl

theorem witness_TimebaseNeverStepsBack : exec (.referenceStopped 0) State.reset = .next State.reset := by rfl

theorem witness_ResetColumn : pageOf 0x16F = some (.fbeTk, 15) ∧ R.SYS_ID_part ∈ standing .sys 0 0x40 0 := by decide +kernel

/-! ### Witnesses: what completes -/

/-- A node in service with these fields, at its present instant. -/
def at_ (l : List (Nat × Field × Nat)) : State := (given awake l).at 0

/-- A later instant. -/
def later (s : State) (t : Nat) : State := s.at t

def inMode (m : NodeMode) : State := { awake with pwr := { awake.pwr with mode := m } }

theorem witness_SupplyCompletes :
    ((State.reset.at 0).pwr.mode = .off) ∧ ((inMode .backup).at 0).pwr.mode = .backup ∧ ((inMode .held).at 0).pwr.mode = .held ∧
    ((inMode .tmode).at 0).pwr.mode = .tmode ∧
    (awake.at 0).ready = true ∧ ((inMode .locked).at 0).pwr.mode = .locked ∧ (awake.at 0).pwr.mode = .active ∧ (awake.at 0).corOn = true ∧
    (let s : State := { inMode .locked with pwr := { (inMode .locked).pwr with lockAt := 1 } }
     (s.at 0).pwr.mode = .locked ∧ (s.at 0).now < (s.at 0).pwr.lockAt ∧ (s.at 1).pwr.lockAt ≤ (s.at 1).now) ∧
    (awake.at 0).pwr.avddOk = true ∧ (({ awake with pwr := { awake.pwr with avddOk := false } } : State).at 0).pwr.avddOk = false := by decide +kernel

def heldRead (a : Nat) : ReadBuf := { addr := a, base := 0, len := 4, ahead := 0, result := none }

def holding (a : Nat) : State := { awake with host := { awake.host with rbuf := some (heldRead a) } }

theorem witness_ReadsAndWritesComplete :
    ((awake.at 0).frameOpen .host = true ∧ inHbuf 0x0081FC = true ∧ (awake.at 0).portDriven = true ∧
      (decodedOpcodes .host).contains 0xFF = false) ∧
    (at_ [(P.DBG, R.DBG_STAT_tden, 1)]).frameOpen .trapdoor = true ∧
    (((holding 0xFFFFFF).at 0).host.rbuf = some (heldRead 0xFFFFFF) ∧ ((holding 0xFFFFFF).at 0).ready = true ∧
      ((holding 0xFFFFFF).at 0).goRead .host 0xFFFFFF = false) ∧
    (((holding tlyGoAddr).at 0).host.rbuf = some (heldRead tlyGoAddr) ∧ ((holding tlyGoAddr).at 0).goRead .host tlyGoAddr = true) := by decide +kernel

theorem witness_TalliesComplete :
    (let x := tally_ 0xFFFF 0x70 [] false
     let u := (withTally x).at 0
     u.tally? 0xFFFF = some x ∧ x.running = false ∧ x.outcome = none ∧ u.tallyPowered 0x70 = true ∧ u.tallyNext x = true ∧ u.marginFree = true) ∧
    ((withTally (tally_ 1 0x00 [] true)).at 0).plainTally 1 0x00 = true ∧ ((withTally (tally_ 1 0xFF [] true)).at 0).plainTally 1 0xFF = true ∧
    (let x := tally_ 1 0x00 [] true
     let u := (withTally x).at (secs 3600 + 1)
     u.tally? 1 = some x ∧ x.running = true ∧ x.outcome = none ∧ x.op = 0 ∧ u.ready = true ∧ u.pstate ≤ 1 ∧ u.tallyLate x = true) ∧
    (let x := tally_ 1 0x40 [] false
     let u := (withTally x).at (secs 3600 + 1)
     u.tally? 1 = some x ∧ u.ready = true ∧ u.pstate ≤ 1 ∧ x.outcome = none ∧ x.deadline = some (secs 3600) ∧ secs 3600 < u.now) := by decide +kernel

/-- A running tally is found as such. -/
def runs (op : Nat) (args : List Word) : Bool := decide (((withTally (tally_ 1 op args true)).at 0).runningTally 1 op = some (tally_ 1 op args true))

theorem witness_StoreOperationsComplete :
    runs 1 [] ∧ runs 2 [] ∧ runs 3 [] ∧ runs 4 [] ∧ (awake.at 0).domainOn 7 = true ∧ runs 0x10 [0#32, 0x7FFFF#32, 7#32, 0#32] ∧ runs 0x11 [] ∧
    ((at_ [(P.SPX 0, R.SPX_PL_CFG_en, 1)]).linesIn 0 0 0x7FFFF).2 ≠ 0 ∧ ((at_ []).linesIn 0 0 0x7FFFF).2 = 0 ∧
    (let x : Tally := { tally_ 1 0x11 [0#32, 0x1FFFFFF#32, 0#32, 0#32] true with aux := 1 }
     ((withTally x).at 0).runningTally 1 0x11 = some x ∧ decide (x.aux = 1) = true) ∧
    (let u := (withTally (tally_ 1 0x11 [0#32, 0x1FFFFFF#32, 0#32, 0#32] true)).at 0
     (List.range 64).any (fun i => u.anyPoison (spectralRec (u.linesIn i 0 0x1FFFFFF).1) (16 * (u.linesIn i 0 0x1FFFFFF).2)) = false ∧
       u.stalled = false) ∧
    runs 0x30 [] ∧ (awake.at 0).maintains .host = true := by decide +kernel

theorem witness_ImagesComplete :
    (let x := tally_ 1 0x20 [0x50000000#32, 64#32, 1#32] true
     ((withTally x).at 0).imageTally 1 1 = some x) ∧
    (let x := tally_ 1 0x20 [0x50000000#32, 64#32, 2#32] true
     ((withTally x).at 0).imageTally 1 2 = some x) ∧
    (let x := tally_ 1 0x20 [0x50000000#32, 64#32, 4#32] true
     ((withTally x).at 0).imageTally 1 4 = some x) := by decide +kernel

/-- The base point of P-256 stands in the integrator area. -/
def withPoint (x : Tally) : State := (withTally x).wrBytes 0x50000000 (beBytes 32 ecG.1 ++ beBytes 32 ecG.2)

theorem witness_KeyOperationsComplete :
    (let x := tally_ 1 0x60 [1#32, 3#32, 0x50000000#32] true
     let u := (withPoint x).at 0
     u.keyTally 1 1 = some x ∧ u.maintains x.port = true ∧ x.arg 1 = 3 ∧
       u.keyOperand (x.arg 2) 64 = some (beBytes 32 ecG.1 ++ beBytes 32 ecG.2) ∧ u.anyPoison (x.arg 2) 64 = false) ∧
    onCurve (beNat ((beBytes 32 ecG.1 ++ beBytes 32 ecG.2).take 32)) (beNat ((beBytes 32 ecG.1 ++ beBytes 32 ecG.2).drop 32)) = true ∧
    (let x := tally_ 1 0x60 [2#32, 1#32, 0#32] true
     let u := (withTally x).at 0
     u.keyTally 1 2 = some x ∧ x.arg 1 = 1 ∧ ¬(u.life = 2 ∧ u.filledSlots = [x.arg 1])) ∧
    (let x := tally_ 1 0x60 [3#32, 0x7FFFFFE0#32, 0#32] true
     let u := (withTally x).at 0
     u.keyTally 1 3 = some x ∧ u.life < 2 ∧ (u.keyOperand (x.arg 1) 32).isSome = true ∧ u.anyPoison (x.arg 1) 32 = false ∧
       (u.eccFinds { corrected := [], lost := [0x7FFFFFF8] }).anyPoison (x.arg 1) 32 = true) ∧
    (let x := tally_ 1 0x60 [4#32, 3#32, 0x4C494645#32] true
     let u := (withTally x).at 0
     u.keyTally 1 4 = some x ∧ u.life ≠ 3 ∧ u.maintains x.port = true) ∧
    (let x := tally_ 1 0x60 [4#32, 1#32, 0x4C494645#32] true
     let u := ({ withTally x with sec := { awake.sec with keys := [(1, [])] } } : State).at 0
     u.keyTally 1 4 = some x ∧ x.arg 1 = u.life + 1 ∧ u.filledSlots ≠ []) ∧
    (let x := tally_ 1 0x60 [4#32, 2#32, 0x4C494645#32] true
     let u := (given (withTally x) [(P.SYS, R.SYS_STATE_life, 1)]).at 0
     u.keyTally 1 4 = some x ∧ x.arg 1 = u.life + 1 ∧ u.standingMode = false) := by decide +kernel

def task_ (n : Nat) : ProgTask :=
  { kind := if n < 8 then 1 else 2
    prio := n
    period := 10
    phase := 0
    code := 0
    codeLen := 0
    diMask := 0
    diEdge := 0
    canObj := 0
    canEn := false }

def program_ : Program :=
  { imageId := 1
    tasks := (List.range 16).map task_
    tables := { bindings := [], symbols := [], insts := [], params := [], instIdx := [] }
    instBytes := 0
    costs := []
    resp := []
    util := 0 }

/-- Both code banks hold a program, and every task is enabled. -/
def engine (l : List (Nat × Field × Nat)) : State :=
  given { awake with fbe := { awake.fbe with banks := [some program_, some program_] } }
    ([(P.FBE, R.FBE_CTRL_en, 1), (P.FBE, R.FBE_STAT_run, 1), (P.FBE, R.FBE_TK_EN_en, 0xFFFF)] ++ l)

theorem witness_ServiceOperationsComplete :
    runs 0x40 [0xFF#32] ∧ runs 0x50 [0x7F#32] ∧
    (let x := tally_ 1 0x21 [1#32] true
     let u := ({ engine [(P.FBE, R.FBE_STAT_sb_valid, 1)] with tly := { out := [x], cq := [] } } : State).at 0
     u.runningTally 1 0x21 = some x ∧ u.life ≠ 3 ∧ u.fv P.FBE R.FBE_STAT_olc = 0 ∧ x.arg 0 = u.standby ∧ u.fb P.FBE R.FBE_STAT_sb_valid = true ∧
       (u.fbe.banks.getD u.standby none).isSome = true) ∧
    runs 0x70 [1#32] ∧ (awake.at 0).age.plan = none := by decide +kernel

/-- Every converter enabled, and converter `k` at the end of a slot of a kind. -/
def slotOf (k kind ch : Nat) (second : Bool) : State :=
  let s := given awake [(P.SAC, R.SAC_CTRL_cv_en, 0xFF)]
  (s.setCv k { s.cv k with slot := some { kind := kind, ch := ch, second := second, rev := false, start := 0 } }).at (secs 3600)

theorem witness_StaticSlotsComplete :
    (let u := at_ [(P.SAC, R.SAC_CTRL_cv_en, 0x80)]
     u.domainOn 3 = true ∧ bitAt (u.fv P.SAC R.SAC_CTRL_cv_en) 7 = true ∧ (u.cv 7).slot = none ∧ (u.cv 7).cal = none ∧ u.linkOn 7 7 = false) ∧
    ((slotOf 7 4 3 false).inSlot 7 4 31).map (fun x => x.second) = some false ∧
    ((slotOf 7 4 3 true).inSlot 7 4 31).map (fun x => x.second) = some true ∧
    ((slotOf 7 5 3 false).inSlot 7 5 31).isSome = true ∧ ((slotOf 7 6 3 false).inSlot 7 6 31).isSome = true ∧
    ((slotOf 7 7 0 false).inSlot 7 7 0).isSome = true ∧ ((slotOf 4 7 0 false).inSlot 4 7 0).isSome = true ∧
    (let s := at_ [(P.SAC, R.SAC_CTRL_cv_en, 0xFF), (P.SC 31, R.SC_MODE_mode, 1), (P.SC 31, R.SC_STAT_settling, 1), (P.SC 31, R.SC_LIVE_live, 0)]
     let s := s.setSc 31 { s.sc 31 with staleFrom := some 0, held := false, off := false }
     let u := later s (secs 86400)
     u.domainOn 3 = true ∧ u.scActive 31 = true ∧ u.scOwnQuality 31 = 1 ∧ (u.sc 31).staleFrom = some 0 ∧ 0 + u.scTol 31 ≤ u.now) := by
  decide +kernel

def calRun_ (first : Option CalFigures) : CalRun := { kind := 0, trigger := 0, start := 0, hz := 80, dis := 0, first := first, tally := none }

def calFigures_ : CalFigures := { offset := Q.zero, gains := [], vref := Q.zero, r2 := Q.zero, r20 := Q.zero, temp := Q.zero }

theorem witness_CalibrationCompletes :
    (let u := at_ [(P.SAC, R.SAC_CTRL_cv_en, 0x80), (P.CV 7, R.CV_CAL_STAT_state, 1)]
     u.domainOn 3 = true ∧ bitAt (u.fv P.SAC R.SAC_CTRL_cv_en) 7 = true ∧ (List.range 8).any (fun j => (u.cv j).cal.isSome) = false ∧
       u.linkOn 7 7 = false ∧ u.slotBoundary 7 = true ∧
       (List.range 8).find? (fun j => decide (u.fv (P.CV j) R.CV_CAL_STAT_state = 1) &&
         (bitAt (u.fv P.SAC R.SAC_CTRL_cv_en) j && !u.linkOn 7 j)) = some 7) ∧
    [none, some calFigures_].all (fun first =>
     let s := given awake [(P.SAC, R.SAC_CTRL_cv_en, 0x80)]
     let s := s.setCv 7 { s.cv 7 with cal := some (calRun_ first) }
     -- At 20/f_cv, and at 27/f_cv, after the limit of 26/f_cv.
     [20, 27].all (fun n =>
       let u := s.at (n * 16777216 / 80)
       decide ((u.cv 7).cal = some (calRun_ first) ∧ u.domainOn 3 = true ∧ (calSlots 0).length ≤ (calRun_ first).elapsed u.now) &&
         (decide (0 + 26 * 16777216 / 80 ≤ u.now) == decide (n = 27)))) = true ∧
    (let s := at_ [(P.SAC, R.SAC_CTRL_cv_en, 0x80)]
     let u := later (s.setCv 7 { s.cv 7 with dueAt := some 0 }) (secs 3600000)
     (u.cv 7).dueAt = some 0 ∧ u.domainOn 3 = true ∧ 0 + secs 3600 * u.fv (P.CV 7) R.CV_CAL_STAT_eff_h < u.now) := by decide +kernel

/-- Dynamic channel 15 in a mode. -/
def dynOf (mode : Nat) (c : DynCh) : State := (at_ [(P.DYN 15, R.DYN_MODE_mode, mode), (P.DYN 15, R.DYN_LIVE_live, 0)]).setDch 15 c

theorem witness_DynamicChannelsComplete :
    ((dynOf 1 DynCh.reset).domainOn 4 = true ∧ (dynOf 1 DynCh.reset).dynMode 15 = 1) ∧ (dynOf 3 DynCh.reset).dynMode 15 ≠ 0 ∧
    (let u := dynOf 2 { DynCh.reset with ovl := { Ovl.reset with since := 65535 } }
     u.domainOn 4 = true ∧ u.dynLevels 15 = true ∧ u.fv (P.DYN 15) R.DYN_OVL_t_upd ≤ (u.dch 15).ovl.since) ∧
    (let u := later (dynOf 2 { DynCh.reset with settlingFrom := some 0 }) (secs 86400)
     (u.dch 15).settlingFrom = some 0 ∧ u.domainOn 4 = true ∧ u.dynQuality 15 = 1 ∧ 0 + msecs (u.fv (P.DYN 15) R.DYN_OVL_STALE_tol) ≤ u.now) ∧
    (let u := dynOf 1 { DynCh.reset with settleEnd := some 0 }
     (u.dch 15).settleEnd = some 0 ∧ u.domainOn 4 = true ∧ 0 ≤ u.now) ∧
    (let u := later (dynOf 3 { DynCh.reset with found := [16, 32] }) 2
     (u.dch 15).found = 16 :: [32] ∧ u.domainOn 4 = true ∧ u.dynMode 15 = 3) ∧
    (let u := later (given (dynOf 3 { DynCh.reset with edge := some 0, interval := some 1 }) [(P.DYN 15, R.DYN_STAT_tstate, 2)]) 1
     u.domainOn 4 = true ∧ u.dynMode 15 = 3 ∧ u.deadlinePassed 15 (Nat.min (u.now * 16) ((u.dch 15).found.headD (u.now * 16))) = true) := by
  decide +kernel

def build_ : SpxBuild :=
  { stamp := 0
    begun := 0
    cfg := 0
    first := 0
    last := 0
    size := 0
    df := Q.one
    f0 := Q.zero
    hot := false
    rpm := Q.zero
    gain := Q.one
    integ := false
    restarts := 0
    run := 0
    tch := 14
    lefts := 0
    input := .direct [] }

/-- The planes of channel 15 enabled, with this channel; channel 14 is a locked tacho. -/
def spxOf (c : DynCh) : State :=
  (at_ [(P.SPXC, R.SPX_CTRL_en, 1), (P.DYN 15, R.DYN_MODE_mode, 1), (P.DYN 14, R.DYN_MODE_mode, 3), (P.DYN 14, R.DYN_STAT_tstate, 2),
    (P.SPX 62, R.SPX_PL_CFG_en, 1), (P.SPX 63, R.SPX_PL_CFG_en, 1)]).setDch 15 c

theorem witness_PlanesAndStoreComplete :
    (spxOf { DynCh.reset with disc := false, count := 2 ^ 20 }).recordEnds 15 = true ∧
    (let u := spxOf { DynCh.reset with disc := false, count := 2 ^ 20 }
     (u.setPlane 63 { u.plane 63 with streamed := 2 ^ 18 }).zoomEnds 63 = true) ∧
    (let u := spxOf DynCh.reset
     (([62, 63] : List Nat).all (fun i =>
       let w := u.setPlane i { u.plane i with work := some build_ }
       decide ((w.plane i).work = some build_ ∧ w.mayCommit i build_ = true))) = true ∧
     (let w := (u.setFv (P.DYN 14) R.DYN_STAT_tstate 3).setPlane 62 { u.plane 62 with work := some build_ }
      (w.plane 62).work = some build_ ∧ w.mayCommit 62 build_ = false)) ∧
    (at_ []).domainOn 7 = true ∧ (at_ [(P.STO, R.STO_SCRUB_en, 1)]).fb P.STO R.STO_SCRUB_en = true ∧
    (let u := ({ awake with sto := { awake.sto with dueRows := [(3, 9), (15, 7)] } } : State).at 0
     u.sto.dueRows.find? (fun r => decide (r.1 = 15)) = some (15, 7)) ∧
    (let u := later { awake with sto := { awake.sto with slackOk := some 0 } } (secs 3600)
     u.sto.slackOk.any (fun x => decide (x + secs 3600 ≤ u.now)) = true) := by decide +kernel

def change_ : Change :=
  { point := 0x1000000
    entry := 0xFFFF
    lvl0 := 0
    lvl1 := 1
    bad0 := false
    bad1 := false
    state0 := 0
    state1 := 1
    quality := 0
    forced := false
    simulated := false
    poison := false
    stamp := 0
    runStart := 0
    moved := false }

theorem witness_EvaluationCompletes :
    (at_ []).domainOn 6 = true ∧ (at_ []).ptePaused = false ∧ (at_ [(P.PTE, R.PTE_CTRL_sp_en, 1)]).sweepMay = true ∧
    (let u := at_ [(P.PTE, R.PTE_CTRL_sp_en, 1), (P.PTE, R.PTE_STAT_sweeping, 1)]
     u.domainOn 6 = true ∧ u.ptePaused = false ∧ u.fb P.PTE R.PTE_STAT_sweeping = true ∧ u.changesFull = false ∧ u.pte.atPlane = none ∧
       specEnd ≤ u.nextPlane (planeNo u.pte.nextPoint)) ∧
    (at_ []).alhRuns = true ∧ (at_ [(P.ALH, R.ALH_CTRL_en, 1)]).fb P.ALH R.ALH_CTRL_en = true ∧
    ((earliestChange [{ change_ with stamp := 9 }, change_]).map (fun x => x.1)) = some change_ := by decide +kernel

def answer_ (kind : Nat) : List Byte := [1#8, byte kind, 0#8, 0#8, 7#8]

theorem witness_AlarmsComplete :
    (let s : State := { awake with alh := { awake.alh with
        entries := [(16383, { Entry.reset with modeDrop := some 0, pendUntil := some 0 })],
        slots := [(1023, { entry := 16383, source := 0, node := 0, expiry := 0 })] } }
     let u := s.at 1
     u.alhRuns = true ∧ (u.entry 16383).modeDrop = some 0 ∧ (SMap.get? u.alh.slots 1023).any (fun x => decide (x.expiry ≤ u.now)) = true ∧
       0 ≤ u.now ∧ (u.entry 16383).pendUntil = some 0 ∧ 0 < u.now) ∧
    (let u := later (given awake [(P.ALHLD 7, R.ALH_LD_STAT_active, 1)]) 1
     u.alhRuns = true ∧ u.callActive 7 = true ∧ u.rungDue 7 = true ∧
       u.repeatDue (SMap.get (fun _ => Call.none_) u.alh.calls 7).sent = true) ∧
    (let u := ({ given awake [(P.ALHLD 7, R.ALH_LD_STAT_active, 1)] with
        alh := { awake.alh with calls := [(7, { Call.none_ with sent := some 0 })] } } : State).at (secs 86400)
     u.callActive 7 = true ∧ u.repeatDue (SMap.get (fun _ => Call.none_) u.alh.calls 7).sent = true) ∧
    ((at_ [(P.ALH, R.ALH_CAN_en, 1)]).fb P.ALH R.ALH_CAN_en = true ∧
      (at_ [(P.ALH, R.ALH_CAN_en, 1)]).repeatDue (at_ [(P.ALH, R.ALH_CAN_en, 1)]).alh.statusAt = true) ∧
    (let s : State := { awake with alh := { awake.alh with answers := [(0, answer_ 6)] } }
     (s.at 0).alh.answers = [(0, answer_ 6)] ∧ (s.at 0).pte.changes = []) ∧
    (let s : State := { awake with alh := { awake.alh with answers := [(0, answer_ 6), (1, answer_ 1)] } }
     (s.at 1).alh.answers = (0, answer_ 6) :: [(1, answer_ 1)]) ∧
    [1, 2, 3, 4, 5, 6].all (fun k => decide (answerKind (answer_ k) = k)) = true ∧
    -- A change of an entry's overlays that has to wait, and one that has not.
    (let u := stuck.at 0
     let x := u.alhOverlay 0 { u.entry 0 with shelved := false } u.now 5 0 0
     u.alhRuns = true ∧ u.touchesStalled x = true ∧ u.touchesStalled u = false ∧ u.overfills u = false) := by decide +kernel

def cycle_ : Cycle := { stamp := 0, inst := [], out := [], cmds := [], arith := 0, seen := [] }

def trigger_ : Trigger := { stamp := 0, source := 0, arg := 0, list := none, context := [] }

def marker_ : Marker := { kind := 3, count := 1, tFirst := 0, tLast := 0, srcMask := 1, entry := 0xFFFF, qfull := 0, closed := none }

theorem witness_EngineAndRecorderComplete :
    (let u := (engine []).at 0
     u.ready = true ∧ u.pstate < 2 ∧ u.releasesEnd = false ∧ u.taskOn 7 = true ∧ (u.taskEntry 7).kind = 1 ∧ u.releaseStamp 7 = some 0 ∧
       (u.task 7).rel.any (fun q => decide (0 ≤ q)) = false) ∧
    (let s := engine []
     let u := (s.setTask 15 { s.task 15 with queue := [0] }).at 0
     u.fbeHalted = false ∧ u.taskOn 15 = true ∧ (u.task 15).cycle = none ∧ (u.task 15).released = none ∧ (u.task 15).queue = [0] ∧
       (u.task 15).last.any (fun q => decide (u.now < q + msecs (u.taskEntry 15).period)) = false) ∧
    (let s := engine []
     let u := (s.setTask 7 { s.task 7 with released := some 0 }).at 0
     u.domainOn 8 = true ∧ u.fv P.FBE R.FBE_STAT_olc < 2 ∧ u.program = some program_ ∧ u.waitingTask = some (7, 0, 7) ∧
       u.runningTask.any (fun q => decide (7 ≤ q.1)) = false) ∧
    (let s := engine []
     let u := (s.setTask 15 { s.task 15 with cycle := some cycle_ }).at 0
     u.domainOn 8 = true ∧ u.program = some program_ ∧ u.runningTask = some (15, 0, 15) ∧ (u.task 15).cycle = some cycle_) ∧
    (let v := ((engine [(P.FBE, R.FBE_STAT_olc, 1)]).at 0).olcLate
     v.domainOn 8 = true ∧ v.fbe.banks.getD v.standby none = some program_ ∧ v.fv P.FBE R.FBE_STAT_olc = 1) ∧
    (let v := ((engine [(P.FBE, R.FBE_STAT_olc, 2)]).at 0).olcLate
     v.domainOn 8 = true ∧ v.fbe.banks.getD v.standby none = some program_ ∧ v.fv P.FBE R.FBE_STAT_olc = 2 ∧ v.runningTask = none) ∧
    (let u := ({ awake with evr := { awake.evr with queue := [trigger_] } } : State).at 0
     u.ready = true ∧ u.life ≠ 3 ∧ u.captureWaits = false ∧ u.evr.queue = [trigger_]) ∧
    (let u := ({ awake with evr := { awake.evr with larder := [{ body := [], seq := 1 }] } } : State).at 0
     u.evr.paused = false ∧ u.evr.loss = none ∧ u.evr.larder ≠ []) ∧
    (let u := (given { awake with evr := { awake.evr with marker := some marker_ } } [(P.EVR, R.EVR_WIDX_widx, 4194303)]).at 0
     u.evr.larder = [] ∧ u.markerWaits = false ∧ u.fullMarkerOpen = true ∧ u.regionClosed = true) ∧
    (let u := (given { awake with evr := { awake.evr with loss := some (1, 0, 0) } } [(P.EVR, R.EVR_WIDX_widx, 4194303)]).at 0
     u.evr.paused = false ∧ u.evr.loss = some (1, 0, 0) ∧ u.fv P.EVR R.EVR_WIDX_widx < 4194304) := by decide +kernel

theorem witness_ClockCompletes :
    (let w : TimeWrite := { kind := 1, value := 0, stamp := 0, clamped := false }
     let u := (given { awake with tbs := { awake.tbs with writes := [w] } } [(P.TBS, R.TBS_PER_en, 1)]).at (secs 4000)
     u.corOn = true ∧ u.recordDue = true ∧ u.tbs.writes.filter (fun w => decide (1 ≤ u.pulsesFrom w.stamp)) = [w] ∧ u.cellarOn = true ∧
       u.tbs.tcompAt.any (fun x => decide (u.now < x + secs 64)) = false) ∧
    (let u := (given { awake with tbs := { awake.tbs with cal := 32768 * 86400 } } [(P.TBS, R.TBS_PER_en, 1)]).at 0
     u.fb P.TBS R.TBS_PER_en = true ∧ u.calCounts = true ∧ u.perNext ≤ u.tbs.cal ∧ u.tbs.wdayAt < u.localDay) ∧
    (let u := ({ awake with tbs := { awake.tbs with cal := calTop } } : State).at 0
     u.cellarOn = true ∧ calTop ≤ u.tbs.cal) := by decide +kernel

theorem witness_AtticACompletes :
    (let u := ({ awake with dio := { awake.dio with vfield := 12000 } } : State).at (msecs 1)
     u.corOn = true ∧ u.dio.downSlot ≠ some (frameSlot u.now) ∧ 12000 ≤ u.dio.vfield ∧ u.dio.upSlot ≠ some (frameSlot u.now) ∧
       (u.upFrameSent 15 0).1.corOn = true ∧ (u.upFrameSent 15 0).1.linkTest 1 = false ∧
       frameGood u.dio.upSeq true 15 = true ∧ frameGood u.dio.upSeq false 15 = false) ∧
    (let u := ({ State.reset with dio := { awake.dio with vfield := 12000 } } : State).at 0
     12000 ≤ u.dio.vfield ∧ u.dio.upSlot ≠ some (frameSlot u.now) ∧ (u.upFrameSent 15 0).1.corOn = false) ∧
    (let u := later (given awake [(P.DIO, R.DIO_STAT_link, 1)]) (msecs 1)
     u.corOn = true ∧ u.fv P.DIO R.DIO_STAT_link = 1 ∧ u.dio.lastUp + msecs 1 ≤ u.now ∧ u.dio.lastDown + msecs 1 ≤ Nat.max (msecs 1) u.now) ∧
    (let u := (({ awake with dio := { awake.dio with rise18 := some 0 } } : State).at (secs 1)).setField 18000
     u.dio.rise18 = some 0 ∧ 0 + msecs 50 ≤ u.now) ∧
    (let u := ({ awake with dio := { awake.dio with armed := true, cmd := 0x80, trips := 0, onFrom := [(7, 0)], lowFrom := [(15, 0)] } } : State).at (secs 1)
     u.doBall 7 = true ∧ SMap.get? u.dio.onFrom 7 = some 0 ∧ 0 + msecs 2 ≤ u.now ∧ SMap.get? u.dio.lowFrom 15 = some 0 ∧ 0 + msecs 10 ≤ u.now) ∧
    (at_ [(P.DIO, R.DIO_DIN_wb_en.nth 15, 1)]).fb P.DIO (R.DIO_DIN_wb_en.nth 15) = true ∧
    (let u := ({ awake with dio := { awake.dio with judged := 0x8000, debounced := 0, since := [] } } : State).at (secs 1)
     bitAt u.dio.judged 15 ≠ bitAt u.dio.debounced 15 ∧ SMap.get (fun _ => 0) u.dio.since 15 + u.debounce 15 ≤ u.now) := by decide +kernel

theorem witness_AtticBCompletes :
    (let u := ({ awake with lpo := { awake.lpo with vloop := 24000 } } : State).at (msecs 1)
     u.corOn = true ∧ u.lpo.downSlot ≠ some u.frameSlotB ∧ u.linkTest 2 = false ∧ frameGood u.lpo.upSeq true 15 = true ∧ frameGood u.lpo.upSeq false 15 = false) ∧
    (let u := later (given awake [(P.LPO, R.LPO_STAT_link, 1)]) (msecs 1)
     u.corOn = true ∧ u.fv P.LPO R.LPO_STAT_link = 1 ∧ u.lpo.lastUp + msecs 1 ≤ u.now ∧ u.lpo.lastDown + msecs 1 ≤ Nat.max (msecs 1) u.now) ∧
    (let u := (awake.setLoop 3 { awake.loop 3 with holds := some 0, absent := some 0 }).at (msecs 20)
     (u.loop 3).holds = some 0 ∧ 0 + msecs 20 ≤ u.now ∧ u.fb (P.LPOCH 3) R.LPO_CH_STAT_compliance = false ∧ (u.loop 3).absent = some 0) ∧
    (let u := at_ [(P.LPOCH 3, R.LPO_FSK_STAT_tx_busy, 1)]
     u.fb (P.LPOCH 3) R.LPO_FSK_STAT_tx_busy = true ∧ (u.loop 3).sending = [] ∧ u.carrierGone 3 = true ∧
       (let w := later (u.setLoop 3 { u.loop 3 with sending := [0xFF#8] }) (msecs 10)
        (w.loop 3).sending ≠ [] ∧ 11 * (w.loop 3).sending.length * secs 1 ≤ (w.now - (w.loop 3).txFrom) * 1200)) ∧
    (let chars : List (Byte × Bool) := List.replicate 20 (0xFF#8, true) ++ [(2#8, true), (0x80#8, true), (0#8, true), (0#8, true), (0x82#8, true)]
     let u := at_ [(P.LPOCH 3, R.LPO_CH_CFG_fsk, 1), (P.LPO, R.LPO_STAT_link, 1)]
     (u.loop 3).sending = [] ∧ fskFrom (u.fv (P.LPOCH 3) R.LPO_FSK_CFG_rx_pre) 0 chars ≠ [] ∧ u.fb (P.LPOCH 3) R.LPO_CH_CFG_fsk = true ∧ u.fv P.LPO R.LPO_STAT_link = 1 ∧
       u.fb (P.LPOCH 3) R.LPO_FSK_STAT_rx_full = false ∧
       (u.setFv (P.LPOCH 3) R.LPO_FSK_STAT_rx_full 1).fb (P.LPOCH 3) R.LPO_FSK_STAT_rx_full = true) := by decide +kernel

/-- Port B in NORMAL mode, error active. -/
def canUp (l : List (Nat × Field × Nat)) : State :=
  given { awake with can := { awake.can with b := { awake.can.b with cfg := [1#32, 0#32, 0#32, 0#32] } } }
    ([(P.CAN 1, R.CAN_CFG_mode, 1), (P.CAN 1, R.CAN_STAT_state, 2)] ++ l)

theorem witness_CanCompletes :
    (let u := ((canUp []).setObj 1 127 R.CAN_OBJ_STAT_tstate 1).at 0
     u.canOn 1 = true ∧ u.canMode 1 = 1 ∧ (u.port 1).sending = none ∧ u.canWantsSleep 1 = false ∧ u.canNext 1 = some 127) ∧
    (let s := canUp []
     ((s.setPort 1 { s.port 1 with sending := some 127 }).at 0).port 1 = { s.port 1 with sending := some 127 }) ∧
    (((canUp []).at 0).canErrs 1 = true ∧ ((canUp []).at 0).safOn = true) ∧
    (let u := (canUp [(P.CAN 1, R.CAN_STAT_state, 5)]).at 0
     u.canState 1 = 5 ∧ u.canMode 1 ≠ 0 ∧ u.domainOn 9 = true ∧ u.canWantsSleep 1 = false) ∧
    (let u := (canUp [(P.CAN 1, R.CAN_STAT_state, 1)]).at 0
     u.canState 1 = 1 ∧ u.canMode 1 ≠ 0) ∧
    (let s := canUp []
     let u := (s.setPort 1 { s.port 1 with replies := [(127, 0, false)] }).at 1
     SMap.get? (u.port 1).replies 127 = some (0, false) ∧ 0 < u.now ∧ u.ready = true ∧ (u.port 1).sending = none ∧ u.timingWaits 1 = true) ∧
    (let u := at_ [(P.CAN 0, R.CAN_STAT_state, 6), (P.CAN 0, R.CAN_WK_wmode, 1)]
     u.wakeArmed = true ∧ u.fv (P.CAN 0) R.CAN_WK_wmode = 1 ∧ nclip 500 1800 500 ≤ 500 ∧ 1500 ≤ nclip 500000 5000000 500000) ∧
    (let u := at_ [(P.CAN 0, R.CAN_STAT_state, 6), (P.CAN 0, R.CAN_WK_wmode, 2), (P.CAN 0, R.CAN_WK_rate, 3), (P.CAN 0, R.CAN_WK_ID_id, 0x7FF),
       (P.CAN 0, R.CAN_WK_DLC_dlc, 0)]
     u.wakeArmed = true ∧ u.fv (P.CAN 0) R.CAN_WK_wmode = 2 ∧ u.wakeMatches 3 { canFrame with dlc := 0, data := [] } = true) := by decide +kernel

def panel (l : List (Nat × Field × Nat)) : State := given { awake with pnl := { awake.pnl with pven := true, want := true, verified := true } } l

theorem witness_PanelAndMotionComplete :
    (let u := (panel [(P.PNL, R.PNL_BAND_blink, 1)]).at (secs 60)
     u.pnlOn = true ∧ u.pnlPowered = true ∧ u.pnl.pass = none ∧ u.pnlIdle = true ∧ u.pnl.bandWant = false ∧ u.pnl.want = true ∧
       u.pnl.verified = true ∧ u.pstate ≤ 1 ∧ u.fb P.PNL R.PNL_BAND_blink = true ∧ u.pnl.blinkAt + msecs 500 ≤ u.now ∧
       u.pnl.checkAt + secs 10 ≤ u.now ∧ u.bandKey ≠ u.pnl.bandKey ∧ u.corOn = true ∧ u.comDue ≤ u.now) ∧
    (let s := panel []
     let u := ({ s with pnl := { s.pnl with bandWant := true } } : State).at (secs 60)
     u.pnlIdle = true ∧ u.pnl.bandWant = true) ∧
    (let s := panel []
     let u := ({ s with pnl := { s.pnl with pass := some { kind := 1, gen := 1, lines := [0], next := 0 } } } : State).at (secs 60)
     u.pnlOn = true ∧ u.lineDue = true) ∧
    (let u := (panel [(P.PNL, R.PNL_STAT_rewrite, 1)]).at (secs 60)
     u.pnlOn = true ∧ u.pnlPowered = true ∧ u.fb P.PNL R.PNL_STAT_rewrite = true ∧ u.pnl.pass = none ∧ u.pnl.clearing = false) ∧
    (let u := ({ given awake [(P.RMP, R.RMP_CFG_own, 2)] with rmp := { awake.rmp with vel := Q.one } } : State).at (secs 1)
     u.ready = true ∧ u.rmp.advAt < u.now / 256 ∧ u.fv P.RMP R.RMP_CFG_own = 2 ∧ u.rmpMoving = true ∧ u.rmp.commitAt + msecs 10 ≤ u.now) := by
  decide +kernel

def plan_ : AgePlan :=
  { src := 0
    tally := 0
    apply := true
    dom := some 11
    before := Q.zero
    stepAt := 0
    done := []
    ofs := []
    classes := []
    changed := 0 }

theorem witness_SupervisorAndAgeingComplete :
    (let u := (given awake [(P.SAC, R.SAC_CTRL_cv_en, 0xFF), (P.SAF, R.SAF_FBE_tasks, 0xFF), (P.SAF, R.SAF_LPO_MON_mask, 0xF)]).at 0
     u.ready = true ∧ [0, 1, 2, 3, 4, 5, 6, 7, 8, 9, 10, 11, 12, 13].all (fun c => u.diagRuns c) = true ∧ u.diagJudges 13 0 = true ∧
       u.diagFound 13 0 = true ∧ u.diagPasses 13 = true ∧ u.fb P.SAF R.SAF_STAT_demand = false) ∧
    (let s := given awake [(P.SAC, R.SAC_CTRL_cv_en, 0xFF), (P.SAF, R.SAF_FBE_tasks, 0xFF), (P.SAF, R.SAF_LPO_MON_mask, 0xF),
       (P.DIO, R.DIO_STAT_link, 1), (P.LPO, R.LPO_STAT_link, 1)]
     let s := s.setLoop 3 { s.loop 3 with wrong := some 0 }
     let u := ({ s with saf := { s.saf with checkFails := s.saf.checkFails.set 7 2 } } : State).at (secs 1)
     u.diagJudges 4 7 = true ∧ u.diagFound 4 7 = true ∧ u.diagJudges 9 0 = true ∧ u.diagFound 9 0 = true ∧ u.diagJudges 10 0 = true ∧
       u.diagFound 10 0 = true ∧ u.diagJudges 11 3 = true ∧ u.diagFound 11 3 = true) ∧
    (let u := ({ awake with dio := { awake.dio with lastUp := secs 100 } } : State).at (secs 100)
     u.diagRuns 9 = true ∧ u.diagPasses 9 = true ∧ u.saf.failAt.getD 9 0 + u.detectTime 9 ≤ u.now) ∧
    (let s := at_ [(P.SAC, R.SAC_CTRL_cv_en, 0xFF)]
     let u : State := { s with saf := { s.saf with conv4 := 0x80, checkPasses := s.saf.checkPasses.set 7 4 } }
     bitAt u.saf.conv4 7 = true ∧ 4 ≤ u.saf.checkPasses.getD 7 0) ∧
    (let u := at_ [(P.SAF, R.SAF_CFG_dem_min, 100)]
     u.demJudged = true ∧ u.demLasts 10000 = true ∧ u.demLasts 9999 = false) ∧
    (let s := given awake [(P.SAF, R.SAF_CFG_auto_st, 1), (P.AGE, R.AGE_CFG_auto, 1)]
     let u := ({ s with age := { s.age with opAcc := secs 3600 * 720, runAcc := secs 3600 * 100000 } } : State).at 0
     720 ≤ u.stHours ∧ u.fb P.SAF R.SAF_STAT_st_due = false ∧ u.fb P.SAF R.SAF_CFG_auto_st = true ∧ secs 86400 ≤ u.opSteps - u.saf.autoBase ∧
       u.tly.out.all (fun y => !(decide (y.op = 0x50) && y.running && y.outcome.isNone)) = true ∧
       u.fb P.AGE R.AGE_CFG_auto = true ∧ secs 3600 * u.fv P.AGE R.AGE_CFG_interval ≤ u.runSteps - u.age.runPlan ∧ u.pstate < 2) ∧
    (let s : State := { awake with age := { awake.age with runAcc := secs 60, runPass := some 0 } }
     let u := s.at 0
     u.ready = true ∧ u.pstate < 2 ∧ u.age.runPass.any (fun n => decide (u.runSteps < n + secs 60)) = false) ∧
    (let u := ({ awake with age := { awake.age with due := some 1 } } : State).at 0
     u.age.due = some 1 ∧ u.ready = true ∧ u.pstate ≤ 1 ∧ u.marginFree = true) ∧
    (let v := (({ awake with age := { awake.age with plan := some plan_ } } : State).at (secs 1)).planLate
     v.age.plan = some plan_ ∧ plan_.dom = some 11 ∧ plan_.stepAt + secs 1 ≤ v.now) := by decide +kernel

theorem witness_SecurityAndModesComplete :
    (let r : OpenReq := { port := .trapdoor, level := 2, nonce := none, resp := [] }
     let u := ({ awake with sec := { awake.sec with opens := [r], tdenLow := some 0 } } : State).at (secs 1)
     u.corOn = true ∧ u.sec.opens = [r] ∧ u.sec.lockUntil ≤ u.now ∧ u.sec.tdenLow.any (fun x => decide (x + secs 1 ≤ u.now)) = true) ∧
    (let w := (at_ [(P.SEC, R.SEC_CFG_tamp1, 1)]).setFv P.SEC R.SEC_STAT_tamp_live 3
     w.tamperOn 1 = true) ∧
    (let u := ({ awake with pwr := { awake.pwr with busy := true } } : State).at 0
     u.ready = true ∧ u.pwr.busy = true ∧ u.fv P.FBE R.FBE_STAT_olc = 0 ∧ u.fbe.tasks.any (fun x => x.cycle.isSome) = false) ∧
    (let u := (given { awake with pwr := { awake.pwr with earlyWake := some (0, 6) } } [(P.SYS, R.SYS_STATE_pstate, 2)]).at 0
     u.ready = true ∧ u.pstate = 2 ∧ u.pwr.earlyWake = some (0, 6)) := by decide +kernel

theorem witness_LinkTestsComplete :
    (let u := at_ [(P.LNK, R.LNK_STAT_state, 1), (P.LNK, R.LNK_STAT_link, 7)]
     u.fv P.LNK R.LNK_STAT_state = 1 ∧ u.corOn = true ∧ ¬(u.fv P.LNK R.LNK_STAT_link = 7 ∧ (u.cv u.lnk.inst).cal.isSome = true)) ∧
    (let u := later (given awake [(P.LNK, R.LNK_STAT_state, 2), (P.LNK, R.LNK_DUR_dur, 1)]) (msecs 1)
     u.lnkRuns = true ∧ u.fv P.LNK R.LNK_DUR_dur ≠ 0 ∧ u.stamp P.LNK R.LNK_T_LO_t R.LNK_T_HI_t + msecs (u.fv P.LNK R.LNK_DUR_dur) ≤ u.now) := by
  decide +kernel

/-- A one-byte frame for byte `k` of the last scalar record, whose byte 26 and 27 stand as given. -/
def windowAt (k : Nat) (b b26 b27 : Byte) : State × Frame :=
  let f : Frame := { port := .host, addr := windowBottom + 0x1FFFE0 + k, base := 0x44000000, data := [b] }
  ((({ awake with queue := [f] } : State).wr8 (scalarRec 0xFFFF + 26) b26).wr8 (scalarRec 0xFFFF + 27) b27, f)

def windowTakes (x : State × Frame) : Bool :=
  (x.1.at 0).ready && decide ((x.1.at 0).frontWindow = some x.2) && !(x.1.at 0).windowWaits x.2 && ((x.1.at 0).windowWrite x.2.port x.2.base x.2.addr x.2.data).isSome

theorem witness_WindowWrites :
    (windowTakes (windowAt 26 0x80#8 0#8 0#8) ∧ (windowAt 26 0x80#8 0#8 0#8).2.writes 5 26 7 true (fun _ => true) = true) ∧
    (let x := windowAt 26 0#8 0x90#8 0#8
     windowTakes x ∧ x.2.writes 5 26 7 false (x.1.at 0).pointForced = true ∧ x.2.writes 2 26 4 false (x.1.at 0).pointLatched = true) ∧
    (let x := windowAt 27 4#8 0#8 0#8
     windowTakes x ∧ x.2.writes 8 27 2 true (fun q => isScalar q && !(x.1.at 0).pointSimulated q) = true) ∧
    (let x := windowAt 27 0#8 0#8 4#8
     windowTakes x ∧ x.2.writes 8 27 2 false (fun q => isScalar q && (x.1.at 0).pointSimulated q) = true) ∧
    (let x := windowAt 26 0x80#8 0#8 0#8
     let s : State := { x.1 with pte := { x.1.pte with changes := List.replicate 16384 change_ } }
     (s.at 0).ready = true ∧ (s.at 0).frontWindow = some x.2 ∧ (s.at 0).windowWaits x.2 = true) := by decide +kernel

end Sys2Proof.Tests
end

section
/-! SUPPORT. A run of bytes written to the storeroom is read back (R6, R212). -/

namespace Sys2Proof.Machine

open Sys2Proof

/-- A byte after a run of bytes was written: the run's inside its range, as before outside it. -/
theorem State.rd8_wrBytes (l : List Byte) : ∀ (s : State) (a x : Nat), Memory.wf s.mem →
    (s.wrBytes a l).rd8 x = if a ≤ x ∧ x < a + l.length then l.getD (x - a) 0#8 else s.rd8 x := by
  induction l with
  | nil => intro s a x _; simp [State.wrBytes]
  | cons b l ih =>
    intro s a x h
    have htail : (s.wrBytes a (b :: l)).rd8 x = _ := ih (s.wr8 a b) (a + 1) x (s.wr8_wf a b h)
    rw [htail, List.length_cons]
    rcases Nat.lt_trichotomy x a with hx | rfl | hx
    · rw [if_neg (by omega), if_neg (by omega), s.rd8_wr8_ne a x b (by omega)]
    · rw [if_neg (by omega), if_pos (by omega), s.rd8_wr8_same x b h, Nat.sub_self, List.getD_cons_zero]
    · obtain ⟨d, rfl⟩ : ∃ d, x = a + 1 + d := ⟨x - (a + 1), by omega⟩
      rw [s.rd8_wr8_ne a _ b (by omega), show a + 1 + d - a = d + 1 by omega, List.getD_cons_succ, Nat.add_sub_cancel_left]
      exact if_congr (by omega) rfl rfl

/-- Settles O18, by induction on the run of bytes: its first byte, then the rest from the next address on (R6, R212). -/
theorem storeBytes : Obligations.StoreBytes := fun s h a l x => State.rd8_wrBytes l s a x h

end Sys2Proof.Machine
end

section
/-! SUPPORT. Words at the front of the write queue that are refused, wait or take effect (R12, R249, R254, R500). -/

namespace Sys2Proof.Machine

open Sys2Proof

theorem State.unlessWaits_of_waits {s t : State} (h : s.touchesStalled t = true ∨ s.overfills t = true) : s.unlessWaits t = s :=
  if_pos (by simpa using h)

theorem State.unlessWaits_of_not_waits {s t : State} (h : ¬(s.touchesStalled t = true ∨ s.overfills t = true)) : s.unlessWaits t = t :=
  if_neg (by simpa using h)

/-- A word that no row names is REGISTER_WRITE's: it does what its write does, or waits (R249, R254). -/
theorem exec_registerWrite_waits {t : Nat} {s : State} {p : Port} {a : Nat} {v : Word} (hr : (s.at t).ready = true)
    (hf : (s.at t).frontWord = some (p, a, v)) (h : rowsOf a v = []) :
    exec (.registerWrite t) s = .next ((s.at t).unlessWaits ((s.at t).writeWord p a v 0 []).popWord) := by
  show execRegisterWrite t s = _
  simp only [execRegisterWrite, State.takeFront, State.takeFrontNow, hf, hr, h, List.isEmpty_nil, Bool.and_self, if_true]

/-- Settles O37: a refused word goes to the clamp ring at most, and any word either waits or takes effect (R12, R249, R254, R500). -/
theorem refusedWords : Obligations.RefusedWords := by
  refine ⟨fun t s p a v k i h => ?_, fun t sent flips s p a v hr hf => ?_⟩
  · have ⟨hr, hf, _, _, hg⟩ := h
    have hw (sent : Nat) (flips : List Nat) := State.writeWord_refused sent flips h
    refine ⟨fun r sent flips hrow => ?_, fun hrow => ?_⟩
    · rw [State.takeRow_front sent flips hr hf hrow hg, hw]
    · rw [exec_registerWrite_waits hr hf hrow, State.unlessWaits_eq (hg 0 []), hw]
  · refine ⟨fun r hrow => ?_, fun hrow => ?_⟩
    · rw [State.takeRow_waits sent flips hr hf hrow]
      exact ⟨State.unlessWaits_of_waits, State.unlessWaits_of_not_waits⟩
    · rw [exec_registerWrite_waits hr hf hrow]
      exact ⟨fun hw => congrArg _ (State.unlessWaits_of_waits hw), fun hw => congrArg _ (State.unlessWaits_of_not_waits hw)⟩

end Sys2Proof.Machine
end

section
/-! SUPPORT. The frame of a stored word: what its fields may change (R12, R84, R86). -/

namespace Sys2Proof.Machine

open Sys2Proof

/-! ### Clamp rings -/

theorem State.ring_page (s : State) (b : Nat) : (s.ring b).page = b := by
  unfold State.ring
  cases h : s.rings.find? (fun r => decide (r.page = b)) with
  | none => rfl
  | some r =>
    have hr := List.find?_some h
    exact of_decide_eq_true hr

/-- A ring put back stands in the place of its own page's only. -/
theorem State.ring_setRing_ne (s : State) (r : ClampRing) (c : Nat) (h : c ≠ r.page) : (s.setRing r).ring c = s.ring c := by
  have hrest : (s.rings.filter (fun x => decide (x.page ≠ r.page))).find? (fun x => decide (x.page = c)) =
      s.rings.find? (fun x => decide (x.page = c)) := by
    rw [List.find?_filter]
    congr 1
    funext x
    by_cases hx : x.page = c <;> simp [hx, h]
  simp only [State.ring, State.setRing]
  split
  · rw [hrest]
  · rw [List.find?_cons_of_neg (by simpa using h.symm), hrest]

theorem State.ring_clampAt_ne (s : State) (b off lsb : Nat) (src : Bool) (wr st c : Nat) (h : c ≠ b) :
    (s.clampAt b off lsb src wr st).ring c = s.ring c := by
  refine State.ring_setRing_ne s _ c ?_
  split <;> rwa [State.ring_page]

/-- A clamp sets PG_IRQ_STAT.clamp and no other register. -/
theorem State.reg_clampAt_ne (s : State) (b off lsb : Nat) (src : Bool) (wr st x : Nat) (h : x ≠ b + 0x20) :
    (s.clampAt b off lsb src wr st).reg x = s.reg x :=
  State.reg_setReg_ne _ _ _ _ h

/-! ### The frame of a word -/

/-- Whichever direction an object has, its word is held at its own offset or at the one of direction 1 (Table 16-7). -/
theorem homeOff_cases (k : Kind) (off dir : Nat) : homeOff k off dir = off ∨ homeOff k off dir = homeOff k off 1 := by
  by_cases h : dir = 1
  · exact .inr (by rw [h])
  · exact .inl (if_neg (by simp [h]))

/-- What the fields of the word at `off` of the page at `b` may change: the word, PG_STAT and PG_IRQ_STAT of the page, the staged copy of
the word, the clamp ring of the page, what the ports show and the staged items of the trigger lists (R12, R84, R86). -/
structure WordFrame (k : Kind) (b off : Nat) (s t : State) : Prop where
  reg : ∀ x, x ≠ b + off → x ≠ b + R.PG_STAT_staged.off → x ≠ b + 0x20 → t.reg x = s.reg x
  staged : ∀ x, x ≠ b + off → x ≠ b + homeOff k off 1 → SMap.get? t.staged x = SMap.get? s.staged x
  ring : ∀ c, c ≠ b → t.ring c = s.ring c
  parts : Moves 0x400658 s t

section
variable {k : Kind} {b off : Nat} {s t u : State}

theorem WordFrame.refl (s : State) : WordFrame k b off s s := ⟨fun _ _ _ _ => rfl, fun _ _ _ => rfl, fun _ _ => rfl, Moves.refl _ s⟩

theorem WordFrame.trans (h : WordFrame k b off s t) (g : WordFrame k b off t u) : WordFrame k b off s u where
  reg x h1 h2 h3 := (g.reg x h1 h2 h3).trans (h.reg x h1 h2 h3)
  staged x h1 h2 := (g.staged x h1 h2).trans (h.staged x h1 h2)
  ring c hc := (g.ring c hc).trans (h.ring c hc)
  parts := h.parts.trans g.parts

theorem WordFrame.ite {c : Prop} [Decidable c] (ht : WordFrame k b off s t) (hu : WordFrame k b off s u) :
    WordFrame k b off s (if c then t else u) := by
  split
  · exact ht
  · exact hu

theorem WordFrame.foldl {α : Type} {f : State → α → State} (hf : ∀ t x, WordFrame k b off t (f t x)) (l : List α) (s : State) :
    WordFrame k b off s (l.foldl f s) := by
  induction l generalizing s with
  | nil => exact .refl s
  | cons x l ih => exact (hf s x).trans (ih (f s x))

theorem State.clampAt_wordFrame (s : State) (lsb : Nat) (src : Bool) (wr st : Nat) :
    WordFrame k b off s (s.clampAt b off lsb src wr st) where
  reg x _ _ h := s.reg_clampAt_ne b off lsb src wr st x h
  staged _ _ _ := rfl
  ring c hc := s.ring_clampAt_ne b off lsb src wr st c hc
  parts := State.clampAt_moves.weaken (by decide)

/-- A set of a field of the word, or of PG_STAT.staged. -/
theorem State.setFv_wordFrame (s : State) (f : Field) (v : Nat) (hf : f.off = off ∨ f.off = R.PG_STAT_staged.off) :
    WordFrame k b off s (s.setFv b f v) where
  reg x h1 h2 _ := s.reg_setReg_ne _ _ _ (by rcases hf with e | e <;> rwa [e])
  staged _ _ _ := rfl
  ring _ _ := rfl
  parts := State.setFv_moves.weaken (by decide)

/-- Staging at a place where the word may be held. -/
theorem State.stage_wordFrame (s : State) (home : Nat) (f : Field) (w : Nat) (hh : home = off ∨ home = homeOff k off 1) :
    WordFrame k b off s (s.stage b home f w) where
  reg x _ h2 _ := by
    simp only [State.stage, State.setFv]
    rw [State.reg_setReg_ne _ _ _ _ h2]
    split <;> rfl
  staged x h1 h2 := by
    simp only [State.stage, State.setFv_staged]
    split
    · rfl
    · exact SMap.get?_insert_ne _ _ _ _ (by rcases hh with e | e <;> rwa [e])
  ring _ _ := by
    simp only [State.stage, State.ring, State.setFv_rings]
    split <;> rfl
  parts := State.stage_moves.weaken (by decide)

/-- One field of a written word, by its access code. -/
theorem State.storeField_wordFrame (s : State) (p : Port) (may : Bool) (now v : Word) (f : Field) :
    WordFrame k b off s (s.storeField p k b off may now v f) := by
  unfold State.storeField
  have hclamp (s : State) (wr st : Nat) : WordFrame k b off s (s.clampAt b off f.lsb true wr st) := s.clampAt_wordFrame ..
  have hset (s : State) (w : Nat) : WordFrame k b off s (s.setFv b { f with off := off } w) := s.setFv_wordFrame _ w (.inl rfl)
  extract_lets w cur here
  cases f.acc with
  | wo => exact .refl s
  | ro => exact .ite (.refl s) (hclamp s _ _)
  | w1c => exact hset s _
  | rw => exact .ite (.ite (.refl s) (hclamp s _ _)) (.ite (.refl s) (.trans (.ite (.refl s) (hclamp s _ _)) (hset _ _)))
  | rws => exact .ite (s.stage_wordFrame _ f w (homeOff_cases k off _)) (.ite (.refl s) (hclamp s _ _))

theorem State.storeWord_wordFrame (s : State) (p : Port) (i : Nat) (may : Bool) (v : Word) :
    WordFrame k b off s (s.storeWord p k i b off may v) := by
  unfold State.storeWord
  refine .ite (.ite (.refl s) (s.clampAt_wordFrame ..)) (.foldl (fun t j => ?_) _ s)
  split
  · exact t.storeField_wordFrame p may _ v _
  · exact .ite (.refl t) (.ite (.refl t) (t.clampAt_wordFrame ..))

end

theorem pageBase_add_offset (a : Nat) : pageBase a + a % 0x1000 = a := Nat.div_add_mod' a 0x1000

/-- Settles O14: every step in which a word's fields are stored stays within the word's frame (R12, R84, R86). -/
theorem wordStoresInItsPage : Obligations.WordStoresInItsPage := by
  intro s p a v k i
  obtain ⟨hreg, hstaged, hring, hparts⟩ : WordFrame k (pageBase a) (a % 0x1000) s (s.stored p a v k i) := s.storeWord_wordFrame ..
  rw [pageBase_add_offset] at hreg hstaged
  exact ⟨hreg, hstaged, hring, (MovesNext.next hparts).only (by decide)⟩

end Sys2Proof.Machine
end

section
/-! SUPPORT. The register tables and what reset leaves of them (R14). -/

namespace Sys2Proof.Machine

open Sys2Proof

/-! ### A word made of its fields -/

/-- Two fields share no bit. -/
def Field.apart (f g : Field) : Prop := f.lsb + f.width ≤ g.lsb ∨ g.lsb + g.width ≤ f.lsb

/-- A value added where a field reads 0 replaces the field. -/
theorem word_add_field (n v lsb width : Nat) (h0 : Word.bits (word n) lsb width = 0) (hv : v < 2 ^ width) :
    word (n + v * 2 ^ lsb) = Word.withBits (word n) lsb width v := by
  apply BitVec.eq_of_toNat_eq
  simp [Word.withBits, h0, Nat.mod_eq_of_lt hv, word, BitVec.toNat_ofNat]

/-- What the word of some fields is made of: `n` and the Reset values of the fields. -/
def resetSum (n : Nat) (l : List Field) : Nat := l.foldl (fun acc f => acc + f.resetValue * 2 ^ f.lsb) n

/-- A field fits its word, and its Reset value fits the field. -/
def Field.fits (f : Field) : Prop := f.lsb + f.width ≤ 32 ∧ f.resetValue < 2 ^ f.width

section
variable {f g : Field} {n : Nat} {l : List Field}

theorem bits_add_reset_same (hf : f.fits) (h0 : Word.bits (word n) f.lsb f.width = 0) :
    Word.bits (word (n + f.resetValue * 2 ^ f.lsb)) f.lsb f.width = f.resetValue := by
  rw [word_add_field n _ _ _ h0 hf.2, Word.bits_withBits_same _ _ _ _ hf.1, Nat.mod_eq_of_lt hf.2]

theorem bits_add_reset_apart (hf : f.fits) (h0 : Word.bits (word n) f.lsb f.width = 0) (ha : f.apart g) :
    Word.bits (word (n + f.resetValue * 2 ^ f.lsb)) g.lsb g.width = Word.bits (word n) g.lsb g.width := by
  rw [word_add_field n _ _ _ h0 hf.2, Word.bits_withBits_apart _ _ _ _ _ _ hf.1 ha.symm]

/-- Fields apart from `f` that read 0 still do. -/
theorem bits_add_reset_rest (hf : f.fits) (h0f : Word.bits (word n) f.lsb f.width = 0) (ha : ∀ g ∈ l, f.apart g)
    (h0 : ∀ g ∈ l, Word.bits (word n) g.lsb g.width = 0) :
    ∀ g ∈ l, Word.bits (word (n + f.resetValue * 2 ^ f.lsb)) g.lsb g.width = 0 :=
  fun g hg => (bits_add_reset_apart hf h0f (ha g hg)).trans (h0 g hg)

/-- Fields apart from `g` leave its bits. -/
theorem bits_resetSum_apart (hl : l.Pairwise Field.apart) (hf : ∀ f ∈ l, f.fits) (h0 : ∀ f ∈ l, Word.bits (word n) f.lsb f.width = 0)
    (ha : ∀ f ∈ l, f.apart g) : Word.bits (word (resetSum n l)) g.lsb g.width = Word.bits (word n) g.lsb g.width := by
  induction l generalizing n with
  | nil => rfl
  | cons f l ih =>
    rw [List.pairwise_cons] at hl
    rw [List.forall_mem_cons] at hf h0 ha
    obtain ⟨hfl, hl⟩ := hl
    obtain ⟨hff, hf⟩ := hf
    obtain ⟨h0f, h0⟩ := h0
    obtain ⟨haf, ha⟩ := ha
    have hrest := bits_add_reset_rest hff h0f hfl h0
    exact (ih hl hf hrest ha).trans (bits_add_reset_apart hff h0f haf)

/-- Each field of the sum reads its Reset value. -/
theorem bits_resetSum_mem (hl : l.Pairwise Field.apart) (hf : ∀ f ∈ l, f.fits) (h0 : ∀ f ∈ l, Word.bits (word n) f.lsb f.width = 0)
    (hg : g ∈ l) : Word.bits (word (resetSum n l)) g.lsb g.width = g.resetValue := by
  induction l generalizing n with
  | nil => cases hg
  | cons f l ih =>
    rw [List.pairwise_cons] at hl
    rw [List.forall_mem_cons] at hf h0
    obtain ⟨hfl, hl⟩ := hl
    obtain ⟨hff, hf⟩ := hf
    obtain ⟨h0f, h0⟩ := h0
    have hrest := bits_add_reset_rest hff h0f hfl h0
    rcases List.mem_cons.1 hg with rfl | hg
    · exact (bits_resetSum_apart hl hf hrest fun e he => (hfl e he).symm).trans (bits_add_reset_same hff h0f)
    · exact ih hl hf hrest hg

end

/-! ### The layout of the register tables -/

/-- The offsets at which a field stands. -/
def Field.words (f : Field) : List Nat := if f.stride = 0 then [f.off] else (List.range f.cnt).map (fun i => f.off + i * f.stride)

theorem Field.mem_words {f : Field} {off : Nat} (h : f.coversWord off = true) : off ∈ f.words := by
  unfold Field.coversWord at h
  unfold Field.words
  split at h
  · rw [if_pos ‹_›, List.mem_singleton]
    exact (of_decide_eq_true h).symm
  · rw [if_neg ‹_›, List.mem_map]
    simp only [Bool.and_eq_true, decide_eq_true_eq] at h
    obtain ⟨⟨hle, hmod⟩, hlt⟩ := h
    exact ⟨_, List.mem_range.2 hlt, by rw [Nat.div_mul_cancel (Nat.dvd_of_mod_eq_zero hmod)]; omega⟩

/-- Two fields share no bit of any word. -/
def Field.clear (f g : Field) : Bool :=
  decide (f.lsb + f.width ≤ g.lsb) || decide (g.lsb + g.width ≤ f.lsb) || f.words.all (fun o => !g.coversWord o)

theorem Field.apart_of_clear {f g : Field} {off : Nat} (h : f.clear g = true) (hf : f.coversWord off = true)
    (hg : g.coversWord off = true) : f.apart g := by
  simp only [Field.clear, Bool.or_eq_true, decide_eq_true_eq] at h
  rcases h with h | h
  · exact h
  · have hx := List.all_eq_true.1 h off (Field.mem_words hf)
    rw [hg] at hx
    cases hx

/-- The fields of a register table share no bit, lie within their words, and their Reset entries lie within the fields. -/
def wellLaid (l : List Field) : Bool :=
  decide (l.Pairwise fun f g => f.clear g = true) && l.all fun f => decide (f.lsb + f.width ≤ 32) && decide (f.reset < 2 ^ f.width)

/-- The tables of every page kind are well laid (Tables 01-7 to 23-3). -/
theorem wellLaid_fields (k : Kind) : wellLaid (Kind.fields k) = true := by
  cases k <;> decide +kernel

/-- So are those of a plane page with the fields of its plane (Table 07-8). -/
theorem wellLaid_planeFields : ∀ j < 4, wellLaid (Kind.fields .spxPl ++ Kind.planeFields j) = true := by
  decide +kernel

theorem wellLaid_allFields (k : Kind) (i : Nat) : wellLaid (k.allFields i) = true := by
  unfold Kind.allFields
  split
  · exact wellLaid_planeFields (i % 4) (Nat.mod_lt _ (by decide))
  · exact wellLaid_fields k

theorem Field.fits_of_reset {f : Field} (h : f.lsb + f.width ≤ 32) (hr : f.reset < 2 ^ f.width) : f.fits := by
  refine ⟨h, ?_⟩
  unfold Field.resetValue
  split
  · subst f
    split <;> decide
  · exact hr

/-- The Reset word of a page holds the Reset value of each of its fields (R14). -/
theorem bits_wordReset {k : Kind} {i off : Nat} {f : Field} (hf : f ∈ fieldsAt k i off) :
    Word.bits (wordReset k i off) f.lsb f.width = f.resetValue := by
  obtain ⟨hclear, hfits⟩ := Bool.and_eq_true_iff.1 (wellLaid_allFields k i)
  have hapart : (fieldsAt k i off).Pairwise Field.apart :=
    List.Pairwise.imp_of_mem
      (fun hf hg h => Field.apart_of_clear h (List.mem_filter.1 hf).2 (List.mem_filter.1 hg).2)
      ((of_decide_eq_true hclear).filter _)
  refine bits_resetSum_mem hapart (fun g hg => ?_) (fun g _ => by simp [Word.bits, word]) hf
  have hg := List.all_eq_true.1 hfits g (List.mem_filter.1 hg).1
  simp only [Bool.and_eq_true, decide_eq_true_eq] at hg
  exact Field.fits_of_reset hg.1 hg.2

/-! ### What reset leaves -/

/-- A data byte field of a receive object, shown as ro, keeps its Reset value: SPX_HOT.en is none of them. -/
theorem resetValue_asRo {f : Field} {off : Nat} (hc : f.coversWord off = true) (ho : 0x800 ≤ off) :
    ({ f with acc := .ro } : Field).resetValue = f.resetValue := by
  have h1 : ({ f with acc := .ro } : Field) ≠ R.SPX_HOT_en := fun e => by cases congrArg Field.acc e
  have h2 : f ≠ R.SPX_HOT_en := fun e => by
    rw [e] at hc
    have h44 : (0x44 : Nat) = off := of_decide_eq_true hc
    omega
  rw [Field.resetValue, Field.resetValue, if_neg h1, if_neg h2]

/-- A field that stands in a word while its object has direction 0 is one of the table, but for its access code. -/
theorem standing_receive {k : Kind} {i off : Nat} {f : Field} (hf : f ∈ standing k i off 0) :
    ∃ g ∈ fieldsAt k i off, f.lsb = g.lsb ∧ f.width = g.width ∧ f.resetValue = g.resetValue := by
  have hhome : homeOff k off 0 = off := if_neg (by simp)
  unfold standing at hf
  split at hf
  · split at hf
    · cases hf
    · split at hf
      next hdata =>
        obtain ⟨g, hg, rfl⟩ := List.mem_map.1 hf
        exact ⟨g, hg, rfl, rfl, resetValue_asRo (List.mem_filter.1 hg).2 hdata.1⟩
      next => exact ⟨f, hhome ▸ hf, rfl, rfl, rfl⟩
  · exact ⟨f, hf, rfl, rfl, rfl⟩

/-- A register that nothing has written holds the Reset word of its page. -/
theorem State.reg_reset {n off : Nat} {k : Kind} {i : Nat} (hp : pageOf n = some (k, i)) (hlo : 0x40 ≤ off) (hhi : off < 0x1000) :
    State.reset.reg (n * 0x1000 + off) = wordReset k i off := by
  have hpage : pageAt (n * 0x1000 + off) = some (k, i) := by
    rw [pageAt, show (n * 0x1000 + off) / 0x1000 = n by omega, hp]
  have hoff : (n * 0x1000 + off) % 0x1000 = off := by omega
  show regDflt (n * 0x1000 + off) = _
  simp only [regDflt, hpage, hoff]
  exact if_neg (by omega)

theorem State.bits_reset {n off : Nat} {k : Kind} {i : Nat} {f : Field} (hp : pageOf n = some (k, i)) (hlo : 0x40 ≤ off)
    (hhi : off < 0x1000) (hf : f ∈ standing k i off 0) :
    Word.bits (State.reset.reg (n * 0x1000 + off)) f.lsb f.width = f.resetValue := by
  obtain ⟨g, hg, hlsb, hwidth, hvalue⟩ := standing_receive hf
  rw [State.reg_reset hp hlo hhi, hlsb, hwidth, hvalue, bits_wordReset hg]

/-- Settles O7: what nothing has written holds the Reset word of its page, whose fields share no bit; the lifecycle state is one of them
(R14). -/
theorem resetColumn : Obligations.ResetColumn := by
  refine ⟨?_, fun n off k i hp hlo hhi _ f hf => State.bits_reset hp hlo hhi hf⟩
  have hmem : R.SYS_STATE_life ∈ standing .sys 0 0x44 0 := by decide
  exact State.bits_reset (n := 0) rfl (by decide) (by decide) hmem

end Sys2Proof.Machine
end

section
/-! SUPPORT. Every command answers a next state, keeps the clauses of the invariant and leaves the timebase at its floor or above it (R31,
R348). -/

namespace Sys2Proof.Machine

open Sys2Proof

/-- A command that a row of the write table names, of whichever row. -/
theorem State.takeRow_keepsNext (s : State) {t : Nat} {r : WriteRow} {sent : Nat} {flips : List Nat} :
    KeepsNext s (.next ((s.at t).takeRow r sent flips)) :=
  KeepsNext.next (State.takeRow_keeps (State.at_keeps (Keeps.refl s)))

/-- What every command keeps, by the law of its meaning. Only START_UP has a floor of its own; the others keep from the state itself. -/
theorem exec_keeps (c : Instr) (s : State) : KeepsNext { s with now := s.timeFloor c } (exec c s) :=
  match c with
  | .startUp t ready tmode pfwLow vf18 fails => execStartUp_keeps t ready tmode pfwLow vf18 fails s
  | .pfwHoldRelease t => execPfwHoldRelease_keeps t s
  | .powerFailWarning t lock => execPowerFailWarning_keeps t lock s
  | .pfwWithdrawn t fails => execPfwWithdrawn_keeps t fails s
  | .unwarnedLoss t => execUnwarnedLoss_keeps t s
  | .avddLost t => execAvddLost_keeps t s
  | .avddRestored t => execAvddRestored_keeps t s
  | .cellarStop t => execCellarStop_keeps t s
  | .rd1 t port addr n sckHz fabricNs ecc => execRd1_keeps t port addr n sckHz fabricNs ecc s
  | .rd4 t addr n sckHz fabricNs ecc => execRd4_keeps t addr n sckHz fabricNs ecc s
  | .wr1 t port addr data ecc => execWr1_keeps t port addr data ecc s
  | .wr4 t addr data ecc => execWr4_keeps t addr data ecc s
  | .stat t port => execStat_keeps t port s
  | .hrst t => execHrst_keeps t s
  | .undefinedOpcode t port opcode => execUndefinedOpcode_keeps t port opcode s
  | .frameAbort t port addr data ecc => execFrameAbort_keeps t port addr data ecc s
  | .heldReadComplete t port ecc => execHeldReadComplete_keeps t port ecc s
  | .registerWrite t => execRegisterWrite_keeps t s
  | .tlyGo t port => execTlyGo_keeps t port s
  | .tallyLaunch t port => execTallyLaunch_keeps t port s
  | .tallyStart t tally => execTallyStart_keeps t tally s
  | .nop t tally => execNop_keeps t tally s
  | .stoCopy t tally upto ecc => execStoCopy_keeps t tally upto ecc s
  | .stoFill t tally upto => execStoFill_keeps t tally upto s
  | .stoVerify t tally upto ecc => execStoVerify_keeps t tally upto ecc s
  | .stoRekey t tally upto ecc => execStoRekey_keeps t tally upto ecc s
  | .baseLearn t tally => execBaseLearn_keeps t tally s
  | .limDerive t tally ecc => execLimDerive_keeps t tally ecc s
  | .imgLoadProgram t tally ecc => execImgLoadProgram_keeps t tally ecc s
  | .imgLoadConfig t tally ecc => execImgLoadConfig_keeps t tally ecc s
  | .imgLoadAlarmTable t tally ecc => execImgLoadAlarmTable_keeps t tally ecc s
  | .olc t tally => execOlc_keeps t tally s
  | .evrErase t tally crates => execEvrErase_keeps t tally crates s
  | .cal t tally => execCal_keeps t tally s
  | .selftest t tally failed => execSelftest_keeps t tally failed s
  | .install t tally ecc => execInstall_keeps t tally ecc s
  | .revoke t tally => execRevoke_keeps t tally s
  | .aes t tally ecc => execAes_keeps t tally ecc s
  | .advance t tally => execAdvance_keeps t tally s
  | .marginPlan t tally => execMarginPlan_keeps t tally s
  | .undefinedOperation t tally => execUndefinedOperation_keeps t tally s
  | .tallyCompletion t tally => execTallyCompletion_keeps t tally s
  | .tallyTimeout t tally => execTallyTimeout_keeps t tally s
  | .converterStart t k => execConverterStart_keeps t k s
  | .measurementSlot t ch m => execMeasurementSlot_keeps t ch m s
  | .leadSlot t ch vl m => execLeadSlot_keeps t ch vl m s
  | .excitationTestSlot t ch vmOff sexc dvm => execExcitationTestSlot_keeps t ch vmOff sexc dvm s
  | .supervisorCheckSlot t k safref term temp => execSupervisorCheckSlot_keeps t k safref term temp s
  | .staleFault t ch => execStaleFault_keeps t ch s
  | .calDue t k temp => execCalDue_keeps t k temp s
  | .calibrationStart t k => execCalibrationStart_keeps t k s
  | .calibrationComplete t k m => execCalibrationComplete_keeps t k m s
  | .calibrationTimeout t k => execCalibrationTimeout_keeps t k s
  | .calOverdue t k => execCalOverdue_keeps t k s
  | .dynSample t ch v0 v30 gerr oerr over30 clip cm => execDynSample_keeps t ch v0 v30 gerr oerr over30 clip cm s
  | .biasMonitor t ch volts vsx compliance => execBiasMonitor_keeps t ch volts vsx compliance s
  | .overallLevel t ch => execOverallLevel_keeps t ch s
  | .overallStale t ch => execOverallStale_keeps t ch s
  | .channelSettled t ch => execChannelSettled_keeps t ch s
  | .tachoEdge t ch => execTachoEdge_keeps t ch s
  | .tachoDeadline t ch => execTachoDeadline_keeps t ch s
  | .recordEnd t ch ecc => execRecordEnd_keeps t ch ecc s
  | .zoomRecordEnd t ch => execZoomRecordEnd_keeps t ch s
  | .planeCommit t plane errs ecc => execPlaneCommit_keeps t plane errs ecc s
  | .planeStale t plane => execPlaneStale_keeps t plane s
  | .planeCommitOverdue t plane => execPlaneCommitOverdue_keeps t plane s
  | .scrubPassEnd t ecc => execScrubPassEnd_keeps t ecc s
  | .rowSpare t shelf ecc => execRowSpare_keeps t shelf ecc s
  | .wearMove t wear => execWearMove_keeps t wear s
  | .noticeClear t => execNoticeClear_keeps t s
  | .scalarPass t vmain avdd vsx vbackup temp power reev ecc => execScalarPass_keeps t vmain avdd vsx vbackup temp power reev ecc s
  | .sweepStart t => execSweepStart_keeps t s
  | .planeEvaluation t reev ecc => execPlaneEvaluation_keeps t reev ecc s
  | .sweepEnd t conflict shelf => execSweepEnd_keeps t conflict shelf s
  | .pointWindowWrite t => execPointWindowWrite_keeps t s
  | .pointForce t => execPointForce_keeps t s
  | .pointForceRelease t => execPointForceRelease_keeps t s
  | .latchRelease t => execLatchRelease_keeps t s
  | .pointSimulate t => execPointSimulate_keeps t s
  | .simulationEnd t => execSimulationEnd_keeps t s
  | .pointChange t ecc => execPointChange_keeps t ecc s
  | .supModeRelease t entry => execSupModeRelease_keeps t entry s
  | .shelveExpiry t slot => execShelveExpiry_keeps t slot s
  | .suppressionHoldEnd t entry => execSuppressionHoldEnd_keeps t entry s
  | .pendingDecided t entry => execPendingDecided_keeps t entry s
  | .firstOutFinal t group => execFirstOutFinal_keeps t group s
  | .rungDeadline t ladder => execRungDeadline_keeps t ladder s
  | .callRepeat t ladder => execCallRepeat_keeps t ladder s
  | .statusFrame t => execStatusFrame_keeps t s
  | .answerAccept t => execAnswerAccept_keeps t s
  | .answerAckEntry t => execAnswerAckEntry_keeps t s
  | .answerAckGroup t => execAnswerAckGroup_keeps t s
  | .answerAckCall t => execAnswerAckCall_keeps t s
  | .answerTakeDuty t => execAnswerTakeDuty_keeps t s
  | .answerResetEntry t => execAnswerResetEntry_keeps t s
  | .cyclicRelease t task => execCyclicRelease_keeps t task s
  | .eventRelease t task => execEventRelease_keeps t task s
  | .cycleStart t ecc => execCycleStart_keeps t ecc s
  | .cycleCommit t => execCycleCommit_keeps t s
  | .olcPrepared t => execOlcPrepared_keeps t s
  | .seam t => execSeam_keeps t s
  | .crateCapture t ecc => execCrateCapture_keeps t ecc s
  | .crateWrite t => execCrateWrite_keeps t s
  | .lossMarker t => execLossMarker_keeps t s
  | .timebaseRecord t xratio => execTimebaseRecord_keeps t xratio s
  | .referenceStopped t => execReferenceStopped_keeps t s
  | .oscStop t => execOscStop_keeps t s
  | .timeWriteApply t => execTimeWriteApply_keeps t s
  | .alarmFire t b => execAlarmFire_keeps t b s
  | .periodicEvent t => execPeriodicEvent_keeps t s
  | .weekdayAdvance t => execWeekdayAdvance_keeps t s
  | .tcompUpdate t temp => execTcompUpdate_keeps t temp s
  | .calendarTop t => execCalendarTop_keeps t s
  | .downFrameA t ok => execDownFrameA_keeps t ok s
  | .upFrameA t ok seq rb => execUpFrameA_keeps t ok seq rb s
  | .linkALost t => execLinkALost_keeps t s
  | .islandADisarm t => execIslandADisarm_keeps t s
  | .diInputChange t ch mV rise fall => execDiInputChange_keeps t ch mV rise fall s
  | .debouncedEdge t ch => execDebouncedEdge_keeps t ch s
  | .wireBreak t ch => execWireBreak_keeps t ch s
  | .vfieldWarn t mV => execVfieldWarn_keeps t mV s
  | .vfieldOff t mV => execVfieldOff_keeps t mV s
  | .vf18 t mV => execVf18_keeps t mV s
  | .outputTrip t line => execOutputTrip_keeps t line s
  | .downFrameB t ok => execDownFrameB_keeps t ok s
  | .upFrameB t ok seq carrier temp rb hr => execUpFrameB_keeps t ok seq carrier temp rb hr s
  | .linkBLost t => execLinkBLost_keeps t s
  | .islandBFail t => execIslandBFail_keeps t s
  | .loopPowerChange t mV carries => execLoopPowerChange_keeps t mV carries s
  | .regulationStep t => execRegulationStep_keeps t s
  | .complianceSet t ch => execComplianceSet_keeps t ch s
  | .complianceClear t ch => execComplianceClear_keeps t ch s
  | .fskTxStart t ch => execFskTxStart_keeps t ch s
  | .txDone t ch => execTxDone_keeps t ch s
  | .rxFrame t ch stamp chars => execRxFrame_keeps t ch stamp chars s
  | .canFrameReceived t port stamp frame => execCanFrameReceived_keeps t port stamp frame s
  | .canTxStart t port tdcv => execCanTxStart_keeps t port tdcv s
  | .canTxSuccess t port => execCanTxSuccess_keeps t port s
  | .arbitrationLost t port => execArbitrationLost_keeps t port s
  | .canError t port lec dphase field free extra => execCanError_keeps t port lec dphase field free extra s
  | .dominantTimeout t port => execDominantTimeout_keeps t port s
  | .recoveryComplete t port => execRecoveryComplete_keeps t port s
  | .canWake t sign => execCanWake_keeps t sign s
  | .replyTimeout t port object => execReplyTimeout_keeps t port object s
  | .timingApply t port => execTimingApply_keeps t port s
  | .passStart t => execPassStart_keeps t s
  | .lineWritten t => execLineWritten_keeps t s
  | .bandPass t => execBandPass_keeps t s
  | .blink t => execBlink_keeps t s
  | .idleCrcCheck t upsets shadowUpsets => execIdleCrcCheck_keeps t upsets shadowUpsets s
  | .panelRewrite t upsets => execPanelRewrite_keeps t upsets s
  | .rampAdvance t => execRampAdvance_keeps t s
  | .demandReplan t => execDemandReplan_keeps t s
  | .driverFault t => execDriverFault_keeps t s
  | .driverStop t => execDriverStop_keeps t s
  | .dstopRelease t => execDstopRelease_keeps t s
  | .stpiEdge t dirHigh => execStpiEdge_keeps t dirHigh s
  | .positionCommit t => execPositionCommit_keeps t s
  | .diagnosticFail t code detail => execDiagnosticFail_keeps t code detail s
  | .diagnosticClear t code detail => execDiagnosticClear_keeps t code detail s
  | .safetyDemand t low => execSafetyDemand_keeps t low s
  | .demandClear t high => execDemandClear_keeps t high s
  | .autoSelftest t failed => execAutoSelftest_keeps t failed s
  | .stDue t => execStDue_keeps t s
  | .monitorPass t m => execMonitorPass_keeps t m s
  | .planDue t => execPlanDue_keeps t s
  | .plan t => execPlan_keeps t s
  | .offsetStepSettled t completion => execOffsetStepSettled_keeps t completion s
  | .dormantEntry t => execDormantEntry_keeps t s
  | .wakeFromDormant t => execWakeFromDormant_keeps t s
  | .tamperEvent t input live => execTamperEvent_keeps t input live s
  | .sessionDecision t => execSessionDecision_keeps t s
  | .sessionExpiry t => execSessionExpiry_keeps t s
  | .lockoutEnd t => execLockoutEnd_keeps t s
  | .nonceExpiry t => execNonceExpiry_keeps t s
  | .tdenRising t => execTdenRising_keeps t s
  | .trapdoorSessionEnd t => execTrapdoorSessionEnd_keeps t s
  | .linkTestStart t => execLinkTestStart_keeps t s
  | .linkTestEnd t sent flips => execLinkTestEnd_keeps t sent flips s
  | .hbufRead t port addr n => execHbufRead_keeps t port addr n s
  | .referenceReturn t => execReferenceReturn_keeps t s
  | .x32Restart t => execX32Restart_keeps t s
  | .dfltRelease t => execDfltRelease_keeps t s
  | .integrationComplete t port => execIntegrationComplete_keeps t port s
  | .vfieldRise t mV => execVfieldRise_keeps t mV s
  | .islandSelfCheckFail t => execIslandSelfCheckFail_keeps t s
  | .pcomEdge t => execPcomEdge_keeps t s
  | .commit _ | .discard _ | .lock _ | .unlock _ | .join _ | .clampNext _ | .clampFlush _ | .pgIrqSet _ | .hpiClrErr _ | .gcGo _
  | .gcAbandon _ | .tlyCancel _ | .tlyCqPop _ | .scTest _ | .scFlip _ | .restart _ | .scrubNow _ | .stoClrErr _ | .spectralSimulation _
  | .classRelease _ | .pteClr _ | .acknowledgeEntry _ | .acknowledgeGroup _ | .acknowledgeAll _ | .resetEntry _ | .shelveEntry _
  | .unshelveEntry _ | .takeOutOfService _ | .returnToService _ | .acceptCall _ | .armGroup _ | .alhCmdNone _ | .modeChange _
  | .dutyChange _ | .alhClr _ | .fbeEvTrig _ | .forceSet _ | .forceRelease _ | .forceReleaseAll _ | .fbeClr _ | .evrTrigGo _ | .evrClr _
  | .tbsSet _ | .tbsAdjust _ | .tbsSetCal _ | .tbsHalt _ | .trimWrite _ | .rearm _ | .thrTest _ | .doSet _ | .dioClr _ | .clrComp _
  | .loopSet _ | .txGo _ | .txAbort _ | .rxRel _ | .lpoClr _ | .send _ | .cancel _ | .objRelease _ | .resume _ | .recover _ | .sleep _
  | .canClr _ | .pmbRelease _ | .put _ | .update _ | .full _ | .copyFront _ | .targetWrite _ | .ackPos _ | .setpos _ | .rmpClr _
  | .safRelease _ | .alertClr _ | .safEnter _ | .resetOfs _ | .reqRun _ | .reqLean _ | .reqDormant _ | .challenge _ | .sessionOpen _
  | .sessionClose _ | .secAlertClr _ | .fbeHalt _ | .debugStep _ | .linkGo _ | .linkStop _ _ _ | .ins1 _ _ _ | .lnkClr _ | .hbufWrite _ =>
    s.takeRow_keepsNext

/-- Settles O6: a command answers one next state, and what it keeps says where its timebase stands (R31, R348). -/
theorem timebaseNeverStepsBack : Obligations.TimebaseNeverStepsBack := by
  intro s t c ht
  obtain ⟨u, hu, hkeeps⟩ := exec_keeps c s
  obtain rfl : u = t := Host.Outcome.next.inj (hu.symm.trans ht)
  exact hkeeps.now

end Sys2Proof.Machine
end

section
/-! SUPPORT. What the commands of the supply answer, by the mode that they find (R34, R39–R41, R48, R55–R57, R62). -/

namespace Sys2Proof.Machine

open Sys2Proof

/-! ### Start-up (R34, R39, R40) -/

/-- A start-up up to the end of step 6, after the diagnostics that fail in it. -/
def State.startedCor (u : State) (vf18 : Bool) (fails : List (Nat × Nat)) : State :=
  let w := u.pnlOff.startCor (if u.pwr.cellarLost then 0 else 1) vf18
  ({ w with pwr := { w.pwr with t0 := w.now, avddOk := true, avddFrom := none } } : State).startFails fails

/-- From OFF and BACKUP alike, TMODE and PFW_N say how far a start-up goes (R34, R39, R48). -/
theorem execStartUp_of_stopped {t : Nat} {s : State} (ready : Nat) (tmode pfwLow vf18 : Bool) (fails : List (Nat × Nat))
    (h : (s.at t).pwr.mode = .off ∨ (s.at t).pwr.mode = .backup) :
    let w := (s.at t).startedCor vf18 fails
    execStartUp t ready tmode pfwLow vf18 fails s =
      if tmode then .next { s.at t with pwr := { (s.at t).pwr with mode := .tmode } }
      else if pfwLow then .next w.startHolds
      else .next ((w.at (w.now + ready)).startReady (s.at t).pwr.cellarLost) := by
  rcases h with h | h <;> simp only [execStartUp, h] <;> rfl

theorem execPfwHoldRelease_of_held {t : Nat} {s : State} (h : (s.at t).pwr.mode = .held) :
    execPfwHoldRelease t s = .next ((s.at t).startReady (s.at t).pwr.cellarLost) :=
  congrArg Host.Outcome.next (if_pos h)

theorem execPfwWithdrawn_of_locked {t : Nat} {s : State} (fails : List (Nat × Nat)) (h : (s.at t).pwr.mode = .locked) :
    execPfwWithdrawn t fails s =
      .next ((((s.at t).startCor 3 (decide (18000 < (s.at t).dio.vfield))).startFails fails).startReady false) :=
  if_pos h

/-! ### Stops (R40, R41, R55, R56, R62) -/

theorem execUnwarnedLoss_of_active {t : Nat} {s : State} (h : (s.at t).pwr.mode = .active) :
    execUnwarnedLoss t s = .next (s.at t).evrLost.workStops.pnlOff.lostUnwarned := by
  simp only [execUnwarnedLoss, h]

/-- Before RDY_N, and with TMODE high, nothing of the work runs: the queued frames alone are lost. -/
theorem execUnwarnedLoss_of_held_or_tmode {t : Nat} {s : State} (h : (s.at t).pwr.mode = .held ∨ (s.at t).pwr.mode = .tmode) :
    execUnwarnedLoss t s = .next ({ s.at t with queue := [] } : State).evrLost.pnlOff.lostUnwarned := by
  rcases h with h | h <;> simp only [execUnwarnedLoss, h]

/-- After a warning the lock-out decides whether the stop was complete (R40 step 6). -/
theorem execUnwarnedLoss_of_locked {t : Nat} {s : State} (h : (s.at t).pwr.mode = .locked) :
    execUnwarnedLoss t s =
      if (s.at t).now < (s.at t).pwr.lockAt then .next (s.at t).evrLost.pnlOff.lostUnwarned
      else .next { (s.at t).pnlOff with pwr := { (s.at t).pwr with mode := .backup } } := by
  simp only [execUnwarnedLoss, h, State.closing, decide_true, Bool.true_and, decide_eq_true_eq]

theorem execCellarStop_of_backup {t : Nat} {s : State} (h : (s.at t).pwr.mode = .backup) :
    execCellarStop t s = .next { s.at t with pwr := { (s.at t).pwr with mode := .off, cellarLost := true } } :=
  congrArg Host.Outcome.next (if_pos h)

/-! ### AVDD (R57) -/

theorem execAvddLost_of_valid {t : Nat} {s : State} (hw : (s.at t).avddWatched = true) (h : (s.at t).pwr.avddOk = true) :
    execAvddLost t s = .next ({ s.at t with pwr := { (s.at t).pwr with avddOk := false } } : State).sacAvddLost.dynAvddLost :=
  if_neg (by simp [hw, h])

theorem execAvddRestored_of_fallen {t : Nat} {s : State} (hw : (s.at t).avddWatched = true) (h : (s.at t).pwr.avddOk = false) :
    execAvddRestored t s =
      .next ({ s.at t with pwr := { (s.at t).pwr with avddOk := true, avddFrom := some (s.at t).now } } : State).sacAvddBack.dynAvddBack :=
  if_neg (by simp [hw, h])

/-- Settles O39: each command finds the mode that its meaning asks for. -/
theorem supplyCompletes : Obligations.SupplyCompletes := by
  intro t ready lock pfwLow vf18 fails s u
  refine ⟨fun hstopped => ?startUp, execPfwHoldRelease_of_held, fun hready => ?warning, execPfwWithdrawn_of_locked fails,
    execUnwarnedLoss_of_active, execUnwarnedLoss_of_held_or_tmode, fun hlocked => ⟨fun hearly => ?unwarned, fun hlate => ?warned⟩,
    execCellarStop_of_backup, execAvddLost_of_valid, execAvddRestored_of_fallen⟩
  case startUp =>
    exact ⟨execStartUp_of_stopped ready true pfwLow vf18 fails hstopped, execStartUp_of_stopped ready false true vf18 fails hstopped,
      execStartUp_of_stopped ready false false vf18 fails hstopped⟩
  case warning =>
    change execPowerFailWarning t lock s = _
    simp only [execPowerFailWarning, u, hready, Bool.not_true, Bool.false_eq_true, if_false]
  case unwarned => exact (execUnwarnedLoss_of_locked hlocked).trans (if_pos hearly)
  case warned => exact (execUnwarnedLoss_of_locked hlocked).trans (if_neg (Nat.not_lt.mpr hlate))

end Sys2Proof.Machine
end

section
/-! SUPPORT. What the frames of the host port and the trapdoor answer, and how a held read gets its result (R69–R77, R95, R499, R517). -/

namespace Sys2Proof.Machine

open Sys2Proof

/-! ### Frames on an open port (R69, R74, R75, R77, R499, R517) -/

section
variable {t : Nat} {port : Port} {s : State} (hopen : (s.at t).frameOpen port = true)
include hopen

theorem execRd1_of_open (a n hz ns : Nat) (ecc : EccFinds) :
    execRd1 t port a n hz ns ecc s = .next (((s.at t).readFrame port 8 a n hz ns ecc).frameEnd port) :=
  congrArg Host.Outcome.next (if_pos hopen)

theorem execTlyGo_of_open :
    execTlyGo t port s = .next (((s.at t).readFrame port 8 tlyGoAddr 4 0 0 { corrected := [], lost := [] }).frameEnd port) :=
  congrArg Host.Outcome.next (if_pos hopen)

theorem execHbufRead_of_open {a : Nat} (n : Nat) (ha : inHbuf a = true) :
    execHbufRead t port a n s = .next (((s.at t).readFrame port 8 a n 0 0 { corrected := [], lost := [] }).frameEnd port) :=
  congrArg Host.Outcome.next (if_pos (Bool.and_eq_true_iff.mpr ⟨ha, hopen⟩))

theorem execWr1_of_open (a : Nat) (data : List Byte) (ecc : EccFinds) :
    execWr1 t port a data ecc s = .next (((s.at t).writeFrame port a data ecc).frameEnd port) :=
  congrArg Host.Outcome.next (if_pos hopen)

/-- What is complete of an aborted write frame is written as a frame of its own would be (R77). -/
theorem execFrameAbort_of_open (a : Nat) (data : List Byte) (ecc : EccFinds) :
    execFrameAbort t port a data ecc s = .next (((s.at t).writeFrame port a data ecc).frameEnd port) :=
  congrArg Host.Outcome.next (if_pos hopen)

/-! ### STAT, HRST and undecoded opcodes of a driven port (R70, R71, R77) -/

theorem execStat_of_driven (hdriven : (s.at t).portDriven = true) :
    let w := (s.at t).answers port ((s.at t).statusByte port (s.at t).ready false (!(s.at t).ready)) []
    execStat t port s = .next ((w.setPortState port { w.portState port with wlost := false, clamp := false }).frameEnd port) := by
  simp only [execStat, hopen, hdriven, Bool.not_true, Bool.false_eq_true, if_false]

theorem execUndefinedOpcode_of_undecoded {op : Byte} (hdriven : (s.at t).portDriven = true)
    (hop : (decodedOpcodes port).contains op.toNat = false) :
    execUndefinedOpcode t port op s = .next ((((s.at t).satInc P.HPI R.HPI_ERR_bad_op 1).irq P.HPI 1).frameEnd port) := by
  simp only [execUndefinedOpcode, hopen, hdriven, hop, Bool.not_true, Bool.or_false, Bool.false_eq_true, if_false]

end

theorem execHrst_of_driven {t : Nat} {s : State} (hdriven : (s.at t).portDriven = true) :
    execHrst t s = .next ((s.at t).dropRead .host) :=
  congrArg Host.Outcome.next (if_pos hdriven)

/-! ### Held reads (R72, R74, R95) -/

/-- The read that a port holds has no result yet, and every write before it has taken effect. -/
structure State.HeldReadDue (u : State) (port : Port) (x : ReadBuf) : Prop where
  held : (u.portState port).rbuf = some x
  ready : u.ready = true
  unanswered : x.result = none
  noneAhead : x.ahead = 0

/-- For a due read HELD_READ_COMPLETE and TALLY_LAUNCH have nothing left to wait for. -/
theorem State.HeldReadDue.waits_eq_false {u : State} {port : Port} {x : ReadBuf} (h : u.HeldReadDue port x) :
    (!u.ready || x.result.isSome || decide (x.ahead ≠ 0)) = false := by
  simp [h.ready, h.unanswered, h.noneAhead]

theorem execHeldReadComplete_of_due {t : Nat} {port : Port} {s : State} {x : ReadBuf} (ecc : EccFinds)
    (h : (s.at t).HeldReadDue port x) (hgo : (s.at t).goRead port x.addr = false) :
    let w := if windowBottom ≤ x.addr then (s.at t).eccFinds ecc else s.at t
    let r := w.readNow port x.addr x.base (if inHbuf x.addr then x.len else 256)
    execHeldReadComplete t port ecc s =
      .next (r.2.2.setPortState port { r.2.2.portState port with rbuf := some { x with result := some (r.1, r.2.1) } }) := by
  simp only [execHeldReadComplete, h.held, h.waits_eq_false, hgo, Bool.or_false, Bool.false_eq_true, if_false]

theorem execTallyLaunch_of_due {t : Nat} {port : Port} {s : State} {x : ReadBuf} (h : (s.at t).HeldReadDue port x)
    (hgo : (s.at t).goRead port x.addr = true) :
    let r := (s.at t).tlyGo port
    execTallyLaunch t port s =
      .next (r.2.setPortState port { r.2.portState port with rbuf := some { x with result := some (4, leBytes 4 r.1) } }) := by
  simp only [execTallyLaunch, h.held, h.waits_eq_false, hgo, Bool.not_true, Bool.or_false, Bool.false_eq_true, if_false]

/-- Settles O40: a frame runs as its port is open and driven, and TLY_GO's address alone says which command ends a held read. -/
theorem readsAndWritesComplete : Obligations.ReadsAndWritesComplete := by
  refine ⟨?frames, ?heldReads⟩
  case frames =>
    intro t a n hz ns port data op ecc s u none_
    refine ⟨fun hopen => ?onOpenPort, rfl, rfl, execHrst_of_driven⟩
    exact ⟨execRd1_of_open hopen a n hz ns ecc, execTlyGo_of_open hopen, execHbufRead_of_open hopen n, execWr1_of_open hopen a data ecc,
      execFrameAbort_of_open hopen a data ecc, execStat_of_driven hopen, execUndefinedOpcode_of_undecoded hopen⟩
  case heldReads =>
    intro t port ecc s x u hheld hready hresult hahead
    have hdue : u.HeldReadDue port x := ⟨hheld, hready, hresult, hahead⟩
    exact ⟨execHeldReadComplete_of_due ecc hdue, execTallyLaunch_of_due hdue⟩

end Sys2Proof.Machine
end

section
/-! SUPPORT. The invariant of the node holds after reset and is kept by every step (R75, R87, R89, R96, R228, R333). -/

namespace Sys2Proof.Machine

open Sys2Proof

/-- What keeps every clause keeps the invariant. -/
theorem Keeps.inv {s t : State} (h : Keeps s t) (hs : s.Inv) : t.Inv where
  mem := h.mem hs.mem
  regs := h.regs hs.regs
  staged := h.staged hs.staged
  rings := h.rings hs.rings
  queue := h.queue hs.queue
  group := h.group hs.group
  tallies := h.tallies hs.tallies
  triggers := h.triggers hs.triggers
  poison := h.poison hs.poison

/-- No clause reads the commands that wait or the timebase. -/
theorem State.Inv.withPending_now {s : State} (hs : s.Inv) (l : List Instr) (n : Nat) :
    ({ s.withPending l with now := n } : State).Inv :=
  ⟨hs.mem, hs.regs, hs.staged, hs.rings, hs.queue, hs.group, hs.tallies, hs.triggers, hs.poison⟩

/-- Settles O3: after reset nothing is listed, queued or outstanding, so every clause is about empty lists. -/
theorem resetMeetsInv : Obligations.ResetMeetsInv where
  mem := rfl
  regs := rfl
  staged := rfl
  rings := fun _ hr => nomatch hr
  queue := Nat.zero_le _
  group := Nat.zero_le _
  tallies := ⟨Nat.zero_le _, Nat.zero_le _⟩
  triggers := Nat.zero_le _
  poison := fun _ ha => nomatch ha

/-- Settles O4: a step idles, or carries out the command at the front of the queue, which keeps every clause (`exec_keeps`). -/
theorem stepKeepsInv : Obligations.StepKeepsInv := by
  intro s t hs hstep
  unfold step at hstep
  cases hp : s.pending with
  | nil =>
    rw [hp] at hstep
    exact Host.Outcome.next.inj hstep ▸ hs
  | cons c rest =>
    rw [hp] at hstep
    obtain ⟨u, hu, hkeeps⟩ := exec_keeps c (s.withPending rest)
    obtain rfl : u = t := Host.Outcome.next.inj (hu.symm.trans hstep)
    exact hkeeps.inv (hs.withPending_now rest _)

end Sys2Proof.Machine
end

section
/-! SUPPORT. Clamp rings, discards, the group and locked pages (R87–R90). -/

namespace Sys2Proof.Machine

open Sys2Proof

/-! ### The clamp ring (R87) -/

/-- A ring put back is found at its page; an empty one is not listed, and a page that is not listed has an empty ring. -/
theorem State.ring_setRing_same (s : State) (r : ClampRing) : (s.setRing r).ring r.page = r := by
  have hgone : (s.rings.filter (fun x => decide (x.page ≠ r.page))).find? (fun x => decide (x.page = r.page)) = none :=
    List.find?_eq_none.2 fun x hx => by simpa using (List.mem_filter.1 hx).2
  simp only [State.ring, State.setRing]
  split
  next hempty =>
    obtain ⟨hentries, hlost⟩ := hempty
    rw [hgone, ← hentries, ← hlost]
    rfl
  next => simp only [List.find?_cons, decide_true, Option.getD_some]

/-- The ring of a page after a clamp on it. -/
def ClampRing.clamped (r : ClampRing) (off lsb : Nat) (src : Bool) (wr st : Nat) : ClampRing :=
  if r.entries.length < 8 then
    { r with entries := r.entries ++ [{ word := off / 4 % 1024, lsb := lsb, src := src, wr := word wr, st := word st }] }
  else { r with lost := satAdd 2047 r.lost 1 }

theorem ClampRing.clamped_page (r : ClampRing) (off lsb : Nat) (src : Bool) (wr st : Nat) :
    (r.clamped off lsb src wr st).page = r.page := by
  unfold ClampRing.clamped
  split <;> rfl

theorem State.ring_clampAt_same (s : State) (b off lsb : Nat) (src : Bool) (wr st : Nat) :
    (s.clampAt b off lsb src wr st).ring b = (s.ring b).clamped off lsb src wr st := by
  have hpage : ((s.ring b).clamped off lsb src wr st).page = b := (ClampRing.clamped_page ..).trans (s.ring_page b)
  have hring := s.ring_setRing_same ((s.ring b).clamped off lsb src wr st)
  rwa [hpage] at hring

/-- The bit of an event that has just occurred reads 1. -/
theorem State.getLsbD_irq (s : State) (b n : Nat) (hn : n < 32) : ((s.irq b n).reg (b + 0x20)).getLsbD n = true := by
  rw [State.reg_irq, BitVec.getLsbD_or, BitVec.getLsbD_ofNat, Nat.testBit_two_pow_self, Bool.and_true, decide_eq_true hn, Bool.or_true]

theorem satAdd_one (top n : Nat) : satAdd top n 1 = Nat.min top (n + 1) := by
  unfold satAdd
  split
  · exact (Nat.min_eq_left (by omega)).symm
  · exact (Nat.min_eq_right (by omega)).symm

/-- Settles O10: the ring takes the entry or counts it as lost, and the event and the sticky bits follow in either case. -/
theorem clampRing : Obligations.ClampRing := by
  intro s b off lsb wr st src t r
  have hring : t.ring b = r.clamped off lsb src wr st := s.ring_clampAt_same b off lsb src wr st
  refine ⟨fun hroom => ?room, fun hfull => ?full, State.getLsbD_irq _ b 31 (by decide), rfl, rfl,
    fun c hc => s.ring_clampAt_ne _ _ _ _ _ _ c hc⟩
  case room =>
    rw [hring, ClampRing.clamped, if_pos hroom]
    exact ⟨rfl, rfl⟩
  case full =>
    rw [hring, ClampRing.clamped, if_neg (by omega)]
    exact ⟨rfl, satAdd_one 2047 r.lost⟩

/-! ### Discards (R88) -/

theorem SMap.get?_dropRange_inside {α : Type} (m : SMap α) (lo hi a : Nat) (h : lo ≤ a ∧ a < hi) : SMap.get? (SMap.dropRange m lo hi) a = none := by
  induction m with
  | nil => rfl
  | cons e m ih =>
    unfold SMap.dropRange at ih ⊢
    by_cases hk : e.1 < lo ∨ hi ≤ e.1
    · rw [List.filter_cons_of_pos (by simpa using hk)]
      exact (if_neg (by omega)).trans ih
    · rwa [List.filter_cons_of_neg (by simpa using hk)]

theorem SMap.get?_dropRange_outside {α : Type} (m : SMap α) (lo hi a : Nat) (h : a < lo ∨ hi ≤ a) :
    SMap.get? (SMap.dropRange m lo hi) a = SMap.get? m a := by
  induction m with
  | nil => rfl
  | cons e m ih =>
    unfold SMap.dropRange at ih ⊢
    by_cases hk : e.1 < lo ∨ hi ≤ e.1
    · rw [List.filter_cons_of_pos (by simpa using hk)]
      exact if_congr Iff.rfl rfl ih
    · rw [List.filter_cons_of_neg (by simpa using hk), ih]
      exact (if_neg (by omega)).symm

section
variable (s : State) (b : Nat)

theorem State.discardPage_staged : (s.discardPage b).staged = SMap.dropRange s.staged b (b + 0x1000) := by
  simp only [State.discardPage, State.setFv_staged]
  split <;> rfl

theorem State.discardPage_group : (s.discardPage b).group = s.group.filter (fun x => decide (x ≠ b)) := by
  simp only [State.discardPage, State.setFv_group]
  split <;> rfl

theorem State.discardPage_rings : (s.discardPage b).rings = s.rings := State.discardPage_moves .rings rfl

theorem State.discardPage_stagedLists (h : b = P.EVR) : (s.discardPage b).evr.stagedLists = [] := by
  simp only [State.discardPage, State.setFv_evr, if_pos h]

theorem State.not_mem_discardPage_group : b ∉ (s.discardPage b).group := by
  rw [State.discardPage_group]
  exact fun h => of_decide_eq_true (List.mem_filter.1 h).2 rfl

end

theorem flagBit_le (c : Bool) (i : Nat) : flagBit c i ≤ 2 ^ i := by
  unfold flagBit
  split
  · exact le_rfl
  · exact Nat.zero_le _

/-- PG_STAT.joined (bit 6) reads 0 on a page outside the group (Table 03-5). -/
theorem State.pgStat_joined_of_not_mem (s : State) (k : Kind) (i b : Nat) (h : b ∉ s.group) : s.pgStat k i b / 64 % 2 = 0 := by
  have hjoined : flagBit (s.group.contains b) 6 = 0 := by
    rw [List.contains_eq_mem, decide_eq_false h]
    rfl
  simp only [State.pgStat, hjoined]
  have hready := flagBit_le (s.pageReady k) 0
  have hclamp := flagBit_le (!(s.ring b).entries.isEmpty || decide ((s.ring b).lost ≠ 0)) 1
  have hlocked := flagBit_le (s.fb b R.PG_STAT_locked) 2
  have hfault := flagBit_le (s.pageOn k && s.pageFault k i b) 3
  have hstaged := flagBit_le (s.fb b R.PG_STAT_staged) 4
  omega

/-- Settles O11: what is staged on the page leaves with it, and a page outside the group does not read as joined. -/
theorem discardDropsStaged : Obligations.DiscardDropsStaged := by
  intro s k i b _ _ t
  have hstaged : t.staged = SMap.dropRange s.staged b (b + 0x1000) := s.discardPage_staged b
  have hgroup : b ∉ t.group := s.not_mem_discardPage_group b
  refine ⟨fun a hlo hhi => ?_, fun a ha => ?_, s.discardPage_stagedLists b, ?_, hgroup, t.pgStat_joined_of_not_mem k i b hgroup,
    s.discardPage_rings b⟩
  · rw [hstaged, SMap.get?_dropRange_inside _ _ _ _ ⟨hlo, hhi⟩]
  · rw [hstaged, SMap.get?_dropRange_outside _ _ _ _ ha]
  · exact State.fv_setFv_same _ b R.PG_STAT_staged 0 (by decide)

/-! ### The group (R89) -/

section
variable {s : State} {b : Nat}

theorem State.joinPage_of_mem (h : b ∈ s.group) : s.joinPage b = s := if_pos (List.contains_iff_mem.2 h)

theorem State.joinPage_of_not_mem (h : b ∉ s.group) :
    s.joinPage b = if 64 ≤ s.group.length then s.clampAt b 0x0C 4 true 1 0 else { s with group := s.group ++ [b] } :=
  if_neg (mt List.contains_iff_mem.1 h)

theorem State.groupCommit_of_nil (h : s.group = []) : s.groupCommit = s := if_pos (by rw [h]; rfl)

/-- HPI_CTRL.gc_go with a joined page: the pages commit out of the emptied group, HPI_GC.seq and gc_done follow (R89). -/
theorem State.groupCommit_of_ne_nil (h : s.group ≠ []) :
    s.groupCommit = ((({ s with group := [] } : State).commitAll s.group).wrapInc P.HPI R.HPI_GC_seq 1).irq P.HPI 3 :=
  if_neg (by simpa using h)

end

/-- Settles O12: the joins by what the group holds, the group commit by whether it holds any page. -/
theorem groupOfPages : Obligations.GroupOfPages := by
  intro s b
  refine ⟨State.joinPage_of_mem, fun hb hroom => ?joins, fun hb hfull => ?clamps, State.groupCommit_of_nil, fun hne => ?commits⟩
  case joins => rw [State.joinPage_of_not_mem hb, if_neg (by omega)]
  case clamps =>
    rw [State.joinPage_of_not_mem hb, if_pos hfull]
    exact ⟨rfl, rfl⟩
  case commits =>
    rw [State.groupCommit_of_ne_nil hne]
    have hgroup : (({ s with group := [] } : State).commitAll s.group).group = [] := State.commitAll_moves .group rfl
    exact ⟨hgroup, State.getLsbD_irq _ P.HPI 3 (by decide)⟩

/-! ### Words of PG_CTRL and locked pages (R90) -/

/-- The action bits of a word of PG_CTRL that are 1 (Table 03-6). -/
def pgActions (v : Word) : List Nat := [0, 1, 2, 3, 4].filter (fun j => v.getLsbD j)

section
variable {s : State} {p : Port} {b : Nat} {v : Word}

/-- UNLOCK: with its key, and on a sealed page in a session of level 2 in SEALED (R90). -/
theorem State.pgCtrl_unlock (h : pgActions v = [3]) :
    s.pgCtrl p b v =
      if Word.bits v 8 8 ≠ 0x5A || (s.sealedPages.contains b && !(decide (s.life = 2) && decide (s.level p = 2))) then
        s.clampAt b 0x0C 3 true 1 0
      else s.setFv b R.PG_STAT_locked 0 := by
  unfold pgActions at h
  simp only [State.pgCtrl, h]

/-- Any other single action: a clamp on a page that does not store, else what its bit names (R85, R88–R90). -/
theorem State.pgCtrl_action {n : Nat} (h : pgActions v = [n]) (hn : n ≠ 3) :
    s.pgCtrl p b v =
      if !s.mayStore p b then s.clampAt b 0x0C n true 1 0
      else if n = 0 then s.commitPage b
      else if n = 1 then s.discardPage b
      else if n = 2 then s.setFv b R.PG_STAT_locked 1
      else s.joinPage b := by
  unfold pgActions at h
  simp only [State.pgCtrl, h]

theorem State.mayStore_of_locked (h : s.fb b R.PG_STAT_locked = true) : s.mayStore p b = false := by
  rw [State.mayStore, h, Bool.not_true, Bool.false_and]

end

/-- A written field of a page that does not store: nothing, or a clamp where the field or its staged copy would have changed. -/
theorem State.storeField_of_not_may {s : State} {p : Port} {k : Kind} {b off : Nat} {now v : Word} {f : Field} (h : f.acc = .rw ∨ f.acc = .rws) :
    s.storeField p k b off false now v f =
      if Word.bits v f.lsb f.width = Word.bits now f.lsb f.width ∧ (f.acc = .rws →
          Word.bits v f.lsb f.width = Word.bits (s.stagedWord b (homeOff k off (s.objDir true k b off))) f.lsb f.width) then s
      else s.clampAt b off f.lsb true (Word.bits v f.lsb f.width) (Word.bits now f.lsb f.width) := by
  rcases h with h | h <;> simp [State.storeField, h]

/-- Settles O13: a locked page does not store, and PG_CTRL of it acts on unlock alone, with its key and its session. -/
theorem lockedPage : Obligations.LockedPage := by
  intro s p k b off now v f only
  refine ⟨fun hlocked => ⟨State.mayStore_of_locked hlocked, ?field, ?actions⟩, fun h3 hkey hsealed => ?unlocks, fun h3 hbad => ?refused⟩
  case field =>
    intro was staged got hacc
    rw [State.mayStore_of_locked hlocked]
    exact State.storeField_of_not_may hacc
  case actions =>
    intro n hn honly
    have hn3 : n ≠ 3 := fun e => by rw [e] at hn; revert hn; decide
    rw [State.pgCtrl_action honly hn3, State.mayStore_of_locked hlocked]
    rfl
  case unlocks =>
    rw [State.pgCtrl_unlock h3, hkey, hsealed]
    have hfv : (s.setFv b R.PG_STAT_locked 0).fv b R.PG_STAT_locked = 0 := State.fv_setFv_same s b R.PG_STAT_locked 0 (by decide)
    exact decide_eq_false (not_not.2 hfv)
  case refused =>
    rw [State.pgCtrl_unlock h3]
    refine if_pos ?_
    rcases hbad with hkey | ⟨hsealed, -, hlevel⟩
    · simp [hkey]
    · simp only [hsealed, decide_eq_false hlevel, Bool.and_false, Bool.not_false, Bool.and_true, Bool.or_true]

end Sys2Proof.Machine
end

section
/-! SUPPORT. The interrupt line (R92) and the status byte (R71). -/

namespace Sys2Proof.Machine

open Sys2Proof

/-! ### Entries of a sparse map -/

theorem SMap.mem_of_get? {α : Type} {m : SMap α} {a : Nat} {v : α} (h : SMap.get? m a = some v) : (a, v) ∈ m := by
  induction m with
  | nil => cases h
  | cons e m ih =>
    by_cases ha : a = e.1
    · obtain rfl : e.2 = v := Option.some.inj ((if_pos ha).symm.trans h)
      exact ha ▸ List.mem_cons_self
    · exact List.mem_cons_of_mem _ (ih ((if_neg ha).symm.trans h))

theorem SMap.get?_of_mem {α : Type} {m : SMap α} {lo a : Nat} {v : α} (hm : SMap.rising lo m = true) (h : (a, v) ∈ m) :
    SMap.get? m a = some v := by
  induction m generalizing lo with
  | nil => cases h
  | cons e m ih =>
    have hrest : SMap.rising (e.1 + 1) m = true := (Bool.and_eq_true_iff.1 hm).2
    rcases List.mem_cons.1 h with rfl | h
    · exact if_pos rfl
    · have hfound := ih hrest h
      have ha : a ≠ e.1 := fun ha => by
        rw [SMap.get?_below m a (e.1 + 1) (by omega) hrest] at hfound
        cases hfound
      exact (if_neg ha).trans hfound

/-! ### The interrupt line -/

/-- A common register below PG_SEQ that nothing has written reads 0. -/
theorem regDflt_common {a : Nat} (h : a % 0x1000 < 0x30) : regDflt a = 0#32 := by
  unfold regDflt
  split
  · exact if_pos h
  · rfl

theorem State.hirq_iff (s : State) :
    s.hirq = true ↔ ∃ a w, (a, w) ∈ s.regs ∧ a % 0x1000 = 0x20 ∧ w &&& s.reg (a + 4) ≠ 0#32 := by
  simp [State.hirq, State.irqPages, List.filter_eq_nil_iff]

/-- Settles O15: a page whose PG_IRQ_STAT nothing has written has no event, so a page with an event is listed. -/
theorem interruptLine : Obligations.InterruptLine := by
  intro s hs
  rw [State.hirq_iff]
  constructor
  · rintro ⟨a, w, hmem, hoff, hevent⟩
    have ha : a - 0x20 + 0x20 = a := by omega
    have hreg : s.reg a = w := by rw [State.reg, SMap.get, SMap.get?_of_mem hs hmem, Option.getD_some]
    refine ⟨a - 0x20, by omega, ?_⟩
    rwa [ha, show a - 0x20 + 0x24 = a + 4 by omega, hreg]
  · rintro ⟨b, hb, hevent⟩
    cases hget : SMap.get? s.regs (b + 0x20) with
    | none =>
      have hreg : s.reg (b + 0x20) = 0#32 := by
        rw [State.reg, SMap.get, hget, Option.getD_none, regDflt_common (by omega)]
      rw [hreg, BitVec.zero_and] at hevent
      exact absurd rfl hevent
    | some w =>
      have hreg : s.reg (b + 0x20) = w := by rw [State.reg, SMap.get, hget, Option.getD_some]
      exact ⟨b + 0x20, w, SMap.mem_of_get? hget, by omega, by rwa [← hreg]⟩

/-! ### The status byte -/

/-- A byte of seven flags has each flag at its bit, and bit 7 is 0. -/
theorem getLsbD_flags : ∀ f0 f1 f2 f3 f4 f5 f6 : Bool,
    let b := byte (flagBit f0 0 + flagBit f1 1 + flagBit f2 2 + flagBit f3 3 + flagBit f4 4 + flagBit f5 5 + flagBit f6 6)
    b.getLsbD 0 = f0 ∧ b.getLsbD 1 = f1 ∧ b.getLsbD 2 = f2 ∧ b.getLsbD 3 = f3 ∧ b.getLsbD 4 = f4 ∧ b.getLsbD 5 = f5 ∧
    b.getLsbD 6 = f6 ∧ b.getLsbD 7 = false := by decide

/-- Settles O9: the status byte is made of its flags (Table 03-2). -/
theorem statusByte : Obligations.StatusByte := fun s p ready err hold =>
  getLsbD_flags ready err (s.portState p).wlost (s.portState p).clamp s.hirq s.halert hold

end Sys2Proof.Machine
end

section
/-! SUPPORT. Tally numbers, completions and the operations that tallies run (R95–R103). -/

namespace Sys2Proof.Machine

open Sys2Proof

/-! ### Tally numbers (R96) -/

theorem nextTally_range (n : Nat) : 1 ≤ nextTally n ∧ nextTally n ≤ 0xFFFF := by
  unfold nextTally
  split <;> omega

/-- The numbers from 1 to 0xFFFF form one cycle. -/
theorem nextTally_iterate {n : Nat} (h1 : 1 ≤ n) (h2 : n ≤ 0xFFFF) (i : Nat) : nextTally^[i] n = (n - 1 + i) % 0xFFFF + 1 := by
  induction i with
  | zero => show n = _; omega
  | succ i ih =>
    rw [Function.iterate_succ_apply', ih, nextTally]
    split <;> omega

theorem State.freeTally_range (s : State) (k n : Nat) : 1 ≤ s.freeTally k n ∧ s.freeTally k n ≤ 0xFFFF := by
  induction k generalizing n with
  | zero => exact nextTally_range n
  | succ k ih =>
    unfold State.freeTally
    split
    · exact ih _
    · exact nextTally_range n

/-- Where the search ends at a number in use, it has passed over none that is free. -/
theorem State.tallyUsed_of_freeTally_used (s : State) {k n : Nat} (h : s.tallyUsed (s.freeTally k n) = true) :
    ∀ i ≤ k, s.tallyUsed (nextTally^[i] (nextTally n)) = true := by
  induction k generalizing n with
  | zero =>
    intro i hi
    obtain rfl : i = 0 := Nat.le_zero.1 hi
    exact h
  | succ k ih =>
    unfold State.freeTally at h
    split at h
    next hused =>
      intro i hi
      cases i with
      | zero => exact hused
      | succ i => exact ih h i (Nat.le_of_succ_le_succ hi)
    next hfree => exact absurd h hfree

/-- The numbers in use. -/
def State.usedNumbers (s : State) : List Nat := s.tly.out.map Tally.num ++ s.tly.cq.map Completion.num

theorem State.tallyUsed_iff (s : State) (n : Nat) : s.tallyUsed n = true ↔ n ∈ s.usedNumbers := by
  simp [State.tallyUsed, State.usedNumbers]

/-- Of 256 numbers in a row one is free while fewer are in use, so the search finds it. -/
theorem State.freeTally_unused (s : State) (n : Nat) (h : s.tly.out.length + s.tly.cq.length < 256) :
    s.tallyUsed (s.freeTally 256 n) = false := by
  by_contra hused
  have hall := s.tallyUsed_of_freeTally_used (Bool.not_eq_false _ ▸ hused)
  obtain ⟨h1, h2⟩ := nextTally_range n
  let tried := (List.range 256).map fun i => nextTally^[i] (nextTally n)
  have hnodup : tried.Nodup := by
    refine List.Nodup.map_on (fun i hi j hj hij => ?_) List.nodup_range
    rw [nextTally_iterate h1 h2, nextTally_iterate h1 h2] at hij
    rw [List.mem_range] at hi hj
    omega
  have hsub : tried ⊆ s.usedNumbers := fun m hm => by
    obtain ⟨i, hi, rfl⟩ := List.mem_map.1 hm
    exact (s.tallyUsed_iff _).1 (hall i (List.mem_range.1 hi).le)
  have hlen := (List.subperm_of_subset hnodup hsub).length_le
  simp only [tried, State.usedNumbers, List.length_map, List.length_range, List.length_append] at hlen
  omega

theorem State.freeTally_of_next_free (s : State) (k n : Nat) (h : s.tallyUsed (nextTally n) = false) : s.freeTally k n = nextTally n := by
  cases k with
  | zero => rfl
  | succ k => exact if_neg (by rw [h]; exact Bool.false_ne_true)

/-! ### Launches (R95, R96) -/

theorem State.fv_of_regs {s t : State} (h : t.regs = s.regs) (b : Nat) (f : Field) : t.fv b f = s.fv b f := by
  simp only [State.fv, State.reg, h]

theorem State.tlyGo_of_full (s : State) (p : Port) (h : s.tallyFull = true) : s.tlyGo p = (0, s.irq P.TLY 2) := if_pos h

theorem State.tlyGo_number (s : State) (p : Port) (h : s.tallyFull = false) :
    (s.tlyGo p).1 = s.freeTally 256 (s.fv P.TLY R.TLY_LAST_last) := by
  unfold State.tlyGo
  rw [if_neg (by rw [h]; exact Bool.false_ne_true)]
  extract_lets
  split <;> rfl

/-- TLY_LAST gives the number issued: what a launch does after it stores the number moves no register of the TLY page. -/
theorem State.fv_tlyGo_last (s : State) (p : Port) (h : s.tallyFull = false) :
    (s.tlyGo p).2.fv P.TLY R.TLY_LAST_last = s.freeTally 256 (s.fv P.TLY R.TLY_LAST_last) := by
  unfold State.tlyGo
  rw [if_neg (by rw [h]; exact Bool.false_ne_true)]
  extract_lets op a a' n tmo u v x y w olc
  have hu : u.fv P.TLY R.TLY_LAST_last = n := by
    have hset : u.fv P.TLY R.TLY_LAST_last = n % 2 ^ 16 := State.fv_setFv_same _ _ _ _ (by decide)
    have hn : n ≤ 0xFFFF := (s.freeTally_range 256 _).2
    rw [hset]
    omega
  have hv : v.fv P.TLY R.TLY_LAST_last = n := by
    unfold v
    split
    · rw [State.fv_setFv_ne _ _ _ _ _ _ (by decide), hu]
    · exact hu
  have hw : w.fv P.TLY R.TLY_LAST_last = n := (State.fv_of_regs (State.learnLaunch_moves .regs rfl) _ _).trans hv
  split
  · exact (State.fv_of_regs (State.tallyRefused_moves .regs rfl) _ _).trans hw
  · exact hw

/-- Settles O16: a launch that is not refused takes the first free number of the cycle. -/
theorem tallyNumbers : Obligations.TallyNumbers := by
  intro s p
  refine ⟨fun hfull => s.tlyGo_of_full p ?_, fun hout hall => ?_, rfl⟩
  · rw [State.tallyFull, Bool.or_eq_true, decide_eq_true_eq, decide_eq_true_eq]
    exact hfull
  · have hroom : s.tallyFull = false := by
      rw [State.tallyFull, Bool.or_eq_false_iff, decide_eq_false_iff_not, decide_eq_false_iff_not]
      omega
    rw [s.tlyGo_number p hroom, s.fv_tlyGo_last p hroom]
    obtain ⟨h1, h2⟩ := s.freeTally_range 256 (s.fv P.TLY R.TLY_LAST_last)
    exact ⟨h1, h2, s.freeTally_unused _ hall, rfl, s.freeTally_of_next_free 256 _⟩

/-! ### Completions (R103) -/

theorem State.irqIf_tly (s : State) (c : Bool) (b n : Nat) : (s.irqIf c b n).tly = s.tly := by
  unfold State.irqIf
  split <;> rfl

/-- An event leaves the page's other events. -/
theorem State.getLsbD_irqIf_of {s : State} {b j : Nat} (c : Bool) (n : Nat) (h : (s.reg (b + 0x20)).getLsbD j = true) :
    ((s.irqIf c b n).reg (b + 0x20)).getLsbD j = true := by
  unfold State.irqIf
  split
  · rw [State.reg_irq, BitVec.getLsbD_or, h, Bool.true_or]
  · exact h

/-- A word of a page from 0x40 on reads as its fields do. -/
theorem State.readWord_block (s : State) (p : Port) {a : Nat} {k : Kind} {i : Nat} (hp : pageAt a = some (k, i)) (ho : 0x40 ≤ a % 0x1000) :
    s.readWord p a = s.blockWord (s.fb P.HPI R.HPI_CFG_view) p k i (pageBase a) (a % 0x1000) := by
  have hlow (n : Nat) (hn : n < 0x40) : a % 0x1000 ≠ n := by omega
  simp only [State.readWord, State.readWordAs, hp]
  rw [if_neg (hlow _ (by decide)), if_neg (hlow _ (by decide)), if_neg (hlow _ (by decide)), if_neg (hlow _ (by decide)),
    if_neg (hlow _ (by decide)), if_neg (hlow _ (by decide)), if_neg (by omega), if_neg (by omega), if_neg (by omega)]

/-- The value that a word's fields show. -/
def fieldSum (l : List Field) (w : Word) : Nat := (l.map (fun f => Word.bits w f.lsb f.width * 2 ^ f.lsb)).sum

/-- The fields follow each other without a gap from bit `lo` to the top of the word. -/
def tiles : Nat → List Field → Bool
  | lo, [] => decide (lo = 32)
  | lo, f :: l => decide (f.lsb = lo) && tiles (lo + f.width) l

/-- Fields without a gap show all of the word from where they begin. -/
theorem fieldSum_of_tiles (w : Word) {l : List Field} : ∀ {lo : Nat}, tiles lo l = true → fieldSum l w = w.toNat / 2 ^ lo * 2 ^ lo := by
  induction l with
  | nil =>
    intro lo h
    obtain rfl : lo = 32 := of_decide_eq_true h
    rw [Nat.div_eq_of_lt w.isLt, Nat.zero_mul]
    rfl
  | cons f l ih =>
    intro lo h
    obtain ⟨hlo, hrest⟩ := Bool.and_eq_true_iff.1 h
    obtain rfl : f.lsb = lo := of_decide_eq_true hlo
    have hq := Nat.mod_add_div' (w.toNat / 2 ^ f.lsb) (2 ^ f.width)
    calc fieldSum (f :: l) w
        _ = Word.bits w f.lsb f.width * 2 ^ f.lsb + w.toNat / 2 ^ (f.lsb + f.width) * 2 ^ (f.lsb + f.width) := by
          rw [← ih hrest, fieldSum, List.map_cons, List.sum_cons, fieldSum]
        _ = (w.toNat / 2 ^ f.lsb % 2 ^ f.width + w.toNat / 2 ^ f.lsb / 2 ^ f.width * 2 ^ f.width) * 2 ^ f.lsb := by
          rw [pow_add, Nat.div_div_eq_div_mul, Word.bits]
          ring
        _ = w.toNat / 2 ^ f.lsb * 2 ^ f.lsb := by rw [hq]

/-- The pages of COR have power with it (Table 01-1). -/
theorem State.pageOn_of_corOn {s : State} {k : Kind} (hk : k.domain = 1) (hon : s.corOn = true) : s.pageOn k = true := by
  simp [State.pageOn, State.domainOn, hk, hon]

/-- A word of TLY that follows from other state reads as that state gives it while COR is powered, where read-only fields show all of it. -/
theorem State.readWord_tly_shown (s : State) (p : Port) {off : Nat} {w : Word} (ho : 0x40 ≤ off ∧ off < 0x1000) (hon : s.corOn = true)
    (hs : s.shown p .tly 0 P.TLY off = some w) (hro : ∀ f ∈ fieldsAt .tly 0 off, f.acc = .ro)
    (htiles : tiles 0 (fieldsAt .tly 0 off) = true) : s.readWord p (P.TLY + off) = w := by
  have hno : (P.TLY + off) / 0x1000 = 2 := by unfold P.TLY; omega
  have hoff : (P.TLY + off) % 0x1000 = off := by unfold P.TLY; omega
  have hbase : pageBase (P.TLY + off) = P.TLY := by rw [pageBase, hno]; rfl
  have hpage : s.pageOn .tly = true := State.pageOn_of_corOn rfl hon
  have hready : s.pageReady .tly = true := hpage
  rw [s.readWord_block p (k := .tly) (i := 0) (by rw [pageAt, hno]; rfl) (hoff.symm ▸ ho.1), hbase, hoff]
  calc s.blockWord (s.fb P.HPI R.HPI_CFG_view) p .tly 0 P.TLY off
      _ = word (fieldSum (fieldsAt .tly 0 off) w) := by
        simp only [State.blockWord, fieldSum, hs, Option.getD_some]
        refine congrArg (fun l : List Nat => word l.sum) (List.map_congr_left fun f hf => ?_)
        simp only [hro f hf, hpage, hready, Bool.true_or, Bool.and_self, if_true]
      _ = w := by rw [fieldSum_of_tiles w htiles]; simp

section
variable {s : State} {c : Completion} {rest : List Completion} (p : Port) (hcq : s.tly.cq = c :: rest) (hon : s.corOn = true)
include hcq hon

theorem State.readWord_cq0 : s.readWord p (P.TLY + 0x74) = word (c.num + c.status * 65536 + c.reason * 16777216) :=
  s.readWord_tly_shown p (by decide) hon (by simp [State.shown, hcq]) (by decide) (by decide)

theorem State.readWord_cq1 : s.readWord p (P.TLY + 0x78) = word c.r0 :=
  s.readWord_tly_shown p (by decide) hon (by simp [State.shown, hcq]) (by decide) (by decide)

theorem State.readWord_cq2 : s.readWord p (P.TLY + 0x7C) = word c.r1 :=
  s.readWord_tly_shown p (by decide) hon (by simp [State.shown, hcq]) (by decide) (by decide)

end

/-- The completion with which an ended tally enters the queue. -/
def Tally.completion (x : Tally) (status reason r0 r1 : Nat) : Completion :=
  { num := x.num, status := status, reason := reason, r0 := r0, r1 := r1, progress := x.fraction }

section
variable {s : State} {x : Tally} {status reason r0 r1 : Nat} (h : x.outcome = some (status, reason, r0, r1))
include h

theorem State.queueCompletion_cq : (s.queueCompletion x).tly.cq = s.tly.cq ++ [x.completion status reason r0 r1] := by
  simp only [State.queueCompletion, h, State.irqIf_tly]
  rfl

theorem State.queueCompletion_event : ((s.queueCompletion x).reg (P.TLY + 0x20)).getLsbD 0 = true := by
  simp only [State.queueCompletion, h]
  exact State.getLsbD_irqIf_of _ 1 (State.getLsbD_irq _ P.TLY 0 (by decide))

theorem State.queueCompletion_high (hlen : (s.queueCompletion x).tly.cq.length = 192) :
    ((s.queueCompletion x).reg (P.TLY + 0x20)).getLsbD 1 = true := by
  rw [State.queueCompletion_cq h] at hlen
  simp only [State.queueCompletion, h]
  refine (congrArg (fun t : State => (t.reg (P.TLY + 0x20)).getLsbD 1) (if_pos (decide_eq_true hlen))).trans ?_
  exact State.getLsbD_irq _ P.TLY 1 (by decide)

end

/-- Settles O17: the queue grows at its end with its events; its front is what TLY_CQ0 to TLY_CQ2 read and TLY_CQ_POP removes. -/
theorem completionQueue : Obligations.CompletionQueue := by
  intro s p x status reason r0 r1 c rest
  refine ⟨fun hout => ⟨State.queueCompletion_cq hout, State.queueCompletion_event hout, State.queueCompletion_high hout⟩, fun hcq hon => ?_⟩
  have hpop : (s.cqPop 1#32).tly.cq = rest := by
    show s.tly.cq.drop 1 = rest
    rw [hcq, List.drop_one, List.tail_cons]
  exact ⟨fun _ _ _ => State.readWord_cq0 p hcq hon, State.readWord_cq1 p hcq hon, State.readWord_cq2 p hcq hon, rfl, hpop⟩

end Sys2Proof.Machine
end

section
/-! SUPPORT. The steps of a tally: start, plain operations, completion and time-out (R97–R103). -/

namespace Sys2Proof.Machine

open Sys2Proof

section
variable {t n : Nat} {s : State} {x : Tally} (hx : (s.at t).tally? n = some x)
include hx

theorem execTallyStart_of_next (hrun : x.running = false) (hout : x.outcome = none) (hpow : (s.at t).tallyPowered x.op = true)
    (hnext : (s.at t).tallyNext x = true) (hmargin : x.op = 0x70 → (s.at t).marginFree = true) :
    let w := (s.at t).setTally { x with running := true }
    execTallyStart t n s = .next (if x.op = 4 then w.setFv P.STO R.STO_STAT_rekey 1 else w) := by
  have hfree : (decide (x.op = 0x70) && !(s.at t).marginFree) = false := by
    by_cases h : x.op = 0x70
    · rw [hmargin h, Bool.not_true, Bool.and_false]
    · rw [decide_eq_false h, Bool.false_and]
  simp [execTallyStart, hx, hrun, hout, hpow, hnext, hfree]

theorem execTallyCompletion_of_ready (hr : (s.at t).ready = true) :
    execTallyCompletion t n s = .next ((s.at t).queueCompletion x) := by
  simp only [execTallyCompletion, hx, hr, if_true]

theorem execTallyTimeout_of_late (hr : (s.at t).ready = true) (hp : (s.at t).pstate ≤ 1) (hout : x.outcome = none)
    (hlate : (s.at t).tallyLate x = true) : execTallyTimeout t n s = .next ((s.at t).tallyStops x 4) := by
  simp [execTallyTimeout, hx, hr, hp, hout, hlate]

/-- The step of NOP after the deadline stops it with status 4 (R100). -/
theorem execNop_of_late (hrun : x.running = true) (hout : x.outcome = none) (hop : x.op = 0) (hr : (s.at t).ready = true)
    (hp : (s.at t).pstate ≤ 1) (hlate : (s.at t).tallyLate x = true) :
    execNop t n s = .next ((s.at t).tallyEnds n 4 0 x.partDone x.partSecond) := by
  have hplain : (s.at t).plainTally n 0x00 = false := by simp [State.plainTally, hx, hlate]
  have hat : (s.at t).tallyAt n 0x00 = some x := by simp [State.tallyAt, hx, hrun, hout, hop, hr, hp]
  simp [execNop, hplain, State.lateStop, hat, hlate]

end

section
variable {t n : Nat} {s : State}

theorem execNop_of_plain (h : (s.at t).plainTally n 0x00 = true) : execNop t n s = .next ((s.at t).tallyDone n 0 0) :=
  congrArg Host.Outcome.next (if_pos h)

theorem execUndefinedOperation_of_plain (h : (s.at t).plainTally n 0xFF = true) :
    execUndefinedOperation t n s = .next ((s.at t).tallyRefused n 1 0 0) :=
  congrArg Host.Outcome.next (if_pos h)

end

theorem State.tallyLate_of_deadline {s : State} {x : Tally} {d : Nat} (h : x.deadline = some d) (hd : d < s.now) : s.tallyLate x = true := by
  rw [State.tallyLate, h]
  exact decide_eq_true hd

/-- Settles O41: each command finds the tally in the condition that its meaning asks for. -/
theorem talliesComplete : Obligations.TalliesComplete := by
  intro t n s x u hx
  exact ⟨execTallyStart_of_next hx, execNop_of_plain, execNop_of_late hx, execUndefinedOperation_of_plain, execTallyCompletion_of_ready hx,
    fun hr hp hout d hd hlt => execTallyTimeout_of_late hx hr hp hout (State.tallyLate_of_deadline hd hlt)⟩

end Sys2Proof.Machine
end

section
/-! SUPPORT. Register words at the front of the write queue that complete with what their page does (R75, R84–R90). -/

namespace Sys2Proof.Machine

open Sys2Proof

/-! ### The rows of a word -/

/-- The row of a word of PG_CTRL by its action bit (Table 03-6). -/
def pgRow : Nat → WriteRow
  | 0 => .commit
  | 1 => .discard
  | 2 => .lock
  | 3 => .unlock
  | _ => .join

/-- The rows of a word of a block's own registers, by the kind of its page. -/
def rowsOfBlock (k : Kind) (off : Nat) (v : Word) : List WriteRow :=
  match k with
  | .sys => rowsOfSys off v
  | .hpi => rowsOfHpi off v
  | .tly => rowsOfTly off v
  | .tbs => rowsOfTbs off v
  | .saf => rowsOfSaf off v
  | .age => rowsOfAge off v
  | .sec => rowsOfSec off v
  | .dbg => rowsOfDbg off v
  | .lnk => rowsOfLnk off v
  | .sc => rowsOfSc off v
  | .spxPl => rowsOfSpxPl off v
  | .sto => rowsOfSto off v
  | .pte => rowsOfPte off v
  | .pteCl => rowsOfPteCl off v
  | .alh => rowsOfAlh off v
  | .fbe => rowsOfFbe off v
  | .evr => rowsOfEvr off v
  | .dio => rowsOfDio off v
  | .lpo => rowsOfLpo off v
  | .lpoCh => rowsOfLpoCh off v
  | .can => rowsOfCan off v
  | .canObj => rowsOfCanObj off v
  | .pnl => rowsOfPnl off v
  | .rmp => rowsOfRmp off v
  | .sac | .cv | .dyn | .dynCh | .spx | .alhLd | .fbeTk => []

section
variable {a : Nat} {v : Word} {k : Kind} {i : Nat} (hp : pageAt a = some (k, i))
include hp

theorem rowsOf_pgCtrl (ho : a % 0x1000 = 0x0C) {n : Nat} (hv : pgActions v = [n]) (hn : n < 5) : rowsOf a v = [pgRow n] := by
  unfold pgActions at hv
  simp only [rowsOf, hp, ho, if_true, hv]
  interval_cases n <;> rfl

theorem rowsOf_clampNext (ho : a % 0x1000 = 0x1C) :
    rowsOf a v = ([(WriteRow.clampNext, v.getLsbD 0), (.clampFlush, v.getLsbD 1)].filter (fun x => x.2)).map (fun x => x.1) := by
  simp +decide only [rowsOf, hp, ho, if_true, if_false]

theorem rowsOf_pgIrqSet (ho : a % 0x1000 = 0x28) : rowsOf a v = [.pgIrqSet] := by
  simp +decide only [rowsOf, hp, ho, if_true, if_false]

theorem rowsOf_block (ho : 0x40 ≤ a % 0x1000) : rowsOf a v = rowsOfBlock k (a % 0x1000) v := by
  have hc : a % 0x1000 ≠ 0x0C := by omega
  have hn : a % 0x1000 ≠ 0x1C := by omega
  have hi : a % 0x1000 ≠ 0x28 := by omega
  simp only [rowsOf, hp, hc, hn, hi, if_false]
  cases k <;> rfl

end

/-! ### What a row's word does -/

section
variable {s : State} {p : Port} {a : Nat} {v : Word} {k : Kind} {i off : Nat} {r : WriteRow}

/-- A row that names a word which a page takes carries the word out. -/
theorem State.takeRow_of_takes (h : s.takes p a v k i off) (hrow : (rowsOf a v).contains r = true) :
    s.takeRow r 0 [] = (s.writeWord p a v 0 []).popWord := by
  have ⟨hready, hfront, _, _, _, hgoes⟩ := h
  exact State.takeRow_front 0 [] hready hfront hrow hgoes

/-- A row of a block's own register: the word's fields are stored and its page acts. -/
theorem State.takeRow_block (h : s.takes p a v k i off) (ho : 0x40 ≤ off) (hrow : (rowsOfBlock k off v).contains r = true) :
    s.takeRow r 0 [] = ((s.stored p a v k i).pageAction s p k i (pageBase a) off v (s.mayStore p (pageBase a)) 0 []).popWord := by
  have ⟨_, _, hp, hoff, _, _⟩ := h
  rw [State.takeRow_of_takes h (by rw [rowsOf_block hp (hoff.symm ▸ ho), hoff]; exact hrow), State.writeWord_page 0 [] h ho]

theorem State.takeRow_pgCtrl {n : Nat} (h : s.takes p a v k i 0x0C) (hv : pgActions v = [n]) (hn : n < 5) :
    s.takeRow (pgRow n) 0 [] = ((s.stored p a v k i).pgCtrl p (pageBase a) v).popWord := by
  have ⟨_, _, hp, hoff, _, _⟩ := h
  rw [State.takeRow_of_takes h (by rw [rowsOf_pgCtrl hp hoff hv hn]; exact List.contains_iff_mem.2 List.mem_cons_self),
    State.writeWord_ctrl 0 [] h]

theorem State.takeRow_clampNext (h : s.takes p a v k i 0x1C) (h0 : v.getLsbD 0 = true) (h1 : v.getLsbD 1 = false) :
    let w := s.stored p a v k i
    let c := w.ring (pageBase a)
    s.takeRow .clampNext 0 [] = (w.setRing { c with entries := c.entries.drop 1 }).popWord := by
  have ⟨_, _, hp, hoff, _, _⟩ := h
  rw [State.takeRow_of_takes h (by rw [rowsOf_clampNext hp hoff, h0, h1]; rfl), State.writeWord_clamp 0 [] h]
  simp only [State.clampNext, h0, h1, Bool.false_eq_true, if_true, if_false]

theorem State.takeRow_clampFlush (h : s.takes p a v k i 0x1C) (h1 : v.getLsbD 1 = true) :
    let w := s.stored p a v k i
    s.takeRow .clampFlush 0 [] = (w.setRing { w.ring (pageBase a) with entries := [], lost := 0 }).popWord := by
  have ⟨_, _, hp, hoff, _, _⟩ := h
  rw [State.takeRow_of_takes h (by rw [rowsOf_clampNext hp hoff, h1]; cases v.getLsbD 0 <;> rfl), State.writeWord_clamp 0 [] h]
  simp only [State.clampNext, h1, if_true]

theorem State.takeRow_pgIrqSet (h : s.takes p a v k i 0x28) :
    let w := s.stored p a v k i
    s.takeRow .pgIrqSet 0 [] = (w.setReg (pageBase a + 0x20) (w.reg (pageBase a + 0x20) ||| v)).popWord := by
  have ⟨_, _, hp, hoff, _, _⟩ := h
  rw [State.takeRow_of_takes h (by rw [rowsOf_pgIrqSet hp hoff]; rfl), State.writeWord_irq 0 [] h]

end

/-! ### Words of PG_CTRL and HPI_CTRL -/

section
variable {w : State} {p : Port} {b : Nat} {v : Word}

theorem State.pgCtrl_unlocks (hv : pgActions v = [3]) (hkey : Word.bits v 8 8 = 0x5A)
    (hsealed : w.sealedPages.contains b = false ∨ (w.life = 2 ∧ w.level p = 2)) : w.pgCtrl p b v = w.setFv b R.PG_STAT_locked 0 := by
  rw [State.pgCtrl_unlock hv]
  refine if_neg ?_
  rcases hsealed with h | ⟨hlife, hlevel⟩
  · simp only [hkey, h, ne_eq, not_true_eq_false, decide_false, Bool.false_and, Bool.or_self, Bool.false_eq_true, not_false_eq_true]
  · simp [hkey, hlife, hlevel]

theorem State.groupCommit_eq (s : State) :
    s.groupCommit = if s.group ≠ [] then
      ((({ s with group := [] } : State).commitAll s.group).wrapInc P.HPI R.HPI_GC_seq 1).irq P.HPI 3 else s := by
  split
  next h => exact State.groupCommit_of_ne_nil h
  next h => exact State.groupCommit_of_nil (not_not.1 h)

/-- The actions of a word of HPI_CTRL, in the order of their bits (R89, R94). -/
theorem State.pageAction_hpiCtrl (w old : State) (p : Port) (i b : Nat) (v : Word) (may : Bool) :
    w.pageAction old p .hpi i b 0x4C v may 0 [] =
      let w := if v.getLsbD 0 then w.setReg (P.HPI + 0x48) 0#32 else w
      let w := if v.getLsbD 1 ∧ w.group ≠ [] then
        ((({ w with group := [] } : State).commitAll w.group).wrapInc P.HPI R.HPI_GC_seq 1).irq P.HPI 3 else w
      if v.getLsbD 2 then ({ w with group := [] } : State) else w := by
  simp only [State.pageAction, ne_eq, not_true_eq_false, if_false, State.groupCommit_eq, ite_and]

end

/-- Settles O24: a word of PG_CTRL does what its one bit names, the other words what their bits ask for in order. -/
theorem pageWords : Obligations.PageWords := by
  refine ⟨?ctrl, ?clampAndIrq, ?hpiCtrl⟩
  case ctrl =>
    intro t s p a v k i h w b only
    have hctrl {n : Nat} (hv : only n) (hn : n < 5) : (s.at t).takeRow (pgRow n) 0 [] = (w.pgCtrl p b v).popWord :=
      State.takeRow_pgCtrl h hv hn
    have hacts {n : Nat} (hv : only n) (hn : n < 5) (h3 : n ≠ 3) (hmay : w.mayStore p b = true) :
        (s.at t).takeRow (pgRow n) 0 [] = (if n = 0 then w.commitPage b else if n = 1 then w.discardPage b
          else if n = 2 then w.setFv b R.PG_STAT_locked 1 else w.joinPage b).popWord := by
      rw [hctrl hv hn, State.pgCtrl_action hv h3, hmay]
      rfl
    refine ⟨fun hv hmay => ?_, fun hv hmay => ?_, fun hv hmay => ?_, fun hv hkey hsealed => ?_, fun hv hmay hgroup hroom => ?_⟩
    · exact congrArg Host.Outcome.next (hacts (n := 0) hv (by decide) (by decide) hmay)
    · exact congrArg Host.Outcome.next (hacts (n := 1) hv (by decide) (by decide) hmay)
    · exact congrArg Host.Outcome.next (hacts (n := 2) hv (by decide) (by decide) hmay)
    · exact congrArg Host.Outcome.next ((hctrl (n := 3) hv (by decide)).trans (congrArg State.popWord (State.pgCtrl_unlocks hv hkey hsealed)))
    · have hb : b ∉ w.group := fun hb => by rw [List.contains_iff_mem.2 hb] at hgroup; cases hgroup
      have hjoin : w.joinPage b = { w with group := w.group ++ [b] } := by rw [State.joinPage_of_not_mem hb, if_neg (by omega)]
      exact congrArg Host.Outcome.next ((hacts (n := 4) hv (by decide) (by decide) hmay).trans (congrArg State.popWord hjoin))
  case clampAndIrq =>
    intro t s p a v k i w r
    refine ⟨fun h => ⟨fun h0 h1 => ?_, fun h1 => ?_⟩, fun h => ?_⟩
    · exact congrArg Host.Outcome.next (State.takeRow_clampNext h h0 h1)
    · exact congrArg Host.Outcome.next (State.takeRow_clampFlush h h1)
    · exact congrArg Host.Outcome.next (State.takeRow_pgIrqSet h)
  case hpiCtrl =>
    intro t s p a v i h w0 w1 w2 w3
    have hword {r : WriteRow} (hr : (rowsOfHpi 0x4C v).contains r = true) : (s.at t).takeRow r 0 [] = w3.popWord :=
      (State.takeRow_block h (by decide) hr).trans (congrArg State.popWord (State.pageAction_hpiCtrl ..))
    refine ⟨fun h0 => congrArg Host.Outcome.next (hword ?_), fun h1 => congrArg Host.Outcome.next (hword ?_),
      fun h2 => congrArg Host.Outcome.next (hword ?_)⟩
    · simp [rowsOfHpi, R.HPI_CTRL_clr_err, h0]
    · simp [rowsOfHpi, R.HPI_CTRL_gc_go, h1]
    · simp [rowsOfHpi, R.HPI_CTRL_gc_abandon, h2]

end Sys2Proof.Machine
end

section
/-! SUPPORT. Words of the measurement pages, and words that no row names (R84, R101, R103, R109, R135, R200, R228–R230, R243, R248, R262). -/

namespace Sys2Proof.Machine

open Sys2Proof

section
variable {w old : State} {p : Port} {b i : Nat} {v : Word}

/-- TLY_CANCEL of a tally that stands without an outcome (R101). -/
theorem State.tlyCancel_of_standing {n : Nat} {x : Tally} (hx : w.tally? n = some x) (hout : x.outcome = none) :
    w.tlyCancel n = (w.tallyStops x 5).setFv P.TLY R.TLY_CANCEL_RES_res 0 := by
  simp only [State.tlyCancel, hx, hout, Option.isSome_none, Bool.false_eq_true, if_false]

theorem State.cqPop_of_pop (h0 : v.getLsbD 0 = true) : w.cqPop v = { w with tly := { w.tly with cq := w.tly.cq.drop 1 } } := if_pos h0

theorem State.planeCtrl_of_restart (h0 : v.getLsbD 0 = true) :
    w.planeCtrl i v = w.setPlane i { w.plane i with restarts := (w.plane i).restarts + 1 } := if_pos h0

theorem State.scCtrl_eq :
    w.scCtrl i v =
      w.setSc i { w.sc i with test := if v.getLsbD 0 ∧ (w.sc i).test = 0 then 1 else (w.sc i).test, flip := (w.sc i).flip || v.getLsbD 1 } := by
  simp only [State.scCtrl, Bool.and_eq_true, decide_eq_true_eq]

/-- PTE_SIM_PT where the entry's active bit is stored as written (R248). -/
theorem State.pageAction_simPt (h : (w.simWrite p (Word.bits v 0 25) (v.getLsbD 31)).2 = v.getLsbD 31) :
    w.pageAction old p .pte i b R.PTE_SIM_PT_point.off v true 0 [] = (w.simWrite p (Word.bits v 0 25) (v.getLsbD 31)).1 := by
  have hkept : ¬(v.getLsbD 31 = true ∧ (!(w.simWrite p (Word.bits v 0 25) (v.getLsbD 31)).2) = true) := by
    rw [h]
    cases v.getLsbD 31 <;> simp
  exact if_neg hkept

end

/-- Settles O25: each word stores its fields and its page does what its bits name. -/
theorem measurementWords : Obligations.MeasurementWords := by
  refine ⟨?tally, ?measure, ?points⟩
  case tally =>
    intro t s p a v i w
    refine ⟨fun h hmay x hx hout => ?cancel, fun h h0 => ?pop⟩
    case cancel =>
      have hrow : (rowsOfBlock .tly 0x84 v).contains .tlyCancel = true := by simp [rowsOfBlock, rowsOfTly, R.TLY_CANCEL_tally]
      refine congrArg Host.Outcome.next ((State.takeRow_block h (by decide) hrow).trans ?_)
      rw [hmay]
      exact congrArg State.popWord (State.tlyCancel_of_standing hx hout)
    case pop =>
      have hrow : (rowsOfBlock .tly 0x80 v).contains .tlyCqPop = true := by simp [rowsOfBlock, rowsOfTly, R.TLY_CQ_POP_pop, h0]
      exact congrArg Host.Outcome.next ((State.takeRow_block h (by decide) hrow).trans (congrArg State.popWord (State.cqPop_of_pop h0)))
  case measure =>
    intro t s p a v i
    refine ⟨fun h => ?slots, fun h => ?plane, fun h => ?store⟩
    case slots =>
      intro w c u
      have hword {r : WriteRow} (hr : (rowsOfSc R.SC_CTRL_test.off v).contains r = true) : (s.at t).takeRow r 0 [] = u.popWord :=
        (State.takeRow_block h (by decide) hr).trans (congrArg State.popWord State.scCtrl_eq)
      refine ⟨fun h0 => congrArg Host.Outcome.next (hword ?_), fun h1 => congrArg Host.Outcome.next (hword ?_)⟩
      · simp [rowsOfSc, R.SC_CTRL_test, h0]
      · simp [rowsOfSc, R.SC_CTRL_test, R.SC_CTRL_flip, h1]
    case plane =>
      intro w h0
      have hrow : (rowsOfBlock .spxPl R.SPX_PL_CTRL_restart.off v).contains .restart = true := by
        simp [rowsOfBlock, rowsOfSpxPl, R.SPX_PL_CTRL_restart, h0]
      exact congrArg Host.Outcome.next ((State.takeRow_block h (by decide) hrow).trans (congrArg State.popWord (State.planeCtrl_of_restart h0)))
    case store =>
      intro w0 w1 u
      have hword {r : WriteRow} (hr : (rowsOfSto R.STO_CTRL_clr_err.off v).contains r = true) : (s.at t).takeRow r 0 [] = u.popWord :=
        State.takeRow_block h (by decide) hr
      refine ⟨fun h0 => congrArg Host.Outcome.next (hword ?_), fun h1 => congrArg Host.Outcome.next (hword ?_)⟩
      · simp [rowsOfSto, R.STO_CTRL_clr_err, h0]
      · simp [rowsOfSto, R.STO_CTRL_clr_err, R.STO_CTRL_scrub_now, h1]
  case points =>
    intro t s p a v i
    refine ⟨fun h hmay => ?simulation, fun h h0 => ?release, fun h h0 => ?clear⟩
    case simulation =>
      intro r hkept
      have hrow : (rowsOfBlock .pte R.PTE_SIM_PT_point.off v).contains .spectralSimulation = true := by
        simp [rowsOfBlock, rowsOfPte, R.PTE_SIM_PT_point]
      refine congrArg Host.Outcome.next ((State.takeRow_block h (by decide) hrow).trans ?_)
      rw [hmay, State.pageAction_simPt hkept]
    case release =>
      have hrow : (rowsOfBlock .pteCl R.PTE_CL_CTRL_release.off v).contains .classRelease = true := by
        simp [rowsOfBlock, rowsOfPteCl, R.PTE_CL_CTRL_release, h0]
      exact congrArg Host.Outcome.next ((State.takeRow_block h (by decide) hrow).trans (congrArg State.popWord (if_pos ⟨rfl, h0⟩)))
    case clear =>
      have hrow : (rowsOfBlock .pte R.PTE_CLR_clr.off v).contains .pteClr = true := by
        simp [rowsOfBlock, rowsOfPte, R.PTE_CLR_clr, h0]
      exact congrArg Host.Outcome.next ((State.takeRow_block h (by decide) hrow).trans (congrArg State.popWord (if_pos h0)))

/-! ### Words that no row names -/

/-- A page without actions leaves a stored word at that. -/
theorem State.pageAction_of_quiet {k : Kind} (hk : k ∈ [Kind.cv, .dyn, .dynCh, .spx, .fbeTk, .alhLd]) (w old : State) (p : Port) (i b off : Nat)
    (v : Word) (may : Bool) (sent : Nat) (flips : List Nat) : w.pageAction old p k i b off v may sent flips = w := by
  simp only [List.mem_cons, List.not_mem_nil, or_false] at hk
  rcases hk with rfl | rfl | rfl | rfl | rfl | rfl <;> rfl

/-- Settles O36: REGISTER_WRITE takes the word, and what its page does is all that follows. -/
theorem plainWords : Obligations.PlainWords := by
  intro t s p a v k i off h ho hrows w
  have ⟨hready, hfront, _, _, _, hgoes⟩ := h
  have hword : exec (.registerWrite t) s =
      .next (w.pageAction (s.at t) p k i (pageBase a) off v ((s.at t).mayStore p (pageBase a)) 0 []).popWord := by
    rw [exec_registerWrite_waits hready hfront hrows, State.unlessWaits_eq (hgoes 0 []), State.writeWord_page 0 [] h ho]
  exact ⟨hword, fun hk => by rw [hword, State.pageAction_of_quiet hk]⟩

end Sys2Proof.Machine
end

section
/-! SUPPORT. Slots of the static channels that begin, end and follow one another, and channels that go stale (R106–R137, R462). -/

namespace Sys2Proof.Machine

open Sys2Proof

/-- A converter that no slot, calibration or link test occupies begins a cycle (R106). -/
theorem execConverterStart_of_idle {t : Nat} {k : Fin 8} {s : State} (hpow : (s.at t).domainOn 3 = true)
    (hen : bitAt ((s.at t).fv P.SAC R.SAC_CTRL_cv_en) k.val = true) (hslot : ((s.at t).cv k.val).slot = none)
    (hcal : ((s.at t).cv k.val).cal = none) (hlink : (s.at t).linkOn 7 k.val = false) :
    execConverterStart t k s = .next ((s.at t).newCycle k.val) :=
  if_pos (by simp [hpow, hen, hslot, hcal, hlink])

section
variable {t : Nat} {ch : Fin 32} {s : State}

/-- A measurement slot ends with the sense voltage in a BRIDGE6 partner's slot, with the channel's own result in any other (R107, R120). -/
theorem execMeasurementSlot_of_inSlot {x : CvSlot} (m : SlotInput) (h : (s.at t).inSlot (ch.val / 4) 4 ch.val = some x) :
    let seen := (s.at t).slotSeen ch.val x.rev m
    let w := (s.at t).slotShared ch.val seen
    execMeasurementSlot t ch m s = .next ((if x.second then w.scSense ch.val seen else w.scMeasure ch.val seen).nextSlot (ch.val / 4)) := by
  simp only [execMeasurementSlot, h]

theorem execLeadSlot_of_inSlot (vl : Q) (m : SlotInput) (h : ((s.at t).inSlot (ch.val / 4) 5 ch.val).isSome = true) :
    let seen := (s.at t).slotSeen ch.val false m
    let lead := (s.at t).cvVolts (ch.val / 4) ((s.at t).fv (P.SC ch.val) R.SC_STAT_range) vl
    execLeadSlot t ch vl m s = .next ((((s.at t).slotShared ch.val seen).scLead ch.val lead seen).nextSlot (ch.val / 4)) := by
  obtain ⟨x, hx⟩ := Option.isSome_iff_exists.mp h
  simp only [execLeadSlot, hx]

theorem execExcitationTestSlot_of_inSlot (sexc dvm : Q) (m : SlotInput) (h : ((s.at t).inSlot (ch.val / 4) 6 ch.val).isSome = true) :
    let seen := (s.at t).slotSeen ch.val false m
    execExcitationTestSlot t ch sexc dvm m s =
      .next ((((s.at t).slotShared ch.val seen).scTested ch.val sexc dvm seen).nextSlot (ch.val / 4)) := by
  obtain ⟨x, hx⟩ := Option.isSome_iff_exists.mp h
  simp only [execExcitationTestSlot, hx]

/-- A settling channel whose last valid result is as old as its tolerance raises stale (R137). -/
theorem execStaleFault_of_due {t0 : Nat} (hpow : (s.at t).domainOn 3 = true) (hact : (s.at t).scActive ch.val = true)
    (hset : (s.at t).scOwnQuality ch.val = 1) (hfrom : ((s.at t).sc ch.val).staleFrom = some t0)
    (hdue : t0 + (s.at t).scTol ch.val ≤ (s.at t).now) :
    execStaleFault t ch s = .next (((s.at t).scFaults ch.val 0x200 0x200).scShow ch.val) := by
  simp [execStaleFault, hpow, hact, hset, hfrom, hdue]

end

/-- Settles O46: each command finds its converter idle, in the slot that it ends, or its channel past the tolerance. -/
theorem staticSlotsComplete : Obligations.StaticSlotsComplete := by
  intro t k ch m vl sexc dvm safref term temp s u c
  refine ⟨execConverterStart_of_idle, fun x => execMeasurementSlot_of_inSlot m, execLeadSlot_of_inSlot vl m,
    execExcitationTestSlot_of_inSlot sexc dvm m, fun hcheck => ?check, fun hpow hact hset t0 => execStaleFault_of_due hpow hact hset⟩
  case check =>
    have hat : (u.inSlot k.val 7 0).isNone = false := Option.isNone_eq_false_iff.mpr hcheck
    exact if_neg (ne_true_of_eq_false hat)

end Sys2Proof.Machine
end

section
/-! SUPPORT. Operations that a running tally carries out: calibrations, self-tests, the online change and margin plans (R148, R329, R471, R478). -/

namespace Sys2Proof.Machine

open Sys2Proof

section
variable {t n : Nat} {s : State} {x : Tally}

/-- CAL counts and marks the converters that it asks for and that scan, and is done where there is none (R148). -/
theorem execCal_of_running (hx : (s.at t).runningTally n 0x40 = some x) (h0 : x.total = 0) :
    let u := s.at t
    let mask := if u.domainOn 3 then x.arg 0 % 256 &&& u.fv P.SAC R.SAC_CTRL_cv_en else 0
    let k := ((List.range 8).filter (bitAt mask)).length
    execCal t n s = .next (if k = 0 then u.tallyDone n 0 0 else u.tallyProgress n 0 k mask) := by
  simp only [execCal, hx, h0, ne_eq, not_true_eq_false, if_false, apply_ite Host.Outcome.next]

theorem execSelftest_of_running (failed : Nat) (hx : (s.at t).runningTally n 0x50 = some x) :
    let mask := Nat.min 0x7F (x.arg 0)
    let bad := failed &&& mask
    execSelftest t n failed s = .next (((s.at t).tallyDone n (mask - bad) bad).selftestEnds mask bad) := by
  simp only [execSelftest, hx]

/-- OLC with the standby bank named, valid and loaded goes to PREPARING (R329). -/
theorem execOlc_of_standby (hx : (s.at t).runningTally n 0x21 = some x) (hlife : (s.at t).life ≠ 3)
    (hidle : (s.at t).fv P.FBE R.FBE_STAT_olc = 0) (hbank : x.arg 0 = (s.at t).standby)
    (hvalid : (s.at t).fb P.FBE R.FBE_STAT_sb_valid = true) (hsome : ((s.at t).fbe.banks.getD (s.at t).standby none).isSome = true) :
    execOlc t n s =
      .next (({ s.at t with fbe := { (s.at t).fbe with olcTally := some n } } : State).setFv P.FBE R.FBE_STAT_olc 1) := by
  have hloaded : ((s.at t).fbe.banks.getD (s.at t).standby none).isNone = false := Option.isNone_eq_false_iff.mpr hsome
  simp [execOlc, hx, hlife, hidle, hbank, hvalid, hloaded, -List.getD_eq_getElem?_getD]

theorem execMarginPlan_of_free (hx : (s.at t).runningTally n 0x70 = some x) (hfree : (s.at t).age.plan = none) :
    execMarginPlan t n s = .next ((s.at t).planStarts 2 n (decide (x.arg 0 ≠ 0))) := by
  simp only [execMarginPlan, hx, hfree, Option.isNone_none, if_true]

end

/-- Settles O45: each operation's command finds its tally running and nothing that refuses it. -/
theorem serviceOperationsComplete : Obligations.ServiceOperationsComplete := fun _ _ failed _ _ =>
  ⟨execCal_of_running, execSelftest_of_running failed, execOlc_of_standby, execMarginPlan_of_free⟩

end Sys2Proof.Machine
end

section
/-! SUPPORT. Calibrations that fall due, start, end, time out and are overdue (R150–R156). -/

namespace Sys2Proof.Machine

open Sys2Proof

/-- Two outcomes by one condition are one outcome. -/
theorem next_ite {c d : Prop} [Decidable c] [Decidable d] {x y : Host.Outcome State Fault Refusal} {a b : State} (h : c ↔ d)
    (hx : x = .next a) (hy : y = .next b) : (if c then x else y) = .next (if d then a else b) :=
  (if_congr h hx hy).trans (apply_ite Host.Outcome.next d a b).symm

section
variable {t : Nat} {k : Fin 8} {s : State}

/-- Time comes before temperature as the trigger of a calibration (R152). -/
theorem execCalDue_of_scanning (temp : Q) (hpow : (s.at t).domainOn 3 = true) (hen : bitAt ((s.at t).fv P.SAC R.SAC_CTRL_cv_en) k.val = true) :
    let w := (s.at t).setFv (P.CV k.val) R.CV_CTEMP_temp_now (toB32 temp).toNat
    execCalDue t k temp s = .next
      (if secs 3600 * w.fv (P.CV k.val) R.CV_CAL_STAT_eff_h ≤ w.calCounted k.val then w.calFallsDue k.val 0
       else if w.tempTriggers k.val temp then w.calFallsDue k.val 1 else w) := by
  simp only [execCalDue, hpow, hen, Bool.not_true, Bool.or_self, Bool.false_eq_true, if_false, apply_ite Host.Outcome.next]

/-- The lowest converter that is due starts before any converter of a CAL tally (R153, R155). -/
theorem execCalibrationStart_of_due (hpow : (s.at t).domainOn 3 = true) (hen : bitAt ((s.at t).fv P.SAC R.SAC_CTRL_cv_en) k.val = true)
    (hfree : (List.range 8).any (fun j => ((s.at t).cv j).cal.isSome) = false) (hlink : (s.at t).linkOn 7 k.val = false)
    (hslot : (s.at t).slotBoundary k.val = true)
    (hdue : (List.range 8).find? (fun j => decide ((s.at t).fv (P.CV j) R.CV_CAL_STAT_state = 1) &&
      (bitAt ((s.at t).fv P.SAC R.SAC_CTRL_cv_en) j && !(s.at t).linkOn 7 j)) = some k.val) :
    execCalibrationStart t k s = .next ((s.at t).calRun k.val 0 ((s.at t).cv k.val).dueTrig none none) := by
  simp only [execCalibrationStart, hpow, hen, hfree, hlink, hslot, hdue, Bool.not_true, Bool.not_false, Bool.and_self, Bool.or_self,
    Bool.false_eq_true, if_false, if_true]

theorem execCalibrationTimeout_of_late {run : CalRun} (hcal : ((s.at t).cv k.val).cal = some run) (hpow : (s.at t).domainOn 3 = true)
    (hlate : run.start + 26 * 16777216 / run.hz ≤ (s.at t).now) :
    execCalibrationTimeout t k s =
      .next ((((s.at t).refUnseen run).calFails k.val run 3 Q.zero Q.zero Q.zero Q.zero).calEnded k.val run false) := by
  simp only [execCalibrationTimeout, hcal, hpow, hlate, decide_true, Bool.and_self, if_true]

theorem execCalOverdue_of_late {d : Nat} (hdue : ((s.at t).cv k.val).dueAt = some d) (hpow : (s.at t).domainOn 3 = true)
    (hlate : d + secs 3600 * (s.at t).fv (P.CV k.val) R.CV_CAL_STAT_eff_h < (s.at t).now) :
    execCalOverdue t k s = .next ((s.at t).setFv (P.CV k.val) R.CV_CAL_STAT_overdue 1) := by
  simp only [execCalOverdue, hdue, hpow, hlate, decide_true, Bool.and_self, if_true]

end

/-- Settles O47: each command finds its converter in the condition that its meaning asks for; a run whose slots have passed is judged by
its time, its reference, and the run or the ratios before it, in this order (R150). -/
theorem calibrationCompletes : Obligations.CalibrationCompletes := by
  intro t k temp m s run d u eff
  refine ⟨execCalDue_of_scanning temp, execCalibrationStart_of_due, fun hcal hpow hslots => ?complete, execCalibrationTimeout_of_late,
    execCalOverdue_of_late⟩
  case complete =>
    have hpassed : (!u.domainOn 3 || decide (run.elapsed u.now < (calSlots run.kind).length)) = false := by
      rw [hpow, decide_eq_false (Nat.not_lt.mpr hslots)]
      rfl
    extract_lets late base old checks g vref dr2 dr20 dg far jumps agrees w0 w fails succeeds
    have hdiffers (f : CalFigures) : (far g.r2 f.r2 1 || far g.r20 f.r20 1) = true ↔ ¬agrees f = true := by
      simp only [agrees, ← Bool.not_or, Bool.not_eq_true', Bool.not_eq_false]
    show execCalibrationComplete t k m s = _
    simp only [execCalibrationComplete, show ((s.at t).cv k.val).cal = some run from hcal, decide_eq_true_iff (p := run.kind ≠ 2)]
    refine (if_neg (ne_true_of_eq_false hpassed)).trans ?_
    refine next_ite decide_eq_true_iff.symm rfl (next_ite Iff.rfl rfl ?_)
    cases run.first with
    | none => exact next_ite Iff.rfl rfl rfl
    | some f => exact (next_ite (hdiffers f) rfl rfl).trans (congrArg Host.Outcome.next (ite_not ..))

end Sys2Proof.Machine
end

section
/-! SUPPORT. The dynamic channels: bias readings, samples, overall levels, settling and the tachometer (R162–R184). -/

namespace Sys2Proof.Machine

open Sys2Proof

section
variable {t : Nat} {ch : Fin 16} {s : State}

theorem execBiasMonitor_of_iepe (volts vsx : Q) (compliance : Bool) (hpow : (s.at t).domainOn 4 = true) (hmode : (s.at t).dynMode ch.val = 1) :
    let b := P.DYN ch.val
    let ok := Q.le (Q.ofNat 21) vsx
    let w := ((s.at t).setFb P.DYNC R.DYN_COM_STAT_vsx_ok ok).setFv b R.DYN_BIAS_V_bias (toB32 volts).toNat
    let above := Q.lt (Q.frac (w.fv b R.DYN_BIAS_bias_hi) 10) volts
    let below := Q.lt volts (Q.frac (w.fv b R.DYN_BIAS_bias_lo) 10)
    execBiasMonitor t ch volts vsx compliance s = .next
      ((w.dynFaults ch.val 0x13 ((if above then 1 else 0) + (if below then 2 else 0) + (if !ok || compliance then 16 else 0))).dynShow ch.val) :=
  if_neg (by simp [hpow, hmode])

/-- A sample of a channel that is not OFF is judged, then merged. -/
theorem execDynSample_of_on (v0 v30 : Int) (gerr oerr : Q) (over30 clip cm : Bool) (hpow : (s.at t).domainOn 4 = true)
    (hmode : (s.at t).dynMode ch.val ≠ 0) :
    execDynSample t ch v0 v30 gerr oerr over30 clip cm s =
      .next (((s.at t).judgeSample ch.val clip cm).mergeSample ch.val v0 v30 gerr oerr over30 clip) :=
  congrArg Host.Outcome.next (if_neg (by simp [hpow, hmode]))

theorem execOverallStale_of_due {e : Nat} (hfrom : ((s.at t).dch ch.val).settlingFrom = some e) (hpow : (s.at t).domainOn 4 = true)
    (hq : (s.at t).dynQuality ch.val = 1) (hdue : e + msecs ((s.at t).fv (P.DYN ch.val) R.DYN_OVL_STALE_tol) ≤ (s.at t).now) :
    execOverallStale t ch s = .next (((s.at t).dynFaults ch.val 0x80 0x80).dynShow ch.val) := by
  simp only [execOverallStale, hfrom, hpow, hq, hdue, decide_true, Bool.and_self, if_true]

/-- At the end of its settling time a channel without a marking fault has settled (R179). -/
theorem execChannelSettled_of_due {e : Nat} :
    let u := s.at t
    let w := if u.domainOn 4 = true ∧ u.dynMode ch.val ≠ 0 then (u.dynAvdd ch.val).dynShow ch.val else u
    (w.dch ch.val).settleEnd = some e → w.domainOn 4 = true → e ≤ w.now →
      execChannelSettled t ch s = .next
        (if w.dynLive ch.val &&& dynMarking ≠ 0 then w.dynShow ch.val
         else ((w.setDch ch.val { (w.dch ch.val).newWindow with settleEnd := none }).setFv (P.DYN ch.val) R.DYN_STAT_settling 0).dynShow ch.val) := by
  intro u w hend hpow hdue
  have hw : (if u.domainOn 4 && decide (u.dynMode ch.val ≠ 0) then (u.dynAvdd ch.val).dynShow ch.val else u) = w :=
    if_congr (by simp) rfl rfl
  simp only [execChannelSettled, show s.at t = u from rfl, hw, hend, hpow, hdue, decide_true, Bool.and_self, if_true, apply_ite Host.Outcome.next]

theorem execTachoDeadline_of_passed (hpow : (s.at t).domainOn 4 = true) (hmode : (s.at t).dynMode ch.val = 3)
    (hpast : (s.at t).deadlinePassed ch.val (Nat.min ((s.at t).now * 16) (((s.at t).dch ch.val).found.headD ((s.at t).now * 16))) = true) :
    execTachoDeadline t ch s = .next ((s.at t).tachoLost ch.val) :=
  congrArg Host.Outcome.next (if_pos (by simp only [hpow, hmode, hpast, decide_true, Bool.and_self]))

end

/-- Settles O48: each command finds its channel in the mode and at the instant that its meaning asks for; a level that is due is given or
left by its window (R177), an edge found in the samples is recorded and the tacho follows it (R182, R183). -/
theorem dynamicChannelsComplete : Obligations.DynamicChannelsComplete := by
  intro t ch v0 v30 gerr oerr over30 clip cm compliance volts vsx s e rest u b c
  refine ⟨execBiasMonitor_of_iepe volts vsx compliance, execDynSample_of_on v0 v30 gerr oerr over30 clip cm, fun hpow hlev hdue => ?level,
    execOverallStale_of_due, execChannelSettled_of_due, fun hfound hpow hmode => ?edge, execTachoDeadline_of_passed⟩
  case level =>
    have hgoes : ¬(!u.domainOn 4 || !u.dynLevels ch.val || decide (c.ovl.since < u.fv b R.DYN_OVL_t_upd)) = true := by
      rw [hpow, hlev, decide_eq_false (Nat.not_lt.mpr hdue)]
      exact Bool.false_ne_true
    intro w ok v x x'
    have hkept : (!ok) = true ↔ ¬ok = true := by rw [Bool.not_eq_true', Bool.not_eq_true]
    calc execOverallLevel t ch s
      _ = .next (if ¬ok = true then (w.setDch ch.val { w.dch ch.val with ovlOk := false }).dynShow ch.val
            else (x'.sourceWrite (0x20 + ch.val) v (x'.dynQuality ch.val) 2 x'.now).dynShow ch.val) :=
        (if_neg hgoes).trans (next_ite hkept rfl rfl)
      _ = _ := congrArg Host.Outcome.next (ite_not ..)
  case edge =>
    have hgoes : ¬(!u.domainOn 4 || decide (u.dynMode ch.val ≠ 3)) = true := by simp [hpow, hmode]
    intro n flags w0 w1 w was x
    show execTachoEdge t ch s = _
    simp only [execTachoEdge, show ((s.at t).dch ch.val).found = e :: rest from hfound]
    exact if_neg hgoes

end Sys2Proof.Machine
end

section
/-! SUPPORT. The planes' records and commits, and what the storeroom reports of itself (R188, R198, R201, R202, R205, R227, R229–R231). -/

namespace Sys2Proof.Machine

open Sys2Proof

/-- Past a guard `!c` when `c` holds. -/
theorem ite_not_of_true {α : Type} {c : Bool} {x y : α} (h : c = true) : (if (!c) = true then x else y) = y :=
  if_neg (by rw [h]; exact Bool.false_ne_true)

section
variable {t : Nat} {s : State}

/-- A build that may no longer commit is given up (R204). -/
theorem execPlaneCommit_of_lost {plane : Fin 64} {b : SpxBuild} (errs : List (Nat × Q)) (ecc : EccFinds)
    (hwork : ((s.at t).plane plane.val).work = some b) (hmay : (s.at t).mayCommit plane.val b = false) :
    execPlaneCommit t plane errs ecc s = .next ((s.at t).setPlane plane.val { (s.at t).plane plane.val with work := none }) := by
  simp only [execPlaneCommit, hwork, hmay, Bool.not_false, if_true]

/-- A build that may commit waits while the other half is latched (R201, R202). -/
theorem execPlaneCommit_of_may {plane : Fin 64} {b : SpxBuild} (errs : List (Nat × Q)) (ecc : EccFinds)
    (hwork : ((s.at t).plane plane.val).work = some b) (hmay : (s.at t).mayCommit plane.val b = true) :
    let i := plane.val
    let w := (s.at t).eccFinds ecc
    let w := if ((s.at t).plane i).wait.isSome then w.planeDrop i else w
    let w := w.setPlane i { (s.at t).plane i with work := none, wait := none }
    execPlaneCommit t plane errs ecc s = .next
      (if w.halfLatched i (1 - w.fv (P.SPX i) R.SPX_PL_STAT_half) then w.setPlane i { w.plane i with wait := some (b, errs) }
       else w.commitBuild i b errs) := by
  simp only [execPlaneCommit, hwork, ite_not_of_true hmay, apply_ite Host.Outcome.next]

/-- At the end of a scrub pass the next one starts while scrubbing is enabled (R229). -/
theorem execScrubPassEnd_of_scrubbing (ecc : EccFinds) (hpow : (s.at t).domainOn 7 = true)
    (hscrub : (s.at t).fb P.STO R.STO_STAT_scrub = true ∨ (s.at t).fb P.STO R.STO_SCRUB_en = true) :
    let w := (s.at t).eccFinds ecc
    execScrubPassEnd t ecc s = .next ((w.scrubSet (w.fb P.STO R.STO_SCRUB_en)).irq P.STO 3) := by
  have hgoes : ((s.at t).fb P.STO R.STO_STAT_scrub || (s.at t).fb P.STO R.STO_SCRUB_en) = true := (Bool.or_eq_true ..).mpr hscrub
  exact if_neg (by rw [hpow, hgoes]; exact Bool.false_ne_true)

/-- The shelf's row that has been due longest moves to a spare one (R230). -/
theorem execRowSpare_of_due {shelf : Fin 16} {row : Nat × Nat} (ecc : EccFinds) (hpow : (s.at t).domainOn 7 = true)
    (hdue : (s.at t).sto.dueRows.find? (fun r => decide (r.1 = shelf.val)) = some row) :
    let here (a : Nat) : Bool := decide ((s.at t).rowOf a = row)
    let w := (s.at t).eccFinds { corrected := ecc.corrected.filter here, lost := ecc.lost.filter here }
    execRowSpare t shelf ecc s =
      .next ({ w with sto := { w.sto with
        spares := w.sto.spares.set shelf.val (w.sto.spares.getD shelf.val 0 - 1)
        dueRows := w.sto.dueRows.filter (fun y => decide (y ≠ row)) } } : State).spareShow := by
  simp only [execRowSpare, hdue, ite_not_of_true hpow]

theorem execWearMove_of_powered (wear : Nat) (hpow : (s.at t).domainOn 7 = true) :
    execWearMove t wear s = .next ((s.at t).setFv P.STO R.STO_WEAR_wear (Nat.min wear 100)) :=
  congrArg Host.Outcome.next (if_pos hpow)

/-- The notice ends when the slack has been sufficient for an hour (R227). -/
theorem execNoticeClear_of_slack (h : (s.at t).sto.slackOk.any (fun x => decide (x + secs 3600 ≤ (s.at t).now)) = true) :
    execNoticeClear t s = .next ((s.at t).setFv P.STO R.STO_STAT_notice 0) :=
  congrArg Host.Outcome.next (if_pos h)

end

/-- Settles O49: a record that has ended is dropped or begins its builds (R188, R198), a build that is complete is given up, waits or
commits (R201, R202), and each event of the store finds the condition that its meaning asks for (R227–R231). -/
theorem planesAndStoreComplete : Obligations.PlanesAndStoreComplete := by
  intro t wear ch shelf plane errs ecc s b row u
  refine ⟨fun hends => ?record, fun hends => ?zoom,
    fun hwork => ⟨execPlaneCommit_of_lost errs ecc hwork, execPlaneCommit_of_may errs ecc hwork⟩, rfl, rfl,
    fun hpow => ⟨execScrubPassEnd_of_scrubbing ecc hpow, execRowSpare_of_due ecc hpow, execWearMove_of_powered wear hpow⟩,
    execNoticeClear_of_slack⟩
  case record =>
    intro f w words planes drops
    exact (ite_not_of_true hends).trans (next_ite Iff.rfl rfl rfl)
  case zoom =>
    intro i x w first record
    exact (ite_not_of_true hends).trans (next_ite Iff.rfl rfl rfl)

end Sys2Proof.Machine
end

section
/-! SUPPORT. What bytes of the storeroom that nothing has written read as (R534). -/

namespace Sys2Proof.Machine

open Sys2Proof

theorem State.rdBytes_eq_map (s : State) (n : Nat) : ∀ a, s.rdBytes a n = (List.range n).map (fun i => s.rd8 (a + i)) := by
  induction n with
  | zero => exact fun _ => rfl
  | succ n ih =>
    intro a
    rw [List.range_succ_eq_map, List.map_cons, List.map_map, State.rdBytes, ih]
    simp only [Nat.add_zero, Function.comp_def, Nat.succ_eq_add_one, Nat.add_assoc, Nat.add_comm 1]

/-- Records that read alike byte by byte, unwritten, read alike as runs of bytes. -/
theorem State.rdBytes_reset_congr {a b n : Nat} (h : ∀ i < n, memDflt (a + i) = memDflt (b + i)) :
    State.reset.rdBytes a n = (List.range n).map (fun i => memDflt (b + i)) :=
  (State.reset.rdBytes_eq_map n a).trans (List.map_congr_left fun i hi => h i (List.mem_range.1 hi))

/-- Every unwritten scalar record reads as the first one. -/
theorem memDflt_scalarRec {n i : Nat} (hn : n < 0x10000) (hi : i < 32) : memDflt (scalarRec n + i) = memDflt (scalarRec 0 + i) := by
  have hrecord : (scalarRec n + i) % 32 = (scalarRec 0 + i) % 32 ∧ (scalarRec n + i) % 4 = (scalarRec 0 + i) % 4 := by
    unfold scalarRec
    omega
  have hin (m : Nat) (hm : m < 0x10000) : ¬(0x08000000 ≤ scalarRec m + i ∧ scalarRec m + i < 0x28000000) ∧
      (0x44000000 ≤ scalarRec m + i ∧ scalarRec m + i < 0x44200000) := by
    unfold scalarRec
    omega
  simp only [memDflt, hin n hn, hin 0 (by decide), hrecord, and_self, if_false, if_true]

/-- Every byte of an unwritten value entry reads as 0. -/
theorem memDflt_scalarVal {n i : Nat} (hn : n < 0x10000) (hi : i < 16) : memDflt (scalarVal n + i) = 0#8 := by
  unfold memDflt scalarVal
  iterate 4 rw [if_neg (by omega)]

/-- Every unwritten spectral record reads as the first one. -/
theorem memDflt_spectralRec {q i : Nat} (hq : q < 0x2000000) (hi : i < 16) : memDflt (spectralRec q + i) = memDflt (spectralRec 0 + i) := by
  have hrecord : (spectralRec q + i) % 16 = (spectralRec 0 + i) % 16 := by
    unfold spectralRec
    omega
  have hin (m : Nat) (hm : m < 0x2000000) : 0x08000000 ≤ spectralRec m + i ∧ spectralRec m + i < 0x28000000 := by
    unfold spectralRec
    omega
  simp only [memDflt, hin q hq, hin 0 (by decide), hrecord, and_self, if_true]

theorem memDflt_bandMap {a : Nat} (hlo : 0xD80000 ≤ a) (hhi : a < 0xE00000) : memDflt a = 0xFF#8 := by
  unfold memDflt
  rw [if_neg (by omega), if_neg (by omega), if_pos ⟨hlo, hhi⟩]

/-- Settles O8: after reset nothing is listed, so each record reads as the first of its kind, which is a closed list of bytes. -/
theorem blankPoints : Obligations.BlankPoints := by
  refine ⟨fun n hn => ?scalar, fun n hn => ?value, fun q hq => ?spectral, fun a => memDflt_bandMap⟩
  case scalar => exact (State.rdBytes_reset_congr fun i => memDflt_scalarRec hn).trans (by decide)
  case value =>
    exact (State.reset.rdBytes_eq_map 16 _).trans (List.map_eq_replicate_iff.2 fun i hi => memDflt_scalarVal hn (List.mem_range.1 hi))
  case spectral => exact (State.rdBytes_reset_congr fun i => memDflt_spectralRec hq).trans (by decide)

end Sys2Proof.Machine
end

section
/-! SUPPORT. Words found uncorrectable, and the writes that cure them (R228, R230). -/

namespace Sys2Proof.Machine

open Sys2Proof

/-! ### Rows that are due (R230) -/

theorem State.fv_rowDue (s : State) (r : Nat × Nat) (b : Nat) (f : Field) : (s.rowDue r).fv b f = s.fv b f :=
  State.fv_of_regs (State.rowDue_moves .regs rfl) b f

theorem State.mem_dueRows_rowDue (s : State) (r : Nat × Nat) : r ∈ (s.rowDue r).sto.dueRows := by
  unfold State.rowDue
  split
  next hdue => exact List.contains_iff_mem.1 hdue
  next => exact List.mem_append_right _ (List.mem_singleton.2 rfl)

/-! ### What an uncorrectable word leaves (R228) -/

/-- The word poisoned and counted and its row due, before its address and the event are shown. -/
def State.ueCounted (s : State) (w : Nat) : State :=
  (({ s with poisoned := s.poisoned ++ [w] } : State).satInc P.STO R.STO_ERR_ue 1).rowDue (s.rowOf w)

theorem State.ueCounted_poisoned (s : State) (w : Nat) : (s.ueCounted w).poisoned = s.poisoned ++ [w] := State.rowDue_moves .poisoned rfl

theorem State.fv_ueCounted_ue (s : State) (w : Nat) :
    (s.ueCounted w).fv P.STO R.STO_ERR_ue = Nat.min (2 ^ R.STO_ERR_ue.width - 1) (s.fv P.STO R.STO_ERR_ue + 1) := by
  rw [State.ueCounted, State.fv_rowDue, State.fv_satInc_same _ P.STO R.STO_ERR_ue 1 (by decide), satAdd_one]
  exact Nat.mod_eq_of_lt (Nat.lt_of_le_of_lt (Nat.min_le_left _ _) (by decide))

theorem State.fv_ueCounted_addr (s : State) (w : Nat) : (s.ueCounted w).fv P.STO R.STO_UE_ADDR_addr = s.fv P.STO R.STO_UE_ADDR_addr :=
  (State.fv_rowDue ..).trans (State.fv_satInc_ne _ P.STO P.STO R.STO_ERR_ue R.STO_UE_ADDR_addr 1 (by decide))

section
variable {s : State} {a : Nat}

/-- A word not yet poisoned is counted; its address is kept where none stands, and the event follows. -/
theorem State.uncorrectable_of_clean (h : s.isPoisoned a = false) :
    s.uncorrectable a =
      (if s.fv P.STO R.STO_UE_ADDR_addr = 0xFFFFFFFF then (s.ueCounted (a / 8 * 8)).setFv P.STO R.STO_UE_ADDR_addr (a / 8 * 8)
       else s.ueCounted (a / 8 * 8)).irq P.STO 0 := by
  rw [← s.fv_ueCounted_addr (a / 8 * 8)]
  exact if_neg (ne_true_of_eq_false h)

theorem State.uncorrectable_poisoned (h : s.isPoisoned a = false) : (s.uncorrectable a).poisoned = s.poisoned ++ [a / 8 * 8] := by
  rw [State.uncorrectable_of_clean h, ← s.ueCounted_poisoned]
  exact (apply_ite State.poisoned ..).trans (ite_self _)

theorem State.rowOf_mem_dueRows_uncorrectable (h : s.isPoisoned a = false) : s.rowOf (a / 8 * 8) ∈ (s.uncorrectable a).sto.dueRows := by
  have hsto : (s.uncorrectable a).sto = (s.ueCounted (a / 8 * 8)).sto := by
    rw [State.uncorrectable_of_clean h]
    exact (apply_ite State.sto ..).trans (ite_self _)
  rw [hsto]
  exact State.mem_dueRows_rowDue ..

theorem State.fv_uncorrectable_ue (h : s.isPoisoned a = false) :
    (s.uncorrectable a).fv P.STO R.STO_ERR_ue = Nat.min (2 ^ R.STO_ERR_ue.width - 1) (s.fv P.STO R.STO_ERR_ue + 1) := by
  rw [State.uncorrectable_of_clean h, State.fv_irq _ _ _ _ _ (by decide), ← s.fv_ueCounted_ue (a / 8 * 8)]
  split
  · exact State.fv_setFv_ne _ _ _ _ _ _ (by decide)
  · rfl

theorem State.fv_uncorrectable_addr (ha : a < 0x100000000) (h : s.isPoisoned a = false) :
    (s.uncorrectable a).fv P.STO R.STO_UE_ADDR_addr =
      if s.fv P.STO R.STO_UE_ADDR_addr = 0xFFFFFFFF then a / 8 * 8 else s.fv P.STO R.STO_UE_ADDR_addr := by
  have hw : a / 8 * 8 < 2 ^ R.STO_UE_ADDR_addr.width := Nat.lt_of_le_of_lt (Nat.div_mul_le_self a 8) ha
  rw [State.uncorrectable_of_clean h, State.fv_irq _ _ _ _ _ (by decide)]
  split
  · exact (State.fv_setFv_same _ P.STO R.STO_UE_ADDR_addr _ (by decide)).trans (Nat.mod_eq_of_lt hw)
  · exact s.fv_ueCounted_addr _

end

/-! ### Writes of a poisoned word (R228) -/

/-- What a run of bytes leaves in the store depends on the store alone. -/
theorem State.wrBytes_mem_congr (l : List Byte) :
    ∀ {s t : State} (a : Nat), s.mem = t.mem → (s.wrBytes a l).mem = (t.wrBytes a l).mem := by
  induction l with
  | nil => exact fun _ h => h
  | cons b l ih => exact fun a h => ih (a + 1) (congrArg (fun m => SMap.put memDflt m a b) h)

/-- A write of the 8 bytes of the only poisoned word stores them, and no poison is left. -/
theorem State.nodeWrite_whole {s : State} {w : Nat} {l : List Byte} (hp : s.poisoned = [w]) (hl : l.length = 8) :
    (s.nodeWrite w l).poisoned = [] ∧ (s.nodeWrite w l).mem = (s.wrBytes w l).mem := by
  have hwhole : s.partPoison w l.length = false := by simp [State.partPoison, hp, hl]
  have hcured : (s.curePoison w l.length).poisoned = [] := by simp [State.curePoison, hp, hl]
  rw [State.nodeWrite, if_neg (ne_true_of_eq_false hwhole)]
  exact ⟨(State.wrBytes_moves .poisoned rfl).trans hcured, State.wrBytes_mem_congr l w rfl⟩

/-- A write of a part of a poisoned word is not made. -/
theorem State.nodeWrite_part {s : State} {w d : Nat} {l : List Byte} (hw : w ∈ s.poisoned) (hd : d < 8) (hpos : 0 < l.length)
    (hlen : l.length < 8) : s.nodeWrite (w + d) l = s := by
  refine if_pos (List.any_eq_true.2 ⟨w, hw, ?_⟩)
  simp only [Bool.and_eq_true, Bool.not_eq_true', Bool.and_eq_false_iff, decide_eq_true_eq, decide_eq_false_iff_not]
  omega

/-- Settles O19: what one uncorrectable word leaves, clause by clause; a node write of the word covers it whole and a part of it does not. -/
theorem poisonedWord : Obligations.PoisonedWord := by
  intro s a ha h w t
  have hpoisoned : t.poisoned = s.poisoned ++ [w] := State.uncorrectable_poisoned h
  have hmem : t.mem = s.mem := State.uncorrectable_moves .mem rfl
  have hw : w ∈ t.poisoned := hpoisoned ▸ List.mem_append_right _ (List.mem_singleton.2 rfl)
  have hevent : (t.reg (P.STO + 0x20)).getLsbD 0 = true := by
    rw [show t = _ from State.uncorrectable_of_clean h]
    exact State.getLsbD_irq _ P.STO 0 (by decide)
  refine ⟨List.contains_iff_mem.2 hw, hmem, State.rowOf_mem_dueRows_uncorrectable h, hevent, State.fv_uncorrectable_ue h,
    State.fv_uncorrectable_addr ha h, fun l hl hclean => ?whole, fun d l hd hpos _ hlen => State.nodeWrite_part hw hd hpos hlen⟩
  case whole =>
    obtain ⟨hcured, hstored⟩ := State.nodeWrite_whole (s := t) (w := w) (by rw [hpoisoned, hclean]; rfl) hl
    exact ⟨by rw [State.isPoisoned, hcured]; rfl, hstored.trans (State.wrBytes_mem_congr l w hmem)⟩

end Sys2Proof.Machine
end

section
/-! SUPPORT. Operations that a running tally carries out on the storeroom (R207, R209, R217, R223, R344). -/

namespace Sys2Proof.Machine

open Sys2Proof

/-! ### What LIM_DERIVE takes from its range (R209, R228) -/

/-- A record of a live line of the range cannot be read, or a baseline could not be at the launch. -/
def State.deriveLost (s : State) (x : Tally) : Bool :=
  (List.range 64).any (fun i => s.anyPoison (spectralRec (s.linesIn i (x.arg 0) (x.arg 1)).1) (16 * (s.linesIn i (x.arg 0) (x.arg 1)).2)) ||
    decide (x.aux = 1)

/-- The baseline of a point that the tally has kept. -/
def Tally.baseline (x : Tally) (q : Nat) : Nat := SMap.get (fun _ => 0) x.kept q

/-- The listed points on the range's live lines whose limits are derived and whose baselines have learned enough. -/
def State.derivedPoints (s : State) (x : Tally) : List Nat :=
  let lines (i : Nat) : Nat × Nat := s.linesIn i (x.arg 0) (x.arg 1)
  ((List.range 64).flatMap (fun i => if (lines i).2 = 0 then [] else
      (s.listedSpectral i).filter (fun q => decide ((lines i).1 ≤ q) && decide (q < (lines i).1 + (lines i).2)))).filter (fun q =>
    decide (s.rdLe (spectralRec q + 10) 2 / 4 % 2 = 1) && decide (s.fv P.SPXC R.SPX_LEARN_n_min ≤ x.baseline q / 2 ^ 32 % 65536))

/-- The limit of a point from the margin in argument `k`. -/
def State.derivedBytes (s : State) (x : Tally) (q k : Nat) : List Byte :=
  leBytes 2 (derivedLimit (x.baseline q % 65536) (x.baseline q / 65536 % 65536) (x.arg k)
    (decide (s.rdLe (spectralRec q + 10) 2 / 8 % 2 = 1)))

/-- Both limits of every point derived stand in its record. -/
def State.deriveLimits (s : State) (x : Tally) : State :=
  (s.derivedPoints x).foldl (fun (s' : State) q => s'.nodeWrite (spectralRec q) (s.derivedBytes x q 2 ++ s.derivedBytes x q 3)) s

/-! ### The commands -/

section
variable {t n upto : Nat} {s : State} {x : Tally}

theorem execStoCopy_of_running (ecc : EccFinds) (hx : (s.at t).runningTally n 1 = some x) (hpow : (s.at t).domainOn 7 = true) :
    execStoCopy t n upto ecc s = .next (((s.at t).eccFinds ecc).stoCopy x upto) := by
  simp only [execStoCopy, hx, hpow, if_true]

theorem execStoFill_of_running (hx : (s.at t).runningTally n 2 = some x) (hpow : (s.at t).domainOn 7 = true) :
    execStoFill t n upto s = .next ((s.at t).stoFill x upto) := by
  simp only [execStoFill, hx, hpow, if_true]

theorem execStoVerify_of_running (ecc : EccFinds) (hx : (s.at t).runningTally n 3 = some x) (hpow : (s.at t).domainOn 7 = true) :
    execStoVerify t n upto ecc s = .next ((s.at t).stoVerify x upto ecc) := by
  simp only [execStoVerify, hx, hpow, if_true]

/-- A re-key that has moved a part of the groups goes on; one that has moved all of them is done (R223). -/
theorem execStoRekey_of_running (ecc : EccFinds) (hx : (s.at t).runningTally n 4 = some x) (hpow : (s.at t).domainOn 7 = true) :
    let w := (((s.at t).eccFinds ecc).rekeyBegins.rekeyMoves upto).tallyProgress n (Nat.min upto groupCount) groupCount 0
    let v := w.rekeyDone.wrapInc P.STO R.STO_KEY_gen 1
    let v := ((v.setFv P.STO R.STO_STAT_rekey 0).setFv P.STO R.STO_STAT_partial 0).irq P.STO 4
    execStoRekey t n upto ecc s = if upto < groupCount then .next w else .next (v.tallyDone n (v.fv P.STO R.STO_KEY_gen) 0) := by
  simp only [execStoRekey, hx, ite_not_of_true hpow]

/-- BASE_LEARN is refused without a live line in its range, and shows how far it is otherwise (R207). -/
theorem execBaseLearn_of_running (hx : (s.at t).runningTally n 0x10 = some x) :
    execBaseLearn t n s = .next (if ((s.at t).learnDone x).2 = 0 then (s.at t).tallyRefused n 8 0 0 else (s.at t).learnEnds x) := by
  simp only [execBaseLearn, hx]

/-- LIM_DERIVE ends on what it cannot read, waits where a limit touches a stalled point, and is done otherwise (R209, R228, R254). -/
theorem execLimDerive_of_running (ecc : EccFinds) (hx : (s.at t).runningTally n 0x11 = some x) :
    let w := (s.at t).eccFinds ecc
    execLimDerive t n ecc s =
      if w.deriveLost x = true then .next (w.tallyEnds n 3 6 0 0)
      else if w.touchesStalled (w.deriveLimits x) = true then .next w
      else .next (((w.deriveLimits x).squash 1 (fun q => decide (x.arg 0 ≤ q) && decide (q ≤ x.arg 1))).tallyDone n
        (w.derivedPoints x).length 0) := by
  simp only [execLimDerive, hx]
  rfl

theorem execEvrErase_of_maintaining (crates : Nat) (hx : (s.at t).runningTally n 0x30 = some x) (hmay : (s.at t).maintains x.port = true) :
    execEvrErase t n crates s = .next ((s.at t).evrErase x crates) := by
  simp only [execEvrErase, hx, hmay, Bool.or_true, if_true]

end

/-- Settles O42: each command finds its tally running; a re-key ends with its last group, BASE_LEARN is refused without a line, and
LIM_DERIVE ends on what it cannot read or waits for a stalled point. -/
theorem storeOperationsComplete : Obligations.StoreOperationsComplete := by
  intro t n upto crates ecc s x u
  refine ⟨execStoCopy_of_running ecc, execStoFill_of_running, execStoVerify_of_running ecc, fun hx hpow => ?rekey, fun hx => ?learn,
    fun hx => ?derive, execEvrErase_of_maintaining crates⟩
  case rekey =>
    have hrekey := execStoRekey_of_running (upto := upto) ecc hx hpow
    exact ⟨fun hpart => hrekey.trans (if_pos hpart), fun hall => hrekey.trans (if_neg (Nat.not_lt.mpr hall))⟩
  case learn =>
    have hlearn := execBaseLearn_of_running hx
    exact ⟨fun hnone => hlearn.trans (congrArg _ (if_pos hnone)), fun hsome => hlearn.trans (congrArg _ (if_neg hsome))⟩
  case derive =>
    have hderive := execLimDerive_of_running ecc hx
    intro w lines within lost base listed ps limit
    refine ⟨fun hlost => hderive.trans (if_pos hlost), fun hread => ?_⟩
    have hderive := hderive.trans (if_neg (ne_true_of_eq_false hread))
    exact ⟨fun hwaits => hderive.trans (if_pos hwaits), fun hgoes => hderive.trans (if_neg (ne_true_of_eq_false hgoes))⟩

end Sys2Proof.Machine
end

section
/-! SUPPORT. Scalar passes, sweeps, the evaluation of a plane, and the taking of a change (R233–R240, R249, R254, R264). -/

namespace Sys2Proof.Machine

open Sys2Proof

section
variable {t : Nat} {s : State}

/-- A pass that waited goes on before the next one starts, where the lane is free and the change queue has room (R233, R249). -/
theorem execScalarPass_of_running (vmain avdd vsx vbackup temp power : Q) (reev : Nat) (ecc : EccFinds) (hpow : (s.at t).domainOn 6 = true)
    (hrun : (s.at t).ptePaused = false) :
    let w := ((((s.at t).eccFinds ecc).renewPoints vmain avdd vsx vbackup temp power).hotRate).laneGo reev
    execScalarPass t vmain avdd vsx vbackup temp power reev ecc s = .next
      (if w.fb P.PTE R.PTE_CTRL_sc_en && w.pte.lane.isNone && !w.changesFull then w.lanePass reev
       else w.irqIf w.changesFull P.PTE 4).tempBand.safShow :=
  if_neg (by rw [hpow, hrun]; exact Bool.false_ne_true)

/-- A change is taken after what it follows, or waits (R249, R254, R282). -/
theorem execPointChange_of_earliest {c : Change} {l : List Change} (ecc : EccFinds) (halh : (s.at t).alhRuns = true)
    (hen : (s.at t).fb P.ALH R.ALH_CTRL_en = true) (hc : earliestChange (s.at t).pte.changes = some (c, l)) :
    execPointChange t ecc s = .next ((s.at t).unlessWaits (((s.at t).eccFinds ecc).alhUpTo c.stamp).takeChange) := by
  simp only [execPointChange, State.alhTakes, hc, halh, hen, Bool.and_self, if_true]

end

/-- Settles O50: each command finds the engine powered and not paused, and the sweep where its meaning asks for it; a plane's evaluation
goes on from where the frontier stands (R240), and a change waits as `unlessWaits` says (R249, R254). -/
theorem evaluationCompletes : Obligations.EvaluationCompletes := by
  intro t reev conflict shelf vmain avdd vsx vbackup temp power ecc s u
  refine ⟨execScalarPass_of_running vmain avdd vsx vbackup temp power reev ecc, ite_not_of_true, fun hpow hrun hsweep hroom => ?plane,
    fun hpow hrun hsweep hleft hlast => ?sweepEnd, fun halh hen c hc => ?change⟩
  case plane =>
    have hgoes : ¬(!u.domainOn 6 || u.ptePaused || !u.fb P.PTE R.PTE_STAT_sweeping || u.changesFull) = true := by
      simp only [hpow, hrun, hsweep, hroom, Bool.not_true, Bool.or_self, Bool.false_eq_true, not_false_eq_true]
    intro w i e v ps judged
    refine (if_neg hgoes).trans (next_ite Iff.rfl rfl (next_ite Iff.rfl rfl ?_))
    show (match v.pte.atPlane with
      | none => Host.Outcome.next v
      | some x => .next (if (judged x).diagRuns 7 then (judged x).wrapInc P.SAF R.SAF_REEV_reev (Nat.min reev ps.length) else judged x)) = _
    cases v.pte.atPlane <;> rfl
  case sweepEnd =>
    have hgoes : ¬(!u.domainOn 6 || u.ptePaused || !u.fb P.PTE R.PTE_STAT_sweeping || u.pte.atPlane.isSome ||
        decide (u.nextPlane (planeNo u.pte.nextPoint) < specEnd)) = true := by
      simp only [hpow, hrun, hsweep, hleft, Nat.not_lt.mpr hlast, Option.isSome_none, Bool.not_true, Bool.or_self, decide_false,
        Bool.false_eq_true, not_false_eq_true]
    exact if_neg hgoes
  case change =>
    obtain ⟨⟨c, l⟩, hearliest, rfl⟩ := Option.map_eq_some_iff.1 hc
    have htaken := execPointChange_of_earliest ecc halh hen hearliest
    exact ⟨fun hwaits => htaken.trans (congrArg _ (State.unlessWaits_of_waits hwaits)),
      fun hgoes => htaken.trans (congrArg _ (State.unlessWaits_of_not_waits hgoes))⟩

end Sys2Proof.Machine
end


section
/-! SUPPORT. The front frame of the point window takes effect or waits (R243, R246, R247, R249, R254, R258). -/

namespace Sys2Proof.Machine

open Sys2Proof

section
variable {s x : State} {f : Frame} {is : Frame → Bool}

/-- A waiting frame stays at the front, whatever it writes (R249, R254). -/
theorem State.takeOpenWindow_of_waits (hfront : s.frontWindow = some f) (hwaits : s.windowWaits f = true) : s.takeOpenWindow is = s := by
  simp only [State.takeOpenWindow, State.takeWindow, hfront, hwaits, Bool.not_true, Bool.false_and, Bool.and_false, Bool.not_false, if_true]

/-- A frame of the row's kind that does not wait and that its port may write takes effect and leaves the queue (R258). -/
theorem State.takeOpenWindow_of_windowWrite (hready : s.ready = true) (hfront : s.frontWindow = some f) (hgoes : s.windowWaits f = false)
    (hwrite : s.windowWrite f.port f.base f.addr f.data = some x) (his : is f = true) :
    s.takeOpenWindow is = x.frameDone.drainAper 16 := by
  simp only [State.takeOpenWindow, State.takeWindow, hready, hfront, hgoes, hwrite, his, Bool.not_false, Bool.and_self, Bool.not_true,
    Bool.false_eq_true, if_false]

end

/-- Settles O38: the six commands differ in the frames that they name alone, so that each of them takes the front frame, or waits with it,
as POINT_WINDOW_WRITE does. -/
theorem windowWrites : Obligations.WindowWrites := by
  intro t s f hready hfront
  refine ⟨fun x hgoes hwrite => ?takes, fun hwaits => ?waits⟩
  case takes =>
    have takes (is : Frame → Bool) (his : is f = true) :
        Host.Outcome.next ((s.at t).takeOpenWindow is) = (.next (x.frameDone.drainAper 16) : Host.Outcome State Fault Refusal) :=
      congrArg _ (State.takeOpenWindow_of_windowWrite hready hfront hgoes hwrite his)
    exact ⟨takes _ rfl, (takes _ ·), (takes _ ·), (takes _ ·), (takes _ ·), (takes _ ·)⟩
  case waits =>
    have stays (is : Frame → Bool) :
        Host.Outcome.next ((s.at t).takeOpenWindow is) = (.next (s.at t) : Host.Outcome State Fault Refusal) :=
      congrArg _ (State.takeOpenWindow_of_waits hfront hwaits)
    simp only [List.forall_mem_cons, List.not_mem_nil, false_imp_iff, implies_true, and_true]
    exact ⟨stays _, stays _, stays _, stays _, stays _, stays _⟩

end Sys2Proof.Machine
end

section
/-! SUPPORT. Words of the ALH page: the commands of ALH_CMD, changes of the mode and of the duty target, ALH_CLR (R275, R282–R285, R291, R293). -/

namespace Sys2Proof.Machine

open Sys2Proof

/-! ### The row of a command (Table 10-11) -/

/-- The row of a word of ALH_CMD by its op field. -/
def alhRow : Nat → WriteRow
  | 1 => .acknowledgeEntry
  | 2 => .acknowledgeGroup
  | 3 => .acknowledgeAll
  | 4 => .resetEntry
  | 5 => .shelveEntry
  | 6 => .unshelveEntry
  | 7 => .takeOutOfService
  | 8 => .returnToService
  | 9 => .acceptCall
  | 10 => .armGroup
  | _ => .alhCmdNone

theorem alhRow_of_none {op : Nat} (h : op = 0 ∨ 10 < op) : alhRow op = .alhCmdNone := by
  obtain rfl | ⟨k, rfl⟩ : op = 0 ∨ ∃ k, op = k + 11 := h.imp_right fun hop => ⟨op - 11, by omega⟩
  · rfl
  · rfl

theorem Word.bits_lt (v : Word) (lsb width : Nat) : Word.bits v lsb width < 2 ^ width := Nat.mod_lt _ (Nat.two_pow_pos width)

/-- A word of ALH_CMD is of one row. -/
theorem rowsOfAlh_cmd (v : Word) : rowsOfAlh R.ALH_CMD_op.off v = [alhRow (Word.bits v 0 4)] := by
  have hop : Word.bits v R.ALH_CMD_op.lsb R.ALH_CMD_op.width < 16 := Word.bits_lt v 0 4
  change _ = [alhRow (Word.bits v R.ALH_CMD_op.lsb R.ALH_CMD_op.width)]
  unfold rowsOfAlh
  generalize Word.bits v R.ALH_CMD_op.lsb R.ALH_CMD_op.width = op at hop ⊢
  interval_cases op <;> rfl

/-! ### Operations with their index in range, and no operation -/

theorem State.alhOp_of_lt {s : State} {op idx arg src node stamp : Nat} {may : Bool} (h : idx < alhIndices op) :
    s.alhOp op idx arg src node stamp may = s.alhDo op idx arg src node stamp may :=
  if_neg (Nat.not_le.mpr h)

theorem alhIndices_of_none {op : Nat} (h : op = 0 ∨ 10 < op) : alhIndices op = 0 := by
  obtain rfl | hop := h
  · rfl
  · exact List.getD_eq_default _ _ hop

/-- An op that Table 10-11 does not have answers 4. -/
theorem State.alhOp_of_none {s : State} {op idx arg src node stamp : Nat} {may : Bool} (h : op = 0 ∨ 10 < op) :
    s.alhOp op idx arg src node stamp may = (s, 4) :=
  if_pos (alhIndices_of_none h ▸ Nat.zero_le idx)

/-! ### Words that act at once, and words that wait (R293) -/

theorem State.alhWord_of_runs {s : State} (w : AlhWord) (h : s.alhRuns = true) : s.alhWord w = s.alhTakeWord w := if_pos h

theorem State.alhWord_of_paused {s : State} (w : AlhWord) (h : s.alhRuns = false) :
    s.alhWord w = { s with alh := { s.alh with held := s.alh.held ++ [w] } } :=
  if_neg (ne_true_of_eq_false h)

theorem State.takeRow_alhCmd {s : State} {p : Port} {a : Nat} {v : Word} {i : Nat} (h : s.takes p a v .alh i R.ALH_CMD_op.off) :
    s.takeRow (alhRow (Word.bits v 0 4)) 0 [] = ((s.stored p a v .alh i).alhCmdWrite p v).popWord :=
  State.takeRow_block h (by decide) (List.contains_iff_mem.2 ((rowsOfAlh_cmd v).symm ▸ List.mem_cons_self : _ ∈ rowsOfAlh _ v))

/-- The source that ALH records for a word of a port (R282). -/
def alhSource : Port → Nat
  | .host => 1
  | .trapdoor => 5

/-- A word of ALH_MODE that its page stores: the mode that stood is kept with it (R275). -/
theorem State.pageAction_alhMode (w old : State) (p : Port) (i b : Nat) (v : Word) :
    w.pageAction old p .alh i b R.ALH_MODE_mode.off v true 0 [] =
      w.alhWord (.mode (Word.bits v 0 4) (old.fv P.ALH R.ALH_MODE_mode) (alhSource p)) := rfl

/-- A word of ALH_DUTY that its page stores (R285). -/
theorem State.pageAction_alhDuty (w old : State) (p : Port) (i b : Nat) (v : Word) :
    w.pageAction old p .alh i b R.ALH_DUTY_target.off v true 0 [] =
      w.alhWord (.duty (Word.bits v 0 5) (alhSource p)) := rfl

/-- Settles O26: ALH_CMD's op field alone names the row, and what the word does depends on its op while ALH runs and not while it is paused. -/
theorem alarmWords : Obligations.AlarmWords := by
  refine ⟨?command, ?others⟩
  case command =>
    intro t s p a v i h w x idx arg src ends all op
    have hrow : (s.at t).takeRow (alhRow op) 0 [] = (w.alhCmdWrite p v).popWord := State.takeRow_alhCmd h
    refine ⟨fun hruns => ?acts, fun hpaused => ?waits⟩
    case acts =>
      have answers {r : State × Nat} (hr : x.alhOp op idx arg src 0 w.now (w.maintains p) = r) :
          (s.at t).takeRow (alhRow op) 0 [] = ends r := by
        subst hr
        exact hrow.trans (congrArg State.popWord (State.alhWord_of_runs _ hruns))
      have does (n : Nat) {r : State × Nat} (hop : op = n) (hidx : idx < alhIndices n)
          (hr : x.alhDo n idx arg src 0 w.now (w.maintains p) = r) :
          (.next ((s.at t).takeRow (alhRow n) 0 []) : Host.Outcome State Fault Refusal) = .next (ends r) := by
        subst hop
        exact congrArg _ (answers ((State.alhOp_of_lt hidx).trans hr))
      refine ⟨fun hop hidx hact => does 1 hop hidx (if_pos hact), fun hop hidx => does 2 hop hidx rfl,
        fun hop => does 3 hop (Word.bits_lt v 8 16) rfl, fun hop hidx hact => does 4 hop hidx (if_pos hact), fun hop hidx => does 5 hop hidx rfl,
        fun hop hidx => does 6 hop hidx rfl, fun hop hidx hmay => does 7 hop hidx (if_pos hmay),
        fun hop hidx hmay => does 8 hop hidx (if_pos hmay), fun hop hidx => does 9 hop hidx rfl,
        fun hop hidx hclosed => does 10 hop hidx (if_neg (ne_true_of_eq_false hclosed)), fun hop => ?none⟩
      exact congrArg Host.Outcome.next (alhRow_of_none hop ▸ answers (State.alhOp_of_none hop))
    case waits =>
      intro u
      have hheld : (s.at t).takeRow (alhRow op) 0 [] = u := hrow.trans (congrArg State.popWord (State.alhWord_of_paused _ hpaused))
      have waits {r : WriteRow} (hr : alhRow op = r) :
          (.next ((s.at t).takeRow r 0 []) : Host.Outcome State Fault Refusal) = .next u :=
        congrArg _ (hr ▸ hheld)
      exact ⟨fun hop => waits (congrArg alhRow hop), fun hop => waits (congrArg alhRow hop), fun hop => waits (congrArg alhRow hop),
        fun hop => waits (congrArg alhRow hop), fun hop => waits (congrArg alhRow hop), fun hop => waits (congrArg alhRow hop),
        fun hop => waits (congrArg alhRow hop), fun hop => waits (congrArg alhRow hop), fun hop => waits (congrArg alhRow hop),
        fun hop => waits (congrArg alhRow hop), fun hop => waits (alhRow_of_none hop)⟩
  case others =>
    intro t s p a v i w src was waits
    have actsOrWaits (x : AlhWord) : (w.alhWord x).popWord = if w.alhRuns then (w.alhTakeWord x).popWord else waits x :=
      apply_ite State.popWord _ _ _
    refine ⟨fun h hmay => congrArg Host.Outcome.next ?mode, fun h hmay => congrArg Host.Outcome.next ?duty,
      fun h h0 => congrArg Host.Outcome.next ?clear⟩
    case mode =>
      have hrow : (rowsOfBlock .alh R.ALH_MODE_mode.off v).contains .modeChange = true := rfl
      rw [State.takeRow_block h (by decide) hrow, hmay, State.pageAction_alhMode]
      exact actsOrWaits _
    case duty =>
      have hrow : (rowsOfBlock .alh R.ALH_DUTY_target.off v).contains .dutyChange = true := rfl
      rw [State.takeRow_block h (by decide) hrow, hmay, State.pageAction_alhDuty]
      exact actsOrWaits _
    case clear =>
      have hrow : (rowsOfBlock .alh R.ALH_CLR_clr.off v).contains .alhClr = true := by
        simp [rowsOfBlock, rowsOfAlh, R.ALH_CLR_clr, h0]
      rw [State.takeRow_block h (by decide) hrow]
      exact congrArg State.popWord (if_pos ⟨rfl, h0⟩)

end Sys2Proof.Machine
end

section
/-! SUPPORT. Timed changes of alarm entries, calls, and the answers to calls (R249, R254, R270–R282, R286–R291). -/

namespace Sys2Proof.Machine

open Sys2Proof

/-- A command that answers `unlessWaits` leaves the state as it was where it waits, and takes effect where not (R249, R254). -/
theorem next_unlessWaits {o : Host.Outcome State Fault Refusal} {u x : State} (h : o = .next (u.unlessWaits x)) :
    (u.touchesStalled x = true ∨ u.overfills x = true → o = .next u) ∧ (¬(u.touchesStalled x = true ∨ u.overfills x = true) → o = .next x) :=
  ⟨fun hwaits => h.trans (congrArg _ (State.unlessWaits_of_waits hwaits)),
    fun hgoes => h.trans (congrArg _ (State.unlessWaits_of_not_waits hgoes))⟩

/-! ### Entries (R270–R281) -/

/-- A pending entry as its lead has passed: a cause that applies suppresses it, and it stands announced without one (R276, R278). -/
def State.decidedEntry (s : State) (q : Nat) : Entry :=
  match s.causeOf q with
  | some c => { s.entry q with pending := false, pendUntil := none, supGraph := true, cause := c }
  | none => { s.entry q with pending := false, pendUntil := none, supGraph := false, cause := 0xFFFF }

section
variable {t d : Nat} {entry : Fin 16384} {s : State} (hruns : (s.at t).alhRuns = true)
include hruns

theorem execSupModeRelease_of_due (hdrop : ((s.at t).entry entry).modeDrop = some d) (hdue : d ≤ (s.at t).now) :
    execSupModeRelease t entry s = .next ((s.at t).unlessWaits
      ((s.at t).alhOverlay entry { (s.at t).entry entry with supMode := false, modeDrop := none } (s.at t).now 5 0 0)) := by
  simp only [execSupModeRelease, hdrop, hruns, hdue, decide_true, Bool.and_self, if_true]

theorem execShelveExpiry_of_due {slot : Fin 1024} {x : Slot} (hslot : SMap.get? (s.at t).alh.slots slot = some x)
    (hdue : x.expiry ≤ (s.at t).now) (hread : (s.at t).anyPoison (0x00E50000 + slot.val * 16) 16 = false) :
    execShelveExpiry t slot s = .next ((s.at t).unlessWaits (((s.at t).unshelve x.entry 0 0).irq P.ALH 5)) := by
  simp only [execShelveExpiry, hslot, hruns, hdue, hread, decide_true, Bool.not_false, Bool.and_self, if_true]

theorem execSuppressionHoldEnd_of_runs :
    execSuppressionHoldEnd t entry s = .next ((s.at t).unlessWaits (((s.at t).alhJudge entry 6).judgeFrom entry)) :=
  congrArg Host.Outcome.next (if_pos hruns)

theorem execPendingDecided_of_due (hpend : ((s.at t).entry entry).pendUntil = some d) (hdue : d < (s.at t).now) :
    execPendingDecided t entry s =
      .next ((s.at t).unlessWaits ((s.at t).alhOverlay entry ((s.at t).decidedEntry entry) (s.at t).now 9 0 0)) := by
  simp only [execPendingDecided, ite_not_of_true hruns, hpend, if_neg (Nat.not_le.mpr hdue)]
  rfl

end

/-! ### Calls (R286–R291) -/

section
variable {t : Nat} {ladder : Fin 8} {s : State} (hruns : (s.at t).alhRuns = true)
include hruns

/-- A rung that is due moves, unless an answer stamped before it has moved its call (R282, R287, R289). -/
theorem execRungDeadline_of_due (hdue : (s.at t).rungDue ladder = true) :
    let w := (s.at t).alhUpTo ((s.at t).stamp (P.ALHLD ladder) R.ALH_LD_DL_LO_dl R.ALH_LD_DL_HI_dl)
    execRungDeadline t ladder s = .next (if w.rungDue ladder then w.rungMove ladder else w) :=
  ite_not_of_true (Bool.and_eq_true_iff.mpr ⟨hruns, hdue⟩)

theorem execCallRepeat_of_due (hactive : (s.at t).callActive ladder = true)
    (hdue : (s.at t).repeatDue (SMap.get (fun _ => Call.none_) (s.at t).alh.calls ladder).sent = true) :
    execCallRepeat t ladder s = .next ((s.at t).callChanged ladder) :=
  congrArg Host.Outcome.next (if_pos (by simp only [hruns, hactive, hdue, Bool.and_self]))

theorem execStatusFrame_of_due (hen : (s.at t).fb P.ALH R.ALH_CAN_en = true)
    (hdue : (s.at t).repeatDue (s.at t).alh.statusAt = true) :
    execStatusFrame t s =
      .next (({ s.at t with alh := { (s.at t).alh with statusAt := some (s.at t).now } } : State).alhSend 125 (s.at t).statusFrame) :=
  congrArg Host.Outcome.next (if_pos (by simp only [hruns, hen, hdue, Bool.and_self]))

end

/-! ### Answers (R282, R291) -/

/-- What an answer leaves: one that no longer fits is counted (R291). -/
def State.answered (r : State × Bool) : State := if r.2 then r.1 else r.1.staleAnswer

section
variable {s : State} {stamp : Nat} {d : List Byte} {rest : List (Nat × List Byte)}

/-- The oldest waiting answer acts after what is stamped before it, as the command of its kind. -/
theorem State.answer_of_kind {k : Nat} (hruns : s.alhRuns = true) (hhead : s.alh.answers = (stamp, d) :: rest) (hkind : answerKind d = k) :
    s.answer k = s.unlessWaits (s.alhUpTo stamp) := by
  simp [State.answer, hhead, hkind, hruns]

theorem State.takeAnswer_of_head (hhead : s.alh.answers = (stamp, d) :: rest) :
    s.takeAnswer = State.answered (({ s with alh := { s.alh with answers := rest } } : State).answerDo stamp (d.getD 0 0#8).toNat
      (answerKind d) ((d.getD 2 0#8).toNat + (d.getD 3 0#8).toNat * 256) (d.getD 4 0#8).toNat) := by
  simp only [State.takeAnswer, hhead, State.answered]

/-- With no change waiting, an answer that waits alone is all that is stamped up to its own instant. -/
theorem State.alhUpTo_of_lone_answer (hruns : s.alhRuns = true) (hlone : s.alh.answers = [(stamp, d)]) (hnone : s.pte.changes = []) :
    s.alhUpTo stamp = s.takeAnswer := by
  simp [State.alhUpTo, State.alhDrain, hruns, hlone, hnone, earliestChange]

end

section
variable {w : State} {stamp node n l : Nat}

/-- Kind 1 (R289): an accept of an active call by a sequence number that is not older. -/
theorem State.answered_accept :
    State.answered (w.answerDo stamp node 1 n l) =
      if l < 8 ∧ w.callActive l = true ∧ notOlder n (w.fv (P.ALHLD l) R.ALH_LD_SEQ_rseq) = true then (w.callAccept l stamp).1
      else w.staleAnswer := by
  refine (apply_ite State.answered _ _ _).trans (if_congr ?_ rfl rfl)
  simp only [Bool.and_eq_true, decide_eq_true_eq, and_assoc]

/-- Kind 4 (R291): the entries of a call that joined no later than the answer's sequence number. -/
theorem State.answered_ackCall :
    State.answered (w.answerDo stamp node 4 n l) =
      if l < 8 then (w.alhAck (((w.callEntries l).filter (fun e => notOlder n e.2.join)).map (fun e => e.1)) 2 node stamp).1
      else w.staleAnswer :=
  apply_ite State.answered _ _ _

/-- Kind 5 (R291): the answering node's target becomes the duty target. -/
theorem State.answered_takeDuty :
    State.answered (w.answerDo stamp node 5 n l) =
      match w.targetOfNode node with
      | some k => w.setDuty k 2
      | none => w.staleAnswer := by
  simp only [State.answerDo]
  cases w.targetOfNode node <;> rfl

end

/-- Settles O51: each command finds ALH running and its instant come; an answer that waits alone acts by its kind, and what touches a stalled
point or finds no room waits as `unlessWaits` says (R249, R254). -/
theorem alarmsComplete : Obligations.AlarmsComplete := by
  refine ⟨?entries, ?calls⟩
  case entries =>
    intro t d entry slot group s x u y takes hruns
    exact ⟨fun hdrop hdue => next_unlessWaits (execSupModeRelease_of_due hruns hdrop hdue),
      fun hslot hdue hread => next_unlessWaits (execShelveExpiry_of_due hruns hslot hdue hread),
      next_unlessWaits (execSuppressionHoldEnd_of_runs hruns),
      fun hpend hdue => next_unlessWaits (execPendingDecided_of_due hruns hpend hdue), congrArg Host.Outcome.next (if_pos hruns)⟩
  case calls =>
    intro t stamp ladder d rest s u takes hruns
    have acts {k : Nat} {rest : List (Nat × List Byte)} (hhead : u.alh.answers = (stamp, d) :: rest) (hkind : answerKind d = k) :
        (.next (u.answer k) : Host.Outcome State Fault Refusal) = .next (u.unlessWaits (u.alhUpTo stamp)) :=
      congrArg _ (State.answer_of_kind hruns hhead hkind)
    refine ⟨execRungDeadline_of_due hruns, execCallRepeat_of_due hruns, execStatusFrame_of_due hruns, fun hhead => ?oldest,
      fun hlone hnone => ?alone⟩
    case oldest =>
      exact ⟨fun hkind => next_unlessWaits (acts hhead hkind), fun hkind => next_unlessWaits (acts hhead hkind),
        fun hkind => next_unlessWaits (acts hhead hkind), fun hkind => next_unlessWaits (acts hhead hkind),
        fun hkind => next_unlessWaits (acts hhead hkind), fun hkind => next_unlessWaits (acts hhead hkind)⟩
    case alone =>
      intro w node n l cmd taken
      have does {k : Nat} {x : State} (hkind : answerKind d = k) (hx : State.answered (w.answerDo stamp node k n l) = x) :
          (.next (u.answer k) : Host.Outcome State Fault Refusal) = .next (u.unlessWaits x) := by
        have htaken : u.takeAnswer = x := (State.takeAnswer_of_head hlone).trans (hkind ▸ hx)
        rw [acts hlone hkind, State.alhUpTo_of_lone_answer hruns hlone hnone, htaken]
      exact ⟨fun hkind => next_unlessWaits (does hkind State.answered_accept), fun hkind => next_unlessWaits (does hkind rfl),
        fun hkind => next_unlessWaits (does hkind rfl), fun hkind => next_unlessWaits (does hkind State.answered_ackCall),
        fun hkind => next_unlessWaits (does hkind State.answered_takeDuty), fun hkind => next_unlessWaits (does hkind rfl)⟩

end Sys2Proof.Machine
end

section
/-! SUPPORT. Releases, cycles and online changes of the block engine, and the crates of the recorder (R302–R315, R329, R332–R344). -/

namespace Sys2Proof.Machine

open Sys2Proof

/-! ### Releases and cycles (R307–R315) -/

section
variable {t : Nat} {task : Fin 8} {s : State}

/-- A release stamp that the timebase has reached overruns where the task's earlier cycle has not committed, or the engine is halted, and
releases the task where not (R307, R310, R501). -/
theorem execCyclicRelease_of_reached {r : Nat} (hready : (s.at t).ready = true) (hstate : (s.at t).pstate < 2)
    (hgoes : (s.at t).releasesEnd = false) (hon : (s.at t).taskOn task.val = true) (hkind : ((s.at t).taskEntry task.val).kind = 1)
    (hr : (s.at t).releaseStamp task.val = some r) (hnew : ((s.at t).task task.val).rel.any (fun q => decide (r ≤ q)) = false) :
    let x := (s.at t).task task.val
    let w := (s.at t).setTask task.val { x with rel := some r }
    execCyclicRelease t task s = .next
      (if w.fbeHalted || x.cycle.isSome || x.released.isSome then w.taskOverrun task.val else w.releaseTask task.val r) := by
  simp [execCyclicRelease, hready, Nat.not_le.mpr hstate, hgoes, hon, hkind, hr, hnew]

/-- The oldest trigger of an idle event task is released once the least gap has passed (R308). -/
theorem execEventRelease_of_idle {stamp : Nat} {rest : List Nat} (hready : (s.at t).ready = true) (hstate : (s.at t).pstate < 2)
    (hgoes : (s.at t).releasesEnd = false) (hrun : (s.at t).fbeHalted = false) (hon : (s.at t).taskOn (8 + task.val) = true)
    (hcycle : ((s.at t).task (8 + task.val)).cycle = none) (hreleased : ((s.at t).task (8 + task.val)).released = none)
    (hqueue : ((s.at t).task (8 + task.val)).queue = stamp :: rest)
    (hgap : ((s.at t).task (8 + task.val)).last.any
      (fun q => decide ((s.at t).now < q + msecs ((s.at t).taskEntry (8 + task.val)).period)) = false) :
    execEventRelease t task s = .next
      (((s.at t).setTask (8 + task.val) { (s.at t).task (8 + task.val) with queue := rest }).releaseTask (8 + task.val) stamp) := by
  simp [execEventRelease, hready, Nat.not_le.mpr hstate, hgoes, hrun, hon, hcycle, hreleased, hqueue, hgap]

/-- The waiting cycle of the highest priority starts over a running one of lower priority, outside ARMED and SEAM (R309, R329). -/
theorem execCycleStart_of_waiting {p : Program} {prio stamp n : Nat} (ecc : EccFinds) (hpow : (s.at t).domainOn 8 = true)
    (holc : (s.at t).fv P.FBE R.FBE_STAT_olc < 2) (hp : (s.at t).program = some p) (hwaiting : (s.at t).waitingTask = some (prio, stamp, n))
    (hover : (s.at t).runningTask.any (fun q => decide (prio ≤ q.1)) = false) :
    execCycleStart t ecc s = .next (((s.at t).eccFinds ecc).startCycle p n stamp) := by
  simp [execCycleStart, hpow, Nat.not_le.mpr holc, hp, hwaiting, hover]

theorem execCycleCommit_of_running {p : Program} {prio stamp n : Nat} {c : Cycle} (hpow : (s.at t).domainOn 8 = true)
    (hp : (s.at t).program = some p) (hrunning : (s.at t).runningTask = some (prio, stamp, n)) (hcycle : ((s.at t).task n).cycle = some c) :
    execCycleCommit t s = .next ((s.at t).unlessWaits ((s.at t).commitCycle p n c)) := by
  simp only [execCycleCommit, hp, hrunning, hcycle, hpow, if_true]

/-! ### The online change (R329) -/

theorem execOlcPrepared_of_preparing {new : Program} (hpow : (s.at t).olcLate.domainOn 8 = true)
    (hnew : (s.at t).olcLate.fbe.banks.getD (s.at t).olcLate.standby none = some new)
    (holc : (s.at t).olcLate.fv P.FBE R.FBE_STAT_olc = 1) :
    let v := (s.at t).olcLate
    let h := v.fv P.FBE R.FBE_STAT_ihalf
    execOlcPrepared t s = .next ((v.buildHalf v.program new h (1 - h)).setFv P.FBE R.FBE_STAT_olc 2) := by
  simp [execOlcPrepared, holc, hpow, hnew, -List.getD_eq_getElem?_getD]

theorem execSeam_of_armed {new : Program} (hpow : (s.at t).olcLate.domainOn 8 = true)
    (hnew : (s.at t).olcLate.fbe.banks.getD (s.at t).olcLate.standby none = some new)
    (holc : (s.at t).olcLate.fv P.FBE R.FBE_STAT_olc = 2) (hidle : (s.at t).olcLate.runningTask = none) :
    execSeam t s = .next ((s.at t).olcLate.seam new) := by
  simp [execSeam, holc, hpow, hidle, hnew, -List.getD_eq_getElem?_getD]

end

/-! ### Crates of the recorder (R332–R344) -/

section
variable {t : Nat} {s : State}

theorem execCrateCapture_of_waiting {g : Trigger} {gs : List Trigger} (ecc : EccFinds) (hready : (s.at t).ready = true)
    (hlife : (s.at t).life ≠ 3) (hroom : (s.at t).captureWaits = false) (hqueue : (s.at t).evr.queue = g :: gs) :
    execCrateCapture t ecc s =
      .next ((({ s.at t with evr := { (s.at t).evr with queue := gs } } : State).eccFinds ecc).captureTrigger g) := by
  simp only [execCrateCapture, hqueue, hready, hlife, hroom, Bool.not_true, decide_false, Bool.or_self, Bool.false_eq_true, if_false]

/-- With no loss to record, what is staged is written first, and the full marker once none is (R337, R339, R341). -/
theorem execCrateWrite_of_lossless (hready : (s.at t).ready = true) (hrun : (s.at t).evr.paused = false) (hloss : (s.at t).evr.loss = none) :
    execCrateWrite t s =
      if !(s.at t).evr.larder.isEmpty || (s.at t).markerWaits then .next (s.at t).writeStaged
      else if (s.at t).fullMarkerOpen && (s.at t).regionClosed then .next (s.at t).writeFullMarker
      else .next (s.at t) :=
  if_neg (by simp [hready, hrun, hloss])

/-- Within the region the loss marker is written at EVR_WIDX with the next sequence number (R341). -/
theorem State.writeLossMarker_of_lt {s : State} (l : Nat × Nat × Nat) (h : s.fv P.EVR R.EVR_WIDX_widx < 4194304) :
    let w : State := { s with evr := { s.evr with loss := none } }
    let seq := nextSeq w.evr.lastSeq
    let m : Marker := { kind := 2, count := l.1, tFirst := l.2.1, tLast := l.2.2, srcMask := 0, entry := 0xFFFF, qfull := 0, closed := none }
    s.writeLossMarker l = ({ w with evr := { w.evr with lastSeq := seq } } : State).putCrate (s.fv P.EVR R.EVR_WIDX_widx)
      (markerCrate m seq w.calendar w.clockFlags) :=
  if_neg (Nat.not_le.mpr h)

theorem execLossMarker_of_loss {l : Nat × Nat × Nat} (hready : (s.at t).ready = true) (hrun : (s.at t).evr.paused = false)
    (hloss : (s.at t).evr.loss = some l) : execLossMarker t s = .next ((s.at t).writeLossMarker l) := by
  simp only [execLossMarker, hloss, hready, hrun, Bool.not_false, Bool.and_self, if_true]

end

/-- Settles O52: each command finds its task, its change or its crate in the condition that its meaning asks for; a commit waits as
`unlessWaits` says (R249, R254). -/
theorem engineAndRecorderComplete : Obligations.EngineAndRecorderComplete := by
  intro t r stamp prio n rest task s p new c g gs l ecc u
  refine ⟨execCyclicRelease_of_reached, execEventRelease_of_idle, execCycleStart_of_waiting ecc,
    fun hpow hp hrunning hcycle => next_unlessWaits (execCycleCommit_of_running hpow hp hrunning hcycle),
    fun hpow hnew => ⟨execOlcPrepared_of_preparing hpow hnew, execSeam_of_armed hpow hnew⟩, execCrateCapture_of_waiting ecc,
    fun hready hrun hloss => ?crate, fun hready hrun hloss hroom => ?loss⟩
  case crate =>
    have hwrite := execCrateWrite_of_lossless hready hrun hloss
    refine ⟨fun hstaged => hwrite.trans (if_pos ?_), fun hempty hmarker hopen hclosed => hwrite.trans ((if_neg ?_).trans (if_pos ?_))⟩
    · simpa using hstaged
    · simpa using And.intro hempty hmarker
    · exact Bool.and_eq_true_iff.mpr ⟨hopen, hclosed⟩
  case loss =>
    exact (execLossMarker_of_loss hready hrun hloss).trans (congrArg _ (State.writeLossMarker_of_lt l hroom))

end Sys2Proof.Machine
end

section
/-! SUPPORT. IMG_LOAD into its three targets (R249, R254, R299, R302, R304, R493–R495). -/

namespace Sys2Proof.Machine

open Sys2Proof

/-- A program image stands in the standby bank, which is valid with the image's identity (R302, R304). -/
def State.bankProgram (s : State) (c : CheckedImage) (p : Program) : State :=
  let w := s.nodeWrite (bankBase s.standby) (c.header ++ c.body)
  let w : State := { w with fbe := { w.fbe with banks := w.fbe.banks.set s.standby (some p) } }
  (w.setFv P.FBE R.FBE_STAT_sb_valid 1).setFv P.FBE R.FBE_SB_ID_id c.id

theorem State.unlessWaits_eq_ite (s t : State) :
    s.unlessWaits t = if s.touchesStalled t = true ∨ s.overfills t = true then s else t := by
  simp only [State.unlessWaits, Bool.or_eq_true]

section
variable {t n : Nat} {ecc : EccFinds} {s w : State} {x : Tally} {c : CheckedImage}

/-! ### A program (R302, R304) -/

theorem execImgLoadProgram_of_failed (hx : (s.at t).imageTally n 1 = some x) (hcheck : (s.at t).checkImage x ecc = (w, none)) :
    execImgLoadProgram t n ecc s = .next w := by
  simp only [execImgLoadProgram, hx, hcheck]

theorem execImgLoadProgram_of_unparsed (hx : (s.at t).imageTally n 1 = some x) (hcheck : (s.at t).checkImage x ecc = (w, some c))
    (hparse : programOf (c.header ++ c.body) = none) : execImgLoadProgram t n ecc s = .next (w.formFails x c.id c.result) := by
  simp only [execImgLoadProgram, hx, hcheck, hparse]

theorem execImgLoadProgram_of_parsed {p : Program} (hx : (s.at t).imageTally n 1 = some x)
    (hcheck : (s.at t).checkImage x ecc = (w, some c)) (hparse : programOf (c.header ++ c.body) = some p) :
    execImgLoadProgram t n ecc s = .next ((w.bankProgram c p).tallyDone n c.id c.result) := by
  simp only [execImgLoadProgram, hx, hcheck, hparse, State.bankProgram]

/-! ### A configuration (R495) -/

theorem execImgLoadConfig_of_failed (hx : (s.at t).imageTally n 2 = some x) (hcheck : (s.at t).checkImage x ecc = (w, none)) :
    execImgLoadConfig t n ecc s = .next w := by
  simp only [execImgLoadConfig, hx, hcheck]

theorem execImgLoadConfig_of_checked (hx : (s.at t).imageTally n 2 = some x) (hcheck : (s.at t).checkImage x ecc = (w, some c)) :
    execImgLoadConfig t n ecc s = .next (if recordsOk c.body then (w.imageConfig x.port c.body).tallyDone n c.id c.result
      else w.tallyEnds n 3 8 c.id c.result) := by
  simp only [execImgLoadConfig, hx, hcheck]
  cases recordsOk c.body <;> rfl

/-! ### An alarm table (R299) -/

theorem execImgLoadAlarmTable_of_failed (hx : (s.at t).imageTally n 4 = some x) (hcheck : (s.at t).checkImage x ecc = (w, none)) :
    execImgLoadAlarmTable t n ecc s = .next w := by
  simp only [execImgLoadAlarmTable, hx, hcheck]

/-- A body that holds no table, or none that is valid, ends the tally (R299). -/
theorem execImgLoadAlarmTable_of_invalid (hx : (s.at t).imageTally n 4 = some x) (hcheck : (s.at t).checkImage x ecc = (w, some c))
    (htable : (Config.alarmTable c.body).filter (fun a => a.valid) = none) :
    execImgLoadAlarmTable t n ecc s = .next (w.tallyEnds n 3 8 c.id c.result) := by
  simp only [execImgLoadAlarmTable, hx, hcheck]
  cases hbody : Config.alarmTable c.body with
  | none => rfl
  | some a =>
    have hvalid : ¬a.valid = true := Option.filter_eq_none_iff.mp htable a hbody
    simp only [hvalid, Bool.not_false, if_true]

/-- A valid table is taken by the alarm handler, or waits (R249, R254). -/
theorem execImgLoadAlarmTable_of_valid {a : AlarmTable} (hx : (s.at t).imageTally n 4 = some x)
    (hcheck : (s.at t).checkImage x ecc = (w, some c)) (htable : (Config.alarmTable c.body).filter (fun a => a.valid) = some a) :
    execImgLoadAlarmTable t n ecc s = .next (w.unlessWaits ((w.alhLoad a c.id).alhRecount.tallyDone n c.id c.result)) := by
  obtain ⟨hbody, hvalid⟩ := Option.filter_eq_some_iff.mp htable
  simp only [execImgLoadAlarmTable, hx, hcheck, hbody, hvalid, Bool.not_true, Bool.false_eq_true, if_false]

end

/-- Settles O43: a check that fails leaves its own state; what passes is taken where its target can read it, an alarm table as
`unlessWaits` says (R249, R254). -/
theorem imagesComplete : Obligations.ImagesComplete := by
  intro t n ecc s x u
  rcases hcheck : u.checkImage x ecc with ⟨w, none | c⟩
  case none =>
    exact ⟨fun hx => execImgLoadProgram_of_failed hx hcheck, fun hx => execImgLoadConfig_of_failed hx hcheck,
      fun hx => execImgLoadAlarmTable_of_failed hx hcheck⟩
  case some =>
    refine ⟨fun hx => ?program, fun hx => execImgLoadConfig_of_checked hx hcheck, fun hx => ?table⟩
    case program =>
      cases hparse : programOf (c.header ++ c.body) with
      | none =>
        simp only [hparse]
        exact execImgLoadProgram_of_unparsed hx hcheck hparse
      | some p =>
        simp only [hparse]
        exact execImgLoadProgram_of_parsed hx hcheck hparse
    case table =>
      cases htable : (Config.alarmTable c.body).filter (fun a => a.valid) with
      | none =>
        simp only [htable]
        exact execImgLoadAlarmTable_of_invalid hx hcheck htable
      | some a =>
        simp only [htable]
        exact (execImgLoadAlarmTable_of_valid hx hcheck htable).trans (congrArg _ (State.unlessWaits_eq_ite _ _))

end Sys2Proof.Machine
end

section
/-! SUPPORT. Words of the FBE and EVR pages (R307, R310, R327, R332, R346). -/

namespace Sys2Proof.Machine

open Sys2Proof

section
variable {w old : State} {p : Port} {i b : Nat} {v : Word}

/-- FBE_CLR acts on its bit (R310). -/
theorem State.pageAction_fbeClr (may : Bool) (h0 : v.getLsbD 0 = true) :
    w.pageAction old p .fbe i b R.FBE_CLR_clr.off v may 0 [] = w.fbeClr := if_pos ⟨rfl, h0⟩

/-- EVR_TRIG raises its trigger where its go bit is 1 (R332). -/
theorem State.evrTrigGo_of_go (h8 : v.getLsbD 8 = true) :
    w.evrTrigGo v =
      w.trigger { stamp := w.now, source := 0, arg := Word.bits v 16 16, list := some (Word.bits v 0 4), context := [] } := if_pos h8

/-- EVR_CLR clears the counts where its bit is 1 (R346). -/
theorem State.evrClr_of_clr (h0 : v.getLsbD 0 = true) :
    w.evrClr v =
      ((w.setReg (P.EVR + R.EVR_OVR_ovr.off) 0#32).setReg (P.EVR + R.EVR_FULL_full.off) 0#32).setReg (P.EVR + R.EVR_LOSS_crates.off) 0#32 :=
  if_pos h0

end

/-- Settles O27: each word names its row by its offset and its bits, and the page does what the word's bits ask for in their order. -/
theorem engineWords : Obligations.EngineWords := by
  intro t s p a v i w
  refine ⟨fun h => ?tasks, fun h => ?forces, fun h h0 => ?errors, fun h h8 => ?trigger, fun h h0 => ?counts⟩
  case tasks =>
    have hrow : (rowsOfBlock .fbe R.FBE_EV_TRIG_trig.off v).contains .fbeEvTrig = true := by
      simp [rowsOfBlock, rowsOfFbe, R.FBE_EV_TRIG_trig]
    exact congrArg Host.Outcome.next (State.takeRow_block h (by decide) hrow)
  case forces =>
    intro slot w₁ w₂ w₃
    have hword {r : WriteRow} (hr : (rowsOfFbe R.FBE_FRC_CTRL_set.off v).contains r = true) : (s.at t).takeRow r 0 [] = w₃.popWord :=
      State.takeRow_block h (by decide) hr
    refine ⟨fun h0 => congrArg Host.Outcome.next (hword ?_), fun h1 => congrArg Host.Outcome.next (hword ?_),
      fun h2 => congrArg Host.Outcome.next (hword ?_)⟩
    · simp [rowsOfFbe, R.FBE_FRC_CTRL_set, h0]
    · simp [rowsOfFbe, R.FBE_FRC_CTRL_set, R.FBE_FRC_CTRL_release, h1]
    · simp [rowsOfFbe, R.FBE_FRC_CTRL_set, R.FBE_FRC_CTRL_release_all, h2]
  case errors =>
    have hrow : (rowsOfBlock .fbe R.FBE_CLR_clr.off v).contains .fbeClr = true := by simp [rowsOfBlock, rowsOfFbe, R.FBE_CLR_clr, h0]
    refine congrArg Host.Outcome.next ((State.takeRow_block h (by decide) hrow).trans ?_)
    exact congrArg State.popWord (State.pageAction_fbeClr _ h0)
  case trigger =>
    have hrow : (rowsOfBlock .evr R.EVR_TRIG_go.off v).contains .evrTrigGo = true := by simp [rowsOfBlock, rowsOfEvr, R.EVR_TRIG_go, h8]
    exact congrArg Host.Outcome.next ((State.takeRow_block h (by decide) hrow).trans (congrArg State.popWord (State.evrTrigGo_of_go h8)))
  case counts =>
    have hrow : (rowsOfBlock .evr R.EVR_CLR_clr.off v).contains .evrClr = true := by simp [rowsOfBlock, rowsOfEvr, R.EVR_CLR_clr, h0]
    exact congrArg Host.Outcome.next ((State.takeRow_block h (by decide) hrow).trans (congrArg State.popWord (State.evrClr_of_clr h0)))

end Sys2Proof.Machine
end

section
/-! SUPPORT. The frame of every command: time and the parts that it lists (R75). -/

namespace Sys2Proof.Machine

open Sys2Proof

/-! ### Parts that a mask names -/

section
variable {m k : Nat} {ps qs : List Part}

theorem Part.covers_iff : Part.covers m ps = true ↔ ∀ p : Part, m.testBit p.bit = true → p ∈ ps := by
  simp only [Part.covers, List.all_eq_true, Bool.or_eq_true, Bool.not_eq_true', List.contains_iff_mem]
  constructor
  · intro h p hp
    exact (h p (by cases p <;> decide)).resolve_left (by rw [hp]; decide)
  · intro h p _
    cases hp : m.testBit p.bit
    · exact .inl rfl
    · exact .inr (h p hp)

theorem Part.covers_of_subset (hsub : ps ⊆ qs) (h : Part.covers m ps = true) : Part.covers m qs = true :=
  Part.covers_iff.2 fun p hp => hsub (Part.covers_iff.1 h p hp)

theorem Part.covers_lor (hm : Part.covers m ps = true) (hk : Part.covers k ps = true) : Part.covers (Nat.lor m k) ps = true := by
  refine Part.covers_iff.2 fun p hp => ?_
  have hor : (Nat.lor m k).testBit p.bit = (m.testBit p.bit || k.testBit p.bit) := Nat.testBit_or m k _
  rcases Bool.or_eq_true_iff.1 (hor.symm.trans hp) with h | h
  · exact Part.covers_iff.1 hm p h
  · exact Part.covers_iff.1 hk p h

/-- A command whose mask lies within the parts that it lists, the command queue not among them. -/
theorem MovesNext.frame {s : State} {o : Host.Outcome State Fault Refusal} (h : MovesNext m s o)
    (hps : (Part.covers m ps && !ps.contains .pending) = true) : Part.pending ∉ ps ∧ s.movesOnly ps o := by
  obtain ⟨hcovers, hpending⟩ := Bool.and_eq_true_iff.1 hps
  exact ⟨by simpa using hpending, h.only hcovers⟩

end

/-! ### Words of the write queue (R75) -/

/-- What every command of the write queue may change beyond time, whether or not another frame waits. -/
def Part.ofWord : List Part := [.regs, .staged, .rings, .queue, .host, .trap, .evr, .lnk]

section
variable (s : State) {t : Nat} {r : WriteRow} {sent : Nat} {flips : List Nat}

theorem State.ofWord_subset_wordParts : Part.ofWord ⊆ s.wordParts := List.subset_append_left _ _

theorem State.pending_notMem_wordParts : Part.pending ∉ s.wordParts := by
  unfold State.wordParts
  split <;> decide

/-- A row moves time, what its word's storing and its end move, and its own; the storeroom only where another frame waits. -/
theorem State.takeRow_movesOnly {ps : List Part} (hword : [.now, .tbs] ++ s.wordParts ⊆ ps) (hrow : Part.covers r.mask ps = true) :
    s.movesOnly ps (.next ((s.at t).takeRow r sent flips)) := by
  have hqueue : (s.at t).queue = s.queue := State.at_moves .queue rfl
  by_cases hlone : s.queue.length ≤ 1
  · have hmoves : Moves (Nat.lor 0x100C00759 r.mask) s ((s.at t).takeRow r sent flips) :=
      (State.at_moves.weaken (Nat.land_lor_of_left _ rfl)).trans
        ((State.takeRow_moves_lone (hqueue.symm ▸ hlone)).weaken (Nat.land_lor_lor rfl))
    have hcovers : Part.covers 0x100C00759 ([.now, .tbs] ++ s.wordParts) = true := by rw [State.wordParts, if_pos hlone]; rfl
    exact (MovesNext.next hmoves).only (Part.covers_lor (Part.covers_of_subset hword hcovers) hrow)
  · have hmoves : Moves (Nat.lor 0x100C01F59 r.mask) s ((s.at t).takeRow r sent flips) :=
      (State.at_moves.weaken (Nat.land_lor_of_left _ rfl)).trans (State.takeRow_moves_row.weaken (Nat.land_lor_lor rfl))
    have hcovers : Part.covers 0x100C01F59 ([.now, .tbs] ++ s.wordParts) = true := by rw [State.wordParts, if_neg hlone]; rfl
    exact (MovesNext.next hmoves).only (Part.covers_lor (Part.covers_of_subset hword hcovers) hrow)

/-- A row that lists parts of its own beside those of every word. -/
theorem State.takeRow_frame {own : List Part}
    (hown : (Part.covers r.mask ([.now, .tbs] ++ (Part.ofWord ++ own)) && !own.contains .pending) = true) :
    Part.pending ∉ [.now, .tbs] ++ (s.wordParts ++ own) ∧
      s.movesOnly ([.now, .tbs] ++ (s.wordParts ++ own)) (.next ((s.at t).takeRow r sent flips)) := by
  obtain ⟨hcovers, hpending⟩ := Bool.and_eq_true_iff.1 hown
  have hword : [Part.now, .tbs] ++ s.wordParts ⊆ [.now, .tbs] ++ (s.wordParts ++ own) := by
    rw [← List.append_assoc]
    exact List.subset_append_left _ _
  have hlists : [Part.now, .tbs] ++ (Part.ofWord ++ own) ⊆ [.now, .tbs] ++ (s.wordParts ++ own) := by
    have := s.ofWord_subset_wordParts
    grind
  refine ⟨?_, s.takeRow_movesOnly hword (Part.covers_of_subset hlists hcovers)⟩
  have hmine : Part.pending ∉ own := by simpa using hpending
  simp [hmine, s.pending_notMem_wordParts]

/-- A row that lists the parts of every word alone. -/
theorem State.takeRow_frame_of_word (hrow : Part.covers r.mask ([.now, .tbs] ++ (Part.ofWord ++ [])) = true) :
    Part.pending ∉ [.now, .tbs] ++ s.wordParts ∧ s.movesOnly ([.now, .tbs] ++ s.wordParts) (.next ((s.at t).takeRow r sent flips)) := by
  rw [← List.append_nil s.wordParts]
  exact s.takeRow_frame (Bool.and_eq_true_iff.2 ⟨hrow, rfl⟩)

end

/-! ### Every command -/

/-- Settles O5: a command moves the mask of its meaning, which the parts that it lists cover; a word of the write queue moves the mask of its
row beside what every word moves. -/
theorem commandFrames : Obligations.CommandFrames := fun s c =>
  match c with
  | .startUp .. => execStartUp_moves.frame rfl
  | .pfwHoldRelease .. => execPfwHoldRelease_moves.frame rfl
  | .powerFailWarning .. => execPowerFailWarning_moves.frame rfl
  | .pfwWithdrawn .. => execPfwWithdrawn_moves.frame rfl
  | .unwarnedLoss .. => execUnwarnedLoss_moves.frame rfl
  | .avddLost .. => execAvddLost_moves.frame rfl
  | .avddRestored .. => execAvddRestored_moves.frame rfl
  | .cellarStop .. => execCellarStop_moves.frame rfl
  | .rd1 .. => execRd1_moves.frame rfl
  | .rd4 .. => execRd4_moves.frame rfl
  | .wr1 .. => execWr1_moves.frame rfl
  | .wr4 .. => execWr4_moves.frame rfl
  | .stat .. => execStat_moves.frame rfl
  | .hrst .. => execHrst_moves.frame rfl
  | .undefinedOpcode .. => execUndefinedOpcode_moves.frame rfl
  | .frameAbort .. => execFrameAbort_moves.frame rfl
  | .heldReadComplete .. => execHeldReadComplete_moves.frame rfl
  | .registerWrite .. => execRegisterWrite_moves.frame rfl
  | .tlyGo .. => execTlyGo_moves.frame rfl
  | .tallyLaunch .. => execTallyLaunch_moves.frame rfl
  | .tallyStart .. => execTallyStart_moves.frame rfl
  | .nop .. => execNop_moves.frame rfl
  | .stoCopy .. => execStoCopy_moves.frame rfl
  | .stoFill .. => execStoFill_moves.frame rfl
  | .stoVerify .. => execStoVerify_moves.frame rfl
  | .stoRekey .. => execStoRekey_moves.frame rfl
  | .baseLearn .. => execBaseLearn_moves.frame rfl
  | .limDerive .. => execLimDerive_moves.frame rfl
  | .imgLoadProgram .. => execImgLoadProgram_moves.frame rfl
  | .imgLoadConfig .. => execImgLoadConfig_moves.frame rfl
  | .imgLoadAlarmTable .. => execImgLoadAlarmTable_moves.frame rfl
  | .olc .. => execOlc_moves.frame rfl
  | .evrErase .. => execEvrErase_moves.frame rfl
  | .cal .. => execCal_moves.frame rfl
  | .selftest .. => execSelftest_moves.frame rfl
  | .install .. => execInstall_moves.frame rfl
  | .revoke .. => execRevoke_moves.frame rfl
  | .aes .. => execAes_moves.frame rfl
  | .advance .. => execAdvance_moves.frame rfl
  | .marginPlan .. => execMarginPlan_moves.frame rfl
  | .undefinedOperation .. => execUndefinedOperation_moves.frame rfl
  | .tallyCompletion .. => execTallyCompletion_moves.frame rfl
  | .tallyTimeout .. => execTallyTimeout_moves.frame rfl
  | .converterStart .. => execConverterStart_moves.frame rfl
  | .measurementSlot .. => execMeasurementSlot_moves.frame rfl
  | .leadSlot .. => execLeadSlot_moves.frame rfl
  | .excitationTestSlot .. => execExcitationTestSlot_moves.frame rfl
  | .supervisorCheckSlot .. => execSupervisorCheckSlot_moves.frame rfl
  | .staleFault .. => execStaleFault_moves.frame rfl
  | .calDue .. => execCalDue_moves.frame rfl
  | .calibrationStart .. => execCalibrationStart_moves.frame rfl
  | .calibrationComplete .. => execCalibrationComplete_moves.frame rfl
  | .calibrationTimeout .. => execCalibrationTimeout_moves.frame rfl
  | .calOverdue .. => execCalOverdue_moves.frame rfl
  | .dynSample .. => execDynSample_moves.frame rfl
  | .biasMonitor .. => execBiasMonitor_moves.frame rfl
  | .overallLevel .. => execOverallLevel_moves.frame rfl
  | .overallStale .. => execOverallStale_moves.frame rfl
  | .channelSettled .. => execChannelSettled_moves.frame rfl
  | .tachoEdge .. => execTachoEdge_moves.frame rfl
  | .tachoDeadline .. => execTachoDeadline_moves.frame rfl
  | .recordEnd .. => execRecordEnd_moves.frame rfl
  | .zoomRecordEnd .. => execZoomRecordEnd_moves.frame rfl
  | .planeCommit .. => execPlaneCommit_moves.frame rfl
  | .planeStale .. => execPlaneStale_moves.frame rfl
  | .planeCommitOverdue .. => execPlaneCommitOverdue_moves.frame rfl
  | .scrubPassEnd .. => execScrubPassEnd_moves.frame rfl
  | .rowSpare .. => execRowSpare_moves.frame rfl
  | .wearMove .. => execWearMove_moves.frame rfl
  | .noticeClear .. => execNoticeClear_moves.frame rfl
  | .scalarPass .. => execScalarPass_moves.frame rfl
  | .sweepStart .. => execSweepStart_moves.frame rfl
  | .planeEvaluation .. => execPlaneEvaluation_moves.frame rfl
  | .sweepEnd .. => execSweepEnd_moves.frame rfl
  | .pointWindowWrite .. => execPointWindowWrite_moves.frame rfl
  | .pointForce .. => execPointForce_moves.frame rfl
  | .pointForceRelease .. => execPointForceRelease_moves.frame rfl
  | .latchRelease .. => execLatchRelease_moves.frame rfl
  | .pointSimulate .. => execPointSimulate_moves.frame rfl
  | .simulationEnd .. => execSimulationEnd_moves.frame rfl
  | .pointChange .. => execPointChange_moves.frame rfl
  | .supModeRelease .. => execSupModeRelease_moves.frame rfl
  | .shelveExpiry .. => execShelveExpiry_moves.frame rfl
  | .suppressionHoldEnd .. => execSuppressionHoldEnd_moves.frame rfl
  | .pendingDecided .. => execPendingDecided_moves.frame rfl
  | .firstOutFinal .. => execFirstOutFinal_moves.frame rfl
  | .rungDeadline .. => execRungDeadline_moves.frame rfl
  | .callRepeat .. => execCallRepeat_moves.frame rfl
  | .statusFrame .. => execStatusFrame_moves.frame rfl
  | .answerAccept .. => execAnswerAccept_moves.frame rfl
  | .answerAckEntry .. => execAnswerAckEntry_moves.frame rfl
  | .answerAckGroup .. => execAnswerAckGroup_moves.frame rfl
  | .answerAckCall .. => execAnswerAckCall_moves.frame rfl
  | .answerTakeDuty .. => execAnswerTakeDuty_moves.frame rfl
  | .answerResetEntry .. => execAnswerResetEntry_moves.frame rfl
  | .cyclicRelease .. => execCyclicRelease_moves.frame rfl
  | .eventRelease .. => execEventRelease_moves.frame rfl
  | .cycleStart .. => execCycleStart_moves.frame rfl
  | .cycleCommit .. => execCycleCommit_moves.frame rfl
  | .olcPrepared .. => execOlcPrepared_moves.frame rfl
  | .seam .. => execSeam_moves.frame rfl
  | .crateCapture .. => execCrateCapture_moves.frame rfl
  | .crateWrite .. => execCrateWrite_moves.frame rfl
  | .lossMarker .. => execLossMarker_moves.frame rfl
  | .timebaseRecord .. => execTimebaseRecord_moves.frame rfl
  | .referenceStopped .. => execReferenceStopped_moves.frame rfl
  | .oscStop .. => execOscStop_moves.frame rfl
  | .timeWriteApply .. => execTimeWriteApply_moves.frame rfl
  | .alarmFire .. => execAlarmFire_moves.frame rfl
  | .periodicEvent .. => execPeriodicEvent_moves.frame rfl
  | .weekdayAdvance .. => execWeekdayAdvance_moves.frame rfl
  | .tcompUpdate .. => execTcompUpdate_moves.frame rfl
  | .calendarTop .. => execCalendarTop_moves.frame rfl
  | .downFrameA .. => execDownFrameA_moves.frame rfl
  | .upFrameA .. => execUpFrameA_moves.frame rfl
  | .linkALost .. => execLinkALost_moves.frame rfl
  | .islandADisarm .. => execIslandADisarm_moves.frame rfl
  | .diInputChange .. => execDiInputChange_moves.frame rfl
  | .debouncedEdge .. => execDebouncedEdge_moves.frame rfl
  | .wireBreak .. => execWireBreak_moves.frame rfl
  | .vfieldWarn .. => execVfieldWarn_moves.frame rfl
  | .vfieldOff .. => execVfieldOff_moves.frame rfl
  | .vf18 .. => execVf18_moves.frame rfl
  | .outputTrip .. => execOutputTrip_moves.frame rfl
  | .downFrameB .. => execDownFrameB_moves.frame rfl
  | .upFrameB .. => execUpFrameB_moves.frame rfl
  | .linkBLost .. => execLinkBLost_moves.frame rfl
  | .islandBFail .. => execIslandBFail_moves.frame rfl
  | .loopPowerChange .. => execLoopPowerChange_moves.frame rfl
  | .regulationStep .. => execRegulationStep_moves.frame rfl
  | .complianceSet .. => execComplianceSet_moves.frame rfl
  | .complianceClear .. => execComplianceClear_moves.frame rfl
  | .fskTxStart .. => execFskTxStart_moves.frame rfl
  | .txDone .. => execTxDone_moves.frame rfl
  | .rxFrame .. => execRxFrame_moves.frame rfl
  | .canFrameReceived .. => execCanFrameReceived_moves.frame rfl
  | .canTxStart .. => execCanTxStart_moves.frame rfl
  | .canTxSuccess .. => execCanTxSuccess_moves.frame rfl
  | .arbitrationLost .. => execArbitrationLost_moves.frame rfl
  | .canError .. => execCanError_moves.frame rfl
  | .dominantTimeout .. => execDominantTimeout_moves.frame rfl
  | .recoveryComplete .. => execRecoveryComplete_moves.frame rfl
  | .canWake .. => execCanWake_moves.frame rfl
  | .replyTimeout .. => execReplyTimeout_moves.frame rfl
  | .timingApply .. => execTimingApply_moves.frame rfl
  | .passStart .. => execPassStart_moves.frame rfl
  | .lineWritten .. => execLineWritten_moves.frame rfl
  | .bandPass .. => execBandPass_moves.frame rfl
  | .blink .. => execBlink_moves.frame rfl
  | .idleCrcCheck .. => execIdleCrcCheck_moves.frame rfl
  | .panelRewrite .. => execPanelRewrite_moves.frame rfl
  | .rampAdvance .. => execRampAdvance_moves.frame rfl
  | .demandReplan .. => execDemandReplan_moves.frame rfl
  | .driverFault .. => execDriverFault_moves.frame rfl
  | .driverStop .. => execDriverStop_moves.frame rfl
  | .dstopRelease .. => execDstopRelease_moves.frame rfl
  | .stpiEdge .. => execStpiEdge_moves.frame rfl
  | .positionCommit .. => execPositionCommit_moves.frame rfl
  | .diagnosticFail .. => execDiagnosticFail_moves.frame rfl
  | .diagnosticClear .. => execDiagnosticClear_moves.frame rfl
  | .safetyDemand .. => execSafetyDemand_moves.frame rfl
  | .demandClear .. => execDemandClear_moves.frame rfl
  | .autoSelftest .. => execAutoSelftest_moves.frame rfl
  | .stDue .. => execStDue_moves.frame rfl
  | .monitorPass .. => execMonitorPass_moves.frame rfl
  | .planDue .. => execPlanDue_moves.frame rfl
  | .plan .. => execPlan_moves.frame rfl
  | .offsetStepSettled .. => execOffsetStepSettled_moves.frame rfl
  | .dormantEntry .. => execDormantEntry_moves.frame rfl
  | .wakeFromDormant .. => execWakeFromDormant_moves.frame rfl
  | .tamperEvent .. => execTamperEvent_moves.frame rfl
  | .sessionDecision .. => execSessionDecision_moves.frame rfl
  | .sessionExpiry .. => execSessionExpiry_moves.frame rfl
  | .lockoutEnd .. => execLockoutEnd_moves.frame rfl
  | .nonceExpiry .. => execNonceExpiry_moves.frame rfl
  | .tdenRising .. => execTdenRising_moves.frame rfl
  | .trapdoorSessionEnd .. => execTrapdoorSessionEnd_moves.frame rfl
  | .linkTestStart .. => execLinkTestStart_moves.frame rfl
  | .linkTestEnd .. => execLinkTestEnd_moves.frame rfl
  | .hbufRead .. => execHbufRead_moves.frame rfl
  | .referenceReturn .. => execReferenceReturn_moves.frame rfl
  | .x32Restart .. => execX32Restart_moves.frame rfl
  | .dfltRelease .. => execDfltRelease_moves.frame rfl
  | .integrationComplete .. => execIntegrationComplete_moves.frame rfl
  | .vfieldRise .. => execVfieldRise_moves.frame rfl
  | .islandSelfCheckFail .. => execIslandSelfCheckFail_moves.frame rfl
  | .pcomEdge .. => execPcomEdge_moves.frame rfl
  | .lock .. | .unlock .. | .clampNext .. | .clampFlush .. | .pgIrqSet .. | .evrTrigGo .. | .evrClr .. | .lpoClr .. | .resetOfs .. =>
    s.takeRow_frame_of_word rfl
  | .commit .. | .discard .. | .join .. | .hpiClrErr .. | .gcGo .. | .gcAbandon .. | .tlyCancel .. | .tlyCqPop .. | .scTest ..
  | .scFlip .. | .restart .. | .scrubNow .. | .stoClrErr .. | .spectralSimulation .. | .classRelease .. | .pteClr ..
  | .acknowledgeEntry .. | .acknowledgeGroup .. | .acknowledgeAll .. | .resetEntry .. | .shelveEntry .. | .unshelveEntry ..
  | .takeOutOfService .. | .returnToService .. | .acceptCall .. | .armGroup .. | .alhCmdNone .. | .modeChange .. | .dutyChange ..
  | .alhClr .. | .fbeEvTrig .. | .forceSet .. | .forceRelease .. | .forceReleaseAll .. | .fbeClr .. | .tbsSet .. | .tbsAdjust ..
  | .tbsSetCal .. | .tbsHalt .. | .trimWrite .. | .rearm .. | .thrTest .. | .doSet .. | .dioClr .. | .clrComp .. | .loopSet ..
  | .txGo .. | .txAbort .. | .rxRel .. | .send .. | .cancel .. | .objRelease .. | .resume .. | .recover .. | .sleep .. | .canClr ..
  | .pmbRelease .. | .put .. | .update .. | .full .. | .copyFront .. | .targetWrite .. | .ackPos .. | .setpos .. | .rmpClr ..
  | .safRelease .. | .alertClr .. | .safEnter .. | .reqRun .. | .reqLean .. | .reqDormant .. | .challenge .. | .sessionOpen ..
  | .sessionClose .. | .secAlertClr .. | .fbeHalt .. | .debugStep .. | .linkGo .. | .linkStop .. | .ins1 .. | .lnkClr ..
  | .hbufWrite .. =>
    s.takeRow_frame rfl

end Sys2Proof.Machine
end

section
/-! SUPPORT. Words of the TBS page (R353, R356, R358). -/

namespace Sys2Proof.Machine

open Sys2Proof

/-- The time write of kind `n` is requested behind those that still wait for their pulse (R353, R354). -/
def State.requestTime (s : State) (n : Nat) (x : Int) : State :=
  { s with tbs := { s.tbs with
      writes := s.tbs.writes ++ [{ kind := n, value := x, stamp := s.now, clamped := s.tbs.fieldClamp }], fieldClamp := false } }

section
variable {w : State} {v : Word}

/-- The requests of a word of TBS_CTRL: set, adjust and set_cal (R353). -/
def timeRequests (v : Word) : List Nat := [1, 2, 3].filter (fun j => v.getLsbD j)

theorem getLsbD_of_timeRequests {n : Nat} (h : timeRequests v = [n]) : v.getLsbD n = true :=
  (List.mem_filter.1 (show n ∈ timeRequests v by rw [h]; exact List.mem_cons_self)).2

theorem State.tbsCtrl_of_one {n : Nat} (h : timeRequests v = [n]) :
    w.tbsCtrl v = w.setHalted.requestTime n (
      let raw : Nat := w.setHalted.fv P.TBS R.TBS_SET_LO_set + 2 ^ 32 * w.setHalted.fv P.TBS R.TBS_SET_HI_set
      if n = 1 then raw else if n = 2 then sext 64 raw else w.setHalted.setCalValue) := by
  unfold timeRequests at h
  simp only [State.tbsCtrl, h]
  rfl

theorem State.tbsCtrl_of_none (h : timeRequests v = []) : w.tbsCtrl v = w.setHalted := by
  unfold timeRequests at h
  simp only [State.tbsCtrl, h]

theorem rowsOfTbs_halts (h : timeRequests v = []) : (rowsOfTbs 0x40 v).contains .tbsHalt = true := by
  simpa [rowsOfTbs, timeRequests, R.TBS_CTRL_set, R.TBS_CTRL_adjust, R.TBS_CTRL_set_cal, R.TBS_CTRL_halt, and_assoc] using h

end

/-- Settles O28: the one request of a word of TBS_CTRL names its row; none leaves the halt bit as written. -/
theorem timeWords : Obligations.TimeWords := by
  intro t s p a v i w
  refine ⟨fun h => ?ctrl, fun h => ?trim⟩
  case ctrl =>
    intro u raw only wants
    have hword {r : WriteRow} (hr : (rowsOfTbs 0x40 v).contains r = true) : (s.at t).takeRow r 0 [] = (w.tbsCtrl v).popWord :=
      State.takeRow_block h (by decide) hr
    refine ⟨fun hv => congrArg Host.Outcome.next ((hword ?_).trans (congrArg State.popWord (State.tbsCtrl_of_one hv))),
      fun hv => congrArg Host.Outcome.next ((hword ?_).trans (congrArg State.popWord (State.tbsCtrl_of_one hv))),
      fun hv => congrArg Host.Outcome.next ((hword ?_).trans (congrArg State.popWord (State.tbsCtrl_of_one hv))),
      fun hv => congrArg Host.Outcome.next ((hword (rowsOfTbs_halts hv)).trans (congrArg State.popWord (State.tbsCtrl_of_none hv)))⟩
    · simp [rowsOfTbs, R.TBS_CTRL_set, getLsbD_of_timeRequests hv]
    · simp [rowsOfTbs, R.TBS_CTRL_adjust, getLsbD_of_timeRequests hv]
    · simp [rowsOfTbs, R.TBS_CTRL_set_cal, getLsbD_of_timeRequests hv]
  case trim =>
    have hrow : (rowsOfBlock .tbs R.TBS_TRIM_trim.off v).contains .trimWrite = true := by simp [rowsOfBlock, rowsOfTbs]
    exact congrArg Host.Outcome.next (State.takeRow_block h (by decide) hrow)

end Sys2Proof.Machine
end

section
/-! SUPPORT. Words of the DIO and LPO pages (R370–R380, R389–R401). -/

namespace Sys2Proof.Machine

open Sys2Proof

/-- A word that a page takes at a row of the page's own registers completes with what the page does. -/
theorem State.next_takeRow_block {s u : State} {p : Port} {a : Nat} {v : Word} {k : Kind} {i off sent : Nat} {flips : List Nat} {r : WriteRow}
    (h : s.takes p a v k i off) (ho : 0x40 ≤ off) (hrow : (rowsOfBlock k off v).contains r = true)
    (hact : (s.stored p a v k i).pageAction s p k i (pageBase a) off v (s.mayStore p (pageBase a)) sent flips = u) :
    (Host.Outcome.next (s.takeRow r sent flips) : Host.Outcome State Fault Refusal) = .next u.popWord := by
  have ⟨hready, hfront, hp, hoff, _, hgoes⟩ := h
  have hrows : (rowsOf a v).contains r = true := by rw [rowsOf_block hp (hoff.symm ▸ ho), hoff]; exact hrow
  rw [State.takeRow_front sent flips hready hfront hrows hgoes, State.writeWord_page sent flips h ho, hact]

section
variable {w old : State} {p : Port} {i b : Nat} {v : Word}

/-- DIO_CTRL programs the thresholds, by which the balls are compared again, and re-arms where link and supply allow (R373, R377). -/
theorem State.pageAction_dioCtrl (w old : State) (p : Port) (i b : Nat) (v : Word) (may : Bool) :
    w.pageAction old p .dio i b R.DIO_CTRL_thr_test.off v may 0 [] =
      let u := w.showThr.inputsFollow
      if v.getLsbD 0 then (if u.rearmMay then ({ u with dio := { u.dio with arm := true } } : State) else u.clampAt P.DIO 0x40 0 true 1 0)
      else u := by
  show w.dioCtrl v = _
  unfold State.dioCtrl
  cases v.getLsbD 0 <;> rfl

/-- DIO_CLR acts on its bit (R370). -/
theorem State.pageAction_dioClr (may : Bool) (h0 : v.getLsbD 0 = true) :
    w.pageAction old p .dio i b R.DIO_CLR_clr.off v may 0 [] =
      (w.setReg (P.DIO + R.DIO_FRM_ERR_crc.off) 0#32).setReg (P.DIO + R.DIO_DI_LOST_lost.off) 0#32 := if_pos ⟨rfl, h0⟩

/-- LPO_CLR acts on its bit (R401). -/
theorem State.pageAction_lpoClr (may : Bool) (h0 : v.getLsbD 0 = true) :
    w.pageAction old p .lpo i b R.LPO_CLR_clr.off v may 0 [] = w.lpoClr := if_pos ⟨rfl, h0⟩

end

/-- Settles O29: each word names its row by its offset and its bits, and its page acts on the bits in their order. -/
theorem atticWords : Obligations.AtticWords := by
  refine ⟨?atticA, ?atticB⟩
  case atticA =>
    intro t s p a v i w
    refine ⟨fun h => ?ctrl, fun h hmay => ?set, fun h h0 => ?clear⟩
    case ctrl =>
      intro x u
      have hact : w.pageAction (s.at t) p .dio i (pageBase a) R.DIO_CTRL_thr_test.off v ((s.at t).mayStore p (pageBase a)) 0 [] = u :=
        State.pageAction_dioCtrl w ..
      have hword {r : WriteRow} (hr : (rowsOfDio R.DIO_CTRL_thr_test.off v).contains r = true) :
          (Host.Outcome.next ((s.at t).takeRow r 0 []) : Host.Outcome State Fault Refusal) = .next u.popWord :=
        State.next_takeRow_block h (by decide) hr hact
      refine ⟨fun h0 => hword ?_, hword ?_⟩
      · simp [rowsOfDio, R.DIO_CTRL_rearm, R.DIO_CTRL_thr_test, h0]
      · simp [rowsOfDio, R.DIO_CTRL_thr_test]
    case set =>
      have hrow : (rowsOfBlock .dio R.DIO_DO_SET_set.off v).contains .doSet = true := by simp [rowsOfBlock, rowsOfDio]
      exact State.next_takeRow_block h (by decide) hrow (by rw [hmay]; rfl)
    case clear =>
      have hrow : (rowsOfBlock .dio R.DIO_CLR_clr.off v).contains .dioClr = true := by simp [rowsOfBlock, rowsOfDio, R.DIO_CLR_clr, h0]
      exact State.next_takeRow_block h (by decide) hrow (State.pageAction_dioClr _ h0)
  case atticB =>
    intro t s p a v i
    refine ⟨fun h => ?ctrl, fun h hmay => ?set, fun h h0 => ?clear⟩
    case ctrl =>
      intro w₀ w₁ w₂ w₃ u
      have hword {r : WriteRow} (hr : (rowsOfLpoCh R.LPO_CH_CTRL_clr_comp.off v).contains r = true) :
          (Host.Outcome.next ((s.at t).takeRow r 0 []) : Host.Outcome State Fault Refusal) = .next u :=
        State.next_takeRow_block h (by decide) hr rfl
      refine ⟨fun h0 => hword ?_, fun h1 => hword ?_, fun h2 => hword ?_, fun h3 => hword ?_⟩
      · simp [rowsOfLpoCh, R.LPO_CH_CTRL_clr_comp, h0]
      · simp [rowsOfLpoCh, R.LPO_CH_CTRL_clr_comp, R.LPO_CH_CTRL_tx_go, h1]
      · simp [rowsOfLpoCh, R.LPO_CH_CTRL_clr_comp, R.LPO_CH_CTRL_tx_abort, h2]
      · simp [rowsOfLpoCh, R.LPO_CH_CTRL_clr_comp, R.LPO_CH_CTRL_rx_rel, h3]
    case set =>
      have hrow : (rowsOfBlock .lpoCh R.LPO_CH_SET_set.off v).contains .loopSet = true := by simp [rowsOfBlock, rowsOfLpoCh]
      exact State.next_takeRow_block h (by decide) hrow (by rw [hmay]; rfl)
    case clear =>
      have hrow : (rowsOfBlock .lpo R.LPO_CLR_clr.off v).contains .lpoClr = true := by simp [rowsOfBlock, rowsOfLpo, R.LPO_CLR_clr, h0]
      exact State.next_takeRow_block h (by decide) hrow (State.pageAction_lpoClr _ h0)

end Sys2Proof.Machine
end

section
/-! SUPPORT. Words of the CAN pages (R410–R421). -/

namespace Sys2Proof.Machine

open Sys2Proof

section
variable {f : Field} {off : Nat}

/-- A field at or above 0x40 covers words of a block's own registers only. -/
theorem Field.le_of_coversWord {n : Nat} (h : f.coversWord off = true) (hn : n ≤ f.off) : n ≤ off := by
  unfold Field.coversWord at h
  split at h
  · exact hn.trans_eq (of_decide_eq_true h)
  · simp only [Bool.and_eq_true, decide_eq_true_eq] at h
    exact hn.trans h.1.1

end

theorem State.objCtrl_eq (w : State) (port o : Nat) (v : Word) :
    w.objCtrl port o v =
      let b := objPage port o
      let at_ := R.CAN_OBJ_CTRL_send.off + o % 32 * 0x20
      let w := if v.getLsbD 0 then (if w.maySend port o 0 then w.queueFrame port o (w.objFrame port o) else w.clampAt b at_ 0 true 1 0) else w
      let w := if v.getLsbD 1 then w.cancelObj port o else w
      let w := if v.getLsbD 2 then w.releaseObj port o else w
      if v.getLsbD 3 then (if w.tstate port o = 4 then w.setObj port o R.CAN_OBJ_STAT_tstate 1 else w.clampAt b at_ 3 true 1 0) else w := by
  unfold State.objCtrl
  cases v.getLsbD 0 <;> cases v.getLsbD 3 <;> rfl

/-- Settles O30: a word of an object, of the port's control register or of a mailbox names its row by the words that its field covers. -/
theorem canWords : Obligations.CanWords := by
  intro t s p a v i off port
  refine ⟨fun h hcover => ?object, fun h hmay => ?ctrl, fun h hcover h0 => ?mailbox⟩
  case object =>
    intro w₀ o b at_ w₁ w₂ w₃ u
    have hact : w₀.pageAction (s.at t) p .canObj i (pageBase a) off v ((s.at t).mayStore p (pageBase a)) 0 [] = w₀.objCtrl port o v :=
      if_pos hcover
    have hword {r : WriteRow} (hr : (rowsOfCanObj off v).contains r = true) :
        (Host.Outcome.next ((s.at t).takeRow r 0 []) : Host.Outcome State Fault Refusal) = .next u :=
      State.next_takeRow_block h (Field.le_of_coversWord hcover (by decide)) hr (hact.trans (State.objCtrl_eq w₀ port o v))
    have hcancel : R.CAN_OBJ_CTRL_cancel.coversWord off = true := hcover
    have hrelease : R.CAN_OBJ_CTRL_release.coversWord off = true := hcover
    have hresume : R.CAN_OBJ_CTRL_resume.coversWord off = true := hcover
    refine ⟨fun h0 => hword ?_, fun h1 => hword ?_, fun h2 => hword ?_, fun h3 => hword ?_⟩
    · simp [rowsOfCanObj, hcover, show v.getLsbD R.CAN_OBJ_CTRL_send.lsb = true from h0]
    · simp [rowsOfCanObj, hcancel, show v.getLsbD R.CAN_OBJ_CTRL_cancel.lsb = true from h1]
    · simp [rowsOfCanObj, hrelease, show v.getLsbD R.CAN_OBJ_CTRL_release.lsb = true from h2]
    · simp [rowsOfCanObj, hresume, show v.getLsbD R.CAN_OBJ_CTRL_resume.lsb = true from h3]
  case ctrl =>
    intro u
    have hword {r : WriteRow} (hr : (rowsOfCan R.CAN_CTRL_sleep.off v).contains r = true) :
        (Host.Outcome.next ((s.at t).takeRow r 0 []) : Host.Outcome State Fault Refusal) = .next u :=
      State.next_takeRow_block h (by decide) hr (by rw [hmay]; rfl)
    refine ⟨fun h0 => hword ?_, fun h1 => hword ?_, fun h2 => hword ?_⟩
    · simp [rowsOfCan, R.CAN_CTRL_sleep, R.CAN_CTRL_recover, h0]
    · simp [rowsOfCan, R.CAN_CTRL_sleep, h1]
    · simp [rowsOfCan, R.CAN_CTRL_sleep, R.CAN_CTRL_clr, h2]
  case mailbox =>
    intro w n
    have hlow : 0x98 ≤ off := Field.le_of_coversWord hcover (by decide)
    have hoff : off ≠ R.CAN_CTRL_sleep.off := by
      rintro rfl
      exact absurd hlow (by decide)
    have hrow : (rowsOfBlock .can off v).contains .pmbRelease = true := by
      simp [rowsOfBlock, rowsOfCan, hcover, show v.getLsbD R.CAN_PMB_CTRL_release.lsb = true from h0]
    exact State.next_takeRow_block h (by omega) hrow ((if_neg hoff).trans (if_pos ⟨hcover, h0⟩))

end Sys2Proof.Machine
end

section
/-! SUPPORT. Words of the PNL and RMP pages (R432, R444–R453). -/

namespace Sys2Proof.Machine

open Sys2Proof

section
variable {w old : State} {p : Port} {i b : Nat} {v : Word}

/-- RMP_TGT of a motion that the host owns replans it (R444). -/
theorem State.pageAction_rmpTgt (hown : w.fv P.RMP R.RMP_CFG_own = 1) :
    w.pageAction old p .rmp i b R.RMP_TGT_tgt.off v true 0 [] = ({ w with rmp := { w.rmp with startTgt := none } } : State).rmpReplan :=
  if_pos ⟨rfl, hown⟩

theorem State.pageAction_rmpTgt_of_ne (may : Bool) (hown : w.fv P.RMP R.RMP_CFG_own ≠ 1) :
    w.pageAction old p .rmp i b R.RMP_TGT_tgt.off v may 0 [] = w := if_neg fun h => hown h.2

/-- The actions of a word of RMP_CTRL: what no standstill takes is a clamp, then clr, ack_pos and setpos (R446, R451, R453). -/
theorem State.pageAction_rmpCtrl (w old : State) (p : Port) (i b : Nat) (v : Word) (may : Bool) :
    w.pageAction old p .rmp i b R.RMP_CTRL_setpos.off v may 0 [] =
      let w := if v.getLsbD 1 ∧ w.rmpMoving = true then w.clampAt P.RMP R.RMP_CTRL_setpos.off 1 true 1 0 else w
      let w := if v.getLsbD 2 then
          (((w.setFv P.RMP R.RMP_CNT_demands 0).setFv P.RMP R.RMP_CNT_dclamps 0).setFv P.RMP R.RMP_STAT_dclamp 0).setFv P.RMP R.RMP_STAT_ovr 0
        else w
      let w := if v.getLsbD 0 then (w.setFv P.RMP R.RMP_STAT_pos_unc 0).setFv P.RMP R.RMP_STAT_pos_lost 0 else w
      let q := sext 32 (w.fv P.RMP R.RMP_SETPOS_pos)
      if v.getLsbD 1 ∧ w.rmpMoving = false then
        (let z := (w.rmpHalt.setRmpPos q).rmpStand (rmpSteps q)
         ({ z with rmp := { z.rmp with input := q, commit := q, startTgt := z.rmp.startTgt.map (fun _ => q) } } : State).setFv P.RMP R.RMP_STAT_pos_unc 0)
      else w := by
  show State.rmpCtrl _ v = _
  unfold State.rmpCtrl
  simp only [Bool.and_eq_true, Bool.not_eq_true']

end

/-- Settles O31: each word names its row by its offset and its bits, and its page acts on the bits in their order. -/
theorem panelAndMotionWords : Obligations.PanelAndMotionWords := by
  refine ⟨?panel, ?motion⟩
  case panel =>
    intro t s p a v i h w₀ w₁ w₂ w₃ u
    have hword {r : WriteRow} (hr : (rowsOfPnl R.PNL_CTRL_put.off v).contains r = true) :
        (Host.Outcome.next ((s.at t).takeRow r 0 []) : Host.Outcome State Fault Refusal) = .next u :=
      State.next_takeRow_block h (by decide) hr rfl
    refine ⟨fun h0 => hword ?_, fun h1 => hword ?_, fun h2 => hword ?_, fun h3 => hword ?_⟩
    · simp [rowsOfPnl, R.PNL_CTRL_put, h0]
    · simp [rowsOfPnl, R.PNL_CTRL_put, R.PNL_CTRL_update, h1]
    · simp [rowsOfPnl, R.PNL_CTRL_put, R.PNL_CTRL_full, h2]
    · simp [rowsOfPnl, R.PNL_CTRL_put, R.PNL_CTRL_copy_front, h3]
  case motion =>
    intro t s p a v i w
    refine ⟨fun h => ?target, fun h => ?ctrl⟩
    case target =>
      have hrow : (rowsOfBlock .rmp R.RMP_TGT_tgt.off v).contains .targetWrite = true := by simp [rowsOfBlock, rowsOfRmp]
      refine ⟨fun hmay hown => State.next_takeRow_block h (by decide) hrow ?_,
        fun hown => State.next_takeRow_block h (by decide) hrow (State.pageAction_rmpTgt_of_ne _ hown)⟩
      rw [hmay]
      exact State.pageAction_rmpTgt hown
    case ctrl =>
      intro w₁ w₂ w₃ q u
      have hword {r : WriteRow} (hr : (rowsOfRmp R.RMP_CTRL_setpos.off v).contains r = true) :
          (Host.Outcome.next ((s.at t).takeRow r 0 []) : Host.Outcome State Fault Refusal) = .next u :=
        State.next_takeRow_block h (by decide) hr (State.pageAction_rmpCtrl ..)
      refine ⟨fun h0 => hword ?_, fun h1 => hword ?_, fun h2 => hword ?_⟩
      · simp [rowsOfRmp, R.RMP_CTRL_setpos, R.RMP_CTRL_ack_pos, h0]
      · simp [rowsOfRmp, R.RMP_CTRL_setpos, h1]
      · simp [rowsOfRmp, R.RMP_CTRL_setpos, R.RMP_CTRL_clr, h2]

end Sys2Proof.Machine
end

section
/-! SUPPORT. Words of SAF_CTRL, AGE_CTRL, SYS_PWR, SEC_CTRL, DBG_CTRL and of the LNK page (R454–R521). -/

namespace Sys2Proof.Machine

open Sys2Proof

/-! ### The safety supervisor and the planner (R454–R484) -/

section
variable {w : State} {p : Port} {v : Word}

/-- SAF_CTRL with its key: enter, alert_clr, then release, which enter or a standing cause refuses (R454, R459, R469). -/
theorem State.safCtrl_of_key (hkey : Word.bits v 8 8 = 0xA5) :
    w.safCtrl v =
      let w := if v.getLsbD 2 then w.safCause true 4 0 0 else w
      let w := if v.getLsbD 1 then w.setFv P.SAF R.SAF_STAT_alert 0 else w
      let was := w.fb P.SAF R.SAF_STAT_safe
      let noted : State := if was = true then
          { w with saf := { w.saf with released := some (w.now, (w.fb P.SAF R.SAF_STAT_latched, (w.reg (P.SAF + 0x20)).getLsbD 4)) } }
        else w
      let out := (((noted.setFv P.SAF R.SAF_STAT_safe 0).setFv P.SAF R.SAF_STAT_latched 0).irqIf was P.SAF 4).rmpReplan
      if v.getLsbD 0 = false then w else if v.getLsbD 2 = true ∨ w.releaseHolds = false then w.clampAt P.SAF 0xB8 0 true 1 0 else out := by
  simp only [State.safCtrl, hkey, decide_true, Bool.not_true, Bool.false_eq_true, if_false, Bool.or_eq_true, Bool.not_eq_true']

/-- reset_ofs of a port that maintains, with no plan at work (R484). -/
theorem State.ageCtrl_of_free (h0 : v.getLsbD 0 = true) (hplan : w.age.plan = none) (hmay : w.maintains p = true) :
    w.ageCtrl p v =
      (((List.range 12).foldl (fun (u : State) d => u.setFv P.AGE (R.AGE_DOM_ofs.nth d) 0) w).setReg (P.AGE + R.AGE_CAP_per.off) 0#32).plannedShow := by
  simp only [State.ageCtrl, h0, hplan, hmay, Bool.not_true, Option.isSome_none, Bool.or_self, Bool.false_eq_true, if_false]

/-- reset_ofs while a plan runs, or of a port that does not maintain, is a clamp (R484). -/
theorem State.ageCtrl_of_refused (h0 : v.getLsbD 0 = true) (hno : w.age.plan ≠ none ∨ w.maintains p = false) :
    w.ageCtrl p v = w.clampAt P.AGE R.AGE_CTRL_reset_ofs.off R.AGE_CTRL_reset_ofs.lsb true 1 0 := by
  have hrefused : (w.age.plan.isSome || !w.maintains p) = true := by
    simpa only [Bool.or_eq_true, Option.isSome_iff_ne_none, Bool.not_eq_true'] using hno
  simp only [State.ageCtrl, h0, hrefused, Bool.not_true, Bool.false_eq_true, if_false, if_true]
  rfl

end

/-- Settles O32: each word names its row by its offset and its bits, and its page acts on the bits in their order. -/
theorem supervisorWords : Obligations.SupervisorWords := by
  intro t s p a v i
  refine ⟨fun h hkey => ?supervisor, fun h h0 => ?ageing⟩
  case supervisor =>
    intro w₀ w₁ w₂ was noted out u
    have hword {r : WriteRow} (hr : (rowsOfSaf R.SAF_CTRL_enter.off v).contains r = true) :
        (Host.Outcome.next ((s.at t).takeRow r 0 []) : Host.Outcome State Fault Refusal) = .next u :=
      State.next_takeRow_block h (by decide) hr (State.safCtrl_of_key hkey)
    refine ⟨fun h0 => hword ?_, fun h1 => hword ?_, fun h2 => hword ?_⟩
    · simp [rowsOfSaf, R.SAF_CTRL_enter, R.SAF_CTRL_release, h0]
    · simp [rowsOfSaf, R.SAF_CTRL_enter, R.SAF_CTRL_alert_clr, h1]
    · simp [rowsOfSaf, R.SAF_CTRL_enter, h2]
  case ageing =>
    intro w hplan hmay
    have hrow : (rowsOfBlock .age R.AGE_CTRL_reset_ofs.off v).contains .resetOfs = true := by
      simp [rowsOfBlock, rowsOfAge, R.AGE_CTRL_reset_ofs, h0]
    exact State.next_takeRow_block h (by decide) hrow (State.ageCtrl_of_free h0 hplan hmay)

/-! ### The offsets (R484) -/

theorem State.reg_setFv_ne (s : State) (b a : Nat) (f : Field) (v : Nat) (h : a ≠ b + f.off) : (s.setFv b f v).reg a = s.reg a :=
  State.reg_setReg_ne s _ a _ h

/-- The planned values show on the pages of the converters, of STO and of PTE, all of them behind the AGE page (R481). -/
theorem State.reg_plannedShow (s : State) {a : Nat} (ha : a < P.AGE + 0x1000) : s.plannedShow.reg a = s.reg a := by
  have hage : P.AGE = 0x5000 := rfl
  unfold State.plannedShow
  refine List.foldlRecOn (motive := fun (u : State) => u.reg a = s.reg a) _ _ ?_ fun u hu k _ => ?_
  · have hpte : P.PTE = 0xC0000 := rfl
    have hsto : P.STO = 0xB0000 := rfl
    rw [State.reg_setFv_ne _ _ _ _ _ (by omega), State.reg_setFv_ne _ _ _ _ _ (by omega)]
  · rw [State.reg_setFv_ne _ _ _ _ _ (by unfold P.CV; omega), hu]

/-- The first `n` domains stand at offset 0 once each of them was set. -/
theorem State.fv_resetOffsets (s : State) (n : Nat) :
    ∀ d, d < n → ((List.range n).foldl (fun (u : State) d => u.setFv P.AGE (R.AGE_DOM_ofs.nth d) 0) s).fv P.AGE (R.AGE_DOM_ofs.nth d) = 0 := by
  induction n with
  | zero => exact fun d hd => absurd hd (Nat.not_lt_zero d)
  | succ n ih =>
    intro d hd
    rw [List.range_succ, List.foldl_append, List.foldl_cons, List.foldl_nil]
    rcases Nat.lt_succ_iff_lt_or_eq.1 hd with hlt | rfl
    · rw [State.fv_setFv_ne _ _ _ _ _ _ (by simp only [Field.nth, R.AGE_DOM_ofs]; omega), ih d hlt]
    · rw [State.fv_setFv_same _ _ _ _ (show 24 + 8 ≤ 32 by decide), Nat.zero_mod]

/-- Settles O23: the fold sets every domain to 0, the word of the caps follows, and what the planned values show lies on other pages. -/
theorem resetOffsets : Obligations.ResetOffsets := by
  intro s p v h0
  refine ⟨fun hplan hmay => ?reset, fun hno => State.ageCtrl_of_refused h0 (hno.imp_right fun ⟨hlife, hlevel⟩ => ?refused)⟩
  case reset =>
    intro u
    have hu : u = _ := State.ageCtrl_of_free h0 hplan hmay
    have hcap (f : Field) (hf : f.off = 0x60) : u.fv P.AGE f = 0 := by
      rw [hu, State.fv, State.reg_plannedShow _ (by rw [hf]; decide), hf]
      exact (congrArg (Word.bits · f.lsb f.width) (State.reg_setReg_same _ _ _)).trans (by simp [Word.bits])
    refine ⟨fun d hd => ?_, hcap _ rfl, hcap _ rfl, hcap _ rfl⟩
    have hoff : (R.AGE_DOM_ofs.nth d).off = 0x80 + d * 4 := rfl
    rw [hu, State.fv, State.reg_plannedShow _ (by rw [hoff]; have : P.AGE = 0x5000 := rfl; omega),
      State.reg_setReg_ne _ _ _ _ (by rw [hoff]; have : R.AGE_CAP_per.off = 0x60 := rfl; omega)]
    exact State.fv_resetOffsets s 12 d hd
  case refused =>
    simp [State.maintains, hlife, hlevel]

/-! ### Power states (R485–R488) -/

theorem State.powerRequest_eq (w : State) (r : Nat) :
    w.powerRequest r =
      if w.pwr.busy = true ∨ w.pwr.earlyWake.isSome = true then ({ w with pwr := { w.pwr with heldReq := some r } } : State)
      else if w.pstate = 2 then (if r = 2 then w else ({ w with pwr := { w.pwr with wakeTo := r } } : State).wakeSource 0)
      else if r = w.pstate then w
      else if r = 0 then w.toRun
      else if r = 1 then w.toLean
      else ({ w with pwr := { w.pwr with busy := true } } : State) := by
  simp only [State.powerRequest, Bool.or_eq_true]

/-- Settles O33: the word's own two bits name its row, the field that stands after the store the state that is asked for. -/
theorem powerWords : Obligations.PowerWords := by
  intro t s p a v i h hmay w r u
  have hact : w.pageAction (s.at t) p .sys i (pageBase a) R.SYS_PWR_req.off v ((s.at t).mayStore p (pageBase a)) 0 [] = w.powerRequest r := by
    rw [hmay]
    rfl
  have hword {r : WriteRow} (hr : (rowsOfSys R.SYS_PWR_req.off v).contains r = true) :
      (Host.Outcome.next ((s.at t).takeRow r 0 []) : Host.Outcome State Fault Refusal) = .next u :=
    State.next_takeRow_block h (by decide) hr (hact.trans (State.powerRequest_eq w _))
  refine ⟨fun hrun => hword ?_, fun hlean => hword ?_, fun hdormant => hword ?_⟩
  · simp [rowsOfSys, R.SYS_PWR_req, hrun]
  · simp [rowsOfSys, R.SYS_PWR_req, hlean]
  · simp [rowsOfSys, R.SYS_PWR_req, hdormant]

/-! ### Sessions and the debugger (R497–R502) -/

theorem State.secCtrl_eq (w : State) (p : Port) (v : Word) :
    w.secCtrl p v =
      let w := if v.getLsbD 0 then w.challenge p else w
      let w := if v.getLsbD 1 then w.openSession p (Word.bits v 2 2) else w
      let w := if v.getLsbD 4 then w.closeSession p else w
      if v.getLsbD 5 = false then w else if Word.bits v 8 8 = 0xA5 then w.setFv P.SEC R.SEC_STAT_alert 0
      else w.clampAt P.SEC R.SEC_CTRL_alert_clr.off R.SEC_CTRL_alert_clr.lsb true 1 0 := by
  simp only [State.secCtrl, Bool.not_eq_true']

/-- DBG_CTRL halts or releases the engine and steps it where it is halted and the port maintains (R501). -/
theorem State.pageAction_dbgCtrl (w old : State) (p : Port) (i b : Nat) (v : Word) (may : Bool) :
    w.pageAction old p .dbg i b R.DBG_CTRL_fbe_halt.off v may 0 [] =
      let w := w.fbeShow
      if v.getLsbD 1 = false then w
      else if w.fb P.DBG R.DBG_CTRL_fbe_halt = true ∧ w.maintains p = true then w.debugStep (w.fv P.DBG R.DBG_CTRL_task)
      else w.clampAt P.DBG 0x40 1 true 1 0 := by
  have hoff : R.DBG_CTRL_fbe_halt.off = 0x40 := rfl
  simp only [State.pageAction, hoff, ne_eq, not_true_eq_false, if_false, Bool.not_eq_true', Bool.and_eq_true]

/-- Settles O34: each word names its row by its offset and its bits, and its page acts on the bits in their order. -/
theorem securityWords : Obligations.SecurityWords := by
  intro t s p a v i
  refine ⟨fun h => ?sessions, fun h => ?debugger⟩
  case sessions =>
    intro w₀ w₁ w₂ w₃ u
    have hword {r : WriteRow} (hr : (rowsOfSec R.SEC_CTRL_challenge.off v).contains r = true) :
        (Host.Outcome.next ((s.at t).takeRow r 0 []) : Host.Outcome State Fault Refusal) = .next u :=
      State.next_takeRow_block h (by decide) hr (State.secCtrl_eq w₀ p v)
    refine ⟨fun h0 => hword ?_, fun h1 => hword ?_, fun h4 => hword ?_, fun h5 => hword ?_⟩
    · simp [rowsOfSec, R.SEC_CTRL_challenge, h0]
    · simp [rowsOfSec, R.SEC_CTRL_challenge, R.SEC_CTRL_open, h1]
    · simp [rowsOfSec, R.SEC_CTRL_challenge, R.SEC_CTRL_close, h4]
    · simp [rowsOfSec, R.SEC_CTRL_challenge, R.SEC_CTRL_alert_clr, h5]
  case debugger =>
    intro w u
    have hword {r : WriteRow} (hr : (rowsOfDbg R.DBG_CTRL_fbe_halt.off v).contains r = true) :
        (Host.Outcome.next ((s.at t).takeRow r 0 []) : Host.Outcome State Fault Refusal) = .next u :=
      State.next_takeRow_block h (by decide) hr (State.pageAction_dbgCtrl ..)
    refine ⟨hword ?_, fun h1 => hword ?_⟩
    · simp [rowsOfDbg]
    · simp [rowsOfDbg, R.DBG_CTRL_fbe_halt, R.DBG_CTRL_step, h1]

/-! ### Link tests (R516–R521) -/

/-- Settles O35: a word of LNK_CTRL carries what the node has not yet counted, and LNK_HBUF is the one run of words at 0x100. -/
theorem linkWords : Obligations.LinkWords := by
  intro t sent flips s p a v i off w acts
  refine ⟨fun h => ?ctrl, fun h hcover hmay => ?buffer⟩
  case ctrl =>
    have hword {r : WriteRow} (n : Nat) (l : List Nat) (hr : (rowsOfLnk R.LNK_CTRL_go.off v).contains r = true) :
        (Host.Outcome.next ((s.at t).takeRow r n l) : Host.Outcome State Fault Refusal) = .next (acts n l) :=
      State.next_takeRow_block h (by decide) hr rfl
    refine ⟨fun h0 => hword 0 [] ?_, fun h1 => hword sent flips ?_, fun h2 => hword sent flips ?_, fun h3 => hword 0 [] ?_⟩
    · simp [rowsOfLnk, R.LNK_CTRL_go, h0]
    · simp [rowsOfLnk, R.LNK_CTRL_go, R.LNK_CTRL_stop, h1]
    · simp [rowsOfLnk, R.LNK_CTRL_go, R.LNK_CTRL_ins1, h2]
    · simp [rowsOfLnk, R.LNK_CTRL_go, R.LNK_CTRL_clr, h3]
  case buffer =>
    have hrange : 0x100 ≤ off ∧ off < 0x200 := by
      have hmem : off ∈ (List.range 64).map (fun j => 0x100 + j * 4) := Field.mem_words hcover
      obtain ⟨j, hj, rfl⟩ := List.mem_map.1 hmem
      have := List.mem_range.1 hj
      omega
    have hrow : (rowsOfBlock .lnk off v).contains .hbufWrite = true := by simp [rowsOfBlock, rowsOfLnk, hcover]
    refine State.next_takeRow_block h (by omega) hrow ((if_neg (by omega)).trans ((if_pos hrange).trans ?_))
    rw [hmay]
    rfl

end Sys2Proof.Machine
end

section
/-! SUPPORT. Steps, and the events of the timebase and the calendar (R347–R368). -/

namespace Sys2Proof.Machine

open Sys2Proof

/-- Settles O1: a step looks at the queue alone, whatever else the state holds. -/
theorem stepRunsFrontCommand : Obligations.StepRunsFrontCommand := fun _ _ _ => rfl

/-- Settles O2: with an empty queue a step takes the first branch. -/
theorem emptyQueueIdles : Obligations.EmptyQueueIdles := by
  intro s h
  simp only [step, h]

/-! ### A halted calendar (R356) -/

theorem State.fb_of_regs {s u : State} (h : u.regs = s.regs) (b : Nat) (f : Field) : u.fb b f = s.fb b f :=
  congrArg (fun (r : SMap Word) => decide (Word.bits (SMap.get regDflt r (b + f.off)) f.lsb f.width ≠ 0)) h

/-- Time passes without a change of a register. -/
theorem State.fb_at (s : State) (t b : Nat) (f : Field) : (s.at t).fb b f = s.fb b f := State.fb_of_regs (State.at_moves .regs rfl) b f

theorem State.calCounts_of_halt {s : State} (h : s.fb P.TBS R.TBS_CTRL_halt = true) : s.calCounts = false := by
  simp only [State.calCounts, h, Bool.not_true, Bool.and_false, Bool.false_and]

theorem State.alarmFire_of_stopped {s : State} (b : Bool) (h : s.calCounts = false) : s.alarmFire b = s := by
  simp only [State.alarmFire, h, Bool.false_and, Bool.false_eq_true, if_false]

/-- Settles O22: a halted calendar does not count, which the alarms, the periodic event and the weekday all ask for. -/
theorem haltedCalendar : Obligations.HaltedCalendar := by
  intro t b s hhalt
  have hstopped : (s.at t).calCounts = false := State.calCounts_of_halt ((s.fb_at t _ _).trans hhalt)
  refine ⟨congrArg Host.Outcome.next (State.alarmFire_of_stopped b hstopped), if_neg ?_, if_neg ?_⟩
  · simp only [hstopped, Bool.and_false, Bool.false_and, Bool.false_eq_true, not_false_eq_true]
  · simp only [hstopped, Bool.false_and, Bool.false_eq_true, not_false_eq_true]

/-! ### The timebase and the calendar (R347–R368) -/

section
variable {t : Nat} {s : State}

theorem execTimebaseRecord_of_due (xratio : Int) (hcor : (s.at t).corOn = true) (hdue : (s.at t).recordDue = true) :
    execTimebaseRecord t xratio s = .next ((s.at t).recordTimebase.setFv P.TBS R.TBS_XRATIO_ratio (uext 32 xratio)) :=
  congrArg Host.Outcome.next (if_pos (Bool.and_eq_true_iff.2 ⟨hcor, hdue⟩))

theorem execPeriodicEvent_of_crossed (hcor : (s.at t).corOn = true) (hen : (s.at t).fb P.TBS R.TBS_PER_en = true)
    (hcounts : (s.at t).calCounts = true) (hcrossed : (s.at t).perNext ≤ (s.at t).tbs.cal) :
    execPeriodicEvent t s = .next
      ((({ s.at t with tbs := { (s.at t).tbs with perFrom := (s.at t).perNext } } : State).wrapInc P.TBS R.TBS_ALM_STAT_per_cnt 1).irq P.TBS 2) :=
  if_pos (by simp only [hen, hcounts, hcor, hcrossed, decide_true, Bool.and_self])

theorem execWeekdayAdvance_of_passed (hcounts : (s.at t).calCounts = true) (hpassed : (s.at t).tbs.wdayAt < (s.at t).localDay) :
    execWeekdayAdvance t s = .next
      (({ s.at t with tbs := { (s.at t).tbs with wdayAt := (s.at t).tbs.wdayAt + 1 } } : State).setFv P.TBS R.TBS_WDAY_free
        ((s.at t).fv P.TBS R.TBS_WDAY_free % 7 + 1)) :=
  if_pos (by simp only [hcounts, hpassed, decide_true, Bool.and_self])

theorem execCalendarTop_of_top (hpow : (s.at t).cellarOn = true) (htop : calTop ≤ (s.at t).tbs.cal) :
    execCalendarTop t s = .next ((s.at t).setFv P.TBS R.TBS_STAT_halted 1) :=
  congrArg Host.Outcome.next (if_pos (Bool.and_eq_true_iff.2 ⟨hpow, decide_eq_true htop⟩))

end

/-- Settles O53: each event finds COR or the cellar powered and its own condition met. -/
theorem clockCompletes : Obligations.ClockCompletes := by
  intro t b xratio temp s u
  refine ⟨fun hcor => ⟨execTimebaseRecord_of_due xratio hcor, congrArg Host.Outcome.next (if_pos hcor), congrArg Host.Outcome.next (if_pos hcor),
      congrArg Host.Outcome.next (if_pos hcor), execPeriodicEvent_of_crossed hcor⟩,
    fun hpow => ⟨ite_not_of_true hpow, ite_not_of_true hpow, execCalendarTop_of_top hpow, fun hdue => if_neg ?_⟩,
    rfl, execWeekdayAdvance_of_passed⟩
  simp only [u] at hpow hdue
  simp only [hpow, hdue, Bool.not_true, Bool.or_self, Bool.false_eq_true, not_false_eq_true]

end Sys2Proof.Machine
end

section
/-! SUPPORT. Frames, the field supply, the outputs and the inputs of attic A (R369–R382). -/

namespace Sys2Proof.Machine

open Sys2Proof

theorem next_ite_not {c : Bool} {x y : Host.Outcome State Fault Refusal} {a b : State} (hx : x = .next a) (hy : y = .next b) :
    (if (!c) = true then x else y) = .next (if c = true then b else a) := by
  cases c
  · exact hx
  · exact hy

/-! ### Frames (R369–R372) -/

section
variable {t : Nat} {s : State}

theorem execDownFrameA_of_due (ok : Bool) (hcor : (s.at t).corOn = true) (hslot : (s.at t).dio.downSlot ≠ some (frameSlot (s.at t).now)) :
    let u := s.at t
    let n := (u.dio.downSeq + 1) % 16
    let slot := (u.dio.cfgSlot + 1) % 34
    let good := ok && u.dio.downRx.all (fun q => decide (n = (q + 1) % 16))
    let w : State := { u with dio := { u.dio with
      downSeq := n, cfgSlot := slot, downSlot := some (frameSlot u.now), downBits := u.downFrame n slot
      sent := u.doEffBits, downRx := if good then some n else u.dio.downRx } }
    execDownFrameA t ok s = .next (if !good || w.linkTest 1 then w else w.islandTakes) :=
  if_neg (by simp only [hcor, hslot, decide_false, Bool.not_true, Bool.or_self, Bool.false_eq_true, not_false_eq_true])

/-- A frame that COR does not hear, or that carries a link test's pattern, leaves the island and enters nothing (R372, R517). -/
theorem execUpFrameA_of_unheard (ok : Bool) (seq rb : Nat) (hfield : 12000 ≤ (s.at t).dio.vfield)
    (hslot : (s.at t).dio.upSlot ≠ some (frameSlot (s.at t).now))
    (hdeaf : ((s.at t).upFrameSent seq rb).1.corOn = false ∨ ((s.at t).upFrameSent seq rb).1.linkTest 1 = true) :
    execUpFrameA t ok seq rb s = .next ((s.at t).upFrameSent seq rb).1 := by
  have hsends : ¬(decide ((s.at t).dio.vfield < 12000) || decide ((s.at t).dio.upSlot = some (frameSlot (s.at t).now))) = true := by
    simp only [Nat.not_lt.mpr hfield, hslot, decide_false, Bool.or_self, Bool.false_eq_true, not_false_eq_true]
  have hunheard : (!((s.at t).upFrameSent seq rb).1.corOn || ((s.at t).upFrameSent seq rb).1.linkTest 1) = true := by
    rw [Bool.or_eq_true, Bool.not_eq_true']
    exact hdeaf
  exact (if_neg hsends).trans (if_pos hunheard)

/-- A frame that COR hears enters with its edges where it is good, and is counted where it is not (R370, R375). -/
theorem execUpFrameA_of_heard (ok : Bool) (seq rb : Nat) (hfield : 12000 ≤ (s.at t).dio.vfield)
    (hslot : (s.at t).dio.upSlot ≠ some (frameSlot (s.at t).now)) (hcor : ((s.at t).upFrameSent seq rb).1.corOn = true)
    (hlink : ((s.at t).upFrameSent seq rb).1.linkTest 1 = false) :
    let w := ((s.at t).upFrameSent seq rb).1
    let v := w.upFrameSeen ok seq
    let x := (v.failsUntil 9 v.upLateA).upFrameA seq rb ((s.at t).upFrameSent seq rb).2.1 ((s.at t).upFrameSent seq rb).2.2
    execUpFrameA t ok seq rb s = .next (if frameGood w.dio.upSeq ok seq then
      x.2.foldl (fun (w : State) (e : Nat × Bool × Nat) => w.inputEdge e.1 e.2.1 e.2.2) x.1 else v.upFrameBad) := by
  have hsends : ¬(decide ((s.at t).dio.vfield < 12000) || decide ((s.at t).dio.upSlot = some (frameSlot (s.at t).now))) = true := by
    simp only [Nat.not_lt.mpr hfield, hslot, decide_false, Bool.or_self, Bool.false_eq_true, not_false_eq_true]
  have hheard : ¬(!((s.at t).upFrameSent seq rb).1.corOn || ((s.at t).upFrameSent seq rb).1.linkTest 1) = true := by
    rw [hcor, hlink]
    decide
  exact (if_neg hsends).trans ((if_neg hheard).trans (next_ite_not rfl rfl))

theorem execLinkALost_of_late (hcor : (s.at t).corOn = true) (hlink : (s.at t).fv P.DIO R.DIO_STAT_link = 1)
    (hlate : (s.at t).dio.lastUp + msecs 1 ≤ (s.at t).now) :
    let u := s.at t
    let w : State := { u with dio := { u.dio with arm := false, goodUp := 0, upSeq := none, upRx := none } }
    let w := w.setFv P.DIO R.DIO_STAT_link (if w.fv P.DIO R.DIO_STAT_vfield < 65 then 2 else 0)
    execLinkALost t s = .next (((w.irq P.DIO 6).showRearm.showThr.sourceQuality 0x38 3).sourceQuality 0x39 3) :=
  if_neg (by simp [hcor, hlink, hlate])

/-! ### The field supply and the outputs (R377–R379) -/

theorem execVf18_of_risen (mV : Nat) {r : Nat} (hrise : ((s.at t).setField mV).dio.rise18 = some r)
    (hdue : r + msecs 50 ≤ ((s.at t).setField mV).now) :
    let field := (s.at t).setField mV
    let w : State := { field with dio := { field.dio with vf18 := true } }
    execVf18 t mV s = .next
      (if w.corOn && w.dio.startArm && !w.dio.first && decide (w.now < w.dio.lastDown + msecs 1) then w.islandArm else w) := by
  simp only [execVf18, hrise, Nat.not_lt.mpr hdue, if_false]

theorem execOutputTrip_of_limited {line : Fin 8} {a : Nat} (hball : (s.at t).doBall line = true)
    (hfrom : SMap.get? (s.at t).dio.onFrom line = some a) (hlong : a + msecs 2 ≤ (s.at t).now) :
    execOutputTrip t line s = .next
      ({ s.at t with dio := { (s.at t).dio with trips := withBit (s.at t).dio.trips line true } } : State).outputsTimed :=
  congrArg Host.Outcome.next (if_pos (by simp only [hball, hfrom, Option.any_some, hlong, decide_true, Bool.and_self]))

/-! ### The inputs (R375, R376) -/

theorem execDebouncedEdge_of_settled {ch : Fin 16} (hdiffers : bitAt (s.at t).dio.judged ch ≠ bitAt (s.at t).dio.debounced ch)
    (hsettled : SMap.get (fun _ => 0) (s.at t).dio.since ch + (s.at t).debounce ch ≤ (s.at t).now) :
    let u := s.at t
    let from_ := SMap.get (fun _ => 0) u.dio.since ch
    let here := decide (u.dio.edgeSlot = frameSlot u.now)
    let edges := if here then u.dio.edges else []
    execDebouncedEdge t ch s = .next { u with dio := { u.dio with
      debounced := withBit u.dio.debounced ch (bitAt u.dio.judged ch),
      edges := edges.filter (fun e => decide (e.1 ≠ ch.val)) ++ [(ch.val, from_)],
      edgeSlot := frameSlot u.now,
      lost := (if here then u.dio.lost else 0) + (if edges.any (fun e => decide (e.1 = ch.val)) then 1 else 0) } } :=
  if_neg (not_or.2 ⟨hdiffers, Nat.not_lt.mpr hsettled⟩)

theorem execWireBreak_of_low {ch : Fin 16} {a : Nat} (hen : (s.at t).fb P.DIO (R.DIO_DIN_wb_en.nth ch) = true)
    (hfrom : SMap.get? (s.at t).dio.lowFrom ch = some a) (hlong : a + msecs 10 ≤ (s.at t).now) :
    execWireBreak t ch s = .next { s.at t with dio := { (s.at t).dio with wb := withBit (s.at t).dio.wb ch true } } :=
  congrArg Host.Outcome.next (if_pos (by simp only [hen, hfrom, Option.any_some, hlong, decide_true, Bool.and_self]))

end

/-- Settles O54: each event finds its frame interval free, its time passed or its line in the condition that it ends. -/
theorem atticACompletes : Obligations.AtticACompletes := by
  intro t seq rb mV r a ok ball rise fall ch line s u with_ field
  refine ⟨fun hcor hslot => execDownFrameA_of_due ok hcor hslot, fun hfield hslot => ?up,
    fun hcor hlink hlate => execLinkALost_of_late hcor hlink hlate, fun hlate => congrArg Host.Outcome.next (if_pos hlate), rfl, rfl, rfl, rfl,
    fun hrise hdue => execVf18_of_risen mV hrise hdue, fun hball hfrom hlong => execOutputTrip_of_limited hball hfrom hlong, rfl,
    fun hdiffers hsettled => execDebouncedEdge_of_settled hdiffers hsettled, fun hen hfrom hlong => execWireBreak_of_low hen hfrom hlong⟩
  case up =>
    exact ⟨fun hdeaf => execUpFrameA_of_unheard ok seq rb hfield hslot hdeaf,
      fun hcor hlink => execUpFrameA_of_heard ok seq rb hfield hslot hcor hlink⟩

end Sys2Proof.Machine
end

section
/-! SUPPORT. Frames, the supply, the currents and the transmissions of attic B (R383–R402). -/

namespace Sys2Proof.Machine

open Sys2Proof

/-! ### Frames and the supply of the island (R383–R386) -/

section
variable {t : Nat} {s : State}

theorem execDownFrameB_of_due (ok : Bool) (hcor : (s.at t).corOn = true) (hslot : (s.at t).lpo.downSlot ≠ some (s.at t).frameSlotB) :
    let u := s.at t
    let n := (u.lpo.downSeq + 1) % 16
    let good := ok && !u.atticBOff && u.lpo.downRx.all (fun q => decide (n = (q + 1) % 16))
    let w : State := { u with lpo := { u.lpo with
      downSeq := n, downSlot := some u.frameSlotB, downRx := if good then some n else u.lpo.downRx } }
    execDownFrameB t ok s = .next (if !good || w.linkTest 2 then w else w.islandBTakes) :=
  if_neg (by simp only [hcor, hslot, decide_false, Bool.not_true, Bool.or_self, Bool.false_eq_true, not_false_eq_true])

/-- What an up frame shows of the island where it is good (R383, R386, R392); `v` stands before the frame's number is taken up. -/
def State.upFrameBGood (v : State) (ok : Bool) (seq carrier : Nat) (temp : Q) (rb hr : List Q) : State :=
  let bad : State := { v with lpo := { v.lpo with upRx := frameArrived v.lpo.upRx ok seq } }
  let n := v.lpo.goodUp + 1
  let valid := decide (20 ≤ n) || decide (v.fv P.LPO R.LPO_STAT_link = 1)
  let w : State := { v.failsUntil 10 v.upLateB with lpo := { v.lpo with
    upRx := frameArrived v.lpo.upRx ok seq, goodUp := Nat.min 20 n, upSeq := some seq, lastUp := v.now
    upOff := decide (v.lpo.vloop < 9000) && !bad.sinkCarries
    lost := v.lpo.lost && !(valid && decide (v.now < v.lpo.lastDown + msecs 1)) } }
  let w := if decide (20 ≤ n) && decide (v.fv P.LPO R.LPO_STAT_link ≠ 1) then (w.setFv P.LPO R.LPO_STAT_link 1).irq P.LPO 0 else w
  let was := w.fb P.LPO R.LPO_STAT_lpow
  let w := (w.setFb P.LPO R.LPO_STAT_lpow w.lpo.lpow).irqIf (was != w.lpo.lpow) P.LPO 1
  let w := (w.setFv P.LPO R.LPO_STAT_vloop (Nat.min 255 (w.lpo.vloop / 200))).setFv P.LPO R.LPO_TEMP_temp (toB32 temp).toNat
  ((List.range 4).foldl (fun (w : State) k =>
    (w.setFv (P.LPOCH k) R.LPO_CH_RB_rb (toB32 (rb.getD k Q.zero)).toNat).setFv (P.LPOCH k) R.LPO_CH_HR_hr (toB32 (hr.getD k Q.zero)).toNat) w
    ).carriers carrier

theorem execUpFrameB_of_heard (ok : Bool) (seq carrier : Nat) (temp : Q) (rb hr : List Q) :
    let u : State := { s.at t with lpo := { (s.at t).lpo with temp := temp } }
    let v := u.satInc P.LPO R.LPO_FRM_ERR_lost (framesMissing u.lpo.upRx ok seq)
    let bad : State := { v with lpo := { v.lpo with upRx := frameArrived v.lpo.upRx ok seq } }
    u.corOn = true → u.linkTest 2 = false →
      execUpFrameB t ok seq carrier temp rb hr s = .next (if frameGood u.lpo.upSeq ok seq then v.upFrameBGood ok seq carrier temp rb hr
        else { bad.satInc P.LPO R.LPO_FRM_ERR_crc 1 with lpo := { bad.lpo with goodUp := 0 } }) := by
  intro u v bad hcor hlink
  have hheard : ¬(!u.corOn || u.linkTest 2) = true := by
    rw [hcor, hlink]
    decide
  exact (if_neg hheard).trans (next_ite_not rfl rfl)

theorem execLinkBLost_of_late (hcor : (s.at t).corOn = true) (hlink : (s.at t).fv P.LPO R.LPO_STAT_link = 1)
    (hlate : (s.at t).lpo.lastUp + msecs 1 ≤ (s.at t).now) :
    let u := s.at t
    let w : State := { u with lpo := { u.lpo with goodUp := 0, upSeq := none, upRx := none, lost := true } }
    let w := (w.setFv P.LPO R.LPO_STAT_link (if u.lpo.upOff then 2 else 0)).irq P.LPO 0
    execLinkBLost t s = .next ((List.range 8).foldl (fun (w : State) k => w.sourceQuality (0x50 + k) 3)
      ((List.range 4).foldl (fun (w : State) k => (w.txFail k).loopStep k 0) w)) :=
  if_neg (by simp [hcor, hlink, hlate])

end

/-! ### Compliance (R395, R396) -/

section
variable {t : Nat} {ch : Fin 4} {s : State}

theorem execComplianceSet_of_held {h : Nat} (hholds : ((s.at t).loop ch).holds = some h) (hdue : h + msecs 20 ≤ (s.at t).now)
    (hclear : (s.at t).fb (P.LPOCH ch) R.LPO_CH_STAT_compliance = false) :
    let b := P.LPOCH ch
    let w := ((s.at t).setFv b R.LPO_CH_STAT_compliance 1).irq b 0
    execComplianceSet t ch s = .next (if w.fb b R.LPO_CH_CFG_comp_fail then w.setFv b R.LPO_CH_STAT_latched 1 else w) := by
  simp only [execComplianceSet, hholds, hdue, hclear, Bool.not_false, and_self, if_true]

theorem execComplianceClear_of_absent {h : Nat} (habsent : ((s.at t).loop ch).absent = some h) (hdue : h + msecs 20 ≤ (s.at t).now) :
    execComplianceClear t ch s = .next ((s.at t).setFv (P.LPOCH ch) R.LPO_CH_STAT_compliance 0) := by
  simp only [execComplianceClear, habsent, hdue, if_true]

/-! ### Transmissions and receptions (R397–R399) -/

theorem execFskTxStart_of_free (hbusy : (s.at t).fb (P.LPOCH ch) R.LPO_FSK_STAT_tx_busy = true) (hidle : ((s.at t).loop ch).sending = [])
    (hgone : (s.at t).carrierGone ch = true) :
    let u := s.at t
    let b := P.LPOCH ch
    let frame := u.pageBytes b 0x400 (u.fv b R.LPO_FSK_TXLEN_len)
    let chk := if u.fb b R.LPO_FSK_CFG_add_chk then [xorBytes frame] else []
    execFskTxStart t ch s = .next
      (u.setLoop ch { u.loop ch with txFrom := u.now, sending := List.replicate (u.fv b R.LPO_FSK_CFG_tx_pre) 0xFF#8 ++ frame ++ chk }) :=
  if_pos (by simp only [hbusy, hidle, hgone, List.isEmpty_nil, Bool.and_self])

theorem execTxDone_of_sent (hbusy : (s.at t).fb (P.LPOCH ch) R.LPO_FSK_STAT_tx_busy = true) (hsends : ((s.at t).loop ch).sending ≠ [])
    (hsent : 11 * ((s.at t).loop ch).sending.length * secs 1 ≤ ((s.at t).now - ((s.at t).loop ch).txFrom) * 1200) :
    let w := ((s.at t).setFv (P.LPOCH ch) R.LPO_FSK_STAT_tx_busy 0).irq (P.LPOCH ch) 3
    execTxDone t ch s = .next (w.setLoop ch { w.loop ch with sending := [] }) := by
  have hbits : 0 < 11 * ((s.at t).loop ch).sending.length := Nat.mul_pos (by decide) (List.length_pos_iff.2 hsends)
  exact if_pos (by simp only [hbusy, hbits, hsent, decide_true, Bool.and_self])

/-- The state in which the characters of a carrier that has ended are looked at (R399, R487). -/
def State.carrierEnds (u : State) (ch : Nat) : State :=
  let w := (u.setFv (P.LPOCH ch) R.LPO_FSK_STAT_carrier 0).setLoop ch { u.loop ch with carrierAt := some u.now }
  if w.fb (P.LPOCH ch) R.LPO_CH_CFG_wake && w.fb (P.LPOCH ch) R.LPO_CH_CFG_fsk && decide (w.fv P.LPO R.LPO_STAT_link = 1) then w.wakeSource 3 else w

/-- A frame enters the receive buffer with its length, its stamp and what is wrong with it (R399). -/
def State.fskReceived (w : State) (ch stamp : Nat) (l : List (Byte × Bool)) : State :=
  let b := P.LPOCH ch
  let want := fskLength l
  let beyond := want.any (fun n => decide (272 < n))
  let short := want.all (fun n => decide (l.length < n))
  let frame := l.take (Nat.min 272 (want.getD 272))
  let bytes := frame.map (fun c => c.1)
  let err := if beyond then 3 else if frame.any (fun c => !c.2) then 1 else if short then 4 else if xorBytes bytes ≠ 0#8 then 2 else 0
  let w := (w.setStamp b R.LPO_FSK_RX_T_LO_t R.LPO_FSK_RX_T_HI_t (Nat.min stamp w.now)).setPageBytes b 0x200 bytes
  let w := ((w.setFv b R.LPO_FSK_STAT_rx_len bytes.length).setFv b R.LPO_FSK_STAT_rx_full 1).setFv b R.LPO_FSK_STAT_err err
  (w.irqIf (!short || beyond) b 2).irqIf (decide (err ≠ 0)) b 4

/-- Characters behind a delimiter fill an empty receive buffer, or are counted as lost (R399). -/
theorem execRxFrame_of_frame (stamp : Nat) (chars : List (Byte × Bool)) (hidle : ((s.at t).loop ch).sending = []) :
    let b := P.LPOCH ch
    let w := (s.at t).carrierEnds ch
    let l := fskFrom (w.fv b R.LPO_FSK_CFG_rx_pre) 0 chars
    l ≠ [] → w.fb b R.LPO_CH_CFG_fsk = true → w.fv P.LPO R.LPO_STAT_link = 1 →
      execRxFrame t ch stamp chars s =
        if w.fb b R.LPO_FSK_STAT_rx_full then .next (w.satInc b R.LPO_FSK_STAT_rx_lost 1) else .next (w.fskReceived ch stamp l) := by
  intro b w l hl hfsk hlink
  have hlisten : ¬(!((s.at t).loop ch).sending.isEmpty) = true := by
    rw [hidle]
    decide
  have hframe : ¬(l.isEmpty = true ∨ (!w.fb b R.LPO_CH_CFG_fsk) = true ∨ w.fv P.LPO R.LPO_STAT_link ≠ 1) := by
    simp only [List.isEmpty_iff, hl, hfsk, hlink, Bool.not_true, Bool.false_eq_true, ne_eq, not_true_eq_false, or_self, not_false_eq_true]
  exact (if_neg hlisten).trans (if_neg hframe)

/-- The node does not receive its own transmission (R398). -/
theorem execRxFrame_of_sending (stamp : Nat) (chars : List (Byte × Bool)) (hsends : ((s.at t).loop ch).sending ≠ []) :
    execRxFrame t ch stamp chars s = .next (s.at t) :=
  if_pos (by simpa using hsends)

end

/-- Settles O55: each event finds its frame period free, its time passed, or its channel in the condition that it ends. -/
theorem atticBCompletes : Obligations.AtticBCompletes := by
  intro t seq mV carrier ok carries temp rb hr ch chars stamp h s u b c all
  refine ⟨fun hcor hslot => execDownFrameB_of_due ok hcor hslot, execUpFrameB_of_heard ok seq carrier temp rb hr,
    fun hcor hlink hlate => execLinkBLost_of_late hcor hlink hlate, fun hlate => if_neg (Nat.not_lt.mpr hlate), rfl, rfl,
    fun hholds hdue hclear => execComplianceSet_of_held hholds hdue hclear, fun habsent hdue => execComplianceClear_of_absent habsent hdue,
    fun hbusy => ⟨fun hidle hgone => execFskTxStart_of_free hbusy hidle hgone, fun hsends hsent => execTxDone_of_sent hbusy hsends hsent⟩,
    fun hidle => ?receive, fun hsends => execRxFrame_of_sending stamp chars hsends⟩
  case receive =>
    intro w₀ w l want beyond short frame bytes err hl hfsk hlink
    have hframe := execRxFrame_of_frame stamp chars hidle hl hfsk hlink
    exact ⟨fun hfull => hframe.trans (if_pos hfull), fun hempty => hframe.trans (if_neg (Bool.eq_false_iff.1 hempty))⟩

end Sys2Proof.Machine
end

section
/-! SUPPORT. Frames received and transmitted, errors, recovery and the wake of the CAN ports (R402–R423). -/

namespace Sys2Proof.Machine

open Sys2Proof

section
variable {t : Nat} {port : Fin 2} {s : State}

/-! ### Frames (R407–R419) -/

theorem execCanFrameReceived_of_unread {late : Nat} {frame : CanFrame} {w : State}
    (hread : (s.at t).canReceive port.val (Nat.min late (s.at t).now) frame = (w, none)) : execCanFrameReceived t port late frame s = .next w := by
  simp only [execCanFrameReceived, hread]

/-- A frame that an object takes goes on to the alarm handler and to the tasks that the object releases (R291, R307). -/
theorem execCanFrameReceived_of_object {late k : Nat} {frame : CanFrame} {w : State}
    (hread : (s.at t).canReceive port.val (Nat.min late (s.at t).now) frame = (w, some k)) :
    let stamp := Nat.min late (s.at t).now
    let x := if port.val = 0 ∧ k = 126 ∧ w.fb P.ALH R.ALH_CAN_en then w.answerReceived stamp frame.data else w
    execCanFrameReceived t port late frame s = .next ((List.range 16).foldl (fun (y : State) n =>
      if (y.taskEntry n).canEn && decide ((y.taskEntry n).canObj = port.val * 128 + k) then y.fbeTrigger n stamp else y) x) := by
  simp only [execCanFrameReceived, hread]

/-- The object offered first goes out (R406, R407, R414). -/
theorem execCanTxStart_of_offered {o : Nat} (tdcv : Nat) (hon : (s.at t).canOn port.val = true) (hmode : (s.at t).canMode port.val = 1)
    (hidle : ((s.at t).port port.val).sending = none) (hawake : (s.at t).canWantsSleep port.val = false)
    (hnext : (s.at t).canNext port.val = some o) :
    let u := s.at t
    let p := port.val
    let b := u.txBuf p o
    let w := u.setPort p { u.port p with sending := some o }
    let b := { b with frame := if u.canFdEn p then b.frame else classicalFrame b.frame }
    let w := (w.setTxBuf p o { b with sof := w.now }).setObj p o R.CAN_OBJ_STAT_tstate 2
    execCanTxStart t port tdcv s = .next
      (if ((w.port p).cfg.getD 3 0#32).getLsbD 7 && b.frame.fd && b.frame.brs then w.setFv (P.CAN p) R.CAN_TDC_tdcv tdcv else w) := by
  have hgoes : ¬((!(s.at t).canOn port.val) = true ∨ (s.at t).canMode port.val ≠ 1 ∨ ((s.at t).port port.val).sending.isSome = true ∨
      (s.at t).canWantsSleep port.val = true) := by
    simp [hon, hmode, hidle, hawake]
  refine (if_neg hgoes).trans ?_
  rw [hnext]

theorem State.sendingOf_safOn {u : State} {p o : Nat} (hsaf : u.safOn = true) (hsends : (u.port p).sending = some o) :
    (if u.safOn then (u.port p).sending else none) = some o := (if_pos hsaf).trans hsends

/-- A frame that succeeds is stamped with its start, and the window of its reply opens (R414, R419). -/
theorem execCanTxSuccess_of_sending {o : Nat} (hsaf : (s.at t).safOn = true) (hsends : ((s.at t).port port.val).sending = some o) :
    let u := s.at t
    let p := port.val
    let sof := (u.txBuf p o).sof
    let w := u.setStamp (objPage p o) (R.CAN_OBJ_T_LO_t.nth (o % 32)) (R.CAN_OBJ_T_HI_t.nth (o % 32)) sof
    let w := (((w.setObj p o R.CAN_OBJ_STAT_tstate 3).setObj p o R.CAN_OBJ_STAT_coll 0).objEvent p o 1).canGood p true
    let x := (w.setObj p o R.CAN_OBJ_STAT_reply_ok 0).setObj p o R.CAN_OBJ_STAT_reply_tmo 0
    let w := if w.objFb p o R.CAN_OBJ_RPL_en then
        x.setPort p { x.port p with replies := SMap.insert (x.port p).replies o (sof + msecs (x.objFv p o R.CAN_OBJ_RPL_window), false) }
      else w
    execCanTxSuccess t port s = .next (w.canTxEnded p o) := by
  simp only [execCanTxSuccess, State.sendingOf_safOn hsaf hsends]

/-- An object that loses arbitration is offered again, unless a cancel came too late for the attempt (R414, R417). -/
theorem execArbitrationLost_of_sending {o : Nat} (hsaf : (s.at t).safOn = true) (hsends : ((s.at t).port port.val).sending = some o) :
    let u := s.at t
    let p := port.val
    let w := u.cancelled p o
    execArbitrationLost t port s = .next ((if (u.txBuf p o).late then w.setTxBuf p o { TxBuf.reset with next := (u.txBuf p o).next }
      else u.setObj p o R.CAN_OBJ_STAT_tstate 1).canTxEnded p o) := by
  simp only [execArbitrationLost, State.sendingOf_safOn hsaf hsends]

theorem execReplyTimeout_of_untold {object : Fin 128} {dl : Nat} (hreply : SMap.get? ((s.at t).port port.val).replies object.val = some (dl, false))
    (hlate : dl < (s.at t).now) :
    let u := s.at t
    let p := port.val
    execReplyTimeout t port object s = .next (((u.setPort p { u.port p with replies := SMap.insert (u.port p).replies object.val (dl, true) }
      ).setObj p object.val R.CAN_OBJ_STAT_reply_tmo 1).objEvent p object.val 3) := by
  simp only [execReplyTimeout, hreply, hlate, Bool.not_false, and_self, if_true]

/-! ### Errors, recovery, timing (R404, R408, R420–R423) -/

theorem execCanError_of_met {lec field extra : Nat} (dphase free : Bool) (herrs : (s.at t).canErrs port.val = true) (hmin : 1 ≤ lec) (hmax : lec ≤ 6)
    (hfield : field ≤ 3) :
    execCanError t port lec dphase field free extra s = .next ((s.at t).canErr port.val lec dphase field free extra) :=
  congrArg Host.Outcome.next (if_pos (by simp only [herrs, hmin, hmax, hfield, and_self, decide_true, Bool.and_self]))

theorem execRecoveryComplete_of_recovering (hstate : (s.at t).canState port.val = 5) (hmode : (s.at t).canMode port.val ≠ 0)
    (hpow : (s.at t).domainOn 9 = true) (hawake : (s.at t).canWantsSleep port.val = false) :
    let u := s.at t
    let p := port.val
    execRecoveryComplete t port s = .next (((u.setCanState p 2).setPort p { u.port p with txErr := 0, rxErr := 0 }).canShow p) :=
  congrArg Host.Outcome.next (if_pos (by simp [hstate, hmode, hpow, hawake]))

theorem execIntegrationComplete_of_waiting (hstate : (s.at t).canState port.val = 1) (hmode : (s.at t).canMode port.val ≠ 0) :
    let u := s.at t
    let p := port.val
    let passive := decide (128 ≤ (u.port p).txErr) || decide (128 ≤ (u.port p).rxErr)
    execIntegrationComplete t port s = .next ((u.setCanState p (if passive then 3 else 2)).canShow p) :=
  congrArg Host.Outcome.next (if_pos (by simp [hstate, hmode]))

theorem execTimingApply_of_idle (hready : (s.at t).ready = true) (hidle : ((s.at t).port port.val).sending = none)
    (hwaits : (s.at t).timingWaits port.val = true) : execTimingApply t port s = .next ((s.at t).timingApply port.val) :=
  congrArg Host.Outcome.next (if_pos (by simp only [hready, hidle, hwaits, Option.isNone_none, Bool.and_self]))

end

/-! ### The wake of port A (R421) -/

section
variable {t : Nat} {s : State} (harmed : (s.at t).wakeArmed = true)
include harmed

theorem execCanWake_of_pattern {dom rec again whole filt window : Nat} (hmode : (s.at t).fv (P.CAN 0) R.CAN_WK_wmode = 1)
    (hdom : nclip 500 1800 filt ≤ dom) (hrec : nclip 500 1800 filt ≤ rec) (hagain : nclip 500 1800 filt ≤ again)
    (hwhole : whole ≤ nclip 500000 5000000 window) :
    execCanWake t (.pattern dom rec again whole filt window) s = .next ((s.at t).canWoken 1) :=
  (ite_not_of_true harmed).trans (congrArg Host.Outcome.next (if_pos ⟨hmode, hdom, hrec, hagain, hwhole⟩))

theorem execCanWake_of_frame {rate : Nat} {frame : CanFrame} (hmode : (s.at t).fv (P.CAN 0) R.CAN_WK_wmode = 2)
    (hmatches : (s.at t).wakeMatches rate frame = true) : execCanWake t (.frame rate frame) s = .next ((s.at t).canWoken 2) :=
  (ite_not_of_true harmed).trans (congrArg Host.Outcome.next (if_pos ⟨hmode, hmatches⟩))

/-- A decoding error is counted, and more than 31 of them wake (R421). -/
theorem execCanWake_of_error (hmode : (s.at t).fv (P.CAN 0) R.CAN_WK_wmode = 2) :
    let n := Nat.min 32 ((s.at t).fv (P.CAN 0) R.CAN_WK_STAT_errs + 1)
    let counted := (s.at t).setFv (P.CAN 0) R.CAN_WK_STAT_errs n
    execCanWake t .error s = .next (if 31 < n then counted.canWoken 3 else counted) :=
  (ite_not_of_true harmed).trans (if_neg (not_not.2 hmode))

end

/-- Settles O56: each event finds its port in the state that it ends, and the frame, the object or the reply that it is about. -/
theorem canCompletes : Obligations.CanCompletes := by
  intro t tdcv late lec field extra o dl dom rec again whole filt window rate port object dphase free frame s u p
  refine ⟨?received, fun hon hmode hidle hawake hnext => execCanTxStart_of_offered tdcv hon hmode hidle hawake hnext,
    fun hsaf hsends => ⟨execCanTxSuccess_of_sending hsaf hsends, execArbitrationLost_of_sending hsaf hsends⟩,
    fun herrs => ⟨fun hmin hmax hfield => execCanError_of_met dphase free herrs hmin hmax hfield, congrArg Host.Outcome.next (if_pos herrs)⟩,
    fun hstate hmode hpow hawake => execRecoveryComplete_of_recovering hstate hmode hpow hawake,
    fun hstate hmode => execIntegrationComplete_of_waiting hstate hmode, fun hreply hlate => execReplyTimeout_of_untold hreply hlate,
    fun hready hidle hwaits => execTimingApply_of_idle hready hidle hwaits, fun harmed => ?wake⟩
  case received =>
    intro stamp
    rcases hread : u.canReceive p stamp frame with ⟨w, none | k⟩
    · exact execCanFrameReceived_of_unread hread
    · exact execCanFrameReceived_of_object hread
  case wake =>
    exact ⟨fun hmode hdom hrec hagain hwhole => execCanWake_of_pattern harmed hmode hdom hrec hagain hwhole,
      fun hmode => ⟨fun hmatches => execCanWake_of_frame harmed hmode hmatches, execCanWake_of_error harmed hmode⟩⟩

end Sys2Proof.Machine
end

section
/-! SUPPORT. Events of the panel and of the ramp generator (R426–R453). -/

namespace Sys2Proof.Machine

open Sys2Proof

/-! ### The panel (R426–R440) -/

section
variable {t : Nat} {s : State}

theorem execPanelRewrite_of_shown (upsets : List (Nat × Byte)) (hon : (s.at t).pnlOn = true) (hpow : (s.at t).pnlPowered = true)
    (hasked : (s.at t).fb P.PNL R.PNL_STAT_rewrite = true) (hpass : (s.at t).pnl.pass = none) (hclear : (s.at t).pnl.clearing = false) :
    let w := (s.at t).beginPass 4 (s.at t).pnl.shadow (List.range (s.at t).pnlHeight)
    execPanelRewrite t upsets s = .next { w with pnl := { w.pnl with front := upset w.pnl.front upsets } } :=
  ite_not_of_true (by simp only [hon, hpow, hasked, hpass, hclear, Option.isNone_none, Bool.not_false, Bool.and_self])

theorem execLineWritten_of_due (hon : (s.at t).pnlOn = true) (hdue : (s.at t).lineDue = true) :
    execLineWritten t s = .next (s.at t).lineWritten :=
  congrArg Host.Outcome.next (if_pos (Bool.and_eq_true_iff.2 ⟨hon, hdue⟩))

theorem execBlink_of_due (hon : (s.at t).pnlOn = true) (hstate : (s.at t).pstate ≤ 1) (hblink : (s.at t).fb P.PNL R.PNL_BAND_blink = true)
    (hdue : (s.at t).pnl.blinkAt + msecs 500 ≤ (s.at t).now) :
    execBlink t s = .next
      ({ s.at t with pnl := { (s.at t).pnl with inverted := !(s.at t).pnl.inverted, blinkAt := (s.at t).now } } : State).bandPass :=
  if_pos (by simp only [hon, hstate, hblink, hdue, decide_true, Bool.and_self])

theorem execIdleCrcCheck_of_idle (upsets shadowUpsets : List (Nat × Byte)) (hon : (s.at t).pnlOn = true) (hpass : (s.at t).pnl.pass = none)
    (hverified : (s.at t).pnl.verified = true) (hdue : (s.at t).pnl.checkAt + secs 10 ≤ (s.at t).now) :
    let w : State := { s.at t with pnl := { (s.at t).pnl with
      front := upset (s.at t).pnl.front upsets, shadow := upset (s.at t).pnl.shadow shadowUpsets, checkAt := (s.at t).now } }
    execIdleCrcCheck t upsets shadowUpsets s = .next (if w.frameCrc w.pnl.front ≠ w.pnl.shadowCrc then w.crcMismatch else w) :=
  ite_not_of_true (by simp only [hon, hpass, hverified, hdue, Option.isNone_none, decide_true, Bool.and_self])

theorem execBandPass_of_changed (hstate : (s.at t).pstate ≤ 1) (hkey : (s.at t).bandKey ≠ (s.at t).pnl.bandKey) :
    execBandPass t s = .next (s.at t).bandPass :=
  congrArg Host.Outcome.next (if_pos (Bool.and_eq_true_iff.2 ⟨decide_eq_true hstate, decide_eq_true hkey⟩))

/-- A band pass that is asked for comes before a host's pass (R434). -/
theorem execPassStart_of_band (hidle : (s.at t).pnlIdle = true) (hband : (s.at t).pnl.bandWant = true) :
    execPassStart t s = .next (s.at t).beginBand :=
  congrArg Host.Outcome.next ((ite_not_of_true hidle).trans (if_pos hband))

theorem execPassStart_of_host (hidle : (s.at t).pnlIdle = true) (hband : (s.at t).pnl.bandWant = false)
    (hasked : (s.at t).pnl.want = true ∨ (s.at t).pnl.fromShadow = true) : execPassStart t s = .next (s.at t).hostPass :=
  congrArg Host.Outcome.next
    ((ite_not_of_true hidle).trans ((if_neg (Bool.eq_false_iff.1 hband)).trans (if_pos (Bool.or_eq_true_iff.2 hasked))))

/-- PCOM turns at the end of its half-period, where a change of the band takes effect (R428, R430). -/
theorem execPcomEdge_of_due (hpven : (s.at t).pnl.pven = true) (hcor : (s.at t).corOn = true) (hdue : (s.at t).comDue ≤ (s.at t).now) :
    let u := s.at t
    let com := if u.pnl.pass.isNone then u.pnlCom else u.pnl.com
    let on := decide (com.1 = u.pnl.comF)
    execPcomEdge t s = .next { u with pnl := { u.pnl with
      pcom := !u.pnl.pcom, com := com, comFrom := if on then u.pnl.comFrom else u.comDue
      comN := if on then u.pnl.comN + 1 else 0, comF := com.1 } } :=
  ite_not_of_true (by simp only [hpven, hcor, hdue, decide_true, Bool.and_self])

/-! ### The ramp generator of a node in service (R441–R453) -/

theorem execRampAdvance_of_due (hready : (s.at t).ready = true) (hdue : (s.at t).rmp.advAt < (s.at t).now / 256) :
    execRampAdvance t s = .next ({ s.at t with rmp := { (s.at t).rmp with advAt := (s.at t).now / 256 } } : State).rmpAdvance :=
  congrArg Host.Outcome.next (if_pos (Bool.and_eq_true_iff.2 ⟨hready, decide_eq_true hdue⟩))

theorem execDemandReplan_of_ready (hready : (s.at t).ready = true) :
    execDemandReplan t s = .next (if (s.at t).rmpShown ≠ (s.at t).rmpProfile then (s.at t).rmpReplan else s.at t) :=
  congrArg Host.Outcome.next (if_congr (by rw [hready, Bool.true_and, decide_eq_true_eq]) rfl rfl)

theorem execStpiEdge_of_owned (dirHigh : Bool) (hready : (s.at t).ready = true) (hown : (s.at t).fv P.RMP R.RMP_CFG_own = 2) :
    let u := s.at t
    let up := dirHigh != u.fb P.RMP R.RMP_IN_dir_inv
    let w : Int := (2 ^ u.fv P.RMP R.RMP_IN_wi : Nat)
    execStpiEdge t dirHigh s = .next ({ u with rmp := { u.rmp with input := u.rmp.input + (if up then w else -w) } } : State).rmpReplan :=
  congrArg Host.Outcome.next (if_pos (Bool.and_eq_true_iff.2 ⟨hready, decide_eq_true hown⟩))

theorem execPositionCommit_of_moving (hready : (s.at t).ready = true) (hmoves : (s.at t).rmpMoving = true)
    (hdue : (s.at t).rmp.commitAt + msecs 10 ≤ (s.at t).now) :
    execPositionCommit t s = .next { s.at t with rmp := { (s.at t).rmp with commit := (s.at t).rmpPos, commitAt := (s.at t).now } } :=
  congrArg Host.Outcome.next (if_pos (by simp only [hready, hmoves, hdue, decide_true, Bool.and_self]))

end

/-- Settles O57: each event finds the driver free, its time passed or the node in service, on which alone most events of the ramp generator
depend. -/
theorem panelAndMotionComplete : Obligations.PanelAndMotionComplete := by
  refine ⟨?panel, ?motion⟩
  case panel =>
    intro t upsets shadowUpsets s u com on
    exact ⟨fun hon => ⟨fun hpow hasked hpass hclear => execPanelRewrite_of_shown upsets hon hpow hasked hpass hclear,
        fun hdue => execLineWritten_of_due hon hdue, fun hstate hblink hdue => execBlink_of_due hon hstate hblink hdue,
        fun hpass hverified hdue => execIdleCrcCheck_of_idle upsets shadowUpsets hon hpass hverified hdue⟩,
      fun hstate hkey => execBandPass_of_changed hstate hkey,
      fun hidle => ⟨fun hband => execPassStart_of_band hidle hband, fun hband hasked => execPassStart_of_host hidle hband hasked⟩,
      fun hpven hcor hdue => execPcomEdge_of_due hpven hcor hdue⟩
  case motion =>
    intro t dirHigh s u with_ hready
    exact ⟨fun hdue => execRampAdvance_of_due hready hdue, execDemandReplan_of_ready hready, congrArg Host.Outcome.next (if_pos hready),
      congrArg Host.Outcome.next (if_pos hready), congrArg Host.Outcome.next (if_pos hready), congrArg Host.Outcome.next (if_pos hready),
      fun hown => execStpiEdge_of_owned dirHigh hready hown, fun hmoves hdue => execPositionCommit_of_moving hready hmoves hdue⟩

end Sys2Proof.Machine
end

section
/-! SUPPORT. Events of the safety supervisor (R454–R475) and of the ageing measurement (R476–R484). -/

namespace Sys2Proof.Machine

open Sys2Proof

/-! ### Diagnostics, demands and self-tests (R454–R475) -/

section
variable {t code detail : Nat} {s : State}

theorem execDiagnosticFail_of_found (hcode : code ≤ 13) (hruns : (s.at t).diagRuns code = true)
    (hjudges : (s.at t).diagJudges code detail = true) (hfound : (s.at t).diagFound code detail = true) :
    let u := s.at t
    let w := if code = 4 then u.conv4Fails detail else u
    let w := if code = 6 ∨ code = 7 then w.setFv P.SAF R.SAF_CAUSE_PT_point detail else w
    execDiagnosticFail t code detail s = .next (w.diagFail code detail).safShow :=
  congrArg Host.Outcome.next
    (if_neg (by simp only [hruns, hjudges, hfound, Nat.not_lt.2 hcode, decide_false, Bool.not_true, Bool.or_self]; decide))

/-- A diagnostic with a number of Table 19-2 that runs now is one that DIAGNOSTIC_CLEAR looks at. -/
theorem clearRefused_of_runs (hcode : code ≤ 13) (hruns : (s.at t).diagRuns code = true) :
    ¬(decide (13 < code) || !(s.at t).diagRuns code) = true := by
  simp only [hruns, Nat.not_lt.2 hcode, decide_false, Bool.not_true, Bool.or_self]
  decide

theorem execDiagnosticClear_of_passed (hcode : code ≤ 13) (hruns : (s.at t).diagRuns code = true) (hne : code ≠ 4)
    (hpass : (s.at t).diagPasses code = true) (hdue : (s.at t).saf.failAt.getD code 0 + (s.at t).detectTime code ≤ (s.at t).now) :
    execDiagnosticClear t code detail s = .next ((s.at t).diagClear code) :=
  (if_neg (clearRefused_of_runs hcode hruns)).trans
    ((if_neg hne).trans (if_pos (Bool.and_eq_true_iff.2 ⟨hpass, decide_eq_true hdue⟩)))

/-- A converter's diagnostic clears after four passing checks; code 4 stands while another converter fails (R463). -/
theorem execDiagnosticClear_of_checked (hruns : (s.at t).diagRuns 4 = true) (hdetail : detail < 8)
    (hstood : bitAt (s.at t).saf.conv4 detail = true) (hchecked : 4 ≤ (s.at t).saf.checkPasses.getD detail 0) :
    let w := (s.at t).conv4Clears detail
    execDiagnosticClear t 4 detail s = .next (if w.saf.conv4 = 0 then w.diagClear 4 else w) :=
  (if_neg (clearRefused_of_runs (by decide) hruns)).trans ((if_pos rfl).trans (if_pos ⟨hdetail, hstood, hchecked⟩))

theorem execSafetyDemand_of_low {low : Nat} (hjudged : (s.at t).demJudged = true) (hnone : (s.at t).fb P.SAF R.SAF_STAT_demand = false)
    (hlasts : (s.at t).demLasts low = true) :
    let w : State := { s.at t with saf := { (s.at t).saf with lowAt := some (s.at t).now } }
    execSafetyDemand t low s =
      .next ((((w.setFv P.SAF R.SAF_STAT_demand 1).satInc P.SAF R.SAF_CNT_demands 1).irq P.SAF 2).safCause true 2 0 0) :=
  if_neg (fun hrefused => by
    have hclear : (!(s.at t).demJudged || (s.at t).fb P.SAF R.SAF_STAT_demand || !(s.at t).demLasts low) = true := hrefused
    rw [hjudged, hnone, hlasts] at hclear
    exact absurd hclear (by decide))

theorem execDemandClear_of_high {high : Nat} (hjudged : (s.at t).demJudged = true) (hlasts : (s.at t).demLasts high = true) :
    execDemandClear t high s =
      .next (({ s.at t with saf := { (s.at t).saf with lowAt := none } } : State).setFv P.SAF R.SAF_STAT_demand 0) :=
  congrArg Host.Outcome.next (if_pos (Bool.and_eq_true_iff.2 ⟨hjudged, hlasts⟩))

theorem execStDue_of_hours (hready : (s.at t).ready = true) (hhours : 720 ≤ (s.at t).stHours)
    (hnone : (s.at t).fb P.SAF R.SAF_STAT_st_due = false) :
    execStDue t s = .next (((s.at t).setFv P.SAF R.SAF_STAT_st_due 1).irq P.SAF 6).safShow :=
  if_pos (by simp only [hready, hhours, hnone, decide_true, Bool.not_false, Bool.and_self])

theorem execAutoSelftest_of_due (failed : Nat) (hready : (s.at t).ready = true) (hauto : (s.at t).fb P.SAF R.SAF_CFG_auto_st = true)
    (hfree : (s.at t).tly.out.all (fun y => !(decide (y.op = 0x50) && y.running && y.outcome.isNone)) = true)
    (hdue : secs 86400 ≤ (s.at t).opSteps - (s.at t).saf.autoBase) :
    execAutoSelftest t failed s =
      .next (({ s.at t with saf := { (s.at t).saf with autoBase := (s.at t).opSteps } } : State).selftestEnds 0x7F failed) :=
  if_pos (by simp only [hready, hauto, hfree, hdue, decide_true, Bool.and_self])

end

/-! ### Monitor passes, plans and offset steps (R476–R484) -/

section
variable {t k d : Nat} {p : AgePlan} {s : State}

theorem execMonitorPass_of_due (m : MonitorInput) (hready : (s.at t).ready = true) (hstate : (s.at t).pstate < 2)
    (hdue : (s.at t).age.runPass.any (fun n => decide ((s.at t).runSteps < n + secs 60)) = false) :
    let u := s.at t
    let w := ({ u with age := { u.age with runPass := some u.runSteps } } : State)
    let w := ((List.range 12).foldl (fun (w : State) d => w.measureDomain m d) w).watchRelax m
    let w := w.setFv P.AGE R.AGE_XTAL_drift (uext 16 (iclip (-32768) 32767 (Q.round (Q.make w.xtalDrift 10))))
    let low := (List.range 12).any (fun d => w.domainOn d && w.compBelow d (w.fv P.AGE R.AGE_CFG_urgent))
    execMonitorPass t m s = .next
      (if low && w.age.plan.isNone then ({ w with age := { w.age with due := some 1 } } : State) else w).showLowest :=
  by
  have hgoes : ¬(!(s.at t).ready || decide (2 ≤ (s.at t).pstate) ||
      (s.at t).age.runPass.any (fun n => decide ((s.at t).runSteps < n + secs 60))) = true := by
    simp only [hready, hdue, Nat.not_le.2 hstate, decide_false, Bool.not_true, Bool.or_self]
    decide
  simp only [execMonitorPass, if_neg hgoes]

theorem execPlanDue_of_due (hready : (s.at t).ready = true) (hauto : (s.at t).fb P.AGE R.AGE_CFG_auto = true)
    (hdue : secs 3600 * (s.at t).fv P.AGE R.AGE_CFG_interval ≤ (s.at t).runSteps - (s.at t).age.runPlan) :
    let u := s.at t
    execPlanDue t s = .next ({ u with age := { u.age with runPlan := u.runSteps, due := some (u.age.due.getD 0) } } : State) :=
  if_pos (by simp only [hready, hauto, hdue, decide_true, Bool.and_self])

theorem execPlan_of_free (hplan : (s.at t).age.due = some k) (hready : (s.at t).ready = true) (hstate : (s.at t).pstate ≤ 1)
    (hfree : (s.at t).marginFree = true) :
    let u := s.at t
    execPlan t s = .next (({ u with age := { u.age with due := none } } : State).planStarts k 0 (u.fb P.AGE R.AGE_CFG_apply)) := by
  simp only [execPlan, hplan]
  exact if_pos (by simp only [hready, hstate, hfree, decide_true, Bool.and_self])

/-- A settled step of a domain that has lost its supply is done; else it is done where its completion margin has reached its target + 5 %,
and is raised further where it has not (R479, Table 20-3). -/
theorem execOffsetStepSettled_of_settled (completion : Q) (hplan : (s.at t).planLate.age.plan = some p) (hdom : p.dom = some d)
    (hdue : p.stepAt + secs 1 ≤ (s.at t).planLate.now) :
    let v := (s.at t).planLate
    let c := linearMargin (Q.frac 1 2) Q.one completion
    let w := ({ v with age := { v.age with comp := v.age.comp.set d (some c), gains := v.age.gains.set d (some (Q.sub c p.before)) } } : State)
    let w := w.showMargin d
    execOffsetStepSettled t completion s = .next
      (if !v.domainOn d then (v.setPlan (some (p.finish d))).planGoes
       else if w.compBelow d (w.fv P.AGE R.AGE_CFG_target + 5) then (w.raiseOffset { p with dom := none } d).planGoes
       else (w.setPlan (some (p.finish d))).planGoes) := by
  simp only [execOffsetStepSettled, hplan, hdom, if_neg (Nat.not_lt.2 hdue), apply_ite Host.Outcome.next]

end

/-- Settles O58: the supervisor's events and those of the ageing measurement, one lemma each. -/
theorem supervisorAndAgeingComplete : Obligations.SupervisorAndAgeingComplete := by
  refine ⟨fun t code detail failed low high s => ⟨execDiagnosticFail_of_found, fun hcode hruns =>
      ⟨execDiagnosticClear_of_passed hcode hruns, ?_⟩, execSafetyDemand_of_low, execDemandClear_of_high, execStDue_of_hours,
      execAutoSelftest_of_due failed⟩,
    fun t k d m completion s p => ⟨execMonitorPass_of_due m, execPlanDue_of_due, execPlan_of_free,
      execOffsetStepSettled_of_settled completion⟩⟩
  rintro rfl
  exact execDiagnosticClear_of_checked hruns

end Sys2Proof.Machine
end

section
/-! SUPPORT. KEY_OP on arguments that it accepts (R490–R492, Table 21-4). -/

namespace Sys2Proof.Machine

open Sys2Proof

section
variable {t n : Nat} {s : State} {x : Tally} {k : List Byte}

/-- INSTALL with a slot and an operand that it accepts ends by what reading the operand finds. -/
theorem execInstall_of_operand (ecc : EccFinds) (htally : (s.at t).keyTally n 1 = some x) (hfn : x.arg 0 = 1)
    (hmay : (s.at t).maintains x.port = true) (hpos : 0 < x.arg 1) (hslot : x.arg 1 ≤ 3)
    (hkey : (s.at t).keyOperand (x.arg 2) 64 = some k) :
    let v := (s.at t).eccFinds ecc
    execInstall t n ecc s =
      if v.anyPoison (x.arg 2) 64 then .next (v.tallyEnds n 3 6 0 0)
      else if !onCurve (beNat (k.take 32)) (beNat (k.drop 32)) then .next (v.keyBad n)
      else .next ((({ v with sec := { v.sec with keys := SMap.insert v.sec.keys (x.arg 1) k } } : State).secEvent 4).keyDone n (x.arg 1)) := by
  have hvalid : ¬(x.arg 1 = 0 ∨ 3 < x.arg 1) := by omega
  simp only [execInstall, htally, hkey]
  exact (if_neg (not_not.2 hfn)).trans ((ite_not_of_true hmay).trans (if_neg hvalid))

theorem execInstall_of_poison {ecc : EccFinds} (htally : (s.at t).keyTally n 1 = some x) (hfn : x.arg 0 = 1)
    (hmay : (s.at t).maintains x.port = true) (hpos : 0 < x.arg 1) (hslot : x.arg 1 ≤ 3)
    (hkey : (s.at t).keyOperand (x.arg 2) 64 = some k) (hpoison : ((s.at t).eccFinds ecc).anyPoison (x.arg 2) 64 = true) :
    execInstall t n ecc s = .next (((s.at t).eccFinds ecc).tallyEnds n 3 6 0 0) :=
  (execInstall_of_operand ecc htally hfn hmay hpos hslot hkey).trans (if_pos hpoison)

theorem execInstall_of_onCurve {ecc : EccFinds} (htally : (s.at t).keyTally n 1 = some x) (hfn : x.arg 0 = 1)
    (hmay : (s.at t).maintains x.port = true) (hpos : 0 < x.arg 1) (hslot : x.arg 1 ≤ 3)
    (hkey : (s.at t).keyOperand (x.arg 2) 64 = some k) (hread : ((s.at t).eccFinds ecc).anyPoison (x.arg 2) 64 = false)
    (hcurve : onCurve (beNat (k.take 32)) (beNat (k.drop 32)) = true) :
    let v := (s.at t).eccFinds ecc
    execInstall t n ecc s =
      .next ((({ v with sec := { v.sec with keys := SMap.insert v.sec.keys (x.arg 1) k } } : State).secEvent 4).keyDone n (x.arg 1)) :=
  (execInstall_of_operand ecc htally hfn hmay hpos hslot hkey).trans
    ((if_neg (Bool.eq_false_iff.1 hread)).trans (ite_not_of_true hcurve))

/-- REVOKE of a slot that is not the last filled one of a SEALED node. -/
theorem execRevoke_of_slot (htally : (s.at t).keyTally n 2 = some x) (hfn : x.arg 0 = 2) (hmay : (s.at t).maintains x.port = true)
    (hpos : 0 < x.arg 1) (hslot : x.arg 1 ≤ 3) (hlast : ¬((s.at t).life = 2 ∧ (s.at t).filledSlots = [x.arg 1])) :
    let u := s.at t
    execRevoke t n s =
      .next ((({ u with sec := { u.sec with keys := SMap.erase u.sec.keys (x.arg 1) } } : State).secEvent 4).keyDone n (x.arg 1)) := by
  have hvalid : ¬(x.arg 1 = 0 ∨ 3 < x.arg 1) := by omega
  simp only [execRevoke, htally]
  exact (if_neg (not_not.2 hfn)).trans ((ite_not_of_true hmay).trans ((if_neg hvalid).trans (if_neg hlast)))

/-- AES before SEALED with an operand that it accepts ends by what reading the operand finds. -/
theorem execAes_of_operand (ecc : EccFinds) (htally : (s.at t).keyTally n 3 = some x) (hfn : x.arg 0 = 3) (hlife : (s.at t).life < 2)
    (hkey : (s.at t).keyOperand (x.arg 1) 32 = some k) :
    let v := (s.at t).eccFinds ecc
    let w := v.wrBytes (x.arg 1) (List.replicate 32 0#8)
    execAes t n ecc s =
      if v.anyPoison (x.arg 1) 32 then .next (v.tallyEnds n 3 6 0 0)
      else .next (({ w with sec := { w.sec with aes := some k } } : State).keyDone n 0) := by
  simp only [execAes, htally, hkey]
  exact (if_neg (not_not.2 hfn)).trans (if_neg (Nat.not_le.2 hlife))

/-- ADVANCE to SCRAPPED. -/
theorem execAdvance_of_scrap (htally : (s.at t).keyTally n 4 = some x) (hfn : x.arg 0 = 4) (hlife : (s.at t).life ≠ 3)
    (hmagic : x.arg 2 = 0x4C494645) (hscrap : x.arg 1 = 3) (hmay : (s.at t).maintains x.port = true) :
    execAdvance t n s = .next ((((s.at t).advanceTo 3).secEvent 3).keyDone n 3) := by
  simp only [execAdvance, htally]
  exact (if_neg (not_not.2 hfn)).trans
    ((if_neg hlife).trans ((if_neg (not_not.2 hmagic)).trans ((if_pos hscrap).trans (ite_not_of_true hmay))))

/-- ADVANCE by one stage: with a key to leave the factory, with no standing mode to be sealed (R491, R512). -/
theorem execAdvance_of_stage (htally : (s.at t).keyTally n 4 = some x) (hfn : x.arg 0 = 4) (hlife : (s.at t).life ≠ 3)
    (hmagic : x.arg 2 = 0x4C494645) (hstage : x.arg 1 ≠ 3) (hnext : x.arg 1 = (s.at t).life + 1)
    (hkeys : ¬(x.arg 1 = 1 ∧ (s.at t).filledSlots = [])) (hfree : ¬(x.arg 1 = 2 ∧ (s.at t).standingMode = true)) :
    execAdvance t n s = .next ((((s.at t).advanceTo (x.arg 1)).secEvent 3).keyDone n (x.arg 1)) := by
  simp only [execAdvance, htally]
  exact (if_neg (not_not.2 hfn)).trans ((if_neg hlife).trans ((if_neg (not_not.2 hmagic)).trans ((if_neg hstage).trans
    ((if_neg (not_not.2 hnext)).trans ((if_neg hkeys).trans (if_neg hfree))))))

end

/-- Settles O44: INSTALL and AES end by what reading their operand finds, REVOKE and ADVANCE by their arguments alone. -/
theorem keyOperationsComplete : Obligations.KeyOperationsComplete := by
  intro t n ecc s x k u v
  refine ⟨?install, execRevoke_of_slot, ?aes, ?advance⟩
  case install =>
    exact fun htally hfn hmay hpos hslot hkey =>
      ⟨execInstall_of_poison htally hfn hmay hpos hslot hkey, execInstall_of_onCurve htally hfn hmay hpos hslot hkey⟩
  case aes =>
    intro htally hfn hlife hkey w
    have hends := execAes_of_operand ecc htally hfn hlife hkey
    exact ⟨fun hpoison => hends.trans (if_pos hpoison), fun hread => hends.trans (if_neg (Bool.eq_false_iff.1 hread))⟩
  case advance =>
    exact fun htally hfn hlife hmagic =>
      ⟨execAdvance_of_scrap htally hfn hlife hmagic, execAdvance_of_stage htally hfn hlife hmagic⟩

end Sys2Proof.Machine
end

section
/-! SUPPORT. Events of sessions, tamper and the power states (R486–R489, R497–R502). -/

namespace Sys2Proof.Machine

open Sys2Proof

/-! ### Sessions, lockout and the trapdoor of a core that is on (R497–R502) -/

section
variable {t : Nat} {s : State} {r : OpenReq} {rest : List OpenReq}

/-- The decision opens the session, which a tamper event of the same stamp closes again (R513), or counts a failure and locks out. -/
theorem execSessionDecision_of_request (hcor : (s.at t).corOn = true) (hopens : (s.at t).sec.opens = r :: rest) :
    let u := s.at t
    let w := ({ u with sec := { u.sec with opens := rest } } : State)
    let x := (w.setFv P.SEC (levelField r.port) r.level).setSecPort r.port { w.secPort r.port with opened := w.now }
    let x := (x.setFv P.SEC R.SEC_STAT_fails 0).setFv P.SEC R.SEC_STAT_lockout 0
    let z := (if r.port = .trapdoor then x.setFv P.DBG R.DBG_STAT_session 1 else x).irq P.SEC 5
    let y := w.satInc P.SEC R.SEC_STAT_fails 1
    let y := ({ y with sec := { y.sec with lockUntil := y.now + secs (Nat.min 3600 (10 * 2 ^ (y.fv P.SEC R.SEC_STAT_fails - 1))) } } : State)
    execSessionDecision t s = .next
      (if w.opens r then (if z.sec.tampAt = some z.now then z.closeSession r.port else z)
       else (y.setFv P.SEC R.SEC_STAT_lockout 1).secEvent 1) := by
  have hgoes : ¬(!(s.at t).corOn) = true := by
    rw [hcor]
    decide
  simp only [execSessionDecision, hopens, if_neg hgoes, apply_ite Host.Outcome.next]

theorem execSessionExpiry_of_corOn (hcor : (s.at t).corOn = true) :
    execSessionExpiry t s = .next (((s.at t).expireSession .host).expireSession .trapdoor) :=
  congrArg Host.Outcome.next (if_pos hcor)

theorem execLockoutEnd_of_due (hcor : (s.at t).corOn = true) (hdue : (s.at t).sec.lockUntil ≤ (s.at t).now) :
    execLockoutEnd t s = .next ((s.at t).setFv P.SEC R.SEC_STAT_lockout 0) :=
  congrArg Host.Outcome.next (if_pos (Bool.and_eq_true_iff.2 ⟨hcor, decide_eq_true hdue⟩))

theorem execTrapdoorSessionEnd_of_low (hcor : (s.at t).corOn = true)
    (hlow : (s.at t).sec.tdenLow.any (fun x => decide (x + secs 1 ≤ (s.at t).now)) = true) :
    execTrapdoorSessionEnd t s = .next ((s.at t).closeSession .trapdoor) :=
  congrArg Host.Outcome.next (if_pos (Bool.and_eq_true_iff.2 ⟨hcor, hlow⟩))

theorem execTdenRising_of_corOn (hcor : (s.at t).corOn = true) : execTdenRising t s = .next ((s.at t).tdenRises.wakeSource 5) :=
  congrArg Host.Outcome.next (if_pos hcor)

theorem execTamperEvent_of_watched {input : Fin 2} {live : Nat} :
    let w := (s.at t).setFv P.SEC R.SEC_STAT_tamp_live live
    w.tamperOn input.val = true → execTamperEvent t input live s = .next ((w.tamper input.val).wakeSource 6) :=
  fun hwatched => congrArg Host.Outcome.next (if_pos hwatched)

end

/-! ### DORMANT (R486–R489) -/

section
variable {t stamp bit : Nat} {s : State}

/-- The node as it lies in DORMANT, before the wake or the request that waits for it (R486 steps 2 to 6). -/
def State.dormant (u : State) : State :=
  let w := u.bandRest.canSleep.portBOff
  let w := ({ w with dio := { w.dio with hold := bitsOf 8 w.doCommand } } : State)
  let w := (w.sacStop.setFv P.SYS R.SYS_STATE_pstate 2).termShow
  let w := (w.dynStopped.spxStopped.calCounting false).ageCount false true
  ({ w with pwr := { w.pwr with busy := false, stopAt := w.now } } : State).linksLosePower.rmpReplan.pstateChanged

/-- What follows the entry: a wake stamped before it, or else the request held (R488). -/
def State.afterDormant (w : State) : State :=
  match w.pwr.earlyWake with
  | some x => w.wakeStamp x.1 x.2
  | none => w.heldRequest

theorem execDormantEntry_of_idle (hready : (s.at t).ready = true) (hbusy : (s.at t).pwr.busy = true)
    (holc : (s.at t).fv P.FBE R.FBE_STAT_olc = 0) (hidle : (s.at t).fbe.tasks.any (fun x => x.cycle.isSome) = false) :
    execDormantEntry t s = .next (s.at t).dormant.afterDormant := by
  have hgoes : ¬(!(s.at t).ready || !(s.at t).pwr.busy || decide ((s.at t).fv P.FBE R.FBE_STAT_olc ≠ 0) ||
      (s.at t).fbe.tasks.any (fun x => x.cycle.isSome)) = true := by
    rw [hready, hbusy, holc, hidle]
    decide
  refine (if_neg hgoes).trans ?_
  show (match (s.at t).dormant.pwr.earlyWake with
    | some w => Host.Outcome.next ((s.at t).dormant.wakeStamp w.1 w.2)
    | none => .next (s.at t).dormant.heldRequest) = _
  unfold State.afterDormant
  cases (s.at t).dormant.pwr.earlyWake <;> rfl

theorem execWakeFromDormant_of_stamped (hready : (s.at t).ready = true) (hstate : (s.at t).pstate = 2)
    (hwake : (s.at t).pwr.earlyWake = some (stamp, bit)) :
    let u := s.at t
    let target := if bit = 0 then u.pwr.wakeTo else u.fv P.SYS R.SYS_PWR_wake_to
    let w := ({ u with pwr := { u.pwr with earlyWake := none } } : State)
    let w := ((w.setFv P.SYS R.SYS_STATE_pstate target).setFv P.SYS R.SYS_PWR_req target).awaken
    let w := if w.fb (P.CAN 0) R.CAN_CTRL_sleep then w else w.canWakeUp
    let w := (w.canStart 1 (decide (w.canState 1 = 4))).rmpReplan
    let w := (w.setFv P.SYS R.SYS_START_cause 2).setFv P.SYS R.SYS_START_clean 1
    let w := (w.setFv P.SYS R.SYS_START_panel_rewrite 1).setFv P.SYS R.SYS_START_pfw_hold 0
    execWakeFromDormant t s =
      .next (w.setFv P.SYS R.SYS_T_READY_t_ready (Nat.min 0xFFFFFF (w.now - stamp))).pstateChanged.heldRequest := by
  have hgoes : ¬(!(s.at t).ready || decide ((s.at t).pstate ≠ 2)) = true := by
    rw [hready, hstate]
    decide
  simp only [execWakeFromDormant, hwake, if_neg hgoes]

end

/-- Settles O59: the events of sessions act while the core is on, those of DORMANT in a node in service; a nonce expires in any state. -/
theorem securityAndModesComplete : Obligations.SecurityAndModesComplete := by
  intro t live stamp bit input s r rest u
  exact ⟨fun hcor => ⟨execSessionDecision_of_request hcor, execSessionExpiry_of_corOn hcor, execLockoutEnd_of_due hcor,
      execTrapdoorSessionEnd_of_low hcor, execTdenRising_of_corOn hcor⟩,
    rfl, execTamperEvent_of_watched,
    fun hready => ⟨execDormantEntry_of_idle hready, execWakeFromDormant_of_stamped hready⟩⟩

end Sys2Proof.Machine
end

section
/-! SUPPORT. Link tests (R516–R521). -/

namespace Sys2Proof.Machine

open Sys2Proof

section
variable {t sent : Nat} {flips : List Nat} {s : State}

/-- A launched test starts, but one of link 7 whose converter calibrates waits (R520). -/
theorem execLinkTestStart_of_launched (hstate : (s.at t).fv P.LNK R.LNK_STAT_state = 1) (hcor : (s.at t).corOn = true)
    (hfree : ¬((s.at t).fv P.LNK R.LNK_STAT_link = 7 ∧ ((s.at t).cv (s.at t).lnk.inst).cal.isSome = true)) :
    let u := s.at t
    let n := (prbsOf (u.fv P.LNK R.LNK_CFG_pat)).1
    let w := ({ u.draw.2 with lnk := { u.draw.2.lnk with gen := u.draw.1.toNat % (2 ^ n - 1) + 1 } } : State)
    let w := (w.setFv P.LNK R.LNK_STAT_state 2).setStamp P.LNK R.LNK_T_LO_t R.LNK_T_HI_t w.now
    execLinkTestStart t s = .next (w.linkTaken (u.fv P.LNK R.LNK_STAT_link)) := by
  have hgoes : ¬((s.at t).fv P.LNK R.LNK_STAT_state ≠ 1 ∨ (!(s.at t).corOn) = true ∨
      ((s.at t).fv P.LNK R.LNK_STAT_link = 7 ∧ ((s.at t).cv (s.at t).lnk.inst).cal.isSome = true)) := by
    rintro (hwaits | hoff | htaken)
    · exact hwaits hstate
    · rw [hcor] at hoff
      exact absurd hoff (by decide)
    · exact hfree htaken
  simp only [execLinkTestStart, if_neg hgoes]

theorem execLinkTestEnd_of_due (hcor : (s.at t).corOn = true) (hruns : (s.at t).lnkRuns = true)
    (hdur : (s.at t).fv P.LNK R.LNK_DUR_dur ≠ 0)
    (hdue : (s.at t).stamp P.LNK R.LNK_T_LO_t R.LNK_T_HI_t + msecs ((s.at t).fv P.LNK R.LNK_DUR_dur) ≤ (s.at t).now) :
    execLinkTestEnd t sent flips s = .next (((s.at t).lnkCarry sent flips).linkEnds 0 0) :=
  if_pos (by simp only [hcor, hruns, decide_eq_true hdur, decide_eq_true hdue, Bool.and_self])

end

/-- Settles O60: a launched test starts once its link is free, and ends once its duration has passed. -/
theorem linkTestsComplete : Obligations.LinkTestsComplete :=
  fun _ _ _ _ => ⟨execLinkTestStart_of_launched, execLinkTestEnd_of_due⟩

end Sys2Proof.Machine
end
